-- ==== Sys2Proof/Word.lean ====
section
/-!
DEFINITION. The plainest types of the model: bytes, device time, the two carriers and sparse tables.
-/
namespace Sys2Proof

/-- One byte (01_talnis_3200_at_a_glance R6). -/
abbrev Byte := BitVec 8

/-- An instant or a span of device time, in units of 2⁻¹⁶ ns
(12_time_transfer_and_delay_calibration R513: 48-bit seconds, nanoseconds and 2⁻¹⁶ ns). -/
abbrev Time := Nat

/-- One of the two line carriers (01_talnis_3200_at_a_glance, block diagram). -/
inductive Carrier where
  | a | b
  deriving DecidableEq, Repr

/-- Two values of one kind: carriers A and B, key slots 0 and 1, inputs XI0 and XI1. -/
structure Two (α : Type) where
  /-- the first (carrier A, slot 0) -/
  a : α
  /-- the second (carrier B, slot 1) -/
  b : α
  deriving DecidableEq, Repr

/-- A table by number, sparse: pairs with keys strictly rising, and no pair whose value is the table's
default at its key. The default of a table is given with each use. -/
abbrev Tab (α : Type) := List (Nat × α)

end Sys2Proof
end

