-- ==== Sys2Proof/Plan.lean ====
section
/-!
DEFINITION. What an Accord gives the device (02_accords_and_loop_engines, Precomputation): the decoded contents of
its sections. The planner's image format below its header is not in the spec, so the contents come as one record
with the event that ends verification (log 10).
-/
namespace Sys2Proof

/-- Limits and default of one run-time setting (R46). -/
structure Limit where
  /-- the setting: its key (opcode, target, selector, offset) -/
  key : Nat := 0
  /-- minimum -/
  lo : Int := 0
  /-- maximum -/
  hi : Int := 0
  /-- default -/
  dflt : Int := 0
  deriving DecidableEq, Repr

/-- Partition of an Accord (02_accords_and_loop_engines). -/
inductive Part where
  | dev | car (c : Carrier)
  deriving DecidableEq, Repr

/-- When a slot of an engine's schedule runs (R85). -/
inductive Period where
  | everyTick
  | slowTick (k : Nat)
  | epochTick (k : Nat)
  | txSuperframe (c : Carrier)
  | rxSuperframe (c : Carrier)
  deriving DecidableEq, Repr

/-- One slot of an engine's schedule (R84). -/
structure Slot where
  /-- engine 0 to 95 -/
  engine : Nat := 0
  /-- slot number in the engine's schedule, 0 to 31 -/
  slot : Nat := 0
  /-- start cycle -/
  start : Nat := 0
  /-- budget in cycles -/
  budget : Nat := 0
  /-- period -/
  period : Period := .everyTick
  deriving DecidableEq, Repr

/-- One coefficient table (R31, R78, R88). -/
structure TablePlan where
  /-- table number -/
  table : Nat := 0
  /-- owning engine -/
  owner : Nat := 0
  /-- partition -/
  part : Part := .dev
  /-- receive-side table: it switches under R74 -/
  rx : Bool := false
  /-- marked continued (R78) -/
  continued : Bool := false
  /-- initial value -/
  init : Nat := 0
  deriving DecidableEq, Repr

/-- What an Accord gives one carrier: its line mode and its shapes (04, 05, 06). -/
structure ModePlan where
  /-- native mode; otherwise a ZR mode -/
  native : Bool := true
  /-- slices n of the full format -/
  n : Nat := 4
  /-- slices of the bring-up format, 0 where the mode has none (R155) -/
  nBringUp : Nat := 4
  /-- OTUCn of a pass-through carrier arrives on host FlexO lanes -/
  passThrough : Bool := false
  /-- symbol rate, symbols per second -/
  rs : Nat := 0
  /-- symbols per superframe S, 0 in a ZR mode (R148) -/
  symbols : Nat := 0
  /-- FEC: 0 F25, 1 F20, 2 F14, 3 C, 4 O (Table 22-13) -/
  fec : Nat := 0
  /-- iterations I -/
  iters : Nat := 0
  /-- interleave group size -/
  group : Nat := 0
  /-- inner codewords C of a superframe (R246) -/
  coded : Nat := 0
  /-- FEC latency, 2⁻¹⁶ ns -/
  fecLatency : Nat := 0
  /-- calendar slots per period assigned to the carrier -/
  slots : Nat := 0
  /-- pre-emphasis taps (R164) -/
  taps : Nat := 64
  /-- main tap of the pre-emphasis filter -/
  mainTap : Nat := 0
  /-- the Accord uses the line cipher of the carrier -/
  crypt : Bool := false
  /-- symbols of the equaliser's integration, for the typical CD search -/
  eqTaps : Nat := 7
  /-- fixed digital delays: transmit and receive, 2⁻¹⁶ ns (R519 to R521) -/
  dTx : Int := 0
  /-- receive part -/
  dRx : Int := 0
  /-- OSTC receive delay (R457), 2⁻¹⁶ ns -/
  dOstc : Int := 0
  /-- converter rate, MS/s (R99) -/
  convRate : Nat := 0
  /-- LLRs that reach the decoder in a second -/
  llrRate : Nat := 0
  deriving DecidableEq, Repr

/-- One member of a line group (08_tributaries_groups_protection R358). -/
structure GroupMember where
  /-- member index, 0 to 7 -/
  index : Nat := 0
  /-- stack member that carries it -/
  stack : Nat := 0
  /-- carrier of that device -/
  carrier : Carrier := .a
  /-- slices n_i -/
  n : Nat := 1
  /-- number of its first slice -/
  first : Nat := 1
  deriving DecidableEq, Repr

/-- One line group (08_tributaries_groups_protection R358). -/
structure GroupPlan where
  /-- group number, 0 to 15 -/
  group : Nat := 0
  /-- slices n of the group -/
  n : Nat := 0
  /-- members -/
  members : List GroupMember := []
  /-- group signature -/
  sig : Nat := 0
  /-- superframe period, 2⁻¹⁶ ns -/
  period : Nat := 0
  deriving DecidableEq, Repr

/-- One client of the host lanes (08_tributaries_groups_protection Table 8-1). -/
structure ClientPlan where
  /-- first host lane -/
  lane : Nat := 0
  /-- number of host lanes -/
  lanes : Nat := 1
  /-- an Ethernet client; otherwise FlexO -/
  eth : Bool := true
  /-- client rate in Gbit/s × 100 -/
  rate : Nat := 0
  /-- line it is mapped into: 0 carrier A, 1 carrier B, 2 + g group g -/
  line : Nat := 0
  /-- its tributary -/
  trib : Nat := 0
  /-- row of Table 8-1, 0 to 5 -/
  kind : Nat := 0
  /-- its global slots -/
  slots : List Nat := []
  /-- priority tributary -/
  priority : Bool := false
  /-- expected payload type of its PSI (R353) -/
  payload : Nat := 0
  deriving DecidableEq, Repr

/-- The definition of a sensing channel (13_line_sensing_chain R556). -/
structure SensePlan where
  /-- channel -/
  ch : Nat := 0
  /-- input code of Table 13-1 -/
  code : Nat := 0
  /-- CIC order N -/
  n : Nat := 1
  /-- CIC decimation M -/
  m : Nat := 2
  /-- half-band decimators H -/
  h : Nat := 0
  /-- FIR decimation F -/
  f : Nat := 1
  /-- FIR coefficients, Q1.13, all L of them -/
  coefs : List Int := []
  /-- the FIR is symmetric -/
  sym : Bool := true
  /-- `rate_max`, × 0.1 S/s -/
  rateMax : Nat := 0
  deriving DecidableEq, Repr

/-- What an Accord gives the device. -/
structure Plan where
  /-- limits and defaults of run-time settings; a setting not listed has those of its layout row -/
  limits : List Limit := []
  /-- values of Accord-fixed settings by key; a setting not listed has the value 0 (R45) -/
  fixed : Tab Int := []
  /-- the modes of carriers A and B, none where the Accord gives the carrier no mode -/
  modes : Two (Option ModePlan) := ⟨none, none⟩
  /-- engine schedules (R84) -/
  slots : List Slot := []
  /-- coefficient tables -/
  tables : List TablePlan := []
  /-- line groups -/
  groups : List GroupPlan := []
  /-- clients of the host lanes: the tributary map (R351) -/
  clients : List ClientPlan := []
  /-- group number and signature of the merge pair (R361, R372) -/
  merge : Nat × Nat := (0xFFFF, 0)
  /-- lines of the working and of the protection tributary of a tributary-level scheme, by scheme -/
  protLines : Tab (Nat × Nat) := []
  /-- sensing channels (R556) -/
  sense : List SensePlan := []
  /-- LDPC cores of the decoder-pool calendar: core, slots per period of carriers A and B (R258) -/
  cores : List (Nat × Nat × Nat) := []
  /-- reserved bandwidth of the six classes of Table 14-3, MB/s; the fifth is `cap_bw` (R588) -/
  bw : List Nat := []
  /-- the planner's report (R98) -/
  report : List Byte := []
  deriving DecidableEq, Repr
end Sys2Proof
end

