-- ==== Sys2Proof/Terms.lean ====
section
/-!
DEFINITION. The records that both the state and the commands hold: a mailbox request, the contents of an
Accord, and the records that travel between devices. Byte layouts are read and written by the operations.
-/
namespace Sys2Proof

/-- A mailbox request as the checks see it (22_command_reference Table 22-1): the opcode is given by the command. -/
structure Req where
  /-- mailbox it arrived on, 0 to 3; 4 is the proxy mailbox (17_stack_bus_and_stacking R686) -/
  mb : Fin 5 := 0
  /-- `seq` -/
  seq : BitVec 16 := 0
  /-- `flags`: bit 0 READBACK, bits 7 to 1 reserved -/
  flags : Byte := 0
  /-- reserved header byte 7 -/
  rsv7 : Byte := 0
  /-- `member` -/
  member : Byte := 0xFF
  /-- `kind`: 0 device, 1 carrier, 2 line group -/
  kind : Byte := 0
  /-- `index` -/
  index : Byte := 0
  /-- reserved header byte 11 -/
  rsv11 : Byte := 0
  /-- parameter bytes, from byte 16 of the request -/
  params : List Byte := []
  deriving DecidableEq, Repr

/-- Reset domains (18_clocks_resets_power Table 18-6), in its order. -/
inductive Domain where
  | por | device | mgmt | carrierA | carrierB | lg (k : Fin 8) | sb (n : Fin 4) | dram | crypto | timing
  deriving DecidableEq, Repr

/-- Status codes (22_command_reference Table 22-3), in the order of their values. -/
inductive Status where
  | ok | busy | badOpcode | badLength | badParam | blockOff | notPermitted | denied | noResource
  | accordFixed | timeout | stackUnreachable | crcError | pending
  deriving DecidableEq, Repr

/-- One write of a coefficient shadow table by an engine (02_accords_and_loop_engines R31, R88). -/
structure ShadowWrite where
  /-- table number -/
  table : Nat := 0
  /-- value written -/
  value : Nat := 0
  deriving DecidableEq, Repr

/-- Agreement record (05_receive_path Table 5-7). -/
structure AgreeRec where
  /-- `kind`: 0 none, 1 STAGE, 2 ACCORD, 3 REVERT -/
  kind : Nat := 0
  /-- `verb`: 0 PROPOSE, 1 ACK, 2 NACK -/
  verb : Nat := 0
  /-- `seq` -/
  seq : Nat := 0
  /-- `rx_state` -/
  rxState : Nat := 0
  /-- `count_out` -/
  countOut : Nat := 0
  /-- `count_back` -/
  countBack : Nat := 0
  /-- `nonce` -/
  nonce : Nat := 0
  deriving DecidableEq, Repr

/-- Receive monitors (05_receive_path Table 5-5), as the carrier's engines report them. -/
structure RxMonitor where
  /-- `snr_x`, × 0.01 dB -/
  snrX : Nat := 0
  /-- `snr_y`, × 0.01 dB -/
  snrY : Nat := 0
  /-- `dgd`, × 0.1 ps -/
  dgd : Nat := 0
  /-- `sop_rate`, krad/s -/
  sopRate : Nat := 0
  /-- `freq_off`, kHz -/
  freqOff : Int := 0
  /-- `pwr[0..3]`, × 0.01 dBFS -/
  pwr : List Int := [0, 0, 0, 0]
  /-- `centroid`, × 1/256 sample -/
  centroid : Int := 0
  /-- `clk_phase`, 2⁻¹⁶ ns -/
  clkPhase : Int := 0
  deriving DecidableEq, Repr

/-- One overhead frame of an OHP port (07_line_framing_and_defects Table 7-8). -/
structure OhFrame where
  /-- `INVALID`: a slice is OOF -/
  invalid : Bool := false
  /-- `mfas` -/
  mfas : Nat := 0
  /-- `n`, slices -/
  n : Nat := 0
  /-- `xsf` -/
  xsf : Nat := 0
  /-- `oof_map` -/
  oofMap : BitVec 16 := 0
  /-- `oh[1..16]`, 1,024 bytes -/
  oh : List Byte := []
  deriving DecidableEq, Repr

/-- Oscillator model fitted by Sillage (11_reference_selection_and_holdover R493, R494, R511), held finer than
SILLAGE_READ reports it. -/
structure SillageModel where
  /-- y₀, × 10⁻¹⁶ -/
  y0 : Int := 0
  /-- ageing a, × 10⁻²¹ per second -/
  ageing : Int := 0
  /-- temperature coefficient c_T, × 10⁻¹⁶ per K -/
  cT : Int := 0
  /-- standard uncertainty of y_e, × 10⁻¹⁶ -/
  sigmaF : Nat := 0
  /-- standard uncertainty of a, × 10⁻²¹ per second -/
  sigmaA : Nat := 0
  deriving DecidableEq, Repr

/-- Time-transfer record (12_time_transfer_and_delay_calibration Table 12-1). -/
structure TtxRec where
  /-- `TIME_OK` -/
  timeOk : Bool := false
  /-- `RX_VALID` -/
  rxValid : Bool := false
  /-- `FOLLOWS` -/
  follows : Bool := false
  /-- `TAGGED` -/
  tagged : Bool := false
  /-- `OTP_CAL` -/
  otpCal : Bool := false
  /-- `ql` -/
  ql : Nat := 0
  /-- `seq` -/
  seq : Nat := 0
  /-- `tx_ref` -/
  txRef : Nat := 0
  /-- transmit stamp, sender's device time at its fibre plane -/
  tx : Time := 0
  /-- `rx_ref` -/
  rxRef : Nat := 0
  /-- receive stamp -/
  rx : Time := 0
  /-- `cal_seq` -/
  calSeq : Nat := 0
  /-- `carrier_id` -/
  carrierId : Nat := 0
  /-- `cd`, none for 0x8000_0000 -/
  cd : Option Int := none
  /-- `lambda_rx` -/
  lambdaRx : Nat := 0
  /-- `counter` -/
  counter : Nat := 0
  deriving DecidableEq, Repr

/-- Factory calibration of one analog delay (12_time_transfer_and_delay_calibration R517, R518), in OTP. -/
structure DelayCal where
  /-- d₀ at converter rates of 85, 170 and 340 GS/s, fs -/
  d0 : Int × Int × Int := (0, 0, 0)
  /-- d₁, 10⁻³ fs per K -/
  d1 : Int := 0
  /-- d₂, 10⁻³ fs per K² -/
  d2 : Int := 0
  deriving DecidableEq, Repr

/-- Time word of a stack frame (17_stack_bus_and_stacking Table 17-3). -/
structure TimeWord where
  /-- `sender` -/
  sender : Nat := 0
  /-- `sender_port` -/
  senderPort : Nat := 0
  /-- `master`, none for 0xFF -/
  master : Option Nat := none
  /-- `hops` -/
  hops : Nat := 0
  /-- `MASTER_OK` -/
  masterOk : Bool := false
  /-- sender is acting master -/
  isMaster : Bool := false
  /-- hand-over announced -/
  handover : Bool := false
  /-- `ql` -/
  ql : Nat := 0
  /-- `ho_to`, none for 0xFF -/
  hoTo : Option Nat := none
  /-- `st_mark` -/
  stMark : Time := 0
  /-- `st_rx` -/
  stRx : Time := 0
  /-- `ho_s` -/
  hoS : Nat := 0
  deriving DecidableEq, Repr

/-- Group record in a stack frame (17_stack_bus_and_stacking Table 17-10). -/
structure GrpRecItem where
  /-- `grp` -/
  grp : Nat := 0
  /-- `member` -/
  member : Nat := 0
  /-- `origin` -/
  origin : Nat := 0
  /-- `hops` -/
  hops : Nat := 0
  /-- `g` -/
  g : Nat := 0
  /-- `state` -/
  state : Nat := 0
  /-- SF -/
  sf : Bool := false
  /-- arrival in stack time -/
  arr : Time := 0
  deriving DecidableEq, Repr

/-- Group-state entry (17_stack_bus_and_stacking Table 17-11). -/
structure GrpStateItem where
  /-- `grp` -/
  grp : Nat := 0
  /-- origin -/
  origin : Nat := 0
  /-- hops -/
  hops : Nat := 0
  /-- LOA raw at the origin -/
  loa : Bool := false
  /-- the origin carries member 0 -/
  carries0 : Bool := false
  /-- bits [11:0] of `state` -/
  state : BitVec 12 := 0
  /-- sequence -/
  seq : Nat := 0
  deriving DecidableEq, Repr

/-- Stack-wide trigger (17_stack_bus_and_stacking Table 17-12). -/
structure TrigItem where
  /-- `origin` -/
  origin : Nat := 0
  /-- `hops` -/
  hops : Nat := 0
  /-- `seq` -/
  seq : Nat := 0
  /-- instant in stack time -/
  t : Time := 0
  deriving DecidableEq, Repr

/-- A message of the OSTC or of the NSO management field (10_supervisory_timing_channel Table 10-2). -/
structure Msg where
  /-- type 0 MGMT, 1 TTX, 2 APS -/
  type : Nat := 0
  /-- TAGGED -/
  tagged : Bool := false
  /-- GMAC message counter -/
  counter : Nat := 0
  /-- sending carrier -/
  sender : Nat := 0
  /-- destination stack member or 0xFF -/
  dest : Nat := 0xFF
  /-- carrier_id of the sending carrier -/
  srcId : Nat := 0
  /-- payload -/
  payload : List Byte := []
  deriving DecidableEq, Repr

/-- OSTC relay (17_stack_bus_and_stacking Table 17-13). -/
structure RelayItem where
  /-- `origin` -/
  origin : Nat := 0
  /-- `hops` -/
  hops : Nat := 0
  /-- `seq` -/
  seq : Nat := 0
  /-- `dest` -/
  dest : Nat := 0
  /-- `carrier` -/
  carrier : Nat := 0
  /-- the message carried -/
  msg : Msg := {}
  deriving DecidableEq, Repr

/-- A message of the stack's message stream (17_stack_bus_and_stacking R685). -/
structure SbMsg where
  /-- type 0 proxy request, 1 proxy response, 2 event, 3 HELLO -/
  type : Nat := 0
  /-- origin -/
  origin : Nat := 0
  /-- destination, 0xFF all -/
  dest : Nat := 0xFF
  /-- hop count -/
  hops : Nat := 0
  /-- sequence number -/
  seq : Nat := 0
  /-- GMAC counter -/
  counter : Nat := 0
  /-- body -/
  body : List Byte := []
  deriving DecidableEq, Repr
end Sys2Proof
end

