-- ==== Sys2Proof/Inputs.lean ====
section
/-!
DEFINITION. What an event of the device's surroundings carries: measurements, received signals, verdicts of the
engines whose programs the spec leaves to the Garix planner, and instants. Each is an operand of one command.
-/
namespace Sys2Proof

/-! ### Chapter 2 -/

/-- What the verification of an Accord image finds (02_accords_and_loop_engines R51 to R57). -/
structure VerifyIn where
  /-- what the image's sections hold -/
  plan : Plan := {}
  /-- the key of `key_sel` verifies the signature -/
  sigOk : Bool := false
  /-- SHA-384 of `oem_pub` -/
  oemHash : List Byte := []
  deriving DecidableEq, Repr

/-- How a copy into the standby set ends (02_accords_and_loop_engines R63, R64). -/
inductive StageEnd where
  /-- the digests of the copied partitions match -/
  | good
  /-- a digest does not match -/
  | digest
  /-- the store met an uncorrectable memory error -/
  | memError
  deriving DecidableEq, Repr

/-- A foreground slot that an engine ran in a control tick (02_accords_and_loop_engines R84 to R94). -/
structure EngineRun where
  /-- engine 0 to 95 -/
  engine : Nat := 0
  /-- slot of its schedule -/
  slot : Nat := 0
  /-- cycles its program takes -/
  cycles : Nat := 0
  /-- its writes to shadow tables through the tap port, in order -/
  writes : List ShadowWrite := []
  /-- its writes to data memory: address and bytes -/
  data : List (Nat × List Byte) := []
  /-- its writes to the memory of its cluster -/
  cluster : List (Nat × List Byte) := []
  deriving DecidableEq, Repr

/-- Background work of an engine in a control tick (02_accords_and_loop_engines R90, Table 2-6). -/
structure BgRun where
  /-- engine 0 to 95 -/
  engine : Nat := 0
  /-- cycles -/
  cycles : Nat := 0
  /-- background calibration cycles completed -/
  passes : Nat := 0
  deriving DecidableEq, Repr

/-! ### Chapter 3 -/

/-- What the check of one analog port finds in a control tick (03_converters_and_trim Table 3-3). -/
structure PortIn where
  /-- port: ADCs 0 to 3 XI, XQ, YI, YQ; DACs 4 to 7 -/
  port : Nat := 0
  /-- DAC pair: load between P and N, ohms -/
  load : Nat := 100
  /-- DAC pair: lower of the legs' resistances to ground, ohms -/
  gnd : Nat := 100
  /-- DAC pair: lowest resistance of a leg to a supply, ohms -/
  supply : Nat := 100
  /-- ADC pair: RMS, × 0.01 dBFS -/
  rms : Int := 0
  /-- ADC pair: samples at full-scale codes, × 10⁻⁶ -/
  full : Nat := 0
  deriving DecidableEq, Repr

/-- Trims that the engines find an element to need (03_converters_and_trim R104 to R106, R121). -/
structure TrimReq where
  /-- converter: ADCs 0 to 3, DACs 4 to 7 -/
  conv : Nat := 0
  /-- physical slice, or DAC segment -/
  elem : Nat := 0
  /-- offset needed -/
  offset : Int := 0
  /-- gain needed -/
  gain : Int := 0
  /-- skew code needed -/
  skew : Int := 0
  deriving DecidableEq, Repr

/-- A failure found by the engines: rows 2 and 3 of Table 3-2. -/
structure SliceFail where
  /-- ADC -/
  conv : Nat := 0
  /-- slice -/
  slice : Nat := 0
  /-- an output bit is stuck; otherwise the noise is too high -/
  stuck : Bool := false
  deriving DecidableEq, Repr

/-- A DAC cell measured against the reference cell (03_converters_and_trim R122, Table 3-2). -/
structure CellMeas where
  /-- DAC, 4 to 7 -/
  conv : Nat := 4
  /-- segment -/
  seg : Nat := 0
  /-- cell -/
  cell : Nat := 0
  /-- difference of its current from the reference cell, × 0.01 % -/
  diff : Int := 0
  deriving DecidableEq, Repr

/-- A slice or cell swap that the engines decide (03_converters_and_trim R105, R122). -/
structure ElemReq where
  /-- converter: ADCs 0 to 3, DACs 4 to 7 -/
  conv : Nat := 0
  /-- DAC segment -/
  seg : Nat := 0
  /-- spare slice or cell -/
  incoming : Nat := 0
  /-- position -/
  position : Nat := 0
  deriving DecidableEq, Repr

/-- What the converters of a carrier give in a control tick. -/
structure ConvIn where
  /-- port checks -/
  ports : List PortIn := []
  /-- trims -/
  trims : List TrimReq := []
  /-- failed slices -/
  fails : List SliceFail := []
  /-- measured cells -/
  cells : List CellMeas := []
  /-- swaps decided -/
  swaps : List ElemReq := []
  deriving DecidableEq, Repr

/-! ### Chapter 5 -/

/-- What the receive engines of a carrier find in a control tick (05_receive_path R185 to R221). -/
structure RxIn where
  /-- the timing error lock metric is above threshold -/
  clockOk : Bool := false
  /-- the modulus or decision error is below threshold -/
  errOk : Bool := false
  /-- ZR modes: fewer than 1 % of the outer blocks were uncorrectable -/
  blocksOk : Bool := false
  /-- CD estimate of the tracking, ps/nm -/
  cd : Option Int := none
  /-- slips of the elastic stage (R185) -/
  slips : Nat := 0
  /-- quadrant corrections (R212) -/
  cycleSlips : Nat := 0
  /-- offset of the signal from the derotator frequency, kHz (Table 5-3) -/
  residual : Int := 0
  /-- interpolator phase, × 1/256 sample (Table 5-3) -/
  interp : Int := 0
  /-- I/Q imbalance corrections found: gain of X and Y, phase of X and Y (R190) -/
  imbalance : List Int := [0, 0, 0, 0]
  /-- monitors of Table 5-5; `centroid` before recentring -/
  mon : RxMonitor := {}
  deriving DecidableEq, Repr

/-- What an acquisition step finds (05_receive_path R192, R194, R200). -/
structure AcqIn where
  /-- CD estimate of the X pair of ADCs, ps/nm -/
  cdX : Int := 0
  /-- CD estimate of the Y pair -/
  cdY : Int := 0
  /-- signed permutation between ADCs and transmitted tributaries, in `tx_map` coding -/
  map : Nat := 0x03020100
  deriving DecidableEq, Repr

/-! ### Chapter 6 -/

/-- What a carrier's decoder released in a control tick (06_forward_error_correction Table 6-5). -/
structure FecIn where
  /-- entry i < 15: inner codewords converged after i + 1 iterations; entry 15: not converged -/
  hist : List Nat := []
  /-- coded bits changed in converged codewords -/
  bits : Nat := 0
  /-- converged codewords with at least one bit changed -/
  corr : Nat := 0
  /-- ZR modes: coded bits of the converged inner codewords -/
  zrBits : Nat := 0
  /-- outer codewords, bits corrected, codewords corrected, uncorrectable codewords -/
  outer : Nat × Nat × Nat × Nat := (0, 0, 0, 0)
  /-- LLRs by magnitude: entry j from 4 j to 4 j + 3 -/
  llr : List Nat := []
  /-- LLRs at ±31 -/
  llrSat : Nat := 0
  /-- NGMI estimate, binary32 -/
  ngmi : Nat := 0
  /-- codewords that found no free slot (R262); each is also in entry 15 of `hist` -/
  missed : Nat := 0
  /-- calendar slots used -/
  slots : Nat := 0
  /-- the internal checks of the ZR decoder detect a fault (R286) -/
  zrFail : Bool := false
  deriving DecidableEq, Repr

/-- The decoder pool in a control tick. -/
structure PoolIn where
  /-- iterations executed, by core -/
  iters : List (Nat × Nat) := []
  /-- cores whose internal checks detect a fault (R263) -/
  fails : List Nat := []
  deriving DecidableEq, Repr

/-! ### Chapters 7 and 8 -/

/-- A FAS match found in a frame period by the true search of a slice (07_line_framing_and_defects R302, R305). -/
structure FasHit where
  /-- bit position in the frame -/
  pos : Nat := 0
  /-- MFAS that follows it -/
  mfas : Nat := 0
  /-- the SM BIP-8 it carries matches the device's own for the candidate's confirming frame -/
  bipOk : Bool := false
  deriving DecidableEq, Repr

/-- One slice of a received OTUC frame. -/
structure FrameSlice where
  /-- overhead columns 1 to 16 of rows 1 to 4, 64 bytes -/
  oh : List Byte := []
  /-- SM BIP-8 fails -/
  smBad : Bool := false
  /-- PM BIP-8 fails -/
  pmBad : Bool := false
  /-- true search: FAS matches, in order of arrival -/
  hits : List FasHit := []
  deriving DecidableEq, Repr

/-- A frame of a tributary ODU that ends in the frame period (R291, R320, R357). -/
structure TribFrame where
  /-- tributary -/
  trib : Nat := 0
  /-- its MFAS -/
  mfas : Nat := 0
  /-- TTI byte of its PM -/
  tti : Byte := 0
  /-- BEI, BDI and STAT of its PM -/
  pm : Byte := 0
  /-- its PM BIP-8 fails -/
  bipBad : Bool := false
  /-- payload type and CSF of its PSI, at the end of a PSI multiframe -/
  psi : Option (Nat × Bool) := none
  /-- idles inserted and deleted by IMP since the frame before -/
  idles : Nat × Nat := (0, 0)
  deriving DecidableEq, Repr

/-- A received OTUC frame period. -/
structure FrameIn where
  /-- slices, #1 first -/
  slices : List FrameSlice := []
  /-- the decoder marks the frame period uncorrectable (06_forward_error_correction R255) -/
  mark : Bool := false
  /-- tributary frames -/
  tribs : List TribFrame := []
  deriving DecidableEq, Repr

/-- What one overhead port receives in an OHP frame, and the line frames sent in it. -/
structure OhpIn where
  /-- slots marked `VALID` -/
  slots : List OhFrame := []
  /-- line frames transmitted in the OHP frame that need inserted overhead -/
  sent : Nat := 0
  deriving DecidableEq, Repr

/-- A merged frame period at its release time (08_tributaries_groups_protection R374, R377). -/
structure MergeIn where
  /-- the frame of copy A, of copy B, is in memory -/
  present : Two Bool := ⟨false, false⟩
  /-- its frame period carries the mark of R255 -/
  marked : Two Bool := ⟨false, false⟩
  /-- its arrival, 2⁻¹⁶ ns -/
  arrival : Two Time := ⟨0, 0⟩
  /-- the frame delivered -/
  frame : FrameIn := {}
  deriving DecidableEq, Repr

/-! ### Chapter 10 -/

/-- How the reception of a burst ends (10_supervisory_timing_channel R445, R455). -/
inductive BurstResult where
  /-- LDPC decoding fails -/
  | ldpcFail
  /-- the CRC fails -/
  | crcFail
  /-- a whole message, with the verdict on its tag -/
  | ok (m : Msg) (tagOk : Bool)
  deriving DecidableEq, Repr

/-! ### Chapter 11 -/

/-- What the monitors of one candidate measure (11_reference_selection_and_holdover R467, R509). -/
structure CandMeas where
  /-- index of Table 11-1 -/
  cand : Nat := 0
  /-- edges arrive in time (`REFIN`) -/
  active : Bool := true
  /-- offset from `XI1`, × 10⁻¹² -/
  freqOff : Int := 0
  /-- phase against device time, 2⁻¹⁶ ns (`REFIN` of kind `PPS`) -/
  phase : Int := 0
  /-- distance of the phase measurement from its prediction, 2⁻¹⁶ ns -/
  dev : Nat := 0
  deriving DecidableEq, Repr

/-- What cluster 4 measures in a slow tick. -/
structure TimingMeas where
  /-- candidates -/
  cands : List CandMeas := []
  /-- phase error of the DPLL, 2⁻¹⁶ ns (R486) -/
  phaseErr : Int := 0
  /-- DPLL output against `XI1`, × 10⁻¹³ -/
  freqOff : Int := 0
  /-- die sensor, × 0.01 °C -/
  dieTemp : Int := 0
  deriving DecidableEq, Repr

/-- Means over an epoch for its Sillage record (Table 11-11). -/
structure SillageMeas where
  /-- mean y of `XI1`, × 10⁻¹³ -/
  freq : Int := 0
  /-- mean phase error, 2⁻⁸ ns -/
  phaseErr : Int := 0
  deriving DecidableEq, Repr

/-! ### Chapter 12 -/

/-- A received time-transfer record (12_time_transfer_and_delay_calibration R527, R530). -/
structure TtxIn where
  /-- it came over the OSTC; otherwise in an NSO -/
  ostc : Bool := false
  /-- the NSO that carries it is valid -/
  nsoValid : Bool := true
  /-- its sender as R415 counts senders -/
  sender : Nat := 0
  /-- the record -/
  record : TtxRec := {}
  /-- its tag verifies -/
  tagOk : Bool := false
  /-- receive mark of an OSTC message at the ADC plane, device time -/
  mark : Int := 0
  deriving DecidableEq, Repr

/-- A PTP event message that crosses a port (12_time_transfer_and_delay_calibration R540 to R542). -/
structure PtpIn where
  /-- first lane of the port -/
  port : Nat := 0
  /-- egress; otherwise ingress -/
  egress : Bool := false
  /-- encapsulation: 0 Ethernet, 1 IPv4, 2 IPv6 -/
  encap : Nat := 0
  /-- messageType -/
  messageType : Nat := 0
  /-- domainNumber -/
  domain : Nat := 0
  /-- sequenceId -/
  sequence : Nat := 0
  /-- CRC-32C of sourcePortIdentity -/
  identity : Nat := 0
  /-- twoStepFlag -/
  twoStep : Bool := false
  /-- the timestamp point at the balls, device time -/
  at_ : Time := 0
  deriving DecidableEq, Repr
/-! ### Chapter 13 -/

/-- Inputs of the sensing chain in a control tick (13_line_sensing_chain Table 13-1), in LSB. -/
structure SenseIn where
  /-- inputs 0 to 10 of carrier A: S1, S2, S3, FREQ, unwrapped carrier phase, recovered clock phase, CD, DGD, PWR_X,
  PWR_Y, SNR -/
  a : List Int := []
  /-- inputs 16 to 26 of carrier B -/
  b : List Int := []
  /-- channels whose slot did not end in its 20 cycles (R574) -/
  overruns : List Nat := []
  deriving DecidableEq, Repr

/-! ### Chapter 14 -/

/-- Where a failing line of buffer memory lies (14_buffer_memory_and_latency_equaliser R593). -/
inductive LineHolder where
  /-- a frame of an LEQ queue, counted from the oldest -/
  | leq (queue index : Nat)
  /-- an OTUC frame period of pool 1 -/
  | mergeDeskew
  /-- the buffer of a capture slot -/
  | blotter (slot : Fin 4)
  /-- an Accord image -/
  | accordStore (slot : Fin 16)
  /-- engine scratch or the system region -/
  | system
  /-- no pool -/
  | none
  deriving DecidableEq, Repr

/-- A DRAM line found in error (14_buffer_memory_and_latency_equaliser R592 to R597). -/
structure DramIn where
  /-- tower -/
  tower : Fin 4 := 0
  /-- bank -/
  bank : Nat := 0
  /-- row -/
  row : Nat := 0
  /-- uncorrectable; otherwise corrected -/
  ue : Bool := false
  /-- found by scrub -/
  scrub : Bool := false
  /-- what holds it -/
  holder : LineHolder := .none
  /-- 4 KiB pages of the row -/
  pages : Nat := 0
  deriving DecidableEq, Repr

/-- A frame that reaches the LEQ (14_buffer_memory_and_latency_equaliser R599). -/
structure LeqIn where
  /-- first host lane of its port -/
  port : Nat := 0
  /-- instant of its last byte, device time -/
  arrival : Time := 0
  /-- its bytes -/
  bytes : List Byte := []
  deriving DecidableEq, Repr

/-- What a capture wrote (14_buffer_memory_and_latency_equaliser R622). -/
structure CaptureIn where
  /-- data bytes kept, in time order -/
  data : List Byte := []
  /-- instant of the first byte's sample at its plane, device time -/
  t0 : Time := 0
  deriving DecidableEq, Repr

/-! ### Chapter 16 -/

/-- What a host lane's receiver reports over a slow tick (16_host_lanes R648, Table 16-7). -/
structure LaneMeas where
  /-- lane -/
  lane : Nat := 0
  /-- estimated BER, × 10⁻⁹ -/
  estBer : Nat := 0
  /-- CTLE code -/
  ctle : Nat := 0
  /-- skew behind the earliest lane of its client, ps -/
  skewPs : Nat := 0
  deriving DecidableEq, Repr

/-! ### Chapter 17 -/

/-- A stack frame as a port receives it (17_stack_bus_and_stacking R672 to R674). -/
structure StackFrame where
  /-- port -/
  port : Fin 4 := 0
  /-- the mark is at its predicted position -/
  markOk : Bool := true
  /-- the CRC is good -/
  crcOk : Bool := true
  /-- device time at which the mark arrived at the balls -/
  arrival : Time := 0
  /-- time word -/
  word : TimeWord := {}
  /-- group records -/
  recs : List GrpRecItem := []
  /-- group-state entries -/
  states : List GrpStateItem := []
  /-- triggers -/
  trigs : List TrigItem := []
  /-- OSTC relay -/
  relay : Option RelayItem := none
  /-- messages of the message stream -/
  msgs : List SbMsg := []
  deriving DecidableEq, Repr

/-- What a stack port measures in a slow tick (17_stack_bus_and_stacking R678, Table 17-8). -/
structure PortMeas where
  /-- port -/
  port : Nat := 0
  /-- transmit plus receive internal delay, × 0.01 ps -/
  intDelay : Nat := 0
  /-- receive SNR, × 0.01 dB -/
  snr : Nat := 0
  deriving DecidableEq, Repr

/-! ### Chapter 18 -/

/-- The straps at a release of reset (17_stack_bus_and_stacking Table 17-4, 18_clocks_resets_power R702 and R726,
20_startup_and_nonvolatile_store Table 20-1). -/
structure Straps where
  /-- `STACK_ROLE[1:0]` -/
  role : Nat := 0
  /-- `STACK_ID[2:0]` -/
  id : Nat := 0
  /-- `BOOT_SRC[1:0]` -/
  bootSrc : Nat := 0
  /-- `XDLY[2:0]` -/
  xdly : Nat := 0
  /-- `TIMING_HOLD` -/
  timingHold : Bool := false
  deriving DecidableEq, Repr

/-- What the clock monitors see over a slow tick (18_clocks_resets_power R707, R716, R725). -/
structure ClockMeas where
  /-- `XI0` frequency offset against trimmed SOSC, × 0.1 ppm -/
  xi0 : Int := 0
  /-- `XI1` frequency offset -/
  xi1 : Int := 0
  /-- `XI0` shows edges -/
  edges0 : Bool := true
  /-- `XI1` shows edges -/
  edges1 : Bool := true
  /-- the `REFIN` named by `trim_refin` shows edges -/
  refin : Bool := true
  /-- FOSC trim code found -/
  fosc : Nat := 0
  /-- SOSC trim code found -/
  sosc : Nat := 0
  /-- the firmware heartbeat advanced -/
  heartbeat : Bool := true
  deriving DecidableEq, Repr

/-! ### Chapter 19 -/

/-- A report of one fault source in a core cycle (19_fault_handling R747, R763, R766). -/
structure FaultEntry where
  /-- fault ID -/
  id : Nat := 0
  /-- instance -/
  inst : Nat := 0
  /-- 0 the condition begins to hold, 1 an event, 2 the condition ends -/
  kind : Nat := 1
  /-- bytes of `detail` -/
  detail : List Byte := []
  /-- the armed injection inverted check bits of this check -/
  inverted : Bool := false
  /-- syndrome of the check -/
  syndrome : Nat := 0
  deriving DecidableEq, Repr

/-! ### Chapter 20 -/

/-- A firmware image as the ROM or the firmware examines it (20_startup_and_nonvolatile_store R779, R780). -/
structure FwImageIn where
  /-- its 160-byte header -/
  header : List Byte := []
  /-- its signature verifies -/
  sigOk : Bool := false
  /-- SHA-384 of `oem_pub` -/
  oemHash : List Byte := []
  deriving DecidableEq, Repr

/-- The archive as the mount finds it (20_startup_and_nonvolatile_store R793, R798). -/
structure NandIn where
  /-- channels -/
  channels : Nat := 1
  /-- targets per channel -/
  targets : Nat := 1
  /-- capacity, bytes -/
  capacity : Nat := 0
  /-- size of a block, MiB -/
  blockMiB : Nat := 1
  /-- rated endurance -/
  endurance : Nat := 0
  deriving DecidableEq, Repr

/-- Wear of the archive (20_startup_and_nonvolatile_store R798). -/
structure WearIn where
  /-- lowest erase count -/
  lo : Nat := 0
  /-- mean erase count -/
  mean : Nat := 0
  /-- highest erase count -/
  hi : Nat := 0
  deriving DecidableEq, Repr

/-- The boot Accord as it is read (20_startup_and_nonvolatile_store R787). -/
structure BootAccordIn where
  /-- the image at `accord_off` of the NOR -/
  nor : List Byte := []
  /-- what its verification finds -/
  verify : VerifyIn := {}
  /-- how its staging ends -/
  staged : StageEnd := .good
  deriving DecidableEq, Repr

/-- A unit of flash under erase (20_startup_and_nonvolatile_store R800). -/
inductive FlashUnit where
  /-- a NOR sector: address / 65,536 -/
  | nor (sector : Nat)
  /-- the blocks of an archive entry: area and entry ID -/
  | nand (area id : Nat)
  deriving DecidableEq, Repr

/-! ### Chapter 21 -/

/-- The host interfaces (21_mailbox_interface R802 to R804). -/
inductive Iface where
  | pcie | spi | i2c
  deriving DecidableEq, Repr

/-! ### Chapter 23 -/

/-- What the electrical monitors see over a slow tick (23_package_pins_electrical R870, R871, R884; 22_command_reference
R856). -/
structure ElecIn where
  /-- the ten supplies of Table 23-3, mV -/
  supplies : List Nat := []
  /-- the eight sensors of DIAG_SENSORS, × 0.01 °C -/
  temps : List Int := []
  /-- target of the OTP table at the core temperature, mV -/
  want : Nat := 750
  /-- the regulator acknowledged the target sent at the slow tick before -/
  ack : Bool := true
  deriving DecidableEq, Repr

/-! ### Ticks (01_talnis_3200_at_a_glance Table 1-5) -/

/-- What a control tick brings. -/
structure TickIn where
  /-- device time that has passed since the last boundary that passed any, 2⁻¹⁶ ns -/
  dt : Nat := 65536000
  /-- foreground slots of the tick that ends -/
  runs : List EngineRun := []
  /-- background work -/
  bg : List BgRun := []
  /-- converters -/
  conv : Two ConvIn := ⟨{}, {}⟩
  /-- receivers -/
  rx : Two RxIn := ⟨{}, {}⟩
  /-- decoders -/
  fec : Two FecIn := ⟨{}, {}⟩
  /-- the decoder pool -/
  pool : PoolIn := {}
  /-- sensing inputs -/
  sense : SenseIn := {}
  /-- noise floors measured in the tone band, × 0.01 dB, while the OSTC searches -/
  floor : Two (Option Int) := ⟨none, none⟩
  deriving DecidableEq, Repr

/-- What a slow tick brings. -/
structure SlowIn where
  /-- the timing subsystem -/
  timing : TimingMeas := {}
  /-- clocks -/
  clock : ClockMeas := {}
  /-- stack ports -/
  ports : List PortMeas := []
  /-- host lanes -/
  lanes : List LaneMeas := []
  /-- electrical monitors -/
  elec : ElecIn := {}
  /-- bandwidth of the six classes of Table 14-3, MB/s -/
  bw : List Nat := []
  deriving DecidableEq, Repr

/-- What a received superframe boundary brings. -/
structure RxSfIn where
  /-- device time that has passed, 2⁻¹⁶ ns -/
  dt : Nat := 0
  /-- the sync pattern is at its predicted position -/
  sync : Bool := true
  /-- the format received is the bring-up format -/
  bringUp : Bool := false
  /-- fewer than 1 % of the codewords of the superframe were uncorrectable -/
  codeOk : Bool := true
  /-- segments checked since the last boundary: the tag matches, does not, or is missing -/
  segs : List (Option Bool) := []
  deriving DecidableEq, Repr

end Sys2Proof
end

