-- ==== Sys2Proof/Syntax.lean ====
section
/-!
DEFINITION. The commands of the block: one constructor per row of spec/opcode_table.json. A mailbox command carries its
request as mailbox, header and parameter bytes; an event row carries what the device meets or measures at that
event. Each docstring is the rule of spec/ that owns the row and what the row is.
-/
namespace Sys2Proof

/-- The commands. -/
inductive Instr where
  /-- POWER_ON_RESET (R867): A supply falls below its POR falling threshold, or all supplies rise above their rising
  thresholds and POR is released 1 ms later. -/
  | powerOnReset (released : Bool) (x : Straps)
  /-- RESET_N (R721): RESET_N held low for at least 2 us resets the DEVICE domain, and TIMING too unless TIMING_HOLD
  is 1. -/
  | resetN (low : Bool)
  /-- ZEROIZE_N (R430): ZEROIZE_N low for at least 100 ns raises CRYPTO_ZEROIZE_PIN and erases all key material. -/
  | zeroizeN (low : Bool)
  /-- TAMPER_CONDITION (R430): A voltage, clock-period or temperature tamper sensor trips and raises its alarm. -/
  | tamperCondition (sensor : Fin 3) (trips : Bool)
  /-- OSC_READY_RISE (R491): A rising edge of OSC_READY moves the DPLL local oscillator to XI1, and selection starts
  at the next slow tick. -/
  | oscReadyRise
  /-- OSC_READY_FALL (R491): A falling edge of OSC_READY moves the DPLL to XI0, stops Sillage recording, moves
  HOLDOVER to LOST and raises OSC_NOT_READY. -/
  | oscReadyFall
  /-- TRIG_IN_EDGE (R618): An edge of TRIG_IN held for at least 10 ns triggers every capture slot that has TRIG_IN
  enabled. -/
  | trigInEdge (falling : Bool) (t : Time)
  /-- OHP_FS_LOSS (R338): No OHP_FS rising edge for 250 us stops both overhead ports and raises the fault. -/
  | ohpFsLoss
  /-- OHP_FS_RETURN (R338): OHP_FS edges return and the overhead ports restart under R333 and R335. -/
  | ohpFsReturn
  /-- OHP_FRAME (R332): An OHP frame boundary is reached: the frame is sent and the received frame is processed for
  insertion. -/
  | ohpFrame (a b : OhpIn)
  /-- XI_INPUT_JUDGED (R702): A start delay ends and an XI input is judged stable or not, with XTAL_FAIL after the
  last attempt. -/
  | xiInputJudged (n : Fin 2) (ok : Bool) (freq : Int)
  /-- ROOT_INPUT_LOSS (R709): The root input shows no edge for 4 nominal periods, so PLL-R opens its loop and coasts
  at 8.0 GHz. -/
  | rootInputLoss
  /-- PLL_R_LOCKED (R711): PLL-R locks to a newly chosen input, so management returns to PLL-R and ROOT_COAST is no
  longer raw. -/
  | pllRLocked
  /-- SELECTOR_SWITCH (R713): A clock selector completes a glitch-free change to a new source. -/
  | selectorSwitch (k : Fin 11)
  /-- CLK_FORCED_SWITCH (R714): No old-clock edge arrives within 64 new-clock cycles, so the selector forces the
  switch and raises the fault. -/
  | clkForcedSwitch (k : Fin 11)
  /-- SELECTOR_NEW_CLOCK_ABSENT (R715): The new clock shows no edge within 64 SOSC cycles, so the selector stays on
  the old clock and reports failure. -/
  | selectorNewClockAbsent (k : Fin 11)
  /-- TICK_ALIGNED (R712): Slow-tick boundaries come within one root cycle of epoch boundaries, so PLL-R returns to
  its input frequency. -/
  | tickAligned
  /-- OSC_TRIM_STALE (R717): No trim of FOSC and SOSC has been made for 10 s while trim_src names a source. -/
  | oscTrimStale
  /-- MGMT_WATCHDOG (R725): The firmware heartbeat has not advanced for 100 ms, so the MGMT domain is reset. -/
  | mgmtWatchdog
  /-- DOMAIN_RESET_RELEASE (R722): A reset domain leaves reset when its last cause is removed, and its crossings
  restart empty. -/
  | domainResetRelease (d : Domain) (x : Straps)
  /-- DRAM_RETRAIN_COMPLETE (R723): DRAM retraining completes after a DRAM reset and the DRAM domain leaves reset.
  -/
  | dramRetrainComplete
  /-- CARRIER_LOOP_START (R733): A carrier that is powered on has its converter loop running, and foreground
  calibration starts. -/
  | carrierLoopStart (c : Carrier)
  /-- CONTROL_TICK (R27): A control-tick boundary: one pass of every engine schedule, port checks and stack frame
  transmission. -/
  | controlTick (u : TickIn)
  /-- SLOW_TICK (R27): A slow-tick boundary: reference selection, protection requests, thresholds, trims, sigma
  update and event coalescing. -/
  | slowTick (u : SlowIn)
  /-- EPOCH (R27): An epoch boundary: Sillage record, holdover bounds, BER and DEG evaluation and epoch snapshots.
  -/
  | epoch (m : SillageMeas)
  /-- TIME_SET_APPLY (R515): The first eligible epoch boundary after TTX_TIME_SET takes the seconds value given. -/
  | timeSetApply
  /-- SILLAGE_FIT (R493): Every 600 epochs cluster 4 fits the oscillator model to the locked records. -/
  | sillageFit (m : SillageModel)
  /-- SILLAGE_SNAPSHOT (R496): Every 600 epochs Sillage records, model and calibration are written to the non-
  volatile store. -/
  | sillageSnapshot (ok : Bool)
  /-- SILLAGE_RESTORE (R496): On a TIMING start, the latest snapshot is restored, held or discarded according to its
  age. -/
  | sillageRestore
  /-- BLOCK_BOUNDARY (R31): A carrier block boundary at which engine changes, continuous trims and coefficient
  commits take force. -/
  | blockBoundary (c : Carrier) (txw rxw : Bool)
  /-- SWAP_DEFER_EXPIRY (R115): An element change pending longer than swap_defer in a ZR mode takes force and raises
  CONV_SWAP_HIT. -/
  | swapDeferExpiry (c : Carrier) (k : Fin 8)
  /-- SPARE_CALIBRATED (R121): A spare slice completes 1,000 control ticks of shadow calibration and its trims are
  derived. -/
  | spareCalibrated (c : Carrier) (k : Fin 4) (n : Fin 72) (offset gain : Int) (skew : Nat)
  /-- FOREGROUND_CAL_COMPLETE (R120): Foreground calibration of a carrier's converters completes, allowing exit from
  OFF. -/
  | foregroundCalComplete (c : Carrier) (trims : List TrimReq) (cells : List CellMeas)
  /-- SELFTEST_COMPLETE (R133): The converter self-test finishes and reports the map, completing CONV_SELFTEST. -/
  | selftestComplete (c : Carrier) (found : List (Option (Nat × Bool)))
  /-- TX_SUPERFRAME (R294): A transmit superframe boundary: xsf advances, NSO is sent, roll countdown, agreed format
  switch and Accord switch instant. -/
  | txSuperframe (c : Carrier) (dt : Nat)
  /-- KEY_IV_LIMIT (R408): An active key reaches 2^32 - 2^16 superframes and is erased. -/
  | keyIvLimit (c : Carrier) (rx : Bool)
  /-- NSO_RECEIVED (R293): A received native superframe overhead is checked and its fields passed to their
  functions. -/
  | nsoReceived (c : Carrier) (b : List Byte) (tagA tagB : Bool)
  /-- RX_SUPERFRAME (R288): A received superframe boundary: receive switches, key prediction, tag checks and group
  records. -/
  | rxSuperframe (c : Carrier) (u : RxSfIn)
  /-- KEY_SLOT_ERASED (R407): A retiring key slot is erased after its last tag or segment and KEY_ROLLED is raised.
  -/
  | keySlotErased (c : Carrier) (rx : Bool) (k : Fin 2)
  /-- CRYPTO_ERASE_COMPLETE (R424): Erasure of a carrier's key slots after disabling encryption completes and any
  held enable is carried out. -/
  | cryptoEraseComplete (c : Carrier)
  /-- OTUC_FRAME (R298): An OTUC frame period: FAS/MFAS checks, overhead evaluation, defect integration and
  consequent actions. -/
  | otucFrame (c : Carrier) (host : Bool) (u : FrameIn)
  /-- RX_ACQ_PROGRESS (R217): An acquisition exit condition has held for its count and the receiver moves to the
  next state. -/
  | rxAcqProgress (c : Carrier) (u : AcqIn)
  /-- RX_ACQ_TIMEOUT (R219): An acquisition state exceeds its timeout and the receiver falls back under Table 5-6.
  -/
  | rxAcqTimeout (c : Carrier)
  /-- CD_SEARCH_HINT_MISS (R201): A hinted CD search finds no point above threshold and continues as a blind search.
  -/
  | cdSearchHintMiss (c : Carrier)
  /-- LOCK_HOLD_LOSS (R219): A lock metric stays out of threshold for lock_hold control ticks and the receiver
  falls. -/
  | lockHoldLoss (c : Carrier)
  /-- AGREEMENT_RECEIVED (R225): An agreement record proposing a switch count is received and answered with ACK or
  NACK. -/
  | agreementReceived (c : Carrier)
  /-- AGREE_FAIL (R227): An unanswered proposal lapses after 256 superframes. -/
  | agreeFail (c : Carrier)
  /-- STAGE_RETRY (R227): stage_retry seconds after a failed or reverted staging, a STAGE agreement is proposed
  again. -/
  | stageRetry (c : Carrier)
  /-- STAGE_PROPOSE (R234): Both ends are STAGED, so an end proposes a STAGE agreement. -/
  | stagePropose (c : Carrier)
  /-- RX_STAGE_FAIL (R235): The receiver does not reach IN_SERVICE within 8 full-format superframes and reverts to
  bring-up. -/
  | rxStageFail (c : Carrier)
  /-- TX_LEAD_ELAPSED (R170): txon_lead has elapsed with calibration complete, so the transmitter starts its ramp
  up. -/
  | txLeadElapsed (c : Carrier)
  /-- TX_RAMP_COMPLETE (R171): A power ramp reaches its end and the transmitter enters TX_ON or TX_OFF. -/
  | txRampComplete (c : Carrier)
  /-- ACCORD_SWITCH_T (R73): The switch instant T is reached and the device and transmit tables of changed
  partitions take force. -/
  | accordSwitchT
  /-- ACCORD_RX_SWITCH (R74): A changed carrier's receive tables take force at its first receive superframe boundary
  at or after T. -/
  | accordRxSwitch (c : Carrier)
  /-- ACCORD_SWITCH_COMPLETE (R77): The last switch event occurs, the former Accord becomes standby and held
  commands run. -/
  | accordSwitchComplete
  /-- ACCORD_VERIFY_COMPLETE (R57): Verification of a loaded image ends and ACCORD_VERIFIED reports the slot status.
  -/
  | accordVerifyComplete (u : Fin 16) (v : VerifyIn)
  /-- ACCORD_LOAD_TIMEOUT (R849): A chunked load idles 10 s or a DMA load exceeds 1 s and is abandoned with TIMEOUT.
  -/
  | accordLoadTimeout (u : Fin 16)
  /-- ACCORD_DMA_COMPLETE (R849): The PCIe DMA copy of an Accord image ends and verification starts. -/
  | accordDmaComplete (u : Fin 16) (image : List Byte)
  /-- STAGING_COMPLETE (R63): The copy into the standby set ends and ACCORD_STAGED reports the status. -/
  | stagingComplete (e : StageEnd)
  /-- POOL_RECONFIG_COMPLETE (R586): A memory pool reconfiguration completes, MEM_POOL_CHANGED is raised and held
  commands run. -/
  | poolReconfigComplete
  /-- SCRUB_SEGMENT (R594): A scrub segment is issued and completes, writing back corrected lines. -/
  | scrubSegment (complete : Bool)
  /-- SCRUB_LATE (R594): A scrub pass has not completed 72 h after it began. -/
  | scrubLate
  /-- DRAM_LINE_ERROR (R593): A DRAM read finds a corrected or uncorrectable line, handled by the pool that holds
  it. -/
  | dramLineError (x : DramIn)
  /-- ROW_RETIRE_COMPLETE (R596): A row copy to a spare row completes and DRAM_ROW_RETIRED is raised. -/
  | rowRetireComplete (t : Fin 4)
  /-- DRAM_REFRESH_RATE (R595): A tower crosses 85 °C or 82 °C and its refresh rate changes. -/
  | dramRefreshRate (t : Fin 4) (fast : Bool)
  /-- LEQ_FRAME_ARRIVAL (R600): A client frame reaches the LEQ, is keyed to a queue, stored, dropped or bypassed. -/
  | leqFrameArrival (x : LeqIn)
  /-- LEQ_FRAME_RELEASE (R604): A stored frame's release time is reached and it is sent on its port. -/
  | leqFrameRelease (p : Fin 32)
  /-- LEQ_DRAIN_COMPLETE (R612): A DRAINING queue becomes empty and enters DISABLED. -/
  | leqDrainComplete (q : Fin 32768)
  /-- BLOTTER_TRIGGER_POINT (R618): A slot's trigger point is reached and it enters TRIGGERED. -/
  | blotterTriggerPoint (u : Fin 4)
  /-- CAPTURE_COMPLETE (R617): post_bytes have been written, or the source is lost, and the capture becomes DONE. -/
  | captureComplete (u : Fin 4) (x : CaptureIn)
  /-- SPILL_COMPLETE (R617): A capture's copy to the NAND archive ends and the slot returns to DONE. -/
  | spillComplete (u : Fin 4)
  /-- CAPTURE_READOUT_ENTRY (R826): A capture ring entry is written by background readout once room allows. -/
  | captureReadoutEntry (u : Fin 4)
  /-- SENSE_OUTPUT_SAMPLE (R559): An output instant of a sensing channel is reached and the resampler produces a
  stamped sample. -/
  | senseOutputSample (ch : Fin 64) (sec k : Nat)
  /-- SENSE_RECORD_EMIT (R575): A sensing record is emitted when it holds 48 samples or its oldest sample has waited
  flush_ms. -/
  | senseRecordEmit (ch : Fin 64)
  /-- OSTC_BURST_START (R439): A queued message and TX_ON allow a burst to start after the required gap. -/
  | ostcBurstStart (c : Carrier)
  /-- OSTC_BURST_END (R437): A transmitted burst completes its ramp-down. -/
  | ostcBurstEnd (c : Carrier)
  /-- OSTC_BURST_TRUNCATED (R440): ostc_tx falls or the transmitter leaves TX_ON during a burst, so it ramps down
  and the message is kept. -/
  | ostcBurstTruncated (c : Carrier)
  /-- OSTC_TRIGGER (R451): Tone-band energy exceeds trig_thr for 8 symbols and the receiver enters OSTC_TRIGGERED.
  -/
  | ostcTrigger (c : Carrier)
  /-- OSTC_QUALIFY (R451): The preamble correlates at 0.8 or more and the receiver enters OSTC_QUALIFIED. -/
  | ostcQualify (c : Carrier) (levelQ : Int) (snr : Nat)
  /-- OSTC_QUAL_TIMEOUT (R451): No qualification within 48 symbols or no sync within 80 symbols returns the receiver
  to search. -/
  | ostcQualTimeout (c : Carrier)
  /-- OSTC_FALSE_START (R452): Energy 6 dB above Q for 8 symbols aborts a reception, which re-enters OSTC_TRIGGERED.
  -/
  | ostcFalseStart (c : Carrier)
  /-- OSTC_SYNC_FOUND (R451): The sync word is found, the burst mark is estimated and reception starts. -/
  | ostcSyncFound (c : Carrier) (mark : Time)
  /-- OSTC_BURST_RECEIVED (R455): All codewords of a burst are received, decoded, checked and the message delivered
  or discarded. -/
  | ostcBurstReceived (c : Carrier) (res : BurstResult)
  /-- APS_RECEIVED (R385): An APS message from the far end is received and governs the bidirectional scheme. -/
  | apsReceived (k : Fin 33) (b : List Byte)
  /-- PROT_APS_MISMATCH (R385): The far end's scheme type differs for 50 slow ticks. -/
  | protApsMismatch (k : Fin 33)
  /-- PROT_HOLD_OFF_EXPIRY (R381): SF or SD has held for hold_off and becomes a request. -/
  | protHoldOffExpiry (k : Fin 33)
  /-- PROT_WTR_EXPIRY (R382): Wait-to-restore expires and NR selects working. -/
  | protWtrExpiry (k : Fin 33)
  /-- MERGE_FRAME_RELEASE (R374): A merged frame period is released from the eligible copy at its release time. -/
  | mergeFrameRelease (u : MergeIn)
  /-- MERGE_COPY (R373): A merge copy changes state among ABSENT, UNALIGNED and ALIGNED. -/
  | mergeCopy (c : Carrier) (behind lead : Int)
  /-- GROUP_RECORD_RECEIVED (R362): A group alignment record arrives and A_max and A_min are updated. -/
  | groupRecordReceived (p : Fin 4) (x : GrpRecItem)
  /-- GROUP_RELEASE (R363): T_rel(g) is reached and each local member's superframe g is released. -/
  | groupRelease (k : Fin 16) (n : BitVec 32)
  /-- GROUP_LOA_CHANGE (R365): LOA becomes raw on a group or clears after 8 clean superframes. -/
  | groupLoaChange (k : Fin 16)
  /-- TTX_RECORD_RECEIVED (R530): A time-transfer record is received and accepted or discarded. -/
  | ttxRecordReceived (c : Carrier) (u : TtxIn)
  /-- TTX_EXCHANGE (R533): At an exchange instant the offset theta is computed from accepted stamp pairs. -/
  | ttxExchange (c : Carrier)
  /-- TTX_CANDIDATE_STALE (R467): No exchange has been accepted for 5 s and the TTX candidate becomes invalid. -/
  | ttxCandidateStale (c : Carrier)
  /-- PTP_EVENT_FRAME (R542): A PTP event message crosses a port and is stamped, recorded or rewritten. -/
  | ptpEventFrame (u : PtpIn)
  /-- CANDIDATE_ACTIVITY_LOSS (R476): The selected candidate loses activity and the DPLL holds frequency at once. -/
  | candidateActivityLoss (u : Fin 13)
  /-- CANDIDATE_QUALIFIED (R470): A candidate stays valid for qual_time or wtr and becomes AVAILABLE. -/
  | candidateQualified (u : Fin 13)
  /-- CANDIDATE_REENTRY (R479): An excluded candidate agrees with the median for 10 slow ticks and re-enters
  QUALIFYING. -/
  | candidateReentry (u : Fin 13)
  /-- DPLL_LOCK_TIME (R485): The phase error stays below lock_thr for lock_time and the DPLL becomes LOCKED. -/
  | dpllLockTime
  /-- FAST_LOCK_DWELL (R484): A fast-lock dwell ends and the bandwidth steps down when the phase error allows. -/
  | fastLockDwell
  /-- OSC_TEMP_STALE (R507): No host oscillator temperature for 10 s, so the die sensor is used and TEMP_STALE
  reported. -/
  | oscTempStale
  /-- RECEIVED_QL_STALE (R472): A received quality level has not arrived for 5 s and counts as QL_NONE. -/
  | receivedQlStale (u : Fin 13)
  /-- STACK_FRAME_RECEIVED (R672): A stack frame is received, checked, acted on and its items forwarded. -/
  | stackFrameReceived (f : StackFrame)
  /-- STACK_PORT_UP (R671): 64 good frames and calibration complete bring a port to SB_UP. -/
  | stackPortUp (p : Fin 4) (intDelay : Nat)
  /-- STACK_ADAPT_RESTART (R671): 50 ms in SB_ADAPT without convergence restarts adaptation. -/
  | stackAdaptRestart (p : Fin 4)
  /-- STACK_TIME_VALID (R680): The first sigma update after 1,000 MASTER_OK frames makes stack time valid. -/
  | stackTimeValid
  /-- STACK_MASTER_LOST (R693): Four control ticks without a MASTER_OK frame make stack time invalid. -/
  | stackMasterLost
  /-- STACK_TAKEOVER (R690): The standby sees no MASTER_OK for 100 control ticks and becomes acting master. -/
  | stackTakeover
  /-- STACK_MASTER_LISTEN_END (R676): The strapped master's 200 us listen ends and it becomes acting master or
  standby. -/
  | stackMasterListenEnd
  /-- STACK_HANDOVER_INSTANT (R692): The announced hand-over second starts and the standby becomes acting master. -/
  | stackHandoverInstant
  /-- STACK_UPSTREAM_CHANGE (R681): The upstream port changes, reporting STACK_TIME_STEP when sigma moves. -/
  | stackUpstreamChange
  /-- HELLO_SEND (R687): Every 1 ms a device sends a HELLO message. -/
  | helloSend
  /-- HELLO_RECEIVED (R687): A HELLO updates the members bitmap and detects duplicate STACK_IDs. -/
  | helloReceived (m : SbMsg) (tagOk : Bool)
  /-- MEMBER_HELLO_TIMEOUT (R687): No HELLO for 3 ms removes a member from members. -/
  | memberHelloTimeout (m : Fin 8)
  /-- PROXY_REQUEST_RECEIVED (R686): A proxied command arrives at the named member and runs in MB4. -/
  | proxyRequestReceived (m : SbMsg) (tagOk : Bool)
  /-- PROXY_RESPONSE_RECEIVED (R686): A proxy response returns to the originating mailbox. -/
  | proxyResponseReceived (m : SbMsg) (tagOk : Bool)
  /-- PROXY_TIMEOUT (R686): No proxy response within proxy_timeout, so the mailbox returns TIMEOUT. -/
  | proxyTimeout (m : Fin 8)
  /-- FORWARDED_EVENT_RECEIVED (R689): An event record forwarded by a member is delivered by the acting master. -/
  | forwardedEventReceived (m : SbMsg) (tagOk : Bool)
  /-- HL_SIGNAL_DETECT (R646): A lane's input amplitude crosses its signal thresholds for 1 us. -/
  | hlSignalDetect (u : Fin 32) (present : Bool)
  /-- HL_LOCK_CHANGE (R646): A lane gains or loses CDR lock with its BER criterion over a slow tick. -/
  | hlLockChange (u : Fin 32) (cdr : Bool) (ber : Nat)
  /-- HL_ADAPT_TIMEOUT (R647): 50 ms in HL_ADAPTING restarts adaptation, raising HL_ADAPT_FAIL after 8. -/
  | hlAdaptTimeout (u : Fin 32)
  /-- HL_POLARITY (R649): No alignment lock within 10 ms, so inverted data is tested and polarity fixed. -/
  | hlPolarity (u : Fin 32) (locks : Bool)
  /-- HL_DESKEW_FAIL (R651): A client's lanes fail deskew. -/
  | hlDeskewFail (first : Fin 32) (exceeds : Bool)
  /-- HL_REFCLK_LOSS (R642): A lane group's reference shows no edge for 1 us. -/
  | hlRefclkLoss (k : Fin 8)
  /-- HL_RESET_RELEASE (R662): One control tick after HL_RESET the lane group leaves reset. -/
  | hlResetRelease (k : Fin 8)
  /-- EYE_SCAN_COMPLETE (R654): An eye scan completes or aborts and its DEFERRED_DONE is raised. -/
  | eyeScanComplete (u : Fin 32) (maps : List Byte)
  /-- FAULT_EVENT (R747): A fault source reports an event that is classified, logged and drives the fault state and
  reactions. -/
  | faultEvent (l : List FaultEntry)
  /-- FAULT_REACTION (R754): Configured reactions of a fault begin at the next control-tick boundary in the order of
  R755. -/
  | faultReaction
  /-- FAULT_QUIET_EXPIRY (R749): A source's quiet period ends and it returns to QUIET or latches. -/
  | faultQuietExpiry (id inst : Nat)
  /-- RECOVERY_PHASE_END (R743): The recovery_s timer of a domain's sources expires. -/
  | recoveryPhaseEnd (d : Domain)
  /-- FAULT_INJECT_DONE (R763): An armed injection has made count checks and reports the checks marked injected. -/
  | faultInjectDone (id inst quiet : Nat)
  /-- BLACKBOX_COPY (R767): A class F record is copied to the NAND black box within 1 s. -/
  | blackboxCopy
  /-- BOOT_HEADER_READ (R776): The ROM selects a valid boot header copy or the default header. -/
  | bootHeaderRead
  /-- FIRMWARE_VERIFIED (R781): The ROM accepts or refuses firmware slot images and runs the accepted one. -/
  | firmwareVerified (a b p : FwImageIn)
  /-- SRAM_SELF_TEST_COMPLETE (R785): SRAM self-test ends with repair, a carrier powered off, or boot stopped. -/
  | sramSelfTestComplete (car : Two Bool) (other : Option Nat)
  /-- DRAM_TRAINING_COMPLETE (R786): DRAM training completes or fails at boot. -/
  | dramTrainingComplete (failed : Option (Fin 4)) (nand : Option NandIn)
  /-- BOOT_ACCORD (R787): The boot Accord is loaded, staged and switched, or BOOT_ACCORD_FAIL is raised. -/
  | bootAccord (x : BootAccordIn)
  /-- STARTUP_SCRIPT (R788): Startup script records run as MB1 commands until the end or the first failure. -/
  | startupScript
  /-- FW_READY (R789): Boot reaches READY, ending the STARTUP phase and writing cancelled DEFERRED_DONEs. -/
  | fwReady
  /-- AVS_FAIL (R871): The regulator fails to acknowledge or VDD_CORE stays out of range. -/
  | avsFail
  /-- TJ_HIGH (R884): A sensor exceeds 105 °C for 10 slow ticks, or all fall below 100 °C for 10. -/
  | tjHigh
  /-- NAND_PATROL (R799): The weekly NAND read of data blocks rewrites blocks that need it. -/
  | nandPatrol (ue : List (Nat × Nat)) (w : WearIn)
  /-- NAND_BLOCK_GROWN (R797): A NAND program or erase fails and the block is marked grown-bad. -/
  | nandBlockGrown
  /-- FLASH_ERASE_COMPLETE (R800): A NAND block or NOR sector erase completes and held commands run. -/
  | flashEraseComplete (u : FlashUnit) (ok : Bool)
  /-- OTP_BURN_COMPLETE (R855): An OTP burn completes and its DEFERRED_DONE reports the result. -/
  | otpBurnComplete (ok : Bool)
  /-- FW_ACTIVATE_COMPLETE (R783): Verification of the inactive firmware slot ends and the trial is set up. -/
  | fwActivateComplete (x : FwImageIn)
  /-- DMA_TRANSFER_COMPLETE (R633): A command's DMA transfer ends and the rest of the command waits to finish. -/
  | dmaTransferComplete (mb : Fin 5) (ue : Bool)
  /-- EVENT_DELIVERY (R635): An event record is written to each matching ring or the polled FIFO. -/
  | eventDelivery
  /-- EVENT_LOSS (R823): Room returns at a destination, so an EVENT_LOSS record is written first. -/
  | eventLoss (d : Fin 65)
  /-- MSIX_COALESCE_EXPIRY (R827): A ring's coalescing interval ends and its MSI-X message is sent. -/
  | msixCoalesceExpiry (k : Fin 64)
  /-- BOOT_DOORBELL (R778): The host rings the boot doorbell with the length of the PCIe boot image. -/
  | bootDoorbell (len : BitVec 32)
  /-- IRQ_STATUS_CLEAR (R828): Writing 1 to IRQ_STATUS bits clears them and updates IRQ_N. -/
  | irqStatusClear (v : BitVec 32)
  /-- CLK_EN_WRITE (R718): A write to CLK_EN gates or enables blocks, refusing clears of blocks in use. -/
  | clkEnWrite (v : BitVec 32)
  /-- EVT_FIFO_POP (R822): Writing 1 to EVT_FIFO_POP removes the oldest record of the polled FIFO. -/
  | evtFifoPop (v : BitVec 32)
  /-- EVT_FIFO_DROP_READ (R823): Reading EVT_FIFO_DROP returns and clears the drop count. -/
  | evtFifoDropRead
  /-- RING_TAIL_WRITE (R825): The host advances RING_TAIL to free ring entries. -/
  | ringTailWrite (k : Fin 64) (v : BitVec 32)
  /-- RING_DROP_READ (R823): Reading RING_DROP returns and clears a ring's drop count. -/
  | ringDropRead (k : Fin 64)
  /-- DEBUG_WINDOW_WRITE (R810): A write through the debug window reaches the selected block page when DBG_WRITE is
  1. -/
  | debugWindowWrite (off : BitVec 23) (v : BitVec 32) (block : Option (Fin 18))
  /-- REGISTER_WRITE (R807): A write to any other directly mapped register without behaviour of its own. -/
  | registerWrite (u : Iface) (off : BitVec 16) (v : BitVec 32)
  /-- PROXIED_COMMAND (R830): A command naming another stack member is checked locally and forwarded. -/
  | proxiedCommand (op : BitVec 16) (r : Req)
  /-- DEVICE_INFO (R848): Returns firmware, Accord and OTP status of the device. -/
  | deviceInfo (r : Req)
  /-- RING_CONFIG (R827): Configures, enables or disables a host DMA ring. -/
  | ringConfig (r : Req)
  /-- OTP_PROGRAM (R855): Starts burning one OTP item. -/
  | otpProgram (r : Req)
  /-- ACCORD_LIST (R850): Returns the records of all store slots. -/
  | accordList (r : Req)
  /-- ACCORD_LOAD (R849): Loads an Accord image chunk, DMA copy or library entry into a store slot. -/
  | accordLoad (r : Req)
  /-- ACCORD_INFO (R850): Returns one slot record and its image header. -/
  | accordInfo (r : Req)
  /-- ACCORD_REPORT (R98): Returns the planner report of a stored Accord. -/
  | accordReport (r : Req)
  /-- ACCORD_STAGE (R63): Starts copying an Accord into the standby set. -/
  | accordStage (r : Req)
  /-- ACCORD_SWITCH (R69): Schedules a switch to the standby Accord at instant T. -/
  | accordSwitch (r : Req)
  /-- ACCORD_CANCEL (R65): Stops staging, unschedules a switch or cancels held Accord commands. -/
  | accordCancel (r : Req)
  /-- ACCORD_DELETE (R59): Frees a store slot. -/
  | accordDelete (r : Req)
  /-- ACCORD_VERSION_COMMIT (R60): Advances the OTP Accord anti-rollback counter. -/
  | accordVersionCommit (r : Req)
  /-- ACCORD_LIMITS (R46): Returns limits, default and present value of the RT settings of a command. -/
  | accordLimits (r : Req)
  /-- ENGINE_STATUS (R95): Returns engine counters. -/
  | engineStatus (r : Req)
  /-- ENGINE_READ (R96): Returns engine or cluster memory taken at a control-tick boundary. -/
  | engineRead (r : Req)
  /-- TX_CONFIG (R178): Sets ramp, skew, imbalance and notch settings of a transmitter. -/
  | txConfig (r : Req)
  /-- TX_ENABLE (R180): Enables or disables a carrier transmitter. -/
  | txEnable (r : Req)
  /-- TX_STATUS (R181): Returns transmitter state and counters. -/
  | txStatus (r : Req)
  /-- TX_PREEMPH (R179): Sets the pre-emphasis coefficients of one DAC. -/
  | txPreemph (r : Req)
  /-- RX_CONFIG (R236): Sets receive orientation, CD hint, staging and related settings. -/
  | rxConfig (r : Req)
  /-- RX_ENABLE (R237): Enables or disables a carrier receiver. -/
  | rxEnable (r : Req)
  /-- RX_STATUS (R240): Returns receiver state and counters. -/
  | rxStatus (r : Req)
  /-- RX_MONITOR (R241): Returns SNR, CD, DGD and other receive monitors. -/
  | rxMonitor (r : Req)
  /-- RX_REACQUIRE (R238): Sends the receiver back to CD_SEARCH with the chosen hint. -/
  | rxReacquire (r : Req)
  /-- LINE_AGREE (R239): Proposes an ACCORD switch-count agreement to the far end. -/
  | lineAgree (r : Req)
  /-- CAL_READ (R138): Returns trims and states of one converter. -/
  | calRead (r : Req)
  /-- CAL_CONFIG (R136): Sets calibration, swap hold, spares threshold, swap_defer and tx_map. -/
  | calConfig (r : Req)
  /-- CAL_SWAP (R137): Requests one slice or cell swap. -/
  | calSwap (r : Req)
  /-- CONV_PORT_STATUS (R139): Returns port conditions, self-test map and fe_map. -/
  | convPortStatus (r : Req)
  /-- CONV_SELFTEST (R140): Starts the converter loop self-test. -/
  | convSelftest (r : Req)
  /-- CARRIER_LOOPBACK (R667): Sets the line loopback of a carrier. -/
  | carrierLoopback (r : Req)
  /-- FEC_CONFIG (R280): Sets early termination and BER thresholds. -/
  | fecConfig (r : Req)
  /-- FEC_STATUS (R281): Returns FEC parameters, latency and calendar use. -/
  | fecStatus (r : Req)
  /-- FEC_COUNTERS (R282): Returns running or snapshot FEC counters. -/
  | fecCounters (r : Req)
  /-- FEC_CLEAR (R283): Zeroes running FEC counters at the next control tick. -/
  | fecClear (r : Req)
  /-- FEC_POOL_STATUS (R284): Returns decoder pool power and per-core records. -/
  | fecPoolStatus (r : Req)
  /-- FEC_INJECT (R285): Starts or stops coded-bit error injection. -/
  | fecInject (r : Req)
  /-- LINE_CONFIG (R339): Sets TIM modes, consequent-action mask and DEG/SD parameters. -/
  | lineConfig (r : Req)
  /-- LINE_DEFECTS (R341): Returns defect vectors and line counters. -/
  | lineDefects (r : Req)
  /-- LINE_TTI (R340): Sets a transmitted or expected TTI. -/
  | lineTti (r : Req)
  /-- LINE_TTI_READ (R340): Returns the accepted SM and PM TTIs. -/
  | lineTtiRead (r : Req)
  /-- OHP_CONFIG (R342): Enables overhead port directions and sets ins_mask. -/
  | ohpConfig (r : Req)
  /-- OHP_STATUS (R343): Returns overhead port status and slip counts. -/
  | ohpStatus (r : Req)
  /-- LINE_CLEAR (R341): Zeroes line counters. -/
  | lineClear (r : Req)
  /-- TRIB_CONFIG (R356): Sets enable, LCK, TIM mode and masks of a tributary. -/
  | tribConfig (r : Req)
  /-- TRIB_STATUS (R357): Returns tributary defects, TTI and counts. -/
  | tribStatus (r : Req)
  /-- TRIB_TTI (R357): Sets a tributary TTI. -/
  | tribTti (r : Req)
  /-- GROUP_CONFIG (R367): Sets deskew_guard of a line group. -/
  | groupConfig (r : Req)
  /-- GROUP_STATUS (R368): Returns line group status. -/
  | groupStatus (r : Req)
  /-- PROT_CONFIG (R387): Sets RT fields of a protection scheme. -/
  | protConfig (r : Req)
  /-- PROT_CLEAR (R383): PROT_COMMAND CLEAR removes LO, FS and MS and ends WTR. -/
  | protClear (r : Req)
  /-- PROT_LOCKOUT (R388): PROT_COMMAND LOCKOUT requests lockout of protection. -/
  | protLockout (r : Req)
  /-- PROT_FORCED (R388): PROT_COMMAND FORCED requests a forced switch. -/
  | protForced (r : Req)
  /-- PROT_MANUAL_P (R388): PROT_COMMAND MANUAL_P requests a manual switch to protection. -/
  | protManualP (r : Req)
  /-- PROT_MANUAL_W (R388): PROT_COMMAND MANUAL_W requests a manual switch to working. -/
  | protManualW (r : Req)
  /-- PROT_REALIGN (R379): PROT_COMMAND REALIGN realigns the merge release. -/
  | protRealign (r : Req)
  /-- PROT_STATUS (R389): Returns protection scheme status. -/
  | protStatus (r : Req)
  /-- CRYPTO_CONFIG (R427): Sets crypt_enable, auth_fail_n and carrier_id. -/
  | cryptoConfig (r : Req)
  /-- CRYPTO_KEY_LOAD (R404): Unwraps and loads a key into a line slot or KME context. -/
  | cryptoKeyLoad (r : Req)
  /-- CRYPTO_ROLL (R405): Starts a transmit key roll into the other slot. -/
  | cryptoRoll (r : Req)
  /-- CRYPTO_STATUS (R429): Returns key slot states and cipher counters. -/
  | cryptoStatus (r : Req)
  /-- CRYPTO_ZEROIZE (R420): Erases all key material by command. -/
  | cryptoZeroize (r : Req)
  /-- CRYPTO_ALARM_CLEAR (R422): Clears the crypto_alarm latch when its sources have been absent long enough. -/
  | cryptoAlarmClear (r : Req)
  /-- OSTC_CONFIG (R458): Sets OSTC transmission, reception, tone, depth and auth. -/
  | ostcConfig (r : Req)
  /-- OSTC_SEND (R459): Queues a MGMT message for the OSTC or NSO path. -/
  | ostcSend (r : Req)
  /-- OSTC_RECV (R460): Returns and removes the oldest received message. -/
  | ostcRecv (r : Req)
  /-- OSTC_STATUS (R461): Returns OSTC state and counters. -/
  | ostcStatus (r : Req)
  /-- OSTC_CLEAR (R461): Zeroes OSTC counters. -/
  | ostcClear (r : Req)
  /-- TIMING_REF_CONFIG (R504): Sets rank, quality level and limits of a candidate. -/
  | timingRefConfig (r : Req)
  /-- TIMING_SEL_CONFIG (R505): Sets selection mode and timers. -/
  | timingSelConfig (r : Req)
  /-- TIMING_DPLL_CONFIG (R506): Sets DPLL bandwidth, lock and holdover parameters. -/
  | timingDpllConfig (r : Req)
  /-- TIMING_CLEAR (R475): TIMING_COMMAND CLEAR removes a forced candidate and forced holdover. -/
  | timingClear (r : Req)
  /-- TIMING_FORCE (R475): TIMING_COMMAND FORCE stores a forced candidate. -/
  | timingForce (r : Req)
  /-- TIMING_HOLDOVER (R507): TIMING_COMMAND HOLDOVER forces holdover, or LOST without history. -/
  | timingHoldover (r : Req)
  /-- CLEAR_WTR (R469): TIMING_COMMAND CLEAR_WTR makes a WAIT_RESTORE candidate AVAILABLE. -/
  | clearWtr (r : Req)
  /-- SILLAGE_SAVE (R496): TIMING_COMMAND SILLAGE_SAVE writes a Sillage snapshot. -/
  | sillageSave (r : Req)
  /-- SILLAGE_RESET (R497): TIMING_COMMAND SILLAGE_RESET discards records, model and snapshot. -/
  | sillageReset (r : Req)
  /-- OSC_TEMP (R507): TIMING_COMMAND OSC_TEMP gives the oscillator temperature. -/
  | oscTemp (r : Req)
  /-- TIMING_STATUS (R508): Returns DPLL state and device time. -/
  | timingStatus (r : Req)
  /-- TIMING_REF_STATUS (R509): Returns candidate records. -/
  | timingRefStatus (r : Req)
  /-- TIMING_OUT_CONFIG (R510): Configures a CLKOUT or PPSOUT output. -/
  | timingOutConfig (r : Req)
  /-- SILLAGE_READ (R511): Returns Sillage records and model. -/
  | sillageRead (r : Req)
  /-- TTX_CONFIG (R544): Sets time-transfer enable, path, rate and auth. -/
  | ttxConfig (r : Req)
  /-- TTX_CAL_SET (R537): Sets external delays, asymmetry, calibration offset and wavelengths. -/
  | ttxCalSet (r : Req)
  /-- TTX_STATUS (R546): Returns time-transfer status and counters. -/
  | ttxStatus (r : Req)
  /-- TTX_DELAY_READ (R547): Returns internal delays and temperatures. -/
  | ttxDelayRead (r : Req)
  /-- TTX_TIME_SET (R515): Requests the seconds count of device time. -/
  | ttxTimeSet (r : Req)
  /-- PTP_PORT_CONFIG (R549): Sets PTP timestamping modes of a port. -/
  | ptpPortConfig (r : Req)
  /-- SENSE_CONFIG (R577): Configures a sensing channel. -/
  | senseConfig (r : Req)
  /-- SENSE_INFO (R578): Returns fixed values, spans and cost of a channel. -/
  | senseInfo (r : Req)
  /-- SENSE_STATUS (R579): Returns sensing counters and detector states. -/
  | senseStatus (r : Req)
  /-- SENSE_READ (R580): Returns and removes the oldest kept sensing record. -/
  | senseRead (r : Req)
  /-- SENSE_CLEAR (R579): Zeroes sensing counters. -/
  | senseClear (r : Req)
  /-- MEM_POOL_SET (R585): Starts a memory pool reconfiguration. -/
  | memPoolSet (r : Req)
  /-- MEM_STATUS (R854): Returns pool sizes, occupancy and bandwidth. -/
  | memStatus (r : Req)
  /-- MEM_SCRUB_CONFIG (R594): Sets scrub enable and period. -/
  | memScrubConfig (r : Req)
  /-- MEM_REPAIR_STATUS (R597): Returns DRAM repair status per tower. -/
  | memRepairStatus (r : Req)
  /-- MEM_CLEAR (R847): Zeroes the counters of the MEM/LEQ/BLOTTER class. -/
  | memClear (r : Req)
  /-- LEQ_PORT_CONFIG (R851): Sets key profile and queue range of an LEQ port. -/
  | leqPortConfig (r : Req)
  /-- LEQ_KEY_PROFILE (R601): Sets a key extraction profile. -/
  | leqKeyProfile (r : Req)
  /-- LEQ_TS_PROFILE (R852): Sets a timestamp profile. -/
  | leqTsProfile (r : Req)
  /-- LEQ_QUEUE_CONFIG (R615): Configures, enables or disables an LEQ queue. -/
  | leqQueueConfig (r : Req)
  /-- LEQ_QUEUE_STATUS (R615): Returns queue state, occupancy and counters. -/
  | leqQueueStatus (r : Req)
  /-- BLOTTER_ARM (R616): Arms a capture slot and allocates its buffer. -/
  | blotterArm (r : Req)
  /-- BLOTTER_TRIGGER (R618): Triggers one or all armed capture slots by command. -/
  | blotterTrigger (r : Req)
  /-- BLOTTER_STATUS (R854): Returns slot states and free capture resources. -/
  | blotterStatus (r : Req)
  /-- BLOTTER_READ (R623): Reads a capture into a ring or as a mailbox chunk. -/
  | blotterRead (r : Req)
  /-- BLOTTER_SPILL (R623): Starts copying a capture to the NAND archive. -/
  | blotterSpill (r : Req)
  /-- BLOTTER_FREE (R617): Frees a capture slot. -/
  | blotterFree (r : Req)
  /-- HL_CONFIG (R663): Configures a host lane. -/
  | hlConfig (r : Req)
  /-- HL_STATUS (R664): Returns host lane status. -/
  | hlStatus (r : Req)
  /-- HL_EYE_SCAN (R654): Starts an eye scan of a lane. -/
  | hlEyeScan (r : Req)
  /-- HL_EYE_READ (R665): Returns the last completed eye scan. -/
  | hlEyeRead (r : Req)
  /-- HL_RESET (R662): Resets a lane group for one control tick. -/
  | hlReset (r : Req)
  /-- HL_CLEAR (R664): Zeroes host lane counters. -/
  | hlClear (r : Req)
  /-- STACK_CONFIG (R695): Sets stack ports, auth, event forwarding and proxy timeout. -/
  | stackConfig (r : Req)
  /-- STACK_STATUS (R696): Returns stack roles, time and counters. -/
  | stackStatus (r : Req)
  /-- STACK_PORT_STATUS (R697): Returns one stack port's status. -/
  | stackPortStatus (r : Req)
  /-- STACK_HANDOVER (R692): Announces a hand-over to the standby. -/
  | stackHandover (r : Req)
  /-- STACK_CLEAR (R696): Zeroes stack counters. -/
  | stackClear (r : Req)
  /-- CLOCK_CONFIG (R734): Sets root order, trim source and carrier power. -/
  | clockConfig (r : Req)
  /-- CLOCK_STATUS (R735): Returns clock status. -/
  | clockStatus (r : Req)
  /-- RESET_DOMAIN (R736): Resets a chosen reset domain. -/
  | resetDomain (r : Req)
  /-- RESET_STATUS (R737): Returns domains in reset and crossing discards. -/
  | resetStatus (r : Req)
  /-- FAULT_LIST (R742): Returns source records with classes and reactions. -/
  | faultList (r : Req)
  /-- FAULT_CONFIG (R768): Sets reactions and counting parameters of a source. -/
  | faultConfig (r : Req)
  /-- FAULT_STATUS (R769): Returns the state of a source or the summary. -/
  | faultStatus (r : Req)
  /-- FAULT_LOG_READ (R770): Returns fault log records. -/
  | faultLogRead (r : Req)
  /-- FAULT_CLEAR_LATCH (R771): FAULT_CLEAR code 0 clears latches that R751 allows. -/
  | faultClearLatch (r : Req)
  /-- FAULT_CLEAR_COUNTERS (R771): FAULT_CLEAR code 1 zeroes recovery and event counters. -/
  | faultClearCounters (r : Req)
  /-- FAULT_CLEAR_FIRST_FAULT (R771): FAULT_CLEAR code 2 empties the first-fault record. -/
  | faultClearFirstFault (r : Req)
  /-- FAULT_CLEAR_LOG (R771): FAULT_CLEAR code 3 empties the fault log. -/
  | faultClearLog (r : Req)
  /-- FAULT_INJECT_ARM (R764): FAULT_INJECT action 1 arms a checker injection. -/
  | faultInjectArm (r : Req)
  /-- FAULT_INJECT_DISARM (R772): FAULT_INJECT action 0 disarms a checker injection. -/
  | faultInjectDisarm (r : Req)
  /-- FAULT_PHASE (R773): Sets or clears test mode and recovery_s. -/
  | faultPhase (r : Req)
  /-- FAULT_BLACKBOX_READ (R767): Returns black-box records. -/
  | faultBlackboxRead (r : Req)
  /-- NV_STATUS (R854): Returns boot and firmware slot status. -/
  | nvStatus (r : Req)
  /-- NV_HEADER_READ (R776): Returns the boot header copy in use. -/
  | nvHeaderRead (r : Req)
  /-- NV_HEADER_WRITE (R777): Writes the unused boot header copy. -/
  | nvHeaderWrite (r : Req)
  /-- NV_FW_WRITE (R783): Writes a chunk of the inactive firmware slot. -/
  | nvFwWrite (r : Req)
  /-- NV_FW_ACTIVATE (R783): Starts verification of the inactive firmware slot. -/
  | nvFwActivate (r : Req)
  /-- NV_FW_COMMIT (R783): Ends the firmware trial. -/
  | nvFwCommit (r : Req)
  /-- NV_FW_VERSION_COMMIT (R783): Advances the firmware anti-rollback counter. -/
  | nvFwVersionCommit (r : Req)
  /-- NV_SCRIPT_WRITE (R788): Writes a chunk of the startup script. -/
  | nvScriptWrite (r : Req)
  /-- NAND_INFO (R798): Returns NAND archive information. -/
  | nandInfo (r : Req)
  /-- ARCHIVE_LIST (R853): Returns entries of an archive area. -/
  | archiveList (r : Req)
  /-- ARCHIVE_READ (R853): Returns a chunk of an archive entry. -/
  | archiveRead (r : Req)
  /-- ARCHIVE_WRITE (R796): Writes a chunk of a library entry, committing on LAST. -/
  | archiveWrite (r : Req)
  /-- ARCHIVE_DELETE (R853): Deletes one archive entry. -/
  | archiveDelete (r : Req)
  /-- NAND_FORMAT (R795): Erases and formats the NAND archive. -/
  | nandFormat (r : Req)
  /-- DIAG_ECHO (R856): Returns its request parameters unchanged. -/
  | diagEcho (r : Req)
  /-- DIAG_SENSORS (R856): Returns temperatures, supply voltages and AVS target. -/
  | diagSensors (r : Req)
  /-- ZR_FRAME_ALIGNMENT (R309): On a carrier in a ZR mode, the frame alignment of the implementation agreement is
  declared in lock or lost, so LOF-L clears or becomes raw and the receiver moves under R895. -/
  | zrFrameAlignment (c : Carrier) (locked : Bool) (map : Nat)
  /-- ALIGNMENT_MARKER_LOCK (R649): The PCS or FlexO receive logic of a host lane gains or loses alignment-marker or
  block lock, which sets lane order (R650), fails or restores the client (R350) and makes LOF-L raw or clear on
  FlexO (R310). -/
  | alignmentMarkerLock (u : Fin 32) (gained : Bool) (id : Nat)
  /-- STACK_PORT_ALIGN (R671): A stack port's echo canceller converges and a mark is found, so the port moves from
  SB_ADAPT to SB_ALIGN and begins delay calibration. -/
  | stackPortAlign (p : Fin 4)
  /-- HL_REFCLK_RETURN (R642): Edges return on a lane group's HREFCLK reference, ending the raw condition of
  HL_REFCLK_LOSS so that its quiet period can run. -/
  | hlRefclkReturn (k : Fin 8)
  /-- MAILBOX_REQUEST_REFUSED (R815): A doorbell delivers a request that fails the length, CRC or opcode checks, so
  the device writes a refusal response with BAD_LENGTH, CRC_ERROR or BAD_OPCODE. -/
  | mailboxRequestRefused (n : Fin 4) (len : BitVec 16) (bytes : List Byte)
  /-- REQUEST_BUFFER_WRITE (R812): The host writes a mailbox request buffer in BAR2; while the buffer is locked the
  write is ignored and WRITE_LOCKED is set. -/
  | requestBufferWrite (u : Iface) (off : BitVec 24) (bytes : List Byte)
  /-- NAND_FORMAT_COMPLETE (R795): The erasure and bad-block reading started by NAND_FORMAT ends, the archive areas
  are laid out and the held command completes with DEFERRED_DONE. -/
  | nandFormatComplete (bad : Nat)
  /-- ACCORD_NAND_READ_COMPLETE (R849): The read of a NAND library entry for ACCORD_LOAD source 2 ends, so the slot
  moves to verification, or the load ends with DENIED on NAND_UE. -/
  | accordNandReadComplete (u : Fin 16) (ok : Bool)
  deriving DecidableEq, Repr

end Sys2Proof
end

