-- ==== Sys2Proof/Decode.lean ====
section
/-!
DEFINITION. The commands that words of the table spell. No row of spec/opcode_table.json gives bits: a mailbox command
comes as bytes in a request buffer (22_command_reference Table 22-1; `Machine.parseReq`), an event as no word at all.
-/
namespace Sys2Proof

/-- The command that a word spells by the table's bits: none, since no row has bits. -/
def decodeTableWord (_nbits _w : Nat) : Option Instr := none

end Sys2Proof
end

