-- ==== Sys2Proof/Machine/Device.lean ====
section
/-!
DEFINITION. Everything the device holds, as plain data: one structure per chapter, in the order of the spec's
chapters. Each field's docstring gives its meaning, its width, the rule that names it and its reset value.
-/
namespace Sys2Proof.Machine
open Sys2Proof

/-- A command that was answered PENDING and waits (R41). -/
structure Held where
  /-- opcode of the held command; 16 bits; 01_talnis_3200_at_a_glance R41 -/
  op : Nat := 0
  /-- the whole request, with its mailbox and sequence number; 01_talnis_3200_at_a_glance R41 -/
  req : Req := {}
  deriving DecidableEq, Repr

/-- State of an Accord store slot (22 Table 22-7). -/
inductive SlotState where
  | free | loading | verifying | valid | invalid
  deriving DecidableEq, Repr

/-- One Accord store slot (R56 to R59, Table 22-7). -/
structure AccordSlot where
  /-- slot state FREE, LOADING, VERIFYING, VALID or INVALID; 3 bits; 22_command_reference Table 22-7; reset FREE -/
  state : SlotState := .free
  /-- the image's bytes received so far; at most 64 MiB; 02_accords_and_loop_engines R56; reset empty -/
  image : List Byte := []
  /-- whole image length given by ACCORD_LOAD; 32 bits; 22_command_reference R849; reset 0 -/
  imageLen : Nat := 0
  /-- source of the load in progress (0 chunks, 1 DMA, 2 NAND); 8 bits; 22_command_reference R849; reset 0 -/
  source : Nat := 0
  /-- host address of a DMA load; 64 bits; 22_command_reference R849; reset 0 -/
  hostAddr : Nat := 0
  /-- library entry of a NAND load; 64 bits; 22_command_reference R849; reset 0 -/
  libEntry : Nat := 0
  /-- device time of the last chunk or of the start of the DMA copy; 22_command_reference R849; reset 0 -/
  lastAt : Time := 0
  /-- epoch boundaries since the last chunk of a chunked load; 4 bits; 22_command_reference R849; reset 0 -/
  idle : Nat := 0
  /-- the request whose load is in progress; 22_command_reference R849; reset empty -/
  req : Req := {}
  /-- what the image's sections hold, known once verified; 02_accords_and_loop_engines R57; reset the empty plan -/
  plan : Plan := {}
  deriving DecidableEq, Repr

/-- Standby set state (Table 2-2). -/
inductive Standby where
  | empty | staging | ready | scheduled | switching
  deriving DecidableEq, Repr

/-- One working set: an Accord's header and contents (02, Working sets). -/
structure WorkSet where
  /-- store slot it came from, none when no Accord; 5 bits; 02_accords_and_loop_engines R63; reset none -/
  slot : Option Nat := none
  /-- the image header of Table 2-1, empty when no Accord; 336 bytes; 02_accords_and_loop_engines R50; reset empty -/
  header : List Byte := []
  /-- the contents of the Accord's sections; 02_accords_and_loop_engines R63; reset the empty plan -/
  plan : Plan := {}
  deriving DecidableEq, Repr

/-- The Accord store, the working sets and the switch (02). -/
structure AccordSt where
  /-- the 16 store slots by number; 02_accords_and_loop_engines R56; reset all FREE -/
  slots : Tab AccordSlot := []
  /-- the active working set; 02_accords_and_loop_engines R45; reset no Accord -/
  active : WorkSet := {}
  /-- the standby working set; 02_accords_and_loop_engines R63; reset no Accord -/
  standbySet : WorkSet := {}
  /-- standby set state of Table 2-2; 3 bits; 02_accords_and_loop_engines R65; reset EMPTY -/
  standby : Standby := .empty
  /-- reference carrier of the scheduled switch; 1 bit; 02_accords_and_loop_engines R68; reset A -/
  refCarrier : Carrier := .a
  /-- after_xsf of the scheduled switch; 32 bits; 02_accords_and_loop_engines R68; reset 0 -/
  afterXsf : Nat := 0
  /-- device time at which the switch was accepted; 02_accords_and_loop_engines R69; reset 0 -/
  acceptedAt : Time := 0
  /-- control-tick boundaries since the switch was accepted; 02_accords_and_loop_engines R69; reset 0 -/
  sinceAccept : Nat := 0
  /-- instant T of the switch under way; device time; 02_accords_and_loop_engines R77; reset 0 -/
  switchT : Time := 0
  /-- partitions the switch changes: bit 0 device, 1 carrier A, 2 carrier B; 3 bits; 02_accords_and_loop_engines R71; reset 0 -/
  changed : BitVec 3 := 0
  /-- carriers whose receive tables have still to switch; 2 bits; 02_accords_and_loop_engines R74; reset none -/
  rxWait : Two Bool := ⟨false, false⟩
  /-- clusters 4 and 5 have still to begin the incoming schedules; 1 bit; 02_accords_and_loop_engines R75; reset 0 -/
  devWait : Bool := false
  /-- carriers whose clusters have still to begin the incoming schedules; 2 bits; 02_accords_and_loop_engines R76; reset none -/
  clusterWait : Two Bool := ⟨false, false⟩
  /-- ACCORD_STAGE and ACCORD_SWITCH commands held; 02_accords_and_loop_engines R66; reset none -/
  held : List Held := []
  /-- an ACCORD_LOAD held during a pool reconfiguration; 14_buffer_memory_and_latency_equaliser R586; reset none -/
  loadHeld : Option Held := none
  deriving DecidableEq, Repr

/-- Counters and memories of one loop engine (R95, Table 2-6). -/
structure EngineSt where
  /-- FG_MAX; 16 bits saturating; 02_accords_and_loop_engines R95; reset 0 -/
  fgMax : Nat := 0
  /-- BG_CYCLES; 48 bits saturating; 02_accords_and_loop_engines R95; reset 0 -/
  bgCycles : Nat := 0
  /-- BG_PASSES; 16 bits saturating; 02_accords_and_loop_engines R95; reset 0 -/
  bgPasses : Nat := 0
  /-- OVERRUNS; 16 bits saturating; 02_accords_and_loop_engines R92; reset 0 -/
  overruns : Nat := 0
  /-- TAP_VIOLATIONS; 16 bits saturating; 02_accords_and_loop_engines R88; reset 0 -/
  tapViolations : Nat := 0
  /-- SHADOW_DISCARD; 16 bits saturating; 02_accords_and_loop_engines R80; reset 0 -/
  shadowDiscard : Nat := 0
  /-- shadow tables written and not yet committed: table, value, carrier partition; 02_accords_and_loop_engines R31; reset none -/
  shadow : List ShadowWrite := []
  /-- data memory, 64 KiB; 02_accords_and_loop_engines R96; reset DESIGN CHOICE zero bytes (log 1) -/
  dataMem : List Host.Cell := []
  deriving DecidableEq, Repr

/-- The loop engines and their clusters (02, Loop engines). -/
structure EnginesSt where
  /-- the 96 engines by number; 02_accords_and_loop_engines R95; reset each at its own reset values -/
  engines : Tab EngineSt := []
  /-- cluster memories, cluster number by byte address (cluster * 2^20 + address), 6 x 1 MiB; 02_accords_and_loop_engines R96; reset DESIGN CHOICE zero bytes (log 1) -/
  clusterMem : List Host.Cell := []
  /-- coefficient tables in force in the data path, by table number; 02_accords_and_loop_engines R31; reset the Accord's initial values -/
  coef : Tab Nat := []
  deriving DecidableEq, Repr

/-- State of an ADC slice (Table 3-7). -/
inductive SliceState where
  | active | spareReady | spareCalibrating | failed
  deriving DecidableEq, Repr

/-- Trims and ages of one ADC slice or DAC segment (Tables 3-1 and 3-7). -/
structure SliceSt where
  /-- offset trim; 7 bits two's complement; 03_converters_and_trim R104; reset DESIGN CHOICE 0 (log 1) -/
  offset : Int := 0
  /-- gain trim; 8 bits two's complement; 03_converters_and_trim R104; reset DESIGN CHOICE 0 (log 1) -/
  gain : Int := 0
  /-- skew code; 10 bits; 03_converters_and_trim R104; reset DESIGN CHOICE 0 (log 1) -/
  skew : Nat := 0
  /-- ACTIVE, SPARE_READY, SPARE_CALIBRATING or FAILED; 2 bits; 03_converters_and_trim R138; reset DESIGN CHOICE slices 0 to 63 ACTIVE, 64 to 71 SPARE_CALIBRATING (log 2) -/
  state : SliceState := .spareCalibrating
  /-- interleave position (none reads 0xFF); 6 bits; 03_converters_and_trim R100; reset DESIGN CHOICE slice n at position n (log 2) -/
  position : Option Nat := none
  /-- rows of Table 3-2 that failed it; 4 bits; 03_converters_and_trim R138; reset 0 -/
  failCause : BitVec 4 := 0
  /-- milliseconds since the trims were measured, none when not measured; 32 bits saturating at 0xFFFFFFFE; 03_converters_and_trim R138; reset none (0xFFFFFFFF) -/
  calAge : Option Nat := none
  /-- seconds since it last entered or left the active set, none when never; 32 bits; 03_converters_and_trim R138; reset none -/
  swapAge : Option Nat := none
  deriving DecidableEq, Repr

/-- Cell map of one DAC segment (R102, Table 3-8). -/
structure SegSt where
  /-- physical cell in each of the 240 positions (unlisted position q holds cell q); 8 bits each; 03_converters_and_trim R102; reset DESIGN CHOICE cell q in position q (log 2) -/
  cellMap : Tab Nat := []
  /-- failed cells; 256 bits; 03_converters_and_trim R123; reset none -/
  failed : List Nat := []
  /-- spare cells measured since the converter loop started or changed rate; 256 bits; 03_converters_and_trim R137; reset none -/
  measured : List Nat := []
  deriving DecidableEq, Repr

/-- Kind of an element change (R105). -/
inductive ElemKind where
  | sliceSwap | cellSwap | tapChange
  deriving DecidableEq, Repr

/-- One element change waiting for its window (R109 to R117). -/
structure ElemChange where
  /-- slice swap, cell swap or tap change; 03_converters_and_trim R105 -/
  kind : ElemKind := .sliceSwap
  /-- DAC segment of a cell swap or tap change; 2 bits; 03_converters_and_trim R102 -/
  seg : Nat := 0
  /-- incoming spare slice or cell, or the slice of a tap change; 8 bits; 03_converters_and_trim R137 -/
  incoming : Nat := 0
  /-- position that it fills; 8 bits; 03_converters_and_trim R137 -/
  position : Nat := 0
  /-- whole skew code of a tap change; 10 bits; 03_converters_and_trim R106 -/
  skew : Nat := 0
  /-- it replaces an element declared failed; 1 bit; 03_converters_and_trim R116 -/
  forFailed : Bool := false
  /-- epochs it has been pending; 16 bits; 03_converters_and_trim R115 -/
  age : Nat := 0
  deriving DecidableEq, Repr

/-- One continuous trim waiting for its block boundary (R108). -/
structure TrimWrite where
  /-- converter 0 to 3 ADC XI XQ YI YQ, 4 to 7 DAC; 3 bits; 03_converters_and_trim R108 -/
  conv : Nat := 0
  /-- physical slice or segment; 7 bits; 03_converters_and_trim R118 -/
  elem : Nat := 0
  /-- new offset; 7 bits; 03_converters_and_trim R104 -/
  offset : Int := 0
  /-- new gain; 8 bits; 03_converters_and_trim R104 -/
  gain : Int := 0
  /-- new fine part of the skew code; 6 bits; 03_converters_and_trim R105 -/
  fine : Nat := 0
  deriving DecidableEq, Repr

/-- One ADC or DAC of a carrier. -/
structure ConvSt where
  /-- ADC slices 0 to 71 or DAC segments 0 to 3 by number; 03_converters_and_trim R104; reset see SliceSt -/
  slices : Tab SliceSt := []
  /-- cell maps of the four DAC segments; 03_converters_and_trim R102; reset see SegSt -/
  segs : Tab SegSt := []
  /-- element changes made since carrier reset; 32 bits wrapping; 03_converters_and_trim R138; reset 0 -/
  swaps : Nat := 0
  /-- device time of the last element change; 03_converters_and_trim R138; reset DESIGN CHOICE 0 (log 1) -/
  lastChange : Time := 0
  /-- control ticks of the shadow calibration now running (ADC); 10 bits; 03_converters_and_trim R121; reset 0 -/
  calTicks : Nat := 0
  /-- element changes waiting for a window; 8 bits of count; 03_converters_and_trim R138; reset none -/
  pending : List ElemChange := []
  deriving DecidableEq, Repr

/-- Port conditions (Table 3-3). -/
inductive PortCond where
  | none | open_ | shortGnd | shortSupply | shortPn | absent | overdrive
  deriving DecidableEq, Repr

/-- One analog port (R125). -/
structure PortSt where
  /-- condition declared; 3 bits; 03_converters_and_trim R125; reset none -/
  cond : PortCond := .none
  /-- device time at which it was declared; 03_converters_and_trim R139; reset DESIGN CHOICE 0 (log 1) -/
  since : Time := 0
  /-- control ticks in a row that each of the six declaring conditions has held; 4 bits each; 03_converters_and_trim R125; reset 0 -/
  declCount : Tab Nat := []
  /-- slow ticks (DAC) or control ticks (ADC) in a row that the clearing condition has held; 7 bits; 03_converters_and_trim R125; reset 0 -/
  clearCount : Nat := 0
  /-- a control tick of this slow tick found the DAC load outside 40 to 200 ohms; 1 bit; 03_converters_and_trim R125; reset 0 -/
  clearBad : Bool := false
  deriving DecidableEq, Repr

/-- The converters of one carrier. -/
structure CarrierConv where
  /-- ADCs 0 to 3 and DACs 4 to 7; 03_converters_and_trim R99; reset see ConvSt -/
  convs : Tab ConvSt := []
  /-- analog ports, ADCs 0 to 3 and DACs 4 to 7; 03_converters_and_trim R125; reset see PortSt -/
  ports : Tab PortSt := []
  /-- the carrier's converter loop runs; 1 bit; 18_clocks_resets_power R733; reset 0 -/
  loopRunning : Bool := false
  /-- foreground calibration is complete since the last start or rate change; 1 bit; 03_converters_and_trim R120; reset 0 -/
  fgDone : Bool := false
  /-- continuous trims waiting for a block boundary or for the loop; 03_converters_and_trim R108; reset none -/
  trims : List TrimWrite := []
  /-- payloads of CONV_SWAP events for the next control-tick boundary; 03_converters_and_trim R137; reset none -/
  reports : List (List Byte) := []
  /-- a CONV_SELFTEST in progress; 03_converters_and_trim R140; reset none -/
  selftest : Option Held := none
  /-- map of the last self-test, one byte per DAC; 4 bytes; 03_converters_and_trim R139; reset DESIGN CHOICE 0 (log 1) -/
  lastMap : List Byte := [0, 0, 0, 0]
  /-- result of the last self-test, none when never run; 8 bits; 03_converters_and_trim R139; reset none -/
  selfResult : Option Nat := none
  /-- fe_map last received from the far end, none when never; 32 bits; 03_converters_and_trim R139; reset none -/
  feMap : Option Nat := none
  deriving DecidableEq, Repr

/-- Transmitter states (Table 4-3). -/
inductive TxState where
  | off | lead | rampUp | on | rampDown
  deriving DecidableEq, Repr

/-- The transmitter of one carrier (04). -/
structure TxSt where
  /-- state of Table 4-3; 3 bits; 04_transmit_path R170; reset TX_OFF -/
  state : TxState := .off
  /-- last recorded enable (1) or disable (0); 1 bit; 04_transmit_path R175; reset 0 -/
  commanded : Bool := false
  /-- control ticks since the start of the present ramp; 17 bits; 04_transmit_path R171; reset 0 -/
  rampDone : Nat := 0
  /-- length in control ticks of the present ramp; 17 bits; 04_transmit_path R174; reset 0 -/
  rampLen : Nat := 0
  /-- control-tick boundaries left of TX_LEAD; 16 bits; 04_transmit_path R170; reset 0 -/
  leadLeft : Nat := 0
  /-- bring-up format is being transmitted; 1 bit; 04_transmit_path R181; reset 0 (full format) -/
  bringUp : Bool := false
  /-- extended superframe count of the last transmit superframe; 32 bits wrapping; 04_transmit_path R181; reset 0 -/
  xsf : Nat := 0
  /-- device time of the last transmit superframe boundary; 07_line_framing_and_defects R294; reset 0 -/
  sfAt : Time := 0
  /-- a superframe has been sent since the last reset of the carrier domain; 1 bit; 07_line_framing_and_defects R294; reset 0 -/
  sfSent : Bool := false
  /-- TX_REVERSALS; 16 bits saturating; 04_transmit_path R173; reset 0 -/
  reversals : Nat := 0
  /-- accepted TX_CONFIG and TX_PREEMPH commands whose changes have not all taken force: the settings each changed; 16 bits of count; 04_transmit_path R181; reset none -/
  pendingCmds : List (List Nat) := []
  deriving DecidableEq, Repr

/-- Carrier states, in the order of Table 1-3. -/
inductive RxState where
  | off | powerSeen | cdSearch | clockLock | eqConverge | carrierLock | superframeLock | staged | inService
  deriving DecidableEq, Repr

/-- Kind of CD hint in use in CD_SEARCH (R200, Table 5-6). -/
inductive HintMode where
  | blind | host | last
  deriving DecidableEq, Repr

/-- State of a switch-count agreement of a carrier (Table 5-9). -/
inductive AgreeState where
  | idle | proposed | acknowledged | switched
  deriving DecidableEq, Repr

/-- The receiver of one carrier (05). -/
structure RxSt where
  /-- carrier state of Table 1-3; 4 bits; 05_receive_path R217; reset OFF -/
  state : RxState := .off
  /-- receiver enabled by RX_ENABLE; 1 bit; 05_receive_path R237; reset 0 -/
  enabled : Bool := false
  /-- loopback of Table 16-5 acted upon; 2 bits; 16_host_lanes R657; reset 0 -/
  loop : Nat := 0
  /-- control ticks since entry to the state; 05_receive_path R217; reset 0 -/
  ticks : Nat := 0
  /-- consecutive control ticks or superframes for which the state's exit condition has held; 05_receive_path R217; reset 0 -/
  exitCount : Nat := 0
  /-- device time of the last state change; 05_receive_path R240; reset DESIGN CHOICE 0 (log 1) -/
  since : Time := 0
  /-- format the receive tables are set for: bring-up (1) or full (0); 1 bit; 05_receive_path R240; reset 0 -/
  bringUp : Bool := false
  /-- conjugation hypothesis 0 none, 1 Y, 2 X, 3 both; 2 bits; 05_receive_path R193; reset 0 -/
  hypothesis : Nat := 0
  /-- receive map identified at SUPERFRAME_LOCK, as reported; 32 bits; 05_receive_path R194; reset 0x03020100 -/
  mapReported : Nat := 0x03020100
  /-- hint in use in CD_SEARCH; 05_receive_path R200; reset blind -/
  hint : HintMode := .blind
  /-- the hinted search of this visit has continued as a blind search; 1 bit; 05_receive_path R201; reset 0 -/
  hintMissed : Bool := false
  /-- last CD estimate in ps/nm; 32 bits signed; 05_receive_path R203; reset DESIGN CHOICE 0 (log 1) -/
  cdEst : Int := 0
  /-- the estimate of this visit lies outside the range of R197; 1 bit; 05_receive_path R202; reset 0 -/
  cdOutOfRange : Bool := false
  /-- I/Q imbalance corrections of X and Y gain and phase held when fe_auto bit 1 is clear; four 8-bit signed values; 05_receive_path R190; reset DESIGN CHOICE 0 (log 1) -/
  imbalance : List Int := [0, 0, 0, 0]
  /-- consecutive EQ_CONVERGE timeouts; 3 bits; 05_receive_path R196; reset 0 -/
  eqTimeouts : Nat := 0
  /-- control ticks in a row with the timing error lock metric below threshold; 14 bits; 05_receive_path R219; reset 0 -/
  clockBad : Nat := 0
  /-- control ticks in a row with the modulus or decision error above threshold; 14 bits; 05_receive_path R219; reset 0 -/
  errBad : Nat := 0
  /-- consecutive superframes without the sync pattern at its predicted position; 3 bits; 05_receive_path R219; reset 0 -/
  syncMiss : Nat := 0
  /-- ACQ_RETRIES; 16 bits saturating; 05_receive_path R219; reset 0 -/
  acqRetries : Nat := 0
  /-- ages in slow ticks of the falls inside the window of 60,000; 05_receive_path R222; reset none -/
  falls : List Nat := []
  /-- RX_SLIPS; 32 bits saturating; 05_receive_path R185; reset 0 -/
  slips : Nat := 0
  /-- RX_RECENTRE; 32 bits saturating; 05_receive_path R209; reset 0 -/
  recentre : Nat := 0
  /-- CYCLE_SLIPS; 32 bits saturating; 05_receive_path R212; reset 0 -/
  cycleSlips : Nat := 0
  /-- cycle slips in the present epoch; 05_receive_path R242; reset 0 -/
  epochSlips : Nat := 0
  /-- RX_HINT_MISS; 16 bits saturating; 05_receive_path R201; reset 0 -/
  hintMiss : Nat := 0
  /-- delay_corr in units of 2^-16 ns; 32 bits signed; 05_receive_path R214; reset DESIGN CHOICE 0 (log 1) -/
  delayCorr : Int := 0
  /-- monitors of Table 5-5 as averaged over the last slow tick; 05_receive_path R241; reset DESIGN CHOICE 0 (log 1) -/
  monitor : RxMonitor := {}
  /-- sums of the monitors over the present slow tick (its highest `sop_rate`); 05_receive_path R216; reset 0 -/
  acc : RxMonitor := {}
  /-- control ticks in those sums; 10 bits; 05_receive_path R216; reset 0 -/
  accN : Nat := 0
  /-- extended count of the last received superframe, as predicted; 32 bits wrapping; 07_line_framing_and_defects R296; reset DESIGN CHOICE 0 (log 1) -/
  xsfRx : Nat := 0
  /-- the receive count is in step; 1 bit; 07_line_framing_and_defects R296; reset 0 -/
  inStep : Bool := false
  /-- ZR modes: frame alignment of the implementation agreement holds; 1 bit; 07_line_framing_and_defects R309; reset 0 -/
  zrLocked : Bool := false
  /-- last xsf of a valid NSO while out of step, none when the NSO before was not valid; 07_line_framing_and_defects R296; reset none -/
  lastXsf : Option Nat := none
  /-- consecutive valid NSOs that disagree with the predicted count; 2 bits; 07_line_framing_and_defects R296; reset 0 -/
  xsfDisagree : Nat := 0
  /-- superframes received in the full format since the receive-side format switch, none when not watched; 05_receive_path R235; reset none -/
  stageSf : Option Nat := none
  /-- agreement state of Table 5-9; 2 bits; 05_receive_path R240; reset idle -/
  agree : AgreeState := .idle
  /-- the record sent in every transmit superframe; 16 bytes; 05_receive_path R223; reset kind 0 -/
  ownRec : AgreeRec := {}
  /-- this end made the proposal in ownRec or agreed on; 1 bit; 05_receive_path R224; reset 0 -/
  proposer : Bool := false
  /-- last valid record received; 16 bytes; 05_receive_path R223; reset kind 0 -/
  farRec : AgreeRec := {}
  /-- number of the next proposal; 8 bits wrapping; 05_receive_path R223; reset DESIGN CHOICE 0 (log 1) -/
  nextSeq : Nat := 0
  /-- transmit superframes since the proposal; 9 bits; 05_receive_path R227; reset 0 -/
  proposalAge : Nat := 0
  /-- agreed transmit switch count, none when done or not agreed; 32 bits; 05_receive_path R228; reset none -/
  txCount : Option Nat := none
  /-- agreed receive switch count, none when done or not agreed; 32 bits; 05_receive_path R228; reset none -/
  rxCount : Option Nat := none
  /-- last agreed receive switch count as reported; 32 bits; 05_receive_path R240; reset 0 -/
  agreeCount : Nat := 0
  /-- kind of the agreement acknowledged, 0 none; 2 bits; 05_receive_path R228; reset 0 -/
  agreedKind : Nat := 0
  /-- epoch boundaries counted toward stage_retry, none when no retry runs; 05_receive_path R227; reset none -/
  retryEpochs : Option Nat := none
  /-- transmit superframes left of a random withdrawal, none when none; 5 bits; 05_receive_path R226; reset none -/
  backoff : Option Nat := none
  /-- kind of the proposal withdrawn, to be proposed again; 2 bits; 05_receive_path R226; reset 0 -/
  againKind : Nat := 0
  deriving DecidableEq, Repr

/-- The counts of Table 6-5 over a window. -/
structure FecCounts where
  /-- in_cw; 64 bits saturating; 06_forward_error_correction R282; reset 0 -/
  inCw : Nat := 0
  /-- in_bits_corr; 64 bits saturating; 06_forward_error_correction R282; reset 0 -/
  inBitsCorr : Nat := 0
  /-- in_cw_corr; 64 bits saturating; 06_forward_error_correction R282; reset 0 -/
  inCwCorr : Nat := 0
  /-- in_cw_unconv; 64 bits saturating; 06_forward_error_correction R282; reset 0 -/
  inCwUnconv : Nat := 0
  /-- out_cw; 64 bits saturating; 06_forward_error_correction R282; reset 0 -/
  outCw : Nat := 0
  /-- out_bits_corr; 64 bits saturating; 06_forward_error_correction R282; reset 0 -/
  outBitsCorr : Nat := 0
  /-- out_cw_corr; 64 bits saturating; 06_forward_error_correction R282; reset 0 -/
  outCwCorr : Nat := 0
  /-- out_cw_uncorr; 64 bits saturating; 06_forward_error_correction R282; reset 0 -/
  outCwUncorr : Nat := 0
  /-- frames_marked; 64 bits saturating; 06_forward_error_correction R282; reset 0 -/
  framesMarked : Nat := 0
  /-- iter_hist[0..15]; 16 counters of 64 bits saturating; 06_forward_error_correction R282; reset 0 -/
  iterHist : Tab Nat := []
  /-- llr_hist[0..7]; 8 counters of 64 bits saturating; 06_forward_error_correction R282; reset 0 -/
  llrHist : Tab Nat := []
  /-- llr_sat; 64 bits saturating; 06_forward_error_correction R282; reset 0 -/
  llrSat : Nat := 0
  /-- coded bits of converged codewords, the divisor of pre_ber; 06_forward_error_correction R274; reset 0 -/
  convBits : Nat := 0
  /-- last NGMI estimate, binary32 bits; 32 bits; 06_forward_error_correction R266; reset DESIGN CHOICE 0 (log 1) -/
  ngmi : Nat := 0
  /-- uncorr_epochs; 32 bits saturating; 06_forward_error_correction R282; reset 0 -/
  uncorrEpochs : Nat := 0
  /-- device time at which the window began; 06_forward_error_correction R282; reset 0 -/
  start : Time := 0
  deriving DecidableEq, Repr

/-- Error injection of a transmitter (R285). -/
structure FecInject where
  /-- injection runs; 1 bit; 06_forward_error_correction R285; reset 0 -/
  on : Bool := false
  /-- pattern 0 random, 1 bursts; 8 bits; 06_forward_error_correction R285; reset 0 -/
  pattern : Nat := 0
  /-- bit error ratio, binary32 bits; 32 bits; 06_forward_error_correction R285; reset 0 -/
  ratio : Nat := 0
  /-- burst length in bits; 32 bits; 06_forward_error_correction R285; reset 0 -/
  burst : Nat := 0
  deriving DecidableEq, Repr

/-- FEC state of one carrier (06). -/
structure FecSt where
  /-- running counters of Table 6-5; 06_forward_error_correction R273; reset 0 -/
  run : FecCounts := {}
  /-- epoch snapshot of Table 6-5; 06_forward_error_correction R277; reset 0 -/
  snap : FecCounts := {}
  /-- values accumulated in the present epoch; 06_forward_error_correction R277; reset 0 -/
  epoch : FecCounts := {}
  /-- a FEC_CLEAR waits for its control-tick boundary; 1 bit; 06_forward_error_correction R276; reset 0 -/
  clearWaits : Bool := false
  /-- per epoch of the last 60: bits changed and coded bits of converged codewords, newest first; 06_forward_error_correction R278; reset none -/
  berHist : List (Nat × Nat) := []
  /-- FEC_BER_HIGH has been raised and FEC_BER_OK not since; 1 bit; 06_forward_error_correction R278; reset 0 -/
  berHigh : Bool := false
  /-- uncorrectable outer codewords in this slow tick; 06_forward_error_correction R279; reset 0 -/
  uncorrTick : Nat := 0
  /-- iterations and converged codewords of this slow tick; 06_forward_error_correction R281; reset 0 -/
  iterTick : Nat × Nat := (0, 0)
  /-- iterations and converged codewords of the last slow tick; 06_forward_error_correction R281; reset 0 -/
  iterLast : Nat × Nat := (0, 0)
  /-- bits changed and coded bits of converged codewords in each of the last 1,000 slow ticks, newest first (the window of SD); 07_line_framing_and_defects R318; reset none -/
  sdBits : List (Nat × Nat) := []
  /-- bits changed and coded bits of converged codewords in this slow tick; 07_line_framing_and_defects R318; reset 0 -/
  sdNow : Nat × Nat := (0, 0)
  /-- calendar slots per period used by the carrier in the last calendar period; 06_forward_error_correction R281; reset 0 -/
  slotsUsed : Nat := 0
  /-- error injection in force on the transmitter; 06_forward_error_correction R285; reset off -/
  inject : FecInject := {}
  /-- error injection accepted and waiting for its boundary; 06_forward_error_correction R285; reset none -/
  injectNext : Option FecInject := none
  deriving DecidableEq, Repr

/-- One LDPC core of the decoder pool (R257, R284). -/
structure CoreSt where
  /-- the core is retired; 1 bit; 06_forward_error_correction R263; reset 0 -/
  retired : Bool := false
  /-- a retirement waits for the next calendar period; 1 bit; 06_forward_error_correction R263; reset 0 -/
  retireWaits : Bool := false
  /-- iterations executed in this epoch; 32 bits; 06_forward_error_correction R284; reset 0 -/
  iters : Nat := 0
  /-- iterations executed in the last epoch; 32 bits; 06_forward_error_correction R284; reset 0 -/
  itersLast : Nat := 0
  deriving DecidableEq, Repr

/-- The decoder pool (06). -/
structure PoolSt where
  /-- the 32 cores by number; 06_forward_error_correction R257; reset none retired -/
  cores : Tab CoreSt := []
  /-- control ticks of the present calendar period; 4 bits; 06_forward_error_correction R258; reset 0 -/
  calTick : Nat := 0
  /-- iterations executed in this slow tick; 06_forward_error_correction R268; reset 0 -/
  itersTick : Nat := 0
  /-- iterations executed in the last slow tick, from which the power estimate is formed; 06_forward_error_correction R284; reset 0 -/
  itersSlow : Nat := 0
  /-- slots that the carriers have used in this calendar period; 06_forward_error_correction R281; reset 0 -/
  used : Two Nat := ⟨0, 0⟩
  deriving DecidableEq, Repr

/-- A frame candidate of a slice in HUNT (R302 to R305). -/
structure FasCand where
  /-- bit position in the frame; 17 bits; 07_line_framing_and_defects R302 -/
  pos : Nat := 0
  /-- MFAS it carried in its last frame; 8 bits; 07_line_framing_and_defects R303 -/
  mfas : Nat := 0
  /-- it has been confirmed; 1 bit; 07_line_framing_and_defects R303 -/
  confirmed : Bool := false
  /-- frames that it has been held after confirmation together with others; 2 bits; 07_line_framing_and_defects R305 -/
  held : Nat := 0
  /-- its SM BIP-8 has matched; 1 bit; 07_line_framing_and_defects R305 -/
  bipOk : Bool := false
  deriving DecidableEq, Repr

/-- Framing state of one OTUC slice on one side (Table 7-3, R301 to R306). -/
structure SliceFrame where
  /-- IN_FRAME (1) or HUNT (0) of the true search, unused in native modes; 1 bit; 07_line_framing_and_defects R301; reset HUNT -/
  inFrame : Bool := false
  /-- candidates open in HUNT, at most 4; 07_line_framing_and_defects R302; reset none -/
  cands : List FasCand := []
  /-- MFAS expected of the next frame in IN_FRAME; 8 bits; 07_line_framing_and_defects R304; reset 0 -/
  mfas : Nat := 0
  /-- OOF; 1 bit; 07_line_framing_and_defects R308; reset 0 -/
  oof : Bool := false
  /-- OOM; 1 bit; 07_line_framing_and_defects R308; reset 0 -/
  oom : Bool := false
  /-- LOF; 1 bit; 07_line_framing_and_defects R308; reset 0 -/
  lof : Bool := false
  /-- LOM; 1 bit; 07_line_framing_and_defects R308; reset 0 -/
  lom : Bool := false
  /-- consecutive FAS-errored frames; 3 bits; 07_line_framing_and_defects R308; reset 0 -/
  fasBad : Nat := 0
  /-- consecutive frames not FAS-errored; 2 bits; 07_line_framing_and_defects R308; reset 0 -/
  fasGood : Nat := 0
  /-- consecutive MFAS-errored frames; 3 bits; 07_line_framing_and_defects R308; reset 0 -/
  mfasBad : Nat := 0
  /-- consecutive frames not MFAS-errored; 2 bits; 07_line_framing_and_defects R308; reset 0 -/
  mfasGood : Nat := 0
  /-- consecutive frames with OOF held (or absent, while LOF); 12 bits; 07_line_framing_and_defects R308; reset 0 -/
  oofRun : Nat := 0
  /-- consecutive frames with OOM held (or absent, while LOM); 12 bits; 07_line_framing_and_defects R308; reset 0 -/
  oomRun : Nat := 0
  deriving DecidableEq, Repr

/-- A trail trace identifier receiver and its provisioning (R322 to R326). -/
structure TtiSt where
  /-- transmitted TTI in force; 64 bytes; 07_line_framing_and_defects R326; reset all zero -/
  tx : List Byte := List.replicate 64 0
  /-- transmitted TTI waiting for a frame with MFAS [5:0] 0; 64 bytes; 07_line_framing_and_defects R326; reset none -/
  txNext : Option (List Byte) := none
  /-- expected TTI; 64 bytes; 07_line_framing_and_defects R325; reset all zero -/
  expected : List Byte := List.replicate 64 0
  /-- accepted TTI; 64 bytes; 07_line_framing_and_defects R323; reset DESIGN CHOICE all zero (log 1) -/
  accepted : List Byte := List.replicate 64 0
  /-- a TTI has been accepted since the slice last left OOF; 1 bit; 07_line_framing_and_defects R325; reset 0 -/
  isAccepted : Bool := false
  /-- bytes of the TTI multiframe being received; up to 64 bytes; 07_line_framing_and_defects R322; reset empty -/
  part : List Byte := []
  /-- last whole TTI received; 64 bytes; 07_line_framing_and_defects R323; reset empty -/
  last : List Byte := []
  /-- consecutive multiframes that carried it; 2 bits; 07_line_framing_and_defects R323; reset 0 -/
  run : Nat := 0
  /-- TIM raw; 1 bit; 07_line_framing_and_defects R325; reset 0 -/
  tim : Bool := false
  deriving DecidableEq, Repr

/-- DEG evaluation of a layer (R317). -/
structure DegSt where
  /-- errored blocks in this epoch; 07_line_framing_and_defects R317; reset 0 -/
  errored : Nat := 0
  /-- blocks in this epoch; 07_line_framing_and_defects R317; reset 0 -/
  blocks : Nat := 0
  /-- consecutive bad epochs; 4 bits; 07_line_framing_and_defects R317; reset 0 -/
  bad : Nat := 0
  /-- consecutive good epochs; 4 bits; 07_line_framing_and_defects R317; reset 0 -/
  good : Nat := 0
  /-- DEG declared; 1 bit; 07_line_framing_and_defects R317; reset 0 -/
  deg : Bool := false
  deriving DecidableEq, Repr

/-- Persistence of a STAT code (rank 7 and Table 7-5). -/
structure StatSt where
  /-- last STAT code; 3 bits; 07_line_framing_and_defects R312; reset DESIGN CHOICE 0 (log 1) -/
  last : Nat := 0
  /-- consecutive frames that carried it; 2 bits; 07_line_framing_and_defects R312; reset 0 -/
  run : Nat := 0
  /-- the STAT code accepted after 3 consecutive frames; 3 bits; 07_line_framing_and_defects R312; reset DESIGN CHOICE 0 (log 1) -/
  accepted : Nat := 0
  deriving DecidableEq, Repr

/-- Defects and line counters of one side of a carrier: the line or the host FlexO (Tables 7-10 and 7-11). -/
structure SideSt where
  /-- raw vector of Table 7-11, bits 19 and 18 zero; 32 bits; 07_line_framing_and_defects R311; reset 0 -/
  raw : BitVec 20 := 0
  /-- reported vector of Table 7-11; 32 bits; 07_line_framing_and_defects R311; reset 0 -/
  reported : BitVec 20 := 0
  /-- reported vector at the last LINE_DEFECT evaluation; 32 bits; 07_line_framing_and_defects R316; reset 0 -/
  reportedTick : BitVec 20 := 0
  /-- device time of the last change of reported; 07_line_framing_and_defects R341; reset DESIGN CHOICE 0 (log 1) -/
  since : Time := 0
  /-- any defect of ranks 1 to 8 was reported in this epoch; 1 bit; 07_line_framing_and_defects R317; reset 0 -/
  spoiled : Bool := false
  /-- framing of slices 1 to 16; 07_line_framing_and_defects R308; reset see SliceFrame -/
  slices : Tab SliceFrame := []
  /-- SM and PM trail trace identifiers (PM is the second); 07_line_framing_and_defects R322; reset see TtiSt -/
  smTti : TtiSt := {}
  /-- PM trail trace identifier; 07_line_framing_and_defects R322; reset see TtiSt -/
  pmTti : TtiSt := {}
  /-- PM STAT persistence; 07_line_framing_and_defects R312; reset see StatSt -/
  stat : StatSt := {}
  /-- consecutive frames with SM BDI 1 and with SM BDI 0; 3 bits each; 07_line_framing_and_defects R312; reset 0 -/
  smBdi : Nat × Nat := (0, 0)
  /-- consecutive frames with PM BDI 1 and with PM BDI 0; 3 bits each; 07_line_framing_and_defects R312; reset 0 -/
  pmBdi : Nat × Nat := (0, 0)
  /-- SM DEG; 07_line_framing_and_defects R317; reset see DegSt -/
  smDeg : DegSt := {}
  /-- PM DEG; 07_line_framing_and_defects R317; reset see DegSt -/
  pmDeg : DegSt := {}
  /-- frame periods marked in this slow tick; 07_line_framing_and_defects R318; reset 0 -/
  marksNow : Nat := 0
  /-- frame periods marked in each of the last 1,000 slow ticks, newest first; 07_line_framing_and_defects R318; reset none -/
  marks : List Nat := []
  /-- FAS_CONTEST; 16 bits wrapping; 07_line_framing_and_defects R305; reset 0 -/
  fasContest : Nat := 0
  /-- NSO_CRC_ERR; 32 bits wrapping; 07_line_framing_and_defects R293; reset 0 -/
  nsoCrcErr : Nat := 0
  /-- XSF_STEPS; 16 bits wrapping; 07_line_framing_and_defects R296; reset 0 -/
  xsfSteps : Nat := 0
  /-- SM_BIP_ERR; 64 bits wrapping; 07_line_framing_and_defects R341; reset 0 -/
  smBipErr : Nat := 0
  /-- PM_BIP_ERR; 64 bits wrapping; 07_line_framing_and_defects R341; reset 0 -/
  pmBipErr : Nat := 0
  /-- SM_BEI; 64 bits wrapping; 07_line_framing_and_defects R341; reset 0 -/
  smBei : Nat := 0
  /-- PM_BEI; 64 bits wrapping; 07_line_framing_and_defects R341; reset 0 -/
  pmBei : Nat := 0
  /-- a LINE_CLEAR waits for its control-tick boundary; 1 bit; 07_line_framing_and_defects R341; reset 0 -/
  clearWaits : Bool := false
  deriving DecidableEq, Repr

/-- Consequent actions in force on a carrier (Table 7-6). -/
structure ActionSt where
  /-- PROT trigger on SF; 1 bit; 07_line_framing_and_defects R327; reset 0 -/
  protSf : Bool := false
  /-- PROT trigger on the SD condition; 1 bit; 07_line_framing_and_defects R327; reset 0 -/
  protSd : Bool := false
  /-- CLIENT_AIS; 1 bit; 07_line_framing_and_defects R327; reset 0 -/
  clientAis : Bool := false
  /-- SM BDI transmitted; 1 bit; 07_line_framing_and_defects R327; reset 0 -/
  smBdi : Bool := false
  /-- PM BDI transmitted; 1 bit; 07_line_framing_and_defects R327; reset 0 -/
  pmBdi : Bool := false
  /-- LINE_AIS sent; 1 bit; 07_line_framing_and_defects R327; reset 0 -/
  lineAis : Bool := false
  /-- SM BDI sent toward the host FlexO of a pass-through carrier; 1 bit; 07_line_framing_and_defects R327; reset 0 -/
  hostBdi : Bool := false
  deriving DecidableEq, Repr

/-- The overhead port of one carrier (R331 to R338). -/
structure OhpSt where
  /-- extraction runs; 1 bit; 07_line_framing_and_defects R342; reset 0 -/
  ext : Bool := false
  /-- insertion runs; 1 bit; 07_line_framing_and_defects R342; reset 0 -/
  ins : Bool := false
  /-- cycle index j of the next OHP frame; 7 bits; 07_line_framing_and_defects R333; reset 0 -/
  cycle : Nat := 0
  /-- extraction buffer, oldest first, at most 256 frames; 07_line_framing_and_defects R335; reset empty -/
  extBuf : List OhFrame := []
  /-- frames of fill the extraction buffer began with that carry no line frame; 8 bits; 07_line_framing_and_defects R335; reset 0 -/
  extPad : Nat := 0
  /-- insertion buffer, oldest first, at most 256 frames; 07_line_framing_and_defects R335; reset empty -/
  insBuf : List OhFrame := []
  /-- frames of fill the insertion buffer began with; 8 bits; 07_line_framing_and_defects R335; reset 0 -/
  insPad : Nat := 0
  /-- last frame sent on the port; 07_line_framing_and_defects R335; reset DESIGN CHOICE an empty frame (log 1) -/
  lastExt : OhFrame := {}
  /-- last frame received from the port; 07_line_framing_and_defects R335; reset DESIGN CHOICE an empty frame (log 1) -/
  lastIns : OhFrame := {}
  /-- OHP_REPEAT_EXT; 32 bits wrapping; 07_line_framing_and_defects R343; reset 0 -/
  repeatExt : Nat := 0
  /-- OHP_DROP_EXT; 32 bits wrapping; 07_line_framing_and_defects R343; reset 0 -/
  dropExt : Nat := 0
  /-- OHP_REPEAT_INS; 32 bits wrapping; 07_line_framing_and_defects R343; reset 0 -/
  repeatIns : Nat := 0
  /-- OHP_DROP_INS; 32 bits wrapping; 07_line_framing_and_defects R343; reset 0 -/
  dropIns : Nat := 0
  /-- the four slip counts of this slow tick; 07_line_framing_and_defects R336; reset 0 -/
  tick : Nat × Nat × Nat × Nat := (0, 0, 0, 0)
  deriving DecidableEq, Repr

/-- Line framing of one carrier (07). -/
structure LineSt where
  /-- line side; 07_line_framing_and_defects R341; reset see SideSt -/
  line : SideSt := {}
  /-- host FlexO side of a pass-through carrier; 07_line_framing_and_defects R310; reset see SideSt -/
  host : SideSt := {}
  /-- consequent actions in force; 07_line_framing_and_defects R327; reset none -/
  act : ActionSt := {}
  /-- the last valid received NSO; 512 bytes; 07_line_framing_and_defects R293; reset empty (none received) -/
  nso : List Byte := []
  /-- next frame number f of the received superframe; 8 bits; 07_line_framing_and_defects R287; reset 0 -/
  frame : Nat := 0
  /-- group count of the superframe being received, from the last valid group alignment field, none before one; 32 bits wrapping; 08_tributaries_groups_protection R361; reset none -/
  gxsf : Option Nat := none
  /-- overhead port; 07_line_framing_and_defects R331; reset see OhpSt -/
  ohp : OhpSt := {}
  deriving DecidableEq, Repr

/-- One tributary of a line (08). -/
structure TribSt where
  /-- raw tributary defects AIS, OCI, LCK, TIM, PLM, CSF (bits 0 to 5); 6 bits; 08_tributaries_groups_protection R320; reset 0 -/
  raw : BitVec 6 := 0
  /-- reported tributary defects; 6 bits; 08_tributaries_groups_protection R320; reset 0 -/
  reported : BitVec 6 := 0
  /-- PM STAT persistence; 07_line_framing_and_defects R320; reset see StatSt -/
  stat : StatSt := {}
  /-- PM TTI; 08_tributaries_groups_protection R357; reset see TtiSt -/
  tti : TtiSt := {}
  /-- accepted payload type, none before acceptance; 8 bits; 07_line_framing_and_defects R321; reset none -/
  payload : Option Nat := none
  /-- last payload type received and consecutive PSI multiframes that carried it; 07_line_framing_and_defects R321; reset 0 -/
  ptRun : Nat × Nat := (0, 0)
  /-- consecutive PSI multiframes with CSF set and with CSF clear; 2 bits each; 07_line_framing_and_defects R320; reset 0 -/
  csfRun : Nat × Nat := (0, 0)
  /-- PM DEG, by deg_thr and deg_m of the line; 08_tributaries_groups_protection R355; reset see DegSt -/
  deg : DegSt := {}
  /-- idles inserted by IMP; 32 bits wrapping; 08_tributaries_groups_protection R357; reset 0 -/
  idlesIns : Nat := 0
  /-- idles deleted by IMP; 32 bits wrapping; 08_tributaries_groups_protection R357; reset 0 -/
  idlesDel : Nat := 0
  /-- PM BIP-8 errored blocks; 32 bits wrapping; 08_tributaries_groups_protection R357; reset 0 -/
  bipErr : Nat := 0
  /-- the client is failed: local fault and CSF are sent in its ODUflex; 1 bit; 08_tributaries_groups_protection R350; reset 0 -/
  clientFailed : Bool := false
  /-- client AIS or local fault is sent toward the host; 1 bit; 07_line_framing_and_defects R328; reset 0 -/
  clientAis : Bool := false
  /-- PM BDI is sent for the tributary; 1 bit; 07_line_framing_and_defects R328; reset 0 -/
  pmBdi : Bool := false
  /-- STAT sent for the tributary (normal 001, OCI 110, LCK 101); 3 bits; 08_tributaries_groups_protection R354; reset DESIGN CHOICE 1 (log 3) -/
  statTx : Nat := 1
  deriving DecidableEq, Repr

/-- A group alignment record (R362). -/
structure GroupRec where
  /-- group count g; 32 bits wrapping; 08_tributaries_groups_protection R362 -/
  g : Nat := 0
  /-- carrier state of the member; 4 bits; 08_tributaries_groups_protection R362 -/
  rxState : Nat := 0
  /-- SF of the member; 1 bit; 08_tributaries_groups_protection R362 -/
  sf : Bool := false
  /-- its count is one more than that of the member's record before; 1 bit; 08_tributaries_groups_protection R365 -/
  next : Bool := true
  /-- arrival in stack time; 08_tributaries_groups_protection R362 -/
  arrival : Time := 0
  deriving DecidableEq, Repr

/-- One line group (R358 to R368). -/
structure GroupSt where
  /-- last records of each member index, newest first, at most 32; 08_tributaries_groups_protection R362; reset none -/
  recs : Tab (List GroupRec) := []
  /-- superframes since each member's last record; 2 bits each; 08_tributaries_groups_protection R365; reset 0 -/
  missing : Tab Nat := []
  /-- T_rel of the last superframe released or due; stack time; 08_tributaries_groups_protection R363; reset DESIGN CHOICE 0 (log 1) -/
  tRel : Time := 0
  /-- A_max of the last complete set of records; stack time; 08_tributaries_groups_protection R363; reset DESIGN CHOICE 0 (log 1) -/
  aMax : Time := 0
  /-- A_min of the last complete set of records; stack time; 08_tributaries_groups_protection R363; reset DESIGN CHOICE 0 (log 1) -/
  aMin : Time := 0
  /-- count g of the last superframe released; 32 bits; 08_tributaries_groups_protection R363; reset none -/
  released : Option Nat := none
  /-- LOA raw; 1 bit; 08_tributaries_groups_protection R365; reset 0 -/
  loa : Bool := false
  /-- consecutive superframes without an LOA condition; 4 bits; 08_tributaries_groups_protection R365; reset 0 -/
  clean : Nat := 0
  /-- GRP_REC_LATE; 32 bits wrapping; 08_tributaries_groups_protection R364; reset 0 -/
  recLate : Nat := 0
  deriving DecidableEq, Repr

/-- State of a merge copy (R373). -/
inductive CopyState where
  | absent | unaligned | aligned
  deriving DecidableEq, Repr

/-- One copy of a merge pair. -/
structure CopySt where
  /-- ABSENT, UNALIGNED or ALIGNED; 2 bits; 08_tributaries_groups_protection R373; reset ABSENT -/
  state : CopyState := .absent
  /-- offset from its arrival to the release, 2^-16 ns; 08_tributaries_groups_protection R374; reset DESIGN CHOICE 0 (log 1) -/
  offset : Int := 0
  /-- arrival of its last matched frame; 08_tributaries_groups_protection R374; reset DESIGN CHOICE 0 (log 1) -/
  arrival : Time := 0
  deriving DecidableEq, Repr

/-- One protection scheme, 0 to 32 (R369 to R389). -/
structure SchemeSt where
  /-- request in force, code of Table 8-5; 4 bits; 08_tributaries_groups_protection R380; reset 10 (NR) -/
  request : Nat := 10
  /-- protection (or B) selected; 1 bit; 08_tributaries_groups_protection R380; reset 0 -/
  selected : Bool := false
  /-- selection that waits for an OTUC frame boundary of the receiving line, none when the selector stands; 2 bits; 08_tributaries_groups_protection R380; reset none -/
  next : Option Bool := none
  /-- last APS request received, none shows 0xFF; 8 bits; 08_tributaries_groups_protection R389; reset none -/
  farRequest : Option Nat := none
  /-- LO stored; 1 bit; 08_tributaries_groups_protection R383; reset 0 -/
  lo : Bool := false
  /-- FS stored; 1 bit; 08_tributaries_groups_protection R383; reset 0 -/
  fs : Bool := false
  /-- MS_P (true) or MS_W (false) stored, none when neither; 2 bits; 08_tributaries_groups_protection R383; reset none -/
  ms : Option Bool := none
  /-- hold-off timers of SF_W, SF_P, SD_W, SD_P (indices 0 to 3): slow ticks left, none when the condition does not hold; 14 bits each; 08_tributaries_groups_protection R381; reset none -/
  holds : Tab (Option Nat) := []
  /-- SF_W, SF_P, SD_W, SD_P (bits 0 to 3) have held for hold_off and are requests; 4 bits; 08_tributaries_groups_protection R381; reset 0 -/
  due : BitVec 4 := 0
  /-- epochs left of WTR, none when not running; 10 bits; 08_tributaries_groups_protection R382; reset none -/
  wtr : Option Nat := none
  /-- SF_W or SD_W was a request at the last evaluation; 1 bit; 08_tributaries_groups_protection R382; reset 0 -/
  wasW : Bool := false
  /-- DNR holds; 1 bit; 08_tributaries_groups_protection R382; reset 0 -/
  dnr : Bool := false
  /-- the normal signal is bridged to protection; 1 bit; 08_tributaries_groups_protection R385; reset 0 -/
  bridged : Bool := false
  /-- selector switches; 32 bits wrapping; 08_tributaries_groups_protection R389; reset 0 -/
  switches : Nat := 0
  /-- device time of the last switch; 08_tributaries_groups_protection R389; reset DESIGN CHOICE 0 (log 1) -/
  lastSwitch : Time := 0
  /-- the last APS message received; 4 bytes; 08_tributaries_groups_protection R385; reset none -/
  aps : Option (List Byte) := none
  /-- consecutive slow ticks for which byte 3 of it differs from the local type; 6 bits; 08_tributaries_groups_protection R385; reset 0 -/
  apsDiffer : Nat := 0
  /-- PROT_APS_MISMATCH holds and the scheme runs unidirectionally; 1 bit; 08_tributaries_groups_protection R385; reset 0 -/
  uni : Bool := false
  /-- copies A and B of the merge; 08_tributaries_groups_protection R373; reset ABSENT -/
  copies : Two CopySt := ⟨{}, {}⟩
  /-- a frame has been released, so release times are in force; 1 bit; 08_tributaries_groups_protection R376; reset 0 -/
  releasing : Bool := false
  /-- a REALIGN waits for the next frame release; 1 bit; 08_tributaries_groups_protection R379; reset 0 -/
  realign : Bool := false
  /-- copy B arrival minus copy A arrival in 1/256 us; 32 bits signed; 08_tributaries_groups_protection R389; reset 0 -/
  diffDelay : Int := 0
  /-- sel_b; 32 bits wrapping; 08_tributaries_groups_protection R389; reset 0 -/
  selB : Nat := 0
  /-- MERGE_BOTH_BAD; 32 bits wrapping; 08_tributaries_groups_protection R377; reset 0 -/
  bothBad : Nat := 0
  /-- MERGE_NONE; 32 bits wrapping; 08_tributaries_groups_protection R377; reset 0 -/
  noneCount : Nat := 0
  deriving DecidableEq, Repr

/-- Tributaries, line groups and protection (08). -/
structure TribsSt where
  /-- tributaries, keyed 128 * line + number with line 0 carrier A, 1 carrier B, 2 + g group g; 08_tributaries_groups_protection R351; reset see TribSt -/
  tribs : Tab TribSt := []
  /-- line groups 0 to 15; 08_tributaries_groups_protection R358; reset see GroupSt -/
  groups : Tab GroupSt := []
  /-- protection schemes 0 to 32; 08_tributaries_groups_protection R369; reset see SchemeSt -/
  schemes : Tab SchemeSt := []
  deriving DecidableEq, Repr

/-- State of a line key slot (R403). -/
inductive KeyState where
  | empty | loaded | active | retiring
  deriving DecidableEq, Repr

/-- One line key slot of one direction (R403). -/
structure KeySlot where
  /-- EMPTY, LOADED, ACTIVE or RETIRING; 2 bits; 09_line_encryption R403; reset EMPTY -/
  state : KeyState := .empty
  /-- AES-256 key, none when EMPTY; 256 bits; 09_line_encryption R403; reset none -/
  key : Option (BitVec 256) := none
  /-- salt; 32 bits; 09_line_encryption R403; reset 0 -/
  salt : Nat := 0
  /-- superframes used since it was activated; 32 bits; 09_line_encryption R408; reset 0 -/
  age : Nat := 0
  deriving DecidableEq, Repr

/-- Line encryption of one carrier (09). -/
structure CryptoSt where
  /-- transmit key slots 0 and 1 (a, b); 09_line_encryption R403; reset EMPTY -/
  tx : Two KeySlot := ⟨{}, {}⟩
  /-- receive key slots 0 and 1 (a, b); 09_line_encryption R403; reset EMPTY -/
  rx : Two KeySlot := ⟨{}, {}⟩
  /-- transmit roll in progress: the slot rolled to (0 or 1), none when none; 09_line_encryption R405; reset none -/
  rollTo : Option Nat := none
  /-- control-tick boundaries since CRYPTO_ROLL was accepted; 2 bits; 09_line_encryption R405; reset 0 -/
  rollTicks : Nat := 0
  /-- device time at which CRYPTO_ROLL was accepted; 09_line_encryption R405; reset 0 -/
  rollAt : Time := 0
  /-- superframes until the roll as carried in roll_in, 0 before the announcement starts; 4 bits; 09_line_encryption R405; reset 0 -/
  rollIn : Nat := 0
  /-- receive key slot predicted for the superframe, none when not predicted; 09_line_encryption R406; reset none -/
  rxSlot : Option Nat := none
  /-- the prediction is to be taken from the next valid NSO; 1 bit; 09_line_encryption R406; reset 1 -/
  rxFromNso : Bool := true
  /-- announced receive roll: received count of the switch and slot; 09_line_encryption R406; reset none -/
  rxRoll : Option (Nat × Nat) := none
  /-- last enc and kidx received; 09_line_encryption R400; reset DESIGN CHOICE none received (log 1) -/
  far : Option (Nat × Nat) := none
  /-- the last transmit superframe was encrypted; 1 bit; 09_line_encryption R395; reset 0 -/
  encLast : Bool := false
  /-- TAG_FAIL; 32 bits wrapping; 09_line_encryption R398; reset 0 -/
  tagFail : Nat := 0
  /-- TAG_MISSING; 32 bits wrapping; 09_line_encryption R398; reset 0 -/
  tagMissing : Nat := 0
  /-- SEG_PASS; 32 bits wrapping; 09_line_encryption R429; reset 0 -/
  segPass : Nat := 0
  /-- consecutive segments failed or missing; 8 bits; 09_line_encryption R399; reset 0 -/
  authBad : Nat := 0
  /-- consecutive segments passed; 7 bits; 09_line_encryption R399; reset 0 -/
  authGood : Nat := 0
  /-- AUTH-SF raw; 1 bit; 09_line_encryption R399; reset 0 -/
  authSf : Bool := false
  /-- KEY-ABSENT raw; 1 bit; 09_line_encryption R400; reset 0 -/
  keyAbsent : Bool := false
  /-- consecutive valid NSOs with enc 1 received while crypt_enable is 0; 4 bits; 09_line_encryption R402; reset 0 -/
  encSeen : Nat := 0
  /-- erasure of the carrier's slots in progress after a disable; 1 bit; 09_line_encryption R424; reset 0 -/
  erasing : Bool := false
  /-- encryption in force on the transmitter; 1 bit; 09_line_encryption R424; reset 0 -/
  txOn : Bool := false
  /-- encryption in force on the receiver; 1 bit; 09_line_encryption R427; reset 0 -/
  rxOn : Bool := false
  /-- enable held during an erasure; 09_line_encryption R424; reset none -/
  heldEnable : Option Held := none
  /-- KME_AUTH_FAIL; 32 bits wrapping; 09_line_encryption R415; reset 0 -/
  kmeAuthFail : Nat := 0
  /-- KME_REPLAY; 32 bits wrapping; 09_line_encryption R415; reset 0 -/
  kmeReplay : Nat := 0
  deriving DecidableEq, Repr

/-- One context of the key and message engine (Table 9-3). -/
structure KmeCtx where
  /-- key, none when none; 256 bits; 09_line_encryption R413; reset none -/
  key : Option (BitVec 256) := none
  /-- counter of the next message sent; 64 bits; 09_line_encryption R414; reset 1 -/
  sendCount : Nat := 1
  /-- last counter accepted, per sender; 64 bits each; 09_line_encryption R416; reset 0 -/
  lastAccepted : Tab Nat := []
  deriving DecidableEq, Repr

/-- The CRYPTO domain and the always-on alarm logic (09). -/
structure KmeSt where
  /-- contexts 0 to 5 of Table 9-3; 09_line_encryption R413; reset no keys -/
  ctxs : Tab KmeCtx := []
  /-- crypto_alarm latch; 1 bit; 09_line_encryption R422; reset 0 -/
  alarm : Bool := false
  /-- tamper and pin conditions now present, bit n for fault 0x0600 + n + 1; 8 bits; 09_line_encryption R422; reset 0 -/
  present : BitVec 8 := 0
  /-- slow ticks since each latching source (0x0601, 0x0602, 0x0603, 0x0607) was last present; 10 bits saturating at 1,001, the value of an unlisted source; 09_line_encryption R422; reset DESIGN CHOICE 1,001 (log 1) -/
  absentTicks : Tab Nat := []
  /-- the DRBG holds state; 1 bit; 09_line_encryption R411; reset DESIGN CHOICE 1, seeded at POR (log 1) -/
  drbgSeeded : Bool := true
  /-- generate requests since the last reseed; 21 bits; 09_line_encryption R411; reset 0 -/
  drbgRequests : Nat := 0
  /-- segments since each line engine's mask generator was reseeded, carrier A transmit and receive, carrier B transmit and receive; 16 bits each; 09_line_encryption R411; reset 0 -/
  maskSegs : Tab Nat := []
  deriving DecidableEq, Repr

/-- A received message kept for OSTC_RECV (R460). -/
structure RxMsg where
  /-- the message; 10_supervisory_timing_channel R460 -/
  msg : Msg := {}
  /-- path 0 OSTC, 1 NSO; 8 bits; 10_supervisory_timing_channel R460 -/
  path : Nat := 0
  /-- tone SNR x 0.01 dB; 16 bits; 10_supervisory_timing_channel R460 -/
  toneSnr : Nat := 0
  /-- burst mark; device time; 10_supervisory_timing_channel R457 -/
  mark : Time := 0
  deriving DecidableEq, Repr

/-- Receive states of Table 10-4. -/
inductive OstcRx where
  | search | triggered | qualified | receiving
  deriving DecidableEq, Repr

/-- A burst being sent (R435 to R440). -/
structure Burst where
  /-- message being sent; 10_supervisory_timing_channel R436 -/
  msg : Msg := {}
  /-- symbols of the burst; 14 bits; 10_supervisory_timing_channel R435 -/
  total : Nat := 0
  /-- symbols sent; 14 bits; 10_supervisory_timing_channel R432 -/
  sent : Nat := 0
  /-- ramp-down of R440 in progress; 1 bit; 10_supervisory_timing_channel R440 -/
  truncated : Bool := false
  /-- tone of the burst, x 125 kHz; 9 bits; 10_supervisory_timing_channel R433 -/
  tone : Nat := 64
  /-- depth of the burst, x 0.1 %; 6 bits; 10_supervisory_timing_channel R433 -/
  depth : Nat := 10
  /-- device time of the burst mark, none before it; 10_supervisory_timing_channel R457 -/
  mark : Option Time := none
  deriving DecidableEq, Repr

/-- A message being sent in or assembled from one NSO fragment slot (R446, R447). -/
structure FragSt where
  /-- bytes of the message still to send, or assembled so far; 10_supervisory_timing_channel R446; reset empty -/
  bytes : List Byte := []
  /-- number of the next fragment; 6 bits; 10_supervisory_timing_channel R446; reset 0 -/
  next : Nat := 0
  /-- a message is in progress in the slot; 1 bit; 10_supervisory_timing_channel R447; reset 0 -/
  busy : Bool := false
  deriving DecidableEq, Repr

/-- The OSTC and the management messages of one carrier (10). -/
structure OstcSt where
  /-- OSTC transmit queue in arrival order, at most 16; 10_supervisory_timing_channel R438; reset empty -/
  txq : List Msg := []
  /-- the head of the queue was truncated and is sent next; 1 bit; 10_supervisory_timing_channel R441; reset 0 -/
  kept : Bool := false
  /-- messages queued for the NSO management field in arrival order; 10_supervisory_timing_channel R448; reset empty -/
  nsoq : List Msg := []
  /-- the burst in progress; 10_supervisory_timing_channel R435; reset none -/
  burst : Option Burst := none
  /-- symbols without tone still to elapse before a burst may start; 6 bits; 10_supervisory_timing_channel R437; reset 0 -/
  gap : Nat := 0
  /-- the two NSO fragment slots being sent; 10_supervisory_timing_channel R446; reset idle -/
  fragTx : Two FragSt := ⟨{}, {}⟩
  /-- the two NSO fragment slots being received; 10_supervisory_timing_channel R447; reset idle -/
  fragRx : Two FragSt := ⟨{}, {}⟩
  /-- receive state; 2 bits; 10_supervisory_timing_channel R451; reset OSTC_SEARCH -/
  rx : OstcRx := .search
  /-- receive tone in use since the last entry to OSTC_SEARCH; 9 bits; 10_supervisory_timing_channel R458; reset 64 -/
  rxTone : Nat := 64
  /-- level Q of the qualification, x 0.01 dBFS; 16 bits signed; 10_supervisory_timing_channel R451; reset DESIGN CHOICE 0 (log 1) -/
  levelQ : Int := 0
  /-- noise floor, x 0.01 dBFS; 16 bits signed; 10_supervisory_timing_channel R450; reset DESIGN CHOICE 0 (log 1) -/
  floor : Int := 0
  /-- tone SNR of the last qualified burst, x 0.01 dB; 16 bits; 10_supervisory_timing_channel R461; reset 0 -/
  toneSnr : Nat := 0
  /-- burst mark of the reception in progress; 10_supervisory_timing_channel R457; reset none -/
  mark : Option Time := none
  /-- receive queue, oldest first, at most 16; 10_supervisory_timing_channel R456; reset empty -/
  rxq : List RxMsg := []
  /-- messages queued for OSTC_RECV in this slow tick; 10_supervisory_timing_channel R456; reset 0 -/
  queuedTick : Nat := 0
  /-- TRIGGERS; 32 bits wrapping; 10_supervisory_timing_channel R461; reset 0 -/
  triggers : Nat := 0
  /-- QUAL_FAIL; 32 bits wrapping; 10_supervisory_timing_channel R461; reset 0 -/
  qualFail : Nat := 0
  /-- FALSE_START; 32 bits wrapping; 10_supervisory_timing_channel R461; reset 0 -/
  falseStart : Nat := 0
  /-- SYNC_MISS; 32 bits wrapping; 10_supervisory_timing_channel R461; reset 0 -/
  syncMiss : Nat := 0
  /-- RX_OK; 32 bits wrapping; 10_supervisory_timing_channel R461; reset 0 -/
  rxOk : Nat := 0
  /-- LDPC_FAIL; 32 bits wrapping; 10_supervisory_timing_channel R461; reset 0 -/
  ldpcFail : Nat := 0
  /-- CRC_FAIL; 32 bits wrapping; 10_supervisory_timing_channel R461; reset 0 -/
  crcFail : Nat := 0
  /-- AUTH_DROP; 32 bits wrapping; 10_supervisory_timing_channel R461; reset 0 -/
  authDrop : Nat := 0
  /-- RXQ_DROP; 32 bits wrapping; 10_supervisory_timing_channel R461; reset 0 -/
  rxqDrop : Nat := 0
  /-- FRAG_LOSS; 32 bits wrapping; 10_supervisory_timing_channel R461; reset 0 -/
  fragLoss : Nat := 0
  /-- TX_BURSTS; 32 bits wrapping; 10_supervisory_timing_channel R461; reset 0 -/
  txBursts : Nat := 0
  /-- TX_TRUNC; 32 bits wrapping; 10_supervisory_timing_channel R461; reset 0 -/
  txTrunc : Nat := 0
  /-- an OSTC_CLEAR waits for its control-tick boundary; 1 bit; 10_supervisory_timing_channel R461; reset 0 -/
  clearWaits : Bool := false
  deriving DecidableEq, Repr

/-- Candidate states (Table 11-3), in the order of TIMING_REF_STATUS. -/
inductive CandState where
  | disabled | looped | failed | qualifying | waitRestore | available | excluded
  deriving DecidableEq, Repr

/-- One candidate reference (Table 11-1). -/
structure CandSt where
  /-- state of Table 11-3; 3 bits; 11_reference_selection_and_holdover R469; reset DISABLED (rank 0) -/
  state : CandState := .disabled
  /-- slow ticks of qual_time left, or epochs of wtr left; 32 bits; 11_reference_selection_and_holdover R470; reset 0 -/
  left : Nat := 0
  /-- valid under Table 11-2 at the last evaluation; 1 bit; 11_reference_selection_and_holdover R467; reset 0 -/
  valid : Bool := false
  /-- quality level received from the far end or the stack master; 4 bits; 11_reference_selection_and_holdover R472; reset DESIGN CHOICE 14 QL_NONE (log 4) -/
  qlRx : Nat := 14
  /-- device time at which it last arrived, none when stale or never; 11_reference_selection_and_holdover R472; reset none -/
  qlAt : Option Time := none
  /-- frequency offset against XI1, x 10^-12; 32 bits signed; 11_reference_selection_and_holdover R509; reset DESIGN CHOICE 0 (log 1) -/
  freqOff : Int := 0
  /-- phase against device time, 2^-16 ns; 64 bits signed; 11_reference_selection_and_holdover R509; reset DESIGN CHOICE 0 (log 1) -/
  phase : Int := 0
  /-- entries to FAILED; 16 bits wrapping; 11_reference_selection_and_holdover R509; reset 0 -/
  failedCount : Nat := 0
  /-- consecutive slow ticks of agreement with the median while EXCLUDED; 4 bits; 11_reference_selection_and_holdover R479; reset 0 -/
  agree : Nat := 0
  deriving DecidableEq, Repr

/-- DPLL states (Table 11-6), in the order of Table 1-3. -/
inductive DpllState where
  | freeRun | acquiring | locked | holdover | lost
  deriving DecidableEq, Repr

/-- One Sillage record (Table 11-11). -/
structure SillageRec where
  /-- device-time seconds of the epoch, low 32 bits; 11_reference_selection_and_holdover R511 -/
  tS : Nat := 0
  /-- mean y of XI1, x 10^-13; 32 bits signed; 11_reference_selection_and_holdover R511 -/
  freq : Int := 0
  /-- mean phase error, 2^-8 ns; 32 bits signed; 11_reference_selection_and_holdover R511 -/
  phaseErr : Int := 0
  /-- temperature, x 0.01 C; 16 bits signed; 11_reference_selection_and_holdover R511 -/
  temp : Int := 0
  /-- selected candidate, 0xF none; 4 bits; 11_reference_selection_and_holdover R511 -/
  cand : Nat := 15
  /-- locked; 1 bit; 11_reference_selection_and_holdover R511 -/
  locked : Bool := false
  /-- holdover; 1 bit; 11_reference_selection_and_holdover R511 -/
  holdover : Bool := false
  deriving DecidableEq, Repr

/-- A Sillage snapshot in the non-volatile store (R496, R538). -/
structure SillageSnap where
  /-- records of the snapshot, newest first; 11_reference_selection_and_holdover R496 -/
  recs : List SillageRec := []
  /-- the fitted model; 11_reference_selection_and_holdover R496 -/
  model : SillageModel := {}
  /-- TTX_CAL_SET values of carriers A and B written with it when persist is 1: offset and value; 12_time_transfer_and_delay_calibration R538 -/
  cal : List (Nat × Int) := []
  /-- device-time seconds of its last record; 11_reference_selection_and_holdover R496 -/
  seconds : Nat := 0
  deriving DecidableEq, Repr

/-- One timing output: CLKOUT0 to 7, PPSOUT0 and 1 (R498 to R502). -/
structure OutSt where
  /-- the output is held low; 1 bit; 11_reference_selection_and_holdover R502; reset 1 -/
  low : Bool := true
  /-- frequency in force in uHz of a CLKOUT; 64 bits; 11_reference_selection_and_holdover R498; reset 10^13 -/
  freq : Nat := 10000000000000
  /-- runs in integer mode; 1 bit; 11_reference_selection_and_holdover R498; reset 1 -/
  integer : Bool := true
  /-- instant of the last PPSOUT pulse; device time; 11_reference_selection_and_holdover R501; reset none -/
  lastPulse : Option Time := none
  deriving DecidableEq, Repr

/-- The timing subsystem: device time, the DPLL, Sillage and the outputs (11, 12). -/
structure TimingSt where
  /-- device time in units of 2^-16 ns (48-bit seconds, 32-bit nanoseconds, 16-bit fraction); 12_time_transfer_and_delay_calibration R513; reset 0 -/
  now : Time := 0
  /-- device seconds have been set since TIMING start; 1 bit; 12_time_transfer_and_delay_calibration R546; reset 0 -/
  secondsSet : Bool := false
  /-- whole seconds to add at the next epoch boundary; 12_time_transfer_and_delay_calibration R514; reset 0 -/
  jump : Int := 0
  /-- seconds value of a TTX_TIME_SET waiting, and control ticks since acceptance; 12_time_transfer_and_delay_calibration R515; reset none -/
  timeSet : Option (Nat × Nat) := none
  /-- candidates 0 to 12; 11_reference_selection_and_holdover R462; reset see CandSt -/
  cands : Tab CandSt := []
  /-- DPLL state of Table 11-6; 3 bits; 11_reference_selection_and_holdover R485; reset FREE_RUN -/
  dpll : DpllState := .freeRun
  /-- selected candidate; 4 bits; 11_reference_selection_and_holdover R508; reset none -/
  selected : Option Nat := none
  /-- the DPLL has stopped using the selected candidate's phase detector; 1 bit; 11_reference_selection_and_holdover R476; reset 0 -/
  stopped : Bool := false
  /-- forced candidate stored; 4 bits; 11_reference_selection_and_holdover R475; reset none -/
  forced : Option Nat := none
  /-- holdover forced; 1 bit; 11_reference_selection_and_holdover R508; reset 0 -/
  hoForced : Bool := false
  /-- bandwidth in use, entry of Table 11-5; 4 bits; 11_reference_selection_and_holdover R508; reset 6 -/
  bwUsed : Nat := 6
  /-- epochs left of the fast-lock dwell, none when not in fast lock; 11_reference_selection_and_holdover R484; reset none -/
  dwell : Option Nat := none
  /-- epochs for which the phase error has stayed below lock_thr; 11_reference_selection_and_holdover R485; reset 0 -/
  lockRun : Nat := 0
  /-- phase error, 2^-16 ns; 64 bits signed; 11_reference_selection_and_holdover R508; reset DESIGN CHOICE 0 (log 1) -/
  phaseErr : Int := 0
  /-- DPLL output against XI1, x 10^-13; 32 bits signed; 11_reference_selection_and_holdover R508; reset DESIGN CHOICE 0 (log 1) -/
  freqOff : Int := 0
  /-- quality level in use of the last selected candidate; 4 bits; 11_reference_selection_and_holdover R473; reset DESIGN CHOICE 14 QL_NONE (log 4) -/
  lastQl : Nat := 14
  /-- phase error at entry to HOLDOVER, 2^-16 ns; 11_reference_selection_and_holdover R494; reset 0 -/
  hoE0 : Int := 0
  /-- temperature at entry to HOLDOVER, x 0.01 C; 11_reference_selection_and_holdover R494; reset 0 -/
  hoTemp : Int := 0
  /-- largest temperature departure since entry, x 0.01 K; 11_reference_selection_and_holdover R494; reset 0 -/
  hoDTmax : Nat := 0
  /-- time bound b, ns; 32 bits saturating; 11_reference_selection_and_holdover R508; reset 0 -/
  hoBoundNs : Nat := 0
  /-- frequency bound f, x 10^-13; 32 bits saturating; 11_reference_selection_and_holdover R508; reset 0 -/
  hoBoundFreq : Nat := 0
  /-- selection changes; 32 bits wrapping; 11_reference_selection_and_holdover R508; reset 0 -/
  switches : Nat := 0
  /-- device time of the last DPLL state change; 11_reference_selection_and_holdover R508; reset DESIGN CHOICE 0 (log 1) -/
  since : Time := 0
  /-- OSC_READY pin; 1 bit; 11_reference_selection_and_holdover R490; reset DESIGN CHOICE 0 (log 5) -/
  oscReady : Bool := false
  /-- oscillator temperature given by OSC_TEMP, x 0.01 C, none when stale or never; 32 bits signed; 11_reference_selection_and_holdover R507; reset none -/
  oscTemp : Option Int := none
  /-- device time at which it was given; 11_reference_selection_and_holdover R507; reset 0 -/
  oscTempAt : Time := 0
  /-- temperature of the die sensor as last measured, x 0.01 C; 11_reference_selection_and_holdover R506; reset DESIGN CHOICE 0 (log 1) -/
  dieTemp : Int := 0
  /-- Sillage records, newest first, at most 86,400; 11_reference_selection_and_holdover R492; reset none -/
  sillage : List SillageRec := []
  /-- the fitted model; 11_reference_selection_and_holdover R493; reset DESIGN CHOICE zero (log 1) -/
  model : SillageModel := {}
  /-- seconds since the last fit; 32 bits; 11_reference_selection_and_holdover R511; reset DESIGN CHOICE 0 (log 1) -/
  fitAge : Nat := 0
  /-- epochs since the last 600-epoch work (fit and snapshot); 10 bits; 11_reference_selection_and_holdover R493; reset 0 -/
  epochs600 : Nat := 0
  /-- 600 epochs have passed and the fit is due; 1 bit; 11_reference_selection_and_holdover R493; reset 0 -/
  fitDue : Bool := false
  /-- 600 epochs have passed and the snapshot is due; 1 bit; 11_reference_selection_and_holdover R496; reset 0 -/
  snapDue : Bool := false
  /-- the TIMING domain has started and its snapshot has still to be judged; 1 bit; 11_reference_selection_and_holdover R496; reset 1 -/
  restoreDue : Bool := true
  /-- time since entry to HOLDOVER or LOST, 2^-16 ns; 11_reference_selection_and_holdover R494; reset 0 -/
  hoTau : Nat := 0
  /-- candidates of CLEAR_WTR commands accepted in this slow tick; 11_reference_selection_and_holdover R481; reset none -/
  clearWtr : List Nat := []
  /-- a snapshot taken at a TIMING start and held until its age is known; 11_reference_selection_and_holdover R496; reset none -/
  heldSnap : Option SillageSnap := none
  /-- timing outputs 0 to 9; 11_reference_selection_and_holdover R498; reset see OutSt -/
  outs : Tab OutSt := []
  /-- PTP_REC_DROP; 32 bits; 12_time_transfer_and_delay_calibration R543; reset 0 -/
  ptpRecDrop : Nat := 0
  /-- PTP_REC_DROP grew in this slow tick; 1 bit; 12_time_transfer_and_delay_calibration R550; reset 0 -/
  ptpDropTick : Bool := false
  deriving DecidableEq, Repr

/-- Time transfer of one carrier (12). -/
structure TtxSt where
  /-- path in use 0 none, 1 native, 2 OSTC; 2 bits; 12_time_transfer_and_delay_calibration R546; reset 0 -/
  path : Nat := 0
  /-- servo output valid; 1 bit; 12_time_transfer_and_delay_calibration R536; reset 0 -/
  valid : Bool := false
  /-- TTX_LOOP condition holds; 1 bit; 12_time_transfer_and_delay_calibration R536; reset 0 -/
  loop : Bool := false
  /-- last accepted far-end record, none before the first; 64 bytes; 12_time_transfer_and_delay_calibration R530; reset none -/
  far : Option TtxRec := none
  /-- records accepted since the last exchange, oldest first; 12_time_transfer_and_delay_calibration R533; reset none -/
  recs : List TtxRec := []
  /-- own transmit stamps: count (or OSTC seq) and DAC-plane instant, newest first, at most 4,096; 12_time_transfer_and_delay_calibration R533; reset none -/
  ownTx : List (Nat × Int) := []
  /-- own arrival stamps of far-end events at the ADC plane, newest first, at most 4,096; 12_time_transfer_and_delay_calibration R533; reset none -/
  ownRx : List (Nat × Int) := []
  /-- last accepted theta values, newest first, at most 8; 12_time_transfer_and_delay_calibration R534; reset none -/
  last8 : List Int := []
  /-- exchanges accepted since the servo restarted; 4 bits saturating at 8; 12_time_transfer_and_delay_calibration R534; reset 0 -/
  sinceRestart : Nat := 0
  /-- consecutive rejections; 4 bits; 12_time_transfer_and_delay_calibration R534; reset 0 -/
  rejectRun : Nat := 0
  /-- theta, 2^-16 ns; 64 bits signed; 12_time_transfer_and_delay_calibration R546; reset DESIGN CHOICE 0 (log 1) -/
  theta : Int := 0
  /-- theta_raw, 2^-16 ns; 64 bits signed; 12_time_transfer_and_delay_calibration R546; reset DESIGN CHOICE 0 (log 1) -/
  thetaRaw : Int := 0
  /-- theta values of each epoch of the averaging window: count, sum and sum of squares, newest first; 12_time_transfer_and_delay_calibration R546; reset none -/
  window : List (Nat × Int × Nat) := []
  /-- mean_delay, 2^-16 ns; 64 bits; 12_time_transfer_and_delay_calibration R546; reset DESIGN CHOICE 0 (log 1) -/
  meanDelay : Nat := 0
  /-- W, x 0.1 ps; 32 bits signed; 12_time_transfer_and_delay_calibration R546; reset 0 -/
  wTerm : Int := 0
  /-- lambda_rx of R524, pm, 0 unknown; 32 bits; 12_time_transfer_and_delay_calibration R546; reset 0 -/
  lambdaRx : Nat := 0
  /-- consecutive exchanges with a wavelength mismatch; 4 bits; 12_time_transfer_and_delay_calibration R525; reset 0 -/
  mismatch : Nat := 0
  /-- EXCHANGES; 32 bits wrapping; 12_time_transfer_and_delay_calibration R546; reset 0 -/
  exchanges : Nat := 0
  /-- TTX_REJECT; 32 bits wrapping; 12_time_transfer_and_delay_calibration R546; reset 0 -/
  reject : Nat := 0
  /-- TTX_REC_BAD; 32 bits wrapping; 12_time_transfer_and_delay_calibration R546; reset 0 -/
  recBad : Nat := 0
  /-- device time of the last accepted exchange, none before the first; 12_time_transfer_and_delay_calibration R546; reset none -/
  lastAt : Option Time := none
  /-- transmitted cal_seq; 8 bits wrapping; 12_time_transfer_and_delay_calibration R537; reset DESIGN CHOICE 0 (log 1) -/
  calSeq : Nat := 0
  /-- persist given with the last TTX_CAL_SET; 1 bit; 12_time_transfer_and_delay_calibration R538; reset 0 -/
  persist : Bool := false
  /-- number of the next OSTC TTX message; 16 bits wrapping; 12_time_transfer_and_delay_calibration R527; reset 0 -/
  seq : Nat := 0
  /-- analog part of D_tx in force, fs; 12_time_transfer_and_delay_calibration R518; reset DESIGN CHOICE 0 (log 1) -/
  anaTx : Int := 0
  /-- analog part of D_rx in force, fs; 12_time_transfer_and_delay_calibration R518; reset DESIGN CHOICE 0 (log 1) -/
  anaRx : Int := 0
  /-- factory calibration of D_tx and D_rx in OTP, none when absent; 12_time_transfer_and_delay_calibration R517; reset DESIGN CHOICE none (log 1) -/
  cal : Option (DelayCal × DelayCal) := none
  /-- seq and transmit mark of the previous OSTC TTX message sent; 12_time_transfer_and_delay_calibration R529; reset none -/
  prevMark : Option (Nat × Int) := none
  deriving DecidableEq, Repr

/-- One output sample of a sensing channel (R559, R567). -/
structure SenseSample where
  /-- value; 14 bits two's complement; 13_line_sensing_chain R557 -/
  x : Int := 0
  /-- unsettled mark; 1 bit; 13_line_sensing_chain R567 -/
  unsettled : Bool := false
  /-- invalid mark; 1 bit; 13_line_sensing_chain R567 -/
  invalid : Bool := false
  /-- a saturation occurred for it; 1 bit; 13_line_sensing_chain R575 -/
  sat : Bool := false
  deriving DecidableEq, Repr

/-- A sensing record being filled or kept (Table 13-3). -/
structure SenseRec where
  /-- record number; 16 bits wrapping; 13_line_sensing_chain R575 -/
  seq : Nat := 0
  /-- instant of sample 0; device time; 13_line_sensing_chain R575 -/
  t : Time := 0
  /-- samples, oldest first, at most 48; 13_line_sensing_chain R575 -/
  samples : List SenseSample := []
  /-- NONLINEAR; 1 bit; 13_line_sensing_chain R562 -/
  nonlinear : Bool := false
  /-- FREE_TICK; 1 bit; 13_line_sensing_chain R564 -/
  freeTick : Bool := false
  /-- an event fell in this record; 1 bit; 13_line_sensing_chain R575 -/
  event : Bool := false
  deriving DecidableEq, Repr

/-- One sensing channel (13). -/
structure SenseSt where
  /-- the channel runs; 1 bit; 13_line_sensing_chain R569; reset 0 -/
  running : Bool := false
  /-- an enable or disable waits for the next control-tick boundary; 13_line_sensing_chain R569; reset none -/
  change : Option Bool := none
  /-- base of DELAY and CD taken at the latest start; 13_line_sensing_chain R554; reset 0 -/
  base : Int := 0
  /-- the input was valid at the last control tick; 1 bit; 13_line_sensing_chain R565; reset 0 -/
  inputValid : Bool := false
  /-- CIC integrators; 64 bits wrapping each; 13_line_sensing_chain R557; reset 0 -/
  integ : List Int := []
  /-- input samples since the last CIC output; 10 bits; 13_line_sensing_chain R556; reset 0 -/
  cicCount : Nat := 0
  /-- CIC combs' delayed values; 64 bits wrapping each; 13_line_sensing_chain R557; reset 0 -/
  combs : List Int := []
  /-- lines of half-band filters 1 to 3, newest first, 23 samples of 14 bits each; 13_line_sensing_chain R556; reset 0 -/
  hb : Tab (List Int) := []
  /-- samples since the last output of half-band filters 1 to 3; 1 bit each; 13_line_sensing_chain R556; reset 0 -/
  hbCount : Tab Nat := []
  /-- line of the FIR, newest first, up to 255 samples of 14 bits; 13_line_sensing_chain R556; reset 0 -/
  firLine : List Int := []
  /-- samples since the last FIR output; 4 bits; 13_line_sensing_chain R556; reset 0 -/
  firCount : Nat := 0
  /-- inputs of the resampler with the instant of the last input sample each takes in, newest first, at most 64; 13_line_sensing_chain R559; reset none -/
  res : List (Int × Int) := []
  /-- spans of instants with invalid input, newest first; 13_line_sensing_chain R567; reset none -/
  invalidSpans : List (Int × Int) := []
  /-- a saturation has occurred since the last output sample; 1 bit; 13_line_sensing_chain R575; reset 0 -/
  satNow : Bool := false
  /-- instant of the last output sample; device time; 13_line_sensing_chain R559; reset none -/
  lastOut : Option Time := none
  /-- control-tick boundaries of events that may still mark samples, newest first; 13_line_sensing_chain R565; reset none -/
  events : List Time := []
  /-- an event fell since the record being filled began; 1 bit; 13_line_sensing_chain R575; reset 0 -/
  eventInRec : Bool := false
  /-- record number of the next record; 16 bits wrapping; 13_line_sensing_chain R575; reset 0 -/
  seq : Nat := 0
  /-- the record being filled; 13_line_sensing_chain R575; reset none -/
  cur : Option SenseRec := none
  /-- slow ticks left of flush_ms for its oldest sample, none while there is none; 10 bits; 13_line_sensing_chain R575; reset none -/
  left : Option Nat := none
  /-- kept records, oldest first, at most 4; 13_line_sensing_chain R576; reset none -/
  kept : List SenseRec := []
  /-- samples used by the RMS and peak windows, newest first; 13_line_sensing_chain R570; reset none -/
  window : List Int := []
  /-- samples counted in the present peak window; 16 bits; 13_line_sensing_chain R570; reset 0 -/
  winCount : Nat := 0
  /-- envelope e as a numerator and a power of two below it; 13_line_sensing_chain R570; reset 0 -/
  env : Nat × Nat := (0, 0)
  /-- largest |x| in the present peak window; 14 bits; 13_line_sensing_chain R579; reset DESIGN CHOICE 0 (log 1) -/
  peak : Nat := 0
  /-- RMS of the last window; 14 bits; 13_line_sensing_chain R579; reset 0 -/
  rms : Nat := 0
  /-- detector states peak, RMS, envelope; 3 bits; 13_line_sensing_chain R570; reset 0 -/
  det : BitVec 3 := 0
  /-- detector states at the start of the slow tick; 3 bits; 13_line_sensing_chain R571; reset 0 -/
  detBefore : BitVec 3 := 0
  /-- stamp of the first detector change in this slow tick; 13_line_sensing_chain R571; reset none -/
  detFirst : Option Time := none
  /-- a detector with its det_act event bit set changed in this slow tick; 1 bit; 13_line_sensing_chain R571; reset 0 -/
  detEvent : Bool := false
  /-- IN_SAT; 32 bits saturating; 13_line_sensing_chain R579; reset 0 -/
  inSat : Nat := 0
  /-- saturation counts of the six stages; 32 bits saturating each; 13_line_sensing_chain R579; reset 0 -/
  stageSat : Tab Nat := []
  /-- records delivered; 32 bits saturating; 13_line_sensing_chain R579; reset 0 -/
  delivered : Nat := 0
  /-- SENSE_DROP; 32 bits saturating; 13_line_sensing_chain R579; reset 0 -/
  drop : Nat := 0
  /-- unsettled samples; 32 bits saturating; 13_line_sensing_chain R579; reset 0 -/
  unsettled : Nat := 0
  /-- invalid samples; 32 bits saturating; 13_line_sensing_chain R579; reset 0 -/
  invalid : Nat := 0
  /-- a SENSE_CLEAR waits for its control-tick boundary; 1 bit; 13_line_sensing_chain R579; reset 0 -/
  clearWaits : Bool := false
  /-- SENSE_DROP grew in this slow tick; 1 bit; 13_line_sensing_chain R581; reset 0 -/
  dropTick : Bool := false
  /-- outputs of the next instants are marked invalid after an overrun; 1 bit; 13_line_sensing_chain R574; reset 0 -/
  overrun : Bool := false
  deriving DecidableEq, Repr


/-- The linear ramp of the PHASE input of a carrier (R553), in 1/1,000 LSB. -/
structure PhaseRamp where
  /-- value of the ramp; 13_line_sensing_chain R553; reset 0 -/
  value : Int := 0
  /-- its slope per control tick; 13_line_sensing_chain R553; reset 0 -/
  slope : Int := 0
  /-- sum of the frequency offsets of this slow tick; 13_line_sensing_chain R553; reset 0 -/
  sum : Int := 0
  deriving DecidableEq, Repr

/-- A pool reconfiguration in progress (R586). -/
structure Reconfig where
  /-- new sizes of pools 0 to 3 in MiB; 14_buffer_memory_and_latency_equaliser R585 -/
  sizes : List Nat := []
  deriving DecidableEq, Repr

/-- One DRAM tower (R592 to R597). -/
structure TowerSt where
  /-- DRAM_CE; 32 bits saturating; 14_buffer_memory_and_latency_equaliser R592; reset 0 -/
  ce : Nat := 0
  /-- corrected errors in this epoch; 14_buffer_memory_and_latency_equaliser R598; reset 0 -/
  ceEpoch : Nat := 0
  /-- DRAM_UE; 32 bits saturating; 14_buffer_memory_and_latency_equaliser R597; reset 0 -/
  ue : Nat := 0
  /-- refreshes at twice the normal rate; 1 bit; 14_buffer_memory_and_latency_equaliser R595; reset 0 -/
  fastRefresh : Bool := false
  /-- spare rows used in each bank (unlisted bank has used none of its 32); 6 bits each; 14_buffer_memory_and_latency_equaliser R597; reset 0 -/
  rowsUsed : Tab Nat := []
  /-- rows retired; 16 bits; 14_buffer_memory_and_latency_equaliser R597; reset 0 -/
  rows : Nat := 0
  /-- 4 KiB pages retired; 32 bits; 14_buffer_memory_and_latency_equaliser R597; reset 0 -/
  pages : Nat := 0
  /-- rows with corrected errors found by scrub: row number and device time of the pass; 14_buffer_memory_and_latency_equaliser R596; reset none -/
  suspect : List (Nat × Time) := []
  /-- rows being copied to spare rows, oldest first: bank and row; 14_buffer_memory_and_latency_equaliser R596; reset none -/
  copying : List (Nat × Nat) := []
  deriving DecidableEq, Repr

/-- A frame stored in an LEQ queue (R604 to R609). -/
structure LeqFrame where
  /-- order of arrival in the device; 14_buffer_memory_and_latency_equaliser R605 -/
  serial : Nat := 0
  /-- arrival; device time; 14_buffer_memory_and_latency_equaliser R602 -/
  arrival : Time := 0
  /-- release time; device time, 2^-16 ns; 14_buffer_memory_and_latency_equaliser R604 -/
  release : Int := 0
  /-- the frame's bytes; 14_buffer_memory_and_latency_equaliser R609 -/
  bytes : List Byte := []
  /-- place of its header in the queue's bytes; 14_buffer_memory_and_latency_equaliser R609 -/
  pos : Nat := 0
  /-- port on which it is sent; 5 bits; 14_buffer_memory_and_latency_equaliser R599 -/
  port : Nat := 0
  deriving DecidableEq, Repr

/-- Queue states (R612). -/
inductive QueueState where
  | disabled | enabled | draining
  deriving DecidableEq, Repr

/-- One LEQ queue. -/
structure QueueSt where
  /-- DISABLED, ENABLED or DRAINING; 2 bits; 14_buffer_memory_and_latency_equaliser R612; reset DISABLED -/
  state : QueueState := .disabled
  /-- stored frames in arrival order; 14_buffer_memory_and_latency_equaliser R605; reset empty -/
  frames : List LeqFrame := []
  /-- bytes stored so far, the place of the next frame; 14_buffer_memory_and_latency_equaliser R609; reset 0 -/
  wr : Nat := 0
  /-- instant at which the last frame left the queue, device time; 14_buffer_memory_and_latency_equaliser R605; reset 0 -/
  lastLeft : Time := 0
  /-- an enable held during a pool reconfiguration; 14_buffer_memory_and_latency_equaliser R586; reset none -/
  held : Option Held := none
  /-- largest hold time of this epoch, ns; 14_buffer_memory_and_latency_equaliser R615; reset 0 -/
  holdMax : Nat := 0
  /-- sum of the hold times of this epoch, ns, and frames; 14_buffer_memory_and_latency_equaliser R615; reset 0 -/
  holdSum : Nat × Nat := (0, 0)
  /-- largest and mean hold time over the last epoch, ns; 14_buffer_memory_and_latency_equaliser R615; reset 0 -/
  holdLast : Nat × Nat := (0, 0)
  /-- frames released; 32 bits saturating; 14_buffer_memory_and_latency_equaliser R615; reset 0 -/
  released : Nat := 0
  /-- LEQ_LATE_SENT; 32 bits saturating; 14_buffer_memory_and_latency_equaliser R606; reset 0 -/
  lateSent : Nat := 0
  /-- LEQ_DROP_LATE; 32 bits saturating; 14_buffer_memory_and_latency_equaliser R606; reset 0 -/
  dropLate : Nat := 0
  /-- LEQ_DROP_EARLY; 32 bits saturating; 14_buffer_memory_and_latency_equaliser R607; reset 0 -/
  dropEarly : Nat := 0
  /-- LEQ_DROP_FULL; 32 bits saturating; 14_buffer_memory_and_latency_equaliser R611; reset 0 -/
  dropFull : Nat := 0
  /-- LEQ_DROP_NOTS; 32 bits saturating; 14_buffer_memory_and_latency_equaliser R603; reset 0 -/
  dropNots : Nat := 0
  /-- LEQ_DROP_ECC; 32 bits saturating; 14_buffer_memory_and_latency_equaliser R593; reset 0 -/
  dropEcc : Nat := 0
  /-- LEQ_DROP_DISABLED; 32 bits saturating; 14_buffer_memory_and_latency_equaliser R612; reset 0 -/
  dropDisabled : Nat := 0
  /-- PORT_DOWN; 32 bits saturating; 14_buffer_memory_and_latency_equaliser R614; reset 0 -/
  portDown : Nat := 0
  deriving DecidableEq, Repr

/-- One LEQ port, by its first host lane. -/
structure LeqPort where
  /-- LEQ_DROP_BW; 32 bits saturating; 14_buffer_memory_and_latency_equaliser R590; reset 0 -/
  dropBw : Nat := 0
  /-- it grew in this slow tick; 1 bit; 14_buffer_memory_and_latency_equaliser R598; reset 0 -/
  bwTick : Bool := false
  /-- stored bytes received in this control tick; 14_buffer_memory_and_latency_equaliser R590; reset 0 -/
  tickBytes : Nat := 0
  /-- EGR_WAIT_MAX, ns; 32 bits saturating; 15_latency_and_load R632; reset 0 -/
  waitMax : Nat := 0
  /-- the port was down at the last control tick; 1 bit; 14_buffer_memory_and_latency_equaliser R614; reset 0 -/
  down : Bool := false
  /-- instant at which the frame in transmission ends, device time; 14_buffer_memory_and_latency_equaliser R608; reset 0 -/
  busyUntil : Time := 0
  /-- bypass frames that wait for the port: arrival and bytes; 14_buffer_memory_and_latency_equaliser R608; reset none -/
  bypass : List (Time × List Byte) := []
  deriving DecidableEq, Repr

/-- Capture slot states (Table 14-8). -/
inductive CapState where
  | idle | armed | triggered | done | spilling
  deriving DecidableEq, Repr

/-- One Blotter capture slot (R616 to R624). -/
structure CapSlot where
  /-- state of Table 14-8; 3 bits; 14_buffer_memory_and_latency_equaliser R617; reset IDLE -/
  state : CapState := .idle
  /-- source of Table 14-7; 4 bits; 14_buffer_memory_and_latency_equaliser R624; reset 0 -/
  source : Nat := 0
  /-- target; 3 bits; 14_buffer_memory_and_latency_equaliser R624; reset 0 -/
  target : Nat := 0
  /-- trig_mask; 6 bits; 14_buffer_memory_and_latency_equaliser R624; reset 0 -/
  trigMask : BitVec 6 := 0
  /-- decim; 17 bits; 14_buffer_memory_and_latency_equaliser R624; reset 0 -/
  decim : Nat := 0
  /-- pre_bytes; 64 bits; 14_buffer_memory_and_latency_equaliser R624; reset 0 -/
  preBytes : Nat := 0
  /-- post_bytes; 64 bits; 14_buffer_memory_and_latency_equaliser R624; reset 0 -/
  postBytes : Nat := 0
  /-- fault_id; 16 bits; 14_buffer_memory_and_latency_equaliser R624; reset 0 -/
  faultId : Nat := 0
  /-- sense_ch; 6 bits; 14_buffer_memory_and_latency_equaliser R624; reset 0 -/
  senseCh : Nat := 0
  /-- trig_edge; 1 bit; 14_buffer_memory_and_latency_equaliser R624; reset 0 -/
  trigEdge : Nat := 0
  /-- sense_mask; 64 bits; 14_buffer_memory_and_latency_equaliser R624; reset 0 -/
  senseMask : Nat := 0
  /-- write rate in bytes per second; 14_buffer_memory_and_latency_equaliser R616; reset 0 -/
  rate : Nat := 0
  /-- device time of the arm; 14_buffer_memory_and_latency_equaliser R620; reset 0 -/
  armedAt : Time := 0
  /-- an accepted trigger waiting for its trigger point: kind, instant, and the earliest trigger point (device time); 14_buffer_memory_and_latency_equaliser R618; reset none -/
  trig : Option (Nat × Time × Time) := none
  /-- kind of the trigger taken; 3 bits; 14_buffer_memory_and_latency_equaliser R622; reset 0 -/
  trigKind : Nat := 0
  /-- trigger instant; device time; 14_buffer_memory_and_latency_equaliser R622; reset 0 -/
  trigAt : Time := 0
  /-- flags PRE_SHORT, STACK_LATE, SOURCE_LOST, ECC, FREE_TICK; 5 bits; 14_buffer_memory_and_latency_equaliser R622; reset 0 -/
  flags : BitVec 5 := 0
  /-- data bytes kept; 64 bits; 14_buffer_memory_and_latency_equaliser R622; reset 0 -/
  length : Nat := 0
  /-- offset of the trigger point in the data; 64 bits; 14_buffer_memory_and_latency_equaliser R622; reset 0 -/
  trigOffset : Nat := 0
  /-- instant of the first sample; device time; 14_buffer_memory_and_latency_equaliser R622; reset 0 -/
  t0 : Time := 0
  /-- data bytes of the capture, after the header; 14_buffer_memory_and_latency_equaliser R622; reset empty -/
  data : List Byte := []
  /-- ring of a background readout, its next byte and its end; 14_buffer_memory_and_latency_equaliser R623; reset none -/
  readout : Option (Nat × Nat × Nat) := none
  /-- TRIG_IGNORED; 32 bits saturating; 14_buffer_memory_and_latency_equaliser R620; reset 0 -/
  trigIgnored : Nat := 0
  /-- an arm held during a pool reconfiguration; 14_buffer_memory_and_latency_equaliser R586; reset none -/
  held : Option Held := none
  deriving DecidableEq, Repr

/-- Buffer memory, latency equaliser and Blotter (14). -/
structure MemSt where
  /-- sizes of pools 0 to 4 in MiB (unlisted: the reset of Table 14-1); 14_buffer_memory_and_latency_equaliser R584; reset from the Accord, pool 3 512 -/
  pools : Tab (Option Nat) := []
  /-- reconfiguration in progress; 14_buffer_memory_and_latency_equaliser R586; reset none -/
  reconfig : Option Reconfig := none
  /-- towers 0 to 3; 14_buffer_memory_and_latency_equaliser R582; reset see TowerSt -/
  towers : Tab TowerSt := []
  /-- a scrub segment is in progress; 1 bit; 14_buffer_memory_and_latency_equaliser R594; reset 0 -/
  scrubBusy : Bool := false
  /-- next 16 MiB segment of the pass (0 to 8191 over the four towers); 13 bits; 14_buffer_memory_and_latency_equaliser R594; reset 0 -/
  scrubNext : Nat := 0
  /-- device time at which the open pass began; 14_buffer_memory_and_latency_equaliser R594; reset none -/
  scrubStart : Option Time := none
  /-- the open pass has raised SCRUB_LATE; 1 bit; 14_buffer_memory_and_latency_equaliser R594; reset 0 -/
  scrubLate : Bool := false
  /-- scrub enable in force; 1 bit; 14_buffer_memory_and_latency_equaliser R594; reset 1 -/
  scrubOn : Bool := true
  /-- a disable of scrub waits for the segment in progress; 1 bit; 14_buffer_memory_and_latency_equaliser R594; reset 0 -/
  scrubOff : Bool := false
  /-- an enable of scrub held until then; 14_buffer_memory_and_latency_equaliser R594; reset none -/
  scrubHeld : Option Held := none
  /-- LEQ queues; 14_buffer_memory_and_latency_equaliser R612; reset see QueueSt -/
  queues : Tab QueueSt := []
  /-- LEQ ports by first host lane; 14_buffer_memory_and_latency_equaliser R599; reset see LeqPort -/
  ports : Tab LeqPort := []
  /-- frames stored since reset, the order of arrival; 14_buffer_memory_and_latency_equaliser R605; reset 0 -/
  serial : Nat := 0
  /-- capture slots 0 to 3; 14_buffer_memory_and_latency_equaliser R616; reset IDLE -/
  caps : Tab CapSlot := []
  /-- measured bandwidth per class of Table 14-3, MB/s; 14_buffer_memory_and_latency_equaliser Table 14-11; reset DESIGN CHOICE 0 (log 1) -/
  measuredBw : Tab Nat := []
  /-- a MEM_CLEAR waits for its control-tick boundary; 1 bit; 14_buffer_memory_and_latency_equaliser Table 14-11; reset 0 -/
  clearWaits : Bool := false
  deriving DecidableEq, Repr

/-- Host lane receive states (Table 16-3). -/
inductive LaneState where
  | off | noSignal | adapting | locked
  deriving DecidableEq, Repr

/-- One eye scan (R653, R665). -/
structure EyeScan where
  /-- eyes covered, bit 0 upper, 1 middle, 2 lower; 3 bits; 16_host_lanes R665 -/
  eyes : Nat := 0
  /-- open points of each eye, 520 bytes each, upper first; 16_host_lanes R665 -/
  maps : List Byte := []
  deriving DecidableEq, Repr

/-- One host lane (16). -/
structure LaneSt where
  /-- receive state of Table 16-3; 2 bits; 16_host_lanes R646; reset HL_OFF -/
  state : LaneState := .off
  /-- device time of the last change of state; 16_host_lanes R664; reset DESIGN CHOICE 0 (log 1) -/
  since : Time := 0
  /-- control ticks in HL_ADAPTING since entry or restart; 16 bits; 16_host_lanes R647; reset 0 -/
  adaptTicks : Nat := 0
  /-- consecutive adaptation restarts; 4 bits; 16_host_lanes R647; reset 0 -/
  restarts : Nat := 0
  /-- automatic inversion in force (pol_fixed); 1 bit; 16_host_lanes R649; reset 0 -/
  polFixed : Bool := false
  /-- alignment-marker or block lock; 1 bit; 16_host_lanes R664; reset 0 -/
  amLock : Bool := false
  /-- deskew of its client failed; 1 bit; 16_host_lanes R651; reset 0 -/
  deskewFailed : Bool := false
  /-- the skew of the client whose first lane this is exceeds the tolerance; 1 bit; 16_host_lanes R651; reset 0 -/
  skewBad : Bool := false
  /-- loopback of Table 16-4 acted upon; 2 bits; 16_host_lanes R656; reset 0 -/
  loop : Nat := 0
  /-- logical lane found, none reads 0xFF; 8 bits; 16_host_lanes R650; reset none -/
  laneId : Option Nat := none
  /-- CTLE code in use; 5 bits; 16_host_lanes R664; reset DESIGN CHOICE 0 (log 1) -/
  ctle : Nat := 0
  /-- estimated BER x 10^-9; 32 bits saturating; 16_host_lanes R648; reset DESIGN CHOICE 0 (log 1) -/
  estBer : Nat := 0
  /-- HL_LOCK_LOSS; 32 bits saturating; 16_host_lanes R664; reset 0 -/
  lockLoss : Nat := 0
  /-- HL_ADAPT_RESTART; 32 bits saturating; 16_host_lanes R647; reset 0 -/
  adaptRestart : Nat := 0
  /-- skew behind the earliest lane of its client, ps; 19 bits; 16_host_lanes R664; reset DESIGN CHOICE 0 (log 1) -/
  skewPs : Nat := 0
  /-- eye scan in progress; 16_host_lanes R654; reset none -/
  scan : Option Held := none
  /-- last completed scan; 16_host_lanes R665; reset DESIGN CHOICE none (log 1) -/
  eye : Option EyeScan := none
  /-- an HL_CLEAR waits for its control-tick boundary; 1 bit; 16_host_lanes R664; reset 0 -/
  clearWaits : Bool := false
  deriving DecidableEq, Repr

/-- Host lanes (16). -/
structure LanesSt where
  /-- lanes HL0 to HL31; 16_host_lanes R646; reset see LaneSt -/
  lanes : Tab LaneSt := []
  /-- reference of each lane group shows no edge; 8 bits; 16_host_lanes R642; reset 0 -/
  refLost : BitVec 8 := 0
  deriving DecidableEq, Repr

/-- A command that returned PENDING and whose DEFERRED_DONE is not yet written (R896). -/
structure PendRec where
  /-- mailbox 0 to 4; 3 bits; 21_mailbox_interface R896 -/
  mb : Nat := 0
  /-- opcode; 16 bits; 21_mailbox_interface R896 -/
  op : Nat := 0
  /-- seq; 16 bits; 21_mailbox_interface R896 -/
  seq : Nat := 0
  deriving DecidableEq, Repr

/-- Stack port states (Table 17-1). -/
inductive SbState where
  | off | adapt | align | up
  deriving DecidableEq, Repr

/-- Acting roles (Tables 17-4 and 17-7). -/
inductive Acting where
  | standalone | actingMaster | standby | member
  deriving DecidableEq, Repr

/-- One stack port (17). -/
structure SbPort where
  /-- state of Table 17-1; 2 bits; 17_stack_bus_and_stacking R671; reset SB_OFF -/
  state : SbState := .off
  /-- peer_id, none reads 0xFF; 8 bits; 17_stack_bus_and_stacking R697; reset none -/
  peerId : Option Nat := none
  /-- peer_port, none reads 0xFF; 8 bits; 17_stack_bus_and_stacking R697; reset none -/
  peerPort : Option Nat := none
  /-- last time word received; 64 bytes; 17_stack_bus_and_stacking R674; reset none -/
  peer : Option TimeWord := none
  /-- consecutive good frames; 7 bits; 17_stack_bus_and_stacking R671; reset 0 -/
  good : Nat := 0
  /-- consecutive bad frames; 3 bits; 17_stack_bus_and_stacking R671; reset 0 -/
  bad : Nat := 0
  /-- control ticks in SB_ADAPT since entry or restart; 16 bits; 17_stack_bus_and_stacking R671; reset 0 -/
  adaptTicks : Nat := 0
  /-- consecutive frames on which it offered fewer hops than the upstream port; 10 bits; 17_stack_bus_and_stacking R681; reset 0 -/
  better : Nat := 0
  /-- own stack time at the mark instant of our last frame, and of the last mark received; stack time; 17_stack_bus_and_stacking R679; reset DESIGN CHOICE 0 (log 1) -/
  stMark : Int := 0
  /-- own stack time at which the peer's last mark arrived; 17_stack_bus_and_stacking R674; reset DESIGN CHOICE 0 (log 1) -/
  stRx : Int := 0
  /-- one-way delay between balls, ps; 15 bits; 17_stack_bus_and_stacking R697; reset DESIGN CHOICE 0 (log 1) -/
  linkDelay : Nat := 0
  /-- transmit plus receive internal delay x 0.01 ps; 32 bits; 17_stack_bus_and_stacking R678; reset DESIGN CHOICE 0 (log 1) -/
  intDelay : Nat := 0
  /-- SB_CRC_ERR; 32 bits wrapping; 17_stack_bus_and_stacking R672; reset 0 -/
  crcErr : Nat := 0
  /-- SB_DOWN_COUNT; 32 bits wrapping; 17_stack_bus_and_stacking R671; reset 0 -/
  downCount : Nat := 0
  /-- SB_ADAPT_RESTART; 32 bits wrapping; 17_stack_bus_and_stacking R671; reset 0 -/
  adaptRestart : Nat := 0
  /-- receive SNR x 0.01 dB; 12 bits; 17_stack_bus_and_stacking R697; reset DESIGN CHOICE 0 (log 1) -/
  snr : Nat := 0
  /-- messages queued, at most 64; 17_stack_bus_and_stacking R685; reset empty -/
  queue : List SbMsg := []
  /-- group records waiting for a frame, oldest first; 17_stack_bus_and_stacking R675; reset empty -/
  recs : List GrpRecItem := []
  /-- group-state entries waiting for a frame; 17_stack_bus_and_stacking R675; reset empty -/
  states : List GrpStateItem := []
  /-- triggers waiting for a frame; 17_stack_bus_and_stacking R675; reset empty -/
  trigs : List TrigItem := []
  /-- OSTC relays waiting for a frame, each with the frames it has waited; 17_stack_bus_and_stacking R688; reset empty -/
  relays : List (RelayItem × Nat) := []
  deriving DecidableEq, Repr

/-- A proxied command held for another member or answered by it (R686). -/
structure ProxyCmd where
  /-- opcode; 16 bits; 17_stack_bus_and_stacking R686 -/
  op : Nat := 0
  /-- the request, with its originating mailbox; 17_stack_bus_and_stacking R686 -/
  req : Req := {}
  /-- slow ticks left of proxy_timeout; 10 bits; 17_stack_bus_and_stacking R686 -/
  left : Nat := 0
  /-- sequence number of the request message; 16 bits; 17_stack_bus_and_stacking R685 -/
  seq : Nat := 0
  /-- its request message has been sent; 1 bit; 17_stack_bus_and_stacking R686 -/
  sent : Bool := false
  deriving DecidableEq, Repr

/-- The stack (17). -/
structure StackSt where
  /-- STACK_ROLE straps as read at DEVICE release; 2 bits; 17_stack_bus_and_stacking R676; reset DESIGN CHOICE 0 standalone (log 6) -/
  strapRole : Nat := 0
  /-- STACK_ID straps as read at DEVICE release; 3 bits; 17_stack_bus_and_stacking R676; reset DESIGN CHOICE 0 (log 6) -/
  stackId : Nat := 0
  /-- acting role; 2 bits; 17_stack_bus_and_stacking R676; reset DESIGN CHOICE STANDALONE (log 6) -/
  acting : Acting := .standalone
  /-- the 200 us listen of a strapped master is running; 1 bit; 17_stack_bus_and_stacking R676; reset 0 -/
  listening : Bool := false
  /-- a time word of an acting master arrived during the listen; 1 bit; 17_stack_bus_and_stacking R676; reset 0 -/
  heardMaster : Bool := false
  /-- acting master, none reads 0xFF; 8 bits; 17_stack_bus_and_stacking R696; reset none -/
  master : Option Nat := none
  /-- standby, none reads 0xFF; 8 bits; 17_stack_bus_and_stacking R696; reset none -/
  standby : Option Nat := none
  /-- upstream port, none reads 0xFF; 8 bits; 17_stack_bus_and_stacking R681; reset none -/
  upstream : Option Nat := none
  /-- hops to the acting master; 3 bits; 17_stack_bus_and_stacking R696; reset 0 -/
  hops : Nat := 0
  /-- quality level of the acting master as relayed; 4 bits; 17_stack_bus_and_stacking R674; reset DESIGN CHOICE 14 QL_NONE (log 4) -/
  ql : Nat := 14
  /-- sigma, 2^-16 ns; 64 bits signed; 17_stack_bus_and_stacking R679; reset DESIGN CHOICE 0 (log 1) -/
  sigma : Int := 0
  /-- change of sigma still to be spread over the slow tick, 2^-16 ns; 17_stack_bus_and_stacking R679; reset 0 -/
  spread : Int := 0
  /-- control ticks left of that slow tick; 10 bits; 17_stack_bus_and_stacking R679; reset 0 -/
  spreadTicks : Nat := 0
  /-- the first sigma update after 1,000 good frames has been made; 1 bit; 17_stack_bus_and_stacking R680; reset 0 -/
  validDue : Bool := false
  /-- the upstream port (0) or the master (1) has changed since the last sigma update; 17_stack_bus_and_stacking R681; reset none -/
  stepCause : Option Nat := none
  /-- sum and count of theta in this slow tick; 17_stack_bus_and_stacking R679; reset 0 -/
  theta : Int × Nat := (0, 0)
  /-- stack time valid; 1 bit; 17_stack_bus_and_stacking R680; reset 0 -/
  valid : Bool := false
  /-- consecutive upstream frames with MASTER_OK from the acting master; 10 bits saturating at 1,000; 17_stack_bus_and_stacking R680; reset 0 -/
  okRun : Nat := 0
  /-- consecutive control ticks without a MASTER_OK frame; 17_stack_bus_and_stacking R680; reset 0 -/
  missRun : Nat := 0
  /-- a MASTER_OK frame arrived on the upstream port in this control tick; 1 bit; 17_stack_bus_and_stacking R680; reset 0 -/
  okTick : Bool := false
  /-- a MASTER_OK frame arrived on any port in this control tick; 1 bit; 17_stack_bus_and_stacking R690; reset 0 -/
  okAny : Bool := false
  /-- consecutive control ticks without a MASTER_OK frame on any port; 7 bits; 17_stack_bus_and_stacking R690; reset 0 -/
  missAny : Nat := 0
  /-- a port has been in SB_UP since the role was taken (the count of R690 runs); 1 bit; 17_stack_bus_and_stacking R690; reset 0 -/
  seenUp : Bool := false
  /-- announced hand-over: device and stack-time second; 17_stack_bus_and_stacking R692; reset none -/
  handover : Option (Nat × Nat) := none
  /-- members bitmap; 8 bits; 17_stack_bus_and_stacking R687; reset DESIGN CHOICE 0 (log 1) -/
  members : BitVec 8 := 0
  /-- control ticks since the last HELLO of each member, none when it is not in members; 12 bits each; 17_stack_bus_and_stacking R687; reset none -/
  hello : Tab (Option Nat) := []
  /-- strapped role of each member as its HELLO said; 17_stack_bus_and_stacking R687; reset none -/
  roles : Tab (Option Nat) := []
  /-- the own STACK_ID is in conflict; 1 bit; 17_stack_bus_and_stacking R677; reset 0 -/
  idConflict : Bool := false
  /-- ports SB0 to SB3; 17_stack_bus_and_stacking R669; reset see SbPort -/
  ports : Tab SbPort := []
  /-- items already forwarded, newest first, each by its identity (R683); 17_stack_bus_and_stacking R683; reset none -/
  seen : List (List Nat) := []
  /-- next sequence number of triggers, OSTC relays and messages of this origin; 16 bits each wrapping; 17_stack_bus_and_stacking R675; reset DESIGN CHOICE 0 (log 1) -/
  nextSeq : Nat × Nat × Nat := (0, 0, 0)
  /-- next sequence of group-state entries per group; 4 bits wrapping; 17_stack_bus_and_stacking R675; reset DESIGN CHOICE 0 (log 1) -/
  grpSeq : Tab Nat := []
  /-- latest group-state entry per group and origin (8 * group + origin): entry and slow ticks since; 17_stack_bus_and_stacking R683; reset none -/
  grpStates : Tab (Option (GrpStateItem × Nat)) := []
  /-- proxied commands held per member, oldest first, at most 8 each; 17_stack_bus_and_stacking R686; reset empty -/
  proxied : Tab (List ProxyCmd) := []
  /-- commands of MB4 that run, wait or are PENDING, with the member that sent each; 21_mailbox_interface R832; reset none -/
  mb4Pend : List (Nat × PendRec) := []
  /-- proxied commands answered PENDING and not yet done, with the member that holds each; 21_mailbox_interface R832; reset none -/
  proxyPend : List (Nat × PendRec) := []
  /-- control ticks since the last own HELLO; 10 bits; 17_stack_bus_and_stacking R687; reset 0 -/
  helloAge : Nat := 0
  /-- control ticks of the listen of a strapped master; 8 bits; 17_stack_bus_and_stacking R676; reset 0 -/
  listenTicks : Nat := 0
  /-- TAKEOVERS; 32 bits wrapping; 17_stack_bus_and_stacking R690; reset 0 -/
  takeovers : Nat := 0
  /-- PROXY_TIMEOUTS; 32 bits wrapping; 17_stack_bus_and_stacking R686; reset 0 -/
  proxyTimeouts : Nat := 0
  /-- SB_MSG_DROP; 32 bits wrapping; 17_stack_bus_and_stacking R685; reset 0 -/
  msgDrop : Nat := 0
  /-- SB_MSG_DROP grew in this slow tick; 1 bit; 17_stack_bus_and_stacking R699; reset 0 -/
  dropTick : Bool := false
  deriving DecidableEq, Repr

/-- One clock selector of Table 18-4. -/
structure SelectorSt where
  /-- source in use; 2 bits; 18_clocks_resets_power R735; reset DESIGN CHOICE 0 (log 7) -/
  source : Nat := 0
  /-- switches; 32 bits wrapping; 18_clocks_resets_power R735; reset 0 -/
  switches : Nat := 0
  /-- forced switches; 32 bits wrapping; 18_clocks_resets_power R735; reset 0 -/
  forced : Nat := 0
  /-- a switch to this source is under way; 18_clocks_resets_power R713; reset none -/
  target : Option Nat := none
  deriving DecidableEq, Repr

/-- PLL-R (R704, R709, R711, R712). -/
inductive PllState where
  | unlocked | locked | coasting | aligning
  deriving DecidableEq, Repr

/-- One XI input (R701 to R703). -/
structure XiSt where
  /-- judged stable; 1 bit; 18_clocks_resets_power R702; reset 0 -/
  stable : Bool := false
  /-- judgements made; 3 bits; 18_clocks_resets_power R703; reset 0 -/
  attempts : Nat := 0
  /-- measured frequency, 0.1 ppm against trimmed SOSC; 32 bits signed; 18_clocks_resets_power R735; reset DESIGN CHOICE 0 (log 1) -/
  freq : Int := 0
  /-- shows no edge within 4 nominal periods; 1 bit; 18_clocks_resets_power R707; reset 0 -/
  silent : Bool := false
  deriving DecidableEq, Repr

/-- Clocks, resets and power domains (18). -/
structure ClockSt where
  /-- PLL-R unlocked, locked, coasting or aligning; 2 bits; 18_clocks_resets_power R735; reset unlocked -/
  pll : PllState := .unlocked
  /-- ticks are aligned to epochs under R712; 1 bit; 18_clocks_resets_power R712; reset 0 -/
  aligned : Bool := false
  /-- inputs XI0 and XI1; 18_clocks_resets_power R702; reset see XiSt -/
  xi : Two XiSt := ⟨{}, {}⟩
  /-- selectors: 0 root input, 1 management clock, 2 DPLL local oscillator, 3 to 10 lane-group references; 18_clocks_resets_power R713; reset see SelectorSt -/
  sels : Tab SelectorSt := []
  /-- a change of root input is to be looked for at the next slow tick (failed input 0 to 2, or 3 after CLOCK_CONFIG); 18_clocks_resets_power R708; reset none -/
  reselect : Option Nat := none
  /-- a TIMING reset waits for PLL-R to leave the DPLL output; 1 bit; 18_clocks_resets_power R727; reset 0 -/
  timingWaits : Bool := false
  /-- coasts since POR; 32 bits wrapping; 18_clocks_resets_power R735; reset 0 -/
  coasts : Nat := 0
  /-- FOSC trim code; 16 bits; 18_clocks_resets_power R735; reset DESIGN CHOICE 0 (log 1) -/
  foscTrim : Nat := 0
  /-- SOSC trim code; 16 bits; 18_clocks_resets_power R735; reset DESIGN CHOICE 0 (log 1) -/
  soscTrim : Nat := 0
  /-- slow ticks since the last trim; 32 bits; 18_clocks_resets_power R735; reset DESIGN CHOICE 0 (log 1) -/
  trimAge : Nat := 0
  /-- CLK_EN bits 17 to 0; 18 bits; 18_clocks_resets_power R718; reset all 1 -/
  clkEn : BitVec 18 := 0x3FFFF
  /-- CLK_EN.REFUSED; 1 bit; 18_clocks_resets_power R718; reset 0 -/
  refused : Bool := false
  /-- domains in reset with their causes (0 POR, 1 RESET_N, 2 command, 3 fault reaction, 4 containing domain, 5 watchdog, 6 alarm); 18_clocks_resets_power R722; reset none: State.reset is the device at the release of POR -/
  inReset : List (Domain × Nat) := []
  /-- control-tick boundaries a commanded reset has still to be held; 18_clocks_resets_power R723; reset none -/
  holds : List (Domain × Nat) := []
  /-- a commanded DEVICE or MGMT reset waits: domain and device time of the response; 18_clocks_resets_power R723; reset none -/
  delayed : List (Domain × Time) := []
  /-- cause of the last DEVICE reset; 2 bits; 18_clocks_resets_power R737; reset 0 POR -/
  lastCause : Nat := 0
  /-- TIMING_HOLD strap; 1 bit; 18_clocks_resets_power R726; reset DESIGN CHOICE 0 (log 6) -/
  timingHold : Bool := false
  /-- XING_DISCARD of the crossings of Table 18-7 in order; 32 bits wrapping each; 18_clocks_resets_power R728; reset 0 -/
  xingDiscard : Tab Nat := []
  /-- carrier powered; 2 bits; 18_clocks_resets_power R732; reset 0 (no Accord) -/
  power : Two Bool := ⟨false, false⟩
  /-- RESET_N is low; 1 bit; 18_clocks_resets_power R721; reset DESIGN CHOICE 0 (log 6) -/
  resetN : Bool := false
  /-- control ticks of the present alignment run; 32 bits; 18_clocks_resets_power R712; reset 0 -/
  alignTicks : Nat := 0
  /-- root_order in force at the last slow tick; 24 bits; 18_clocks_resets_power R708; reset 0x00, 0x01, 0xFF -/
  orderSeen : Nat × Nat × Nat := (0, 1, 0xFF)
  /-- slow ticks (of SOSC, 1 ms) since the firmware heartbeat advanced; 7 bits; 18_clocks_resets_power R725; reset 0 -/
  heartbeatAge : Nat := 0
  /-- seconds since the last Sillage snapshot, counted in the always-on domain, none after POR; 11_reference_selection_and_holdover R496; reset none -/
  snapAge : Option Nat := none
  deriving DecidableEq, Repr

/-- An event record before it is routed (Table 21-6 without seq). -/
structure EventRec where
  /-- type; 16 bits; 21_mailbox_interface R820 -/
  type : Nat := 0
  /-- source; 16 bits; 21_mailbox_interface R820 -/
  source : Nat := 0
  /-- severity; 2 bits; 21_mailbox_interface R820 -/
  sev : Nat := 0
  /-- member; 3 bits; 21_mailbox_interface R820 -/
  member : Nat := 0
  /-- instant; device time; 21_mailbox_interface R820 -/
  t : Time := 0
  /-- payload; 12 bytes, bytes not listed are zero; 21_mailbox_interface R820 -/
  payload : List Byte := []
  deriving DecidableEq, Repr

/-- State of a fault source (R747). -/
inductive SrcPhase where
  | quiet | active | latched
  deriving DecidableEq, Repr

/-- One fault source: a fault ID with one instance (R739). -/
structure SourceSt where
  /-- QUIET, ACTIVE or LATCHED; 2 bits; 19_fault_handling R747; reset QUIET -/
  st : SrcPhase := .quiet
  /-- the condition that defines the fault holds; 1 bit; 19_fault_handling R748; reset 0 -/
  cond : Bool := false
  /-- an event of the fault fell in this control tick; 1 bit; 19_fault_handling R748; reset 0 -/
  pulse : Bool := false
  /-- slow-tick boundaries still to come before the quiet period ends, none while it does not run; 16 bits; 19_fault_handling R749; reset none -/
  quiet : Option Nat := none
  /-- event counter; 32 bits saturating; 19_fault_handling R759; reset 0 -/
  events : Nat := 0
  /-- recovery counter; 16 bits saturating; 19_fault_handling R750; reset 0 -/
  recoveries : Nat := 0
  /-- epochs ago of the last 15 recoveries since code 1 of FAULT_CLEAR, newest first; 12 bits each; 19_fault_handling R750; reset none -/
  recent : List Nat := []
  /-- slow ticks ago of the events inside the counting window, newest first; 16 bits each; 19_fault_handling R745; reset none -/
  window : List Nat := []
  /-- an event of this source was logged in this slow tick; 1 bit; 19_fault_handling R759; reset 0 -/
  logged : Bool := false
  /-- held reactions in force; 16 bits; 19_fault_handling R756; reset 0 -/
  held : BitVec 16 := 0
  /-- reactions to begin at the next control-tick boundary; 16 bits; 19_fault_handling R754; reset 0 -/
  due : BitVec 16 := 0
  /-- device time of the last event; 19_fault_handling R769; reset DESIGN CHOICE 0 (log 1) -/
  lastEvent : Time := 0
  /-- device time of the last state change; 19_fault_handling R769; reset DESIGN CHOICE 0 (log 1) -/
  lastChange : Time := 0
  deriving DecidableEq, Repr

/-- A fault record (Table 19-5), without its bytes. -/
structure FaultRec where
  /-- fault_id; 16 bits; 19_fault_handling R759 -/
  id : Nat := 0
  /-- instance; 8 bits; 19_fault_handling R759 -/
  inst : Nat := 0
  /-- effective class; 2 bits; 19_fault_handling R759 -/
  cls : Nat := 0
  /-- flags; 5 bits; 19_fault_handling R759 -/
  flags : BitVec 8 := 0
  /-- phase in force; 2 bits; 19_fault_handling R759 -/
  phase : Nat := 0
  /-- reactions begun; 16 bits; 19_fault_handling R759 -/
  reactions : BitVec 16 := 0
  /-- device time of detection; 19_fault_handling R759 -/
  t : Time := 0
  /-- other events of the same core cycle; 16 bits; 19_fault_handling R759 -/
  others : Nat := 0
  /-- recovery counter after the event; 16 bits; 19_fault_handling R759 -/
  recoveries : Nat := 0
  /-- detail; 8 bytes; 19_fault_handling R759 -/
  detail : List Byte := []
  deriving DecidableEq, Repr

/-- An armed injection (R763). -/
structure Injection where
  /-- check bits to invert; 32 bits; 19_fault_handling R763 -/
  pattern : BitVec 32 := 0
  /-- checks still to invert; 8 bits; 19_fault_handling R763 -/
  left : Nat := 0
  /-- inj_react; 1 bit; 19_fault_handling R765 -/
  react : Bool := false
  /-- checks marked injected; 8 bits; 19_fault_handling R763 -/
  marked : Nat := 0
  deriving DecidableEq, Repr

/-- The fault collector (19). -/
structure FaultSt where
  /-- every source, by 256 * fault ID + instance; 19_fault_handling R747; reset see SourceSt -/
  sources : Tab SourceSt := []
  /-- the log, newest first, at most 1,024 records; 19_fault_handling R760; reset empty -/
  log : List FaultRec := []
  /-- LOG_OVERWRITE; 32 bits; 19_fault_handling R760; reset 0 -/
  overwrite : Nat := 0
  /-- always-on mirror of the latest records, newest first, at most 64; 19_fault_handling R760; reset empty -/
  mirror : List FaultRec := []
  /-- first-fault record; 19_fault_handling R762; reset empty -/
  first : Option FaultRec := none
  /-- the STARTUP phase applies; 1 bit; 19_fault_handling R743; reset 1 -/
  startup : Bool := true
  /-- test mode; 1 bit; 19_fault_handling R773; reset 0 -/
  test : Bool := false
  /-- recovery_s; 10 bits; 19_fault_handling R773; reset 10 -/
  recoveryS : Nat := 10
  /-- epoch boundaries left of the recovery phase of each domain in recovery; 10 bits; 19_fault_handling R743; reset none -/
  recovery : List (Domain × Nat) := []
  /-- FAULT_RAISED records that begin at the next control-tick boundary, with their source; 19_fault_handling R754; reset none -/
  dueRaised : List (Nat × EventRec) := []
  /-- armed injections, by 256 * checker fault ID + instance; 19_fault_handling R763; reset none -/
  armed : Tab (Option Injection) := []
  /-- records of class F waiting to be copied to the black box, oldest first; 19_fault_handling R767; reset none -/
  toBlackBox : List FaultRec := []
  /-- FAULT_N pin drives low; 1 bit; 19_fault_handling R757; reset 0 (released) -/
  pinLow : Bool := false
  deriving DecidableEq, Repr

/-- Boot stages (Table 20-5). -/
inductive Stage where
  | rom | clocks | fwLoad | selfTest | dramTrain | accord | script | ready | stopped
  deriving DecidableEq, Repr

/-- Kinds of start (Table 20-5). -/
inductive StartKind where
  | por | device | mgmt
  deriving DecidableEq, Repr

/-- One archive entry (R795, R796). -/
structure NandEntry where
  /-- entry ID; 64 bits; 20_startup_and_nonvolatile_store R796 -/
  id : Nat := 0
  /-- bytes of the entry; 20_startup_and_nonvolatile_store R796 -/
  data : List Byte := []
  /-- whole length given when the write began; 32 bits; 20_startup_and_nonvolatile_store R796 -/
  total : Nat := 0
  /-- marked invalid after an uncorrectable codeword; 1 bit; 20_startup_and_nonvolatile_store R794 -/
  invalid : Bool := false
  deriving DecidableEq, Repr

/-- The NAND archive (R793 to R800). -/
structure NandSt where
  /-- an archive is present; 1 bit; 20_startup_and_nonvolatile_store R793; reset DESIGN CHOICE 0 until the mount (log 1) -/
  present : Bool := false
  /-- channels; 2 bits; 20_startup_and_nonvolatile_store R793; reset DESIGN CHOICE 0 (log 1) -/
  channels : Nat := 0
  /-- targets per channel; 3 bits; 20_startup_and_nonvolatile_store R793; reset DESIGN CHOICE 0 (log 1) -/
  targets : Nat := 0
  /-- capacity in bytes; 64 bits; 20_startup_and_nonvolatile_store R798; reset DESIGN CHOICE 0 (log 1) -/
  capacity : Nat := 0
  /-- lowest, mean and highest erase counts; 32 bits each; 20_startup_and_nonvolatile_store R798; reset DESIGN CHOICE 0 (log 1) -/
  erases : Nat × Nat × Nat := (0, 0, 0)
  /-- rated endurance; 32 bits; 20_startup_and_nonvolatile_store R798; reset DESIGN CHOICE 0 (log 1) -/
  endurance : Nat := 0
  /-- total bytes written; 64 bits; 20_startup_and_nonvolatile_store R798; reset DESIGN CHOICE 0 (log 1) -/
  written : Nat := 0
  /-- grown bad blocks; 32 bits; 20_startup_and_nonvolatile_store R797; reset DESIGN CHOICE 0 (log 1) -/
  grownBad : Nat := 0
  /-- reserve blocks left; 32 bits; 20_startup_and_nonvolatile_store R797; reset DESIGN CHOICE 0 (log 1) -/
  reserve : Nat := 0
  /-- spill area in MiB; 32 bits; 20_startup_and_nonvolatile_store R795; reset DESIGN CHOICE 0 (log 1) -/
  spillMiB : Nat := 0
  /-- size of a block in MiB, at least 1; 20_startup_and_nonvolatile_store R797; reset DESIGN CHOICE 0 (log 1) -/
  blockMiB : Nat := 0
  /-- committed entries of areas 0 Accord library, 2 black box unused here, 3 Blotter spill, by area; 20_startup_and_nonvolatile_store R796; reset none -/
  entries : Tab (List NandEntry) := []
  /-- the entry being written and not yet committed, per area; 20_startup_and_nonvolatile_store R796; reset none -/
  writing : Tab (Option NandEntry) := []
  /-- Sillage snapshots, newest first, at most 16; 11_reference_selection_and_holdover R496; reset none -/
  snaps : List SillageSnap := []
  /-- fault black box, newest first, at most 65,536 records; 20_startup_and_nonvolatile_store Table 20-7; reset none -/
  blackBox : List FaultRec := []
  /-- entries whose blocks are under erase: area and entry ID; 20_startup_and_nonvolatile_store R800; reset none -/
  erasing : List (Nat × Nat) := []
  /-- a block was needed and neither the reserve nor the spill area had one; 1 bit; 20_startup_and_nonvolatile_store R797; reset 0 -/
  noBlocks : Bool := false
  /-- commands held by an erase; 20_startup_and_nonvolatile_store R800; reset none -/
  held : List Held := []
  /-- a NAND_FORMAT in progress; 20_startup_and_nonvolatile_store R795; reset none -/
  format : Option Held := none
  deriving DecidableEq, Repr

/-- A firmware slot as examined by the ROM (Tables 20-3, 20-5). -/
structure FwSlot where
  /-- bytes of the slot written so far by NV_FW_WRITE; NOR; 20_startup_and_nonvolatile_store R783; reset erased -/
  bytes : List Host.Cell := []
  /-- status in the coding of detail, none when not examined (0xFF); 4 bits; 20_startup_and_nonvolatile_store Table 20-5; reset none -/
  status : Option Nat := none
  /-- fw_version of the slot's image; 32 bits; 20_startup_and_nonvolatile_store R779; reset DESIGN CHOICE 0 (log 1) -/
  version : Nat := 0
  /-- sec_version of the slot's image; 6 bits; 20_startup_and_nonvolatile_store R779; reset DESIGN CHOICE 0 (log 1) -/
  sec : Nat := 0
  deriving DecidableEq, Repr

/-- One-time-programmable memory (R53, R60, R855). -/
structure OtpSt where
  /-- items 0 to 5 of R855 fused; 6 bits; 22_command_reference R855; reset DESIGN CHOICE none fused (log 1) -/
  fused : BitVec 6 := 0
  /-- hashes of OEM key slots 1 and 2; 48 bytes each; 22_command_reference R855; reset empty -/
  hash : Two (List Byte) := ⟨[], []⟩
  /-- key-encryption key; 256 bits; 22_command_reference R855; reset none -/
  kek : Option (BitVec 256) := none
  /-- firmware anti-rollback counter; 0 to 63; 20_startup_and_nonvolatile_store R780; reset DESIGN CHOICE 0 (log 1) -/
  fwCounter : Nat := 0
  /-- Accord anti-rollback counter; 0 to 63; 02_accords_and_loop_engines R60; reset DESIGN CHOICE 0 (log 1) -/
  accordCounter : Nat := 0
  /-- an OTP_PROGRAM in progress; 22_command_reference R855; reset none -/
  burn : Option Held := none
  deriving DecidableEq, Repr

/-- Start-up and the non-volatile store (20). -/
structure BootSt where
  /-- stage; 4 bits; 20_startup_and_nonvolatile_store R791; reset ROM -/
  stage : Stage := .rom
  /-- start_kind; 4 bits; 20_startup_and_nonvolatile_store R791; reset POR -/
  kind : StartKind := .por
  /-- cause; 8 bits; 20_startup_and_nonvolatile_store R791; reset 0 -/
  cause : Nat := 0
  /-- detail; 16 bits; 20_startup_and_nonvolatile_store R791; reset 0 -/
  detail : Nat := 0
  /-- the firmware runs; 1 bit; 20_startup_and_nonvolatile_store R792; reset 0 -/
  fwRuns : Bool := false
  /-- BOOT_SRC straps as read; 2 bits; 20_startup_and_nonvolatile_store R774; reset DESIGN CHOICE 0 (log 6) -/
  bootSrc : Nat := 0
  /-- XDLY straps as read; 3 bits; 18_clocks_resets_power R702; reset DESIGN CHOICE 0 (log 6) -/
  xdly : Nat := 0
  /-- the start delay has elapsed since the start; 1 bit; 18_clocks_resets_power R702; reset 0 -/
  delayOver : Bool := false
  /-- NOR copies 0 and 1 of the boot header; 256 bytes each; 20_startup_and_nonvolatile_store R776; reset DESIGN CHOICE empty, neither valid (log 8) -/
  headers : Two (List Byte) := ⟨[], []⟩
  /-- header copy in use (0, 1), none for the default or PCIe header; 20_startup_and_nonvolatile_store R776; reset none -/
  copy : Option Nat := none
  /-- header in use; 256 bytes; 20_startup_and_nonvolatile_store R776; reset the default header -/
  header : List Byte := []
  /-- the default header is in use; 1 bit; 20_startup_and_nonvolatile_store R776; reset 0 -/
  headerDefault : Bool := false
  /-- a trial was reverted at this start; 1 bit; 20_startup_and_nonvolatile_store R782; reset 0 -/
  reverted : Bool := false
  /-- a slot was refused at this start; 1 bit; 20_startup_and_nonvolatile_store R780; reset 0 -/
  refusedSlot : Bool := false
  /-- NOR firmware slots A and B; 20_startup_and_nonvolatile_store R781; reset see FwSlot -/
  slots : Two FwSlot := ⟨{}, {}⟩
  /-- startup script region; at most 65,536 bytes; 20_startup_and_nonvolatile_store R788; reset DESIGN CHOICE empty (log 8) -/
  script : List Host.Cell := []
  /-- running slot 0 A, 1 B, 2 PCIe; 2 bits; 22_command_reference R848; reset 0 -/
  fwSlot : Nat := 0
  /-- running fw_version; 32 bits; 22_command_reference R848; reset DESIGN CHOICE 0 (log 1) -/
  fwVersion : Nat := 0
  /-- sec_version of the running firmware; 6 bits; 20_startup_and_nonvolatile_store R780; reset DESIGN CHOICE 0 (log 1) -/
  fwSec : Nat := 0
  /-- record of the startup script to run next: its number and its offset; 20_startup_and_nonvolatile_store R788; reset 0 -/
  scriptNext : Nat × Nat := (0, 0)
  /-- the startup script has ended; 1 bit; 20_startup_and_nonvolatile_store R788; reset 0 -/
  scriptDone : Bool := false
  /-- the firmware comes from the host's image; 1 bit; 20_startup_and_nonvolatile_store R778; reset 0 -/
  pcie : Bool := false
  /-- carriers powered off by a self-test failure; 2 bits; 20_startup_and_nonvolatile_store R785; reset none -/
  bistFail : Two Bool := ⟨false, false⟩
  /-- NOR sectors under erase (address / 65,536); 20_startup_and_nonvolatile_store R800; reset none -/
  norErase : List Nat := []
  /-- commands held by a NOR erase; 20_startup_and_nonvolatile_store R800; reset none -/
  norHeld : List Held := []
  /-- an NV_FW_ACTIVATE in progress; 20_startup_and_nonvolatile_store R783; reset none -/
  activate : Option Held := none
  /-- boot Accord stage of step 5: loading, staging or switching; 1 bit; 20_startup_and_nonvolatile_store R787; reset 0 -/
  bootAccord : Bool := false
  /-- NAND archive; 20_startup_and_nonvolatile_store R793; reset see NandSt -/
  nand : NandSt := {}
  /-- one-time-programmable memory; 22_command_reference R855; reset see OtpSt -/
  otp : OtpSt := {}
  deriving DecidableEq, Repr

/-- One mailbox, MB0 to MB3, or the proxy mailbox MB4 (21). -/
structure Mailbox where
  /-- request buffer; 4 KiB, unlisted bytes read zero; 21_mailbox_interface Table 21-2; reset DESIGN CHOICE zero (log 1) -/
  req : List Host.Cell := []
  /-- response buffer; the last response; 21_mailbox_interface R814; reset DESIGN CHOICE empty (log 1) -/
  resp : List Byte := []
  /-- LAST_SEQ; 16 bits; 21_mailbox_interface Table 21-4; reset 0 -/
  lastSeq : Nat := 0
  /-- LAST_STATUS; 8 bits; 21_mailbox_interface Table 21-4; reset 0 -/
  lastStatus : Nat := 0
  /-- WRITE_LOCKED; 1 bit; 21_mailbox_interface Table 21-4; reset 0 -/
  writeLocked : Bool := false
  /-- DB_IGNORED; 1 bit; 21_mailbox_interface Table 21-4; reset 0 -/
  dbIgnored : Bool := false
  /-- BUSY; 1 bit; 21_mailbox_interface Table 21-4; reset 0 -/
  busy : Bool := false
  /-- RESP_READY; 1 bit; 21_mailbox_interface Table 21-4; reset 0 -/
  respReady : Bool := false
  deriving DecidableEq, Repr

/-- Loss account of one destination (R823). -/
structure LossSt where
  /-- records discarded since the last EVENT_LOSS; 32 bits; 21_mailbox_interface R823; reset 0 -/
  count : Nat := 0
  /-- instants of the first and last record discarded; 21_mailbox_interface R823; reset 0 -/
  span : Time × Time := (0, 0)
  /-- seq of the next record; 16 bits wrapping; 21_mailbox_interface R823; reset 0 -/
  seq : Nat := 0
  deriving DecidableEq, Repr

/-- One host DMA ring (R824 to R827); its configuration is in the settings store. -/
structure RingSt where
  /-- kind, enable, vector, entries, base, class_mask, min_sev, coalesce_us in force; Table 21-8; 21_mailbox_interface R827; reset as Table 21-8 -/
  kind : Nat := 0
  /-- the ring is enabled; 1 bit; 21_mailbox_interface R827; reset 0 -/
  enable : Bool := false
  /-- a disable waits for the next control-tick boundary; 1 bit; 21_mailbox_interface R827; reset 0 -/
  offWaits : Bool := false
  /-- MSI-X vector, 0xFF none; 8 bits; 21_mailbox_interface R827; reset 0xFF -/
  vector : Nat := 0xFF
  /-- ring size; 32 bits; 21_mailbox_interface R827; reset 64 -/
  entries : Nat := 64
  /-- host address of entry 0; 64 bits; 21_mailbox_interface R827; reset 0 -/
  base : Nat := 0
  /-- class_mask; 18 bits; 21_mailbox_interface R827; reset 0 -/
  classMask : Nat := 0
  /-- min_sev; 2 bits; 21_mailbox_interface R827; reset 0 -/
  minSev : Nat := 0
  /-- coalesce_us; 10 bits; 21_mailbox_interface R827; reset 0 -/
  coalesce : Nat := 0
  /-- RING_HEAD; 32 bits; 21_mailbox_interface Table 21-1; reset 0 -/
  head : Nat := 0
  /-- RING_TAIL; 32 bits; 21_mailbox_interface Table 21-1; reset 0 -/
  tail : Nat := 0
  /-- RING_DROP; 32 bits; 21_mailbox_interface Table 21-1; reset 0 -/
  drop : Nat := 0
  /-- loss account and seq; 21_mailbox_interface R823; reset 0 -/
  loss : LossSt := {}
  /-- device time of the ring's last MSI-X message, none before the first; 21_mailbox_interface R827; reset none -/
  lastMsi : Option Time := none
  /-- an MSI-X message waits for coalesce_us; 1 bit; 21_mailbox_interface R827; reset 0 -/
  msiWaits : Bool := false
  deriving DecidableEq, Repr

/-- Host interface (21). -/
structure HostSt where
  /-- VARIANT: 1 for TLN3200-N1; 4 bits; 21_mailbox_interface Table 21-3; reset per part, DESIGN CHOICE 0 X1 (log 9) -/
  variant : Nat := 0
  /-- STEP_MAJOR and STEP_MINOR; 8 bits; 21_mailbox_interface Table 21-3; reset per part, DESIGN CHOICE 0 (log 9) -/
  step : Nat := 0
  /-- VENDOR; 16 bits; 21_mailbox_interface Table 21-3; reset per part, DESIGN CHOICE 0 (log 9) -/
  vendor : Nat := 0
  /-- HEARTBEAT; 32 bits wrapping; 21_mailbox_interface Table 21-1; reset 0 -/
  heartbeat : BitVec 32 := 0
  /-- SCRATCH0 to SCRATCH3; 32 bits each; 21_mailbox_interface Table 21-1; reset 0 -/
  scratch : Tab (BitVec 32) := []
  /-- IRQ_STATUS bits 8 to 0; 32 bits; 21_mailbox_interface Table 21-5; reset 0 -/
  irqStatus : BitVec 32 := 0
  /-- IRQ_ENABLE; 32 bits; 21_mailbox_interface Table 21-5; reset 0 -/
  irqEnable : BitVec 32 := 0
  /-- MSI-X table at BAR0 0x2000: 32 entries of address, upper address, data and vector control; 128 words of 32 bits; 21_mailbox_interface R802; reset PRESUMED vector control 1 (masked), the rest 0 (the PCI Express Base Specification's) (log 26) -/
  msixTable : Tab (BitVec 32) := []
  /-- MSI-X pending-bit array at BAR0 0x3000; 32 bits; 21_mailbox_interface R829; reset PRESUMED 0 (the PCI Express Base Specification's) (log 26) -/
  msixPend : BitVec 32 := 0
  /-- IRQ_N pin drives low; 1 bit; 21_mailbox_interface R828; reset 0 (high) -/
  irqLow : Bool := false
  /-- DBG_PAGE; 8 bits; 21_mailbox_interface Table 21-1; reset 0 -/
  dbgPage : Nat := 0
  /-- DBG_CTRL.DBG_WRITE; 1 bit; 21_mailbox_interface Table 21-1; reset 0 -/
  dbgWrite : Bool := false
  /-- registers behind the debug window, by page * 2^23 + byte offset; 32 bits each; 21_mailbox_interface R810; reset DESIGN CHOICE 0 (log 1) -/
  dbgRegs : Tab (BitVec 32) := []
  /-- BOOT_DOORBELL length last written; 32 bits; 20_startup_and_nonvolatile_store R778; reset 0 -/
  bootBell : Nat := 0
  /-- boot buffer, BAR2 while the stage is ROM, CLOCKS or FW_LOAD; 16 MiB; 21_mailbox_interface R809; reset DESIGN CHOICE zero (log 1) -/
  bootBuf : List Host.Cell := []
  /-- mailboxes MB0 to MB3 and MB4; 21_mailbox_interface R811; reset see Mailbox -/
  mbs : Tab Mailbox := []
  /-- polled FIFO, oldest first, at most 256 whole records; 32 bytes each; 21_mailbox_interface R822; reset empty -/
  fifo : List (List Byte) := []
  /-- EVT_FIFO_MASK; 18 bits; 21_mailbox_interface Table 21-1; reset 0x3FFFF -/
  fifoMask : BitVec 18 := 0x3FFFF
  /-- EVT_FIFO_SEV; 2 bits; 21_mailbox_interface Table 21-1; reset 0 -/
  fifoSev : Nat := 0
  /-- EVT_FIFO_DROP; 32 bits; 21_mailbox_interface Table 21-1; reset 0 -/
  fifoDrop : Nat := 0
  /-- loss account and seq of the polled FIFO; 21_mailbox_interface R823; reset 0 -/
  fifoLoss : LossSt := {}
  /-- rings 0 to 63; 21_mailbox_interface R824; reset see RingSt -/
  rings : Tab RingSt := []
  /-- commands that returned PENDING and are not yet done; 21_mailbox_interface R896; reset none -/
  pendCmds : List PendRec := []
  /-- commands cancelled by a MGMT reset, to be reported after ready; 21_mailbox_interface R896; reset none -/
  cancelled : List PendRec := []
  /-- commands whose transfer runs, their mailboxes busy; 15_latency_and_load R633; reset none -/
  transfers : List Held := []
  /-- commands that wait behind a transfer on their object; 15_latency_and_load R633; reset none -/
  waiting : List Held := []
  /-- uptime; 32 bits saturating; 22_command_reference R848; reset 0 -/
  uptime : Nat := 0
  deriving DecidableEq, Repr

/-- Electrical monitors (23). -/
structure ElecSt where
  /-- every supply has been above its rising threshold for 1 ms and POR is released; 1 bit; 23_package_pins_electrical R867; reset 1: State.reset is the device at the release of POR -/
  porReleased : Bool := true
  /-- VPP_OTP is at or above 1.75 V; 1 bit; 23_package_pins_electrical R872; reset DESIGN CHOICE 0 (log 1) -/
  vppOk : Bool := false
  /-- the ten supplies of Table 23-3 averaged over the last slow tick, mV; 16 bits each; 22_command_reference R856; reset DESIGN CHOICE 0 (log 1) -/
  supplies : List Nat := List.replicate 10 0
  /-- eight junction temperatures averaged over the last slow tick, x 0.01 C; 16 bits signed each; 22_command_reference R856; reset DESIGN CHOICE 0 (log 1) -/
  temps : List Int := List.replicate 8 0
  /-- consecutive slow ticks with a sensor above 105 C; 4 bits; 23_package_pins_electrical R884; reset 0 -/
  hotRun : Nat := 0
  /-- consecutive slow ticks with every sensor below 100 C; 4 bits; 23_package_pins_electrical R884; reset 0 -/
  coolRun : Nat := 0
  /-- AVS target for VDD_CORE, mV; 10 bits; 23_package_pins_electrical R870; reset 750 -/
  avsTarget : Nat := 750
  /-- a target has been sent since the start; 1 bit; 23_package_pins_electrical R870; reset 0 -/
  avsSent : Bool := false
  /-- consecutive AVS commands not acknowledged; 2 bits; 23_package_pins_electrical R871; reset 0 -/
  avsNak : Nat := 0
  /-- consecutive slow ticks with VDD_CORE outside the target by more than 5 %; 4 bits; 23_package_pins_electrical R871; reset 0 -/
  avsOff : Nat := 0
  /-- TXON pins driven high; 2 bits; 23_package_pins_electrical R866; reset low -/
  txon : Two Bool := ⟨false, false⟩
  deriving DecidableEq, Repr

/-- A setting accepted and not yet in force (R35). -/
structure PendSet where
  /-- key of the setting; 01_talnis_3200_at_a_glance R35 -/
  key : Nat := 0
  /-- value in force until then; 01_talnis_3200_at_a_glance R35 -/
  old : Int := 0
  /-- boundary at which the new value takes force, code of the layout row; 01_talnis_3200_at_a_glance R35 -/
  when : Nat := 0
  deriving DecidableEq, Repr

/-- What the last step sent out of the device (the model's own record, cleared by every step; log 11). -/
inductive Output where
  /-- a TLP write to host memory: address and bytes -/
  | dma (addr : Nat) (bytes : List Byte)
  /-- an MSI-X message on a vector -/
  | msix (vector : Nat)
  /-- a value returned on a register read -/
  | read (value : BitVec 32)
  /-- a native superframe overhead sent on a carrier -/
  | nso (c : Carrier) (bytes : List Byte)
  /-- overhead bytes sent in a frame of a carrier -/
  | overhead (c : Carrier) (bytes : List Byte)
  /-- an OSTC symbol: the tone is on -/
  | symbol (c : Carrier) (phase : Bool)
  /-- an OHP frame sent -/
  | ohp (c : Carrier) (slots : List OhFrame)
  /-- a stack frame sent on a port -/
  | stack (port : Nat) (word : TimeWord) (recs : List GrpRecItem) (states : List GrpStateItem)
      (trigs : List TrigItem) (relay : Option RelayItem) (msgs : List SbMsg)
  /-- a client frame sent on a port: the instant of its first bit and its bytes -/
  | frame (port : Nat) (t : Time) (bytes : List Byte)
  /-- a PTP message sent: its CORRECTION field added to, and its stamp if it is rewritten -/
  | ptp (port : Nat) (stamp : Time) (correction : Int)
  /-- a superframe released to the tributaries of a group -/
  | release (group member g : Nat)
  /-- a pulse on TRIG_OUT -/
  | trigOut
  /-- a pulse on PPSOUT0 or PPSOUT1 (8, 9) at an instant -/
  | pps (out : Nat) (t : Time)
  /-- an AVSBus voltage write of rail 0, mV -/
  | avs (mv : Nat)
  deriving DecidableEq, Repr

/-- The whole device but the queue of commands. -/
structure Device where
  /-- Accord store, working sets and switch (02) -/
  accord : AccordSt := {}
  /-- loop engines (02) -/
  engines : EnginesSt := {}
  /-- converters of carriers A and B (03) -/
  conv : Two CarrierConv := ⟨{}, {}⟩
  /-- transmitters (04) -/
  tx : Two TxSt := ⟨{}, {}⟩
  /-- receivers (05) -/
  rx : Two RxSt := ⟨{}, {}⟩
  /-- forward error correction (06) -/
  fec : Two FecSt := ⟨{}, {}⟩
  /-- decoder pool (06) -/
  pool : PoolSt := {}
  /-- line framing (07) -/
  line : Two LineSt := ⟨{}, {}⟩
  /-- OHP_FS is present; 1 bit; 07_line_framing_and_defects R338; reset 1 -/
  ohpFs : Bool := true
  /-- tributaries, groups, protection (08) -/
  tribs : TribsSt := {}
  /-- line encryption (09) -/
  crypto : Two CryptoSt := ⟨{}, {}⟩
  /-- key and message engine, alarm (09) -/
  kme : KmeSt := {}
  /-- supervisory channel (10) -/
  ostc : Two OstcSt := ⟨{}, {}⟩
  /-- device time, DPLL, Sillage (11, 12) -/
  timing : TimingSt := {}
  /-- time transfer (12) -/
  ttx : Two TtxSt := ⟨{}, {}⟩
  /-- sensing channels 0 to 63 (13); reset see SenseSt -/
  sense : Tab SenseSt := []
  /-- ramps of the PHASE inputs (13) -/
  ramp : Two PhaseRamp := ⟨{}, {}⟩
  /-- buffer memory, latency equaliser, captures (14) -/
  mem : MemSt := {}
  /-- host lanes (16) -/
  lanes : LanesSt := {}
  /-- stack (17) -/
  stack : StackSt := {}
  /-- clocks, resets, power (18) -/
  clock : ClockSt := {}
  /-- fault collector (19) -/
  fault : FaultSt := {}
  /-- start-up and store (20) -/
  boot : BootSt := {}
  /-- host interface (21) -/
  host : HostSt := {}
  /-- electrical monitors (23) -/
  elec : ElecSt := {}
  /-- settings last accepted, by key; each at the width of its layout row; 01_talnis_3200_at_a_glance R34; reset each layout row's reset value -/
  settings : Tab (Option Int) := []
  /-- settings whose change has not yet taken force; 01_talnis_3200_at_a_glance R35; reset none -/
  pendSet : List PendSet := []
  /-- event records raised and not yet delivered, oldest first; 21_mailbox_interface R820; reset none -/
  evq : List EventRec := []
  /-- outputs of the last step; the model's own (log 11); reset none -/
  out : List Output := []
  /-- number of free values drawn; the model's own (log 12); reset DESIGN CHOICE 0 (log 12) -/
  fresh : Nat := 0
  deriving DecidableEq, Repr

end Sys2Proof.Machine
end

