-- ==== Sys2Proof/Machine/State.lean ====
section
/-!
DEFINITION. The state of the block: the device (`Device` lists every register, buffer, counter, mode and pin) and the
queue of commands that wait, oldest first; the reasons to stop; the state after reset.
-/
namespace Sys2Proof.Machine
open Sys2Proof

/-- The state. -/
structure State where
  /-- everything the spec gives the device -/
  dev : Device := {}
  /-- commands that wait, first in, first out -/
  pending : List Instr := []
  deriving DecidableEq, Repr

/-- Faults: there is none. Every command has an effect, and an event whose condition does not hold changes nothing
(log 27), so no run stops; this is safe in that no claim rests on a stop. -/
inductive Fault where
  deriving DecidableEq, Repr

/-- Refusals. -/
inductive Refusal where
  /-- A command without a meaning, by its mnemonic. No arm raises it: every row of the table has its meaning. It would
  be safe: a run would end where the device goes on. -/
  | notModelled (mnemonic : String)
  deriving DecidableEq, Repr

/-- The device right after the release of power-on reset, every field at the reset value its docstring names, and no
command waiting (18_clocks_resets_power Table 18-6; 20_startup_and_nonvolatile_store R774; 23_package_pins_electrical
R867). -/
def State.reset : State := { dev := {}, pending := [] }

end Sys2Proof.Machine
end

