-- ==== Sys2Proof/Config.lean ====
section
/-!
DEFINITION. What the spec leaves open: the free values of the model. Each is a constant without a body, so no
statement can rest on a value of it; the model applies it to a counter that the step advances (log 12).
-/
namespace Sys2Proof

/-- A free natural number: the n-th value of an open quantity (log 12). -/
opaque Config.freeNat : Nat → Nat

/-- A free integer (log 12). -/
opaque Config.freeInt : Nat → Int

/-- A free byte string of the length asked for is cut from this (log 12). -/
opaque Config.freeByte : Nat → Nat → Byte

/-- Coefficients of the fixed half-band filter, Q1.13: its outer taps (13_line_sensing_chain R556; log 12). -/
opaque Config.halfBand : Nat → Int

/-- Coefficients of the sensing resampler, Q1.13, by phase and tap (13_line_sensing_chain R556; log 12). -/
opaque Config.resampler : Nat → Nat → Int

/-- The nominal analog delay of a carrier's direction, fs, used while OTP holds no calibration; the spec gives no value
(12_time_transfer_and_delay_calibration Table 12-7; log 12). -/
opaque Config.nominalDelay : Nat → Int

end Sys2Proof
end

