-- ==== Sys2Proof/Machine/Ops.lean ====
section
/-!
DEFINITION. The named operations that every meaning uses: sparse tables, the two carriers, counters that saturate
or wrap, little- and big-endian bytes, device time, timers, CRC-32C, events, interrupts and free values.
-/
namespace Sys2Proof

/-! ### Sparse tables -/

/-- The value of a table at `i`, the default `d i` where no pair has that key. -/
def Tab.get {α : Type} (d : Nat → α) (t : Tab α) (i : Nat) : α :=
  match t with
  | [] => d i
  | (k, v) :: r => if k = i then v else Tab.get d r i

/-- The table without the pair of key `i`. -/
def Tab.erase {α : Type} (t : Tab α) (i : Nat) : Tab α :=
  t.filter fun p => p.1 ≠ i

/-- The table with the pair `(i, v)` put in order of keys; `i` is not a key of `t`. -/
def Tab.insert {α : Type} (t : Tab α) (i : Nat) (v : α) : Tab α :=
  match t with
  | [] => [(i, v)]
  | (k, w) :: r => if i < k then (i, v) :: (k, w) :: r else (k, w) :: Tab.insert r i v

/-- The table with value `v` at `i`; a value equal to the default is not kept. -/
def Tab.set {α : Type} [DecidableEq α] (d : Nat → α) (t : Tab α) (i : Nat) (v : α) : Tab α :=
  if v = d i then Tab.erase t i else Tab.insert (Tab.erase t i) i v

/-- The table with the value at `i` changed by `f`. -/
def Tab.modify {α : Type} [DecidableEq α] (d : Nat → α) (t : Tab α) (i : Nat) (f : α → α) : Tab α :=
  Tab.set d t i (f (Tab.get d t i))

/-- The table with every listed value changed by `f`, where `f` keeps defaults. -/
def Tab.mapAll {α : Type} [DecidableEq α] (d : Nat → α) (t : Tab α) (f : Nat → α → α) : Tab α :=
  (t.map fun p => (p.1, f p.1 p.2)).filter fun p => p.2 ≠ d p.1

/-- The value of a table whose unlisted entries are all the type's own default. -/
def Tab.val {α : Type} [Inhabited α] (t : Tab α) (i : Nat) : α := Tab.get (fun _ => default) t i

/-! ### The two carriers -/

/-- The part of a pair that belongs to a carrier. -/
def Two.get {α : Type} (p : Two α) : Carrier → α
  | .a => p.a
  | .b => p.b

/-- The pair with the part of a carrier replaced. -/
def Two.set {α : Type} (p : Two α) (c : Carrier) (v : α) : Two α :=
  match c with
  | .a => { p with a := v }
  | .b => { p with b := v }

/-- The pair with the part of a carrier changed. -/
def Two.mod {α : Type} (p : Two α) (c : Carrier) (f : α → α) : Two α := p.set c (f (p.get c))

/-- The number of a carrier: 0 A, 1 B (R25, Table 22-1). -/
def Carrier.num : Carrier → Nat
  | .a => 0
  | .b => 1

/-- The carrier of a number: 0 A, otherwise B. -/
def Carrier.ofNum (n : Nat) : Carrier := if n = 0 then .a else .b

/-- The other carrier. -/
def Carrier.other : Carrier → Carrier
  | .a => .b
  | .b => .a

/-- The code of a status (Table 22-3). -/
def Status.code : Status → Nat
  | .ok => 0
  | .busy => 1
  | .badOpcode => 2
  | .badLength => 3
  | .badParam => 4
  | .blockOff => 5
  | .notPermitted => 6
  | .denied => 7
  | .noResource => 8
  | .accordFixed => 9
  | .timeout => 10
  | .stackUnreachable => 11
  | .crcError => 12
  | .pending => 13

/-- Both carriers, in order. -/
def carriers : List Carrier := [.a, .b]

end Sys2Proof
namespace Sys2Proof.Machine
open Sys2Proof

/-! ### One part of the device put in place -/

/-- Put `kme` in place. -/
def putKme (v : KmeSt) (s : Device) : Device := { s with kme := v }
/-- Put `pendSet` in place. -/
def putPendSet (v : List PendSet) (s : Device) : Device := { s with pendSet := v }
/-- Put `ramp` in place. -/
def putRamp (v : Two PhaseRamp) (s : Device) : Device := { s with ramp := v }
/-- Put `out` in place. -/
def putOut (v : List Output) (s : Device) : Device := { s with out := v }
/-- Put `evq` in place. -/
def putEvq (v : List EventRec) (s : Device) : Device := { s with evq := v }
/-- Put `elec` in place. -/
def putElec (v : ElecSt) (s : Device) : Device := { s with elec := v }
/-- Put `settings` in place. -/
def putSettings (v : Tab (Option Int)) (s : Device) : Device := { s with settings := v }
/-- Put `pool` in place. -/
def putPool (v : PoolSt) (s : Device) : Device := { s with pool := v }
/-- Put `fault` in place. -/
def putFault (v : FaultSt) (s : Device) : Device := { s with fault := v }
/-- Put `sense` in place. -/
def putSense (v : Tab SenseSt) (s : Device) : Device := { s with sense := v }
/-- Put `ohpFs` in place. -/
def putOhpFs (v : Bool) (s : Device) : Device := { s with ohpFs := v }
/-- Put `fresh` in place. -/
def putFresh (v : Nat) (s : Device) : Device := { s with fresh := v }
/-- Put `lanes` in place. -/
def putLanes (v : LanesSt) (s : Device) : Device := { s with lanes := v }
/-- Put `tribs` in place. -/
def putTribs (v : TribsSt) (s : Device) : Device := { s with tribs := v }
/-- Put `engines` in place. -/
def putEngines (v : EnginesSt) (s : Device) : Device := { s with engines := v }
/-- Put `ttx` in place. -/
def putTtx (v : Two TtxSt) (s : Device) : Device := { s with ttx := v }
/-- Put `host` in place. -/
def putHost (v : HostSt) (s : Device) : Device := { s with host := v }

/-! ### Numbers -/

/-- A counter of `w` bits that saturates (R16). -/
def sat (w n : Nat) : Nat := min n (2 ^ w - 1)

/-- A counter of `w` bits that wraps (R16). -/
def wrap (w n : Nat) : Nat := n % 2 ^ w

/-- `n` of `w` bits read as two's complement. -/
def asSigned (w n : Nat) : Int := if n % 2 ^ w < 2 ^ (w - 1) then (n % 2 ^ w : Nat) else (n % 2 ^ w : Nat) - (2 ^ w : Nat)

/-- The two's complement code of `z` in `w` bits. -/
def toCode (w : Nat) (z : Int) : Nat := (z % (2 ^ w : Nat)).toNat

/-- `z` clipped to `lo` to `hi`. -/
def clip (lo hi z : Int) : Int := max lo (min hi z)

/-- A truth value as a bit. -/
def bit (b : Bool) : Nat := if b then 1 else 0

/-- Bit `i` of a number. -/
def tb (n i : Nat) : Bool := n / 2 ^ i % 2 = 1

/-- A list of truth values as a bitmap, first at bit 0. -/
def bitmap (l : List Bool) : Nat :=
  match l with
  | [] => 0
  | b :: r => bit b + 2 * bitmap r

/-! ### Bytes -/

/-- `n` as `k` bytes, least significant first (R6). -/
def le (k n : Nat) : List Byte :=
  match k with
  | 0 => []
  | k + 1 => BitVec.ofNat 8 n :: le k (n / 256)

/-- `n` as `k` bytes, most significant first (R292). -/
def be (k n : Nat) : List Byte := (le k n).reverse

/-- A signed number as `k` bytes, least significant first. -/
def leInt (k : Nat) (z : Int) : List Byte := le k (toCode (8 * k) z)

/-- Bytes read as a number, least significant first. -/
def fromLe (l : List Byte) : Nat :=
  match l with
  | [] => 0
  | b :: r => b.toNat + 256 * fromLe r

/-- Bytes read as a number, most significant first. -/
def fromBe (l : List Byte) : Nat := fromLe l.reverse

/-- `k` bytes of `l` from `off`. -/
def slice (l : List Byte) (off k : Nat) : List Byte := (l.drop off).take k

/-- `k` bytes at `off` as a number, least significant first. -/
def rd (l : List Byte) (off k : Nat) : Nat := fromLe (slice l off k)

/-- `k` bytes at `off` as a signed number. -/
def rdInt (l : List Byte) (off k : Nat) : Int := asSigned (8 * k) (rd l off k)

/-- `l` with `bs` written at `off`. -/
def put (l : List Byte) (off : Nat) (bs : List Byte) : List Byte :=
  l.take off ++ bs ++ l.drop (off + bs.length)

/-- `n` zero bytes. -/
def zeros (n : Nat) : List Byte := List.replicate n 0

/-- A layout of `n` bytes: the fields at their offsets, every other byte zero. -/
def fields (n : Nat) (fs : List (Nat × List Byte)) : List Byte :=
  fs.foldl (fun l f => put l f.1 f.2) (zeros n)

/-- `l` made `n` bytes long with zero bytes, or cut. -/
def fit (n : Nat) (l : List Byte) : List Byte := (l ++ zeros (n - l.length)).take n

/-! ### Memory of bytes: an unlisted byte reads as zero (log 1) -/

/-- The byte at an address. -/
def memGet (m : List Host.Cell) (a : Nat) : Byte := Tab.get (fun _ => 0) m a

/-- `k` bytes from an address. -/
def memRead (m : List Host.Cell) (a k : Nat) : List Byte :=
  match k with
  | 0 => []
  | k + 1 => memGet m a :: memRead m (a + 1) k

/-- The memory with bytes written from an address. -/
def memWrite (m : List Host.Cell) (a : Nat) (bs : List Byte) : List Host.Cell :=
  match bs with
  | [] => m
  | b :: r => memWrite (Tab.set (fun _ => (0 : Byte)) m a b) (a + 1) r

/-- The canonical form of a memory whose unlisted bytes read `z`: addresses strictly rising and no entry of value `z`. -/
def Memory.wf (z : Byte) (m : List Host.Cell) : Bool :=
  match m with
  | [] => true
  | [(_, v)] => v ≠ z
  | (k, v) :: (k', v') :: r => v ≠ z && k < k' && Memory.wf z ((k', v') :: r)

/-! ### CRC-32C (R835) -/

/-- One bit step of the reflected Castagnoli polynomial. -/
def crcBit (c : BitVec 32) : BitVec 32 :=
  if c.getLsbD 0 then (c >>> 1) ^^^ 0x82F63B78#32 else c >>> 1

/-- One byte. -/
def crcByte (c : BitVec 32) (b : Byte) : BitVec 32 :=
  let c := c ^^^ b.zeroExtend 32
  crcBit (crcBit (crcBit (crcBit (crcBit (crcBit (crcBit (crcBit c)))))))

/-- CRC-32C of bytes: reflected, initial value and final XOR all ones (R835). -/
def crc32c (l : List Byte) : BitVec 32 := (l.foldl crcByte 0xFFFFFFFF#32) ^^^ 0xFFFFFFFF#32

/-! ### Device time (R513) -/

/-- Units of device time in one second. -/
def SEC : Nat := 1000000000 * 65536
/-- Units of device time in one nanosecond. -/
def NS : Nat := 65536
/-- Units of device time in one microsecond. -/
def US : Nat := 1000 * 65536
/-- Units of device time in one millisecond. -/
def MS : Nat := 1000000 * 65536

/-- The 12 bytes of an instant: seconds (6), nanoseconds (4), units of 2⁻¹⁶ ns (2). -/
def timeBytes (t : Time) : List Byte :=
  le 6 (t / SEC) ++ le 4 (t % SEC / NS) ++ le 2 (t % NS)

/-- The 12 bytes of an instant, each field most significant byte first (R292). -/
def timeBytesBe (t : Time) : List Byte :=
  be 6 (t / SEC) ++ be 4 (t % SEC / NS) ++ be 2 (t % NS)

/-- The 10 bytes of an instant without its fraction. -/
def timeBytes10 (t : Time) : List Byte := le 6 (t / SEC) ++ le 4 (t % SEC / NS)

/-- Ten bytes of seconds and nanoseconds read back, with 2 bytes of fraction, least significant byte first. -/
def rdTime (l : List Byte) (off : Nat) : Time :=
  rd l off 6 * SEC + rd l (off + 6) 4 * NS + rd l (off + 10) 2

/-! ### Timers (R18, R897): the number of boundaries still to come before expiry -/

/-- A timer of `n` ticks just started by an event between boundaries: it expires at the n-th boundary after the
first one that follows. -/
def timer (n : Nat) : Option Nat := some (n + 1)

/-- A timer one boundary later. -/
def tickDown : Option Nat → Option Nat
  | none => none
  | some n => some (n - 1)

/-- A running timer has reached its expiry boundary. -/
def expired : Option Nat → Bool
  | some 0 => true
  | _ => false

/-! ### binary32 values (settings and results given in IEEE 754) -/

/-- The value of a finite non-negative binary32 code, as numerator over 2¹⁴⁹. -/
def f32Num (c : Nat) : Nat :=
  let e := c / 2 ^ 23 % 256
  let m := c % 2 ^ 23
  if e = 0 then m else (2 ^ 23 + m) * 2 ^ (e - 1)

/-- The code is a finite non-negative number. -/
def f32Ok (c : Nat) : Bool := c < 2 ^ 31 && c / 2 ^ 23 % 256 ≠ 255

/-- Bits needed to write `n`. -/
def bitLen (n : Nat) : Nat := if n = 0 then 0 else Nat.log2 n + 1

/-- The binary32 code nearest to `p / q` (round to nearest, ties to even), 0 when `q` is 0. -/
def toF32 (p q : Nat) : Nat :=
  if p = 0 ∨ q = 0 then 0
  else
    let n := p * 2 ^ 149 / q          -- value in units of 2⁻¹⁴⁹, rounded down
    let inexact := p * 2 ^ 149 % q ≠ 0
    let k := bitLen n - 24            -- bits to drop for a 24-bit significand
    let m := n / 2 ^ k
    let low := n % 2 ^ k
    let half := 2 ^ k / 2
    let up :=
      if k = 0 then (if 2 * (p * 2 ^ 149 % q) > q then true
                     else if 2 * (p * 2 ^ 149 % q) = q then m % 2 = 1 else false)
      else if low > half then true
      else if low = half then (inexact || m % 2 = 1)
      else false
    let m := if up then m + 1 else m
    if bitLen n < 24 ∧ m < 2 ^ 23 then m
    else if m = 2 ^ 24 then (k + 2) * 2 ^ 23
    else (k + 1) * 2 ^ 23 + (m - 2 ^ 23)

/-! ### Free values (log 12) -/

/-- The next free number, and the state with the count advanced. -/
def drawNat (s : Device) : Nat × Device := (Config.freeNat s.fresh, putFresh (s.fresh + 1) s)

/-- The next free integer, and the state with the count advanced. -/
def drawInt (s : Device) : Int × Device := (Config.freeInt s.fresh, putFresh (s.fresh + 1) s)

/-- `n` free bytes, and the state with the count advanced. -/
def drawBytes (n : Nat) (s : Device) : List Byte × Device :=
  ((List.range n).map (Config.freeByte s.fresh), putFresh (s.fresh + 1) s)

/-! ### Outputs, interrupts and events -/

/-- The state with an output of this step recorded. -/
def emit (o : Output) (s : Device) : Device := putOut (s.out ++ [o]) s

/-- The MSI-X vector of a bit of `IRQ_STATUS` (R829). -/
def irqVector (b : Nat) : Nat := if b = 0 then 0 else if b = 1 then 1 else if b = 5 then 2 else 3

/-- The level of `IRQ_N`: low while an enabled bit is set (R828). -/
def irqLevel (s : Device) : Device :=
  putHost { s.host with irqLow := (s.host.irqStatus &&& s.host.irqEnable) ≠ 0 } s

/-- A word of the MSI-X table: entry `v` holds words 4 v to 4 v + 3, the last its vector control (log 26). -/
def msixWord (s : Device) (i : Nat) : BitVec 32 := Tab.get (fun i => if i % 4 = 3 then 1 else 0) s.host.msixTable i

/-- A vector is masked (R829). -/
def msixMasked (s : Device) (v : Nat) : Bool := (msixWord s (4 * v + 3)).getLsbD 0

/-- Send the MSI-X message of a vector; while the vector is masked it is pending instead (R829). -/
def sendMsix (v : Nat) (s : Device) : Device :=
  if msixMasked s v then putHost { s.host with msixPend := s.host.msixPend ||| (1#32 <<< v) } s
  else emit (.msix v) s

/-- Set bit `b` of `IRQ_STATUS`; an enabled bit that goes from 0 to 1 sends its MSI-X message (R829). -/
def setIrq (b : Nat) (s : Device) : Device :=
  let old := s.host.irqStatus.getLsbD b
  let s := irqLevel (putHost { s.host with irqStatus := s.host.irqStatus ||| (1#32 <<< b) } s)
  if !old && s.host.irqEnable.getLsbD b then sendMsix (irqVector b) s else s

/-- Raise an event at an instant: type, source, severity and payload (R820). The record waits for delivery
(EVENT_DELIVERY). -/
def raiseAt (t : Time) (type source sev : Nat) (payload : List Byte) (s : Device) : Device :=
  let e : EventRec := ⟨type, source, sev, s.stack.stackId, t, fit 12 payload⟩
  putEvq (s.evq ++ [e]) s

/-- Raise an event now. -/
def raise (type source sev : Nat) (payload : List Byte) (s : Device) : Device :=
  raiseAt s.timing.now type source sev payload s

/-- Apply `f` for each element in turn. -/
def each {α : Type} (l : List α) (f : α → Device → Device) (s : Device) : Device :=
  l.foldl (fun s x => f x s) s

/-- `f` when the condition holds. -/
def when (b : Bool) (f : Device → Device) (s : Device) : Device := if b then f s else s

/-- The number of a carrier state, in the order of Table 1-3. -/
def RxState.code : RxState → Nat
  | .off => 0
  | .powerSeen => 1
  | .cdSearch => 2
  | .clockLock => 3
  | .eqConverge => 4
  | .carrierLock => 5
  | .superframeLock => 6
  | .staged => 7
  | .inService => 8

/-! ### Commands that answered PENDING (R41, R896) -/

/-- Record a command that returned `PENDING`. -/
def addPending (op : Nat) (r : Req) (s : Device) : Device :=
  putHost { s.host with pendCmds := s.host.pendCmds ++ [⟨r.mb.val, op, r.seq.toNat⟩] } s

/-- Raise `DEFERRED_DONE` for a held command with extra payload from byte 6 (R41, Table 22-12). A command cancelled
by a MGMT reset has no record any more and raises nothing (R896). -/
def deferredDoneX (op : Nat) (r : Req) (st : Status) (extra : List Byte) (s : Device) : Device :=
  let p : PendRec := ⟨r.mb.val, op, r.seq.toNat⟩
  if p ∈ s.host.pendCmds then
    let s := putHost { s.host with pendCmds := s.host.pendCmds.erase p } s
    raise 0x0001 r.mb.val 0 (le 1 r.mb.val ++ le 1 st.code ++ le 2 op ++ le 2 r.seq.toNat ++ extra) s
  else s

/-- Raise `DEFERRED_DONE` for a held command. -/
def deferredDone (op : Nat) (r : Req) (st : Status) (s : Device) : Device := deferredDoneX op r st [] s

/-- The held command of a `Held` record is done. -/
def heldDone (h : Held) (st : Status) (s : Device) : Device := deferredDone h.op h.req st s

end Sys2Proof.Machine
end

