-- ==== Sys2Proof/Machine/Aes.lean ====
section
/-!
DEFINITION. AES-256 decryption and the unwrap of SP 800-38F algorithm KW, which 09_line_encryption R404 names for the
keys that the host loads. The key-encryption key has 256 bits (22_command_reference Table 22-14).
-/
namespace Sys2Proof.Machine
open Sys2Proof

/-- Multiplication by x in the field of AES. -/
def aesXt (b : Byte) : Byte := if b.getLsbD 7 then (b <<< 1) ^^^ 0x1B#8 else b <<< 1

/-- Product in the field of AES. -/
def aesMul (a b : Byte) : Byte :=
  let go (acc : Byte × Byte) (i : Nat) : Byte × Byte :=
    (if b.getLsbD i then acc.1 ^^^ acc.2 else acc.1, aesXt acc.2)
  ((List.range 8).foldl go (0, a)).1

/-- Inverse in the field of AES, 0 for 0: the 254th power. -/
def aesInv (a : Byte) : Byte :=
  let go (acc : Byte × Byte) (_ : Nat) : Byte × Byte :=
    let q := aesMul acc.2 acc.2
    (aesMul acc.1 q, q)
  ((List.range 7).foldl go (1, a)).1

/-- Rotation of a byte to the left. -/
def aesRot (b : Byte) (n : Nat) : Byte := (b <<< n) ||| (b >>> (8 - n))

/-- The substitution of AES. -/
def aesSub (a : Byte) : Byte :=
  let b := aesInv a
  b ^^^ aesRot b 1 ^^^ aesRot b 2 ^^^ aesRot b 3 ^^^ aesRot b 4 ^^^ 0x63#8

/-- The inverse substitution of AES. -/
def aesInvSub (a : Byte) : Byte := aesInv (aesRot a 1 ^^^ aesRot a 3 ^^^ aesRot a 6 ^^^ 0x05#8)

/-- Exclusive OR of byte lists. -/
def aesXor (a b : List Byte) : List Byte := List.zipWith (fun x y => x ^^^ y) a b

/-- Expansion of a 256-bit key: the words so far, newest first; `n` words are still to come, `i` is the number of the
next and `rc` the round constant. -/
def aesExpand (n i : Nat) (rc : Byte) (ws : List (List Byte)) : List (List Byte) :=
  match n with
  | 0 => ws
  | n + 1 =>
    let prev := ws.headD []
    let back := ws.getD 7 []
    let t :=
      if i % 8 = 0 then
        match (prev.drop 1 ++ prev.take 1).map aesSub with
        | b :: r => (b ^^^ rc) :: r
        | [] => []
      else if i % 8 = 4 then prev.map aesSub
      else prev
    aesExpand n (i + 1) (if i % 8 = 0 then aesXt rc else rc) (aesXor back t :: ws)

/-- The 15 round keys of a key of 32 bytes, round 0 first. -/
def aesRounds (key : List Byte) : List (List Byte) :=
  let ws := (aesExpand 52 8 1 ((List.range 8).map fun i => slice key (4 * i) 4).reverse).reverse
  (List.range 15).map fun r => ((ws.drop (4 * r)).take 4).flatten

/-- Inverse row shift; byte r + 4 c is row r of column c. -/
def aesInvShift (st : List Byte) : List Byte :=
  (List.range 16).map fun i => st.getD ((i % 4) + 4 * ((i / 4 + 4 - i % 4) % 4)) 0

/-- Inverse column mix. -/
def aesInvMix (st : List Byte) : List Byte :=
  (List.range 16).map fun i =>
    let c := i / 4 * 4
    let g (k : Nat) : Byte := st.getD (c + (i + k) % 4) 0
    aesMul (g 0) 14 ^^^ aesMul (g 1) 11 ^^^ aesMul (g 2) 13 ^^^ aesMul (g 3) 9

/-- Decryption of one block of 16 bytes. -/
def aesDecrypt (rks : List (List Byte)) (blk : List Byte) : List Byte :=
  let st := aesXor blk (rks.getD 14 [])
  let go (st : List Byte) (r : Nat) : List Byte :=
    let st := aesXor ((aesInvShift st).map aesInvSub) (rks.getD (14 - r - 1) [])
    if r = 13 then st else aesInvMix st
  (List.range 14).foldl go st

/-- Unwrap of 40 bytes under a key-encryption key (SP 800-38F KW): the 32 key bytes, none when the integrity check
fails. -/
def kwUnwrap (kek wrapped : List Byte) : Option (List Byte) :=
  let rks := aesRounds kek
  let rs := (List.range 4).map fun i => slice wrapped (8 + 8 * i) 8
  let go (acc : List Byte × List (List Byte)) (n : Nat) : List Byte × List (List Byte) :=
    let t := 24 - n
    let i := (t - 1) % 4
    let a := aesXor acc.1 (be 8 t)
    let b := aesDecrypt rks (a ++ acc.2.getD i [])
    (b.take 8, acc.2.set i (b.drop 8))
  let out := (List.range 24).foldl go (wrapped.take 8, rs)
  if out.1 = List.replicate 8 0xA6 then some out.2.flatten else none

end Sys2Proof.Machine
end

