-- ==== Sys2Proof/Machine/Operands.lean ====
section
/-!
DEFINITION. Every operand form: the parameter layout of each mailbox command (Table 22-5 and the tables it names),
the settings those layouts hold (R13, R45 to R49), their limits, defaults and values in force, and the byte a
layout leaves reserved (R11).
-/
namespace Sys2Proof.Machine
open Sys2Proof

/-- What a row of a layout is (R13, R844, R845). -/
inductive RowKind where
  /-- a selector or plain parameter, checked against its range -/
  | par
  /-- an Accord-fixed setting -/
  | acc
  /-- a run-time setting -/
  | rt
  /-- read-back only (R845) -/
  | rbo
  /-- bulk bytes, not checked -/
  | bulk
  deriving DecidableEq, Repr

/-- Boundaries at which a run-time setting takes force (R33); `now` also stands for a use that reads the last
accepted value at the boundary its rule names. -/
inductive When where
  | now | tick | slow | block | frame | epoch | superframe | exchange | start | search | lock | proposal
  deriving DecidableEq, Repr

/-- The code of a boundary in the state. -/
def When.code : When → Nat
  | .now => 0
  | .tick => 1
  | .slow => 2
  | .block => 3
  | .frame => 5
  | .epoch => 6
  | .superframe => 7
  | .exchange => 8
  | .start => 9
  | .search => 10
  | .lock => 11
  | .proposal => 12

/-- One field of a request layout. -/
structure Row where
  off : Nat
  size : Nat
  kind : RowKind := .par
  signed : Bool := false
  lo : Int := 0
  hi : Int := 0
  reset : Int := 0
  /-- boundary at which a new value takes force -/
  bnd : When := .now
  /-- bits of the field that are defined; the rest are reserved -/
  mask : Nat := 0xFFFFFFFFFFFFFFFF
  deriving DecidableEq, Repr

/-- A plain parameter with a range. -/
def par (off size : Nat) (lo hi : Int) : Row := { off, size, lo, hi }
/-- A plain bitmap parameter: bits outside `mask` are reserved. -/
def parM (off size mask : Nat) : Row := { off, size, hi := mask, mask }
/-- A run-time setting. -/
def rt (off size : Nat) (lo hi reset : Int) (bnd : When := .now) : Row :=
  { off, size, kind := .rt, lo, hi, reset, bnd }
/-- A signed run-time setting. -/
def rtI (off size : Nat) (lo hi reset : Int) (bnd : When := .now) : Row :=
  { off, size, kind := .rt, signed := true, lo, hi, reset, bnd }
/-- A run-time bitmap: bits outside `mask` are reserved. -/
def rtM (off size mask : Nat) (reset : Int) (bnd : When := .now) : Row :=
  { off, size, kind := .rt, hi := mask, reset, bnd, mask }
/-- An Accord-fixed setting. -/
def acc (off size : Nat) : Row := { off, size, kind := .acc }
/-- A read-back-only field. -/
def rbo (off size : Nat) : Row := { off, size, kind := .rbo }
/-- Bytes that carry data. -/
def bulk (off size : Nat) : Row := { off, size, kind := .bulk }

/-- A notch entry of TX_CONFIG (Table 4-5) at an offset. -/
def notchRows (o : Nat) : List Row :=
  [rtI o 2 (-13600) 13600 0 .block, rt (o + 2) 2 2 80 2 .block, rt (o + 4) 1 0 40 0 .block,
   rt (o + 5) 1 0 1 0 .block]

/-- The layout of a command's request parameters (Table 22-5, column Layout). Bytes of no row are reserved. -/
def layout (op : Nat) : List Row :=
  match op with
  -- DEVICE
  | 0x0001 => [par 0 1 0 63, rt 1 1 0 2 0, rt 2 1 0 1 0, rt 3 1 4 255 255, rt 4 4 64 65536 64,
      rt 8 8 0 0xFFFFFFFFFFFFF000 0, rtM 16 4 0x3FFFF 0, rt 20 1 0 3 0, rt 22 2 0 1000 0]
  | 0x0002 => [par 0 1 0 5, par 1 1 0x5A 0x5A, bulk 4 48]
  -- ACCORD
  | 0x0101 => [par 0 1 0 2, bulk 4 4, par 8 4 336 0x4000000, bulk 12 2, bulk 16 8, bulk 24 8, bulk 48 4032]
  | 0x0102 => [par 0 1 0 15]
  | 0x0103 => [par 0 1 0 15, bulk 4 4]
  | 0x0104 => [par 0 1 0 15]
  | 0x0105 => [par 0 1 0 1, parM 1 1 1, bulk 4 4]
  | 0x0107 => [par 0 1 0 15]
  | 0x0108 => [par 0 1 0 63]
  | 0x0109 => [bulk 0 2, bulk 2 2]
  | 0x010A => [bulk 0 1]
  | 0x010B => [par 0 1 0 95, par 1 1 0 1, bulk 4 4, par 8 2 1 4032]
  -- CARRIER
  | 0x0220 => [rt 0 2 1 100 10 .start, rt 2 1 0 50 2 .start, acc 3 1, acc 4 1, rtI 8 2 (-1024) 1023 0 .block,
      rtI 10 2 (-1024) 1023 0 .block, rtI 12 2 (-1024) 1023 0 .block, rtI 14 1 (-128) 127 0 .block,
      rtI 15 1 (-128) 127 0 .block, rtI 16 1 (-128) 127 0 .block, rtI 17 1 (-128) 127 0 .block] ++
      notchRows 20 ++ notchRows 28 ++ notchRows 36 ++ notchRows 44
  | 0x0221 => [rt 0 1 0 1 0]
  | 0x0223 => par 0 1 0 3 :: (List.range 64).map fun k => rtI (4 + 2 * k) 2 (-8192) 8191 0 .block
  | 0x0230 => [rtM 0 1 3 3 .tick, acc 1 1, acc 2 1, acc 3 1, rtI 4 4 (-400000) 400000 0 .search, rt 8 4 0 50000 0 .search,
      rtM 12 4 0x83838383 0x03020100 .block, rtI 16 2 (-1024) 1023 0 .block, rtI 18 2 (-1024) 1023 0 .block,
      rtI 20 2 (-1024) 1023 0 .block, rt 22 1 4 15 4 .tick, rt 23 1 8 64 8 .block, rt 24 2 10 10000 100 .tick,
      rt 26 1 0 1 0 .lock, rt 27 1 16 255 64 .proposal, rt 28 2 1 3600 30]
  | 0x0231 => [rt 0 1 0 1 0]
  | 0x0234 => [par 0 1 0 1]
  | 0x0235 => [par 0 1 2 2]
  | 0x0240 => [par 0 1 0 1, par 1 1 0 3]
  | 0x0241 => [rt 0 1 0 1 1 .tick, rtM 1 1 0xFF 0 .tick, rt 2 1 0 8 2 .tick, rt 4 2 1 3600 60 .tick,
      rtM 8 4 0x83838383 0x03020100 .block, acc 12 2]
  | 0x0242 => [par 0 1 0 1, par 1 1 0 3, par 2 1 0 3, par 4 2 0 255, par 6 2 0 239]
  | 0x0250 => [rt 0 1 0 2 0 .tick]
  -- FEC
  | 0x0300 => [acc 0 1, rt 1 1 0 1 1 .tick, rt 2 1 1 60 10 .epoch, rt 4 4 0x33D6BF95 0x3D4CCCCD 0x33D6BF95 .epoch,
      rt 8 4 0x33D6BF95 0x3D4CCCCD 0x33D6BF95 .epoch]
  | 0x0302 => [par 0 1 0 1]
  | 0x0305 => [par 0 1 0 1, par 1 1 0 1, bulk 4 4, bulk 8 4]
  -- LINE
  | 0x0400 => [rt 0 1 0 3 0 .frame, rt 1 1 0 3 0 .frame, rtM 2 2 0x7F 0 .tick, rt 4 1 1 100 15 .epoch,
      rt 5 1 2 10 7 .epoch, rt 6 2 1 1000 10 .slow, rt 8 2 1 65535 1 .slow,
      rt 12 4 0x33D6BF95 0x3D4CCCCD 0x33D6BF95 .slow]
  | 0x0401 => [par 0 1 0 1]
  | 0x0402 => [par 0 1 0 1, par 1 1 0 1, bulk 4 64]
  | 0x0404 => [rtM 0 1 3 0, rt 4 8 0 0xFFFFFFFFFFFFFFFF 0]
  -- TRIB/GROUP/PROT
  | 0x0500 => [par 0 1 0 127, rt 1 1 0 1 1, rt 2 1 0 1 0, rt 3 1 0 3 0 .frame, rtM 4 1 7 0 .tick, acc 8 1, acc 9 1,
      acc 10 2, acc 12 1]
  | 0x0501 => [par 0 1 0 127]
  | 0x0502 => [par 0 1 0 127, par 1 1 0 1, bulk 4 64]
  | 0x0503 => [rt 0 2 4 1000 10 .superframe]
  | 0x0505 => [par 0 1 0 32, acc 1 1, rt 2 1 0 1 1 .slow, rt 3 1 0 1 1 .slow, rt 4 2 0 100 0 .slow,
      rt 6 2 10 720 300 .slow, rt 8 1 0 1 0 .slow, rt 10 2 4 1000 20 .slow, acc 12 2, acc 14 2]
  | 0x0506 => [par 0 1 0 32, par 1 1 0 5]
  | 0x0507 => [par 0 1 0 32]
  -- CRYPTO
  | 0x0600 => [rt 0 1 0 1 0, rt 1 1 1 255 8, rt 2 2 0 65535 0]
  | 0x0601 => [par 0 1 0 1, bulk 1 1, bulk 2 1, bulk 4 4, bulk 8 40]
  -- OSTC
  | 0x0700 => [rt 0 1 0 1 0, rt 1 1 0 1 0 .tick, rt 2 1 5 40 10, rt 3 1 6 20 9 .tick, rt 4 2 32 256 64,
      rt 6 2 32 256 64, rt 8 1 0 1 1]
  | 0x0701 => [par 0 1 0 1, bulk 1 1, par 2 2 0 512, bulk 4 512]
  -- TIMING
  | 0x0800 => [par 0 1 0 12, rt 1 1 0 15 0 .slow, rt 2 1 0 255 14 .slow, rt 3 1 0 1 0 .slow,
      rt 4 4 1000 1000000000 10000000 .slow, rt 8 1 0 31 0 .slow, rt 10 2 1 1000 120 .slow,
      rt 12 4 1 1000000 1000 .slow, rtI 16 4 (-1000000000) 1000000000 0 .slow]
  | 0x0801 => [rt 0 1 0 1 0 .slow, rt 1 1 0 1 1 .slow, rt 2 2 1 600 10 .slow, rt 4 2 0 3600 300 .slow,
      rt 6 1 0 15 7 .slow, rt 8 4 1 1000000 100 .slow, rt 12 2 1 10000 50 .slow]
  | 0x0802 => [rt 0 1 0 13 6 .slow, rt 1 1 0 1 1 .slow, rt 2 1 0 13 8 .slow, rt 3 1 0 1 0 .slow,
      rt 4 4 1 1000000 100 .slow, rt 8 2 1 600 10 .slow, rt 10 2 10 3600 60 .slow, rt 12 4 0 1000000000 0 .slow,
      rt 16 4 0 100000 5000 .slow, rt 20 1 1 24 24 .slow]
  | 0x0803 => [par 0 1 0 6, bulk 1 1, bulk 4 4]
  | 0x0806 => [par 0 1 0 9, rt 1 1 0 1 0, rt 2 1 0 2 0, rtM 3 1 0xF 9, rt 4 8 1000000000 1500000000000000 10000000000000,
      rt 12 1 0 1 1, rtI 16 8 (-500000000000) 499999999999 0, rt 24 4 10 500000000 100000]
  | 0x0807 => [bulk 0 4, bulk 4 2]
  -- TTX
  | 0x0900 => [rt 0 1 0 1 0 .exchange, rt 1 1 0 2 0 .exchange, rt 2 2 1 1000 10 .epoch, rt 4 1 0 1 1 .exchange,
      rt 5 1 1 255 100 .exchange, rt 8 4 1 1000000 1000 .exchange]
  | 0x0901 => [rt 0 4 0 4000000000 0 .exchange, rt 4 4 0 4000000000 0 .exchange,
      rtI 8 4 (-2000000000) 2000000000 0 .exchange, rtI 12 4 (-2000000000) 2000000000 0 .exchange,
      rt 16 4 0 1675000 0 .exchange, rt 20 4 0 1675000 0 .exchange, rt 24 1 0 1 1 .exchange, par 25 1 0 1]
  | 0x0904 => [bulk 0 6]
  | 0x0905 => [par 0 1 0 31, rt 1 1 0 2 0, rt 2 1 0 3 0, rtM 3 1 7 7, rtI 4 4 (-10000) 10000 0]
  -- SENSE
  | 0x0A00 => [par 0 1 0 63, rt 1 1 0 1 0, rt 2 1 0 255 255 .tick, rt 4 1 0 31 0 .tick, rt 5 1 0 31 0 .tick,
      rt 6 1 0 31 0 .tick, rt 7 1 0 31 0 .tick, rt 8 1 0 31 0 .tick, rt 9 1 0 31 0 .tick, rt 10 2 1 1000 100,
      rt 12 2 1 50000 1 .epoch, rt 14 1 1 10 1 .epoch, rtM 15 1 0x3F 0, rt 16 1 0 15 10, rt 17 1 0 15 2, rt 18 1 0 15 8,
      rt 20 2 0 8192 8192, rt 22 2 0 8192 8192, rt 24 2 0 8192 8192, rt 26 2 0 8192 8192, rt 28 2 0 8192 8192,
      rt 30 2 0 8192 8192]
  | 0x0A01 => [par 0 1 0 63]
  | 0x0A02 => [par 0 1 0 63]
  | 0x0A03 => [par 0 1 0 63]
  | 0x0A04 => [bulk 0 1]
  -- MEM/LEQ/BLOTTER
  | 0x0B00 => [rt 0 4 0 0xFFFFFFFF 0, rt 4 4 0 0xFFFFFFFF 0, rt 8 4 0 0xFFFFFFFF 0, rt 12 4 0 0xFFFFFFFF 0]
  | 0x0B02 => [rt 0 1 0 1 1, rt 1 1 1 72 24]
  | 0x0B05 => [par 0 1 0 31, rt 1 1 0 7 0, rt 2 2 0 32767 0, rt 4 2 1 32768 32768, acc 6 2, rbo 8 4, rbo 12 4]
  | 0x0B06 => [par 0 1 0 7, rt 2 1 0 4 1, rt 3 1 0 255 0, rt 4 1 0 7 0, rt 5 1 1 15 12, rt 6 1 0 4 1, rt 7 1 0 255 0,
      rt 8 1 0 7 5, rt 9 1 0 15 3, rt 10 2 0 32767 0]
  | 0x0B07 => [par 0 1 0 15, rt 1 1 0 4 0, rt 2 1 0 4 0, rt 3 1 0 255 0, rtI 4 4 (-1000000000) 1000000000 0,
      rt 8 4 0 16777216 0, rt 12 1 0 255 0, rt 13 1 0 16 0]
  | 0x0B08 => [par 0 2 0 32767, rt 2 1 0 1 0, rt 3 1 0 15 0, rt 4 4 0 250000000 1000000, rt 8 4 5 0xFFFFFFFF 5,
      rt 12 1 0 1 0, rt 16 4 0 10000000 1000]
  | 0x0B09 => [par 0 2 0 32767]
  | 0x0B0A => [par 0 1 0 3, par 1 1 0 8, par 2 1 0 7, parM 3 1 0x3F, par 4 4 1 65536, bulk 8 8, bulk 16 8, bulk 24 2,
      par 26 1 0 63, par 27 1 0 1, bulk 28 8]
  | 0x0B0B => [bulk 0 1]
  | 0x0B0D => [par 0 1 0 3, par 1 1 0 1, bulk 2 1, bulk 8 8, bulk 16 4]
  | 0x0B0E => [par 0 1 0 3]
  | 0x0B0F => [par 0 1 0 3]
  -- HOSTLANE
  | 0x0C00 => [par 0 1 0 31, rt 1 1 0 1 1 .tick, acc 2 1, rt 3 1 0 3 0 .tick, rt 4 1 0 255 255 .tick, rt 5 1 0 2 0 .tick,
      rtI 6 1 (-16) 16 0 .tick, rtI 7 1 (-16) 16 (-4) .tick, rtI 8 1 (-16) 16 0 .tick, rt 9 1 8 24 16 .tick,
      rtM 10 1 7 4 .tick, rt 11 1 0 3 0 .tick]
  | 0x0C01 => [par 0 1 0 31]
  | 0x0C02 => [par 0 1 0 31, parM 1 1 7, par 2 1 16 40, bulk 4 4]
  | 0x0C03 => [par 0 1 0 31]
  | 0x0C04 => [par 0 1 0 7]
  | 0x0C05 => [bulk 0 1]
  -- STACK
  | 0x0D00 => [rtM 0 1 0xF 0xF .tick, rt 1 1 0 1 1 .tick, rt 2 1 0 1 0 .tick, rt 4 2 10 1000 100 .tick]
  | 0x0D02 => [par 0 1 0 3]
  -- CLOCK/POWER
  | 0x0E00 => [rt 0 3 0 0xFFFFFF 0xFF0100 .slow, rt 3 1 0 255 0 .slow,
      rt 4 1 0 3 0 .slow, rtM 5 1 3 3 .tick]
  | 0x0E02 => [par 0 1 1 8, par 1 1 0 7]
  -- FAULT
  | 0x0F00 => [bulk 0 2]
  | 0x0F01 => [bulk 0 2, bulk 2 1, rtM 4 2 0x3FF 0, rt 6 1 1 255 4 .tick, rt 8 2 1 65535 10000 .tick,
      rt 10 2 1 60000 1000 .tick]
  | 0x0F02 => [bulk 0 2, bulk 2 1]
  | 0x0F03 => [bulk 0 2, par 2 2 1 126]
  | 0x0F04 => [bulk 0 2, bulk 2 1, par 3 1 0 3]
  | 0x0F05 => [bulk 0 2, bulk 2 1, bulk 3 1, bulk 4 4, bulk 8 1, bulk 9 1]
  | 0x0F06 => [par 0 1 0 1, par 2 2 1 600]
  | 0x0F07 => [bulk 0 2, par 2 2 1 126]
  -- NVSTORE
  | 0x1002 => [par 0 4 0x44484254 0x44484254, par 4 2 1 1, bulk 6 2, bulk 8 2, bulk 10 2, par 12 1 0 8, bulk 13 1,
      par 14 1 0 1, parM 15 1 0xF1, bulk 16 4, bulk 20 4, par 24 4 0 0xC00000, par 28 1 0 2, bulk 32 8, bulk 40 4,
      bulk 44 4, par 48 4 0 65536, bulk 252 4]
  | 0x1003 => [bulk 0 4, par 4 2 0 4032, bulk 8 4032]
  | 0x1006 => [par 0 1 0 63]
  | 0x1007 => [bulk 0 4, par 4 2 0 4032, bulk 8 4032]
  | 0x1009 => [par 0 1 0 3, bulk 4 4]
  | 0x100A => [par 0 1 0 3, par 2 2 0 4032, bulk 4 4, bulk 8 8]
  | 0x100B => [par 0 1 0 0, parM 1 1 1, par 2 2 0 4032, bulk 4 4, bulk 8 8, bulk 16 4, bulk 24 4032]
  | 0x100C => [par 0 1 0 3, bulk 4 8]
  | 0x100D => [par 0 1 0xA5 0xA5]
  -- DIAG: R11 does not apply to DIAG_ECHO (R856)
  | 0x1100 => [bulk 0 4080]
  | _ => []

/-- Smallest and largest request parameter sizes (Table 22-5, column Req); none for an opcode the device does not
serve (R847). -/
def reqSize (op : Nat) : Option (Nat × Nat) :=
  match op with
  | 0x0001 => some (24, 24)
  | 0x0002 => some (52, 52)
  | 0x0101 => some (48, 4080)
  | 0x0103 => some (8, 8)
  | 0x0105 => some (8, 8)
  | 0x010B => some (12, 12)
  | 0x0220 => some (52, 52)
  | 0x0223 => some (132, 132)
  | 0x0230 => some (32, 32)
  | 0x0241 => some (14, 14)
  | 0x0242 => some (8, 8)
  | 0x0300 => some (12, 12)
  | 0x0305 => some (12, 12)
  | 0x0400 => some (16, 16)
  | 0x0402 => some (68, 68)
  | 0x0404 => some (12, 12)
  | 0x0500 => some (16, 16)
  | 0x0502 => some (68, 68)
  | 0x0505 => some (16, 16)
  | 0x0601 => some (48, 48)
  | 0x0700 => some (12, 12)
  | 0x0701 => some (4, 516)
  | 0x0800 => some (20, 20)
  | 0x0801 => some (16, 16)
  | 0x0802 => some (24, 24)
  | 0x0803 => some (8, 8)
  | 0x0806 => some (32, 32)
  | 0x0807 => some (8, 8)
  | 0x0900 => some (12, 12)
  | 0x0901 => some (28, 28)
  | 0x0904 => some (8, 8)
  | 0x0905 => some (8, 8)
  | 0x0A00 => some (32, 32)
  | 0x0B00 => some (16, 16)
  | 0x0B05 => some (16, 16)
  | 0x0B06 => some (12, 12)
  | 0x0B07 => some (16, 16)
  | 0x0B08 => some (20, 20)
  | 0x0B0A => some (36, 36)
  | 0x0B0D => some (24, 24)
  | 0x0C00 => some (12, 12)
  | 0x0C02 => some (8, 8)
  | 0x0D00 => some (8, 8)
  | 0x0E00 => some (8, 8)
  | 0x0F01 => some (12, 12)
  | 0x0F05 => some (12, 12)
  | 0x1002 => some (256, 256)
  | 0x1003 => some (8, 4040)
  | 0x1007 => some (8, 4040)
  | 0x1009 => some (8, 8)
  | 0x100A => some (20, 20)
  | 0x100B => some (24, 4056)
  | 0x100C => some (12, 12)
  | 0x1100 => some (0, 4080)
  | _ =>
    if op ∈ [0x0102, 0x0104, 0x0107, 0x0108, 0x0109, 0x010A, 0x0221, 0x0231, 0x0234, 0x0235, 0x0240, 0x0250, 0x0302,
        0x0401, 0x0501, 0x0503, 0x0506, 0x0507, 0x0600, 0x0A01, 0x0A02, 0x0A03, 0x0A04, 0x0B02, 0x0B09, 0x0B0B,
        0x0B0E, 0x0B0F, 0x0C01, 0x0C03, 0x0C04, 0x0C05, 0x0D02, 0x0D03, 0x0E02, 0x0F00, 0x0F02, 0x0F03, 0x0F04,
        0x0F06, 0x0F07, 0x1006, 0x100D] then some (4, 4)
    else if op ∈ [0x0000, 0x0100, 0x0106, 0x0222, 0x0232, 0x0233, 0x0243, 0x0244, 0x0301, 0x0303, 0x0304, 0x0403,
        0x0405, 0x0406, 0x0504, 0x0602, 0x0603, 0x0604, 0x0605, 0x0702, 0x0703, 0x0704, 0x0804, 0x0805, 0x0902,
        0x0903, 0x0B01, 0x0B03, 0x0B04, 0x0B0C, 0x0D01, 0x0D04, 0x0E01, 0x0E03, 0x1000, 0x1001, 0x1004, 0x1005,
        0x1008, 0x1101] then some (0, 0)
    else none

/-- A command whose A/RT entry in Table 22-5 is RT or A+RT: it accepts READBACK (R844). -/
def hasSettings (op : Nat) : Bool :=
  op ∈ [0x0001, 0x0220, 0x0221, 0x0223, 0x0230, 0x0231, 0x0241, 0x0250, 0x0300, 0x0400, 0x0402, 0x0404, 0x0500,
    0x0502, 0x0503, 0x0505, 0x0600, 0x0700, 0x0800, 0x0801, 0x0802, 0x0806, 0x0900, 0x0901, 0x0905, 0x0A00, 0x0B00,
    0x0B02, 0x0B05, 0x0B06, 0x0B07, 0x0B08, 0x0C00, 0x0D00, 0x0E00, 0x0F01]

/-- Target kinds a command takes, as its owning rule gives them: 0 device, 1 carrier, 2 line group (log 13). -/
def targetKinds (op : Nat) : List Nat :=
  if op ∈ [0x0500, 0x0501, 0x0502] then [1, 2]
  else if op ∈ [0x0503, 0x0504] then [2]
  else if op = 0x0601 then [0, 1]
  -- ACCORD_LIMITS names the object whose settings it lists
  else if op = 0x0109 then [0, 1, 2]
  else if op = 0x0304 then [0]
  else if op / 256 ∈ [2, 3, 4, 7] then [1]
  else if op ∈ [0x0600, 0x0602, 0x0603, 0x0900, 0x0901, 0x0902, 0x0903] then [1]
  else [0]

/-- The selector fields of a layout as one number: the low bytes named "—" that choose the object (R844). -/
def selector (op : Nat) (p : List Byte) : Nat :=
  match op with
  | 0x0B08 => rd p 0 2
  | 0x0402 => rd p 0 2
  | 0x0502 => rd p 0 2
  | 0x0F01 => rd p 0 3
  | 0x0001 => rd p 0 1
  | 0x0223 => rd p 0 1
  | 0x0500 => rd p 0 1
  | 0x0505 => rd p 0 1
  | 0x0800 => rd p 0 1
  | 0x0806 => rd p 0 1
  | 0x0905 => rd p 0 1
  | 0x0A00 => rd p 0 1
  | 0x0B05 => rd p 0 1
  | 0x0B06 => rd p 0 1
  | 0x0B07 => rd p 0 1
  | 0x0C00 => rd p 0 1
  | _ => 0

/-- The code of a target: 0 device, 1 and 2 carriers, 16 + g groups. -/
def targetCode (kind index : Nat) : Nat :=
  if kind = 0 then 0 else if kind = 1 then 1 + index else 16 + index

/-- The target code of a carrier. -/
def carCode (c : Carrier) : Nat := 1 + c.num

/-- The key of a setting. -/
def skey (op tgt sel off : Nat) : Nat := ((op * 65536 + tgt) * 4294967296 + sel) * 4096 + off
/-- The opcode of a key. -/
def keyOp (k : Nat) : Nat := k / 4096 / 4294967296 / 65536
/-- The target code of a key. -/
def keyTgt (k : Nat) : Nat := k / 4096 / 4294967296 % 65536
/-- The selector of a key. -/
def keySel (k : Nat) : Nat := k / 4096 % 4294967296
/-- The offset of a key. -/
def keyOff (k : Nat) : Nat := k % 4096

/-- The row of a layout at an offset. -/
def rowAt (op off : Nat) : Option Row := (layout op).find? fun r => r.off = off && r.kind ≠ .par && r.kind ≠ .bulk

/-- The value of a row in request parameters. -/
def Row.read (r : Row) (p : List Byte) : Int :=
  if r.signed then rdInt p r.off r.size else rd p r.off r.size

/-- The active plan. -/
def plan (s : Device) : Plan := s.accord.active.plan

/-- The limits an Accord gives a setting. -/
def planLimit (pl : Plan) (key : Nat) : Option Limit := pl.limits.find? fun l => l.key = key

/-- The Accord-fixed value of a setting, 0 when the Accord gives none (R45). -/
def planFixed (pl : Plan) (key : Nat) : Int := Tab.get (fun _ => 0) pl.fixed key

/-- The mode the active Accord gives a carrier. -/
def modeOf (s : Device) (c : Carrier) : Option ModePlan := (plan s).modes.get c

/-- The carrier runs a native mode. -/
def native (s : Device) (c : Carrier) : Bool := match modeOf s c with | some m => m.native | none => false

/-- The carrier runs a ZR mode. -/
def zr (s : Device) (c : Carrier) : Bool := match modeOf s c with | some m => !m.native | none => false

/-- Pre-FEC BER threshold of Table 6-2, × 10⁻⁴ (F14 at 8 iterations: 98). -/
def berThreshold (fec iters : Nat) : Nat :=
  match fec, iters with
  | 0, 12 => 260 | 0, 11 => 250 | 0, 10 => 240 | 0, 9 => 230 | 0, 8 => 210
  | 1, 12 => 200 | 1, 11 => 193 | 1, 10 => 185 | 1, 9 => 176 | 1, 8 => 164
  | 2, 12 => 120 | 2, 11 => 116 | 2, 10 => 111 | 2, 9 => 105 | 2, 8 => 98
  | 3, _ => 122
  | 4, _ => 200
  | _, _ => 0

/-- `k`/10 of the threshold of a carrier's mode as binary32, or the least value where the Accord gives the carrier no
mode (log 14). -/
def thresholdF32 (pl : Plan) (tgt k : Nat) : Int :=
  match pl.modes.get (Carrier.ofNum (tgt - 1)) with
  | some m =>
    if berThreshold m.fec m.iters = 0 then (0x33D6BF95 : Nat) else toF32 (k * berThreshold m.fec m.iters) 100000
  | none => (0x33D6BF95 : Nat)

/-- A candidate that can take its quality level from the far end or the stack master: `LINE_A`, `LINE_B`, `STACK`,
`TTX_A`, `TTX_B` (Table 11-1, R472). -/
def qlReceived (cand : Nat) : Bool := cand = 4 || cand = 5 || 10 ≤ cand

/-- A field of TIMING_REF_CONFIG applies to a candidate of a kind (R504). -/
def refApplies (i kind off : Nat) : Bool :=
  if off = 1 ∨ off = 2 then true
  else if off = 3 then i < 4
  else if off = 4 then i < 4 && kind = 0
  else if off = 8 then 6 ≤ i && i ≤ 9
  else if off = 10 then (i < 4 && kind = 0) || (4 ≤ i && i ≤ 9)
  else if off = 12 then (i < 4 && kind = 1) || 10 ≤ i
  else i < 4 && kind = 1

/-- The reset value of a run-time setting (R15), where the layout's own number does not hold. Values "reset from
Accord" are the Accord's default. -/
def resetVal (pl : Plan) (flexo : Nat → Bool) (key : Nat) : Int :=
  let op := keyOp key
  let off := keyOff key
  let sel := keySel key
  let tgt := keyTgt key
  let row := (rowAt op off).map (·.reset) |>.getD 0
  let fromAccord := (planLimit pl key).map (·.dflt) |>.getD row
  match op, off with
  | 0x0230, 22 => fromAccord
  | 0x0230, 23 => fromAccord
  | 0x0300, 4 => thresholdF32 pl tgt 8
  | 0x0300, 8 => thresholdF32 pl tgt 7
  | 0x0400, 12 => thresholdF32 pl tgt 9
  | 0x0800, 2 => if qlReceived sel then 255 else 14
  | 0x0800, 8 => if 6 ≤ sel ∧ sel ≤ 9 then 8 * (sel - 6 : Nat) else 0
  | 0x0A00, 4 => fromAccord
  | 0x0A00, 5 => fromAccord
  | 0x0A00, 6 => fromAccord
  | 0x0A00, 7 => fromAccord
  | 0x0A00, 8 => fromAccord
  | 0x0A00, 9 => fromAccord
  | 0x0A00, 12 => fromAccord
  | 0x0A00, 14 => fromAccord
  | 0x0B07, 1 => if sel = 0 then 4 else 0
  | 0x0B07, 2 => if sel = 0 then 0 else 4
  | 0x0C00, 5 => if flexo sel then 2 else 0
  | 0x0223, _ =>
    match pl.modes.get (Carrier.ofNum (tgt - 1)) with
    | some m => if off = 4 + 2 * m.mainTap then 8191 else 0
    | none => if off = 4 then 8191 else 0
  | _, _ => row

/-- A lane carries FlexO: it is listed as rate 5 by the Accord (Table 16-1). -/
def flexoLane (pl : Plan) (lane : Nat) : Bool := planFixed pl (skey 0x0C00 0 lane 2) = 5

/-- The value last accepted for a run-time setting, else its reset value. -/
def accepted (s : Device) (key : Nat) : Int :=
  match Tab.get (fun _ => none) s.settings key with
  | some v => v
  | none => resetVal (plan s) (flexoLane (plan s)) key

/-- The value of a setting now in force: a change not yet in force leaves the old value (R33). -/
def inForce (s : Device) (key : Nat) : Int :=
  match s.pendSet.find? fun q => q.key = key with
  | some q => q.old
  | none =>
    match rowAt (keyOp key) (keyOff key) with
    | some r => if r.kind = .acc then planFixed (plan s) key else accepted s key
    | none => accepted s key

/-- A carrier's setting in force. -/
def cset (s : Device) (c : Carrier) (op off : Nat) : Int := inForce s (skey op (carCode c) 0 off)
/-- A carrier's setting in force, as a natural number. -/
def csetN (s : Device) (c : Carrier) (op off : Nat) : Nat := (cset s c op off).toNat
/-- A device setting in force. -/
def dset (s : Device) (op sel off : Nat) : Int := inForce s (skey op 0 sel off)
/-- A device setting in force, as a natural number. -/
def dsetN (s : Device) (op sel off : Nat) : Nat := (dset s op sel off).toNat

/-- Accept a new value of a setting; it takes force at its row's boundary (R33, R34). -/
def putSetting (key : Nat) (v : Int) (bnd : When) (s : Device) : Device :=
  let old := inForce s key
  let rest := s.pendSet.filter fun q => q.key ≠ key
  let s' := putPendSet rest (putSettings (Tab.set (fun _ => none) s.settings key (some v)) s)
  if bnd = .now || v = old then s' else putPendSet (rest ++ [⟨key, old, bnd.code⟩]) s'

/-- The changes that wait for a boundary take force; `f` says which keys the boundary is for. -/
def settle (bnd : When) (f : Nat → Bool) (s : Device) : Device :=
  putPendSet (s.pendSet.filter fun q => !(q.when = bnd.code && f q.key)) s

/-- Accept every run-time field of a request. -/
def acceptFields (op tgt : Nat) (p : List Byte) (s : Device) : Device :=
  each ((layout op).filter fun r => r.kind = .rt)
    (fun r s => putSetting (skey op tgt (selector op p) r.off) (r.read p) r.bnd s) s

/-- Offset of the first nonzero reserved byte of parameters of the right size (R11, R843). A read-back ignores the fields
other than selectors, reserved bits within them included, and checks the reserved bytes (R844, log 34). -/
def reservedByte (op : Nat) (rb : Bool) (p : List Byte) : Option Nat :=
  let rows := layout op
  (List.range p.length).find? fun i =>
    let b := rd p i 1
    match rows.find? fun r => r.off ≤ i && i < r.off + r.size with
    | none => b ≠ 0
    | some r => r.kind ≠ .bulk && !(rb && r.kind ≠ .par) && (b &&& (255 - r.mask / 256 ^ (i - r.off) % 256)) ≠ 0

/-- The limits in force for a run-time setting under a plan: those of the plan where it lists them. -/
def limitsOf (pl : Plan) (key : Nat) (r : Row) : Int × Int :=
  match planLimit pl key with
  | some l => (l.lo, l.hi)
  | none => (r.lo, r.hi)

/-- A value lies within the layout's range and an Accord's limits. -/
def within (pl : Plan) (key : Nat) (r : Row) (v : Int) : Bool :=
  r.lo ≤ v && v ≤ r.hi && (limitsOf pl key r).1 ≤ v && v ≤ (limitsOf pl key r).2

/-- The partition of a key: 0 device, 1 carrier A, 2 carrier B; groups belong to the device. -/
def keyPart (key : Nat) : Nat := if keyTgt key = 1 then 1 else if keyTgt key = 2 then 2 else 0

/-- A setting of a partition changed by the scheduled switch must lie within both Accords' limits (R81). -/
def bothLimits (s : Device) (key : Nat) (r : Row) (v : Int) : Bool :=
  if (s.accord.standby = .scheduled || s.accord.standby = .switching) && s.accord.changed.getLsbD (keyPart key) then
    within s.accord.standbySet.plan key r v
  else true

/-- Check one field (R842 step 5): none when it passes, else the status. -/
def checkRow (s : Device) (op tgt : Nat) (p : List Byte) (r : Row) : Option Status :=
  let key := skey op tgt (selector op p) r.off
  let v := r.read p
  match r.kind with
  | .acc => if v = planFixed (plan s) key then none else some .accordFixed
  | .rt => if within (plan s) key r v && bothLimits s key r v then none else some .badParam
  | .par => if r.lo ≤ v && v ≤ r.hi then none else some .badParam
  | .rbo => none
  | .bulk => none

/-- The first field refused, in order of increasing offset; `extra` is the command's own check of a field. -/
def checkFields (s : Device) (op tgt : Nat) (p : List Byte) (extra : Nat → Bool) : Option (Status × Nat) :=
  (layout op).findSome? fun r =>
    match checkRow s op tgt p r with
    | some st => some (st, r.off)
    | none => if extra r.off then none else some (.badParam, r.off)

/-- The read-back of a command: its request layout filled with present values, selectors as given (R844, R845).
`rb` gives the fields that are not settings of the store. -/
def readBack (s : Device) (op tgt : Nat) (p : List Byte) (rb : List (Nat × List Byte)) : List Byte :=
  let n := p.length
  let base := (layout op).foldl (fun l r =>
    match r.kind with
    | .par => put l r.off (slice p r.off r.size)
    | .rt => put l r.off (leInt r.size (inForce s (skey op tgt (selector op p) r.off)))
    | .acc => put l r.off (leInt r.size (planFixed (plan s) (skey op tgt (selector op p) r.off)))
    | .rbo => l
    | .bulk => l) (zeros n)
  rb.foldl (fun l f => put l f.1 f.2) base

end Sys2Proof.Machine
end

