-- ==== Sys2Proof/Machine/Flags.lean ====
section
/-!
DEFINITION. The flags of the fault collector: the catalogue of fault sources with their classes, levels, domains and
reaction masks (Tables 19-1, 19-2, 19-4, 19-9, 19-10 and the fault tables of every chapter), the phase in force, the
states that held reactions make, and the level of FAULT_N.
-/
namespace Sys2Proof.Machine
open Sys2Proof

/-- How a fault ID finds its domain (Tables 19-1 and 19-9). -/
inductive DomRule where
  | device | mgmt | carrier | engine | crypto | timing | dram | lg | lane | sb | sram | xing | regfile
  deriving DecidableEq, Repr

/-- A fault ID of the catalogue. -/
structure FaultInfo where
  id : Nat
  /-- 0 lane, 1 carrier, 2 device, 3 stack -/
  level : Nat
  /-- 0 C, 1 U, 2 F -/
  cls : Nat
  /-- instances 0 to `insts` - 1 -/
  insts : Nat
  dom : DomRule
  /-- default reactions besides LOG: EVENT is 2 -/
  mask : Nat := 2
  /-- check width, 0 for a source that is not a checker (Table 19-10) -/
  width : Nat := 0
  deriving DecidableEq, Repr

/-- Every fault ID, in R739 order. -/
def catalogue : List FaultInfo :=
  [{ id := 0x0101, level := 0, cls := 2, insts := 96, dom := .engine, mask := 2 + 64 },
   { id := 0x0102, level := 0, cls := 1, insts := 96, dom := .engine },
   { id := 0x0301, level := 1, cls := 1, insts := 2, dom := .carrier, mask := 2 + 8 },
   { id := 0x0302, level := 1, cls := 1, insts := 2, dom := .carrier, mask := 2 + 8 },
   { id := 0x0303, level := 1, cls := 1, insts := 2, dom := .carrier },
   { id := 0x0304, level := 1, cls := 1, insts := 2, dom := .carrier },
   { id := 0x0305, level := 1, cls := 0, insts := 2, dom := .carrier },
   { id := 0x0306, level := 1, cls := 0, insts := 2, dom := .carrier },
   { id := 0x0307, level := 1, cls := 0, insts := 2, dom := .carrier },
   { id := 0x0308, level := 1, cls := 1, insts := 2, dom := .carrier },
   { id := 0x0309, level := 1, cls := 1, insts := 2, dom := .carrier },
   { id := 0x0321, level := 1, cls := 1, insts := 2, dom := .carrier },
   { id := 0x0322, level := 1, cls := 1, insts := 2, dom := .carrier },
   { id := 0x0323, level := 1, cls := 1, insts := 2, dom := .carrier },
   { id := 0x0324, level := 1, cls := 1, insts := 2, dom := .carrier },
   { id := 0x0325, level := 1, cls := 0, insts := 2, dom := .carrier },
   { id := 0x0341, level := 2, cls := 1, insts := 32, dom := .device, mask := 2 + 32, width := 32 },
   { id := 0x0342, level := 1, cls := 1, insts := 2, dom := .carrier },
   { id := 0x0343, level := 1, cls := 1, insts := 2, dom := .carrier },
   { id := 0x0361, level := 2, cls := 1, insts := 1, dom := .device },
   { id := 0x0381, level := 3, cls := 1, insts := 16, dom := .device },
   { id := 0x0382, level := 3, cls := 1, insts := 16, dom := .device },
   { id := 0x0383, level := 2, cls := 1, insts := 1, dom := .device },
   { id := 0x0384, level := 2, cls := 1, insts := 33, dom := .device }] ++
  [{ id := 0x0601, level := 2, cls := 2, insts := 1, dom := .crypto, mask := 2 + 256 },
   { id := 0x0602, level := 2, cls := 2, insts := 1, dom := .crypto, mask := 2 + 256 },
   { id := 0x0603, level := 2, cls := 2, insts := 1, dom := .crypto, mask := 2 + 256 },
   { id := 0x0604, level := 2, cls := 2, insts := 1, dom := .crypto, mask := 2 + 256 },
   { id := 0x0605, level := 2, cls := 2, insts := 1, dom := .crypto, mask := 2 + 256 },
   { id := 0x0606, level := 1, cls := 2, insts := 2, dom := .crypto, mask := 2 + 256, width := 16 },
   { id := 0x0607, level := 2, cls := 1, insts := 1, dom := .crypto, mask := 2 + 256 },
   { id := 0x0608, level := 2, cls := 1, insts := 1, dom := .crypto, mask := 2 + 256 },
   { id := 0x0609, level := 1, cls := 1, insts := 2, dom := .crypto },
   { id := 0x0801, level := 2, cls := 1, insts := 1, dom := .timing },
   { id := 0x0802, level := 2, cls := 1, insts := 1, dom := .timing },
   { id := 0x0803, level := 2, cls := 0, insts := 1, dom := .timing },
   { id := 0x0804, level := 2, cls := 1, insts := 1, dom := .timing },
   { id := 0x0805, level := 2, cls := 0, insts := 1, dom := .timing },
   { id := 0x0901, level := 1, cls := 1, insts := 2, dom := .timing },
   { id := 0x0902, level := 1, cls := 1, insts := 2, dom := .timing },
   { id := 0x0903, level := 2, cls := 1, insts := 1, dom := .timing },
   { id := 0x0904, level := 2, cls := 0, insts := 1, dom := .timing },
   { id := 0x0A01, level := 0, cls := 2, insts := 64, dom := .device },
   { id := 0x0A02, level := 2, cls := 0, insts := 1, dom := .device }] ++
  [{ id := 0x0B01, level := 2, cls := 0, insts := 4, dom := .dram },
   { id := 0x0B02, level := 2, cls := 1, insts := 4, dom := .dram, width := 64 },
   { id := 0x0B03, level := 2, cls := 0, insts := 4, dom := .dram },
   { id := 0x0B04, level := 2, cls := 0, insts := 4, dom := .dram },
   { id := 0x0B05, level := 2, cls := 1, insts := 4, dom := .dram },
   { id := 0x0B06, level := 2, cls := 0, insts := 1, dom := .dram },
   { id := 0x0B07, level := 2, cls := 0, insts := 32, dom := .dram },
   { id := 0x0C01, level := 2, cls := 1, insts := 8, dom := .lg },
   { id := 0x0C02, level := 0, cls := 1, insts := 32, dom := .lane },
   { id := 0x0C03, level := 2, cls := 1, insts := 32, dom := .lane },
   { id := 0x0D01, level := 2, cls := 1, insts := 4, dom := .sb },
   { id := 0x0D02, level := 3, cls := 1, insts := 1, dom := .device },
   { id := 0x0D03, level := 3, cls := 1, insts := 1, dom := .device },
   { id := 0x0D04, level := 3, cls := 1, insts := 1, dom := .device },
   { id := 0x0D05, level := 3, cls := 1, insts := 1, dom := .device },
   { id := 0x0D06, level := 2, cls := 0, insts := 1, dom := .device },
   { id := 0x0E01, level := 2, cls := 1, insts := 1, dom := .device, mask := 2 + 8 },
   { id := 0x0E02, level := 2, cls := 0, insts := 4, dom := .device },
   { id := 0x0E03, level := 2, cls := 1, insts := 2, dom := .device },
   { id := 0x0E04, level := 2, cls := 0, insts := 1, dom := .device },
   { id := 0x0E05, level := 2, cls := 1, insts := 1, dom := .mgmt, mask := 2 + 128 },
   { id := 0x0E06, level := 2, cls := 1, insts := 1, dom := .device, mask := 2 + 4 },
   { id := 0x0E07, level := 2, cls := 1, insts := 1, dom := .device }] ++
  [{ id := 0x0F01, level := 2, cls := 0, insts := 3, dom := .sram, width := 8 },
   { id := 0x0F02, level := 2, cls := 1, insts := 3, dom := .sram, mask := 2 + 64, width := 8 },
   { id := 0x0F03, level := 0, cls := 0, insts := 96, dom := .engine, width := 8 },
   { id := 0x0F04, level := 0, cls := 2, insts := 96, dom := .engine, mask := 2 + 64, width := 8 },
   { id := 0x0F05, level := 2, cls := 1, insts := 9, dom := .xing, width := 1 },
   { id := 0x0F06, level := 2, cls := 2, insts := 18, dom := .regfile, width := 1 },
   { id := 0x1001, level := 2, cls := 1, insts := 1, dom := .device },
   { id := 0x1002, level := 2, cls := 1, insts := 1, dom := .device },
   { id := 0x1003, level := 2, cls := 1, insts := 1, dom := .device },
   { id := 0x1004, level := 2, cls := 1, insts := 1, dom := .device },
   { id := 0x1005, level := 2, cls := 1, insts := 1, dom := .device },
   { id := 0x1006, level := 2, cls := 1, insts := 1, dom := .device },
   { id := 0x1007, level := 2, cls := 1, insts := 1, dom := .device },
   { id := 0x1008, level := 2, cls := 1, insts := 1, dom := .device },
   { id := 0x1009, level := 2, cls := 0, insts := 1, dom := .device },
   { id := 0x100A, level := 2, cls := 0, insts := 1, dom := .device },
   { id := 0x100B, level := 2, cls := 1, insts := 1, dom := .device }]

/-- The catalogue's row of a fault ID. -/
def faultInfo (id : Nat) : Option FaultInfo := catalogue.find? fun f => f.id = id

/-- The key of a source (R739): fault ID, then instance. -/
def srcKey (id inst : Nat) : Nat := 256 * id + inst

/-- Every source in R739 order, as fault ID and instance. -/
def allSources : List (Nat × Nat) :=
  catalogue.flatMap fun f => (List.range f.insts).map fun i => (f.id, i)

/-- The source exists. -/
def isSource (id inst : Nat) : Bool := match faultInfo id with | some f => inst < f.insts | none => false

/-- The class of a fault ID: 0 C, 1 U, 2 F (R744). -/
def clsOf (id : Nat) : Nat := (faultInfo id).map (·.cls) |>.getD 1

/-- An alarm source (R419). -/
def isAlarm (id : Nat) : Bool := 0x0601 ≤ id && id ≤ 0x0608

/-- Default reaction mask of a source (R892). -/
def defaultMask (id inst : Nat) : Nat :=
  match faultInfo id with
  | none => 0
  | some f =>
    if (id = 0x0101 || id = 0x0F04) && inst ≥ 80 then 3
    else if id = 0x0F02 && inst = 0 then 3
    else 1 + f.mask

/-- Domain of an engine (Table 19-1). -/
def engineDomain (e : Nat) : Domain :=
  if e < 32 then .carrierA else if e < 64 then .carrierB else if e < 80 then .timing else .device

/-- Lane group `k` as a domain. -/
def lgDomain (k : Nat) : Domain := if h : k < 8 then .lg ⟨k, h⟩ else .device
/-- Stack port `n` as a domain. -/
def sbDomain (n : Nat) : Domain := if h : n < 4 then .sb ⟨n, h⟩ else .device
/-- The domain of a carrier. -/
def carDomain (c : Carrier) : Domain := match c with | .a => .carrierA | .b => .carrierB

/-- Domain of a source (R740, R890). Crossings take the domain of Table 18-7. -/
def domainOf (id inst : Nat) : Domain :=
  match (faultInfo id).elim DomRule.device (fun f => f.dom) with
  | .device => .device
  | .mgmt => .mgmt
  | .carrier => carDomain (Carrier.ofNum inst)
  | .engine => engineDomain inst
  | .crypto => .crypto
  | .timing => .timing
  | .dram => .dram
  | .lg => lgDomain inst
  | .lane => lgDomain (inst / 4)
  | .sb => sbDomain inst
  | .sram => if inst = 1 then .carrierA else if inst = 2 then .carrierB else .device
  | .xing =>
    -- the row's domain; a row that names a family of domains has no single one and takes the DEVICE domain (log 15)
    if inst = 3 then .dram else if inst = 5 then .timing else if inst = 7 then .mgmt
    else if inst = 8 then .crypto else .device
  | .regfile =>
    if inst ∈ [0, 2, 3, 6, 9, 11, 16] then .carrierA
    else if inst ∈ [1, 4, 5, 7, 10, 12, 17] then .carrierB else .device

/-- The carrier of a source, where it has one (R893). -/
def carrierOfSource (id inst : Nat) : Option Carrier :=
  match faultInfo id with
  | none => none
  | some f =>
    if f.level = 1 then some (Carrier.ofNum inst)
    else if f.dom = .engine then (if inst < 32 then some .a else if inst < 64 then some .b else none)
    else if f.dom = .sram then (if inst = 1 then some .a else if inst = 2 then some .b else none)
    else none

/-- The reactions permitted for a source (R893). -/
def permitted (id inst : Nat) : Nat :=
  let base := 1 + 2 + 4 + 8 + 128 + 256 + 512
  let hasCar := (carrierOfSource id inst).isSome
  let prot := if hasCar || id = 0x0341 then 32 else 0
  let hold := if hasCar || id / 256 = 8 ||
      ((faultInfo id).map (·.dom) = some .engine && 64 ≤ inst && inst < 80) then 64 else 0
  (base ||| prot ||| hold) ||| defaultMask id inst

/-- The state of a source. -/
def source (s : Device) (id inst : Nat) : SourceSt := Tab.get (fun _ => {}) s.fault.sources (srcKey id inst)

/-- Change the state of a source. -/
def modSource (id inst : Nat) (f : SourceSt → SourceSt) (s : Device) : Device :=
  putFault { s.fault with sources := Tab.modify (fun _ => {}) s.fault.sources (srcKey id inst) f } s

/-- The source is raw (R748). -/
def SourceRaw (q : SourceSt) : Bool := q.cond || q.pulse

/-- The phase in force for a source (R743): the lowest nonzero value that applies. -/
def phaseOf (s : Device) (id inst : Nat) : Nat :=
  if s.fault.startup then 1
  else if s.fault.test then 2
  else if s.fault.recovery.any fun p => p.1 = domainOf id inst then 3
  else 0

/-- Setting of a source: reactions (offset 4), count_n (6), count_w (8), quiet (10) of Table 19-7. -/
def faultSet (s : Device) (id inst off : Nat) : Nat :=
  let key := skey 0x0F01 0 (id + 65536 * inst) off
  if off = 4 then
    match Tab.get (fun _ => none) s.settings key with
    | some v => v.toNat
    | none => defaultMask id inst
  else (inForce s key).toNat

/-- A source holds a reaction bit. -/
def holding (s : Device) (b : Nat) (p : Nat → Nat → Bool) : Bool :=
  s.fault.sources.any fun q => q.2.held.getLsbD b && p (q.1 / 256) (q.1 % 256)

/-- The safe state is in force: a source holds SAFE (Table 19-4). -/
def safeState (s : Device) : Bool := holding s 9 fun _ _ => true

/-- A carrier is squelched: by SAFE, by SQUELCH_CARRIER of a source of that carrier or of a source without one. -/
def squelched (s : Device) (c : Carrier) : Bool :=
  safeState s || holding s 3 fun id i => (carrierOfSource id i).getD c = c

/-- The coefficients of a carrier are held (HOLD of a source of that carrier). -/
def coefHeld (s : Device) (c : Carrier) : Bool := holding s 6 fun id i => carrierOfSource id i = some c

/-- The DPLL is held in HOLDOVER by a fault (HOLD of area 0x08 or of engines E64 to E79). -/
def dpllHeld (s : Device) : Bool :=
  holding s 6 fun id i =>
    id / 256 = 8 || ((faultInfo id).map (·.dom) = some .engine && 64 ≤ i && i < 80)

/-- The level of FAULT_N (R757): low while a source with PIN is held, a class F source is LATCHED, or the safe state
is in force. -/
def pinLevel (s : Device) : Device :=
  let low := safeState s || holding s 2 (fun _ _ => true) ||
    s.fault.sources.any fun q => q.2.st = .latched && clsOf (q.1 / 256) = 2
  putFault { s.fault with pinLow := low } s

end Sys2Proof.Machine
end

