-- ==== Sys2Proof/Machine/Base.lean ====
section
/-!
DEFINITION. Operations that several chapters share: erasure of key material (09_line_encryption R420), triggers of
captures (14_buffer_memory_and_latency_equaliser R618 to R620), stack time and the queues of the stack ports
(17_stack_bus_and_stacking R675, R679, R685), and resets of domains (18_clocks_resets_power R721, R722).
-/
namespace Sys2Proof.Machine
open Sys2Proof

/-! ### Updates of one part of the device -/

/-- Change the transmitter of a carrier. -/
def modTx (c : Carrier) (f : TxSt → TxSt) (s : Device) : Device := { s with tx := s.tx.mod c f }
/-- Change the receiver of a carrier. -/
def modRx (c : Carrier) (f : RxSt → RxSt) (s : Device) : Device := { s with rx := s.rx.mod c f }
/-- Change the FEC state of a carrier. -/
def modFec (c : Carrier) (f : FecSt → FecSt) (s : Device) : Device := { s with fec := s.fec.mod c f }
/-- Change the line framing of a carrier. -/
def modLine (c : Carrier) (f : LineSt → LineSt) (s : Device) : Device := { s with line := s.line.mod c f }
/-- Change the converters of a carrier. -/
def modConv (c : Carrier) (f : CarrierConv → CarrierConv) (s : Device) : Device := { s with conv := s.conv.mod c f }
/-- Change the line encryption of a carrier. -/
def modCrypto (c : Carrier) (f : CryptoSt → CryptoSt) (s : Device) : Device := { s with crypto := s.crypto.mod c f }
/-- Change the supervisory channel of a carrier. -/
def modOstc (c : Carrier) (f : OstcSt → OstcSt) (s : Device) : Device := { s with ostc := s.ostc.mod c f }
/-- Change the time transfer of a carrier. -/
def modTtx (c : Carrier) (f : TtxSt → TtxSt) (s : Device) : Device := { s with ttx := s.ttx.mod c f }
/-- Change the timing subsystem. -/
def modTiming (f : TimingSt → TimingSt) (s : Device) : Device := { s with timing := f s.timing }
/-- Change the buffer memory. -/
def modMem (f : MemSt → MemSt) (s : Device) : Device := { s with mem := f s.mem }
/-- Change the stack. -/
def modStack (f : StackSt → StackSt) (s : Device) : Device := { s with stack := f s.stack }
/-- Change the clocks. -/
def modClock (f : ClockSt → ClockSt) (s : Device) : Device := { s with clock := f s.clock }
/-- Change the fault collector. -/
def modFault (f : FaultSt → FaultSt) (s : Device) : Device := { s with fault := f s.fault }
/-- Change start-up and store. -/
def modBoot (f : BootSt → BootSt) (s : Device) : Device := { s with boot := f s.boot }
/-- Change the host interface. -/
def modHost (f : HostSt → HostSt) (s : Device) : Device := { s with host := f s.host }
/-- Change the Accord state. -/
def modAccord (f : AccordSt → AccordSt) (s : Device) : Device := { s with accord := f s.accord }

/-- A capture slot. -/
def cap (s : Device) (i : Nat) : CapSlot := Tab.get (fun _ => {}) s.mem.caps i
/-- Change a capture slot. -/
def modCap (i : Nat) (f : CapSlot → CapSlot) (s : Device) : Device :=
  modMem (fun m => { m with caps := Tab.modify (fun _ => {}) m.caps i f }) s

/-- A stack port. -/
def sbPort (s : Device) (i : Nat) : SbPort := Tab.get (fun _ => {}) s.stack.ports i
/-- Change a stack port. -/
def modPort (i : Nat) (f : SbPort → SbPort) (s : Device) : Device :=
  modStack (fun k => { k with ports := Tab.modify (fun _ => {}) k.ports i f }) s

/-- A sensing channel. -/
def sense (s : Device) (ch : Nat) : SenseSt := Tab.get (fun _ => {}) s.sense ch
/-- Change a sensing channel. -/
def modSense (ch : Nat) (f : SenseSt → SenseSt) (s : Device) : Device :=
  putSense (Tab.modify (fun _ => {}) s.sense ch f) s

/-- A host lane. -/
def lane (s : Device) (i : Nat) : LaneSt := Tab.get (fun _ => {}) s.lanes.lanes i
/-- Change a host lane. -/
def modLane (i : Nat) (f : LaneSt → LaneSt) (s : Device) : Device :=
  putLanes { s.lanes with lanes := Tab.modify (fun _ => {}) s.lanes.lanes i f } s

/-- A loop engine. -/
def engine (s : Device) (e : Nat) : EngineSt := Tab.get (fun _ => {}) s.engines.engines e
/-- Change a loop engine. -/
def modEngine (e : Nat) (f : EngineSt → EngineSt) (s : Device) : Device :=
  putEngines { s.engines with engines := Tab.modify (fun _ => {}) s.engines.engines e f } s

/-! ### Pools, keys and the Accord in force on the receive side -/

/-- Size of a pool before any command or boot plan sets it: the Accord's value, 512 MiB for pool 3
(14_buffer_memory_and_latency_equaliser Table 14-1). -/
def poolDefault (pl : Plan) (k : Nat) : Nat :=
  if k = 3 then 512
  else if k = 4 then (planFixed pl (skey 0x0B00 0 0 16)).toNat
  else (planLimit pl (skey 0x0B00 0 0 (4 * k))).elim 0 fun l => l.dflt.toNat

/-- Size of a pool in MiB (Table 14-1). -/
def poolSize (s : Device) (k : Nat) : Nat :=
  (Tab.get (fun _ => none) s.mem.pools k : Option Nat).getD (poolDefault (plan s) k)

/-- The rules of keys that Accord images and firmware images share (02_accords_and_loop_engines R52, R53): key 0 until
`ALANOSOR_KEY_DISABLE` is fused; an OEM key whose hash is fused in its slot and whose revoke bit is not. -/
def keyAccepted (s : Device) (keySel : Nat) (oemHash : List Byte) : Bool :=
  let f := s.boot.otp.fused
  match keySel with
  | 0 => !f.getLsbD 4
  | 1 => f.getLsbD 0 && !f.getLsbD 2 && oemHash = s.boot.otp.hash.a
  | 2 => f.getLsbD 1 && !f.getLsbD 3 && oemHash = s.boot.otp.hash.b
  | _ => false

/-- The mode of a carrier's receive side: that of the former Accord until its receive tables have switched (R74). -/
def rxModeOf (s : Device) (c : Carrier) : Option ModePlan :=
  if s.accord.rxWait.get c then s.accord.standbySet.plan.modes.get c else modeOf s c

/-! ### Stack time and the queues of the stack ports -/

/-- Stack time of an instant of device time (17_stack_bus_and_stacking R679). -/
def toStack (s : Device) (t : Time) : Time := ((t : Int) + s.stack.sigma).toNat

/-- Device time of an instant of stack time. -/
def ofStack (s : Device) (t : Time) : Time := ((t : Int) - s.stack.sigma).toNat

/-- Ports 0 to 3 in `SB_UP`, except one. -/
def upPorts (s : Device) (except : Option Nat) : List Nat :=
  [0, 1, 2, 3].filter fun p => (sbPort s p).state = .up && some p ≠ except

/-- An item has this identity and has not been seen: the state with it noted; none when it has (R683). The memory
of identities keeps the latest 4,096 (log 16). -/
def noteSeen (k : List Nat) (s : Device) : Option Device :=
  if k ∈ s.stack.seen then none
  else some (modStack (fun st => { st with seen := (k :: st.seen).take 4096 }) s)

/-- Queue a message on a port; a full queue discards it and counts it (R685). -/
def queueMsg (p : Nat) (m : SbMsg) (s : Device) : Device :=
  if (sbPort s p).queue.length < 64 then modPort p (fun q => { q with queue := q.queue ++ [m] }) s
  else modStack (fun k => { k with msgDrop := wrap 32 (k.msgDrop + 1), dropTick := true }) s

/-- Originate a message on every port in `SB_UP`: its origin, number and, with `stack_auth`, its GMAC counter
(R685, R414). Without a key of the `STACK` context nothing is sent while `stack_auth` is 1 (R418). -/
def sendMsg (type dest : Nat) (body : List Byte) (s : Device) : Device :=
  let auth := dset s 0x0D00 0 1 = 1
  let ctx : KmeCtx := Tab.get (fun _ => {}) s.kme.ctxs 4
  if auth && ctx.key.isNone then s
  else
    let n := s.stack.nextSeq.2.2
    let m : SbMsg := { type, origin := s.stack.stackId, dest, hops := 0, seq := n,
                       counter := if auth then ctx.sendCount else 0, body }
    let s := modStack (fun k => { k with nextSeq := (k.nextSeq.1, k.nextSeq.2.1, wrap 16 (n + 1)),
                                         seen := ([3, s.stack.stackId, n] :: k.seen).take 4096 }) s
    let s := if auth then
        putKme { s.kme with
          ctxs := Tab.set (fun _ => {}) s.kme.ctxs 4 { ctx with sendCount := ctx.sendCount + 1 } } s else s
    each (upPorts s none) (fun p s => queueMsg p m s) s

/-! ### Triggers of captures (R618 to R620) -/

/-- A trigger of kind `k` (0 command, 1 fault, 2 detector, 3 `TRIG_IN`, 4 stack-wide) at instant `t` reaches slot
`i`: an armed slot without a trigger takes it, with its trigger point no earlier than `point`; a stack-wide
trigger that comes after its point takes the next control-tick boundary (`STACK_LATE`, R619). A slot that has
triggered counts it (R620). -/
def trigSlot (k i : Nat) (t point : Time) (s : Device) : Device :=
  let c := cap s i
  if !c.trigMask.getLsbD k then s
  else match c.state with
    | .armed =>
      if c.trig.isSome then s
      else if k = 4 && point ≤ s.timing.now then
        modCap i (fun c => { c with trig := some (k, t, s.timing.now + 1), flags := c.flags ||| 2#5 }) s
      else modCap i (fun c => { c with trig := some (k, t, point) }) s
    | .idle => s
    | _ => modCap i (fun c => { c with trigIgnored := sat 32 (c.trigIgnored + 1) }) s

/-- A stack-wide trigger at stack time `t` reaches this device: every slot that accepts it takes as its point
t + 8 µs (R619). -/
def stackTrigHere (t : Time) (s : Device) : Device :=
  let d := ofStack s t
  each [0, 1, 2, 3] (fun i s => trigSlot 4 i d (d + 8 * US) s) s

/-- Originate a stack-wide trigger at device time `t` (R619, R675). -/
def sendTrig (t : Time) (s : Device) : Device :=
  let n := s.stack.nextSeq.1
  let st := toStack s t
  let item : TrigItem := { origin := s.stack.stackId, hops := 0, seq := n, t := st }
  let s := modStack (fun k => { k with nextSeq := (wrap 16 (n + 1), k.nextSeq.2),
                                       seen := ([2, s.stack.stackId, n] :: k.seen).take 4096 }) s
  let s := each (upPorts s none) (fun p s => modPort p (fun q => { q with trigs := q.trigs ++ [item] }) s) s
  stackTrigHere st s

/-- A local trigger of kind `k` at `t` for slots that `f` admits; a slot with bit 5 that accepts it also sends it on
the stack bus, and a slot that accepts stack-wide triggers then takes the stack-wide point (R618, R619). -/
def localTrig (k : Nat) (t : Time) (f : Nat → CapSlot → Bool) (s : Device) : Device :=
  let takers := [0, 1, 2, 3].filter fun i =>
    let c := cap s i
    f i c && c.trigMask.getLsbD k && c.state = .armed && c.trig.isNone
  let sends := takers.any fun i => (cap s i).trigMask.getLsbD 5
  let s' := each [0, 1, 2, 3] (fun i s =>
    if f i (cap s i) then
      trigSlot k i t (if sends && (cap s i).trigMask.getLsbD 4 then t + 8 * US else t) s
    else s) s
  if sends then sendTrig t s' else s'

/-! ### Domains in reset -/

/-- A domain is in reset. -/
def inReset (s : Device) (d : Domain) : Bool := s.clock.inReset.any fun p => p.1 = d

/-- A domain enters reset by a cause; a cause already there is merged (R722). -/
def enterReset (d : Domain) (cause : Nat) (s : Device) : Device :=
  if (d, cause) ∈ s.clock.inReset then s
  else modClock (fun k => { k with inReset := k.inReset ++ [(d, cause)] }) s

/-! ### Erasure of keys (R420, R423) -/

/-- The slots of a carrier erased; a roll in progress is cancelled (R423). -/
def eraseSlots (q : CryptoSt) : CryptoSt :=
  { q with tx := ⟨{}, {}⟩, rx := ⟨{}, {}⟩, rollTo := none, rollTicks := 0, rollIn := 0, rxRoll := none }

/-- Erase every line slot, KME context, the DRBG state and every mask state, and reset the CRYPTO domain (R420). The
domain leaves reset with `DOMAIN_RESET_RELEASE`. -/
def eraseKeys (s : Device) : Device :=
  let s := modCrypto .b eraseSlots (modCrypto .a eraseSlots s)
  let s := putKme { s.kme with ctxs := [], drbgSeeded := false, drbgRequests := 0, maskSegs := [] } s
  enterReset .crypto 6 s

end Sys2Proof.Machine
end

