-- ==== Sys2Proof/Machine/Faults.lean ====
section
/-!
DEFINITION. The fault collector (19_fault_handling): what an event of a source does at once, what begins at the next
control-tick boundary, and how a source leaves its fault state.
-/
namespace Sys2Proof.Machine
open Sys2Proof

/-- The bits of Table 19-4 that are held while a source is not `QUIET`: PIN, both squelches, PROTECT, HOLD, SAFE. -/
def heldMask : Nat := 4 + 8 + 16 + 32 + 64 + 512

/-- The checker that a fault ID belongs to (Table 19-10): the ID that an injection names. -/
def checkerOf (id : Nat) : Nat := if id = 0x0F01 then 0x0F02 else if id = 0x0F03 then 0x0F04 else id

/-- A fault ID names a checker of Table 19-10. -/
def isChecker (id inst : Nat) : Bool :=
  isSource id inst && (id ∈ [0x0F02, 0x0F04, 0x0B02, 0x0F05, 0x0F06, 0x0606, 0x0341])

/-- The bytes of a fault record (Table 19-5). -/
def faultBytes (r : FaultRec) : List Byte :=
  fields 32 [(0, le 2 r.id), (2, le 1 r.inst), (3, le 1 r.cls), (4, [r.flags]), (5, le 1 r.phase),
    (6, le 2 r.reactions.toNat), (8, timeBytes r.t), (20, le 2 r.others), (22, le 2 r.recoveries),
    (24, fit 8 r.detail)]

/-- Write a record to the log and its mirror (R760); a record of class F is to be copied to the black box (R767). -/
def logFault (r : FaultRec) (s : Device) : Device :=
  modFault (fun f =>
    { f with
      log := (r :: f.log).take 1024
      overwrite := if f.log.length < 1024 then f.overwrite else sat 32 (f.overwrite + 1)
      mirror := (r :: f.mirror).take 64
      toBlackBox := if r.cls = 2 then f.toBlackBox ++ [r] else f.toBlackBox }) s

/-- The event `FAULT_RAISED` of a record begins at the next control-tick boundary (R754, Table 22-12). -/
def dueRaised (r : FaultRec) (s : Device) : Device :=
  let e : EventRec := ⟨0x0F01, r.id, r.cls + 1, s.stack.stackId, r.t,
    fit 12 (le 1 r.inst ++ le 1 r.cls ++ [r.flags] ++ le 1 r.phase ++ le 2 r.reactions.toNat ++ le 2 r.recoveries)⟩
  modFault (fun f => { f with dueRaised := f.dueRaised ++ [(srcKey r.id r.inst, e)] }) s

/-- One event of a source as the collector sees it. -/
structure FaultIn where
  /-- fault ID -/
  id : Nat := 0
  /-- instance -/
  inst : Nat := 0
  /-- bytes of `detail` -/
  detail : List Byte := []
  /-- a condition begins to hold; otherwise the fault is an event -/
  begins : Bool := false
  /-- the syndrome equals the armed pattern in an inverted check (R766) -/
  injected : Bool := false
  deriving DecidableEq, Repr

/-- An injected event that is only logged and reported (R765, `inj_react` 0). -/
def FaultIn.inert (s : Device) (e : FaultIn) : Bool :=
  e.injected &&
    (match (Tab.get (fun _ => none) s.fault.armed (srcKey (checkerOf e.id) e.inst) : Option Injection) with
     | some a => !a.react
     | none => true)

/-- The events of the same source counted with this one, for a source classified by counting (R745). -/
def countedWith (s : Device) (e : FaultIn) : List Nat :=
  0 :: (source s e.id e.inst).window.filter fun age => age < faultSet s e.id e.inst 8

/-- The event is classified by counting (R745, R746, R765). -/
def counts (s : Device) (e : FaultIn) : Bool :=
  phaseOf s e.id e.inst ≠ 0 && !isAlarm e.id && !e.inert s

/-- The event is below count (R745). -/
def belowCount (s : Device) (e : FaultIn) : Bool :=
  counts s e && (countedWith s e).length < faultSet s e.id e.inst 6

/-- The effective class of an event: C below count, else the class of the source (R744 to R746). -/
def effClass (s : Device) (e : FaultIn) : Nat := if belowCount s e then 0 else clsOf e.id

/-- The state an event moves its source to (R747, R751). -/
def nextPhase (s : Device) (e : FaultIn) : SrcPhase :=
  let q := source s e.id e.inst
  if belowCount s e || e.inert s then q.st
  else if effClass s e = 2 then .latched
  else match q.st with | .quiet => .active | p => p

/-- The record of a source after an event of it (R745, R747, R748, R751, R759). -/
def recordAfter (t : Time) (e : FaultIn) (s : Device) : SourceSt :=
  let q := source s e.id e.inst
  let inert := e.inert s
  let st := nextPhase s e
  let entered := st ≠ q.st
  { q with
    st
    cond := if inert then q.cond else q.cond || e.begins
    pulse := if inert then q.pulse else q.pulse || !e.begins
    quiet := if inert then q.quiet else none
    events := sat 32 (q.events + 1)
    window := if counts s e then countedWith s e else q.window
    logged := true
    due := if entered && faultSet s e.id e.inst 4 / 128 % 2 = 1 then q.due ||| 0x80#16 else q.due
    lastEvent := t
    lastChange := if entered then t else q.lastChange }

/-- One event: count, classify, move the state, log, and note what begins at the next control-tick boundary
(R744 to R766). `others` is the number of other events of the same core cycle (R761). -/
def faultOne (others : Nat) (t : Time) (e : FaultIn) (s : Device) : Device :=
  if !isSource e.id e.inst then s
  else
    let q := source s e.id e.inst
    let inert := e.inert s
    let below := belowCount s e
    let cls := effClass s e
    let st := nextPhase s e
    let entered := st ≠ q.st
    let mask := faultSet s e.id e.inst 4
    let logged := !q.logged
    let wasHeld := if q.st = .quiet then 0 else mask &&& heldMask
    let began : Nat :=
      if below then 1
      else if inert then 3
      else 1 ||| (mask &&& 2) |||
        (if entered then (mask &&& heldMask) &&& (heldMask ^^^ wasHeld) ||| (mask &&& 0x180) else 0)
    let flags : Nat := bit e.injected + 2 * bit below + 4 * bit (others ≠ 0) +
      8 * bit (st = .latched && entered) + 16 * bit (q.st = .latched)
    let r : FaultRec := { id := e.id, inst := e.inst, cls, flags := BitVec.ofNat 8 flags,
                          phase := phaseOf s e.id e.inst, reactions := BitVec.ofNat 16 began, t, others,
                          recoveries := q.recoveries, detail := e.detail }
    let s := modSource e.id e.inst (fun _ => recordAfter t e s) s
    let s := if logged then logFault r s else s
    let s := if cls ≥ 1 && !e.injected && s.fault.first.isNone then modFault (fun f => { f with first := some r }) s else s
    let s := if logged && !below && (inert || mask / 2 % 2 = 1) then dueRaised r s else s
    let s := if !inert && (isAlarm e.id || (entered && mask / 256 % 2 = 1)) then eraseKeys s else s
    let s := if !inert && e.id ∈ [0x0601, 0x0602, 0x0603, 0x0607] then
        putKme { s.kme with alarm := true } s else s
    let s := localTrig 1 t (fun _ c => c.faultId = e.id || c.faultId = 0xFFFF) s
    pinLevel s

/-- Order of concurrent events: effective class F first, then source order (R761). -/
def beforeIn (s : Device) (a b : FaultIn) : Bool :=
  effClass s a > effClass s b || (effClass s a = effClass s b && srcKey a.id a.inst ≤ srcKey b.id b.inst)

/-- Put an event into a list kept in the order of R761. -/
def insertIn (s : Device) (e : FaultIn) (l : List FaultIn) : List FaultIn :=
  match l with
  | [] => [e]
  | h :: r => if beforeIn s e h then e :: h :: r else h :: insertIn s e r

/-- A group of events detected in the same core cycle (R761). -/
def faultGroup (t : Time) (l : List FaultIn) (s : Device) : Device :=
  let l := l.filter fun e => isSource e.id e.inst
  each (l.foldr (insertIn s) []) (faultOne (min (l.length - 1) 65535) t) s

/-- A fault that its chapter defines as an event, now. -/
def fault (id inst : Nat) (detail : List Byte) (s : Device) : Device :=
  faultGroup s.timing.now [{ id, inst, detail }] s

/-- The condition of a fault begins to hold, now; nothing when it holds already. -/
def faultOn (id inst : Nat) (detail : List Byte) (s : Device) : Device :=
  if (source s id inst).cond then s else faultGroup s.timing.now [{ id, inst, detail, begins := true }] s

/-- The quiet period of a source starts (R749). -/
def startQuiet (s : Device) (id inst : Nat) (q : SourceSt) : SourceSt :=
  if q.st = .active then { q with quiet := timer (faultSet s id inst 10) } else q

/-- The condition of a fault ends; the quiet period runs from now unless an event keeps the source raw (R748, R749). -/
def faultOff (id inst : Nat) (s : Device) : Device :=
  let q := source s id inst
  if !q.cond then s
  else modSource id inst (fun q =>
    let q := { q with cond := false }
    if q.pulse then q else startQuiet s id inst q) s

/-- A condition-type fault follows its condition. -/
def faultCond (id inst : Nat) (holds : Bool) (detail : List Byte) (s : Device) : Device :=
  if holds then faultOn id inst detail s else faultOff id inst s

/-- The end of a control tick: faults defined as events stop being raw and their quiet periods start (R748). -/
def endPulses (s : Device) : Device :=
  each (s.fault.sources.filter fun p => p.2.pulse) (fun p s =>
    let id := p.1 / 256
    let inst := p.1 % 256
    modSource id inst (fun q =>
      let q := { q with pulse := false }
      if q.cond then q else startQuiet s id inst q) s) s

/-- A change of phase: the counts of R745 of every source whose phase changes are discarded (R746). -/
def changePhase (f : Device → Device) (s : Device) : Device :=
  let s' := f s
  let h (k : Nat) (q : SourceSt) : SourceSt :=
    if phaseOf s (k / 256) (k % 256) = phaseOf s' (k / 256) (k % 256) then q else { q with window := [] }
  modFault (fun g => { g with sources := Tab.mapAll (fun _ => {}) g.sources h }) s'

/-- A source returns to `QUIET`: its held reactions are released and `FAULT_CLEARED` is raised (R749, R756). -/
def toQuiet (id inst : Nat) (s : Device) : Device :=
  let q := source s id inst
  let mask := faultSet s id inst 4
  let s := modSource id inst (fun q => { q with st := .quiet, quiet := none, held := 0, due := 0,
                                                lastChange := s.timing.now }) s
  let s := if mask / 2 % 2 = 1 then
      raise 0x0F02 id 0 (fields 8 [(0, le 1 inst), (6, le 2 q.recoveries)]) s else s
  pinLevel s

/-- An `ACTIVE` source leaves its fault state after its quiet period; a class U source counts the recovery and
latches at the sixteenth within 3,600 epochs (R749, R750). -/
def quietExpiry (id inst : Nat) (s : Device) : Device :=
  let q := source s id inst
  if q.st ≠ .active || !expired q.quiet then s
  else if clsOf id ≠ 1 then toQuiet id inst s
  else
    let n := sat 16 (q.recoveries + 1)
    let latch := q.recent.length ≥ 15 && (q.recent.take 15).all fun age => age < 3600
    let s := modSource id inst (fun q => { q with recoveries := n, recent := (0 :: q.recent).take 15 }) s
    if !latch then toQuiet id inst s
    else
      let r : FaultRec := { id, inst, cls := 1, flags := 8, phase := phaseOf s id inst, reactions := 0,
                            t := s.timing.now, others := 0, recoveries := n, detail := [] }
      let s := modSource id inst (fun q => { q with st := .latched, quiet := none, lastChange := s.timing.now }) s
      let s := logFault r s
      let s := if faultSet s id inst 4 / 2 % 2 = 1 then dueRaised r s else s
      pinLevel s

/-- Slow-tick work of the collector: quiet periods and counting windows advance, and the first event of each source
is logged again (R745, R749, R759). -/
def faultSlowTick (s : Device) : Device :=
  let h (_ : Nat) (q : SourceSt) : SourceSt :=
    { q with quiet := tickDown q.quiet, logged := false, window := (q.window.map (· + 1)).filter (· < 65535) }
  modFault (fun f => { f with sources := Tab.mapAll (fun _ => {}) f.sources h }) s

/-- Epoch work of the collector: ages of recoveries and recovery phases advance (R743, R750). -/
def faultEpoch (s : Device) : Device :=
  modFault (fun f =>
    { f with
      sources := Tab.mapAll (fun _ => {}) f.sources fun _ q =>
        { q with recent := (q.recent.map (· + 1)).filter (· < 3600) }
      recovery := f.recovery.map fun p => (p.1, p.2 - 1) }) s

/-- The recovery phase of a domain starts: the domain leaves a reset made by a fault reaction or by command
(Table 19-3, R773). -/
def startRecovery (d : Domain) (s : Device) : Device :=
  changePhase (modFault fun f =>
    { f with recovery := (f.recovery.filter fun p => p.1 ≠ d) ++ [(d, f.recoveryS + 1)] }) s

end Sys2Proof.Machine
end

