-- ==== Sys2Proof/Machine/Mailbox.lean ====
section
/-!
DEFINITION. How a mailbox command runs (21_mailbox_interface R811 to R815, R830, R831; 22_command_reference R839 to
R845): the checks in order, the response, the interrupt, read-back, and the hand-over of a command for another member
of the stack.
-/
namespace Sys2Proof.Machine
open Sys2Proof

/-- A response: its status and its parameters (R840). -/
structure Resp where
  status : Status := .ok
  params : List Byte := []
  deriving DecidableEq, Repr

/-- `OK` without parameters. -/
def Resp.okay : Resp := {}

/-- A refusal of a field at an offset; 0xFFFF names no field (R843). -/
def Resp.refuse (st : Status) (off : Nat) : Resp :=
  if st = .badParam ∨ st = .accordFixed then ⟨st, le 2 off ++ [0, 0]⟩ else ⟨st, []⟩

/-- What is particular to one command, for the runner. -/
structure Cmd where
  /-- the target is one the command takes; the general rule is `targetKinds` -/
  target : Device → Req → Bool := fun _ _ => true
  /-- bits of `CLK_EN` of the blocks that the command needs (R720) -/
  blocks : Device → Req → List Nat := fun _ _ => []
  /-- the command's own check of the field at an offset -/
  field : Device → Req → Nat → Bool := fun _ _ _ => true
  /-- fields checked in place of the layout (a chapter that orders its refusals itself) -/
  ownChecks : Bool := false
  /-- state conditions: status and, for `BAD_PARAM`, the offset -/
  state : Device → Req → Option (Status × Nat) := fun _ _ => none
  /-- read-back of fields that are not settings of the store -/
  back : Device → Req → List (Nat × List Byte) := fun _ _ => []
  /-- the command waits for a transfer before it is finished (15_latency_and_load R633) -/
  waits : Device → Req → Bool := fun _ _ => false
  /-- what the command does and answers -/
  act : Req → Device → Resp × Device

/-- A command that only answers. -/
def reads (f : Device → Req → List Byte) : Req → Device → Resp × Device := fun r s => (⟨.ok, f s r⟩, s)

/-- A command that only changes the device. -/
def does (f : Req → Device → Device) : Req → Device → Resp × Device := fun r s => (Resp.okay, f r s)

end Sys2Proof.Machine
namespace Sys2Proof
open Sys2Proof.Machine

/-- READBACK is set. -/
def Req.readback (r : Req) : Bool := r.flags.getLsbD 0

/-- Target code of a request. -/
def Req.tgt (r : Req) : Nat := targetCode r.kind.toNat r.index.toNat

/-- Carrier of a carrier target. -/
def Req.car (r : Req) : Carrier := Carrier.ofNum r.index.toNat

/-- The command is for this device. -/
def Req.here (r : Req) (s : Device) : Bool := r.member = 0xFF || r.member.toNat = s.stack.stackId

end Sys2Proof
namespace Sys2Proof.Machine
open Sys2Proof

/-- The active Accord defines a group with a member on this device (R837). -/
def groupHere (s : Device) (g : Nat) : Bool :=
  (plan s).groups.any fun p => p.group = g && p.members.any fun m => m.stack = s.stack.stackId

/-- Target kind and index fit the opcode (R842 step 2, R837). -/
def targetOk (op : Nat) (r : Req) (s : Device) : Bool :=
  let k := r.kind.toNat
  let i := r.index.toNat
  decide (k ∈ targetKinds op) &&
    (if k = 0 then i = 0 else if k = 1 then i < 2 else if k = 2 then i < 16 && groupHere s i else false)

/-- A block's bit of `CLK_EN` is set (R718, R720). -/
def clkOn (s : Device) (b : Nat) : Bool := s.clock.clkEn.getLsbD b

/-- The firmware serves mailboxes: MGMT is out of reset and the stage is one in which doorbells are not ignored
(Table 20-6). -/
def served (s : Device) : Bool :=
  !(inReset s .por || inReset s .device || inReset s .mgmt) &&
    (match s.boot.stage with
     | .rom => false
     | .clocks => false
     | .fwLoad => false
     | .stopped => s.boot.fwRuns
     | _ => true)

/-- Whether the present stage serves an opcode (R815 check 5, Table 20-6). -/
def stageRefusal (op : Nat) (s : Device) : Option Status :=
  match s.boot.stage with
  | .ready => none
  | .stopped => if op / 256 ∈ [0x00, 0x0F, 0x10] then none else some .notPermitted
  | _ => if op / 256 = 0 ∨ op ∈ [0x0804, 0x0805, 0x0F02, 0x0F03, 0x1000, 0x1008] then none else some .busy

/-- Check 6 of R815: reserved header bytes and flags, then reserved parameter bytes, for a request of the right size.
`DIAG_ECHO` and `DIAG_SENSORS` are exempt (R856). -/
def reservedRefusal (op : Nat) (r : Req) : Option Resp :=
  match reqSize op with
  | none => none
  | some (lo, hi) =>
    if r.params.length < lo ∨ hi < r.params.length ∨ op / 256 = 0x11 then none
    else if r.rsv7 ≠ 0 ∨ r.rsv11 ≠ 0 ∨ r.flags.toNat / 2 ≠ 0 then some (Resp.refuse .badParam 0xFFFF)
    else (reservedByte op r.readback r.params).map fun i => Resp.refuse .badParam i

/-- Step 1 of R842: the parameter size (R840). -/
def sizeRefusal (op : Nat) (r : Req) : Option Resp :=
  match reqSize op with
  | none => some ⟨.badOpcode, []⟩
  | some (lo, hi) =>
    if lo ≤ r.params.length ∧ r.params.length ≤ hi then none else some ⟨.badLength, le 2 lo ++ le 2 hi⟩

/-- Step 5 of R842 for a read-back: the selectors alone (R844). `persist` of Table 12-5 is no selector. -/
def selectorRefusal (op : Nat) (c : Cmd) (r : Req) (s : Device) : Option Resp :=
  (layout op).findSome? fun row =>
    if row.kind = .par || row.kind = .bulk then
      if (op ≠ 0x0901 && (checkRow s op r.tgt r.params row).isSome) || !c.field s r row.off then
        some (Resp.refuse .badParam row.off) else none
    else none

/-- The first refusal of a request, by R815 checks 4 to 6 and 8 and the steps of R842; `boot` marks a record of the
startup script, which every stage serves. -/
def refusal (op : Nat) (c : Cmd) (r : Req) (boot : Bool) (s : Device) : Option Resp :=
  if (reqSize op).isNone then some ⟨.badOpcode, []⟩
  else match (if boot then none else stageRefusal op s) with
  | some st => some ⟨st, []⟩
  | none =>
    match reservedRefusal op r with
    | some q => some q
    | none =>
      match sizeRefusal op r with
      | some q => some q
      | none =>
        if !(targetOk op r s && c.target s r) then some (Resp.refuse .badParam 0xFFFF)
        else if r.readback && !hasSettings op then some (Resp.refuse .badParam 0xFFFF)
        else if (c.blocks s r).any fun b => !clkOn s b then some ⟨.blockOff, []⟩
        else if r.readback then selectorRefusal op c r s
        else
          let f := if c.ownChecks then none else checkFields s op r.tgt r.params (c.field s r)
          match f with
          | some (st, off) => some (Resp.refuse st off)
          | none => (c.state s r).map fun q => Resp.refuse q.1 q.2

/-- Run a command at this device: its refusal, its read-back, or what it does; a `PENDING` answer is noted (R41). -/
def runCmd (op : Nat) (c : Cmd) (r : Req) (boot : Bool) (s : Device) : Resp × Device :=
  match refusal op c r boot s with
  | some q => (q, s)
  | none =>
    if r.readback then (⟨.ok, readBack s op r.tgt r.params (c.back s r)⟩, s)
    else
      let q := c.act r s
      (q.1, if q.1.status = .pending then addPending op r q.2 else q.2)

/-! ### Bytes of requests and responses -/

/-- Write the CRC of R835 into bytes 12 to 15. -/
def withCrc (l : List Byte) : List Byte := put l 12 (le 4 (crc32c l).toNat)

/-- The bytes of a request (Table 22-1). -/
def reqBytes (op : Nat) (r : Req) : List Byte :=
  withCrc (le 2 op ++ le 2 r.seq.toNat ++ le 2 (16 + r.params.length) ++ [r.flags, r.rsv7, r.member, r.kind, r.index,
    r.rsv11] ++ zeros 4 ++ r.params)

/-- The bytes of a response (Table 22-2); `proxied` is bit 1 of its flags. -/
def respBytes (op : Nat) (r : Req) (q : Resp) (proxied : Bool) : List Byte :=
  withCrc (le 2 op ++ le 2 r.seq.toNat ++ le 2 (16 + q.params.length) ++ le 1 q.status.code ++
    le 1 (bit r.readback + 2 * bit proxied) ++ [r.member, r.kind, r.index, r.rsv11] ++ zeros 4 ++ q.params)

/-- The request that bytes spell (Table 22-1): opcode and request. -/
def parseReq (mb : Fin 5) (l : List Byte) : Nat × Req :=
  (rd l 0 2,
   { mb, seq := BitVec.ofNat 16 (rd l 2 2), flags := BitVec.ofNat 8 (rd l 6 1), rsv7 := BitVec.ofNat 8 (rd l 7 1),
     member := BitVec.ofNat 8 (rd l 8 1), kind := BitVec.ofNat 8 (rd l 9 1), index := BitVec.ofNat 8 (rd l 10 1),
     rsv11 := BitVec.ofNat 8 (rd l 11 1), params := l.drop 16 })

/-! ### Mailboxes -/

/-- A mailbox. -/
def mailbox (s : Device) (n : Nat) : Mailbox := Tab.get (fun _ => {}) s.host.mbs n

/-- Change a mailbox. -/
def modMb (n : Nat) (f : Mailbox → Mailbox) (s : Device) : Device :=
  modHost (fun h => { h with mbs := Tab.modify (fun _ => {}) h.mbs n f }) s

/-- A response is written: buffer, `LAST_SEQ`, `LAST_STATUS`, `BUSY`, `RESP_READY`, then the interrupt of a mailbox 0
to 3 (R814, Table 21-5). -/
def respond (n seq : Nat) (st : Nat) (bytes : List Byte) (s : Device) : Device :=
  let s := modMb n (fun m => { m with resp := bytes, lastSeq := seq, lastStatus := st, busy := false,
                                      respReady := true }) s
  if n < 4 then setIrq n s else s

/-- A command names a host address for DMA (R831). -/
def namesHost (op : Nat) (r : Req) : Bool :=
  (op = 0x0001 && !r.readback) || (op = 0x0101 && rd r.params 0 1 = 1)

/-- Send the request of the oldest command held for a member, unless it has been sent: MB4 takes one at a time
(R686). -/
def sendHead (m : Nat) (s : Device) : Device :=
  match (Tab.get (fun _ => []) s.stack.proxied m : List ProxyCmd) with
  | [] => s
  | p :: rest =>
    if p.sent then s
    else
      let q : ProxyCmd := { p with sent := true, seq := s.stack.nextSeq.2.2 }
      let s := modStack (fun k => { k with proxied := Tab.set (fun _ => []) k.proxied m (q :: rest) }) s
      sendMsg 0 m (reqBytes p.op p.req) s

/-- A command for another member: refused here or forwarded as a stack message, and its mailbox stays busy until the
response (R686, R815 check 7, R830, R831). -/
def forward (op : Nat) (r : Req) (s : Device) : Device :=
  let m := r.member.toNat
  let refuse (st : Status) : Device := respond r.mb.val r.seq.toNat st.code (respBytes op r ⟨st, []⟩ false) s
  let held := Tab.get (fun _ => []) s.stack.proxied m
  if 8 ≤ m || !s.stack.members.getLsbD m then refuse .stackUnreachable
  else if namesHost op r then refuse .notPermitted
  else if held.length ≥ 8 then refuse .noResource
  else
    let p : ProxyCmd := { op, req := r, left := dsetN s 0x0D00 0 4 + 1 }
    let s := modMb r.mb.val (fun b => { b with busy := true }) s
    sendHead m (modStack (fun k => { k with proxied := Tab.set (fun _ => []) k.proxied m (held ++ [p]) }) s)

/-- The target of `a` contains that of `b`: the device contains every target, and a group the carriers of this device
that are its members (21_mailbox_interface R818; 22_command_reference R837). -/
def contains (s : Device) (a b : Req) : Bool :=
  a.tgt = b.tgt || a.kind = 0 ||
    (a.kind = 2 && b.kind = 1 && (plan s).groups.any fun g => g.group = a.index.toNat &&
      g.members.any fun m => m.stack = s.stack.stackId && m.carrier = b.car)

/-- Two requests touch the same object (R818). -/
def touches (s : Device) (a b : Req) : Bool := contains s a b || contains s b a

/-- A command must wait: a transfer on its object runs, or a command that arrived earlier waits on it
(15_latency_and_load R633; R819). -/
def heldBack (s : Device) (r : Req) : Bool :=
  s.host.transfers.any (fun h => touches s h.req r) || s.host.waiting.any fun h => touches s h.req r

/-- The answer to a command of mailbox 0 to 3, or of MB4: there it returns to the member that sent the request (R686).
A `PENDING` answer of MB4 keeps its record for the `DEFERRED_DONE` (R832). -/
def answer (op : Nat) (r : Req) (q : Resp) (s : Device) : Device :=
  let bytes := respBytes op r q false
  let s := respond r.mb.val r.seq.toNat q.status.code bytes s
  if r.mb.val < 4 then s
  else
    match s.stack.mb4Pend.find? fun x => x.2.op = op && x.2.seq = r.seq.toNat with
    | none => s
    | some x =>
      let s := if q.status = .pending then s
        else modStack (fun k => { k with mb4Pend := k.mb4Pend.erase x }) s
      sendMsg 1 x.1 bytes s

/-- Run a request addressed to this device: refused or answered now, or left busy until its transfer ends
(15_latency_and_load R633). -/
def runLocal (op : Nat) (c : Cmd) (r : Req) (boot : Bool) (s : Device) : Device :=
  if (refusal op c r boot s).isNone && !r.readback && c.waits s r then
    modMb r.mb.val (fun m => { m with busy := true })
      (modHost (fun h => { h with transfers := h.transfers ++ [⟨op, r⟩] }) s)
  else
    let q := runCmd op c r boot s
    answer op r q.1 q.2

/-- A doorbell delivers a request that passes checks 1 to 4 of R815: nothing while the mailboxes are not served
(R809), `DB_IGNORED` while the mailbox is busy (R813), else the request runs and is answered (R811, R814), unless it
waits behind a transfer on its object (15_latency_and_load R633). -/
def mailboxRun (op : Nat) (c : Cmd) (r : Req) (s : Device) : Device :=
  let n := r.mb.val
  if 4 ≤ n || !served s then s
  else if (mailbox s n).busy then modMb n (fun m => { m with dbIgnored := true }) s
  else
    let s := modMb n (fun m => { m with req := memWrite m.req 0 (reqBytes op r), respReady := false }) s
    if !r.here s then forward op r s
    else if heldBack s r then
      modMb n (fun m => { m with busy := true }) (modHost (fun h => { h with waiting := h.waiting ++ [⟨op, r⟩] }) s)
    else runLocal op c r false s

end Sys2Proof.Machine
end

