-- ==== Sys2Proof/Machine/Crypto.lean ====
section
/-!
DEFINITION. Line encryption and the key and message engine (09_line_encryption): key slots and rolls, tags, the
alarms, erasure, and the commands of class 0x06.
-/
namespace Sys2Proof.Machine
open Sys2Proof

/-- `crypt_enable` of a carrier as last accepted. -/
def cryptEnable (s : Device) (c : Carrier) : Bool := accepted s (skey 0x0600 (carCode c) 0 0) = 1

/-- The part is a TLN3200-N1 (Table 21-3, R426). -/
def isN1 (s : Device) : Bool := s.host.variant = 1

/-- The two slots with the index of each. -/
def slotList (p : Two KeySlot) : List (Nat × KeySlot) := [(0, p.a), (1, p.b)]

/-- A slot of a pair. -/
def slotAt (p : Two KeySlot) (k : Nat) : KeySlot := if k = 0 then p.a else p.b

/-- A pair with one slot changed. -/
def setSlot (p : Two KeySlot) (k : Nat) (f : KeySlot → KeySlot) : Two KeySlot :=
  if k = 0 then { p with a := f p.a } else { p with b := f p.b }

/-- The slot in state `ACTIVE`, if any. -/
def activeSlot (p : Two KeySlot) : Option Nat := ((slotList p).find? fun q => q.2.state = .active).map (·.1)

/-- The line has no key for its transmit slot: the carrier sends ODU-LCK, `enc` 1 and `kidx` 0xFF (R401). -/
def txLocked (s : Device) (c : Carrier) : Bool :=
  (s.crypto.get c).txOn && (activeSlot (s.crypto.get c).tx).isNone

/-- KEY-ABSENT of a carrier (R400): no transmit key, no key in the predicted receive slot, or the far end sends
`kidx` 0xFF or `enc` 0. -/
def keyAbsentNow (s : Device) (c : Carrier) : Bool :=
  let q := s.crypto.get c
  cryptEnable s c && (q.txOn || q.rxOn) &&
    ((activeSlot q.tx).isNone ||
     (match q.rxSlot with | some k => (slotAt q.rx k).key.isNone | none => false) ||
     (match q.far with | some (enc, kidx) => enc = 0 || kidx = 0xFF | none => false))

/-- KEY-ABSENT is evaluated at every superframe boundary (R400). -/
def evalKeyAbsent (c : Carrier) (s : Device) : Device :=
  let h := keyAbsentNow s c
  modCrypto c (fun q => { q with keyAbsent := h }) s

/-- A mask generator of a line engine has used `n` more segments: after 2¹⁶ it is reseeded from the DRBG, which is
reseeded from the entropy source after every 2²⁰ requests (R411). Engines 0 to 3: A transmit and receive, B transmit
and receive. -/
def useMask (eng n : Nat) (s : Device) : Device :=
  let used := Tab.get (fun _ => 0) s.kme.maskSegs eng + n
  if used < 65536 then
    putKme { s.kme with maskSegs := Tab.set (fun _ => 0) s.kme.maskSegs eng used } s
  else
    let reqs := s.kme.drbgRequests + 1
    putKme { s.kme with
      maskSegs := Tab.set (fun _ => 0) s.kme.maskSegs eng (used - 65536)
      drbgSeeded := true
      drbgRequests := if 1048576 ≤ reqs then 0 else reqs } s

/-- A superframe under the active key of a direction has ended: its age advances, and `KEY_AGE` is raised at 2³¹
(R408). -/
def ageKey (c : Carrier) (rx : Bool) (s : Device) : Device :=
  let pair := if rx then (s.crypto.get c).rx else (s.crypto.get c).tx
  match activeSlot pair with
  | none => s
  | some k =>
    let n := (slotAt pair k).age + 1
    let p' := setSlot pair k fun q => { q with age := n }
    let s := modCrypto c (fun q => if rx then { q with rx := p' } else { q with tx := p' }) s
    if n = 2 ^ 31 then raise 0x0602 c.num 0 (fields 8 [(0, le 1 (bit rx)), (1, le 1 k), (4, le 4 n)]) s else s

/-- One transmit superframe boundary: encryption in force, the roll countdown and the switch of slot, key age and
KEY-ABSENT (R400, R405, R408, R424). -/
def cryptoTxSuperframe (c : Carrier) (s : Device) : Device :=
  let on := cryptEnable s c && native s c
  let s := if (s.crypto.get c).txOn then ageKey c false s else s
  let s := modCrypto c (fun q => { q with txOn := on }) s
  let q := s.crypto.get c
  let s :=
    match q.rollTo with
    | none => s
    | some k =>
      if q.rollIn = 0 then
        if q.rollTicks ≥ 2 ∧ q.rollAt + 2 * US ≤ s.timing.now then modCrypto c (fun q => { q with rollIn := 8 }) s else s
      else if q.rollIn > 1 then modCrypto c (fun q => { q with rollIn := q.rollIn - 1 }) s
      else
        let tx :=
          match activeSlot q.tx with
          | some o => setSlot q.tx o fun p => { p with state := .retiring }
          | none => q.tx
        let tx := setSlot tx k fun p => { p with state := .active, age := 0 }
        modCrypto c (fun q => { q with tx, rollTo := none, rollTicks := 0, rollIn := 0 }) s
  let enc := on && (activeSlot (s.crypto.get c).tx).isSome
  let s := if enc then useMask (2 * c.num) 8 s else s
  evalKeyAbsent c s

/-- The cipher field of the transmitted NSO (Table 9-2); `tags` are the tags of the previous superframe as the line
engine computed them, zero where it was not encrypted. -/
def cipherField (s : Device) (c : Carrier) (tags : List Byte) : List Byte :=
  let q := s.crypto.get c
  let kidx := match activeSlot q.tx with | some k => k | none => 0xFF
  fields 256 [(0, le 1 (bit q.txOn)), (1, le 1 (if q.txOn then kidx else 0xFF)),
    (2, le 1 (if q.rollIn = 0 then 0xFF else q.rollTo.getD 0xFF)), (3, le 1 q.rollIn),
    (16, if q.encLast then fit 128 tags else zeros 128)]

/-- After the NSO is sent: whether this superframe is encrypted decides the tags of the next (R396). -/
def cryptoNoteSent (c : Carrier) (s : Device) : Device :=
  modCrypto c (fun q => { q with encLast := q.txOn && (activeSlot q.tx).isSome }) s

/-- The predicted receive slot, when it holds a key that is only loaded, becomes active; a slot left becomes
`RETIRING` (R406, R407). -/
def useRxSlot (k : Nat) (q : CryptoSt) : CryptoSt :=
  let rx :=
    match activeSlot q.rx with
    | some o => if o = k then q.rx else setSlot q.rx o fun p => { p with state := .retiring }
    | none => q.rx
  let rx := setSlot rx k fun p => if p.state = .loaded then { p with state := .active, age := 0 } else p
  { q with rxSlot := some k, rx }

/-- The cipher field of a valid received NSO: the far end's state, an announced roll, the first prediction after an
enable or after the count fell out of step, and the mode mismatch (R402, R406). -/
def cryptoNso (c : Carrier) (x enc kidx next rollIn : Nat) (s : Device) : Device :=
  let s := modCrypto c (fun q => { q with far := some (enc, kidx) }) s
  if (s.crypto.get c).rxOn then
    let s := modCrypto c (fun q => { q with encSeen := 0 }) s
    let s := modCrypto c (fun q =>
      let q := if rollIn > 0 && next < 2 then { q with rxRoll := some (wrap 32 (x + rollIn), next) } else q
      if q.rxFromNso then
        let q := { q with rxFromNso := false, rxSlot := none }
        if kidx < 2 then useRxSlot kidx q else q
      else q) s
    faultOff 0x0609 c.num s
  else
    let n := if enc = 1 then min 8 ((s.crypto.get c).encSeen + 1) else 0
    let s := modCrypto c (fun q => { q with encSeen := n }) s
    faultCond 0x0609 c.num (n ≥ 8) [] s

/-- One segment of a received superframe reaches its check: `some true` its tag matches, `some false` it does not,
`none` the NSO that carries the tag was not valid (R398, R399). -/
def checkSegment (c : Carrier) (v : Option Bool) (s : Device) : Device :=
  let q := s.crypto.get c
  if !q.rxOn then s
  else
    let failN := csetN s c 0x0600 1
    let missing := v.isNone || q.keyAbsent || !(s.rx.get c).inStep || q.rxSlot.isNone
    let pass := !missing && v = some true
    let bad := if pass then 0 else min 255 (q.authBad + 1)
    let good := if pass then min 64 (q.authGood + 1) else 0
    modCrypto c (fun q =>
      { q with
        tagFail := if !missing && !pass then wrap 32 (q.tagFail + 1) else q.tagFail
        tagMissing := if missing then wrap 32 (q.tagMissing + 1) else q.tagMissing
        segPass := if pass then wrap 32 (q.segPass + 1) else q.segPass
        authBad := bad
        authGood := good
        authSf := if bad ≥ failN then true else if good ≥ 64 then false else q.authSf }) s

/-- One received superframe boundary with received count `x`: the announced switch of slot, key age, mask
generator, the segments checked since the last boundary, and KEY-ABSENT (R397 to R400, R406, R408). -/
def cryptoRxSuperframe (c : Carrier) (x : Nat) (segs : List (Option Bool)) (s : Device) : Device :=
  let on := cryptEnable s c && native s c
  let s := if (s.crypto.get c).rxOn then ageKey c true s else s
  let s := modCrypto c (fun q =>
    let q := if on && !q.rxOn then { q with rxFromNso := true, rxSlot := none, rxRoll := none } else q
    let q := { q with rxOn := on }
    match q.rxRoll with
    | some (y, k) => if y = x then useRxSlot k { q with rxRoll := none } else q
    | none => match q.rxSlot with | some k => useRxSlot k q | none => q) s
  let s := if !(s.rx.get c).inStep then
      modCrypto c (fun q => { q with rxFromNso := true, rxSlot := none, rxRoll := none }) s else s
  let s := if on && (activeSlot (s.crypto.get c).rx).isSome then useMask (2 * c.num + 1) 8 s else s
  let s := evalKeyAbsent c s
  each segs (fun v s => checkSegment c v s) s

/-- The control-tick boundary counts toward the start of a roll (R405). -/
def cryptoControlTick (c : Carrier) (s : Device) : Device :=
  modCrypto c (fun q => if q.rollTo.isSome then { q with rollTicks := min 2 (q.rollTicks + 1) } else q) s

/-- The sources that latch in `crypto_alarm`, as bits of `present` (R422). -/
def latchingBits : List Nat := [0, 1, 2, 6]

/-- The slow-tick boundary counts the absence of each latching condition (R422). -/
def cryptoSlowTick (s : Device) : Device :=
  putKme { s.kme with
    absentTicks := latchingBits.foldl (fun t b =>
      let n := Tab.get (fun _ => 1001) t b
      Tab.set (fun _ => 1001) t b (if s.kme.present.getLsbD b then 0 else min 1001 (n + 1))) s.kme.absentTicks } s

/-- A tamper or pin condition appears or ends: bit `b` of Table 9-5 (R422, R430). -/
def alarmCondition (b : Nat) (holds : Bool) (s : Device) : Device :=
  let s := putKme { s.kme with
    present := if holds then s.kme.present ||| (1#8 <<< b) else s.kme.present &&& ~~~(1#8 <<< b)
    absentTicks := if holds then Tab.set (fun _ => 1001) s.kme.absentTicks b 0 else s.kme.absentTicks } s
  faultCond (0x0601 + b) 0 holds [] s

/-- `ZEROIZE_N` has been low for 100 ns, or is high again (R430). -/
def zeroizeN (low : Bool) (s : Device) : Device := alarmCondition 6 low s

/-- A tamper sensor trips or returns: 0 voltage, 1 clock period, 2 temperature (R430). -/
def tamperCondition (sensor : Fin 3) (trips : Bool) (s : Device) : Device := alarmCondition sensor.val trips s

/-- An active key reaches 2³² − 2¹⁶ superframes and is erased (R408). -/
def keyIvLimit (c : Carrier) (rx : Bool) (s : Device) : Device :=
  let pair := if rx then (s.crypto.get c).rx else (s.crypto.get c).tx
  match activeSlot pair with
  | none => s
  | some k =>
    if (slotAt pair k).age < 2 ^ 32 - 2 ^ 16 then s
    else
      let p' := setSlot pair k fun _ => {}
      modCrypto c (fun q => if rx then { q with rx := p' } else { q with tx := p' }) s

/-- A retiring slot is erased after its last tag or segment, and `KEY_ROLLED` is raised (R407). -/
def keySlotErased (c : Carrier) (rx : Bool) (k : Fin 2) (s : Device) : Device :=
  let pair := if rx then (s.crypto.get c).rx else (s.crypto.get c).tx
  if (slotAt pair k.val).state ≠ .retiring then s
  else
    let p' := setSlot pair k.val fun _ => {}
    let s := modCrypto c (fun q => if rx then { q with rx := p' } else { q with tx := p' }) s
    raise 0x0601 c.num 0 (le 1 (bit rx) ++ le 1 k.val) s

/-! ### Commands -/

/-- Why an enable of encryption would be refused (R391, R426, R658). -/
def enableRefusal (s : Device) (c : Carrier) : Option Status :=
  if isN1 s || zr s c || accepted s (skey 0x0250 (carCode c) 0 0) = 2 then some .notPermitted else none

/-- The settings of a `CRYPTO_CONFIG` are accepted; 1 → 0 erases the carrier's slots (R424, R427). -/
def cryptoApply (r : Req) (s : Device) : Device :=
  let c := r.car
  let was := cryptEnable s c
  let s := acceptFields 0x0600 r.tgt r.params s
  if was && rd r.params 0 1 = 0 then
    modCrypto c (fun q => { eraseSlots q with erasing := true, rxOn := false, rxSlot := none }) s
  else s

/-- An enable that arrives while the carrier's keys are being erased (R40, R424). -/
def enableDuringErase (s : Device) (r : Req) : Bool :=
  rd r.params 0 1 = 1 && (s.crypto.get r.car).erasing

/-- `CRYPTO_CONFIG` (R424, R427). -/
def cryptoConfigCmd : Cmd where
  blocks _ r := if rd r.params 0 1 = 1 && !r.readback then [11 + r.car.num] else []
  state s r :=
    let q := s.crypto.get r.car
    if (rd r.params 2 2 : Int) ≠ accepted s (skey 0x0600 r.tgt 0 2) &&
        (q.tx.a.state ≠ .empty || q.tx.b.state ≠ .empty) then some (.notPermitted, 0)
    else if enableDuringErase s r then (if q.heldEnable.isSome then some (.busy, 0) else none)
    else if rd r.params 0 1 = 1 then (enableRefusal s r.car).map fun st => (st, 0)
    else none
  act r s :=
    if enableDuringErase s r then
      (⟨.pending, []⟩, modCrypto r.car (fun q => { q with heldEnable := some ⟨0x0600, r⟩ }) s)
    else
      let held := (s.crypto.get r.car).heldEnable
      let s := modCrypto r.car (fun q => { q with heldEnable := none }) s
      let s := match held with | some h => heldDone h .notPermitted s | none => s
      (Resp.okay, cryptoApply r s)

/-- The erasure after a disable completes, and a held enable is carried out (R41, R424). -/
def cryptoEraseComplete (c : Carrier) (s : Device) : Device :=
  let q := s.crypto.get c
  if !q.erasing then s
  else
    let s := modCrypto c (fun q => { q with erasing := false, heldEnable := none }) s
    match q.heldEnable with
    | none => s
    | some h =>
      let p : PendRec := ⟨h.req.mb.val, h.op, h.req.seq.toNat⟩
      -- a command cancelled by a MGMT reset is not carried out (R896)
      if p ∉ s.host.pendCmds then s
      else
        match refusal 0x0600 cryptoConfigCmd h.req true s with
        | some q => heldDone h q.status s
        | none => heldDone h .ok (cryptoApply h.req s)

/-- An erasure that delays a key load is in progress: of the carrier's slots, or of all keys (R404). -/
def eraseBusy (s : Device) (r : Req) : Bool :=
  inReset s .crypto || (r.kind = 1 && (s.crypto.get r.car).erasing)

/-- `CRYPTO_KEY_LOAD` (R404, R422, R426, R428, R855). -/
def cryptoKeyLoadCmd : Cmd where
  target _ r := (r.kind = 1 && rd r.params 0 1 ≠ 1) || (r.kind = 0 && rd r.params 0 1 ≠ 0)
  blocks _ r := if r.kind = 1 then [11 + r.car.num] else []
  field _ r off :=
    let line := rd r.params 0 1 = 0
    if off = 1 then (if line then rd r.params 1 1 < 2 else rd r.params 1 1 = 0)
    else if off = 2 then (if line then rd r.params 2 1 < 2 else rd r.params 2 1 < 6)
    else if off = 4 then line || rd r.params 4 4 = 0
    else true
  state s r :=
    let line := rd r.params 0 1 = 0
    let q := s.crypto.get r.car
    let k := rd r.params 2 1
    let slot := slotAt (if rd r.params 1 1 = 1 then q.rx else q.tx) k
    let named := rd r.params 1 1 = 0 && q.rollTo.isSome && (q.rollTo = some k || slot.state = .active)
    if line && isN1 s then some (.notPermitted, 0)
    else if s.kme.alarm || s.boot.otp.kek.isNone then some (.denied, 0)
    else if eraseBusy s r then some (.busy, 0)
    else if line && (slot.state = .active || slot.state = .retiring || named) then some (.notPermitted, 0)
    else none
  act r s :=
    match kwUnwrap (be 32 (s.boot.otp.kek.getD 0).toNat) (slice r.params 8 40) with
    | none => (⟨.denied, []⟩, s)
    | some key =>
      let kv : BitVec 256 := BitVec.ofNat 256 (fromBe key)
      let k := rd r.params 2 1
      if rd r.params 0 1 = 0 then
        let sl : KeySlot := { state := .loaded, key := some kv, salt := rd r.params 4 4, age := 0 }
        (Resp.okay, modCrypto r.car (fun q =>
          if rd r.params 1 1 = 1 then { q with rx := setSlot q.rx k fun _ => sl }
          else { q with tx := setSlot q.tx k fun _ => sl }) s)
      else
        (Resp.okay, putKme { s.kme with
          ctxs := Tab.set (fun _ => {}) s.kme.ctxs k { key := some kv, sendCount := 1, lastAccepted := [] } } s)

/-- The slot that a roll goes into: the other slot; with no active slot, the loaded one, slot 0 when both are
(R405, log 17). -/
def rollTarget (q : CryptoSt) : Nat :=
  match activeSlot q.tx with
  | some o => 1 - o
  | none => if q.tx.a.state = .loaded then 0 else 1

/-- `CRYPTO_ROLL` (R405, R426). -/
def cryptoRollCmd : Cmd where
  blocks _ r := [11 + r.car.num]
  state s r :=
    let q := s.crypto.get r.car
    if isN1 s then some (.notPermitted, 0)
    else if q.rollTo.isSome then some (.busy, 0)
    else if (slotAt q.tx (rollTarget q)).state ≠ .loaded then some (.notPermitted, 0)
    else none
  act := does fun r s => modCrypto r.car (fun q =>
    { q with rollTo := some (rollTarget q), rollTicks := 0, rollIn := 0, rollAt := s.timing.now }) s

/-- Code of a slot state (R429). -/
def keyCode : KeyState → Nat
  | .empty => 0
  | .loaded => 1
  | .active => 2
  | .retiring => 3

/-- `CRYPTO_STATUS` (R429). -/
def cryptoStatusCmd : Cmd where
  blocks _ r := [11 + r.car.num]
  act := reads fun s r =>
    let q := s.crypto.get r.car
    let age := match activeSlot q.tx with | some k => (slotAt q.tx k).age | none => 0
    fields 32 [(0, le 1 (bit (!isN1 s))), (1, le 1 (bit s.kme.alarm)),
      (2, le 1 (keyCode q.tx.a.state + 4 * keyCode q.tx.b.state)),
      (3, le 1 (keyCode q.rx.a.state + 4 * keyCode q.rx.b.state)), (4, le 1 q.rollIn),
      (8, le 4 q.tagFail), (12, le 4 q.tagMissing), (16, le 4 q.segPass), (20, le 4 (sat 32 age)),
      (24, le 4 q.kmeAuthFail), (28, le 4 q.kmeReplay)]

/-- `CRYPTO_ZEROIZE`: the alarm source `CRYPTO_ZEROIZE_CMD` erases all keys (R420, R430). -/
def cryptoZeroizeCmd : Cmd where
  act := does fun _ s => fault 0x0608 0 [] s

/-- `CRYPTO_ALARM_CLEAR` (R422). -/
def cryptoAlarmClearCmd : Cmd where
  state s _ :=
    if s.kme.alarm && latchingBits.any (fun b =>
        s.kme.present.getLsbD b || Tab.get (fun _ => 1001) s.kme.absentTicks b < 1001) then some (.notPermitted, 0)
    else none
  act := does fun _ s => putKme { s.kme with alarm := false } s

/-! ### Authentication of messages (R414 to R418) -/

/-- The key of a context is held. -/
def ctxKeyed (s : Device) (ctx : Nat) : Bool := (Tab.get (fun _ => ({} : KmeCtx)) s.kme.ctxs ctx).key.isSome

/-- Take the next counter of a context for a message sent (R414). -/
def nextCounter (ctx : Nat) (s : Device) : Nat × Device :=
  let k : KmeCtx := Tab.get (fun _ => {}) s.kme.ctxs ctx
  (k.sendCount, putKme { s.kme with
    ctxs := Tab.set (fun _ => {}) s.kme.ctxs ctx { k with sendCount := wrap 64 (k.sendCount + 1) } } s)

/-- The verdict on an authenticated message: `tagOk` as the engine found it, its counter and its sender. Accepted:
its counter is noted. Rejected: the failure is counted on the carrier (R414, R415). `sameId` says that the carried
`carrier_id` equals the receiver's own. -/
def authMessage (c : Carrier) (ctx sender counter : Nat) (tagOk sameId : Bool) (s : Device) : Bool × Device :=
  let k : KmeCtx := Tab.get (fun _ => {}) s.kme.ctxs ctx
  if k.key.isNone then (false, s)
  else if sameId || !tagOk then
    (false, modCrypto c (fun q => { q with kmeAuthFail := wrap 32 (q.kmeAuthFail + 1) }) s)
  else if counter ≤ Tab.get (fun _ => 0) k.lastAccepted sender then
    (false, modCrypto c (fun q => { q with kmeReplay := wrap 32 (q.kmeReplay + 1) }) s)
  else
    (true, putKme { s.kme with
      ctxs := Tab.set (fun _ => {}) s.kme.ctxs ctx
        { k with lastAccepted := Tab.set (fun _ => 0) k.lastAccepted sender counter } } s)

end Sys2Proof.Machine
end

