-- ==== Sys2Proof/Machine/Ostc.lean ====
section
/-!
DEFINITION. The optical supervisory and timing channel (10_supervisory_timing_channel): bursts sent and received, the
messages of the NSO management field, and the commands of class 0x07.
-/
namespace Sys2Proof.Machine
open Sys2Proof

/-- `carrier_id` of a carrier (R427). -/
def carrierId (s : Device) (c : Carrier) : Nat := csetN s c 0x0600 2

/-- LOS-P is raw on a carrier (Table 7-4 rank 1). -/
def losP (s : Device) (c : Carrier) : Bool := (s.line.get c).line.raw.getLsbD 0

/-- KME context of a message: `TTX_A`, `TTX_B` on either path; `OSTC_A`, `OSTC_B` over the OSTC; `MGMT` in the NSO
(R444, Table 9-3). -/
def msgCtx (c : Carrier) (nso : Bool) (type : Nat) : Nat :=
  if type = 1 then c.num else if nso then 5 else 2 + c.num

/-- Bytes of the tag of a message (R444). -/
def tagLen (m : Msg) : Nat := if !m.tagged then 0 else if m.type = 0 then 16 else 8

/-- The 16-byte header of a message, most significant byte first (Table 10-2). -/
def msgHeader (m : Msg) : List Byte :=
  le 1 m.type ++ le 1 (bit m.tagged) ++ be 2 m.payload.length ++ be 8 m.counter ++ le 1 m.sender ++ le 1 m.dest ++
    be 2 m.srcId

/-- The message that bytes spell, without its tag. -/
def parseMsg (l : List Byte) : Msg :=
  { type := rd l 0 1, tagged := rd l 1 1 % 2 = 1, counter := fromBe (slice l 4 8), sender := rd l 12 1,
    dest := rd l 13 1, srcId := fromBe (slice l 14 2), payload := slice l 16 (fromBe (slice l 2 2)) }

/-- Codewords of a burst: header, payload, tag and CRC in blocks of 64 bytes (R436). -/
def burstCodewords (m : Msg) : Nat := (16 + m.payload.length + tagLen m + 4 + 63) / 64

/-- Symbols of a burst (Table 10-1). -/
def burstSymbols (m : Msg) : Nat := 96 + 1024 * burstCodewords m

/-- The condition of R448 for the NSO path: native mode, receiver and far end staged or in service. -/
def nsoPath (s : Device) (c : Carrier) : Bool :=
  let q := s.rx.get c
  native s c && (q.state = .staged || q.state = .inService) && (q.farRec.rxState = 7 || q.farRec.rxState = 8)

/-- Both queues of a carrier hold 16 messages together (R438; a queued message keeps its path, R448). -/
def txqFull (s : Device) (c : Carrier) : Bool :=
  16 ≤ (s.ostc.get c).txq.length + (s.ostc.get c).nsoq.length

/-- Queue a message on a path; the queue has room. -/
def queueOn (c : Carrier) (nso : Bool) (m : Msg) (s : Device) : Device :=
  modOstc c (fun q => if nso then { q with nsoq := q.nsoq ++ [m] } else { q with txq := q.txq ++ [m] }) s

/-- The context of a message holds a key, or no authentication is used (R418, R445). -/
def mayTag (s : Device) (c : Carrier) (nso : Bool) (type : Nat) : Bool :=
  cset s c 0x0700 8 = 0 || ctxKeyed s (msgCtx c nso type)

/-- The next message of a queue that may be sent: `TTX`, then `APS`, then `MGMT`, each in arrival order (R438,
R418). -/
def pick (s : Device) (c : Carrier) (nso : Bool) (q : List Msg) : Option Msg :=
  [1, 2, 0].findSome? fun k => q.find? fun m => m.type = k && mayTag s c nso m.type

/-- A message made ready to send: the sender's fields, and with `ostc_auth` its counter (R414, R443, R445). -/
def stampMsg (c : Carrier) (nso : Bool) (m : Msg) (s : Device) : Msg × Device :=
  let m := { m with sender := c.num, srcId := carrierId s c }
  if cset s c 0x0700 8 = 0 then ({ m with tagged := false, counter := 0 }, s)
  else
    let q := nextCounter (msgCtx c nso m.type) s
    ({ m with tagged := true, counter := q.1 }, q.2)

/-! ### Bursts sent -/

/-- OSTC_BURST_START: a message that may be sent, `ostc_tx`, `TX_ON` and the gap of R437 let a burst start (R433,
R437 to R439), and not while PLL-R coasts (R710). The message stays queued until the burst has been sent whole (R440). -/
def ostcBurstStart (c : Carrier) (s : Device) : Device :=
  let q := s.ostc.get c
  match (if q.kept then q.txq.head? else pick s c false q.txq) with
  | none => s
  | some m =>
    if q.burst.isSome || q.gap ≠ 0 || cset s c 0x0700 0 = 0 || (s.tx.get c).state ≠ .on || s.clock.pll = .coasting then s
    else
      let p := stampMsg c false m s
      let b : Burst := { msg := p.1, total := burstSymbols p.1, tone := csetN s c 0x0700 4, depth := csetN s c 0x0700 2 }
      modOstc c (fun q => { q with burst := some b, txq := p.1 :: q.txq.erase m, kept := false }) p.2

/-- OSTC_BURST_END: the ramp-down is complete. A burst sent whole leaves the queue; a truncated one keeps its message
(R437, R440, R461). -/
def ostcBurstEnd (c : Carrier) (s : Device) : Device :=
  match (s.ostc.get c).burst with
  | none => s
  | some b =>
    if b.sent < b.total then s
    else modOstc c (fun q =>
      if b.truncated then { q with burst := none, gap := 32, kept := true }
      else { q with burst := none, gap := 32, txq := q.txq.erase b.msg, txBursts := wrap 32 (q.txBursts + 1) }) s

/-- OSTC_BURST_TRUNCATED: `ostc_tx` is 0 or the transmitter is not in `TX_ON`, so the envelope ramps down over 8
symbols (R440); the message kept is sent next (R441). -/
def ostcBurstTruncated (c : Carrier) (s : Device) : Device :=
  match (s.ostc.get c).burst with
  | none => s
  | some b =>
    if b.truncated || b.total ≤ b.sent + 8 || (cset s c 0x0700 0 = 1 && (s.tx.get c).state = .on) then s
    else modOstc c (fun q => { q with burst := some { b with truncated := true, total := b.sent + 8 },
                                      txTrunc := wrap 32 (q.txTrunc + 1) }) s

/-- Bit `k` of a word of `n` bits, most significant first. -/
def msbBit (n w k : Nat) : Bool := tb w (n - 1 - k % n)

/-- Bit of symbol `k` of a burst; the coded data are free: the code's matrix and the tag are not in the spec's text
(Table 10-1, R436). -/
def symbolBit (b : Burst) (k : Nat) (s : Device) : Bool × Device :=
  if k < 8 then (false, s)
  else if k < 72 then (msbBit 16 0x3A5C (k - 8), s)
  else if k < 88 then (msbBit 16 0xB30F (k - 72), s)
  else if b.truncated || b.total ≤ k + 8 then (false, s)
  else
    let p := drawNat s
    (tb p.1 0, p.2)

/-- OSTC_SYMBOL_SEND: one symbol of the burst in progress starts on the control-tick boundary; the boundary before the
first symbol of coded data is the burst mark (R432, R457). Without a burst the gap runs (R437). -/
def ostcSymbol (c : Carrier) (s : Device) : Device :=
  match (s.ostc.get c).burst with
  | none => modOstc c (fun q => { q with gap := q.gap - 1 }) s
  | some b =>
    if b.total ≤ b.sent then s
    else
      let p := symbolBit b b.sent s
      let mark := if b.sent = 88 && !b.truncated then some s.timing.now else b.mark
      emit (.symbol c p.1) (modOstc c (fun q => { q with burst := some { b with sent := b.sent + 1, mark } }) p.2)

/-! ### Messages received -/

/-- Send a relay of a received message on every port in `SB_UP` (R688, R675). -/
def sendRelay (c : Carrier) (m : Msg) (s : Device) : Device :=
  let n := s.stack.nextSeq.2.1
  let item : RelayItem := { origin := s.stack.stackId, hops := 0, seq := n, dest := m.dest, carrier := c.num, msg := m }
  let s := modStack (fun k => { k with nextSeq := (k.nextSeq.1, wrap 16 (n + 1), k.nextSeq.2.2),
                                       seen := ([1, s.stack.stackId, n] :: k.seen).take 4096 }) s
  each (upPorts s none) (fun p s => modPort p (fun q => { q with relays := q.relays ++ [(item, 0)] }) s) s

/-- Put a `MGMT` message into the receive queue of a carrier (R456). -/
def queueRx (c : Carrier) (x : RxMsg) (s : Device) : Device :=
  modOstc c (fun q =>
    if q.rxq.length < 16 then { q with rxq := q.rxq ++ [x], queuedTick := q.queuedTick + 1 }
    else { q with rxqDrop := wrap 32 (q.rxqDrop + 1) }) s

/-- A whole message on a path: the rule on untagged messages, the check of its tag and counter, and its delivery
(R415, R445, R456, R688). A `TTX` message is checked and used by TTX_RECORD_RECEIVED, an accepted `APS` message by
APS_RECEIVED. -/
def deliverMsg (c : Carrier) (nso : Bool) (m : Msg) (tagOk : Bool) (snr : Nat) (mark : Time) (s : Device) : Device :=
  let s := modOstc c (fun q => { q with rxOk := wrap 32 (q.rxOk + 1) }) s
  if !m.tagged && cset s c 0x0700 8 = 1 then modOstc c (fun q => { q with authDrop := wrap 32 (q.authDrop + 1) }) s
  else if m.type = 1 then s
  else
    let p := if m.tagged then authMessage c (msgCtx c nso m.type) m.sender m.counter tagOk (m.srcId = carrierId s c) s
      else (true, s)
    if !p.1 || m.type ≠ 0 then p.2
    else if m.dest = 0xFF || m.dest = s.stack.stackId then
      queueRx c { msg := { m with dest := 0xFF }, path := bit nso, toneSnr := if nso then 0 else snr,
                  mark := if nso then 0 else mark } p.2
    else sendRelay c m p.2

/-! ### Receive states (Table 10-4) -/

/-- The loopback `DSP_NE` is in force on a carrier (Table 16-5). -/
def dspNe (s : Device) (c : Carrier) : Bool := cset s c 0x0250 0 = 1

/-- OSTC reception runs on a carrier (R449); in `DSP_NE` it receives nothing (R657). -/
def ostcRuns (s : Device) (c : Carrier) : Bool :=
  cset s c 0x0700 1 = 1 && (s.conv.get c).loopRunning && !losP s c && !dspNe s c

/-- Enter `OSTC_SEARCH`: the receive tone is taken (Table 10-5). -/
def enterSearch (c : Carrier) (s : Device) : Device :=
  let tone := csetN s c 0x0700 6
  modOstc c (fun q => { q with rx := .search, rxTone := tone, mark := none }) s

/-- OSTC_TRIGGER: tone-band energy `trig_thr` above the floor for 8 symbols (R451). -/
def ostcTrigger (c : Carrier) (s : Device) : Device :=
  if ostcRuns s c && (s.ostc.get c).rx = .search then
    modOstc c (fun q => { q with rx := .triggered, triggers := wrap 32 (q.triggers + 1) }) s
  else s

/-- OSTC_QUALIFY: the preamble correlates; level Q and the tone SNR are measured (R451, R461). -/
def ostcQualify (c : Carrier) (levelQ : Int) (snr : Nat) (s : Device) : Device :=
  if ostcRuns s c && (s.ostc.get c).rx = .triggered then
    modOstc c (fun q => { q with rx := .qualified, levelQ, toneSnr := min snr 6000 }) s
  else s

/-- OSTC_QUAL_TIMEOUT: no qualification within 48 symbols, or no sync word within 80 (R451). -/
def ostcQualTimeout (c : Carrier) (s : Device) : Device :=
  match (s.ostc.get c).rx with
  | .triggered => enterSearch c (modOstc c (fun q => { q with qualFail := wrap 32 (q.qualFail + 1) }) s)
  | .qualified => enterSearch c (modOstc c (fun q => { q with syncMiss := wrap 32 (q.syncMiss + 1) }) s)
  | _ => s

/-- OSTC_FALSE_START: energy 6 dB above Q for 8 symbols aborts the reception (R452). -/
def ostcFalseStart (c : Carrier) (s : Device) : Device :=
  if ostcRuns s c && ((s.ostc.get c).rx = .qualified || (s.ostc.get c).rx = .receiving) then
    modOstc c (fun q => { q with rx := .triggered, mark := none, falseStart := wrap 32 (q.falseStart + 1) }) s
  else s

/-- OSTC_SYNC_FOUND: the sync word is found and the burst mark estimated (R451, R457). -/
def ostcSyncFound (c : Carrier) (mark : Time) (s : Device) : Device :=
  if ostcRuns s c && (s.ostc.get c).rx = .qualified then
    modOstc c (fun q => { q with rx := .receiving, mark := some mark }) s
  else s

/-- OSTC_BURST_RECEIVED: the reception ends; its message is delivered or discarded (R451, R455). -/
def ostcBurstReceived (c : Carrier) (res : BurstResult) (s : Device) : Device :=
  let q := s.ostc.get c
  if !ostcRuns s c || q.rx ≠ .receiving then s
  else
    let s := enterSearch c s
    match res with
    | .ldpcFail => modOstc c (fun q => { q with ldpcFail := wrap 32 (q.ldpcFail + 1) }) s
    | .crcFail => modOstc c (fun q => { q with crcFail := wrap 32 (q.crcFail + 1) }) s
    | .ok m tagOk => deliverMsg c false m tagOk q.toneSnr (q.mark.getD 0) s

/-! ### Fragments in the NSO (R446, R447) -/

/-- The slot of a carrier. -/
def setFrag (p : Two FragSt) (k : Nat) (f : FragSt) : Two FragSt := if k = 0 then { p with a := f } else { p with b := f }

/-- A free slot takes the next message: slot 0 an `APS` message whenever one is queued, otherwise the next message of
another type; slot 1 never an `APS` message (R447). -/
def loadFrag (c : Carrier) (k : Nat) (s : Device) : Device :=
  let q := s.ostc.get c
  let f := if k = 0 then q.fragTx.a else q.fragTx.b
  if f.busy then s
  else
    let aps := q.nsoq.find? fun m => m.type = 2 && mayTag s c true 2
    let other := q.nsoq.find? fun m => m.type ≠ 2 && mayTag s c true m.type
    let m := if k = 0 && aps.isSome then aps else other
    match m with
    | none => s
    | some m =>
      let p := stampMsg c true m s
      let t := drawBytes (tagLen p.1) p.2
      modOstc c (fun q =>
        { q with nsoq := q.nsoq.erase m,
                 fragTx := setFrag q.fragTx k { bytes := msgHeader p.1 ++ p.1.payload ++ t.1, next := 0, busy := true } })
        t.2

/-- The 32 bytes of a slot, and the slot one fragment on (Table 10-3). -/
def fragOut (f : FragSt) : List Byte × FragSt :=
  if !f.busy then (zeros 32, f)
  else
    let d := f.bytes.take 30
    let rest := f.bytes.drop 30
    let b := f.next % 64 + (if f.next = 0 then 128 else 0) + (if rest.isEmpty then 64 else 0)
    (fit 32 (le 1 b ++ le 1 d.length ++ d), if rest.isEmpty then {} else { f with bytes := rest, next := f.next + 1 })

/-- The management field of a transmitted NSO (R446). -/
def mgmtField (c : Carrier) (s : Device) : List Byte × Device :=
  let s := loadFrag c 1 (loadFrag c 0 s)
  let q := s.ostc.get c
  let a := fragOut q.fragTx.a
  let b := fragOut q.fragTx.b
  (a.1 ++ b.1, modOstc c (fun q => { q with fragTx := ⟨a.2, b.2⟩ }) s)

/-- A partly received message is discarded and counted (R447). -/
def fragLost (c : Carrier) (k : Nat) (s : Device) : Device :=
  let q := s.ostc.get c
  if (if k = 0 then q.fragRx.a else q.fragRx.b).busy then
    modOstc c (fun q => { q with fragRx := setFrag q.fragRx k {}, fragLoss := wrap 32 (q.fragLoss + 1) }) s
  else s

/-- An invalid NSO: every message partly received in a slot is discarded (R447). -/
def fragInvalid (c : Carrier) (s : Device) : Device := fragLost c 1 (fragLost c 0 s)

/-- One received fragment slot: it begins, continues or ends a message (R447). -/
def fragIn (c : Carrier) (k : Nat) (b : List Byte) (tagOk : Bool) (s : Device) : Device :=
  let h := rd b 0 1
  let n := min 30 (rd b 1 1)
  let q := s.ostc.get c
  let f := if k = 0 then q.fragRx.a else q.fragRx.b
  if n = 0 then fragLost c k s
  else
    let first := tb h 7
    let s := if first || (f.busy && h % 64 ≠ f.next % 64) then fragLost c k s else s
    if !first && (!f.busy || h % 64 ≠ f.next % 64) then s
    else
      let bytes := (if first then [] else f.bytes) ++ slice b 2 n
      if tb h 6 then
        deliverMsg c true (parseMsg bytes) tagOk 0 0 (modOstc c (fun q => { q with fragRx := setFrag q.fragRx k {} }) s)
      else modOstc c (fun q => { q with fragRx := setFrag q.fragRx k { bytes, next := h % 64 + 1, busy := true } }) s

/-! ### Ticks -/

/-- Control-tick work of the OSTC receiver: reception that no longer runs holds `OSTC_SEARCH`, the noise floor follows
the energy measured, and a clear takes force (R449, R450, R461). -/
def ostcControlTick (c : Carrier) (floor : Option Int) (s : Device) : Device :=
  let s := if !ostcRuns s c then enterSearch c s else s
  let s := modOstc c (fun q =>
    { q with floor := if q.rx = .search then floor.getD q.floor else q.floor }) s
  let s := ostcSymbol c s
  if (s.ostc.get c).clearWaits then
    modOstc c (fun q =>
      { q with triggers := 0, qualFail := 0, falseStart := 0, syncMiss := 0, rxOk := 0, ldpcFail := 0, crcFail := 0,
               authDrop := 0, rxqDrop := 0, fragLoss := 0, txBursts := 0, txTrunc := 0, clearWaits := false }) s
  else s

/-- The end of a slow tick in which messages were queued raises one `OSTC_RX` (R456). -/
def ostcSlowTick (c : Carrier) (s : Device) : Device :=
  let n := (s.ostc.get c).queuedTick
  if n = 0 then s
  else raise 0x0701 c.num 0 (le 2 n) (modOstc c (fun q => { q with queuedTick := 0 }) s)

/-! ### Commands -/

/-- OSTC_CONFIG (R458). -/
def ostcConfigCmd : Cmd where
  blocks _ r := [6 + r.car.num]
  act := does fun r s => acceptFields 0x0700 r.tgt r.params s

/-- The message of an OSTC_SEND goes over the OSTC (R448, R459). -/
def sendsOstc (s : Device) (r : Req) : Bool := rd r.params 0 1 = 1 || !nsoPath s r.car

/-- OSTC_SEND (R459). -/
def ostcSendCmd : Cmd where
  blocks s r := if sendsOstc s r then [6 + r.car.num] else []
  field _ r off :=
    if off = 1 then rd r.params 1 1 < 8 || rd r.params 1 1 = 0xFF
    else if off = 2 then rd r.params 2 2 = r.params.length - 4
    else true
  state s r :=
    let c := r.car
    let ostc := sendsOstc s r
    if ostc && cset s c 0x0700 0 = 0 then some (.notPermitted, 0)
    else if !mayTag s c (!ostc) 0 then some (.notPermitted, 0)
    else if txqFull s c then some (.noResource, 0)
    else none
  act := does fun r s =>
    queueOn r.car (!sendsOstc s r) { type := 0, dest := rd r.params 1 1, payload := r.params.drop 4 } s

/-- OSTC_RECV (R460). -/
def ostcRecvCmd : Cmd where
  act r s :=
    match (s.ostc.get r.car).rxq with
    | [] => (⟨.ok, zeros 32⟩, s)
    | x :: rest =>
      (⟨.ok, le 1 1 ++ le 1 x.path ++ le 2 x.toneSnr ++ msgHeader x.msg ++ timeBytes x.mark ++ x.msg.payload⟩,
       modOstc r.car (fun q => { q with rxq := rest }) s)

/-- The code of a receive state (Table 10-6). -/
def OstcRx.code : OstcRx → Nat
  | .search => 0
  | .triggered => 1
  | .qualified => 2
  | .receiving => 3

/-- OSTC_STATUS (R461). -/
def ostcStatusCmd : Cmd where
  blocks _ r := [6 + r.car.num]
  act := reads fun s r =>
    let q := s.ostc.get r.car
    le 1 q.rx.code ++ le 1 (bit q.burst.isSome) ++ le 1 (q.txq.length + q.nsoq.length) ++ le 1 q.rxq.length ++
      leInt 2 q.floor ++ le 2 q.toneSnr ++ le 4 q.triggers ++ le 4 q.qualFail ++ le 4 q.falseStart ++ le 4 q.syncMiss ++
      le 4 q.rxOk ++ le 4 q.ldpcFail ++ le 4 q.crcFail ++ le 4 q.authDrop ++ le 4 q.rxqDrop ++ le 4 q.fragLoss ++
      le 4 q.txBursts ++ le 4 q.txTrunc

/-- OSTC_CLEAR (R461). -/
def ostcClearCmd : Cmd where
  blocks _ r := [6 + r.car.num]
  act := does fun r s => modOstc r.car (fun q => { q with clearWaits := true }) s

end Sys2Proof.Machine
end

