-- ==== Sys2Proof/Machine/Timing.lean ====
section
/-!
DEFINITION. Reference selection, holdover and clean-up (11_reference_selection_and_holdover): candidates, selection,
the DPLL, Sillage, the timing outputs and the commands of class 0x08.
-/
namespace Sys2Proof.Machine
open Sys2Proof

/-! ### Candidates -/

/-- A candidate. -/
def cand (s : Device) (i : Nat) : CandSt := Tab.get (fun _ => {}) s.timing.cands i

/-- Change a candidate. -/
def modCand (i : Nat) (f : CandSt → CandSt) (s : Device) : Device :=
  modTiming (fun t => { t with cands := Tab.modify (fun _ => {}) t.cands i f }) s

/-- A setting of `TIMING_REF_CONFIG` in force. -/
def refSet (s : Device) (i off : Nat) : Int := dset s 0x0800 i off
/-- A setting of `TIMING_SEL_CONFIG` in force. -/
def selSet (s : Device) (off : Nat) : Nat := dsetN s 0x0801 0 off
/-- A setting of `TIMING_DPLL_CONFIG` in force. -/
def dpllSet (s : Device) (off : Nat) : Nat := dsetN s 0x0802 0 off

/-- Kind of a candidate: 0 `FREQ`, 1 `PPS`, 2 `TIME` (Table 11-1). -/
def candKind (s : Device) (i : Nat) : Nat :=
  if i < 4 then (refSet s i 3).toNat else if i < 10 then 0 else 2

/-- Code of a candidate state (R509). -/
def CandState.code : CandState → Nat
  | .disabled => 0
  | .looped => 1
  | .failed => 2
  | .qualifying => 3
  | .waitRestore => 4
  | .available => 5
  | .excluded => 6

/-- Quality level in use of a candidate (R472). -/
def qlUse (s : Device) (i : Nat) : Nat :=
  let v := (refSet s i 2).toNat
  if v = 255 then
    let q := cand s i
    match q.qlAt with
    | some t => if s.timing.now < t + 5 * SEC then q.qlRx else 14
    | none => 14
  else v

/-- Output level `ql_out` (R473). -/
def qlOut (s : Device) : Nat :=
  match s.timing.dpll with
  | .acquiring => match s.timing.selected with | some i => qlUse s i | none => s.timing.lastQl
  | .locked => match s.timing.selected with | some i => qlUse s i | none => s.timing.lastQl
  | .holdover => s.timing.lastQl
  | .freeRun => selSet s 6
  | .lost => selSet s 6

/-- Level sent on a carrier: `QL_DNU` where its `LINE` candidate is selected (R473). -/
def qlLine (s : Device) (c : Carrier) : Nat := if s.timing.selected = some (4 + c.num) then 15 else qlOut s

/-- A quality level arrives for a candidate (R472). -/
def qlArrives (i ql : Nat) (s : Device) : Device :=
  modCand i (fun q => { q with qlRx := ql, qlAt := some s.timing.now }) s

/-- The carrier's receiver is high enough for its `LINE` candidate (Table 11-2). -/
def lineOk (s : Device) (c : Carrier) : Bool :=
  if native s c then 6 ≤ (s.rx.get c).state.code else 5 ≤ (s.rx.get c).state.code

/-- The frequency offset of a candidate lies within `freq_limit` (Table 11-2). -/
def freqOk (s : Device) (i : Nat) (m : CandMeas) : Bool := (m.freqOff.natAbs : Int) ≤ refSet s i 10 * 100000

/-- The phase of a candidate lies within `jump_limit` of its prediction (Table 11-2). -/
def jumpOk (s : Device) (i : Nat) (m : CandMeas) : Bool := (m.dev : Int) ≤ refSet s i 12 * (NS : Int)

/-- No condition of Table 11-2 holds for a candidate (R467); `DSP_NE` makes the carrier's candidates invalid (R657). -/
def candValid (s : Device) (i : Nat) (m : CandMeas) : Bool :=
  if i < 4 then m.active && (if candKind s i = 0 then freqOk s i m else jumpOk s i m)
  else if i < 6 then lineOk s (Carrier.ofNum (i - 4)) && freqOk s i m && !dspNe s (Carrier.ofNum (i - 4))
  else if i < 10 then (lane s (refSet s i 8).toNat).state = .locked && freqOk s i m
  else if i = 10 then
    s.stack.valid && s.stack.acting ≠ .standalone && s.stack.acting ≠ .actingMaster && jumpOk s i m
  else
    let x := s.ttx.get (Carrier.ofNum (i - 11))
    x.valid && !dspNe s (Carrier.ofNum (i - 11)) && (match x.lastAt with | some t => s.timing.now < t + 5 * SEC | none => false) && jumpOk s i m

/-- A `LINE` candidate of a carrier timed by `SYNC_MASTER` (R468). -/
def looped (s : Device) (i : Nat) : Bool :=
  (i = 4 || i = 5) && inForce s (skey 0x0230 (1 + (i - 4)) 0 1) = 1

/-- A change of a candidate's state with its timer and its event; cause as in Table 22-12 (R469, R470). -/
def setCand (i : Nat) (st : CandState) (cause : Nat) (s : Device) : Device :=
  let q := cand s i
  if q.state = st && st ≠ .qualifying then s
  else
    let left := match st with
      | .qualifying => 1000 * selSet s 2 + 1
      | .waitRestore => selSet s 4 + 1
      | _ => 0
    let s := modCand i (fun q => { q with state := st, left, agree := 0,
                                          failedCount := if st = .failed then wrap 16 (q.failedCount + 1)
                                                         else q.failedCount }) s
    if q.state = st then s else raise 0x0801 i 0 (le 1 q.state.code ++ le 1 st.code ++ le 1 cause) s

/-- The next state of one candidate at a slow-tick boundary (Table 11-3); `moved` says that its kind, frequency, lane
or delay changed at this boundary. -/
def updateCand (i : Nat) (m : CandMeas) (moved : Bool) (s : Device) : Device :=
  let v := candValid s i m
  let s := modCand i (fun q => { q with valid := v }) s
  let q := cand s i
  if refSet s i 1 = 0 then setCand i .disabled 0 s
  else if looped s i then setCand i .looped 4 s
  else if q.state = .disabled then setCand i .qualifying 0 s
  else if q.state = .looped then setCand i .qualifying 4 s
  else if moved then setCand i .qualifying 0 s
  else if !v then setCand i .failed 1 s
  else match q.state with
    | .failed => if selSet s 4 = 0 then setCand i .qualifying 1 s else setCand i .waitRestore 1 s
    | .qualifying => if q.left ≤ 1 then setCand i .available 2 s else modCand i (fun q => { q with left := q.left - 1 }) s
    | .waitRestore =>
      if i ∈ s.timing.clearWtr then setCand i .available 0 s
      else if q.left = 0 then setCand i .available 2 s else s
    | _ => s

/-- CANDIDATE_QUALIFIED: the candidate has stayed valid for `qual_time` or `wtr`; its timer expires at this boundary
(R470). -/
def candidateQualified (i : Fin 13) (s : Device) : Device :=
  let q := cand s i
  if q.valid && ((q.state = .qualifying && q.left ≤ 1) || (q.state = .waitRestore && q.left = 0)) then
    setCand i .available 2 s
  else s

/-- CANDIDATE_REENTRY: an excluded candidate has agreed with the median for 10 slow ticks (R479). -/
def candidateReentry (i : Fin 13) (s : Device) : Device :=
  if (cand s i).state = .excluded && 10 ≤ (cand s i).agree then setCand i .qualifying 3 s else s

/-- A candidate is found invalid between slow-tick boundaries: it is `FAILED` unless it is `DISABLED` or `LOOPED`, and the
DPLL stops using its phase detector and holds its frequency if it is the selected one (Table 11-3, R467, R476; log 36). -/
def candidateLost (i : Nat) (s : Device) : Device :=
  let s := modCand i (fun q => { q with valid := false }) s
  let s := if (cand s i).state = .disabled || (cand s i).state = .looped then s else setCand i .failed 1 s
  if s.timing.selected = some i then modTiming (fun t => { t with stopped := true }) s else s

/-- CANDIDATE_ACTIVITY_LOSS: a candidate becomes invalid between boundaries (R476). -/
def candidateActivityLoss (i : Fin 13) (s : Device) : Device := candidateLost i.val s

/-- TTX_CANDIDATE_STALE: no exchange has been accepted for 5 s (Table 11-2, R476). -/
def ttxCandidateStale (c : Carrier) (s : Device) : Device :=
  match (s.ttx.get c).lastAt with
  | some t => if s.timing.now < t + 5 * SEC then s else candidateLost (11 + c.num) s
  | none => s

/-- RECEIVED_QL_STALE: a received level has not arrived for 5 s (R472). -/
def receivedQlStale (i : Fin 13) (s : Device) : Device :=
  match (cand s i).qlAt with
  | some t => if s.timing.now < t + 5 * SEC then s else modCand i (fun q => { q with qlRx := 14, qlAt := none }) s
  | none => s

/-! ### Sillage -/

/-- Temperature from `temp_src` (R506, R507). -/
def tempNow (s : Device) : Int :=
  if dpllSet s 3 = 1 then s.timing.oscTemp.getD s.timing.dieTemp else s.timing.dieTemp

/-- The history is valid: 3,600 locked records, all on the present oscillator (R492). While `OSC_READY` is low the
present oscillator is the one on `XI0`, of which there is no record. -/
def historyValid (s : Device) : Bool :=
  s.timing.oscReady && 3600 ≤ (s.timing.sillage.filter fun r => r.locked).length

/-- A snapshot of no more than 24 h is restored, an older one discarded (R496, R538). -/
def judgeSnap (age : Int) (snap : SillageSnap) (s : Device) : Device :=
  let s := modTiming (fun t => { t with heldSnap := none }) s
  if 86400 < age then s
  else
    let s := modTiming (fun t => { t with sillage := (t.sillage ++ snap.recs).take 86400, model := snap.model }) s
    each snap.cal (fun p s => putSetting p.1 p.2 .now s) s

/-- SILLAGE_RESTORE: a start of the TIMING domain takes the latest snapshot; its age is the always-on count, or is
judged when the seconds of device time are set (R496). -/
def sillageRestore (s : Device) : Device :=
  if !s.timing.restoreDue then s
  else
    let s := modTiming (fun t => { t with restoreDue := false }) s
    match s.boot.nand.snaps with
    | [] => s
    | snap :: _ =>
      match s.clock.snapAge with
      | some a => judgeSnap a snap s
      | none =>
        if s.timing.secondsSet then judgeSnap ((s.timing.now / SEC : Nat) - (snap.seconds : Int)) snap s
        else modTiming (fun t => { t with heldSnap := some snap }) s

/-- The seconds of device time are set: a held snapshot is judged (R496). -/
def secondsKnown (s : Device) : Device :=
  let s := modTiming (fun t => { t with secondsSet := true }) s
  match s.timing.heldSnap with
  | some snap => judgeSnap ((s.timing.now / SEC : Nat) - (snap.seconds : Int)) snap s
  | none => s

/-- Calibration values written with a snapshot: those of carriers whose last TTX_CAL_SET had `persist` 1 (R538). -/
def persistedCal (s : Device) : List (Nat × Int) :=
  carriers.flatMap fun c =>
    if (s.ttx.get c).persist then
      [0, 4, 8, 12, 16, 20, 24].map fun off => (skey 0x0901 (carCode c) 0 off, accepted s (skey 0x0901 (carCode c) 0 off))
    else []

/-- Write the Sillage records, the model and the calibration to the store; a failed write raises `SILLAGE_SAVE_FAIL`
(R496, R538). -/
def saveSillage (ok : Bool) (s : Device) : Device :=
  if !ok || !s.boot.nand.present then fault 0x0805 0 [] s
  else
    let snap : SillageSnap := { recs := s.timing.sillage, model := s.timing.model, cal := persistedCal s,
                                seconds := match s.timing.sillage with | r :: _ => r.tS | [] => 0 }
    let s := modBoot (fun b => { b with nand := { b.nand with snaps := (snap :: b.nand.snaps).take 16 } }) s
    modClock (fun k => { k with snapAge := some 0 }) s

/-- SILLAGE_SNAPSHOT: every 600 epochs (R496). -/
def sillageSnapshot (ok : Bool) (s : Device) : Device :=
  if s.timing.snapDue then saveSillage ok (modTiming (fun t => { t with snapDue := false }) s) else s

/-- SILLAGE_FIT: every 600 epochs cluster 4 fits the model to the locked records (R493); the fit comes as computed. -/
def sillageFit (m : SillageModel) (s : Device) : Device :=
  if s.timing.fitDue then modTiming (fun t => { t with fitDue := false, model := m, fitAge := 0 }) s
  else s

/-! ### The DPLL -/

/-- Code of a DPLL state (Table 1-3). -/
def DpllState.code : DpllState → Nat
  | .freeRun => 0
  | .acquiring => 1
  | .locked => 2
  | .holdover => 3
  | .lost => 4

/-- Enter a DPLL state: its event, and the faults of entry to `HOLDOVER` and `LOST` (R485, R512). -/
def setDpll (st : DpllState) (cause : Nat) (s : Device) : Device :=
  let old := s.timing.dpll
  if old = st then s
  else
    let wasHo := old = .holdover || old = .lost
    let isHo := st = .holdover || st = .lost
    let s := modTiming (fun t =>
      { t with dpll := st, since := t.now, lockRun := 0,
               hoTau := if isHo && wasHo then t.hoTau else 0,
               hoE0 := if isHo && !wasHo then t.phaseErr else t.hoE0,
               hoTemp := if isHo && !wasHo then tempNow s else t.hoTemp,
               hoDTmax := if isHo && !wasHo then 0 else t.hoDTmax,
               hoBoundNs := if isHo then t.hoBoundNs else 0,
               hoBoundFreq := if isHo then t.hoBoundFreq else 0 }) s
    let s := raise 0x0803 0 0 (le 1 old.code ++ le 1 st.code ++ le 1 cause) s
    if st = .holdover then fault 0x0801 0 [] s else if st = .lost then fault 0x0802 0 [] s else s

/-- Bandwidths of Table 11-5 in mHz. -/
def bandwidths : List Nat :=
  [1, 3, 10, 30, 100, 300, 1000, 3000, 10000, 30000, 100000, 300000, 1000000, 4000000]

/-- The largest entry of Table 11-5 not above a bandwidth in mHz (R482). -/
def bwEntry (mhz : Nat) : Nat := ((List.range 14).filter fun k => bandwidths.getD k 0 ≤ mhz).getLast?.getD 0

/-- Bandwidth limit of a candidate as a table entry (Table 11-1). -/
def bwLimit (s : Device) (i : Nat) : Nat :=
  bwEntry (
    if i < 4 then (if candKind s i = 1 then 100 else min 4000000 (10 * (refSet s i 4).toNat))
    else if i < 6 then 100000
    else if i < 10 then 10000
    else if i = 10 then 100000
    else 100 * csetN s (Carrier.ofNum (i - 11)) 0x0900 2)

/-- The bandwidth in use of the selected candidate (R482). -/
def bwInUse (s : Device) : Nat :=
  match s.timing.selected with
  | some i => min (dpllSet s 0) (bwLimit s i)
  | none => dpllSet s 0

/-- A dwell of ⌈4 / bandwidth⌉ s at an entry, at least 1 s, in epochs (R484). -/
def dwellOf (k : Nat) : Option Nat := timer (max 1 ((4000 + bandwidths.getD k 1 - 1) / bandwidths.getD k 1))

/-- Entry to `ACQUIRING`: the bandwidth starts under `fast_lock` (R484). -/
def enterAcquiring (s : Device) : Device :=
  let use := bwInUse s
  let start := match s.timing.selected with | some i => min (dpllSet s 2) (bwLimit s i) | none => use
  let s := setDpll .acquiring 0 s
  if dpllSet s 1 = 1 && use < start then
    modTiming (fun t => { t with bwUsed := start, dwell := dwellOf start, lockRun := 0 }) s
  else modTiming (fun t => { t with bwUsed := use, dwell := none, lockRun := 0 }) s

/-- |phase error| is below `lock_thr` (R485). -/
def belowLock (s : Device) : Bool := s.timing.phaseErr.natAbs < dpllSet s 4 * NS

/-- DPLL_LOCK_TIME: |phase error| has stayed below `lock_thr` for `lock_time` epochs (R485, R486). -/
def dpllLockTime (s : Device) : Device :=
  if s.timing.dpll = .acquiring && belowLock s && dpllSet s 8 < s.timing.lockRun then setDpll .locked 1 s else s

/-- FAST_LOCK_DWELL: at the end of a dwell the bandwidth steps down one entry, or the entry is kept for a further dwell
(R484). -/
def fastLockDwell (s : Device) : Device :=
  if !expired s.timing.dwell then s
  else
    let use := bwInUse s
    let k := if belowLock s then s.timing.bwUsed - 1 else s.timing.bwUsed
    if k ≤ use then modTiming (fun t => { t with bwUsed := use, dwell := none }) s
    else modTiming (fun t => { t with bwUsed := k, dwell := dwellOf k }) s

/-- A phase wrapped to −0.5 s to +0.5 s, and the whole seconds removed (R463, R514). -/
def splitStep (z : Int) : Int × Int :=
  let r := (z + (SEC : Int) / 2) % (SEC : Int) - (SEC : Int) / 2
  ((z - r) / (SEC : Int), r)

/-- Phase of a candidate against device time: stack time for `STACK`, θ for `TTX` (R466, R536). -/
def candPhase (s : Device) (i : Nat) : Int :=
  if i = 10 then s.stack.sigma else if i ≥ 11 then (s.ttx.get (Carrier.ofNum (i - 11))).theta else (cand s i).phase

/-- A candidate is selected: the step of R487 or R488 is measured and reported, whole seconds wait for the next epoch
boundary, and the DPLL acquires where the step is `lock_thr` or more (R485, R514). -/
def switchTo (i : Nat) (s : Device) : Device :=
  let old := s.timing.selected
  let kind := candKind s i
  let z := if kind = 0 then 0 else candPhase s i
  let sp := splitStep z
  let step := if kind = 1 then sp.2 else z
  let s := modTiming (fun t =>
    { t with selected := some i, stopped := false, switches := wrap 32 (t.switches + 1),
             jump := if kind = 2 then sp.1 else 0, phaseErr := if kind = 0 then 0 else sp.2 }) s
  let s := raise 0x0802 i 0 (fields 12 [(0, le 1 (old.getD 0xFF)), (4, leInt 8 step)]) s
  if s.timing.dpll = .locked && step.natAbs < dpllSet s 4 * NS then s else enterAcquiring s

/-- Selection yields no candidate (R489, R507). -/
def selectNone (forcedHo : Bool) (s : Device) : Device :=
  let s := match s.timing.selected with
    | some _ => modTiming (fun t => { t with selected := none, stopped := false, dwell := none, jump := 0,
                                             switches := wrap 32 (t.switches + 1) }) s
    | none => s
  match s.timing.dpll with
  | .holdover => s
  | .lost => s
  | .freeRun => if forcedHo then (if historyValid s then setDpll .holdover 0 s else setDpll .lost 0 s) else s
  | _ => if historyValid s then setDpll .holdover 0 s else setDpll .lost 0 s

/-! ### Selection (R474) -/

/-- All candidates by index. -/
def candList : List Nat := List.range 13

/-- Candidates that may be selected. -/
def eligible (s : Device) : List Nat :=
  candList.filter fun i => (cand s i).state = .available && !(selSet s 0 = 1 && qlUse s i = 15)

/-- The key of the order: quality level first when `ql_mode` is 1, then rank. -/
def candKey (s : Device) (i : Nat) : Nat :=
  (if selSet s 0 = 1 then 16 * qlUse s i else 0) + (refSet s i 1).toNat

/-- The lowest key of a list. -/
def minKey (s : Device) (l : List Nat) : Option Nat := l.foldl (fun m i =>
  match m with
  | none => some (candKey s i)
  | some k => some (min k (candKey s i))) none

/-- `best` of R474, with the tie of R477. -/
def bestCand (s : Device) (l : List Nat) : Option Nat :=
  match minKey s l with
  | none => none
  | some k =>
    match s.timing.selected with
    | some c => if c ∈ l && candKey s c = k then some c else l.find? fun i => candKey s i = k
    | none => l.find? fun i => candKey s i = k

/-- The outcome of selection; HOLD of a fault holds the DPLL in holdover (R474, R475, Table 19-4). -/
def selection (s : Device) : Option Nat :=
  let l := eligible s
  if s.timing.hoForced || dpllHeld s || !s.timing.oscReady then none
  else match s.timing.forced with
    | some f => if f ∈ l then some f else
        (match s.timing.selected with
         | some c => if selSet s 1 = 0 && c ∈ l then some c else bestCand s l
         | none => bestCand s l)
    | none =>
      match s.timing.selected with
      | some c => if selSet s 1 = 0 && c ∈ l then some c else bestCand s l
      | none => bestCand s l

/-- Insert into a list in rising order. -/
def insertInt (z : Int) : List Int → List Int
  | [] => [z]
  | h :: r => if z ≤ h then z :: h :: r else h :: insertInt z r

/-- The median of a list: the middle value, or the mean of the two middle values rounded down. -/
def median (l : List Int) : Int :=
  let m := l.foldr insertInt []
  let n := m.length
  if n % 2 = 1 then m.getD (n / 2) 0 else (m.getD (n / 2 - 1) 0 + m.getD (n / 2) 0) / 2

/-- Eligible candidates that share the best key (R478, R479). -/
def tiedGroup (s : Device) : List Nat :=
  let l := eligible s
  match minKey s l with
  | none => []
  | some k => l.filter fun i => candKey s i = k

/-- A candidate has a phase: kinds `PPS` and `TIME` (Table 11-1). -/
def phased (s : Device) (i : Nat) : Bool := candKind s i ≠ 0

/-- The phase of a candidate lies more than `agree_ns` from a value (R478, R479). -/
def phaseApart (s : Device) (i : Nat) (m : Int) : Bool := selSet s 8 * NS < (candPhase s i - m).natAbs

/-- The frequency of a candidate lies more than `agree_ppb` from a value, in 10⁻¹² (R478, R479). -/
def freqApart (s : Device) (i : Nat) (m : Int) : Bool := selSet s 12 * 1000 < ((cand s i).freqOff - m).natAbs

/-- A candidate is outvoted by a group: its phase lies too far from the median of the phases, or its frequency from the
median of the frequencies (R479, log 35). -/
def outvoted (s : Device) (g : List Nat) (i : Nat) : Bool :=
  let p := g.filter (phased s)
  (phased s i && !p.isEmpty && phaseApart s i (median (p.map (candPhase s)))) ||
    freqApart s i (median (g.map fun k => (cand s k).freqOff))

/-- Two tied candidates differ: two of kinds `PPS` or `TIME` by phase, two of kind `FREQ` by frequency (R478). -/
def pairDiffers (s : Device) (g : List Nat) : Bool :=
  let a := g.getD 0 0
  let b := g.getD 1 0
  g.length = 2 && ((phased s a && phased s b && phaseApart s a (candPhase s b)) ||
    (!phased s a && !phased s b && freqApart s a (cand s b).freqOff))

/-- Members of a group of three or more that are outvoted are excluded unless all would be; the result says that
members disagree (R478, R479). -/
def excludeOutvoted (s : Device) : Bool × Device :=
  let g := tiedGroup s
  if g.length < 3 then (pairDiffers s g, s)
  else
    let out := g.filter (outvoted s g)
    (!out.isEmpty, if out.length < g.length then each out (fun i s => setCand i .excluded 3 s) s else s)

/-- Slow ticks for which an excluded candidate agrees with the medians of the tied group (R479). -/
def countAgreement (i : Nat) (s : Device) : Device :=
  if (cand s i).state ≠ .excluded then s
  else
    let g := tiedGroup s
    modCand i (fun q => { q with agree := if !g.isEmpty && !outvoted s g i then min 15 (q.agree + 1) else 0 }) s

/-- `REF_DISAGREE` follows the disagreement (R478, R479). -/
def applyDisagreement (s : Device) : Device :=
  let a := excludeOutvoted s
  let s := each candList countAgreement a.2
  faultCond 0x0803 0 (a.1 || candList.any fun i => (cand s i).state = .excluded) [] s

/-! ### Outputs -/

/-- A timing output. -/
def outSt (s : Device) (i : Nat) : OutSt := Tab.get (fun _ => {}) s.timing.outs i

/-- The bit of `squelch` for the DPLL state holds the output low (Table 11-14). -/
def dpllSquelch (s : Device) (mask : Nat) : Bool :=
  match s.timing.dpll with
  | .freeRun => tb mask 0
  | .acquiring => tb mask 1
  | .locked => false
  | .holdover => tb mask 2
  | .lost => tb mask 3

/-- The output is held low: disabled, squelched, or its `LINE` source is invalid (R502). -/
def outLow (s : Device) (i : Nat) : Bool :=
  let src := dsetN s 0x0806 i 2
  dset s 0x0806 i 1 = 0 || dpllSquelch s (dsetN s 0x0806 i 3) ||
    (i < 8 && src ≠ 0 && !(cand s (3 + src)).valid)

/-- Every output follows its settings and the state of its source (R498, R502). -/
def updateOuts (s : Device) : Device :=
  each (List.range 10) (fun i s =>
    let low := outLow s i
    let f := dsetN s 0x0806 i 4
    modTiming (fun t =>
      { t with outs := Tab.modify (fun _ => {}) t.outs i fun o =>
          { o with low, freq := f, integer := f % 9765625000 = 0 } }) s) s

/-- `offset_ps` of an output in units of 2⁻¹⁶ ns. -/
def outOffset (s : Device) (i : Nat) : Int := dset s 0x0806 i 16 * 65536 / 1000

/-- PPSOUT pulses of the device-time seconds that lie in (`from`, now]: a pulse less than 0.5 s after the last one is
omitted (R501). -/
def ppsPulse (i : Nat) (before : Time) (s : Device) : Device :=
  if (outSt s i).low then s
  else
    let off := outOffset s i
    -- the last second mark plus offset that is not after now
    let n := (((s.timing.now : Int) - off) / (SEC : Int))
    let t := (n * (SEC : Int) + off).toNat
    let close := match (outSt s i).lastPulse with | some l => t < l + SEC / 2 | none => false
    if before < t && t ≤ s.timing.now && !close then
      emit (.pps i t) (modTiming (fun k =>
        { k with outs := Tab.modify (fun _ => {}) k.outs i fun o => { o with lastPulse := some t } }) s)
    else s

/-! ### Ticks -/

/-- Device time advances by `d` in a control tick (R513). -/
def advanceTime (d : Nat) (s : Device) : Device :=
  if inReset s .timing then s
  else
    let before := s.timing.now
    let s := modTiming (fun t =>
      { t with now := t.now + d,
               hoTau := if t.dpll = .holdover || t.dpll = .lost then t.hoTau + d else t.hoTau,
               timeSet := t.timeSet.map fun p => (p.1, min 3 (p.2 + 1)) }) s
    ppsPulse 9 before (ppsPulse 8 before s)

/-- Candidates whose kind, frequency, lane or delay changes at this slow-tick boundary (Table 11-3). -/
def movedCands (s : Device) : List Nat :=
  candList.filter fun i => s.pendSet.any fun q =>
    q.when = When.slow.code && [3, 4, 8, 16].any fun off => q.key = skey 0x0800 0 i off

/-- What a slow tick measures is noted. -/
def noteTiming (m : TimingMeas) (s : Device) : Device :=
  let s := modTiming (fun t => { t with phaseErr := m.phaseErr, freqOff := m.freqOff, dieTemp := m.dieTemp }) s
  let s := each m.cands (fun c s => modCand c.cand (fun q => { q with freqOff := c.freqOff, phase := c.phase }) s) s
  if belowLock s then s else modTiming (fun t => { t with lockRun := 0 }) s

/-- Reference selection at a slow-tick boundary (R474, R480, R481); `moved` as found before the settings of this
boundary took force. -/
def timingSlowTick (m : TimingMeas) (moved : List Nat) (s : Device) : Device :=
  if inReset s .timing then s
  else
    let s := noteTiming m s
    let s := each candList (fun i s =>
      updateCand i ((m.cands.find? fun c => c.cand = i).getD { cand := i, active := false }) (decide (i ∈ moved)) s) s
    let s := modTiming (fun t => { t with clearWtr := [] }) s
    let s := applyDisagreement s
    let s :=
      match selection s with
      | none => selectNone (s.timing.hoForced || dpllHeld s) s
      | some i =>
        if s.timing.selected = some i then modTiming (fun t => { t with stopped := false }) s else switchTo i s
    let s := if s.timing.dwell.isNone then
        let k := bwInUse s
        modTiming (fun t => { t with bwUsed := k }) s else s
    let s := match s.timing.selected with
      | some i => modTiming (fun t => { t with lastQl := qlUse s i }) s
      | none => s
    updateOuts s

/-- b of R494 in 10⁻²¹ s × 65536 × 2 × SEC², and f in 10⁻²¹ × SEC, over τ in 2⁻¹⁶ ns. -/
def hoBounds (s : Device) : Nat × Nat :=
  let t := s.timing
  let m := t.model
  let tau := t.hoTau
  let ct := m.cT.natAbs * t.hoDTmax * 1000
  let e0 := t.hoE0.natAbs * 1000000000000 * 2 * SEC * SEC
  let lin := (3 * m.sigmaF * 100000 + ct) * tau * 65536 * 2 * SEC
  let quad := 3 * m.sigmaA * tau * tau * 65536
  (e0 + lin + quad, 3 * m.sigmaF * 100000 * SEC + 3 * m.sigmaA * tau + ct * SEC)

/-- The bounds are computed, and `HOLDOVER` ends where one exceeds its limit (R494, R495, R508). -/
def holdoverBounds (s : Device) : Device :=
  if s.timing.dpll ≠ .holdover && s.timing.dpll ≠ .lost then s
  else
    let s := modTiming (fun t => { t with hoDTmax := max t.hoDTmax (tempNow s - t.hoTemp).natAbs }) s
    let p := hoBounds s
    let unitB := 1000000000000 * 65536 * 2 * SEC * SEC
    let s := modTiming (fun t => { t with hoBoundNs := sat 32 (p.1 / unitB),
                                          hoBoundFreq := sat 32 (p.2 / (100000000 * SEC)) }) s
    let limB := dpllSet s 12
    let limF := dpllSet s 16
    if s.timing.dpll = .holdover && ((limB ≠ 0 && limB * unitB < p.1) || (limF ≠ 0 && limF * 10000000000 * SEC < p.2))
    then setDpll .lost 2 s else s

/-- One Sillage record (R492, R490). -/
def sillageRecord (m : SillageMeas) (s : Device) : Device :=
  if !s.timing.oscReady then s
  else
    let r : SillageRec := { tS := s.timing.now / SEC % 2 ^ 32, freq := m.freq, phaseErr := m.phaseErr, temp := tempNow s,
                            cand := s.timing.selected.getD 15, locked := s.timing.dpll = .locked,
                            holdover := s.timing.dpll = .holdover }
    modTiming (fun t => { t with sillage := (r :: t.sillage).take 86400 }) s

/-- TIME_JUMP: whole seconds of a `TIME` candidate's step are added (R514). -/
def timeJump (s : Device) : Device :=
  let j := s.timing.jump
  if j = 0 then s
  else
    let s := modTiming (fun t => { t with now := ((t.now : Int) + j * (SEC : Int)).toNat, jump := 0 }) s
    secondsKnown (raise 0x0901 0 0 (leInt 8 j) s)

/-- Epoch work of the timing subsystem (R484, R485, R492 to R496, R514). -/
def timingEpoch (m : SillageMeas) (s : Device) : Device :=
  let s := modClock (fun k => { k with snapAge := k.snapAge.map (· + 1) }) s
  if inReset s .timing then s
  else
    let s := timeJump s
    let s := sillageRecord m s
    let s := holdoverBounds s
    let below := belowLock s
    modTiming (fun t =>
      { t with
        lockRun := if t.dpll = .acquiring && below then min 1000 (t.lockRun + 1) else 0
        dwell := tickDown t.dwell
        fitAge := sat 32 (t.fitAge + 1)
        epochs600 := if t.epochs600 ≥ 599 then 0 else t.epochs600 + 1
        fitDue := t.fitDue || t.epochs600 ≥ 599
        snapDue := t.snapDue || t.epochs600 ≥ 599
        cands := Tab.mapAll (fun _ => {}) t.cands fun _ q =>
          if q.state = .waitRestore then { q with left := q.left - 1 } else q }) s

/-- TIME_SET_APPLY: the first epoch boundary at least 2 control ticks after acceptance takes the seconds given
(R515). -/
def timeSetApply (s : Device) : Device :=
  match s.timing.timeSet with
  | some (sec, n) =>
    if n < 2 then s
    else secondsKnown (modTiming (fun t => { t with now := sec * SEC + t.now % SEC, timeSet := none }) s)
  | none => s

/-- OSC_READY_RISE (R491). -/
def oscReadyRise (s : Device) : Device :=
  faultOff 0x0804 0 (modTiming (fun t => { t with oscReady := true }) s)

/-- OSC_READY_FALL (R491). -/
def oscReadyFall (s : Device) : Device :=
  if !s.timing.oscReady then s
  else
    let s := modTiming (fun t => { t with oscReady := false }) s
    let s := if s.timing.dpll = .holdover then setDpll .lost 3 s else s
    faultOn 0x0804 0 [] s

/-- OSC_TEMP_STALE: no host temperature for 10 s; the die sensor is used (R507). -/
def oscTempStale (s : Device) : Device :=
  if s.timing.oscTemp.isSome && s.timing.oscTempAt + 10 * SEC ≤ s.timing.now then
    let k := s.timing.dpll.code
    raise 0x0803 0 0 (le 1 k ++ le 1 k ++ le 1 4) (modTiming (fun t => { t with oscTemp := none }) s)
  else s

/-! ### Commands -/

/-- The first refused field of TIMING_REF_CONFIG: selector, then each field in its range where it applies and zero
where it does not (R504). -/
def refRefusal (s : Device) (r : Req) : Option (Status × Nat) :=
  let p := r.params
  let i := rd p 0 1
  if 12 < i then some (.badParam, 0)
  else
    let kind := rd p 3 1
    (layout 0x0800).findSome? fun row =>
      if row.kind = .par then none
      else if !refApplies i kind row.off then (if row.read p = 0 then none else some (.badParam, row.off))
      else if row.off = 2 then
        let q := rd p 2 1
        if q ≤ 15 ∨ (q = 255 ∧ qlReceived i) then
          (checkRow s 0x0800 0 p row).map fun st => (st, 2)
        else some (.badParam, 2)
      else (checkRow s 0x0800 0 p row).map fun st => (st, row.off)

/-- TIMING_REF_CONFIG (R504). -/
def timingRefConfigCmd : Cmd where
  ownChecks := true
  field _ r off := if off = 0 then rd r.params 0 1 ≤ 12 else true
  state s r := refRefusal s r
  back s r :=
    let i := rd r.params 0 1
    ((layout 0x0800).filter fun row => row.kind = .rt && !refApplies i (refSet s i 3).toNat row.off).map
      fun row => (row.off, zeros row.size)
  act := does fun r s =>
    let i := rd r.params 0 1
    each ((layout 0x0800).filter fun row => row.kind = .rt && refApplies i (rd r.params 3 1) row.off)
      (fun row s => putSetting (skey 0x0800 0 i row.off) (row.read r.params) row.bnd s) s

/-- TIMING_SEL_CONFIG (R505). -/
def timingSelConfigCmd : Cmd where
  act := does fun r s => acceptFields 0x0801 0 r.params s

/-- TIMING_DPLL_CONFIG (R506). -/
def timingDpllConfigCmd : Cmd where
  act := does fun r s => acceptFields 0x0802 0 r.params s

/-- The code of a TIMING_COMMAND row (R507). -/
def timingCode (k : Nat) : Device → Req → Nat → Bool := fun _ r off =>
  if off = 0 then rd r.params 0 1 = k
  else if off = 1 then k ≠ 1 && k ≠ 3 || rd r.params 1 1 ≤ 12
  else true

/-- TIMING_CLEAR (R475, R507). -/
def timingClearCmd : Cmd where
  field := timingCode 0
  act := does fun _ s => modTiming (fun t => { t with forced := none, hoForced := false }) s

/-- TIMING_FORCE (R475, R507). -/
def timingForceCmd : Cmd where
  field := timingCode 1
  act := does fun r s => modTiming (fun t => { t with forced := some (rd r.params 1 1) }) s

/-- TIMING_HOLDOVER: selection at the end of the slow tick yields no candidate (R474, R481, R507). -/
def timingHoldoverCmd : Cmd where
  field := timingCode 2
  act := does fun _ s => modTiming (fun t => { t with hoForced := true }) s

/-- CLEAR_WTR (R469, R481). -/
def clearWtrCmd : Cmd where
  field := timingCode 3
  act := does fun r s => modTiming (fun t => { t with clearWtr := rd r.params 1 1 :: t.clearWtr }) s

/-- SILLAGE_SAVE (R496). -/
def sillageSaveCmd : Cmd where
  field := timingCode 4
  act := does fun _ s => saveSillage true s

/-- SILLAGE_RESET (R497). -/
def sillageResetCmd : Cmd where
  field := timingCode 5
  act := does fun _ s =>
    let s := modTiming (fun t => { t with sillage := [], model := {}, heldSnap := none }) s
    modBoot (fun b => { b with nand := { b.nand with snaps := [] } }) s

/-- OSC_TEMP (R507). -/
def oscTempCmd : Cmd where
  field := timingCode 6
  state s _ := if dpllSet s 3 = 0 then some (.notPermitted, 0) else none
  act := does fun r s =>
    modTiming (fun t => { t with oscTemp := some (rdInt r.params 4 4), oscTempAt := t.now }) s

/-- TIMING_STATUS (R508). -/
def timingStatusCmd : Cmd where
  act := reads fun s _ =>
    let t := s.timing
    le 1 t.dpll.code ++ le 1 (t.selected.getD 0xFF) ++ le 1 t.bwUsed ++
      le 1 (bit t.oscReady + 2 * bit t.forced.isSome + 4 * bit t.hoForced) ++ le 1 (qlOut s) ++ zeros 3 ++
      timeBytes t.now ++ leInt 8 t.phaseErr ++ leInt 4 t.freqOff ++ le 4 (t.hoTau / SEC) ++ le 4 t.hoBoundNs ++
      le 4 t.hoBoundFreq ++ le 4 t.switches ++ timeBytes10 t.since ++ zeros 2

/-- TIMING_REF_STATUS (R509). -/
def timingRefStatusCmd : Cmd where
  act := reads fun s _ => candList.flatMap fun i =>
    let q := cand s i
    let k := candKind s i
    let left := match q.state with
      | .qualifying => (q.left + 999) / 1000
      | .waitRestore => q.left
      | _ => 0
    le 1 q.state.code ++ le 1 k ++ le 1 (qlUse s i) ++ leInt 1 (refSet s i 1) ++ leInt 4 q.freqOff ++
      leInt 8 (if k = 0 then 0 else candPhase s i) ++ le 2 left ++ le 2 q.failedCount ++ zeros 4

/-- TIMING_OUT_CONFIG (R510, R502). -/
def timingOutConfigCmd : Cmd where
  field _ r off :=
    if off = 16 && rd r.params 0 1 < 8 then
      2 * (rdInt r.params 16 8).natAbs * rd r.params 4 8 ≤ 1000000000000000000
    else true
  act := does fun r s => updateOuts (acceptFields 0x0806 0 r.params s)

/-- The 16 bytes of a Sillage record (Table 11-11). -/
def sillageBytes (r : SillageRec) : List Byte :=
  le 4 r.tS ++ leInt 4 r.freq ++ leInt 4 r.phaseErr ++ leInt 2 r.temp ++
    le 1 (r.cand % 16 + 16 * bit r.locked + 32 * bit r.holdover) ++ zeros 1

/-- SILLAGE_READ (R511). -/
def sillageReadCmd : Cmd where
  field _ r off := if off = 4 then 1 ≤ rd r.params 4 2 && rd r.params 4 2 ≤ 250 else true
  act := reads fun s r =>
    let recs := (s.timing.sillage.drop (rd r.params 0 4)).take (rd r.params 4 2)
    let m := s.timing.model
    le 2 recs.length ++ le 1 (bit (historyValid s)) ++ zeros 1 ++
      le 4 (s.timing.sillage.filter fun r => r.locked).length ++ leInt 4 (m.ageing / 1000) ++ le 4 (m.sigmaA / 1000) ++
      leInt 4 (m.cT / 100) ++ le 4 (m.sigmaF / 100) ++ le 4 s.timing.fitAge ++ zeros 4 ++ recs.flatMap sillageBytes

end Sys2Proof.Machine
end

