-- ==== Sys2Proof/Machine/Ttx.lean ====
section
/-!
DEFINITION. Time transfer and delay calibration (12_time_transfer_and_delay_calibration): internal delays, the
time-transfer record, exchanges and their servo, PTP stamps, and the commands of class 0x09.
-/
namespace Sys2Proof.Machine
open Sys2Proof

/-! ### Internal delays and planes -/

/-- Femtoseconds as units of 2⁻¹⁶ ns. -/
def fsUnits (z : Int) : Int := z * 65536 / 1000000

/-- Tenths of a picosecond as units of 2⁻¹⁶ ns. -/
def tenthPs (z : Int) : Int := z * 65536 / 10000

/-- Temperature of the converters of a carrier, × 0.01 °C (R518). -/
def convTemp (s : Device) (c : Carrier) : Int := s.elec.temps.getD c.num 0

/-- d₀ at a converter rate in MS/s, by linear interpolation between 85, 170 and 340 GS/s (R517). -/
def calAt (d : Int × Int × Int) (rate : Nat) : Int :=
  if rate ≤ 170000 then d.1 + (d.2.1 - d.1) * ((rate : Int) - 85000) / 85000
  else d.2.1 + (d.2.2 - d.2.1) * ((rate : Int) - 170000) / 170000

/-- The analog delay that a calibration gives at a temperature, fs (R518). -/
def analogTarget (k : DelayCal) (rate : Nat) (temp : Int) : Int :=
  let dt := temp - 2500
  calAt k.d0 rate + k.d1 * dt / 100000 + k.d2 * dt * dt / 10000000

/-- The analog delays of a carrier: those of OTP at the carrier's rate and temperature, or nominal values. -/
def analogGoal (s : Device) (c : Carrier) : Int × Int :=
  match (s.ttx.get c).cal with
  | some (a, b) =>
    let rate := match modeOf s c with | some m => m.convRate | none => 85000
    (analogTarget a rate (convTemp s c), analogTarget b rate (convTemp s c))
  | none => (Config.nominalDelay (2 * c.num), Config.nominalDelay (2 * c.num + 1))

/-- At each slow-tick boundary the analog parts follow their goals by at most 0.05 ps (R518). -/
def delaySlowTick (c : Carrier) (s : Device) : Device :=
  let g := analogGoal s c
  modTtx c (fun x => { x with anaTx := x.anaTx + clip (-50) 50 (g.1 - x.anaTx),
                              anaRx := x.anaRx + clip (-50) 50 (g.2 - x.anaRx) }) s

/-- D_tx in 2⁻¹⁶ ns (R517). -/
def dTx (s : Device) (c : Carrier) : Int :=
  (match modeOf s c with | some m => m.dTx | none => 0) + fsUnits (s.ttx.get c).anaTx

/-- D_rx with `delay_corr` (R214, R517). -/
def dRx (s : Device) (c : Carrier) : Int :=
  (match modeOf s c with | some m => m.dRx | none => 0) + fsUnits (s.ttx.get c).anaRx + (s.rx.get c).delayCorr

/-- A field of TTX_CAL_SET in force. -/
def calSet (s : Device) (c : Carrier) (off : Nat) : Int := cset s c 0x0901 off

/-- An own transmit stamp moved from the DAC plane to the fibre plane (R522). -/
def fibreTx (s : Device) (c : Carrier) (t : Int) : Int := t + tenthPs (calSet s c 0)

/-- An own receive stamp moved from the ADC plane to the fibre plane (R522). -/
def fibreRx (s : Device) (c : Carrier) (t : Int) : Int := t - tenthPs (calSet s c 4)

/-- A transmit superframe boundary of count `x` passes the timestamp point at `t`: its stamp at the DAC plane is kept
for the last 4,096 superframes (R516, R533). -/
def stampTx (c : Carrier) (x : Nat) (t : Int) (s : Device) : Device :=
  let v := t + dTx s c
  modTtx c (fun q => { q with ownTx := ((x, v) :: q.ownTx).take 4096 }) s

/-- A received superframe boundary of count `x` is measured at `t`: its stamp at the ADC plane (R214, R516). -/
def stampRx (c : Carrier) (x : Nat) (t : Int) (s : Device) : Device :=
  let v := t - dRx s c
  modTtx c (fun q => { q with ownRx := ((x, v) :: q.ownRx).take 4096 }) s

/-- Find a stamp. -/
def findStamp (l : List (Nat × Int)) (k : Nat) : Option Int := (l.find? fun p => p.1 = k).map (·.2)

/-! ### Wavelengths and asymmetry (R523, R524) -/

/-- λ_rx in pm, 0 when `lambda_lo` is unknown: `freq_off` is in kHz; the shift is rounded to the nearest pm (R524). -/
def lambdaRxOf (s : Device) (c : Carrier) : Nat :=
  let lo := calSet s c 20
  if lo = 0 then 0
  else
    let d : Int := 299792458 * 1000000000
    (lo - (2 * (lo * lo * (s.rx.get c).monitor.freqOff) + d) / (2 * d)).toNat

/-- λ_tx in pm: what the far end reports, else `lambda_tx` (R524). -/
def lambdaTxOf (s : Device) (c : Carrier) : Nat :=
  match (s.ttx.get c).far with
  | some f => if f.lambdaRx ≠ 0 then f.lambdaRx else (calSet s c 16).toNat
  | none => (calSet s c 16).toNat

/-- W in tenths of a picosecond (R523). -/
def wOf (s : Device) (c : Carrier) : Int :=
  let lt := lambdaTxOf s c
  let lr := lambdaRxOf s c
  if calSet s c 24 = 0 || lt = 0 || lr = 0 then 0
  else
    let own := (s.rx.get c).cdEst
    let twice := match (s.ttx.get c).far with
      | some f => match f.cd with | some k => own + k | none => 2 * own
      | none => 2 * own
    twice * ((lt : Int) - lr) / 200

/-- −(`asym` + W) / 2 + `cal_offset`, in tenths of a picosecond, doubled (R533). -/
def calTerm2 (s : Device) (c : Carrier) : Int := 2 * calSet s c 12 - (calSet s c 8 + wOf s c)

/-! ### Records -/

/-- The OTP of the carrier holds the factory calibration. -/
def otpCal (s : Device) (c : Carrier) : Bool := (s.ttx.get c).cal.isSome

/-- Fields that both paths share (Table 12-1). -/
def baseRec (s : Device) (c : Carrier) : TtxRec :=
  { timeOk := !inReset s .timing && (s.timing.dpll = .locked || s.timing.dpll = .holdover),
    follows := s.timing.selected = some (11 + c.num),
    tagged := cset s c 0x0900 4 = 1, otpCal := otpCal s c, ql := qlLine s c, calSeq := (s.ttx.get c).calSeq,
    carrierId := carrierId s c, cd := some (s.rx.get c).cdEst, lambdaRx := lambdaRxOf s c }

/-- The receive stamp of a record: the latest far-end event stamped (R528); none in `DSP_NE` (R657). -/
def withRx (s : Device) (c : Carrier) (r : TtxRec) : TtxRec :=
  match (s.ttx.get c).ownRx with
  | (k, t) :: _ => if dspNe s c then r else { r with rxValid := true, rxRef := k, rx := (fibreRx s c t).toNat }
  | [] => r

/-- Flags byte of a record. -/
def recFlags (r : TtxRec) : Nat :=
  bit r.timeOk + 2 * bit r.rxValid + 4 * bit r.follows + 8 * bit r.tagged + 16 * bit r.otpCal

/-- Bytes 0 to 47 of a record, most significant byte first (Table 12-1). -/
def recBytes (r : TtxRec) : List Byte :=
  le 1 (recFlags r) ++ le 1 r.ql ++ be 2 r.seq ++ be 4 r.txRef ++ timeBytesBe r.tx ++ be 4 r.rxRef ++ timeBytesBe r.rx ++
    le 1 r.calSeq ++ zeros 1 ++ be 2 r.carrierId ++
    be 4 (match r.cd with | some k => toCode 32 k | none => 0x80000000) ++ be 4 r.lambdaRx

/-- The time-transfer field of a transmitted NSO: zero while `ttx_enable` is 0, or while `ttx_auth` is 1 and the
context holds no key; the tag is the KME's (R418, R528). -/
def ttxField (c : Carrier) (x : Nat) (s : Device) : List Byte × Device :=
  let auth := cset s c 0x0900 4 = 1
  if cset s c 0x0900 0 = 0 || (auth && !ctxKeyed s c.num) then (zeros 64, s)
  else
    let tx := match findStamp (s.ttx.get c).ownTx x with | some t => (fibreTx s c t).toNat | none => 0
    let r := withRx s c { baseRec s c with txRef := x, tx }
    if auth then
      let n := nextCounter c.num s
      let t := drawBytes 8 n.2
      (recBytes r ++ be 8 n.1 ++ t.1, t.2)
    else (recBytes r ++ zeros 16, s)

/-- The burst mark of an OSTC `TTX` message sent is its own transmit stamp (R457, R529). -/
def ttxNoteMark (c : Carrier) (s : Device) : Device :=
  match (s.ostc.get c).burst with
  | some b =>
    if b.msg.type = 1 && b.sent = 89 && b.mark = some s.timing.now then
      let k := fromBe (slice b.msg.payload 2 2)
      let s := stampTx c k s.timing.now s
      modTtx c (fun q => { q with prevMark := (findStamp q.ownTx k).map fun t => (k, t) }) s
    else s
  | none => s

/-- The path in use (R531). -/
def pathOf (s : Device) (c : Carrier) : Nat :=
  if cset s c 0x0900 0 = 0 then 0
  else match csetN s c 0x0900 1 with
    | 1 => if native s c then 1 else 0
    | 2 => 2
    | _ => if nsoPath s c then 1 else 2

/-- The path follows its conditions, and a change raises `TTX_PATH` (R531). -/
def updatePath (c : Carrier) (s : Device) : Device :=
  let old := (s.ttx.get c).path
  let new := pathOf s c
  if old = new then s
  else raise 0x0902 c.num 0 (le 1 old ++ le 1 new) (modTtx c (fun q => { q with path := new }) s)

/-- Both ends have their `TTX` candidate of this carrier selected (R536). -/
def ttxLoop (s : Device) (c : Carrier) : Bool :=
  s.timing.selected = some (11 + c.num) && (match (s.ttx.get c).far with | some f => f.follows | none => false)

/-- The servo's output is valid (R536). -/
def servoValid (s : Device) (c : Carrier) : Bool :=
  (match (s.ttx.get c).far with | some f => f.timeOk && !f.follows | none => false) &&
    cset s c 0x0900 0 = 1 && !((s.ttx.get c).path = 1 && (s.rx.get c).state.code < 6) && !ttxLoop s c

/-- The servo's validity and `TTX_LOOP` are evaluated (R536). -/
def evalServo (c : Carrier) (s : Device) : Device :=
  let l := ttxLoop s c
  let v := servoValid s c
  faultCond 0x0902 c.num l [] (modTtx c (fun q => { q with loop := l, valid := v }) s)

/-- A record is discarded (R530, R535). -/
def recDiscard (c : Carrier) (n : Nat) (s : Device) : Device :=
  modTtx c (fun q => { q with recBad := wrap 32 (q.recBad + n) }) s

/-- TTX_RECORD_RECEIVED: a record is accepted or discarded (R415, R530); an accepted one carries the far end's quality
level (R472). -/
def ttxRecordReceived (c : Carrier) (i : TtxIn) (s : Device) : Device :=
  let s := if i.ostc then stampRx c i.record.seq i.mark s else s
  if !i.ostc && !(i.nsoValid && (s.rx.get c).inStep) then recDiscard c 1 s
  else
    let p := if i.record.tagged then authMessage c c.num i.sender i.record.counter i.tagOk (i.record.carrierId = carrierId s c) s
      else (decide (cset s c 0x0900 4 = 0), s)
    if !p.1 then recDiscard c 1 p.2
    else
      let s := modTtx c (fun q => { q with far := some i.record, recs := q.recs ++ [i.record] }) p.2
      evalServo c (qlArrives (11 + c.num) i.record.ql (qlArrives (4 + c.num) i.record.ql s))

/-! ### Exchanges -/

/-- Keys of a carrier's TTX_CONFIG and TTX_CAL_SET. -/
def ttxKey (c : Carrier) (k : Nat) : Bool := (keyOp k = 0x0900 || keyOp k = 0x0901) && keyTgt k = carCode c

/-- A change of TTX_CAL_SET values waits for the exchange. -/
def calWaits (s : Device) (c : Carrier) : Bool :=
  s.pendSet.any fun q => keyOp q.key = 0x0901 && keyTgt q.key = carCode c

/-- The change of θ, in tenths of a picosecond doubled, from one set of values to another. -/
def thetaShift2 (a b : Device) (c : Carrier) : Int :=
  (calTerm2 b c - calTerm2 a c) - (calSet b c 0 - calSet a c 0) + (calSet b c 4 - calSet a c 4)

/-- Settings take force at the exchange; a change of TTX_CAL_SET advances `cal_seq` and is reported (R537, R544); an
enable without factory calibration raises `TTX_OTP_CAL_ABSENT` (Table 12-7). -/
def exchangeSettings (c : Carrier) (s : Device) : Device :=
  let changes := calWaits s c
  let enabledBefore := cset s c 0x0900 0 = 1
  let s' := settle .exchange (ttxKey c) s
  let s1 :=
    if changes then
      let n := wrap 8 ((s'.ttx.get c).calSeq + 1)
      let d := tenthPs (thetaShift2 s s' c) / 2
      raise 0x0903 c.num 0 (fields 12 [(0, le 1 n), (4, leInt 8 d)]) (modTtx c (fun q => { q with calSeq := n }) s')
    else s'
  if !enabledBefore && cset s1 c 0x0900 0 = 1 && !otpCal s1 c then fault 0x0903 0 [] s1 else s1

/-- The pairs of an exchange as ((T2 − T1) − (T4 − T3), (T2 − T1) + (T4 − T3)) (R533). -/
def ttxPairs (s : Device) (c : Carrier) (recs : List TtxRec) : List (Int × Int) :=
  recs.filterMap fun q =>
    if !q.rxValid then none
    else
      match findStamp (s.ttx.get c).ownTx q.rxRef, findStamp (s.ttx.get c).ownRx q.txRef with
      | some a, some b =>
        let t21 : Int := (q.rx : Int) - fibreTx s c a
        let t43 : Int := fibreRx s c b - (q.tx : Int)
        some (t21 - t43, t21 + t43)
      | _, _ => none

/-- Sum of a list. -/
def sumInt (l : List Int) : Int := l.foldl (· + ·) 0

/-- λ mismatch over consecutive exchanges (R525). -/
def lambdaCheck (c : Carrier) (s : Device) : Device :=
  let own := (calSet s c 16).toNat
  let far := match (s.ttx.get c).far with | some f => f.lambdaRx | none => 0
  let bad := own ≠ 0 && far ≠ 0 && 100 < ((far : Int) - own).natAbs
  let s := modTtx c (fun q => { q with mismatch := if bad then min 10 (q.mismatch + 1) else 0 }) s
  faultCond 0x0901 c.num ((s.ttx.get c).mismatch ≥ 10) [] s

/-- θ of an exchange is accepted, or rejected as an outlier (R534). -/
def takeTheta (c : Carrier) (theta raw delay : Int) (s : Device) : Device :=
  let q := s.ttx.get c
  let lim : Int := (csetN s c 0x0900 8 * 65536 / 1000 : Nat)
  if q.sinceRestart ≥ 8 && lim < (theta - median q.last8).natAbs then
    modTtx c (fun q =>
      let n := q.rejectRun + 1
      let q := { q with reject := wrap 32 (q.reject + 1), rejectRun := n }
      if n ≥ 8 then { q with rejectRun := 0, sinceRestart := 0, last8 := [] } else q) s
  else
    let w := wOf s c
    let lr := lambdaRxOf s c
    let s := modTtx c (fun q =>
      let win := match q.window with
        | (k, a, b) :: r => (k + 1, a + theta, b + (theta * theta).toNat) :: r
        | [] => [(1, theta, (theta * theta).toNat)]
      { q with theta, thetaRaw := raw, meanDelay := delay.toNat, last8 := (theta :: q.last8).take 8,
               sinceRestart := min 8 (q.sinceRestart + 1), rejectRun := 0, window := win, wTerm := w, lambdaRx := lr,
               exchanges := wrap 32 (q.exchanges + 1), lastAt := some s.timing.now }) s
    lambdaCheck c s

/-- An OSTC exchange queues one two-step `TTX` message (R529). -/
def queueTtx (c : Carrier) (s : Device) : Device :=
  let q := s.ttx.get c
  let n := q.seq
  let s' := modTtx c (fun q => { q with seq := wrap 16 (n + 1) }) s
  if txqFull s c then recDiscard c 1 s'
  else
    let r := withRx s c { baseRec s c with seq := n }
    let r := match q.prevMark with | some (k, t) => { r with txRef := k, tx := (fibreTx s c t).toNat } | none => r
    queueOn c false { type := 1, payload := recBytes r } s'

/-- TTX_EXCHANGE: settings take force, the path follows, and θ is computed from the records accepted since the last
exchange (R531 to R537). -/
def ttxExchange (c : Carrier) (s : Device) : Device :=
  let s := updatePath c (exchangeSettings c s)
  let recs := (s.ttx.get c).recs
  let s := modTtx c (fun q => { q with recs := [] }) s
  if (s.ttx.get c).path = 0 then evalServo c s
  else
    let s := if (s.ttx.get c).path = 2 then queueTtx c s else s
    let first := recs.head?.map (·.calSeq)
    let good := recs.filter fun q => some q.calSeq = first
    let s := recDiscard c (recs.length - good.length) s
    let ps := ttxPairs s c good
    let s :=
      if ps.isEmpty then s
      else
        let n : Int := ps.length
        let raw := sumInt (ps.map (·.1)) / (2 * n)
        let delay := sumInt (ps.map (·.2)) / (2 * n)
        takeTheta c (raw + tenthPs (calTerm2 s c) / 2) raw delay s
    evalServo c s

/-- Slow-tick work of time transfer: delays, the servo's validity (R518, R536). -/
def ttxSlowTick (c : Carrier) (s : Device) : Device := evalServo c (delaySlowTick c s)

/-- Epoch work: the averaging window moves on (R546). -/
def ttxEpoch (c : Carrier) (s : Device) : Device :=
  modTtx c (fun q => { q with window := ((0, 0, 0) :: q.window).take 256 }) s

/-! ### PTP -/

/-- The lane is the first of an Ethernet client (R540). -/
def ethFirst (s : Device) (l : Nat) : Bool := (plan s).clients.any fun k => k.lane = l && k.eth

/-- PTP_EVENT_FRAME: an event message is recorded or rewritten by the port's mode (R540 to R543). -/
def ptpEventFrame (i : PtpIn) (s : Device) : Device :=
  if !ethFirst s i.port || 3 < i.messageType || !tb (dsetN s 0x0905 i.port 3) i.encap then s
  else
    let adj := dset s 0x0905 i.port 4 * 65536 / 1000
    let t : Time := ((i.at_ : Int) + adj).toNat
    let mode := dsetN s 0x0905 i.port (if i.egress then 2 else 1)
    if mode = 0 then s
    else if mode = 1 then
      raiseAt t 0x0904 i.port 0 (le 1 (bit i.egress) ++ le 1 i.messageType ++ le 1 i.domain ++ zeros 1 ++
        le 2 i.sequence ++ le 4 i.identity) s
    else if !i.egress then emit (.ptp i.port 0 (-(t : Int))) s
    else if mode = 2 then
      if i.messageType = 0 && !i.twoStep then emit (.ptp i.port t 0) s else s
    else emit (.ptp i.port 0 t) s

/-- The end of a slow tick in which `PTP_REC_DROP` grew raises the fault (R550). -/
def ptpSlowTick (s : Device) : Device :=
  if s.timing.ptpDropTick then fault 0x0904 0 [] (modTiming (fun t => { t with ptpDropTick := false }) s) else s

/-! ### Commands -/

/-- TTX_CONFIG: `ttx_rate` is at most 16 on the OSTC path (R544). -/
def ttxConfigCmd : Cmd where
  field s r off :=
    if off = 2 then
      rd r.params 2 2 ≤ 16 || !(rd r.params 1 1 = 2 || !native s r.car)
    else true
  act := does fun r s => acceptFields 0x0900 r.tgt r.params s

/-- TTX_CAL_SET (R537, R538, R545): a wavelength is 0 or from 1,260,000 pm. -/
def ttxCalSetCmd : Cmd where
  field _ r off := if off = 16 || off = 20 then rd r.params off 4 = 0 || 1260000 ≤ rd r.params off 4 else true
  back s r := [(25, le 1 (bit (s.ttx.get r.car).persist))]
  act := does fun r s =>
    modTtx r.car (fun q => { q with persist := rd r.params 25 1 = 1 }) (acceptFields 0x0901 r.tgt r.params s)

/-- Buckets of the averaging window (R546). -/
def avgWindow (s : Device) (c : Carrier) : List (Nat × Int × Nat) := (s.ttx.get c).window.take (csetN s c 0x0900 5)

/-- Integer square root by bisection over `k` bits. -/
def isqrt (k n r : Nat) : Nat :=
  match k with
  | 0 => r
  | k + 1 => let t := r + 2 ^ k; isqrt k n (if t * t ≤ n then t else r)

/-- Mean and standard deviation of θ over the window. -/
def thetaStats (s : Device) (c : Carrier) : Int × Nat :=
  let w := avgWindow s c
  let n := w.foldl (fun a p => a + p.1) 0
  let sum := sumInt (w.map fun p => p.2.1)
  let sq := w.foldl (fun a p => a + p.2.2) 0
  if n = 0 then (0, 0)
  else
    let var := (sq * n - (sum * sum).toNat) / (n * n)
    (sum / (n : Int), isqrt 64 var 0)

/-- TTX_STATUS (R546). -/
def ttxStatusCmd : Cmd where
  act := reads fun s r =>
    let c := r.car
    let q := s.ttx.get c
    let f := q.far
    let st := thetaStats s c
    le 1 q.path ++
      le 1 (bit q.valid + 2 * bit (f.any fun x => x.timeOk) + 4 * bit (f.any fun x => x.follows) +
        8 * bit (lambdaTxOf s c ≠ 0 && lambdaRxOf s c ≠ 0) + 16 * bit (otpCal s c) + 32 * bit s.timing.secondsSet) ++
      le 1 ((f.map fun x => x.ql).getD 0) ++ le 1 ((f.map fun x => x.calSeq).getD 0) ++ leInt 8 q.theta ++
      leInt 8 q.thetaRaw ++ leInt 8 st.1 ++ le 4 (sat 32 st.2) ++ le 8 q.meanDelay ++ leInt 4 q.wTerm ++
      le 4 (match f with | some x => (match x.cd with | some k => toCode 32 k | none => 0x80000000) | none => 0x80000000) ++
      le 4 q.lambdaRx ++ le 4 ((f.map fun x => x.lambdaRx).getD 0) ++ le 4 q.exchanges ++ le 4 q.reject ++ le 4 q.recBad ++
      timeBytes10 (q.lastAt.getD 0) ++ zeros 2

/-- TTX_DELAY_READ (R547). -/
def ttxDelayReadCmd : Cmd where
  act := reads fun s r =>
    let c := r.car
    let q := s.ttx.get c
    let m := modeOf s c
    leInt 8 ((m.map fun x => x.dTx).getD 0) ++ leInt 8 (fsUnits q.anaTx) ++ leInt 8 ((m.map fun x => x.dRx).getD 0) ++
      leInt 8 (fsUnits q.anaRx) ++ leInt 4 (convTemp s c) ++ leInt 4 (convTemp s c) ++ leInt 4 (s.rx.get c).delayCorr ++
      leInt 8 ((m.map fun x => x.dOstc).getD 0)

/-- TTX_TIME_SET (R515, R548). -/
def ttxTimeSetCmd : Cmd where
  state s _ :=
    match s.timing.selected with
    | some i => if candKind s i = 2 then some (.notPermitted, 0) else none
    | none => none
  act := does fun r s => modTiming (fun t => { t with timeSet := some (rd r.params 0 6, 0) }) s

/-- PTP_PORT_CONFIG (R549). -/
def ptpPortConfigCmd : Cmd where
  field s r off := if off = 0 then ethFirst s (rd r.params 0 1) else true
  act := does fun r s => acceptFields 0x0905 0 r.params s

end Sys2Proof.Machine
end

