-- ==== Sys2Proof/Machine/Stack.lean ====
section
/-!
DEFINITION. The stack bus (17_stack_bus_and_stacking): port states, roles, stack time, forwarding, messages and
proxied commands, and the commands of class 0x0D.
-/
namespace Sys2Proof.Machine
open Sys2Proof

/-! ### Ports (Table 17-1) -/

/-- Code of a port state (Table 17-8). -/
def SbState.code : SbState → Nat
  | .off => 0
  | .adapt => 1
  | .align => 2
  | .up => 3

/-- A port is enabled and out of reset on a device that is not standalone (Table 17-1). -/
def sbEnabled (s : Device) (p : Nat) : Bool :=
  tb (dsetN s 0x0D00 0 0) p && s.stack.acting ≠ .standalone && !inReset s (sbDomain p)

/-- A port starts adaptation; what was known of its peer is gone (Table 17-1). -/
def sbAdapt (p : Nat) (s : Device) : Device :=
  modPort p (fun q => { q with state := .adapt, peerId := none, peerPort := none, peer := none, good := 0, bad := 0,
                               adaptTicks := 0, better := 0 }) s

/-- A port goes to `SB_OFF`. -/
def sbOff (p : Nat) (s : Device) : Device :=
  modPort p (fun q => { q with state := .off, peerId := none, peerPort := none, peer := none, good := 0, bad := 0,
                               adaptTicks := 0, better := 0 }) s

/-- The counters and queues of a port in reset of its domain (R694, R697). -/
def sbReset (p : Nat) (s : Device) : Device := modPort p (fun _ => {}) s

/-- An echo canceller has converged and a mark is found (Table 17-1). -/
def stackPortAlign (p : Fin 4) (s : Device) : Device :=
  if (sbPort s p.val).state = .adapt then
    modPort p.val (fun q => { q with state := .align, good := 0, bad := 0 }) s
  else s

/-- 64 good frames in a row and a complete delay calibration, which measured `intDelay` × 0.01 ps (Table 17-1,
R678). -/
def stackPortUp (p : Fin 4) (intDelay : Nat) (s : Device) : Device :=
  let q := sbPort s p.val
  if q.state = .align && 64 ≤ q.good then modPort p.val (fun q => { q with state := .up, bad := 0, intDelay }) s else s

/-- 50 ms in `SB_ADAPT` without convergence (Table 17-1). -/
def stackAdaptRestart (p : Fin 4) (s : Device) : Device :=
  let q := sbPort s p.val
  if q.state = .adapt && 50000 ≤ q.adaptTicks then
    modPort p.val (fun q => { q with adaptTicks := 0, adaptRestart := wrap 32 (q.adaptRestart + 1) }) s
  else s

/-! ### Roles (R676, R677, R690 to R692) -/

/-- Code of an acting role (Table 17-7). -/
def Acting.code : Acting → Nat
  | .standalone => 0
  | .actingMaster => 1
  | .standby => 2
  | .member => 3

/-- Take a role; the counts of R690 start again. -/
def setRole (a : Acting) (s : Device) : Device :=
  modStack (fun k => { k with
    acting := a
    standby := if a = .standby then some k.stackId else if k.standby = some k.stackId then none else k.standby
    missAny := 0
    seenUp := false }) s

/-- Change role with its event (R690; Table 22-12: cause 0 takeover, 1 hand-over, 2 conflict, 3 returning master). -/
def changeRole (a : Acting) (cause : Nat) (s : Device) : Device :=
  raise 0x0D03 0 0 (le 1 s.stack.acting.code ++ le 1 a.code ++ le 1 cause) (setRole a s)

/-- The device acts as master from now on with σ as it stands (R680). -/
def takeMaster (s : Device) : Device :=
  modStack (fun k => { k with
    master := some k.stackId, upstream := none, hops := 0, spread := 0, spreadTicks := 0, theta := (0, 0),
    stepCause := none, valid := true, validDue := false, missRun := 0, okRun := 0, handover := none }) s

/-- The device stops acting as master; it follows `m`. -/
def followMaster (m : Option Nat) (s : Device) : Device :=
  modStack (fun k => { k with
    master := m, upstream := none, theta := (0, 0), stepCause := some 1, okRun := 0, missRun := 0 }) s

/-- The role a device that stops acting takes: the strapped master and the deputy stand by (R676, R690). -/
def restRole (s : Device) : Acting := if s.stack.strapRole = 1 || s.stack.strapRole = 2 then .standby else .member

/-- An acting master receives time words of another one (R677, R691; log 20). -/
def roleConflict (m : Nat) (s : Device) : Device :=
  let s := fault 0x0D04 0 [] s
  let far : Option Nat := Tab.get (fun _ => none) s.stack.roles m
  if s.stack.strapRole = 1 && far ≠ some 1 then followMaster (some m) (changeRole .standby 3 s)
  else if s.stack.strapRole = 2 && far ≠ some 2 then s
  else if m < s.stack.stackId then followMaster (some m) (changeRole (restRole s) 2 s)
  else s

/-- The 200 µs listen of a strapped master ends (R676). -/
def stackMasterListenEnd (s : Device) : Device :=
  if !s.stack.listening || s.stack.listenTicks < 200 then s
  else
    let heard := s.stack.heardMaster
    let s := modStack (fun k => { k with listening := false, listenTicks := 0, heardMaster := false }) s
    if heard then setRole .standby s
    else takeMaster (setRole .actingMaster (modStack (fun k => { k with sigma := 0 }) s))

/-- The standby has received no `MASTER_OK` for 100 control ticks; not while a hand-over to it is announced
(R690). -/
def stackTakeover (s : Device) : Device :=
  let k := s.stack
  if k.acting = .standby && k.seenUp && 100 ≤ k.missAny && !(k.handover.any fun h => h.1 = k.stackId) then
    let s := changeRole .actingMaster 0 s
    let s := takeMaster (modStack (fun k => { k with takeovers := wrap 32 (k.takeovers + 1) }) s)
    fault 0x0D03 0 [] (faultOff 0x0D02 0 s)
  else s

/-- The announced hand-over second starts (R692). -/
def stackHandoverInstant (s : Device) : Device :=
  match s.stack.handover with
  | none => s
  | some (heir, sec) =>
    if toStack s s.timing.now < sec * SEC then s
    else if heir = s.stack.stackId then
      faultOff 0x0D02 0 (takeMaster (changeRole .actingMaster 1 s))
    else if s.stack.acting = .actingMaster then
      let s := changeRole .standby 1 s
      modStack (fun k => { k with handover := none }) (followMaster (some heir) s)
    else modStack (fun k => { k with handover := none, master := some heir, standby := k.master, stepCause := some 1,
                                     okRun := 0 }) s

/-! ### Stack time (R678 to R682, R693) -/

/-- Hops that a port offers to the acting master that the device follows (R681). -/
def offers (s : Device) (p : Nat) : Option Nat :=
  let q := sbPort s p
  match q.peer with
  | some w => if q.state = .up && w.master.isSome && w.master = s.stack.master then some w.hops else none
  | none => none

/-- The better of two ports: fewer hops, then the lower number (R681). -/
def betterPort (s : Device) (b : Option Nat) (p : Nat) : Option Nat :=
  match b with
  | none => if (offers s p).isSome then some p else none
  | some q =>
    match offers s p, offers s q with
    | some x, some y => if x < y then some p else some q
    | _, _ => some q

/-- The port with the fewest hops (R681). -/
def bestPort (s : Device) : Option Nat := [0, 1, 2, 3].foldl (betterPort s) none

/-- The port that the device changes its upstream to, if it does (R681). -/
def nextUpstream (s : Device) : Option Nat :=
  let present := s.stack.upstream.any fun u => (offers s u).isSome
  if present then
    ([0, 1, 2, 3].filter fun p => 1000 ≤ (sbPort s p).better && some p ≠ s.stack.upstream).foldl (betterPort s) none
  else bestPort s

/-- The upstream port changes (R681). -/
def stackUpstreamChange (s : Device) : Device :=
  if s.stack.acting = .actingMaster || s.stack.acting = .standalone then s
  else
    match nextUpstream s with
    | some p =>
      let s := each [0, 1, 2, 3] (fun i s => modPort i (fun q => { q with better := 0 }) s) s
      modStack (fun k => { k with upstream := some p, hops := ((offers s p).getD 0) + 1, theta := (0, 0), okRun := 0,
                                  stepCause := some (k.stepCause.getD 0) }) s
    | none =>
      if s.stack.upstream.any fun u => (sbPort s u).state ≠ .up then modStack (fun k => { k with upstream := none }) s
      else s

/-- The first update of σ after 1,000 good frames has been made (R680). -/
def stackTimeValid (s : Device) : Device :=
  if s.stack.validDue then faultOff 0x0D02 0 (modStack (fun k => { k with valid := true, validDue := false }) s) else s

/-- Four control ticks without a `MASTER_OK` frame (R680, R693). -/
def stackMasterLost (s : Device) : Device :=
  let k := s.stack
  if k.valid && 4 ≤ k.missRun && k.acting ≠ .actingMaster && k.acting ≠ .standalone then
    faultOn 0x0D02 0 [] (modStack (fun k => { k with valid := false, validDue := false, okRun := 0, spread := 0,
                                                     spreadTicks := 0 }) s)
  else s

/-- The change of σ that a slow tick gives: the mean of θ, kept doubled in the sum (R679). -/
def sigmaChange (k : StackSt) : Int := k.theta.1 / (2 * (k.theta.2 : Int))

/-- The update of σ at a slow-tick boundary (R679, R681). -/
def sigmaUpdate (s : Device) : Device :=
  let k := s.stack
  let s' := modStack (fun k => { k with theta := (0, 0) }) s
  if k.acting = .actingMaster || k.acting = .standalone || k.upstream.isNone || k.theta.2 = 0 ||
      !(k.valid || 1000 ≤ k.okRun) then s'
  else
    let d := sigmaChange k
    let s' := modStack (fun k => { k with sigma := k.sigma + k.spread, spread := d, spreadTicks := 1000,
                                          validDue := k.validDue || !k.valid, stepCause := none }) s'
    match k.stepCause with
    | some c => if d.natAbs * 10000 > 65536 then raise 0x0D01 0 0 (fields 12 [(0, le 1 c), (4, leInt 8 d)]) s' else s'
    | none => s'

/-- One control tick of the spread of a change of σ (R679). -/
def sigmaStep (s : Device) : Device :=
  let k := s.stack
  if k.spreadTicks = 0 then s
  else
    let d := k.spread / (k.spreadTicks : Int)
    modStack (fun k => { k with sigma := k.sigma + d, spread := k.spread - d, spreadTicks := k.spreadTicks - 1 }) s

/-! ### Frames received (R672, R674, R683) -/

/-- A time word of a good frame in `SB_UP`: the acting master it names (R676, R677, R681; log 20). -/
def noteMaster (p : Nat) (w : TimeWord) (s : Device) : Device :=
  if s.stack.acting = .actingMaster then
    if w.isMaster && w.sender ≠ s.stack.stackId then roleConflict w.sender s else s
  else
    let m : Option Nat :=
      if w.isMaster then some w.sender
      else if w.masterOk && (s.stack.master.isNone || s.stack.upstream = some p || !s.stack.valid) &&
          w.master ≠ some s.stack.stackId then w.master
      else none
    match m with
    | none => s
    | some m =>
      if s.stack.master = some m then s
      else modStack (fun k => { k with master := some m, stepCause := some 1, okRun := 0, theta := (0, 0) }) s

/-- θ of R679, doubled, and the one-way delay of the link (R697), from the stamps of a time word. -/
def exchangeStamps (p : Nat) (w : TimeWord) (t4 : Int) (s : Device) : Device :=
  let t1 := (sbPort s p).stMark
  let a := (w.stRx : Int) - t1
  let b := t4 - (w.stMark : Int)
  let s := modPort p (fun q => { q with linkDelay := ((a + b) / 2 * 1000 / 65536).toNat }) s
  if s.stack.upstream = some p then
    modStack (fun k => { k with theta := (k.theta.1 + (a - b), k.theta.2 + 1) }) s
  else s

/-- What the time word of a good frame in `SB_UP` does (R674, R679 to R681). -/
def actWord (p : Nat) (w : TimeWord) (s : Device) : Device :=
  let ok := w.masterOk && w.master.isSome && w.master = s.stack.master
  let up := s.stack.upstream = some p
  let s := modStack (fun k => { k with okAny := k.okAny || ok }) s
  if up then
    let s := modStack (fun k => { k with
      okRun := if ok then min 1000 (k.okRun + 1) else 0
      okTick := k.okTick || ok
      hops := if ok then w.hops + 1 else k.hops
      ql := if ok then w.ql else k.ql
      handover := if ok then (if w.handover then w.hoTo.map (·, w.hoS) else none) else k.handover }) s
    if ok then qlArrives 10 w.ql s else s
  else
    let fewer : Bool := match offers s p, s.stack.upstream.bind (offers s) with
      | some x, some y => decide (x < y)
      | _, _ => false
    modPort p (fun q => { q with better := if fewer then min 1000 (q.better + 1) else 0 }) s

/-- Ports on which an item received on `p` is forwarded (R683). -/
def others (p : Nat) (s : Device) : List Nat := upPorts s (some p)

/-- A group record received: forwarded once (R683). It is used by GROUP_RECORD_RECEIVED. -/
def takeRec (p : Nat) (x : GrpRecItem) (s : Device) : Device :=
  if 8 ≤ x.hops + 1 then s
  else match noteSeen [0, x.origin, x.grp, x.member, x.g] s with
    | none => s
    | some s => each (others p s) (fun i s => modPort i (fun q => { q with recs := q.recs ++ [{ x with hops := x.hops + 1 }] }) s) s

/-- The latest group-state entry of an origin for a group, with the slow ticks since it came. -/
def grpState (s : Device) (grp origin : Nat) : Option (GrpStateItem × Nat) :=
  Tab.get (fun _ => none) s.stack.grpStates (8 * grp + origin)

/-- A group-state entry is later than the one held: its sequence leads modulo 16, or that one has aged (R675, R683;
log 16). -/
def laterState (s : Device) (x : GrpStateItem) : Bool :=
  match grpState s x.grp x.origin with
  | none => true
  | some (y, age) =>
    let d := (x.seq + 16 - y.seq % 16) % 16
    (1 ≤ d && d ≤ 7) || 3 ≤ age

/-- A group-state entry received: held and forwarded once (R683). -/
def takeState (p : Nat) (x : GrpStateItem) (s : Device) : Device :=
  if 8 ≤ x.hops + 1 || x.origin = s.stack.stackId || !laterState s x then s
  else
    let s := modStack (fun k => { k with grpStates := Tab.set (fun _ => none) k.grpStates (8 * x.grp + x.origin) (some (x, 0)) }) s
    each (others p s) (fun i s => modPort i (fun q => { q with states := q.states ++ [{ x with hops := x.hops + 1 }] }) s) s

/-- A stack-wide trigger received: it reaches the slots here and is forwarded once (R619, R683). -/
def takeTrig (p : Nat) (x : TrigItem) (s : Device) : Device :=
  if 8 ≤ x.hops + 1 then s
  else match noteSeen [2, x.origin, x.seq] s with
    | none => s
    | some s =>
      let s := stackTrigHere x.t s
      each (others p s) (fun i s => modPort i (fun q => { q with trigs := q.trigs ++ [{ x with hops := x.hops + 1 }] }) s) s

/-- An OSTC relay received: the member it names queues its message; it is forwarded once (R683, R688). -/
def takeRelay (p : Nat) (x : RelayItem) (s : Device) : Device :=
  if 8 ≤ x.hops + 1 then s
  else match noteSeen [1, x.origin, x.seq] s with
    | none => s
    | some s =>
      let s := if x.dest = s.stack.stackId then
          queueRx (Carrier.ofNum x.carrier) { msg := { x.msg with dest := 0xFF }, path := 0, toneSnr := 0, mark := 0 } s
        else s
      each (others p s) (fun i s => modPort i (fun q => { q with relays := q.relays ++ [({ x with hops := x.hops + 1 }, 0)] }) s) s

/-- A message received: forwarded once (R683). Its own command uses it. -/
def takeMsg (p : Nat) (x : SbMsg) (s : Device) : Device :=
  if 8 ≤ x.hops + 1 then s
  else match noteSeen [3, x.origin, x.seq] s with
    | none => s
    | some s => each (others p s) (fun i s => queueMsg i { x with hops := x.hops + 1 } s) s

/-- A good frame in `SB_UP`: its time word and its items (R683). -/
def actFrame (f : StackFrame) (s : Device) : Device :=
  let p := f.port.val
  let t4 := (f.arrival : Int) + s.stack.sigma
  let s := modPort p (fun q => { q with peerId := some f.word.sender, peerPort := some f.word.senderPort,
                                        peer := some f.word, bad := 0, stRx := t4 }) s
  let s := exchangeStamps p f.word t4 (actWord p f.word (noteMaster p f.word s))
  let s := each f.recs (takeRec p) s
  let s := each f.states (takeState p) s
  let s := each f.trigs (takeTrig p) s
  let s := match f.relay with | some x => takeRelay p x s | none => s
  each f.msgs (takeMsg p) s

/-- A stack frame is received on a port (R671, R672). -/
def stackFrameReceived (f : StackFrame) (s : Device) : Device :=
  let p := f.port.val
  let q := sbPort s p
  let ok := f.markOk && f.crcOk
  let s := if f.markOk && !f.crcOk && (q.state = .align || q.state = .up) then
      modPort p (fun q => { q with crcErr := wrap 32 (q.crcErr + 1) }) s else s
  let s := if ok && (q.state = .align || q.state = .up) && f.word.isMaster && s.stack.listening then
      modStack (fun k => { k with heardMaster := true }) s else s
  match q.state with
  | .off => s
  | .adapt => s
  | .align =>
    if ok then
      modPort p (fun q => { q with good := min 64 (q.good + 1), bad := 0, peerId := some f.word.sender,
                                   peerPort := some f.word.senderPort, peer := some f.word,
                                   stRx := (f.arrival : Int) + s.stack.sigma }) s
    else if 4 ≤ q.bad + 1 then sbAdapt p s
    else modPort p (fun q => { q with good := 0, bad := q.bad + 1 }) s
  | .up =>
    if ok then actFrame f s
    else if 4 ≤ q.bad + 1 then
      fault 0x0D01 p [] (modPort p (fun q => { q with downCount := wrap 32 (q.downCount + 1) }) (sbAdapt p s))
    else modPort p (fun q => { q with bad := q.bad + 1 }) s

/-! ### Frames sent (R673 to R675, R684, R685, R688) -/

/-- The time word that a device sends on a port at a stack time (Table 17-3). -/
def timeWord (s : Device) (p : Nat) (mark : Time) : TimeWord :=
  let k := s.stack
  let am := k.acting = .actingMaster
  { sender := k.stackId, senderPort := p, master := k.master, hops := if am then 0 else k.hops,
    masterOk := am || k.valid, isMaster := am, handover := k.handover.isSome,
    ql := if am then qlOut s else k.ql, hoTo := k.handover.map (·.1), stMark := mark,
    stRx := (sbPort s p).stRx.toNat, hoS := (k.handover.map (·.2)).getD 0 }

/-- Bytes of a message on the bus (R685). -/
def msgLen (auth : Bool) (m : SbMsg) : Nat := 16 + m.body.length + (if auth then 16 else 0)

/-- Order of messages: responses, then requests, then events and HELLOs (R685). -/
def msgRank (m : SbMsg) : Nat := if m.type = 1 then 0 else if m.type = 0 then 1 else 2

/-- The queue in order of sending. -/
def msgOrder (q : List SbMsg) : List SbMsg :=
  (q.filter fun m => msgRank m = 0) ++ (q.filter fun m => msgRank m = 1) ++ q.filter fun m => msgRank m = 2

/-- The messages of a list that fit in `room` bytes, back to back: the first that does not fit waits, and those after
it. -/
def fitMsgs (auth : Bool) (room : Nat) (q : List SbMsg) : List SbMsg × List SbMsg :=
  match q with
  | [] => ([], [])
  | m :: r =>
    if msgLen auth m ≤ room then
      let x := fitMsgs auth (room - msgLen auth m) r
      (m :: x.1, x.2)
    else ([], m :: r)

/-- Relays that a frame leaves waiting have waited one frame more; after 16 they are dropped (R688). -/
def ageRelays (l : List (RelayItem × Nat)) : List (RelayItem × Nat) × Nat :=
  let aged := l.map fun x => (x.1, x.2 + 1)
  (aged.filter fun x => x.2 < 16, (aged.filter fun x => 16 ≤ x.2).length)

/-- One port sends its frame at a control-tick boundary (R673 to R675, R684). -/
def sendFrame (p : Nat) (s : Device) : Device :=
  let q := sbPort s p
  if q.state = .off then s
  else
    let mark := toStack s s.timing.now
    let word := timeWord s p mark
    if q.state ≠ .up then
      let w := ageRelays q.relays
      let s := modPort p (fun q => { q with stMark := mark, relays := w.1 }) s
      let s := modStack (fun k => { k with msgDrop := wrap 32 (k.msgDrop + w.2), dropTick := k.dropTick || w.2 ≠ 0 }) s
      emit (.stack p word [] [] [] none []) s
    else
      let auth := dset s 0x0D00 0 1 = 1
      let ready := q.trigs.filter fun x => x.origin ≠ s.stack.stackId || x.t + 200 * NS ≤ mark
      let trigs := ready.take 4
      let w := ageRelays (q.relays.drop 1)
      let m := fitMsgs auth 4864 (msgOrder q.queue)
      let s := modPort p (fun q => { q with
        stMark := mark, recs := q.recs.drop 8, states := q.states.drop 16,
        trigs := q.trigs.filter (fun x => x ∉ trigs), relays := w.1, queue := m.2 }) s
      let s := modStack (fun k => { k with msgDrop := wrap 32 (k.msgDrop + w.2), dropTick := k.dropTick || w.2 ≠ 0 }) s
      emit (.stack p word (q.recs.take 8) (q.states.take 16) trigs (q.relays.head?.map (·.1)) m.1) s

/-- Ports are enabled, disabled and adapt (Table 17-1). -/
def portTick (p : Nat) (s : Device) : Device :=
  let q := sbPort s p
  if !sbEnabled s p then (if q.state = .off then s else sbOff p s)
  else match q.state with
    | .off => sbAdapt p s
    | .adapt => modPort p (fun q => { q with adaptTicks := q.adaptTicks + 1 }) s
    | _ => s

/-- Counts of a control tick: frames of the acting master, HELLOs and the listen (R676, R680, R687, R690). -/
def stackCounts (s : Device) : Device :=
  let up := !(upPorts s none).isEmpty
  modStack (fun k => { k with
    missRun := if k.okTick then 0 else min 1000 (k.missRun + 1)
    missAny := if k.okAny then 0 else if k.seenUp || up then min 100 (k.missAny + 1) else 0
    seenUp := k.seenUp || up
    okTick := false
    okAny := false
    hello := Tab.mapAll (fun _ => none) k.hello fun _ a => a.map fun n => min 3000 (n + 1)
    helloAge := min 1000 (k.helloAge + 1)
    listenTicks := if k.listening then min 200 (k.listenTicks + 1) else 0 }) s

/-- The stack bus at a control-tick boundary. -/
def stackControlTick (s : Device) : Device :=
  if s.stack.acting = .standalone && !s.stack.listening then each [0, 1, 2, 3] portTick s
  else
    let s := stackCounts (sigmaStep s)
    let s := each [0, 1, 2, 3] portTick s
    each [0, 1, 2, 3] sendFrame s

/-! ### Group state (R683) -/

/-- Members of a group on this device. -/
def membersHere (s : Device) (g : Nat) : List GroupMember :=
  ((plan s).groups.filter fun p => p.group = g).flatMap fun p => p.members.filter fun m => m.stack = s.stack.stackId

/-- The ODUCn path state of a group whose member 0 is on this device: bits [19:8] of Table 7-11 of its carrier. -/
def groupPath (s : Device) (m : GroupMember) : BitVec 12 := (s.line.get m.carrier).line.reported.extractLsb' 8 12

/-- Originate a group-state entry for a group with members here (R683). -/
def sendGroupState (g : Nat) (s : Device) : Device :=
  let ms := membersHere s g
  if ms.isEmpty then s
  else
    let zero := ms.find? fun m => m.index = 0
    let n := Tab.get (fun _ => 0) s.stack.grpSeq g
    let x : GrpStateItem :=
      { grp := g, origin := s.stack.stackId, hops := 0, loa := (Tab.get (fun _ => ({} : GroupSt)) s.tribs.groups g).loa,
        carries0 := zero.isSome, state := (zero.map (groupPath s)).getD 0, seq := n }
    let s := modStack (fun k => { k with grpSeq := Tab.set (fun _ => 0) k.grpSeq g ((n + 1) % 16) }) s
    each (upPorts s none) (fun p s => modPort p (fun q => { q with states := q.states ++ [x] }) s) s

/-! ### Messages (R685 to R687, R689; R832) -/

/-- The verdict on a message of the stack: with `stack_auth` its tag and counter count under context STACK (R415,
R685). Failures are counted on both carriers (log 18). -/
def stackAuth (m : SbMsg) (tagOk : Bool) (s : Device) : Bool × Device :=
  if dset s 0x0D00 0 1 = 0 then (true, s)
  else
    let x := authMessage .a 4 m.origin m.counter tagOk false s
    if x.1 then x
    else
      let a := s.crypto.a
      let b := x.2.crypto.a
      (false, modCrypto .b (fun q => { q with kmeAuthFail := wrap 32 (q.kmeAuthFail + (b.kmeAuthFail - a.kmeAuthFail)),
                                              kmeReplay := wrap 32 (q.kmeReplay + (b.kmeReplay - a.kmeReplay)) }) x.2)

/-- Set the bitmap of members with its event (R687). -/
def setMembers (v : BitVec 8) (s : Device) : Device :=
  if v = s.stack.members then s
  else raise 0x0D02 0 0 (le 1 s.stack.members.toNat ++ le 1 v.toNat) (modStack (fun k => { k with members := v }) s)

/-- Every 1 ms a device sends a HELLO (R687). -/
def helloSend (s : Device) : Device :=
  if s.stack.acting = .standalone || s.stack.helloAge < 1000 then s
  else
    let s := modStack (fun k => { k with helloAge := 0 }) s
    sendMsg 3 0xFF (le 1 s.stack.strapRole ++ le 1 s.stack.acting.code ++ le 1 s.stack.stackId) s

/-- A HELLO arrives (R677, R687). -/
def helloReceived (m : SbMsg) (tagOk : Bool) (s : Device) : Device :=
  let x := stackAuth m tagOk s
  if !x.1 || m.type ≠ 3 then x.2
  else
    let s := x.2
    let id := rd m.body 2 1 % 8
    let act := rd m.body 1 1
    if id = s.stack.stackId then
      faultOn 0x0D05 0 [] (modStack (fun k => { k with
        idConflict := true, hello := Tab.set (fun _ => none) k.hello id (some 0) }) s)
    else
      let s := modStack (fun k => { k with
        hello := Tab.set (fun _ => none) k.hello id (some 0)
        roles := Tab.set (fun _ => none) k.roles id (some (rd m.body 0 1))
        standby := if act = 2 then some id else if k.standby = some id then none else k.standby }) s
      setMembers (s.stack.members ||| (1#8 <<< id)) s

/-- A member leaves: what it had answered `PENDING` is reported `STACK_UNREACHABLE` (R832). -/
def memberLeaves (m : Nat) (s : Device) : Device :=
  let gone := s.stack.proxyPend.filter fun x => x.1 = m
  let s := modStack (fun k => { k with proxyPend := k.proxyPend.filter fun x => x.1 ≠ m }) s
  each gone (fun x s => raise 0x0001 x.2.mb 0
    (le 1 x.2.mb ++ le 1 Status.stackUnreachable.code ++ le 2 x.2.op ++ le 2 x.2.seq) s) s

/-- No HELLO of a member for 3 ms (R687); a conflict over the own `STACK_ID` ends the same way (R677). -/
def memberHelloTimeout (m : Fin 8) (s : Device) : Device :=
  match (Tab.get (fun _ => none) s.stack.hello m.val : Option Nat) with
  | none => s
  | some age =>
    if age < 3000 then s
    else if m.val = s.stack.stackId then
      faultOff 0x0D05 0 (modStack (fun k => { k with
        idConflict := false, hello := Tab.set (fun _ => none) k.hello m.val none }) s)
    else
      let s := modStack (fun k => { k with
        hello := Tab.set (fun _ => none) k.hello m.val none
        standby := if k.standby = some m.val then none else k.standby }) s
      memberLeaves m.val (setMembers (s.stack.members &&& ~~~(1#8 <<< m.val)) s)

/-- A response to a proxied command returns to its mailbox; a `PENDING` one is noted for its `DEFERRED_DONE` (R686,
R832). -/
def proxyResponseReceived (m : SbMsg) (tagOk : Bool) (s : Device) : Device :=
  let x := stackAuth m tagOk s
  if !x.1 || m.type ≠ 1 || m.dest ≠ s.stack.stackId then x.2
  else
    let s := x.2
    match (Tab.get (fun _ => []) s.stack.proxied m.origin : List ProxyCmd) with
    | [] => s
    | p :: rest =>
      if !p.sent || rd m.body 0 2 ≠ p.op || rd m.body 2 2 ≠ p.req.seq.toNat then s
      else
        let st := rd m.body 6 1
        let bytes := withCrc (put m.body 7 (le 1 (rd m.body 7 1 % 2 + 2)))
        let s := modStack (fun k => { k with proxied := Tab.set (fun _ => []) k.proxied m.origin rest }) s
        let s := if st = Status.pending.code then
            modStack (fun k => { k with proxyPend := k.proxyPend ++ [(m.origin, ⟨p.req.mb.val, p.op, p.req.seq.toNat⟩)] }) s
          else s
        sendHead m.origin (respond p.req.mb.val p.req.seq.toNat st bytes s)

/-- No response within `proxy_timeout` (R686). -/
def proxyTimeout (m : Fin 8) (s : Device) : Device :=
  let l : List ProxyCmd := Tab.get (fun _ => []) s.stack.proxied m.val
  match l.find? fun p => p.left = 0 with
  | none => s
  | some p =>
    let s := modStack (fun k => { k with proxied := Tab.set (fun _ => []) k.proxied m.val (l.erase p),
                                         proxyTimeouts := wrap 32 (k.proxyTimeouts + 1) }) s
    sendHead m.val (respond p.req.mb.val p.req.seq.toNat Status.timeout.code (respBytes p.op p.req ⟨.timeout, []⟩ false) s)

/-- The event record that 32 bytes spell, without its `seq` (Table 21-6). -/
def parseEvent (l : List Byte) : EventRec :=
  { type := rd l 0 2, source := rd l 2 2, sev := rd l 4 1, member := rd l 5 1, t := rdTime l 8, payload := slice l 20 12 }

/-- An event record that a member forwards: a `DEFERRED_DONE` of a command proxied to it is delivered as this
device's own (R832), any other record by the acting master (R689). -/
def forwardedEventReceived (m : SbMsg) (tagOk : Bool) (s : Device) : Device :=
  let x := stackAuth m tagOk s
  if !x.1 || m.type ≠ 2 then x.2
  else
    let s := x.2
    let e := parseEvent m.body
    let mine := if e.type = 0x0001 && e.source = 4 && m.dest = s.stack.stackId then
        s.stack.proxyPend.find? fun q => q.1 = m.origin && q.2.op = rd e.payload 2 2 && q.2.seq = rd e.payload 4 2
      else none
    match mine with
    | some q =>
      let s := modStack (fun k => { k with proxyPend := k.proxyPend.erase q }) s
      putEvq (s.evq ++ [{ e with source := q.2.mb, member := m.origin, payload := put e.payload 0 (le 1 q.2.mb) }]) s
    | none =>
      if s.stack.acting = .actingMaster && !(e.type = 0x0001 && e.source = 4 && m.dest = s.stack.stackId) then
        putEvq (s.evq ++ [{ e with member := m.origin }]) s
      else s

/-! ### Slow tick -/

/-- Proxied commands wait one slow tick more (R686). -/
def proxyAge (s : Device) : Device :=
  let f (_ : Nat) (l : List ProxyCmd) : List ProxyCmd := l.map fun p => { p with left := p.left - 1 }
  modStack (fun k => { k with proxied := Tab.mapAll (fun _ => []) k.proxied f }) s

/-- The stack bus at a slow-tick boundary: internal delays, σ, group state, proxied commands and the overflow fault
(R678, R679, R683, R686, R699). -/
def stackSlowTick (ms : List PortMeas) (s : Device) : Device :=
  let s := each ms (fun m s => modPort m.port (fun q => { q with intDelay := m.intDelay, snr := m.snr }) s) s
  let s := sigmaUpdate s
  let older (_ : Nat) (x : Option (GrpStateItem × Nat)) := x.map fun y => (y.1, min 3 (y.2 + 1))
  let s := modStack (fun k => { k with grpStates := Tab.mapAll (fun _ => none) k.grpStates older }) s
  let s := each ((plan s).groups.map (·.group)) sendGroupState s
  let s := proxyAge s
  let drop := s.stack.dropTick
  let s := modStack (fun k => { k with dropTick := false }) s
  if drop then fault 0x0D06 0 [] s else s

/-! ### Commands of class 0x0D -/

/-- STACK_CONFIG (R695). -/
def stackConfigCmd : Cmd where
  act := does fun r s => acceptFields 0x0D00 r.tgt r.params s

/-- STACK_STATUS (R696). -/
def stackStatusCmd : Cmd where
  act := reads fun s _ =>
    let k := s.stack
    fields 40 [(0, le 1 k.strapRole), (1, le 1 k.stackId), (2, le 1 k.acting.code), (3, le 1 (k.master.getD 0xFF)),
      (4, le 1 (k.standby.getD 0xFF)), (5, le 1 (k.upstream.getD 0xFF)), (6, le 1 k.hops),
      (7, le 1 (bit k.valid + 2 * bit k.handover.isSome + 4 * bit (ctxKeyed s 4))), (8, le 1 k.members.toNat),
      (12, leInt 8 k.sigma), (20, le 6 ((k.handover.map (·.2)).getD 0)), (28, le 4 k.takeovers),
      (32, le 4 k.proxyTimeouts), (36, le 4 k.msgDrop)]

/-- STACK_PORT_STATUS (R697). -/
def stackPortStatusCmd : Cmd where
  act := reads fun s r =>
    let q := sbPort s (rd r.params 0 1)
    fields 28 [(0, le 1 q.state.code), (1, le 1 (q.peerId.getD 0xFF)), (2, le 1 (q.peerPort.getD 0xFF)),
      (3, le 1 ((q.peer.map (·.hops)).getD 0)), (4, le 4 q.linkDelay), (8, le 4 q.intDelay), (12, le 4 q.crcErr),
      (16, le 4 q.downCount), (20, le 4 q.adaptRestart), (24, le 2 q.snr)]

/-- The standby is a member of the stack as HELLOs show it (R692). -/
def standbyPresent (s : Device) : Bool := s.stack.standby.any fun b => b < 8 && s.stack.members.getLsbD b

/-- STACK_HANDOVER (R692, R698). -/
def stackHandoverCmd : Cmd where
  state := fun s _ =>
    if s.stack.acting ≠ .actingMaster || !standbyPresent s then some (.notPermitted, 0)
    else if s.stack.handover.isSome then some (.busy, 0) else none
  act := does fun _ s =>
    let at_ := (toStack s s.timing.now + 10 * MS + SEC - 1) / SEC
    modStack (fun k => { k with handover := k.standby.map (·, at_) }) s

/-- STACK_CLEAR (R696, R697). -/
def stackClearCmd : Cmd where
  act := does fun _ s =>
    let s := modStack (fun k => { k with takeovers := 0, proxyTimeouts := 0, msgDrop := 0 }) s
    each [0, 1, 2, 3] (fun p s => modPort p (fun q => { q with crcErr := 0, downCount := 0, adaptRestart := 0 }) s) s

end Sys2Proof.Machine
end

