-- ==== Sys2Proof/Machine/Events.lean ====
section
/-!
DEFINITION. Event records and their destinations: the polled FIFO, the host DMA rings and their interrupts
(21_mailbox_interface R820 to R829), and RING_CONFIG.
-/
namespace Sys2Proof.Machine
open Sys2Proof

/-- A host ring. -/
def ring (s : Device) (k : Nat) : RingSt := Tab.get (fun _ => {}) s.host.rings k

/-- Change a host ring. -/
def modRing (k : Nat) (f : RingSt → RingSt) (s : Device) : Device :=
  modHost (fun h => { h with rings := Tab.modify (fun _ => {}) h.rings k f }) s

/-- The ring numbers. -/
def ringList : List Nat := List.range 64

/-- Bytes of an entry of a ring kind (Table 21-7). -/
def entrySize (kind : Nat) : Nat := if kind = 0 then 32 else if kind = 1 then 128 else 4096

/-- A ring is full (R825). -/
def ringFull (q : RingSt) : Bool := (q.head + 1) % q.entries = q.tail

/-- The MSI-X message of a ring, at most once per `coalesce_us` (R825, R827, Table 21-8). -/
def ringMsi (k : Nat) (s : Device) : Device :=
  let q := ring s k
  if q.vector = 0xFF then s
  else
    let free := q.coalesce = 0 || (match q.lastMsi with | none => true | some t => t + q.coalesce * US ≤ s.timing.now)
    if free then sendMsix q.vector (modRing k (fun q => { q with lastMsi := some s.timing.now, msiWaits := false }) s)
    else modRing k (fun q => { q with msiWaits := true }) s

/-- The device writes one entry: host memory, then `RING_HEAD`, then the message (R825). -/
def ringWrite (k : Nat) (bytes : List Byte) (s : Device) : Device :=
  let q := ring s k
  let s := emit (.dma (q.base + q.head * entrySize q.kind) bytes) s
  ringMsi k (modRing k (fun q => { q with head := (q.head + 1) % q.entries }) s)

/-- A coalescing interval ends with a message waiting (Table 21-8). -/
def msixCoalesceExpiry (k : Fin 64) (s : Device) : Device :=
  let q := ring s k.val
  if q.msiWaits && (match q.lastMsi with | none => true | some t => t + q.coalesce * US ≤ s.timing.now) then
    sendMsix q.vector (modRing k.val (fun q => { q with lastMsi := some s.timing.now, msiWaits := false }) s)
  else s

/-! ### Destinations (R821 to R823) -/

/-- Where a record goes: the polled FIFO (none) or a ring. -/
abbrev Dest := Option Nat

/-- The 32 bytes of an event record (Table 21-6). -/
def eventBytes (e : EventRec) (seq : Nat) : List Byte :=
  le 2 e.type ++ le 2 e.source ++ le 1 e.sev ++ le 1 e.member ++ le 2 seq ++ timeBytes e.t ++ fit 12 e.payload

/-- The destinations of a record (R821). -/
def destsOf (s : Device) (e : EventRec) : List Dest :=
  let c := e.type / 256
  let h := s.host
  let fifo := (h.fifoMask.getLsbD c && h.fifoSev ≤ e.sev) || (e.type = 0x0001 && (e.source = 2 || e.source = 3))
  (if fifo then [none] else []) ++
    ((ringList.filter fun k =>
      let q := ring s k
      q.enable && q.kind = 0 && tb q.classMask c && q.minSev ≤ e.sev).map some)

/-- The loss account of a destination. -/
def lossOf (s : Device) (d : Dest) : LossSt := match d with | none => s.host.fifoLoss | some k => (ring s k).loss

/-- Change the loss account of a destination. -/
def modLoss (d : Dest) (f : LossSt → LossSt) (s : Device) : Device :=
  match d with
  | none => modHost (fun h => { h with fifoLoss := f h.fifoLoss }) s
  | some k => modRing k (fun q => { q with loss := f q.loss }) s

/-- A destination has room for a record. -/
def hasRoom (s : Device) (d : Dest) : Bool :=
  match d with
  | none => s.host.fifo.length < 256
  | some k => !ringFull (ring s k)

/-- Write a record to a destination with its `seq`; the FIFO interrupt follows when it was empty (Table 21-5). -/
def putRecord (d : Dest) (e : EventRec) (s : Device) : Device :=
  let bytes := eventBytes e (lossOf s d).seq
  let s := modLoss d (fun l => { l with seq := wrap 16 (l.seq + 1) }) s
  match d with
  | none =>
    let empty := s.host.fifo.isEmpty
    let s := modHost (fun h => { h with fifo := h.fifo ++ [bytes] }) s
    if empty then setIrq 6 s else s
  | some k => ringWrite k bytes s

/-- A record discarded for a destination (R823); a `PTP_TS` counts in `PTP_REC_DROP` too. -/
def dropRecord (d : Dest) (e : EventRec) (s : Device) : Device :=
  let s := modLoss d (fun l => { l with count := sat 32 (l.count + 1),
                                        span := (if l.count = 0 then e.t else l.span.1, e.t) }) s
  let s := match d with
    | none => modHost (fun h => { h with fifoDrop := sat 32 (h.fifoDrop + 1) }) s
    | some k => modRing k (fun q => { q with drop := sat 32 (q.drop + 1) }) s
  let s := if e.type = 0x0904 then
      modTiming (fun t => { t with ptpRecDrop := sat 32 (t.ptpRecDrop + 1), ptpDropTick := true }) s else s
  setIrq 8 s

/-- The `EVENT_LOSS` record of a destination that has discarded records and has room again (R823, Table 22-12). -/
def writeLoss (d : Dest) (s : Device) : Device :=
  let l := lossOf s d
  if l.count = 0 || !hasRoom s d then s
  else
    let last := l.span.2
    let e : EventRec :=
      { type := 0x0002, source := 0, sev := 0, member := s.stack.stackId, t := l.span.1,
        payload := le 4 l.count ++ le 4 (last / SEC) ++ le 4 (last % SEC / NS) }
    putRecord d e (modLoss d (fun l => { l with count := 0, span := (0, 0) }) s)

/-- Deliver a record to a destination, after any `EVENT_LOSS` (R823). -/
def deliverTo (e : EventRec) (d : Dest) (s : Device) : Device :=
  let s := writeLoss d s
  if (lossOf s d).count = 0 && hasRoom s d then putRecord d e s else dropRecord d e s

/-- The firmware writes event records: it runs and MGMT is out of reset (R896). -/
def eventsRun (s : Device) : Bool :=
  s.boot.fwRuns && !(inReset s .por || inReset s .device || inReset s .mgmt)

/-- Send an event record on the stack: to the acting master with `event_fwd` (R689), and a `DEFERRED_DONE` of MB4 to
the device whose command it ends (R832). -/
def forwardEvent (e : EventRec) (s : Device) : Device :=
  if e.member ≠ s.stack.stackId then s
  else
    let bytes := eventBytes e 0
    let mine := if e.type = 0x0001 && e.source = 4 then
        s.stack.mb4Pend.find? fun q => q.2.op = rd e.payload 2 2 && q.2.seq = rd e.payload 4 2
      else none
    let s := match mine with
      | some q => sendMsg 2 q.1 bytes (modStack (fun k => { k with mb4Pend := k.mb4Pend.erase q }) s)
      | none => s
    let member := s.stack.acting = .member || s.stack.acting = .standby
    match s.stack.master with
    | some m =>
      if member && dset s 0x0D00 0 2 = 1 && (mine.map (·.1)) ≠ some m then sendMsg 2 m bytes s else s
    | none => s

/-- A record may be written now: the `DEFERRED_DONE` of a script command waits for ready (20_startup_and_nonvolatile_store
R788). -/
def mayDeliver (s : Device) (e : EventRec) : Bool := e.type ≠ 0x0001 || s.boot.stage = .ready || s.boot.stage = .stopped

/-- The oldest event record that may be written goes to its destinations (R635, R821). -/
def eventDelivery (s : Device) : Device :=
  if !eventsRun s then s
  else match s.evq.find? (mayDeliver s) with
    | none => s
    | some e =>
      let s := putEvq (s.evq.erase e) s
      let s := each (destsOf s e) (deliverTo e) s
      forwardEvent e s

/-- Room has returned at a destination (R823); 64 names the polled FIFO. -/
def eventLoss (d : Fin 65) (s : Device) : Device :=
  if !eventsRun s then s
  else if d.val = 64 then writeLoss none s
  else if (ring s d.val).enable then writeLoss (some d.val) s else s

/-- Every waiting record is discarded and counted at the destinations it would have reached (R896). -/
def dropEvents (s : Device) : Device :=
  let l := s.evq
  let s := putEvq [] s
  each l (fun e s => each (destsOf s e) (fun d s => dropRecord d e s) s) s

/-! ### Host registers of events and interrupts (Tables 21-1 and 21-5) -/

/-- A write to `IRQ_STATUS` (R828). -/
def irqStatusClear (v : BitVec 32) (s : Device) : Device :=
  irqLevel (modHost (fun h => { h with irqStatus := h.irqStatus &&& ~~~v }) s)

/-- A write to `EVT_FIFO_POP` (R822). -/
def evtFifoPop (v : BitVec 32) (s : Device) : Device :=
  if v.getLsbD 0 then modHost (fun h => { h with fifo := h.fifo.drop 1 }) s else s

/-- A read of `EVT_FIFO_DROP` returns the count and clears it (R823). -/
def evtFifoDropRead (s : Device) : Device :=
  modHost (fun h => { h with fifoDrop := 0 }) (emit (.read (BitVec.ofNat 32 s.host.fifoDrop)) s)

/-- A value lies between the present `RING_TAIL` and `RING_HEAD`, going round the ring (R825). -/
def tailOk (q : RingSt) (v : Nat) : Bool :=
  v < q.entries && (v + q.entries - q.tail) % q.entries ≤ (q.head + q.entries - q.tail) % q.entries

/-- A write to `RING_TAIL` (R825). -/
def ringTailWrite (k : Fin 64) (v : BitVec 32) (s : Device) : Device :=
  if tailOk (ring s k.val) v.toNat then modRing k.val (fun q => { q with tail := v.toNat }) s else s

/-- A read of `RING_DROP` returns the count and clears it (R823). -/
def ringDropRead (k : Fin 64) (s : Device) : Device :=
  modRing k.val (fun q => { q with drop := 0 }) (emit (.read (BitVec.ofNat 32 (ring s k.val).drop)) s)

/-! ### RING_CONFIG (R827) -/

/-- `n` is a power of two. -/
def isPow2 (n : Nat) : Bool := n = 2 ^ Nat.log2 n && n ≠ 0

/-- The bytes of a ring's configuration from offset 1 (Table 21-8). -/
def ringFields (q : RingSt) : List (Nat × List Byte) :=
  [(1, le 1 q.kind), (2, le 1 (bit q.enable)), (3, le 1 q.vector), (4, le 4 q.entries), (8, le 8 q.base),
   (16, le 4 q.classMask), (20, le 1 q.minSev), (22, le 2 q.coalesce)]

/-- The fields of a request equal the ring's present ones but for `enable`. -/
def sameRing (q : RingSt) (p : List Byte) : Bool :=
  rd p 1 1 = q.kind && rd p 3 1 = q.vector && rd p 4 4 = q.entries && rd p 8 8 = q.base && rd p 16 4 = q.classMask &&
    rd p 20 1 = q.minSev && rd p 22 2 = q.coalesce

/-- RING_CONFIG. -/
def ringConfigCmd : Cmd where
  field := fun _ r off =>
    if off = 3 then rd r.params 3 1 = 0xFF || (4 ≤ rd r.params 3 1 && rd r.params 3 1 ≤ 31)
    else if off = 4 then isPow2 (rd r.params 4 4)
    else if off = 8 then rd r.params 8 8 % 4096 = 0
    else true
  state := fun s r =>
    let q := ring s (rd r.params 0 1)
    if q.enable && !(rd r.params 2 1 = 0 && sameRing q r.params) then some (.notPermitted, 0) else none
  back := fun s r => ringFields (ring s (rd r.params 0 1))
  act := does fun r s =>
    let k := rd r.params 0 1
    let p := r.params
    if (ring s k).enable then modRing k (fun q => { q with offWaits := true }) s
    else
      modRing k (fun q =>
        let on := rd p 2 1 = 1
        { q with kind := rd p 1 1, vector := rd p 3 1, entries := rd p 4 4, base := rd p 8 8, classMask := rd p 16 4,
                 minSev := rd p 20 1, coalesce := rd p 22 2, enable := on,
                 head := if on then 0 else q.head, tail := if on then 0 else q.tail,
                 loss := if on then {} else q.loss, msiWaits := false }) s

/-- Rings whose disable takes force at this control-tick boundary: their capture readouts stop and sensing channels
that name them name none (R827). -/
def ringsOff (s : Device) : Device :=
  each (ringList.filter fun k => (ring s k).offWaits) (fun k s =>
    let kind := (ring s k).kind
    let s := modRing k (fun q => { q with enable := false, offWaits := false }) s
    if kind = 1 then
      each (List.range 64) (fun ch s =>
        let key := skey 0x0A00 0 ch 2
        if accepted s key = (k : Int) then putSetting key 0xFF .now s else s) s
    else if kind = 2 then
      each [0, 1, 2, 3] (fun i s => modCap i (fun c =>
        { c with readout := if (c.readout.map (·.1)) = some k then none else c.readout }) s) s
    else s) s

end Sys2Proof.Machine
end

