-- ==== Sys2Proof/Machine/Clock.lean ====
section
/-!
DEFINITION. Clocks, resets and power domains (18_clocks_resets_power): selectors and the root, what each reset domain
resets and keeps, release from reset, clock gating, and the commands of class 0x0E.
-/
namespace Sys2Proof.Machine
open Sys2Proof

/-! ### Selectors (R707 to R715) -/

/-- A clock selector: 0 root input, 1 management clock, 2 DPLL local oscillator, 3 to 10 lane-group references. -/
def sel (s : Device) (k : Nat) : SelectorSt := Tab.get (fun _ => {}) s.clock.sels k

/-- Change a clock selector. -/
def modSel (k : Nat) (f : SelectorSt → SelectorSt) (s : Device) : Device :=
  modClock (fun c => { c with sels := Tab.modify (fun _ => {}) c.sels k f }) s

/-- A selector is to change to a source; nothing when it runs from it. -/
def aim (k src : Nat) (s : Device) : Device :=
  modSel k (fun q => { q with target := if q.source = src then none else some src }) s

/-- Change an XI input. -/
def modXi (n : Nat) (f : XiSt → XiSt) (s : Device) : Device :=
  modClock (fun c => { c with xi := if n = 0 then { c.xi with a := f c.xi.a } else { c.xi with b := f c.xi.b } }) s

/-- An XI input. -/
def xi (s : Device) (n : Nat) : XiSt := if n = 0 then s.clock.xi.a else s.clock.xi.b

/-- A source of PLL-R is valid: 0 XI0, 1 XI1, 2 the DPLL output (R707). -/
def rootValid (s : Device) (i : Nat) : Bool :=
  if i < 2 then (xi s i).stable && !(xi s i).silent else i = 2 && !inReset s .timing

/-- `root_order` in force. -/
def rootOrder (s : Device) : List Nat :=
  let v := dsetN s 0x0E00 0 0
  [v % 256, v / 256 % 256, v / 65536]

/-- The first valid entry of `root_order` that `f` admits. -/
def rootPick (s : Device) (f : Nat → Bool) : Option Nat := (rootOrder s).find? fun i => rootValid s i && f i

/-- PLL-R runs from its input. -/
def pllRuns (s : Device) : Bool := s.clock.pll = .locked || s.clock.pll = .aligning

/-! ### What a reset resets and keeps (Table 18-6) -/

/-- The settings of a carrier take their reset values (R15, R721). -/
def dropSettings (f : Nat → Bool) (s : Device) : Device :=
  putPendSet (s.pendSet.filter fun q => !f q.key) (putSettings (s.settings.filter (fun p => !f p.1)) s)

/-- CARRIER_A or CARRIER_B: carrier states, counters, `xsf`, key slots and run-time settings; converter trims, element
maps and port conditions stay (R409, R724). -/
def carrierReset (c : Carrier) (s : Device) : Device :=
  let s := modConv c (fun k => { k with
    trims := []
    selftest := none
    convs := Tab.mapAll (fun _ => {}) k.convs fun _ v => { v with swaps := 0, pending := [] } }) s
  let s := modOstc c (fun _ => {}) (modCrypto c (fun _ => {}) (modLine c (fun _ => {}) (modFec c (fun _ => {}) s)))
  let s := modRx c (fun _ => {}) (modTx c (fun _ => {}) s)
  let s := putTribs { s.tribs with tribs := s.tribs.tribs.filter fun p => p.1 / 128 ≠ c.num } s
  let s := putElec { s.elec with txon := s.elec.txon.set c false } s
  let s := modTtx c (fun x => { ({} : TtxSt) with cal := x.cal, calSeq := x.calSeq, anaTx := x.anaTx, anaRx := x.anaRx }) s
  dropSettings (fun k => keyTgt k = carCode c) s

/-- LG k: its lanes go to `HL_OFF`, scans are aborted and counters cleared; settings stay (R660). -/
def lgReset (k : Nat) (s : Device) : Device :=
  each [4 * k, 4 * k + 1, 4 * k + 2, 4 * k + 3] (fun i s =>
    let s := match (lane s i).scan with | some h => heldDone h .notPermitted s | none => s
    modLane i (fun l => { ({} : LaneSt) with since := if l.state = .off then l.since else s.timing.now, eye := l.eye }) s) s

/-- DRAM: the contents of every pool and the images of the Accord store; pool sizes, row repairs and retired pages
stay. -/
def dramReset (s : Device) : Device :=
  let s := modAccord (fun a => { a with slots := [] }) s
  modMem (fun m => { m with
    scrubBusy := false
    scrubStart := none
    queues := Tab.mapAll (fun _ => {}) m.queues fun _ q => { q with frames := [] }
    caps := Tab.mapAll (fun _ => {}) m.caps fun _ c => { ({} : CapSlot) with trigIgnored := c.trigIgnored }
    towers := Tab.mapAll (fun _ => {}) m.towers fun _ t => { t with suspect := [], copying := [] } }) s

/-- TIMING: device time, the DPLL, candidates and stack time; stored LEQ frames are discarded and counted (R730). -/
def timingReset (s : Device) : Device :=
  let s := setDpll .freeRun 5 s
  let q : Nat := 1000 * selSet s 2 + 1
  let on := candList.filter fun i => refSet s i 1 ≠ 0
  let s := modTiming (fun t => { ({} : TimingSt) with
    oscReady := t.oscReady, dieTemp := t.dieTemp,
    cands := on.map fun i => (i, { ({} : CandSt) with state := .qualifying, left := q }) }) s
  let s := putTtx ⟨{ ({} : TtxSt) with cal := s.ttx.a.cal, calSeq := s.ttx.a.calSeq },
                            { ({} : TtxSt) with cal := s.ttx.b.cal, calSeq := s.ttx.b.calSeq }⟩ s
  let s := modStack (fun k => { k with sigma := 0, spread := 0, spreadTicks := 0, theta := (0, 0), valid := false,
                                       validDue := false, okRun := 0 }) s
  modMem (fun m => { m with queues := Tab.mapAll (fun _ => {}) m.queues fun _ q =>
    { q with portDown := sat 32 (q.portDown + q.frames.length), frames := [] } }) s

/-- MGMT: mailboxes, commands in progress and records not yet written; every held enable and held command is dropped,
and the commands that returned `PENDING` are kept for their report after ready (R896). -/
def mgmtReset (s : Device) : Device :=
  let s := dropEvents s
  let pend := s.stack.proxyPend.map (·.2)
  let s := modHost (fun h => { h with mbs := [], cancelled := h.cancelled ++ h.pendCmds ++ pend, pendCmds := [],
                                      transfers := [], waiting := [], dbgWrite := false, heartbeat := 0, uptime := 0 }) s
  let s := modStack (fun k => { k with proxied := [], proxyPend := [] }) s
  let s := modAccord (fun a => { a with held := [], loadHeld := none }) s
  let s := modCrypto .b (fun q => { q with heldEnable := none }) (modCrypto .a (fun q => { q with heldEnable := none }) s)
  let s := modMem (fun m => { m with
    scrubHeld := none
    queues := Tab.mapAll (fun _ => {}) m.queues fun _ q => { q with held := none }
    caps := Tab.mapAll (fun _ => {}) m.caps fun _ c => { c with held := none } }) s
  modBoot (fun b => { b with norHeld := [], fwRuns := false, stage := .rom, nand := { b.nand with held := [] } }) s

/-- What of start-up and store outlives a DEVICE reset: NOR, NAND and OTP. -/
def bootKept (b : BootSt) : BootSt :=
  { ({} : BootSt) with
    bootSrc := b.bootSrc, xdly := b.xdly, delayOver := b.delayOver, headers := b.headers, script := b.script,
    slots := ⟨{ b.slots.a with status := none }, { b.slots.b with status := none }⟩,
    nand := { b.nand with writing := [], erasing := [], held := [], format := none, present := false },
    otp := { b.otp with burn := none } }

/-- The collector after a DEVICE reset: latches are left, other sources stay as they are, the log is empty and the
mirror stays (R751, R752, R760). -/
def faultKept (f : FaultSt) : FaultSt :=
  { ({} : FaultSt) with
    sources := Tab.mapAll (fun _ => {}) f.sources fun _ q =>
      { q with st := if q.st = .latched then .quiet else q.st, held := if q.st = .latched then 0 else q.held, due := 0,
               window := [] }
    mirror := f.mirror, first := f.first, toBlackBox := f.toBlackBox, pinLow := f.pinLow }

/-- DEVICE: every setting, table and counter except those kept; TIMING too unless `TIMING_HOLD` is 1 (R721, R726). -/
def deviceReset (s : Device) : Device :=
  let hold := s.clock.timingHold
  let n : Device := {}
  let s' : Device := if hold then s else timingReset s
  { n with
    timing := s'.timing
    ttx := ⟨{ ({} : TtxSt) with cal := s.ttx.a.cal, calSeq := s.ttx.a.calSeq, anaTx := s.ttx.a.anaTx, anaRx := s.ttx.a.anaRx },
            { ({} : TtxSt) with cal := s.ttx.b.cal, calSeq := s.ttx.b.calSeq, anaTx := s.ttx.b.anaTx, anaRx := s.ttx.b.anaRx }⟩
    settings := if hold then s.settings.filter (fun p => keyOp p.1 / 256 = 8) else []
    kme := { n.kme with alarm := s.kme.alarm, present := s.kme.present, absentTicks := s.kme.absentTicks }
    stack := { n.stack with strapRole := s.stack.strapRole, stackId := s.stack.stackId,
                            sigma := if hold then s.stack.sigma else 0 }
    clock := { n.clock with
      xi := s.clock.xi, foscTrim := s.clock.foscTrim, soscTrim := s.clock.soscTrim, trimAge := s.clock.trimAge
      coasts := s.clock.coasts, inReset := s.clock.inReset, holds := s.clock.holds, lastCause := s.clock.lastCause
      timingHold := hold, xingDiscard := s.clock.xingDiscard, snapAge := s.clock.snapAge, resetN := s.clock.resetN
      sels := if hold then s.clock.sels.filter (fun p => p.1 = 2) else [] }
    fault := faultKept s.fault
    boot := { bootKept s.boot with kind := .device }
    host := { n.host with variant := s.host.variant, step := s.host.step, vendor := s.host.vendor }
    elec := { n.elec with porReleased := s.elec.porReleased, vppOk := s.elec.vppOk, supplies := s.elec.supplies,
                          temps := s.elec.temps }
    out := s.out
    fresh := s.fresh }

/-- POR: everything volatile; OTP and the external NOR and NAND stay. -/
def porReset (s : Device) : Device :=
  let n : Device := {}
  { n with
    ttx := ⟨{ ({} : TtxSt) with cal := s.ttx.a.cal }, { ({} : TtxSt) with cal := s.ttx.b.cal }⟩
    boot := { bootKept s.boot with kind := .por, delayOver := false }
    host := { n.host with variant := s.host.variant, step := s.host.step, vendor := s.host.vendor }
    clock := { n.clock with resetN := s.clock.resetN, timingHold := s.clock.timingHold }
    elec := { n.elec with porReleased := s.elec.porReleased, vppOk := s.elec.vppOk }
    timing := { n.timing with oscReady := s.timing.oscReady }
    out := s.out
    fresh := s.fresh }

/-- What a domain's reset does to its contents. -/
def resetContents (d : Domain) (s : Device) : Device :=
  match d with
  | .por => porReset s
  | .device => deviceReset s
  | .mgmt => mgmtReset s
  | .carrierA => carrierReset .a s
  | .carrierB => carrierReset .b s
  | .lg k => lgReset k.val s
  | .sb n => sbReset n.val s
  | .dram => dramReset s
  | .crypto => s
  | .timing => timingReset s

/-- The lane groups. -/
def lgList : List (Fin 8) := [0, 1, 2, 3, 4, 5, 6, 7]
/-- The stack ports. -/
def sbList : List (Fin 4) := [0, 1, 2, 3]

/-- The domains that DEVICE contains (Table 18-6). -/
def containedIn (s : Device) : List Domain :=
  [.mgmt, .carrierA, .carrierB] ++ lgList.map Domain.lg ++ sbList.map Domain.sb ++ [.dram, .crypto] ++
    (if s.clock.timingHold then [] else [.timing])

/-- A domain enters reset by a cause: its contents are reset, unless it is in reset and the cause is merged (R721,
R722). Causes 2, 3 and 5 are held for one control tick (R723). -/
def enterDomain (d : Domain) (cause : Nat) (s : Device) : Device :=
  let first := !inReset s d
  let s := if !first then s else if d = .crypto then eraseKeys s else resetContents d s
  let s := if first && d = .device then modClock (fun k => { k with lastCause := cause }) s else s
  let s := enterReset d cause s
  let s := if first && d = .por then enterReset .device 4 s else s
  let s := if first && (d = .device || d = .por) then each (containedIn s) (fun x s => enterReset x 4 s) s else s
  if cause = 2 || cause = 3 || cause = 5 then
    modClock (fun k => { k with holds := (k.holds.filter fun h => h.1 ≠ d) ++ [(d, 2)] }) s
  else s

/-! ### Release from reset (R722) -/

/-- The straps as they stand at a release (R676, R774, R702, R726). -/
def readStraps (x : Straps) (s : Device) : Device :=
  let s := modBoot (fun b => { b with bootSrc := x.bootSrc % 4, xdly := x.xdly % 8,
                                      cause := if x.bootSrc % 4 = 3 then 6 else b.cause }) s
  let s := modClock (fun k => { k with timingHold := x.timingHold }) s
  modStack (fun k => { k with strapRole := x.role % 4, stackId := x.id % 8 }) s

/-- The role at start (Table 17-4): a strapped master listens first. -/
def startRole (s : Device) : Device :=
  match s.stack.strapRole with
  | 0 => setRole .standalone s
  | 1 => modStack (fun k => { k with listening := true, listenTicks := 0, heardMaster := false }) (setRole .member s)
  | 2 => setRole .standby s
  | _ => setRole .member s

/-- A domain leaves reset: its entries go, and a start begins for DEVICE and MGMT; a reset by command or by a fault
reaction begins the recovery phase of the domain (Table 19-3). -/
def leaveReset (d : Domain) (x : Straps) (s : Device) : Device :=
  let causes := (s.clock.inReset.filter fun p => p.1 = d).map (·.2)
  let s := modClock (fun k => { k with inReset := k.inReset.filter (fun p => p.1 ≠ d),
                                       holds := k.holds.filter fun h => h.1 ≠ d }) s
  let s := if causes.any fun c => c = 2 || c = 3 then startRecovery d s else s
  match d with
  | .device =>
    let s := modClock (fun k => { k with inReset := k.inReset.filter fun p => p.2 ≠ 4 }) s
    startRole (readStraps x s)
  | .mgmt => modBoot (fun b => { b with kind := .mgmt, stage := .rom, cause := 0, detail := 0 }) (dropEvents s)
  | _ => s

/-- A cause of reset is removed (R721 to R723): POR is released, `RESET_N` is high, the tick of a commanded reset is
over, or the containing domain has left reset. -/
def causeGone (s : Device) (d : Domain) (cause : Nat) : Bool :=
  match cause with
  | 0 => s.elec.porReleased
  | 1 => !s.clock.resetN
  | 4 => !inReset s .device && !inReset s .por
  | 6 => true
  | _ => !(s.clock.holds.any fun h => h.1 = d && h.2 ≠ 0)

/-- DOMAIN_RESET_RELEASE: a domain leaves reset when its last cause is removed. DRAM stays until it is retrained
(R722, R723). -/
def domainResetRelease (d : Domain) (x : Straps) (s : Device) : Device :=
  if !inReset s d || d = .dram || d = .por then s
  else if d = .device && inReset s .por then s
  else if (s.clock.inReset.filter fun p => p.1 = d).all fun p => causeGone s d p.2 || (d = .device && p.2 = 4) then
    leaveReset d x s
  else s

/-- POWER_ON_RESET: a supply falls, or POR is released (R867). DEVICE leaves reset with POR unless `RESET_N` holds
it. -/
def powerOnReset (released : Bool) (x : Straps) (s : Device) : Device :=
  if !released then
    enterDomain .por 0 (putElec { s.elec with porReleased := false } s)
  else if !inReset s .por then putElec { s.elec with porReleased := true } s
  else
    let s := leaveReset .por x (putElec { s.elec with porReleased := true } s)
    let s := modBoot (fun b => { b with kind := .por }) s
    if (s.clock.inReset.filter fun p => p.1 = .device).all fun p => p.2 = 4 || causeGone s .device p.2 then
      leaveReset .device x s else s

/-- RESET_N low for at least 2 µs, or high again (R721). -/
def resetN (low : Bool) (s : Device) : Device :=
  let s := modClock (fun k => { k with resetN := low }) s
  if low then
    if inReset s .por then enterReset .device 1 s else enterDomain .device 1 s
  else s

/-- DRAM_RETRAIN_COMPLETE: the DRAM domain leaves reset (R723). -/
def dramRetrainComplete (s : Device) : Device :=
  if inReset s .dram && !inReset s .device && (s.clock.inReset.filter fun p => p.1 = .dram).all fun p => causeGone s .dram p.2
  then leaveReset .dram {} s else s

/-- MGMT_WATCHDOG: no heartbeat for 100 ms (R725). -/
def mgmtWatchdog (s : Device) : Device :=
  if s.clock.heartbeatAge < 100 || inReset s .mgmt then s
  else modClock (fun k => { k with heartbeatAge := 0 }) (enterDomain .mgmt 5 (fault 0x0E05 0 [] s))

/-! ### Events of the clocks -/

/-- The boot stage changes, with its interrupt (Table 21-5). -/
def setStage (st : Stage) (s : Device) : Device :=
  if s.boot.stage = st then s else setIrq 7 (modBoot (fun b => { b with stage := st }) s)

/-- Boot stops with a cause (Table 20-5). -/
def bootStop (cause detail : Nat) (s : Device) : Device :=
  setStage .stopped (modBoot (fun b => { b with cause, detail }) s)

/-- XI_INPUT_JUDGED: an input is judged stable or not; the fifth failure is `XTAL_FAIL`, and when both inputs fail boot
stops (R702, R703). -/
def xiInputJudged (n : Fin 2) (ok : Bool) (freq : Int) (s : Device) : Device :=
  let q := xi s n.val
  let s := modXi n.val (fun x => { x with stable := ok, attempts := min 7 (x.attempts + 1), freq,
                                          silent := if ok then false else x.silent }) s
  let s := modBoot (fun b => { b with delayOver := true }) s
  if ok then faultOff 0x0E03 n.val s
  else if q.attempts + 1 < 5 then s
  else
    let s := faultOn 0x0E03 n.val [] s
    let o := xi s (1 - n.val)
    if s.clock.pll = .unlocked && !o.stable && 5 ≤ o.attempts then bootStop 1 0 s else s

/-- ROOT_INPUT_LOSS: PLL-R opens its loop and coasts; management moves to FOSC (R709, R710). -/
def rootInputLoss (s : Device) : Device :=
  if !pllRuns s then s
  else
    let src := (sel s 0).source
    let s := if src < 2 then modXi src (fun x => { x with silent := true }) s else s
    let s := modClock (fun k => { k with pll := .coasting, aligned := false, alignTicks := 0,
                                         coasts := wrap 32 (k.coasts + 1), reselect := some src }) s
    faultOn 0x0E01 0 [] (aim 1 1 s)

/-- PLL_R_LOCKED: PLL-R locks to its input; at the start of the clocks it takes the first stable input (R703, R711,
Table 18-9). -/
def pllRLocked (s : Device) : Device :=
  match s.clock.pll with
  | .unlocked =>
    if s.boot.stage ≠ .clocks then s
    else match [0, 1].find? fun i => rootValid s i with
      | none => s
      | some i =>
        let s := modSel 0 (fun q => { q with source := i, target := none }) s
        let s := modSel 1 (fun q => { q with source := 0, target := none, switches := wrap 32 (q.switches + 1) }) s
        setStage .fwLoad (modClock (fun k => { k with pll := .locked, reselect := none }) s)
  | .coasting =>
    if !rootValid s (sel s 0).source then s
    else faultOff 0x0E01 0 (aim 1 0 (modClock (fun k => { k with pll := .locked, reselect := none }) s))
  | _ => s

/-- A selector has changed to its target (R713, R714). A TIMING reset that waited for the root to leave the DPLL
begins (R727). -/
def finishSwitch (k : Nat) (forced : Bool) (s : Device) : Device :=
  match (sel s k).target with
  | none => s
  | some t =>
    let s := modSel k (fun q => { q with source := t, target := none, switches := wrap 32 (q.switches + 1),
                                         forced := if forced then wrap 32 (q.forced + 1) else q.forced }) s
    let s := if forced then fault 0x0E02 (min k 3) [] s else s
    if k = 0 && s.clock.timingWaits then
      enterDomain .timing 2 (modClock (fun c => { c with timingWaits := false }) s)
    else s

/-- SELECTOR_SWITCH (R713). -/
def selectorSwitch (k : Fin 11) (s : Device) : Device := finishSwitch k.val false s

/-- CLK_FORCED_SWITCH (R714). -/
def clkForcedSwitch (k : Fin 11) (s : Device) : Device := finishSwitch k.val true s

/-- SELECTOR_NEW_CLOCK_ABSENT: the selector stays; the root looks for the next source (R715). -/
def selectorNewClockAbsent (k : Fin 11) (s : Device) : Device :=
  match (sel s k.val).target with
  | none => s
  | some t =>
    let s := modSel k.val (fun q => { q with target := none }) s
    if k.val = 0 then
      let s := if t < 2 then modXi t (fun x => { x with silent := true }) s else s
      if s.clock.pll = .coasting then modClock (fun c => { c with reselect := some t }) s else s
    else s

/-- TICK_ALIGNED: slow ticks have met epochs (R712, Table 22-12). -/
def tickAligned (s : Device) : Device :=
  if s.clock.pll = .aligning then
    raise 0x0E01 0 0 (le 4 s.clock.alignTicks) (modClock (fun k => { k with pll := .locked, aligned := true }) s)
  else s

/-- OSC_TRIM_STALE: no trim for 10 s while `trim_src` names a source (R717). -/
def oscTrimStale (s : Device) : Device :=
  if 10000 ≤ s.clock.trimAge && dset s 0x0E00 0 3 ≠ 0xFF then faultOn 0x0E04 0 [] s else s

/-- OSC_READY_RISE with the selector of the DPLL local oscillator (R490, R491). -/
def oscRise (s : Device) : Device := aim 2 1 (oscReadyRise s)

/-- OSC_READY_FALL with the selector of the DPLL local oscillator (R490, R491). -/
def oscFall (s : Device) : Device := aim 2 0 (oscReadyFall s)

/-- CARRIER_LOOP_START: a carrier powered on has its converter loop running (R733). -/
def carrierLoopStart (c : Carrier) (s : Device) : Device :=
  if s.clock.power.get c && !(s.conv.get c).loopRunning then
    modConv c (fun k => { k with loopRunning := true, fgDone := false }) s
  else s

/-! ### Ticks -/

/-- A carrier is powered: the Accord gives it a mode, `carrier_power` has its bit and self-test has not failed it
(R732, R785). -/
def powered (s : Device) (c : Carrier) : Bool :=
  (modeOf s c).isSome && tb (dsetN s 0x0E00 0 5) c.num && !s.boot.bistFail.get c

/-- The power of a carrier follows at a control-tick boundary (R732). -/
def powerTick (c : Carrier) (s : Device) : Device :=
  let on := powered s c
  let s := if on then s else modConv c (fun k => { k with loopRunning := false, fgDone := false }) s
  modClock (fun k => { k with power := k.power.set c on }) s

/-- Alignment of ticks starts and ends with its conditions (R712). -/
def alignTick (s : Device) : Device :=
  let both := (sel s 0).source = 2 && pllRuns s && s.timing.dpll = .locked
  modClock (fun k =>
    if !both then { k with pll := if k.pll = .aligning then .locked else k.pll, aligned := false, alignTicks := 0 }
    else if k.pll = .aligning then { k with alignTicks := sat 32 (k.alignTicks + 1) }
    else if !k.aligned then { k with pll := .aligning, alignTicks := 0 } else k) s

/-- Clocks and resets at a control-tick boundary: delayed resets begin, holds run, power and alignment follow (R712,
R723, R732). -/
def clockControlTick (s : Device) : Device :=
  let s := modClock (fun k => { k with holds := k.holds.map fun h => (h.1, h.2 - 1) }) s
  let due := s.clock.delayed.filter fun d => d.2 + 100 * US ≤ s.timing.now
  let s := modClock (fun k => { k with delayed := k.delayed.filter fun d => !(d.2 + 100 * US ≤ s.timing.now) }) s
  let s := each due (fun d s => enterDomain d.1 2 s) s
  alignTick (powerTick .b (powerTick .a s))

/-- The root input is looked for again after a loss or a change of `root_order` (R708, R709). -/
def rootReselect (s : Device) : Device :=
  let order := (dsetN s 0x0E00 0 0 % 256, dsetN s 0x0E00 0 0 / 256 % 256, dsetN s 0x0E00 0 0 / 65536)
  let changed := order ≠ s.clock.orderSeen
  let s := modClock (fun k => { k with orderSeen := order }) s
  if s.clock.pll = .coasting then
    match s.clock.reselect with
    | none => s
    | some failed =>
      match rootPick s (fun i => i ≠ failed) with
      | some i => modSel 0 (fun q => { q with target := some i }) s
      | none => s
  else if changed && pllRuns s then
    match rootPick s (fun _ => true) with
    | some i => aim 0 i s
    | none => s
  else s

/-- FOSC and SOSC are trimmed against `trim_src`, or the age of the last trim grows (R716, R717). -/
def trimTick (m : ClockMeas) (s : Device) : Device :=
  let src := dsetN s 0x0E00 0 3
  let there :=
    if src = 0 then (xi s 0).stable && !(xi s 0).silent
    else if src = 1 then m.refin && candKind s (dsetN s 0x0E00 0 4) = 1
    else if src = 2 then s.stack.upstream.any fun p => (sbPort s p).state = .up
    else false
  if there then
    faultOff 0x0E04 0 (modClock (fun k => { k with foscTrim := m.fosc, soscTrim := m.sosc, trimAge := 0 }) s)
  else modClock (fun k => { k with trimAge := sat 32 (k.trimAge + 1) }) s

/-- Clocks at a slow-tick boundary: inputs, trims, the root and the heartbeat (R707, R709, R716, R725). -/
def clockSlowTick (m : ClockMeas) (s : Device) : Device :=
  let s := modXi 0 (fun x => { x with freq := m.xi0, silent := !m.edges0 }) s
  let s := modXi 1 (fun x => { x with freq := m.xi1, silent := !m.edges1 }) s
  let s := rootReselect (trimTick m s)
  if m.heartbeat && s.boot.fwRuns then
    modHost (fun h => { h with heartbeat := h.heartbeat + 1 }) (modClock (fun k => { k with heartbeatAge := 0 }) s)
  else if s.boot.fwRuns then modClock (fun k => { k with heartbeatAge := min 100 (k.heartbeatAge + 1) }) s
  else modClock (fun k => { k with heartbeatAge := 0 }) s

/-! ### CLK_EN (R718) -/

/-- A transmitter or receiver of a carrier is not off. -/
def carrierBusy (s : Device) (c : Carrier) : Bool := (s.tx.get c).state ≠ .off || (s.rx.get c).state ≠ .off

/-- A block of `CLK_EN` is in use (Table 18-5). -/
def blockInUse (s : Device) (b : Nat) : Bool :=
  let ostc (c : Carrier) := accepted s (skey 0x0700 (carCode c) 0 0) ≠ 0 || accepted s (skey 0x0700 (carCode c) 0 1) ≠ 0
  let ohp (c : Carrier) := accepted s (skey 0x0404 (carCode c) 0 0) ≠ 0
  match b with
  | 0 => carrierBusy s .a
  | 1 => carrierBusy s .b
  | 2 => carrierBusy s .a
  | 3 => carrierBusy s .a
  | 4 => carrierBusy s .b
  | 5 => carrierBusy s .b
  | 6 => ostc .a
  | 7 => ostc .b
  | 8 => carriers.any fun c => native s c && (s.rx.get c).state ≠ .off
  | 9 => zr s .a && s.rx.a.state ≠ .off
  | 10 => zr s .b && s.rx.b.state ≠ .off
  | 11 => cryptEnable s .a
  | 12 => cryptEnable s .b
  | 13 => s.sense.any fun p => p.2.running || p.2.change.isSome
  | 14 => s.mem.queues.any fun p => p.2.state ≠ .disabled
  | 15 => s.mem.caps.any fun p => p.2.state ≠ .idle
  | 16 => ohp .a
  | 17 => ohp .b
  | _ => false

/-- A write to `CLK_EN` (R718). -/
def clkEnWrite (v : BitVec 32) (s : Device) : Device :=
  let next := (List.range 18).map fun b => v.getLsbD b || (s.clock.clkEn.getLsbD b && blockInUse s b)
  let refused := (List.range 18).any fun b => !v.getLsbD b && s.clock.clkEn.getLsbD b && blockInUse s b
  modClock (fun k => { k with clkEn := BitVec.ofNat 18 (bitmap next), refused := (k.refused && !v.getLsbD 31) || refused }) s

/-! ### Commands of class 0x0E -/

/-- A bit of `carrier_power` asks for what is refused: off while the carrier works, or on after a failed self-test
(R732, R785). -/
def powerRefused (s : Device) (v : Nat) (c : Carrier) : Bool :=
  let was := tb (accepted s (skey 0x0E00 0 0 5)).toNat c.num
  (was && !tb v c.num && carrierBusy s c) || (!was && tb v c.num && s.boot.bistFail.get c)

/-- CLOCK_CONFIG (R734). -/
def clockConfigCmd : Cmd where
  field := fun _ r off =>
    let v := rd r.params off 1
    if off = 0 then
      (List.range 3).all fun i =>
        let b := rd r.params i 1
        b = 0xFF || (b ≤ 2 && (List.range i).all fun j => rd r.params j 1 ≠ b)
    else if off = 3 then v ≤ 2 || v = 0xFF else true
  state := fun s r =>
    if carriers.any (powerRefused s (rd r.params 5 1)) then some (.notPermitted, 0) else none
  act := does fun r s => acceptFields 0x0E00 r.tgt r.params s

/-- The source, switches and forced switches of a selector of Table 18-4; the lane-group selectors report group 0's
source and the sums of their counts (log 22). -/
def selBytes (s : Device) (k : Nat) : List Byte :=
  let of (l : List Nat) := le 1 (sel s (l.headD 0)).source ++ zeros 3 ++ le 4 (l.foldl (fun n i => n + (sel s i).switches) 0) ++
    le 4 (l.foldl (fun n i => n + (sel s i).forced) 0)
  if k < 3 then of [k] else of [3, 4, 5, 6, 7, 8, 9, 10]

/-- CLOCK_STATUS (R735, Table 22-13): 96 bytes (Table 22-5), of which Table 22-13 lays out 0 to 71; the rest are zero
(log 23). -/
def clockStatusCmd : Cmd where
  act := reads fun s _ =>
    let k := s.clock
    let root := if pllRuns s then (sel s 0).source else 0xFF
    let p := match k.pll with | .locked => 0 | .aligning => 2 | .coasting => 1 | .unlocked => 1
    fields 96 [(0, le 1 root), (1, le 1 p), (2, le 1 (bit k.xi.a.stable + 2 * bit k.xi.b.stable)),
      (4, leInt 4 k.xi.a.freq), (8, leInt 4 k.xi.b.freq), (12, le 2 k.foscTrim), (14, le 2 k.soscTrim),
      (16, le 4 k.trimAge), (20, selBytes s 0 ++ selBytes s 1 ++ selBytes s 2 ++ selBytes s 3), (68, le 4 k.coasts)]

/-- The domain that a RESET_DOMAIN request names (R736). -/
def resetTarget (r : Req) : Option Domain :=
  let i := rd r.params 1 1
  match rd r.params 0 1 with
  | 1 => if i = 0 then some .device else none
  | 2 => if i = 0 then some .mgmt else none
  | 3 => if i = 0 then some .carrierA else if i = 1 then some .carrierB else none
  | 4 => if h : i < 8 then some (.lg ⟨i, h⟩) else none
  | 5 => if h : i < 4 then some (.sb ⟨i, h⟩) else none
  | 6 => if i = 0 then some .dram else none
  | 7 => if i = 0 then some .crypto else none
  | 8 => if i = 0 then some .timing else none
  | _ => none

/-- The root runs from the DPLL output. -/
def rootOnDpll (s : Device) : Bool := pllRuns s && (sel s 0).source = 2

/-- RESET_DOMAIN (R723, R727, R736, R788). -/
def resetDomainCmd : Cmd where
  field := fun _ r off => off ≠ 1 || (resetTarget r).isSome
  state := fun s r =>
    match resetTarget r with
    | some .device => if s.boot.stage = .script then some (.notPermitted, 0) else none
    | some .mgmt => if s.boot.stage = .script then some (.notPermitted, 0) else none
    | some .timing =>
      if rootOnDpll s && (rootPick s (fun i => i ≠ 2)).isNone then some (.notPermitted, 0) else none
    | _ => none
  act := does fun r s =>
    match resetTarget r with
    | some .device => modClock (fun k => { k with delayed := k.delayed ++ [(.device, s.timing.now)] }) s
    | some .mgmt => modClock (fun k => { k with delayed := k.delayed ++ [(.mgmt, s.timing.now)] }) s
    | some .crypto => eraseKeys s
    | some .timing =>
      if rootOnDpll s then
        match rootPick s (fun i => i ≠ 2) with
        | some i => aim 0 i (modClock (fun k => { k with timingWaits := true }) s)
        | none => s
      else enterDomain .timing 2 s
    | some d => enterDomain d 2 s
    | none => s

/-- The domains in the order of Table 18-6. -/
def allDomains : List Domain :=
  [.por, .device, .mgmt, .carrierA, .carrierB] ++ lgList.map Domain.lg ++ sbList.map Domain.sb ++ [.dram, .crypto, .timing]

/-- RESET_STATUS (R737, Table 22-13). -/
def resetStatusCmd : Cmd where
  act := reads fun s _ =>
    fields 44 [(0, le 4 (bitmap (allDomains.map (inReset s)))), (4, le 1 s.clock.lastCause),
      (5, le 1 (bit s.clock.timingHold)),
      (8, (List.range 9).flatMap fun i => le 4 (Tab.get (fun _ => 0) s.clock.xingDiscard i))]

/-- An item offered to a crossing with a side in reset is discarded and counted (R728, Table 18-7). -/
def xingDrop (k : Nat) (s : Device) : Device :=
  modClock (fun c => { c with xingDiscard := Tab.modify (fun _ => 0) c.xingDiscard k fun n => wrap 32 (n + 1) }) s

end Sys2Proof.Machine
end

