-- ==== Sys2Proof/Machine/Collector.lean ====
section
/-!
DEFINITION. Events and commands of the fault collector (19_fault_handling R747 to R773): reports of the sources,
reactions at the control-tick boundary, injection, and the commands of class 0x0F.
-/
namespace Sys2Proof.Machine
open Sys2Proof

/-- The injection armed on a checker. -/
def armedAt (s : Device) (id inst : Nat) : Option Injection := Tab.get (fun _ => none) s.fault.armed (srcKey id inst)

/-- Change the injection armed on a checker. -/
def setArmed (id inst : Nat) (a : Option Injection) (s : Device) : Device :=
  modFault (fun f => { f with armed := Tab.set (fun _ => none) f.armed (srcKey id inst) a }) s

/-- A report is marked injected: its check was inverted and its syndrome equals the armed pattern (R766). -/
def isInjected (s : Device) (e : FaultEntry) : Bool :=
  e.inverted && (match armedAt s (checkerOf e.id) e.inst with
    | some a => a.pattern.toNat = e.syndrome
    | none => false)

/-- An inverted check counts toward the injection, and a marked one is counted (R763). -/
def countCheck (e : FaultEntry) (s : Device) : Device :=
  if !e.inverted then s
  else match armedAt s (checkerOf e.id) e.inst with
    | some a => setArmed (checkerOf e.id) e.inst
        (some { a with left := a.left - 1, marked := if isInjected s e then sat 8 (a.marked + 1) else a.marked }) s
    | none => s

/-- What an owning rule does besides the collector: a decoder core that fails its check is retired from the next
calendar period (R263, R742). -/
def ownRule (e : FaultEntry) (s : Device) : Device :=
  let inert := ({ id := e.id, inst := e.inst, injected := isInjected s e } : FaultIn).inert s
  if e.id = 0x0341 && !inert && !(e.kind = 2) then
    putPool { s.pool with
      cores := Tab.modify (fun _ => {}) s.pool.cores e.inst fun k => { k with retireWaits := true } } s
  else s

/-- FAULT_EVENT: reports of one core cycle (R747, R761, R763, R766). -/
def faultEvent (l : List FaultEntry) (s : Device) : Device :=
  let begun := l.filter fun e => e.kind ≠ 2
  let ins := begun.map fun e =>
    ({ id := e.id, inst := e.inst, detail := e.detail, begins := e.kind = 0, injected := isInjected s e } : FaultIn)
  let s' := each begun ownRule s
  let s' := faultGroup s.timing.now ins s'
  let s' := each begun countCheck s'
  each (l.filter fun e => e.kind = 2) (fun e s => faultOff e.id e.inst s) s'

/-- The held reactions of every source follow its mask while it is not `QUIET` (R754, R756). -/
def heldFollow (s : Device) : Device :=
  let f (k : Nat) (q : SourceSt) : SourceSt :=
    if q.st = .quiet then { q with held := 0 }
    else { q with held := BitVec.ofNat 16 (faultSet s (k / 256) (k % 256) 4 &&& heldMask) }
  pinLevel (modFault (fun g => { g with sources := Tab.mapAll (fun _ => {}) g.sources f }) s)

/-- FAULT_REACTION: what is due begins at the control-tick boundary in the order of R755: the held reactions, then
`RESET`, then `FAULT_RAISED` with its interrupt (R754, R758). `ZEROIZE` has acted at the event. -/
def faultReaction (s : Device) : Device :=
  let s := heldFollow s
  let resets := s.fault.sources.filter fun p => p.2.due.getLsbD 7
  let s := each resets (fun p s =>
    enterDomain (domainOf (p.1 / 256) (p.1 % 256)) 3
      (modSource (p.1 / 256) (p.1 % 256) (fun q => { q with due := 0 }) s)) s
  let l := s.fault.dueRaised
  let s := modFault (fun f => { f with dueRaised := [] }) s
  if l.isEmpty then s else setIrq 5 (putEvq (s.evq ++ l.map (·.2)) s)

/-- FAULT_QUIET_EXPIRY (R749, R750). -/
def faultQuietExpiry (id inst : Nat) (s : Device) : Device := quietExpiry id inst s

/-- RECOVERY_PHASE_END: the `recovery_s` timer of a domain expires (Table 19-3). -/
def recoveryPhaseEnd (d : Domain) (s : Device) : Device :=
  if (d, 0) ∈ s.fault.recovery then
    changePhase (modFault fun f => { f with recovery := f.recovery.filter fun p => p ≠ (d, 0) }) s
  else s

/-- The end of an injection with its event (R763, R772). -/
def injectEnd (id inst : Nat) (a : Injection) (s : Device) : Device :=
  raise 0x0F03 id 0 (le 1 inst ++ le 1 a.marked) (setArmed id inst none s)

/-- FAULT_INJECT_DONE: the armed checker has made `count` checks; `quiet` of them reported nothing (R763). -/
def faultInjectDone (id inst quiet : Nat) (s : Device) : Device :=
  match armedAt s id inst with
  | some a => if a.left ≤ quiet then injectEnd id inst a s else s
  | none => s

/-- BLACKBOX_COPY: the oldest class F record not yet stored goes to the archive (R767). -/
def blackboxCopy (s : Device) : Device :=
  match s.fault.toBlackBox with
  | [] => s
  | r :: rest =>
    if !s.boot.nand.present then s
    else
      modBoot (fun b => { b with nand := { b.nand with blackBox := (r :: b.nand.blackBox).take 65536 } })
        (modFault (fun f => { f with toBlackBox := rest }) s)

/-! ### Commands -/

/-- The bytes of one source in FAULT_LIST (Table 22-11). -/
def listBytes (p : Nat × Nat) : List Byte :=
  match faultInfo p.1 with
  | none => zeros 16
  | some f => fields 16 [(0, le 2 p.1), (2, le 1 p.2), (3, le 1 f.cls), (4, le 1 f.level), (5, le 1 f.width),
      (6, le 2 (permitted p.1 p.2)), (8, le 2 (defaultMask p.1 p.2))]

/-- FAULT_LIST (R742, R853). -/
def faultListCmd : Cmd where
  act := reads fun _ r =>
    let l := (allSources.drop (rd r.params 0 2)).take 251
    le 2 l.length ++ [0, 0] ++ l.flatMap listBytes

/-- The instances a request names: one, or all of the fault ID for 0xFF (R768, R771). -/
def namedInsts (p : List Byte) : List Nat :=
  let id := rd p 0 2
  if rd p 2 1 = 0xFF then List.range ((faultInfo id).map (·.insts) |>.getD 0) else [rd p 2 1]

/-- The fault ID and the instance exist, as the checks of offsets 0 and 2 see them. -/
def sourceField (p : List Byte) (off : Nat) : Bool :=
  if off = 0 then (faultInfo (rd p 0 2)).isSome
  else if off = 2 then rd p 2 1 = 0xFF || isSource (rd p 0 2) (rd p 2 1) else true

/-- The code of a FAULT_CLEAR row (R771). -/
def codeField (k : Nat) (p : List Byte) (off : Nat) : Bool := off ≠ 3 || rd p 3 1 = k

/-- FAULT_CONFIG (R753, R768). -/
def faultConfigCmd : Cmd where
  field := fun _ r off =>
    let p := r.params
    if off = 4 then
      let m := rd p 4 2
      m % 2 = 1 && (namedInsts p).all fun i => m &&& permitted (rd p 0 2) i = m
    else sourceField p off
  state := fun _ r =>
    if isAlarm (rd r.params 0 2) && rd r.params 4 2 / 256 % 2 = 0 then some (.notPermitted, 0) else none
  back := fun s r =>
    let id := rd r.params 0 2
    let i := if rd r.params 2 1 = 0xFF then 0 else rd r.params 2 1
    [(0, slice r.params 0 3), (4, le 2 (faultSet s id i 4)), (6, le 1 (faultSet s id i 6)), (8, le 2 (faultSet s id i 8)),
     (10, le 2 (faultSet s id i 10))]
  act := does fun r s =>
    let p := r.params
    each (namedInsts p) (fun i s => acceptFields 0x0F01 0 (put p 2 (le 1 i)) s) s

/-- The number of sources in a phase. -/
def countPhase (s : Device) (f : SrcPhase → Bool) : Nat := (s.fault.sources.filter fun p => f p.2.st).length

/-- FAULT_STATUS (R769, Table 22-13). -/
def faultStatusCmd : Cmd where
  field := fun _ r off => rd r.params 0 2 = 0xFFFF ||
    (if off = 2 then isSource (rd r.params 0 2) (rd r.params 2 1) else sourceField r.params off)
  act := reads fun s r =>
    let id := rd r.params 0 2
    let i := rd r.params 2 1
    if id = 0xFFFF then
      let a := countPhase s (· = .active)
      let l := countPhase s (· = .latched)
      fields 48 [(0, le 2 0xFFFF), (4, le 4 (allSources.length - a - l)), (8, le 4 a), (12, le 4 l),
        (16, le 1 (bit (safeState s))), (20, le 4 s.fault.overwrite)]
    else
      let q := source s id i
      let st := match q.st with | .quiet => 0 | .active => 1 | .latched => 2
      fields 48 [(0, le 2 id), (2, le 1 i), (3, le 1 st), (4, le 1 (phaseOf s id i)), (5, le 1 (bit (SourceRaw q))),
        (6, le 2 q.held.toNat), (8, le 4 q.events), (12, le 2 q.recoveries), (16, timeBytes10 q.lastEvent),
        (26, timeBytes10 q.lastChange)]

/-- FAULT_LOG_READ (R770). -/
def faultLogReadCmd : Cmd where
  act := reads fun s r =>
    ((s.fault.log.drop (rd r.params 0 2)).take (rd r.params 2 2)).flatMap faultBytes

/-- The latches that a request names and R751 allows to be cleared. -/
def clearable (s : Device) (p : List Byte) : List Nat :=
  (namedInsts p).filter fun i => (source s (rd p 0 2) i).st = .latched && !SourceRaw (source s (rd p 0 2) i)

/-- FAULT_CLEAR code 0: clear latches (R751, R771). -/
def faultClearLatchCmd : Cmd where
  field := fun _ r off => codeField 0 r.params off && sourceField r.params off
  state := fun s r =>
    let p := r.params
    if ((namedInsts p).any fun i => (source s (rd p 0 2) i).st = .latched) && (clearable s p).isEmpty then
      some (.notPermitted, 0) else none
  act := does fun r s => each (clearable s r.params) (fun i s => toQuiet (rd r.params 0 2) i s) s

/-- FAULT_CLEAR code 1: zero the recovery and event counters (R771). -/
def faultClearCountersCmd : Cmd where
  field := fun _ r off => codeField 1 r.params off && sourceField r.params off
  act := does fun r s =>
    each (namedInsts r.params) (fun i s =>
      modSource (rd r.params 0 2) i (fun q => { q with recoveries := 0, events := 0, recent := [] }) s) s

/-- FAULT_CLEAR code 2: empty the first-fault record (R771). -/
def faultClearFirstFaultCmd : Cmd where
  field := fun _ r off => codeField 2 r.params off
  act := does fun _ s => modFault (fun f => { f with first := none }) s

/-- FAULT_CLEAR code 3: empty the log (R771). -/
def faultClearLogCmd : Cmd where
  field := fun _ r off => codeField 3 r.params off
  act := does fun _ s => modFault (fun f => { f with log := [] }) s

/-- The block that holds a checker is gated (R720, R764). -/
def checkerGated (s : Device) (id inst : Nat) : Bool :=
  if id = 0x0606 then !clkOn s (11 + inst)
  else if id = 0x0341 then !clkOn s 8
  else if id = 0x0F06 then !clkOn s inst
  else if id = 0x0F04 && inst < 64 then !clkOn s (2 + inst / 16)
  else false

/-- The refusals of an arm request in the order of R764. -/
def armRefusal (s : Device) (r : Req) : Option (Status × Nat) :=
  let p := r.params
  let id := rd p 0 2
  let i := rd p 2 1
  let width := min 32 ((faultInfo id).map (·.width) |>.getD 0)
  if !isChecker id i then some (.badParam, 0)
  else if checkerGated s id i then some (.blockOff, 0)
  else if rd p 4 4 = 0 || 2 ^ width ≤ rd p 4 4 then some (.badParam, 4)
  else if rd p 8 1 = 0 then some (.badParam, 8)
  else if 1 < rd p 9 1 then some (.badParam, 9)
  else if (armedAt s id i).isSome then some (.busy, 0)
  else if id = 0x0606 && carriers.any (cryptEnable s) then some (.notPermitted, 0)
  else none

/-- The refusals of R764 and R772 by `action`. -/
def injectRefusal (s : Device) (r : Req) : Option (Status × Nat) :=
  match rd r.params 3 1 with
  | 0 => if isChecker (rd r.params 0 2) (rd r.params 2 1) then none else some (.badParam, 0)
  | 1 => armRefusal s r
  | _ => some (.badParam, 3)

/-- FAULT_INJECT with `action` 1 (R763, R764, R772). -/
def faultInjectArmCmd : Cmd where
  ownChecks := true
  state := injectRefusal
  act := does fun r s =>
    let p := r.params
    setArmed (rd p 0 2) (rd p 2 1)
      (some { pattern := BitVec.ofNat 32 (rd p 4 4), left := rd p 8 1, react := rd p 9 1 = 1, marked := 0 }) s

/-- FAULT_INJECT with `action` 0 (R772). -/
def faultInjectDisarmCmd : Cmd where
  ownChecks := true
  state := injectRefusal
  act := does fun r s =>
    match armedAt s (rd r.params 0 2) (rd r.params 2 1) with
    | some a => injectEnd (rd r.params 0 2) (rd r.params 2 1) a s
    | none => s

/-- FAULT_PHASE (R743, R773). -/
def faultPhaseCmd : Cmd where
  act := does fun r s =>
    changePhase (modFault fun f => { f with test := rd r.params 0 1 = 1, recoveryS := rd r.params 2 2 }) s

/-- FAULT_BLACKBOX_READ (R767); without an archive `NO_RESOURCE` (R793). -/
def faultBlackboxReadCmd : Cmd where
  state := fun s _ => if s.boot.nand.present then none else some (.noResource, 0)
  act := reads fun s r =>
    ((s.boot.nand.blackBox.drop (rd r.params 0 2)).take (rd r.params 2 2)).flatMap faultBytes

end Sys2Proof.Machine
end

