-- ==== Sys2Proof/Machine/Accord.lean ====
section
/-!
DEFINITION. Accords and the loop engines (02_accords_and_loop_engines R45 to R98; 22_command_reference R849, R850,
Table 22-11): the store, verification, staging, the acceptance and cancelling of a switch, the engines' counters and
memories. The switch itself is in `Switch`.
-/
namespace Sys2Proof.Machine
open Sys2Proof

/-! ### Header fields (Table 2-1) -/

/-- `image_len`. -/
def hdrLen (h : List Byte) : Nat := rd h 8 4
/-- `sec_version`. -/
def hdrSec (h : List Byte) : Nat := rd h 12 2
/-- `key_sel`. -/
def hdrKey (h : List Byte) : Nat := rd h 14 1
/-- `accord_id`. -/
def hdrId (h : List Byte) : Nat := rd h 16 8
/-- `min_fw`. -/
def hdrFw (h : List Byte) : Nat := rd h 78 2
/-- A partition's digest: 0 device, 1 carrier A, 2 carrier B. -/
def hdrDigest (h : List Byte) (p : Nat) : List Byte := slice h (80 + 48 * p) 48

/-- The format and length of an image are valid (R50, R51). -/
def headerOk (image : List Byte) (len : Nat) : Bool :=
  336 ≤ image.length && image.length = len && rd image 0 4 = 0x44524341 && rd image 4 2 = 1 && rd image 6 2 = 0 &&
    hdrLen image = len && len ≤ 0x04000000 && hdrSec image < 64 && hdrKey image < 3 && rd image 72 4 ≤ 0x01000000

/-! ### The store -/

/-- A store slot. -/
def accSlot (s : Device) (i : Nat) : AccordSlot := Tab.get (fun _ => {}) s.accord.slots i

/-- Change a store slot. -/
def modSlot (i : Nat) (f : AccordSlot → AccordSlot) (s : Device) : Device :=
  modAccord (fun a => { a with slots := Tab.modify (fun _ => {}) a.slots i f }) s

/-- The numbers of the store slots. -/
def slotNums : List Nat := List.range 16

/-- The chunked load in progress (R849). -/
def chunkLoad (s : Device) : Option Nat :=
  slotNums.find? fun i => (accSlot s i).state = .loading && (accSlot s i).source = 0

/-- Lowest free slot. -/
def freeSlot (s : Device) : Option Nat := slotNums.find? fun i => (accSlot s i).state = .free

/-- Free bytes of the store pool (R849). -/
def storeFree (s : Device) : Nat :=
  poolSize s 3 * 2 ^ 20 - (slotNums.map fun i => if (accSlot s i).state = .free then 0 else (accSlot s i).imageLen).sum

/-- A slot is freed. -/
def dropSlot (i : Nat) (s : Device) : Device := modSlot i (fun _ => {}) s

/-- `ACCORD_VERIFIED` (R57). -/
def accordVerified (i : Nat) (st : Status) (s : Device) : Device := raise 0x0101 i 0 (le 1 st.code) s

/-- The device without the chunked load that a chunk of offset 0 abandons. -/
def dropChunkLoad (s : Device) : Device := match chunkLoad s with | some i => dropSlot i s | none => s

/-- A library entry by its ID. -/
def libEntry (s : Device) (id : Nat) : Option NandEntry :=
  (Tab.get (fun _ => []) s.boot.nand.entries 0 : List NandEntry).find? fun e => e.id = id

/-- A load that starts a slot finds its resources (R849). -/
def loadRoom (s : Device) (len : Nat) : Bool := (freeSlot s).isSome && len ≤ storeFree s

/-- Fields of ACCORD_LOAD by source (R849, Table 22-8). -/
def loadField (s : Device) (r : Req) (off : Nat) : Bool :=
  let p := r.params
  let src := rd p 0 1
  let o := rd p 4 4
  let len := rd p 8 4
  let n := rd p 12 2
  let cur := chunkLoad s
  match off with
  | 4 =>
    if src ≠ 0 then o = 0
    else if o = 0 then true
    else match cur with | some i => o = (accSlot s i).image.length | none => false
  | 8 =>
    if src ≠ 0 then true
    else
      let got : List Byte :=
        if o = 0 then [] else (match cur with | some i => (accSlot s i).image | none => [])
      let sameAsBefore :=
        if o = 0 then true else (match cur with | some i => len = (accSlot s i).imageLen | none => false)
      let image := got ++ p.drop 48
      sameAsBefore && (image.length < 12 || rd image 8 4 = len)
  | 12 =>
    if src = 0 then 1 ≤ n && n ≤ 4032 && p.length = 48 + n && o + n ≤ len else n = 0 && p.length = 48
  | 16 => src = 1 || rd p 16 8 = 0
  | 24 => if src = 2 then (libEntry s (rd p 24 8)).isSome else rd p 24 8 = 0
  | _ => true

/-- What ACCORD_LOAD does once its fields pass: the slot and the device (R56, R849). -/
def loadAct (r : Req) (s : Device) : Resp × Device :=
  let p := r.params
  let src := rd p 0 1
  let o := rd p 4 4
  let len := rd p 8 4
  let data := p.drop 48
  let answer (i : Nat) : Resp := ⟨.ok, le 1 i ++ [0, 0, 0]⟩
  let chunk (i : Nat) (s : Device) : Device :=
    modSlot i (fun q =>
      let image := q.image ++ data
      { q with image, idle := 0, lastAt := s.timing.now,
               state := if image.length = q.imageLen then .verifying else .loading }) s
  if src = 0 ∧ o ≠ 0 then
    match chunkLoad s with
    | some i => (answer i, chunk i s)
    | none => (Resp.refuse .badParam 4, s)
  else
    let s := if src = 0 then dropChunkLoad s else s
    match freeSlot s with
    | none => (⟨.noResource, []⟩, s)
    | some i =>
      let s := modSlot i (fun _ =>
        { state := .loading, imageLen := len, source := src, hostAddr := rd p 16 8, libEntry := rd p 24 8,
          lastAt := s.timing.now, req := r }) s
      (answer i, if src = 0 then chunk i s else s)

/-- ACCORD_LOAD (R56, R849); during a pool reconfiguration it is held (R586). -/
def accordLoadCmd : Cmd where
  field := loadField
  state := fun s r =>
    if s.mem.reconfig.isSome then (if s.accord.loadHeld.isSome then some (.busy, 0) else none)
    else
      let s' := if rd r.params 0 1 = 0 then dropChunkLoad s else s
      if (rd r.params 0 1 ≠ 0 || rd r.params 4 4 = 0) && !loadRoom s' (rd r.params 8 4) then some (.noResource, 0) else none
  act := fun r s =>
    if s.mem.reconfig.isSome then (⟨.pending, []⟩, modAccord (fun a => { a with loadHeld := some ⟨0x0101, r⟩ }) s)
    else loadAct r s

/-- Verification of a loaded image ends (R51 to R57). -/
def accordVerifyComplete (i : Fin 16) (v : VerifyIn) (s : Device) : Device :=
  let q := accSlot s i.val
  if q.state ≠ .verifying then s
  else
    let h := q.image
    let ok := headerOk h q.imageLen && keyAccepted s (hdrKey h) v.oemHash && v.sigOk &&
      hdrFw h ≤ s.boot.fwVersion / 65536 && s.boot.otp.accordCounter ≤ hdrSec h
    if ok then accordVerified i.val .ok (modSlot i.val (fun q => { q with state := .valid, plan := v.plan }) s)
    else accordVerified i.val .denied (dropSlot i.val s)

/-- A chunked load has received no chunk for 10 s, or a DMA load has lasted 1 s (R849). -/
def accordLoadTimeout (i : Fin 16) (s : Device) : Device :=
  let q := accSlot s i.val
  let due := q.state = .loading &&
    ((q.source = 0 && 11 ≤ q.idle) || (q.source = 1 && q.lastAt + SEC ≤ s.timing.now))
  if due then accordVerified i.val .timeout (dropSlot i.val s) else s

/-- The DMA copy of an image ends (R849). -/
def accordDmaComplete (i : Fin 16) (image : List Byte) (s : Device) : Device :=
  let q := accSlot s i.val
  if q.state = .loading ∧ q.source = 1 ∧ image.length = q.imageLen then
    modSlot i.val (fun q => { q with image, state := .verifying }) s
  else s

/-- The read of a library entry ends, or meets `NAND_UE`, which marks the entry invalid (R849;
20_startup_and_nonvolatile_store R794). -/
def accordNandReadComplete (i : Fin 16) (ok : Bool) (s : Device) : Device :=
  let q := accSlot s i.val
  if q.state ≠ .loading ∨ q.source ≠ 2 then s
  else match libEntry s q.libEntry with
    | some e =>
      if ok && !e.invalid then modSlot i.val (fun q => { q with image := e.data, state := .verifying }) s
      else
        let f (l : List NandEntry) : List NandEntry := l.map fun x => if x.id = e.id then { x with invalid := true } else x
        let s := modBoot (fun b => { b with nand := { b.nand with entries := Tab.modify (fun _ => []) b.nand.entries 0 f } }) s
        accordVerified i.val .denied (dropSlot i.val (fault 0x1008 0 [] s))
    | none => accordVerified i.val .denied (dropSlot i.val s)

/-- Chunked loads at an epoch boundary: the seconds without a chunk (R849). -/
def accordEpoch (s : Device) : Device :=
  modAccord (fun a => { a with slots := Tab.mapAll (fun _ => {}) a.slots fun _ q =>
    if q.state = .loading ∧ q.source = 0 then { q with idle := min (q.idle + 1) 15 } else q }) s

/-- State of a store slot as a number (Table 22-7). -/
def SlotState.code : SlotState → Nat
  | .free => 0
  | .loading => 1
  | .verifying => 2
  | .valid => 3
  | .invalid => 4

/-- State of the standby set as a number (Table 2-2). -/
def Standby.code : Standby → Nat
  | .empty => 0
  | .staging => 1
  | .ready => 2
  | .scheduled => 3
  | .switching => 4

/-- Role of a slot (Table 22-7). -/
def slotRole (s : Device) (i : Nat) : Nat :=
  if s.accord.active.slot = some i then 1 else if s.accord.standbySet.slot = some i then 2 else 0

/-- Header of the image in a slot, zero while the slot is FREE or LOADING (R850). -/
def slotHeader (s : Device) (i : Nat) : List Byte :=
  let q := accSlot s i
  if q.state = .free ∨ q.state = .loading then zeros 336 else fit 336 q.image

/-- Record of a slot (Table 22-7). -/
def slotRecord (s : Device) (i : Nat) : List Byte :=
  let h := slotHeader s i
  fields 64 [(0, le 1 i), (1, le 1 (accSlot s i).state.code), (2, le 1 (slotRole s i)), (3, le 1 (hdrKey h)),
    (4, le 2 (hdrSec h)), (8, slice h 16 8), (16, slice h 24 24), (40, slice h 48 24)]

/-- ACCORD_LIST (R98, R850). -/
def accordListCmd : Cmd where
  act := reads fun s _ => slotNums.flatMap (slotRecord s)

/-- ACCORD_INFO (R98, R850). -/
def accordInfoCmd : Cmd where
  act := reads fun s r => slotRecord s (rd r.params 0 1) ++ slotHeader s (rd r.params 0 1)

/-- ACCORD_REPORT (R98, Table 22-11): the planner's report of the Accord in a slot. -/
def accordReportCmd : Cmd where
  act := reads fun s r =>
    let q := accSlot s (rd r.params 0 1)
    le 4 q.plan.report.length ++ zeros 4 ++ slice q.plan.report (rd r.params 4 4) 4032

/-- ACCORD_DELETE (R59). -/
def accordDeleteCmd : Cmd where
  state := fun s r => if slotRole s (rd r.params 0 1) ≠ 0 then some (.notPermitted, 0) else none
  act := does fun r s => dropSlot (rd r.params 0 1) s

/-- ACCORD_VERSION_COMMIT (R60, R61, R872). -/
def accordVersionCommitCmd : Cmd where
  state := fun s r =>
    let v := rd r.params 0 1
    if !s.elec.vppOk || s.accord.active.slot.isNone || hdrSec s.accord.active.header < v || v < s.boot.otp.accordCounter
    then some (.notPermitted, 0) else none
  act := does fun r s =>
    let v := rd r.params 0 1
    let s := modBoot (fun b => { b with otp := { b.otp with accordCounter := v } }) s
    modAccord (fun a => { a with slots := Tab.mapAll (fun _ => {}) a.slots fun _ q =>
      if q.state = .valid ∧ hdrSec q.image < v then { q with state := .invalid } else q }) s

/-! ### Staging -/

/-- A command of this opcode is held (R42). -/
def accHeld (s : Device) (op : Nat) : Bool := s.accord.held.any fun h => h.op = op

/-- Staging starts (R63). -/
def startStaging (i : Nat) (s : Device) : Device :=
  modAccord (fun a => { a with standby := .staging, standbySet := { slot := some i } }) s

/-- ACCORD_STAGE (R63 to R66, Table 2-2). -/
def accordStageCmd : Cmd where
  state := fun s r =>
    match s.accord.standby with
    | .staging => some (.busy, 0)
    | .scheduled => some (.busy, 0)
    | .switching => if accHeld s 0x0104 then some (.busy, 0) else none
    | _ =>
      match (accSlot s (rd r.params 0 1)).state with
      | .valid => none
      | .invalid => some (.denied, 0)
      | _ => some (.notPermitted, 0)
  act := fun r s =>
    if s.accord.standby = .switching then
      (⟨.pending, []⟩, modAccord (fun a => { a with held := a.held ++ [⟨0x0104, r⟩] }) s)
    else (Resp.okay, startStaging (rd r.params 0 1) s)

/-- A core of the decoder pool is retired (06_forward_error_correction R263). -/
def coreRetired (s : Device) (k : Nat) : Bool := (Tab.get (fun _ => ({} : CoreSt)) s.pool.cores k).retired

/-- The copy into the standby set ends (R63, R64); a calendar that uses a retired core is refused (R264). -/
def stagingComplete (e : StageEnd) (s : Device) : Device :=
  match s.accord.standby, s.accord.standbySet.slot with
  | .staging, some i =>
    let q := accSlot s i
    let staged (st : Status) (s : Device) : Device := raise 0x0102 i 0 (le 1 st.code) s
    if e = .good ∧ q.state = .valid ∧ !(q.plan.cores.any fun k => coreRetired s k.1) then
      staged .ok (modAccord (fun a => { a with
        standby := .ready, standbySet := { slot := some i, header := fit 336 q.image, plan := q.plan } }) s)
    else
      let s := if e = .memError ∧ q.state = .valid then modSlot i (fun q => { q with state := .invalid }) s else s
      staged .denied (modAccord (fun a => { a with standby := .empty, standbySet := {} }) s)
  | _, _ => s

/-! ### Acceptance of a switch -/

/-- The partitions whose digests differ: bit 0 device, 1 carrier A, 2 carrier B (R71). Without an active Accord every
partition changes. -/
def changedParts (s : Device) : BitVec 3 :=
  let old := s.accord.active.header
  let new := s.accord.standbySet.header
  BitVec.ofNat 3 (bitmap ([0, 1, 2].map fun p => old = [] || hdrDigest old p ≠ hdrDigest new p))

/-- Partition number of a carrier. -/
def partNum (c : Carrier) : Nat := 1 + c.num

/-- Both halves of a carrier are off. -/
def carrierOff (s : Device) (c : Carrier) : Bool := (s.tx.get c).state = .off && (s.rx.get c).state = .off

/-- `rx_timing` of a carrier under a plan (05_receive_path Table 5-2). -/
def rxTiming (pl : Plan) (c : Carrier) : Int := planFixed pl (skey 0x0230 (carCode c) 0 1)

/-- `LINE_FE` is in force on a carrier (16_host_lanes R655). -/
def lineFe (s : Device) (c : Carrier) : Bool := cset s c 0x0250 0 = 2

/-- What refuses a switch to the staged Accord, beside Table 2-2 (R72; 04_transmit_path R177; 09_line_encryption R391;
16_host_lanes R658). -/
def switchRefused (s : Device) (ref : Carrier) (allowHit : Bool) : Bool :=
  let ch := changedParts s
  let pl := s.accord.standbySet.plan
  let zrNext (c : Carrier) : Bool := match pl.modes.get c with | some m => !m.native | none => false
  let other := ref.other
  (ch.getLsbD (partNum other) && !(s.rx.get other).state = .off && !allowHit) ||
    carriers.any (fun c =>
      ((pl.modes.get c).isNone && !carrierOff s c) ||
      (zrNext c && accepted s (skey 0x0600 (carCode c) 0 0) = 1) ||
      (lineFe s c && (zrNext c || rxTiming pl c = 2)))

/-- Bits of `CLK_EN` of the blocks that an Accord uses (18_clocks_resets_power R720, Table 18-5). -/
def planBlocks (pl : Plan) : List Nat :=
  carriers.flatMap fun c =>
    match pl.modes.get c with
    | none => []
    | some m =>
      [c.num, 2 + 2 * c.num, 3 + 2 * c.num] ++ (if m.native then [8] else [9 + c.num]) ++
        (if m.crypt then [11 + c.num] else [])

/-- Schedule the switch (R65, R68, R69). A carrier whose partition changes loses a pending STAGE agreement
(05_receive_path R230). -/
def scheduleSwitch (ref : Carrier) (after : Nat) (s : Device) : Device :=
  let ch := changedParts s
  let s := modAccord (fun a => { a with standby := .scheduled, refCarrier := ref, afterXsf := after,
                                        acceptedAt := s.timing.now, sinceAccept := 0, changed := ch }) s
  each carriers (fun c s =>
    let r := s.rx.get c
    if ch.getLsbD (partNum c) && r.ownRec.kind = 1 && r.agree ≠ .idle then
      modRx c (fun r => { r with agree := .idle, ownRec := {}, txCount := none, rxCount := none, backoff := none }) s
    else s) s

/-- ACCORD_SWITCH (R65 to R72). -/
def accordSwitchCmd : Cmd where
  blocks := fun s _ => if s.accord.standby = .ready then planBlocks s.accord.standbySet.plan else []
  state := fun s r =>
    match s.accord.standby with
    | .empty => some (.notPermitted, 0)
    | .staging => some (.notPermitted, 0)
    | .scheduled => some (.busy, 0)
    | .switching => if accHeld s 0x0105 then some (.busy, 0) else none
    | .ready =>
      if switchRefused s (Carrier.ofNum (rd r.params 0 1)) (tb (rd r.params 1 1) 0) then some (.notPermitted, 0) else none
  act := fun r s =>
    if s.accord.standby = .switching then
      (⟨.pending, []⟩, modAccord (fun a => { a with held := a.held ++ [⟨0x0105, r⟩] }) s)
    else (Resp.okay, scheduleSwitch (Carrier.ofNum (rd r.params 0 1)) (rd r.params 4 4) s)

/-- Every held ACCORD_STAGE and ACCORD_SWITCH is cancelled (R66). -/
def cancelHeld (s : Device) : Device :=
  let l := s.accord.held
  each l (fun h s => heldDone h .notPermitted s) (modAccord (fun a => { a with held := [] }) s)

/-- ACCORD_CANCEL (R65, R66, Table 2-2). -/
def accordCancelCmd : Cmd where
  state := fun s _ =>
    match s.accord.standby with
    | .empty => some (.notPermitted, 0)
    | .switching => if s.accord.held.isEmpty then some (.notPermitted, 0) else none
    | _ => none
  act := does fun _ s =>
    match s.accord.standby with
    | .staging => modAccord (fun a => { a with standby := .empty, standbySet := {} }) s
    | .scheduled => modAccord (fun a => { a with standby := .ready, changed := 0 }) s
    | .switching => cancelHeld s
    | _ => s

/-! ### ACCORD_LIMITS (R46, Table 22-11) -/

/-- ID of a setting (R859). -/
def settingId (key : Nat) : List Byte :=
  le 2 (keyOp key) ++ le 1 (keyOff key) ++ le 1 (keySel key % 256)

/-- Selector fields of a layout: plain parameters in its first two bytes (`persist` of Table 12-5 is none). -/
def selectorRows (op : Nat) : List Row := (layout op).filter fun r => r.kind = .par && r.off < 2

/-- A selector value names an object of a command. -/
def selectorOk (op sel : Nat) : Bool :=
  if op = 0x0F01 then (faultInfo sel).isSome
  else if (selectorRows op).isEmpty then sel = 0
  else
    let wide := (selectorRows op).any fun q => q.size = 2 || q.off = 1
    (wide || sel < 256) && (selectorRows op).all fun r =>
      let v := r.read (le 2 sel)
      r.lo ≤ v && v ≤ r.hi

/-- ACCORD_LIMITS: minimum, maximum, default and present value of every run-time setting of an object. -/
def accordLimitsCmd : Cmd where
  target := fun s r =>
    let op := rd r.params 0 2
    !hasSettings op || targetOk op r s
  field := fun _ r off =>
    match off with
    | 0 => hasSettings (rd r.params 0 2)
    | 2 => selectorOk (rd r.params 0 2) (rd r.params 2 2)
    | _ => true
  act := reads fun s r =>
    let op := rd r.params 0 2
    let sel := rd r.params 2 2
    let rows := (layout op).filter fun q =>
      q.kind = .rt && (op ≠ 0x0800 || refApplies sel (dset s 0x0800 sel 3).toNat q.off)
    le 4 rows.length ++ rows.flatMap fun q =>
      let key := skey op r.tgt (rd r.params 2 2) q.off
      let lim := limitsOf (plan s) key q
      settingId key ++ zeros 4 ++ leInt 8 (max q.lo lim.1) ++
        leInt 8 (min (if op = 0x0800 ∧ q.off = 2 ∧ !qlReceived sel then 15 else q.hi) lim.2) ++
        (if op = 0x0F01 ∧ q.off = 4 then leInt 8 (defaultMask sel 0) ++ leInt 8 (faultSet s sel 0 4)
         else leInt 8 (resetVal (plan s) (flexoLane (plan s)) key) ++ leInt 8 (inForce s key))

/-! ### Loop engines (R84 to R96) -/

/-- The carrier of an engine's clusters, none for clusters 4 and 5 (Table 2-4). -/
def engineCarrier (e : Nat) : Option Carrier := if e < 32 then some .a else if e < 64 then some .b else none

/-- The plan whose schedule an engine runs: the former Accord's until its clusters have begun the incoming one (R75,
R76). -/
def enginePlan (s : Device) (e : Nat) : Plan :=
  let former := match engineCarrier e with
    | some c => s.accord.rxWait.get c || s.accord.clusterWait.get c
    | none => s.accord.devWait
  if former then s.accord.standbySet.plan else plan s

/-- An engine runs: its cluster is not gated (18_clocks_resets_power Table 18-5) and its domain is not in reset. -/
def engineRuns (s : Device) (e : Nat) : Bool :=
  (if e < 64 then clkOn s (2 + e / 16) else e < 96) && !inReset s (engineDomain e)

/-- `FG_PLANNED`: the budgets of the busiest control tick (Table 2-6). Slots of slow ticks and of epochs meet when
they name the same tick; slots of superframes can meet any of them. -/
def fgPlanned (s : Device) (e : Nat) : Nat :=
  let l := (enginePlan s e).slots.filter fun q => q.engine = e
  let total (f : Period → Bool) : Nat := ((l.filter fun q => f q.period).map (·.budget)).sum
  let always := total fun p => match p with
    | .slowTick _ => false
    | .epochTick _ => false
    | _ => true
  let ks := l.filterMap fun q => match q.period with
    | .slowTick k => some k
    | .epochTick k => some k
    | _ => none
  let at_ (k : Nat) : Nat := total fun p => match p with
    | .slowTick j => j = k
    | .epochTick j => j = k
    | _ => false
  sat 16 (always + (ks.map at_).foldl max 0)

/-- A write through the tap port: kept as the table's latest value (R89), or blocked and counted when the engine does
not own the table (R88). -/
def tapWrite (e : Nat) (w : ShadowWrite) (s : Device) : Device :=
  if (enginePlan s e).tables.any fun t => t.table = w.table && t.owner = e then
    modEngine e (fun q => { q with shadow := (q.shadow.filter fun v => v.table ≠ w.table) ++ [w] }) s
  else fault 0x0102 e [] (modEngine e (fun q => { q with tapViolations := sat 16 (q.tapViolations + 1) }) s)

/-- A memory written by an engine: `size` bytes, the rest ignored. -/
def engineWrite (base size : Nat) (l : List (Nat × List Byte)) (m : List Host.Cell) : List Host.Cell :=
  l.foldl (fun m w => memWrite m (base + w.1) (w.2.take (size - w.1))) m

/-- A foreground slot of the control tick that ends (R84 to R94). -/
def runSlot (x : EngineRun) (s : Device) : Device :=
  let e := x.engine
  match (enginePlan s e).slots.find? fun q => q.engine = e && q.slot = x.slot with
  | none => s
  | some q =>
    if !engineRuns s e then s
    else
      let s := modEngine e (fun g => { g with dataMem := engineWrite 0 65536 x.data g.dataMem }) s
      let base := e / 16 * 2 ^ 20
      let s := putEngines { s.engines with
        clusterMem := engineWrite base (2 ^ 20) x.cluster s.engines.clusterMem } s
      if q.budget < x.cycles then
        let tables := (x.writes.map (·.table)).eraseDups.length
        fault 0x0101 e (le 1 x.slot) (modEngine e (fun g => { g with
          overruns := sat 16 (g.overruns + 1), shadowDiscard := sat 16 (g.shadowDiscard + tables) }) s)
      else each x.writes (tapWrite e) s

/-- Cycles that a slot used: its program stops at the end of its budget (R93). -/
def slotCycles (s : Device) (x : EngineRun) : Nat :=
  match (enginePlan s x.engine).slots.find? fun q => q.engine = x.engine && q.slot = x.slot with
  | none => 0
  | some q => min q.budget x.cycles

/-- Background work (R90, R91, Table 2-6). -/
def runBackground (x : BgRun) (s : Device) : Device :=
  if !engineRuns s x.engine then s
  else modEngine x.engine (fun g => { g with
    bgCycles := sat 48 (g.bgCycles + x.cycles), bgPasses := sat 16 (g.bgPasses + x.passes) }) s

/-- One pass of every engine schedule, at the control-tick boundary that ends it (R84 to R94). Tables of the device
partition alter no carrier's data path and take force at this boundary (log 24). -/
def enginesTick (runs : List EngineRun) (bg : List BgRun) (s : Device) : Device :=
  let used (e : Nat) : Nat := ((runs.filter fun x => x.engine = e).map (slotCycles s)).sum
  let s := each ((runs.map (·.engine)).eraseDups) (fun e s =>
    if engineRuns s e then modEngine e (fun g => { g with fgMax := sat 16 (max g.fgMax (used e)) }) s else s) s
  let s := each bg runBackground (each runs runSlot s)
  each (s.engines.engines.map (·.1)) (fun e s =>
    let dev (w : ShadowWrite) : Bool :=
      (enginePlan s e).tables.any fun t => t.table = w.table && t.owner = e && t.part = .dev
    let now := (engine s e).shadow.filter dev
    let s := putEngines { s.engines with
      coef := now.foldl (fun c w => Tab.set (fun _ => 0) c w.table w.value) s.engines.coef } s
    modEngine e (fun g => { g with shadow := g.shadow.filter fun w => !dev w }) s) s

/-- Commits at a block boundary of a carrier (R31); while the carrier's coefficients are held the shadow tables are
not committed, and the commits withheld are not counted (19_fault_handling Table 19-4). -/
def commitTables (c : Carrier) (s : Device) : Device :=
  let hold := coefHeld s c
  each (s.engines.engines.map (·.1)) (fun e s =>
    let mine (w : ShadowWrite) : Bool :=
      (enginePlan s e).tables.any fun t => t.table = w.table && t.owner = e && t.part = .car c
    let now := (engine s e).shadow.filter mine
    let s := if hold then s else putEngines { s.engines with
      coef := now.foldl (fun m w => Tab.set (fun _ => 0) m w.table w.value) s.engines.coef } s
    modEngine e (fun g => { g with shadow := g.shadow.filter fun w => !mine w }) s) s

/-- Tables of a partition, transmit or receive side, switch: shadow tables not committed are discarded and counted
(R80), tables marked continued keep their value, the others take the incoming image's (R78). `f` says which tables. -/
def switchTables (old new : Plan) (f : TablePlan → Bool) (s : Device) : Device :=
  let gone (w : ShadowWrite) : Bool := old.tables.any fun t => t.table = w.table && f t
  let s := each (s.engines.engines.map (·.1)) (fun e s =>
    let n := ((engine s e).shadow.filter gone).length
    modEngine e (fun g => { g with shadow := g.shadow.filter (fun w => !gone w),
                                   shadowDiscard := sat 16 (g.shadowDiscard + n) }) s) s
  let before := s.engines.coef
  let kept := before.filter fun p => !(old.tables.any fun t => t.table = p.1 && f t)
  let coef := (new.tables.filter f).foldl (fun m t =>
    Tab.set (fun _ => 0) m t.table (if t.continued then Tab.get (fun _ => 0) before t.table else t.init)) kept
  putEngines { s.engines with coef } s

/-- Record of an engine (Table 22-11). -/
def engineRecord (s : Device) (e : Nat) : List Byte :=
  let g := engine s e
  fields 20 [(0, le 1 e), (2, le 2 (fgPlanned s e)), (4, le 2 g.fgMax), (6, le 6 g.bgCycles), (12, le 2 g.bgPasses),
    (14, le 2 g.overruns), (16, le 2 g.tapViolations), (18, le 2 g.shadowDiscard)]

/-- The bit of `CLK_EN` of an engine's cluster. -/
def engineBlocks (e : Nat) : List Nat := if e < 64 then [2 + e / 16] else []

/-- ENGINE_STATUS (R95). -/
def engineStatusCmd : Cmd where
  blocks := fun _ r => if rd r.params 0 1 < 96 then engineBlocks (rd r.params 0 1) else []
  field := fun _ r _ => rd r.params 0 1 < 96 || rd r.params 0 1 = 0xFF
  act := reads fun s r =>
    if rd r.params 0 1 = 0xFF then (List.range 96).flatMap (engineRecord s) else engineRecord s (rd r.params 0 1)

/-- ENGINE_READ (R96). -/
def engineReadCmd : Cmd where
  blocks := fun _ r => engineBlocks (rd r.params 0 1)
  field := fun _ r off =>
    let size := if rd r.params 1 1 = 0 then 65536 else 2 ^ 20
    off ≠ 4 || rd r.params 4 4 + rd r.params 8 2 ≤ size
  act := reads fun s r =>
    let e := rd r.params 0 1
    let n := rd r.params 8 2
    if rd r.params 1 1 = 0 then memRead (engine s e).dataMem (rd r.params 4 4) n
    else memRead s.engines.clusterMem (e / 16 * 2 ^ 20 + rd r.params 4 4) n

end Sys2Proof.Machine
end

