-- ==== Sys2Proof/Machine/Conv.lean ====
section
/-!
DEFINITION. Converters and trimming (03_converters_and_trim R99 to R140): slices, cells, trims and element changes,
their windows, calibration, port conditions, the self-test and the commands CAL_READ to CONV_SELFTEST.
-/
namespace Sys2Proof.Machine
open Sys2Proof

/-! ### Slices, segments and cells -/

/-- A converter of a carrier: ADCs 0 to 3, DACs 4 to 7. -/
def convOf (s : Device) (c : Carrier) (k : Nat) : ConvSt := Tab.get (fun _ => {}) (s.conv.get c).convs k

/-- Change a converter. -/
def modConvK (c : Carrier) (k : Nat) (f : ConvSt → ConvSt) (s : Device) : Device :=
  modConv c (fun v => { v with convs := Tab.modify (fun _ => {}) v.convs k f }) s

/-- An element before anything has changed it (log 2). -/
def sliceInit (k n : Nat) : SliceSt :=
  if k ≥ 4 then { state := .active, position := some n }
  else if n < 64 then { state := .active, position := some n } else {}

/-- A slice or segment. -/
def sliceAt (s : Device) (c : Carrier) (k n : Nat) : SliceSt := Tab.get (sliceInit k) (convOf s c k).slices n

/-- Change a slice or segment. -/
def modSlice (c : Carrier) (k n : Nat) (f : SliceSt → SliceSt) (s : Device) : Device :=
  modConvK c k (fun v => { v with slices := Tab.modify (sliceInit k) v.slices n f }) s

/-- The cell map of a DAC segment. -/
def segAt (s : Device) (c : Carrier) (k g : Nat) : SegSt := Tab.get (fun _ => {}) (convOf s c k).segs g

/-- Change a cell map. -/
def modSeg (c : Carrier) (k g : Nat) (f : SegSt → SegSt) (s : Device) : Device :=
  modConvK c k (fun v => { v with segs := Tab.modify (fun _ => {}) v.segs g f }) s

/-- The cell in a position. -/
def cellAt (g : SegSt) (q : Nat) : Nat := Tab.get id g.cellMap q

/-- The positions of a segment in order. -/
def mapped (g : SegSt) : List Nat := (List.range 240).map (cellAt g)

/-- Cell `x` is in the map. -/
def inMap (g : SegSt) (x : Nat) : Bool := (mapped g).any fun y => y = x

/-- Spare cells: neither in the map nor failed (Table 3-8). -/
def spareCells (g : SegSt) : List Nat :=
  let m := mapped g
  (List.range 256).filter fun x => !(m.any fun y => y = x) && !(g.failed.any fun y => y = x)

/-- Calibrated spares of an ADC. -/
def readySpares (s : Device) (c : Carrier) (k : Nat) : List Nat :=
  (List.range 72).filter fun n => (sliceAt s c k n).state = .spareReady

/-- The slice that fills a position. -/
def sliceIn (s : Device) (c : Carrier) (k p : Nat) : Option Nat :=
  (List.range 72).find? fun n => (sliceAt s c k n).position = some p

/-- A failed element is still in its place (R124). -/
def failedInPlace (s : Device) (c : Carrier) : Bool :=
  ([0, 1, 2, 3].any fun k =>
    (convOf s c k).slices.any fun p => p.2.state = .active && p.2.failCause ≠ 0) ||
  ([4, 5, 6, 7].any fun k => [0, 1, 2, 3].any fun g =>
    let m := segAt s c k g
    m.failed.any (inMap m))

/-- `spares_low` (R130). -/
def sparesLow (s : Device) (c : Carrier) : Nat := csetN s c 0x0241 2

/-- Counts of spares of a carrier: ADCs, then DAC segments. -/
def spareCounts (s : Device) (c : Carrier) : List Nat :=
  ([0, 1, 2, 3].map fun k => (readySpares s c k).length) ++
    ([4, 5, 6, 7].flatMap fun k => [0, 1, 2, 3].map fun g => (spareCells (segAt s c k g)).length)

/-- `CONV_SPARES_LOW` and `CONV_SPARES_EXHAUSTED` after a change of elements: low begins when a count falls to
`spares_low` or fewer and ends when every count is above it (R130); exhausted ends when no failed element is in place
(R124). -/
def evalSpares (c : Carrier) (before : Device) (s : Device) : Device :=
  let low := sparesLow s c
  let fell := ((spareCounts before c).zip (spareCounts s c)).any fun p => p.2 < p.1 && p.2 ≤ low
  let s := if fell then faultOn 0x0307 c.num [] s
    else if (spareCounts s c).all fun n => low < n then faultOff 0x0307 c.num s else s
  if failedInPlace s c then s else faultOff 0x0308 c.num s

/-- Apply `f` and evaluate the spares of the carrier. -/
def withSpares (c : Carrier) (f : Device → Device) (s : Device) : Device := evalSpares c s (f s)

/-! ### Element changes (R105 to R119) -/

/-- Put an element change in wait. -/
def addChange (c : Carrier) (k : Nat) (e : ElemChange) (s : Device) : Device :=
  modConvK c k (fun v => { v with pending := v.pending ++ [e] }) s

/-- `auto_swap`: the engines decide element changes (Table 3-5). -/
def autoSwap (s : Device) (c : Carrier) : Bool := cset s c 0x0241 12 = 1

/-- A pending change of this converter uses this incoming element. -/
def incomingUsed (v : ConvSt) (g n : Nat) : Bool := v.pending.any fun e => e.kind ≠ .tapChange && e.seg = g && e.incoming = n

/-- A slice fails for a row of Table 3-2 (R123, R124, R129): a spare leaves at once; an active slice waits for a
calibrated spare, the lowest free one (log 25), or stays when none remains. -/
def sliceFails (c : Carrier) (k n row : Nat) (s : Device) : Device :=
  let q := sliceAt s c k n
  if q.failCause ≠ 0 ∨ q.state = .failed then s
  else
    let s := modSlice c k n (fun q => { q with
      failCause := q.failCause ||| (1#4 <<< row), state := if q.state = .active then .active else .failed }) s
    let s := fault 0x0305 c.num [] s
    match q.state, q.position with
    | .active, some p =>
      match (readySpares s c k).find? fun m => !incomingUsed (convOf s c k) 0 m with
      | some m =>
        if autoSwap s c then addChange c k { kind := .sliceSwap, incoming := m, position := p, forFailed := true } s else s
      | none => faultOn 0x0308 c.num [] s
    | _, _ => s

/-- A DAC cell fails (R123, R124, R129). -/
def cellFails (c : Carrier) (k g x : Nat) (s : Device) : Device :=
  let m := segAt s c k g
  if m.failed.any fun y => y = x then s
  else
    let s := modSeg c k g (fun m => { m with failed := m.failed ++ [x], measured := m.measured.filter fun y => y ≠ x }) s
    let s := fault 0x0306 c.num [] s
    match (List.range 240).find? fun q => cellAt m q = x with
    | some p =>
      let free := (spareCells (segAt s c k g)).find? fun y => m.measured.any (fun z => z = y) && !incomingUsed (convOf s c k) g y
      match free with
      | some y =>
        if autoSwap s c then
          addChange c k { kind := .cellSwap, seg := g, incoming := y, position := p, forFailed := true } s else s
      | none => faultOn 0x0308 c.num [] s
    | none => s

/-- Trims that an element needs (R105, R106, R123): out of range fails a slice; another tap is an element change of
the engines; otherwise a continuous trim. -/
def requestTrim (c : Carrier) (r : TrimReq) (s : Device) : Device :=
  let q := sliceAt s c r.conv r.elem
  let ok := -64 ≤ r.offset && r.offset ≤ 63 && -128 ≤ r.gain && r.gain ≤ 127 && 0 ≤ r.skew && r.skew ≤ 1023
  if 8 ≤ r.conv ∨ (if r.conv < 4 then 72 else 4) ≤ r.elem then s
  else if !ok then (if r.conv < 4 then sliceFails c r.conv r.elem 0 s else s)
  else
    let skew := r.skew.toNat
    if skew / 64 = q.skew / 64 then
      modConv c (fun v => { v with trims := v.trims ++ [⟨r.conv, r.elem, r.offset, r.gain, skew % 64⟩] }) s
    else
      let s := modConv c (fun v => { v with trims := v.trims ++ [⟨r.conv, r.elem, r.offset, r.gain, q.skew % 64⟩] }) s
      if autoSwap s c then
        addChange c r.conv { kind := .tapChange, seg := if r.conv < 4 then 0 else r.elem, incoming := r.elem, skew } s
      else s

/-- A measured cell (R122, Table 3-2: more than 12.5 % off fails it). -/
def measureCell (c : Carrier) (m : CellMeas) (s : Device) : Device :=
  if m.conv < 4 ∨ 8 ≤ m.conv ∨ 4 ≤ m.seg ∨ 256 ≤ m.cell then s
  else if 1250 < m.diff.natAbs then cellFails c m.conv m.seg m.cell s
  else modSeg c m.conv m.seg (fun g =>
    if inMap g m.cell || g.failed.any (fun y => y = m.cell) then g
    else { g with measured := (g.measured.filter fun y => y ≠ m.cell) ++ [m.cell] }) s

/-- A swap that the engines decide: cell swaps are the rotation of R122, at most one per segment and window, and need
`bg_enable`. -/
def requestSwap (c : Carrier) (r : ElemReq) (s : Device) : Device :=
  let v := convOf s c r.conv
  if !autoSwap s c then s
  else if r.conv < 4 then
    if (sliceAt s c r.conv r.incoming).state = .spareReady ∧ r.position < 64 ∧ !incomingUsed v 0 r.incoming then
      addChange c r.conv { kind := .sliceSwap, incoming := r.incoming, position := r.position } s
    else s
  else if r.conv < 8 ∧ r.seg < 4 ∧ r.position < 240 ∧ cset s c 0x0241 0 = 1 ∧
      (segAt s c r.conv r.seg).measured.any (fun y => y = r.incoming) ∧
      !(v.pending.any fun e => e.kind = .cellSwap && e.seg = r.seg && !e.forFailed) then
    addChange c r.conv { kind := .cellSwap, seg := r.seg, incoming := r.incoming, position := r.position } s
  else s

/-- A slice swap takes force: the spare takes the position; the slice that held it becomes a spare to be calibrated,
or `FAILED` (R100, R123). -/
def applySlice (c : Carrier) (k : Nat) (e : ElemChange) (s : Device) : Device :=
  match sliceIn s c k e.position with
  | none => s
  | some old =>
    if (sliceAt s c k e.incoming).state ≠ .spareReady then s
    else
      let s := modSlice c k old (fun q => { q with
        state := if q.failCause ≠ 0 then .failed else .spareCalibrating, position := none, swapAge := some 0 }) s
      let s := modSlice c k e.incoming (fun q => { q with state := .active, position := some e.position,
                                                          swapAge := some 0 }) s
      modConv c (fun v => { v with reports := v.reports ++
        [fields 12 [(0, [0]), (1, le 1 k), (4, le 2 old), (6, le 2 e.incoming), (8, le 2 e.position)]] }) s

/-- A cell swap takes force: the freed cell is to be measured as a spare (R122). -/
def applyCell (c : Carrier) (k : Nat) (e : ElemChange) (s : Device) : Device :=
  let g := segAt s c k e.seg
  if !(spareCells g).any (fun y => y = e.incoming) then s
  else
    let old := cellAt g e.position
    let s := modSeg c k e.seg (fun g => { g with
      cellMap := Tab.set id g.cellMap e.position e.incoming, measured := g.measured.filter fun y => y ≠ e.incoming }) s
    modConv c (fun v => { v with reports := v.reports ++
      [fields 12 [(0, [1]), (1, le 1 (k - 4)), (2, le 1 e.seg), (4, le 2 old), (6, le 2 e.incoming),
        (8, le 2 e.position)]] }) s

/-- An element change takes force. -/
def applyChange (c : Carrier) (k : Nat) (e : ElemChange) (s : Device) : Device :=
  let s := match e.kind with
    | .sliceSwap => applySlice c k e s
    | .cellSwap => applyCell c k e s
    | .tapChange => modSlice c k e.incoming (fun q => { q with skew := e.skew }) s
  modConvK c k (fun v => { v with swaps := wrap 32 (v.swaps + 1), lastChange := s.timing.now }) s

/-- The changes of a converter that `f` names take force together. -/
def applyChanges (c : Carrier) (k : Nat) (f : ElemChange → Bool) (s : Device) : Device :=
  let now := (convOf s c k).pending.filter f
  if now.isEmpty then s
  else withSpares c (fun s =>
    each now (applyChange c k) (modConvK c k (fun v => { v with pending := v.pending.filter fun e => !f e }) s)) s

/-- A change may take force at this block boundary: `window` when it is the boundary of R111 for this converter (R109
to R117). -/
def changeDue (s : Device) (c : Carrier) (k : Nat) (window : Bool) (e : ElemChange) : Bool :=
  let held := tb (csetN s c 0x0241 1) k && !e.forFailed
  let rx := (s.rx.get c).state
  let running := if k < 4 then rx ≠ .off else (s.tx.get c).state ≠ .off
  let framed := if k < 4 then rx = .superframeLock || rx = .staged || rx = .inService else true
  !held && (if !running then true else if native s c then !framed || window else e.forFailed)

/-- Continuous trims take force, on physical elements, after the element changes (R108, R118). -/
def applyTrims (c : Carrier) (s : Device) : Device :=
  let l := (s.conv.get c).trims
  each l (fun t s => modSlice c t.conv t.elem (fun q => { q with
    offset := t.offset, gain := t.gain, skew := q.skew / 64 * 64 + t.fine }) s)
    (modConv c (fun v => { v with trims := [] }) s)

/-- The converters at a block boundary of their carrier; `txw` and `rxw` mark the first block boundary of the transmit
and the received training field (R108 to R117). Nothing takes force while the loop is stopped (R114). -/
def convBlock (c : Carrier) (txw rxw : Bool) (s : Device) : Device :=
  if !(s.conv.get c).loopRunning then s
  else
    applyTrims c (each [0, 1, 2, 3, 4, 5, 6, 7] (fun k s =>
      applyChanges c k (changeDue s c k (if k < 4 then rxw else txw)) s) s)

/-- A change of a carrier in a ZR mode has been pending longer than `swap_defer`: it takes force, accepting the
transient (R115). -/
def swapDeferExpiry (c : Carrier) (k : Fin 8) (s : Device) : Device :=
  let n := k.val
  let late (e : ElemChange) : Bool := csetN s c 0x0241 4 + 1 ≤ e.age
  let due := (convOf s c n).pending.filter late
  if due.isEmpty ∨ !zr s c ∨ !(s.conv.get c).loopRunning ∨ tb (csetN s c 0x0241 1) n then s
  else
    let s := applyChanges c n late s
    raise 0x0202 c.num 1 (le 1 (n % 4) ++ le 1 (n / 4) ++ le 2 due.length) s

/-- Every spare of a carrier counts as never measured (R119, Table 3-7). -/
def sparesUnmeasured (c : Carrier) (s : Device) : Device :=
  let s := each [0, 1, 2, 3] (fun k s => each (List.range 72) (fun n s =>
    let q := sliceAt s c k n
    if q.state = .spareReady ∨ q.state = .spareCalibrating then
      modSlice c k n (fun q => { q with state := .spareCalibrating, calAge := none }) s else s) s) s
  each [4, 5, 6, 7] (fun k s => each [0, 1, 2, 3] (fun g s => modSeg c k g (fun m => { m with measured := [] }) s) s) s

/-- An Accord switch changes the carrier's converter rate (R119, R120): pending changes are discarded, spares count as
never measured, and foreground calibration is due when both directions are off. -/
def convRateChange (c : Carrier) (s : Device) : Device :=
  withSpares c (fun s =>
    let s := each [0, 1, 2, 3, 4, 5, 6, 7] (fun k s => modConvK c k (fun v => { v with pending := [] }) s) s
    let s := sparesUnmeasured c s
    if carrierOff s c then modConv c (fun v => { v with fgDone := false }) s else s) s

/-- A carrier that is powered starts its converter loop (18_clocks_resets_power R733): foreground calibration is due,
and nothing counts as measured (Table 3-7). -/
def loopStart (c : Carrier) (s : Device) : Device :=
  let was := (s.conv.get c).loopRunning
  let s' := carrierLoopStart c s
  if was || !(s'.conv.get c).loopRunning then s'
  else
    withSpares c (fun s =>
      let s := sparesUnmeasured c s
      each [0, 1, 2, 3, 4, 5, 6, 7] (fun k s => modConvK c k (fun v => { v with
        slices := Tab.mapAll (sliceInit k) v.slices fun _ q => { q with calAge := none } }) s) s) s'

/-! ### Calibration (R120 to R122) -/

/-- Foreground calibration completes: the trims it found, every cell measured, and the age of what is in place (R120). -/
def foregroundCalComplete (c : Carrier) (trims : List TrimReq) (cells : List CellMeas) (s : Device) : Device :=
  let v := s.conv.get c
  if !v.loopRunning ∨ v.fgDone then s
  else withSpares c (fun s =>
    let s := modConv c (fun v => { v with fgDone := true }) s
    let s := each cells (measureCell c) (each trims (requestTrim c) s)
    each [0, 1, 2, 3, 4, 5, 6, 7] (fun k s => each (List.range (if k < 4 then 72 else 4)) (fun n s =>
      if (sliceAt s c k n).state = .active then modSlice c k n (fun q => { q with calAge := some 0 }) s else s) s) s) s

/-- A spare has completed 1,000 control ticks of shadow calibration (R121). -/
def spareCalibrated (c : Carrier) (k : Fin 4) (n : Fin 72) (offset gain : Int) (skew : Nat) (s : Device) : Device :=
  let q := sliceAt s c k.val n.val
  if (convOf s c k.val).calTicks < 1000 ∨ !(q.state = .spareReady ∨ q.state = .spareCalibrating) then s
  else if offset < -64 ∨ 63 < offset ∨ gain < -128 ∨ 127 < gain ∨ 1023 < skew then
    withSpares c (fun s => sliceFails c k.val n.val 0 (modConvK c k.val (fun v => { v with calTicks := 0 }) s)) s
  else withSpares c (fun s =>
    modSlice c k.val n.val (fun q => { q with offset, gain, skew, state := .spareReady, calAge := some 0 })
      (modConvK c k.val (fun v => { v with calTicks := 0 }) s)) s

/-! ### Port conditions (R125 to R129) -/

/-- Conditions in the order of Table 3-3. -/
def portConds : List PortCond := [.open_, .shortGnd, .shortSupply, .shortPn, .absent, .overdrive]

/-- A condition as a number (Table 22-13). -/
def PortCond.code : PortCond → Nat
  | .none => 0
  | .open_ => 1
  | .shortGnd => 2
  | .shortSupply => 3
  | .shortPn => 4
  | .absent => 5
  | .overdrive => 6

/-- A port. -/
def portAt (s : Device) (c : Carrier) (k : Nat) : PortSt := Tab.get (fun _ => {}) (s.conv.get c).ports k

/-- What declares a condition holds in this control tick (Table 3-3). -/
def declares (k : Nat) (m : PortIn) : PortCond → Bool
  | .none => false
  | .open_ => 4 ≤ k && 1000 < m.load
  | .shortGnd => 4 ≤ k && m.gnd < 5
  | .shortSupply => 4 ≤ k && m.supply < 5
  | .shortPn => 4 ≤ k && m.load < 5
  | .absent => k < 4 && m.rms < -3000
  | .overdrive => k < 4 && 1000 < m.full

/-- What clears the condition of an ADC pair holds in this control tick. -/
def clears (p : PortCond) (m : PortIn) : Bool :=
  match p with
  | .absent => -2700 < m.rms
  | .overdrive => m.full < 100
  | _ => false

/-- One check of a port (R125). -/
def checkPort (now : Time) (m : PortIn) (q : PortSt) : PortSt :=
  let k := m.port
  let counts := portConds.map fun x =>
    if declares k m x then min (Tab.get (fun _ => 0) q.declCount x.code + 1) 8 else 0
  let count := (counts.zip portConds).foldl (fun (t : Tab Nat) x => Tab.set (fun _ => 0) t x.2.code x.1) []
  let q := { q with declCount := count }
  let new := portConds.find? fun x => x ≠ q.cond && Tab.get (fun _ => 0) q.declCount x.code = 8
  match new with
  | some x => { q with cond := x, since := now, clearCount := 0, clearBad := true }
  | none =>
    if k < 4 then
      let n : Nat := if clears q.cond m then q.clearCount + 1 else 0
      if q.cond ≠ PortCond.none && n == 8 then { q with cond := .none, clearCount := 0 } else { q with clearCount := min n 8 }
    else { q with clearBad := q.clearBad || m.load < 40 || 200 < m.load }

/-- The faults of port conditions follow them (Table 3-4). -/
def portFaults (c : Carrier) (s : Device) : Device :=
  let any (l : List PortCond) : Bool := [0, 1, 2, 3, 4, 5, 6, 7].any fun k => l.any fun x => (portAt s c k).cond = x
  faultCond 0x0304 c.num (any [.overdrive]) [] (faultCond 0x0303 c.num (any [.absent]) []
    (faultCond 0x0302 c.num (any [.shortGnd, .shortSupply, .shortPn]) [] (faultCond 0x0301 c.num (any [.open_]) [] s)))

/-- A DAC is driven with mid-scale codes (R127). -/
def dacMuted (s : Device) (c : Carrier) (k : Nat) : Bool :=
  (portAt s c k).cond = .shortGnd || (portAt s c k).cond = .shortSupply || (portAt s c k).cond = .shortPn

/-- `ABSENT` holds on all four ADCs of a carrier (R128). -/
def allAbsent (s : Device) (c : Carrier) : Bool := [0, 1, 2, 3].all fun k => (portAt s c k).cond = .absent

/-- The converters of a carrier at a control-tick boundary: port checks, what the engines measured and decided, the
running shadow calibration, and the reports of changes that took force. Without a running loop nothing is checked or
counted (R125). -/
def convControlTick (c : Carrier) (i : ConvIn) (s : Device) : Device :=
  let reports := (s.conv.get c).reports
  let s := each reports (fun p s => raise 0x0201 c.num 0 p s) (modConv c (fun v => { v with reports := [] }) s)
  if !(s.conv.get c).loopRunning then s
  else
    let s := each (i.ports.filter fun m => m.port < 8) (fun m s =>
      modConv c (fun v => { v with ports := Tab.modify (fun _ => {}) v.ports m.port (checkPort s.timing.now m) }) s) s
    let s := portFaults c s
    let s := withSpares c (fun s =>
      let s := each i.fails (fun f s =>
        if f.conv < 4 ∧ f.slice < 72 then sliceFails c f.conv f.slice (if f.stuck then 2 else 1) s else s) s
      each i.swaps (requestSwap c) (each i.cells (measureCell c) (each i.trims (requestTrim c) s))) s
    if (s.conv.get c).fgDone ∧ cset s c 0x0241 0 = 1 then
      each [0, 1, 2, 3] (fun k s => modConvK c k (fun v => { v with calTicks := min (v.calTicks + 1) 1000 }) s) s
    else s

/-- The converters at a slow-tick boundary: ages in milliseconds, and the clearing of DAC conditions after 100 slow
ticks with the load in range (Table 3-3). -/
def convSlowTick (c : Carrier) (s : Device) : Device :=
  let s := modConv c (fun v => { v with convs := Tab.mapAll (fun _ => {}) v.convs fun k w => { w with
    slices := Tab.mapAll (sliceInit k) w.slices fun _ q =>
      { q with calAge := q.calAge.map fun n => min (n + 1) 0xFFFFFFFE } } }) s
  if !(s.conv.get c).loopRunning then s
  else
    let s := modConv c (fun v => { v with ports := Tab.mapAll (fun _ => {}) v.ports fun k q =>
      if k < 4 then q
      else if q.cond = .none ∨ q.clearBad then { q with clearBad := false, clearCount := 0 }
      else if q.clearCount + 1 = 100 then { q with cond := .none, clearCount := 0 }
      else { q with clearCount := q.clearCount + 1 } }) s
    portFaults c s

/-- The converters at an epoch boundary: seconds since swaps, and epochs of pending changes. -/
def convEpoch (c : Carrier) (s : Device) : Device :=
  modConv c (fun v => { v with convs := Tab.mapAll (fun _ => {}) v.convs fun k w => { w with
    pending := w.pending.map fun e => { e with age := min (e.age + 1) 65535 }
    slices := Tab.mapAll (sliceInit k) w.slices fun _ q =>
      { q with swapAge := q.swapAge.map fun n => min (n + 1) 0xFFFFFFFE } } }) s

/-! ### Self-test (R132 to R135) -/

/-- `DAC_MAP_MISMATCH` follows the far end's map and the last self-test (R135). -/
def evalMap (c : Carrier) (s : Device) : Device :=
  let v := s.conv.get c
  let bad := v.selfResult = some 0 && (match v.feMap with | some m => m ≠ 0x03020100 | none => false)
  faultCond 0x0309 c.num bad [] s

/-- A `fe_map` arrives from the far end (R134, R135). -/
def feMapReceived (c : Carrier) (m : Nat) (s : Device) : Device :=
  evalMap c (modConv c (fun v => { v with feMap := some m }) s)

/-- The self-test finishes: for each DAC, the ADC that received its signature and its sign (R133, R134). -/
def selftestComplete (c : Carrier) (found : List (Option (Nat × Bool))) (s : Device) : Device :=
  match (s.conv.get c).selftest with
  | none => s
  | some h =>
    let l := (List.range 4).map fun k => found.getD k none
    let perm := [0, 1, 2, 3].all fun a => l.any fun x => match x with | some q => q.1 = a | none => false
    let map := l.map fun x => match x with
      | some q => BitVec.ofNat 8 (q.1 % 4 + 128 * bit q.2)
      | none => 0
    let result := if !perm then 2 else if map = [0, 1, 2, 3] then 0 else 1
    let map := if perm then map else zeros 4
    let s := modConv c (fun v => { v with selftest := none, lastMap := map, selfResult := some result }) s
    evalMap c (deferredDoneX h.op h.req .ok (map ++ le 1 result) s)

/-! ### Commands -/

/-- The four DAC indices of a `tx_map` are distinct (Table 3-5). -/
def distinctMap (m : Nat) : Bool :=
  [0, 1, 2, 3].all fun a => [0, 1, 2, 3].any fun k => m / 256 ^ k % 4 = a

/-- CAL_CONFIG (R136). -/
def calConfigCmd : Cmd where
  field := fun _ r off => off ≠ 8 || distinctMap (rd r.params 8 4)
  act := does fun r s =>
    let s := acceptFields 0x0241 r.tgt r.params s
    evalSpares r.car s s

/-- CAL_SWAP (R137). -/
def calSwapCmd : Cmd where
  field := fun s r off =>
    let p := r.params
    let kind := rd p 0 1
    let k := rd p 1 1
    let x := rd p 4 2
    match off with
    | 2 => kind = 1 || rd p 2 1 = 0
    | 4 =>
      if kind = 0 then x < 72 && (sliceAt s r.car k x).state = .spareReady
      else
        let g := segAt s r.car (4 + k) (rd p 2 1)
        g.measured.any (fun y => y = x) && (spareCells g).any fun y => y = x
    | 6 => rd p 6 2 < (if kind = 0 then 64 else 240)
    | _ => true
  act := does fun r s =>
    let p := r.params
    if rd p 0 1 = 0 then
      let pos := rd p 6 2
      let failed := match sliceIn s r.car (rd p 1 1) pos with
        | some n => (sliceAt s r.car (rd p 1 1) n).failCause ≠ 0
        | none => false
      addChange r.car (rd p 1 1) { kind := .sliceSwap, incoming := rd p 4 2, position := pos, forFailed := failed } s
    else
      let g := segAt s r.car (4 + rd p 1 1) (rd p 2 1)
      let failed := g.failed.any fun y => y = cellAt g (rd p 6 2)
      addChange r.car (4 + rd p 1 1)
        { kind := .cellSwap, seg := rd p 2 1, incoming := rd p 4 2, position := rd p 6 2, forFailed := failed } s

/-- State of a slice as a number (Table 3-7). -/
def SliceState.code : SliceState → Nat
  | .active => 0
  | .spareReady => 1
  | .spareCalibrating => 2
  | .failed => 3

/-- Record of a slice or segment (Table 3-7). -/
def sliceRecord (q : SliceSt) : List Byte :=
  fields 16 [(0, leInt 1 q.offset), (1, leInt 1 q.gain), (2, le 2 q.skew), (4, le 1 q.state.code),
    (5, le 1 (q.position.getD 0xFF)), (6, le 2 q.failCause.toNat), (8, le 4 (q.calAge.getD 0xFFFFFFFF)),
    (12, le 4 (q.swapAge.getD 0xFFFFFFFF))]

/-- Block of a DAC segment (Table 3-8). -/
def segBlock (s : Device) (c : Carrier) (k g : Nat) : List Byte :=
  let m := segAt s c k g
  sliceRecord (sliceAt s c k g) ++ (mapped m).map (BitVec.ofNat 8 ·) ++
    (List.range 32).map fun b => BitVec.ofNat 8 (bitmap ((List.range 8).map fun i => m.failed.any fun y => y = 8 * b + i))

/-- CAL_READ (R138, Tables 3-6 to 3-8). -/
def calReadCmd : Cmd where
  act := reads fun s r =>
    let kind := rd r.params 0 1
    let k := 4 * kind + rd r.params 1 1
    let c := r.car
    let v := convOf s c k
    let spares := if kind = 0 then (readySpares s c k).length
      else ([0, 1, 2, 3].map fun g => (spareCells (segAt s c k g)).length).foldl min 16
    fields 32 [(0, le 1 kind), (1, le 1 (k % 4)), (2, le 1 spares), (3, le 1 (min v.pending.length 255)),
      (4, le 4 v.swaps), (8, timeBytes10 v.lastChange)] ++
      (if kind = 0 then (List.range 72).flatMap fun n => sliceRecord (sliceAt s c k n)
       else [0, 1, 2, 3].flatMap fun g => segBlock s c k g)

/-- CONV_PORT_STATUS (R139, Table 22-13). -/
def convPortStatusCmd : Cmd where
  act := reads fun s r =>
    let c := r.car
    let v := s.conv.get c
    ([0, 1, 2, 3, 4, 5, 6, 7].flatMap fun k =>
      let q := portAt s c k
      fields 12 [(0, le 1 q.cond.code), (2, timeBytes10 q.since)]) ++
    v.lastMap ++ le 1 (v.selfResult.getD 0xFF) ++ zeros 3 ++ le 4 (v.feMap.getD 0) ++ le 1 (bit v.feMap.isSome) ++ zeros 3

/-- CONV_SELFTEST (R132, R140). -/
def convSelftestCmd : Cmd where
  state := fun s r =>
    if !carrierOff s r.car then some (.notPermitted, 0)
    else if (s.conv.get r.car).selftest.isSome then some (.busy, 0) else none
  act := fun r s => (⟨.pending, []⟩, modConv r.car (fun v => { v with selftest := some ⟨0x0244, r⟩ }) s)

end Sys2Proof.Machine
end

