-- ==== Sys2Proof/Machine/Tx.lean ====
section
/-!
DEFINITION. The transmit path (04_transmit_path R159 to R181): the ramp of the carrier's power, the transmitter states,
the waveform settings and the commands TX_CONFIG, TX_ENABLE, TX_STATUS and TX_PREEMPH.
-/
namespace Sys2Proof.Machine
open Sys2Proof

/-! ### The ramp (R171) -/

/-- π × 10¹⁸. -/
def piScaled : Int := 3141592653589793238

/-- cos(π p / q) × 10¹⁸ for 0 ≤ p ≤ q, by its power series in 10⁻¹⁸ units. -/
def cosPi (p q : Nat) : Int :=
  if q = 0 then 1000000000000000000
  else
    let x := piScaled * p / q
    let x2 := x * x / 1000000000000000000
    ((List.range 16).foldl (fun (a : Int × Int) k =>
      let t := -(a.2 * x2 / 1000000000000000000 / ((2 * k + 1) * (2 * k + 2) : Nat))
      (a.1 + t, t)) (1000000000000000000, 1000000000000000000)).1

/-- The level of a ramp, × 0.01 dB, nearest: −4,000 at the start of a ramp up, 0 at its end (R171). -/
def rampLevel (up : Bool) (done len : Nat) : Int :=
  let z := cosPi done len
  let n := 1000000000000000000 + (if up then z else -z)
  let down := (4000 * n / 2 + 500000000000000000) / 1000000000000000000
  0 - down

/-- The last recorded request and no squelch: the carrier's transmitter is wanted (R175). -/
def txWanted (s : Device) (c : Carrier) : Bool := (s.tx.get c).commanded && !squelched s c

/-- Control ticks of a ramp that starts now (R174). -/
def rampTicks (s : Device) (c : Carrier) : Nat := (accepted s (skey 0x0220 (carCode c) 0 0)).toNat * 1000

/-- Settings that take force at an entry to `TX_LEAD` or at the start of a ramp (R174). -/
def settleStart (c : Carrier) (s : Device) : Device :=
  settle .start (fun k => keyOp k = 0x0220 && keyTgt k = carCode c) s

/-- Set the state of the transmitter and its `TXON_x` output (Table 4-3). -/
def setTxState (c : Carrier) (st : TxState) (s : Device) : Device :=
  let s := modTx c (fun t => { t with state := st }) s
  putElec { s.elec with txon := s.elec.txon.set c (st ≠ .off) } s

/-- A reversal: the opposite curve from the point of the same level (R173). -/
def reverseRamp (c : Carrier) (st : TxState) (s : Device) : Device :=
  setTxState c st (modTx c (fun t => { t with rampDone := t.rampLen - t.rampDone,
                                              reversals := sat 16 (t.reversals + 1) }) s)

/-- A ramp starts (R171, R174). -/
def startRamp (c : Carrier) (st : TxState) (s : Device) : Device :=
  let n := rampTicks s c
  settleStart c (setTxState c st (modTx c (fun t => { t with rampDone := 0, rampLen := n }) s))

/-- The transmitter at a control-tick boundary: the ramp or lead advances, and the transitions that an enable, a
disable, a squelch or its release cause start (R172, R175, R180, Table 4-3). With `staged` the transmitter starts in the
bring-up format (05_receive_path R231). -/
def txControlTick (c : Carrier) (s : Device) : Device :=
  let s := modTx c (fun t => { t with
    rampDone := if t.state = .rampUp || t.state = .rampDown then min (t.rampDone + 1) t.rampLen else t.rampDone
    leadLeft := if t.state = .lead then t.leadLeft - 1 else t.leadLeft }) s
  let want := txWanted s c
  match (s.tx.get c).state with
  | .off =>
    if want && (s.conv.get c).loopRunning && (modeOf s c).isSome then
      let n := (accepted s (skey 0x0220 (carCode c) 0 2)).toNat * 1000
      let m : ModePlan := (modeOf s c).getD {}
      let up := m.native && m.nBringUp ≠ 0 && accepted s (skey 0x0230 (carCode c) 0 26) = 1
      settleStart c (setTxState c .lead (modTx c (fun t => { t with leadLeft := n, bringUp := up }) s))
    else s
  | .lead => if want then s else setTxState c .off s
  | .rampUp => if want then s else reverseRamp c .rampDown s
  | .on => if want then s else startRamp c .rampDown s
  | .rampDown => if want then reverseRamp c .rampUp s else s

/-- TX_LEAD_ELAPSED: `txon_lead` is over and foreground calibration complete (R170). -/
def txLeadElapsed (c : Carrier) (s : Device) : Device :=
  let t := s.tx.get c
  if t.state = .lead ∧ t.leadLeft = 0 ∧ (s.conv.get c).fgDone ∧ txWanted s c then startRamp c .rampUp s else s

/-- TX_RAMP_COMPLETE (R171, Table 4-3). -/
def txRampComplete (c : Carrier) (s : Device) : Device :=
  let t := s.tx.get c
  if t.rampDone < t.rampLen then s
  else match t.state with
    | .rampUp => setTxState c .on s
    | .rampDown => setTxState c .off s
    | _ => s

/-! ### Waveform settings -/

/-- A waveform setting of a carrier: TX_CONFIG, TX_PREEMPH, `tx_map` (R131, R167). -/
def waveKey (c : Carrier) (k : Nat) : Bool :=
  keyTgt k = carCode c && (keyOp k = 0x0220 || keyOp k = 0x0223 || (keyOp k = 0x0241 && keyOff k = 8))

/-- Accepted commands whose changes have all taken force are no longer counted (Table 4-6). -/
def prunePending (c : Carrier) (s : Device) : Device :=
  let waits (l : List Nat) : Bool := l.any fun k => s.pendSet.any fun q => q.key = k
  modTx c (fun t => { t with pendingCmds := t.pendingCmds.filter waits }) s

/-- Waveform changes at a block boundary: in a native mode on a running transmitter only at the boundary of R111, else
at any (R131, R167 to R169). `txw` marks the boundary of R111. -/
def settleWave (c : Carrier) (txw : Bool) (s : Device) : Device :=
  if native s c && (s.tx.get c).state ≠ .off && !txw then s
  else prunePending c (settle .block (waveKey c) s)

/-- An enabled notch lies within the carrier's band (R160); false while the plan gives the carrier no mode. -/
def notchInside (pl : Plan) (c : Carrier) (centre : Int) (width : Nat) : Bool :=
  match pl.modes.get c with
  | none => false
  | some m =>
    let roll := (planFixed pl (skey 0x0220 (carCode c) 0 3)).toNat
    (2 * centre.natAbs * 10000000 + width * 50000000) * 100 ≤ m.rs * (100 + roll)

/-- Accept the settings of a waveform command, and count it while a change of it waits (R169, Table 4-6). -/
def acceptWave (op : Nat) (r : Req) (s : Device) : Device :=
  let s' := acceptFields op r.tgt r.params s
  let keys := ((layout op).filter fun q => q.kind = .rt).map fun q => skey op r.tgt (selector op r.params) q.off
  let mine := keys.filter fun k =>
    (s'.pendSet.any fun q => q.key = k) && accepted s' k ≠ accepted s k
  if mine.isEmpty then prunePending r.car s'
  else modTx r.car (fun t => { t with pendingCmds := t.pendingCmds ++ [mine] }) (prunePending r.car s')

/-- TX_CONFIG (R178, R160). -/
def txConfigCmd : Cmd where
  blocks := fun _ r => [r.car.num]
  field := fun s r off =>
    if off ∈ [20, 28, 36, 44] ∧ rd r.params (off + 5) 1 = 1 then
      notchInside (plan s) r.car (rdInt r.params off 2) (rd r.params (off + 2) 2)
    else true
  act := does fun r s => acceptWave 0x0220 r s

/-- Conditions of R165 in order: the offset of the first that holds. -/
def preemphRefusal (s : Device) (r : Req) : Option (Status × Nat) :=
  let m : ModePlan := (modeOf s r.car).getD { taps := 0 }
  let coef (k : Nat) : Nat := (rdInt r.params (4 + 2 * k) 2).natAbs
  let ks := List.range 64
  match ks.find? fun k => m.taps ≤ k && coef k ≠ 0 with
  | some k => some (.badParam, 4 + 2 * k)
  | none =>
    if ks.any fun k => coef m.mainTap < coef k then some (.badParam, 4 + 2 * m.mainTap)
    else if 8192 < (ks.map coef).sum then some (.badParam, 0xFFFF) else none

/-- TX_PREEMPH (R165, R179). -/
def txPreemphCmd : Cmd where
  blocks := fun _ r => [r.car.num]
  state := preemphRefusal
  act := does fun r s => acceptWave 0x0223 r s

/-- Blocks that a running carrier uses (18_clocks_resets_power Table 18-5). -/
def carrierBlocks (c : Carrier) : List Nat := [c.num, 2 + 2 * c.num, 3 + 2 * c.num]

/-- TX_ENABLE (R176, R180). -/
def txEnableCmd : Cmd where
  blocks := fun _ r => if rd r.params 0 1 = 1 then carrierBlocks r.car else []
  state := fun s r =>
    if rd r.params 0 1 = 1 ∧ ((modeOf s r.car).isNone ∨ !(s.conv.get r.car).loopRunning) then some (.notPermitted, 0)
    else none
  act := does fun r s =>
    modTx r.car (fun t => { t with commanded := rd r.params 0 1 = 1 }) (acceptFields 0x0221 r.tgt r.params s)

/-- State of the transmitter as a number (Table 4-6). -/
def TxState.code : TxState → Nat
  | .off => 0
  | .lead => 1
  | .rampUp => 2
  | .on => 3
  | .rampDown => 4

/-- Level of the transmitter, × 0.01 dB (Table 4-6). -/
def txLevel (t : TxSt) : Int :=
  match t.state with
  | .off => -4000
  | .lead => -4000
  | .rampUp => rampLevel true t.rampDone t.rampLen
  | .on => 0
  | .rampDown => rampLevel false t.rampDone t.rampLen

/-- The lowest-numbered source that holds a squelch of the carrier, 0 when none (Table 4-6). -/
def squelchId (s : Device) (c : Carrier) : Nat :=
  match s.fault.sources.find? fun q =>
    q.2.held.getLsbD 9 || (q.2.held.getLsbD 3 && (carrierOfSource (q.1 / 256) (q.1 % 256)).getD c = c) with
  | some q => q.1 / 256
  | none => 0

/-- TX_STATUS (R181, Table 4-6). -/
def txStatusCmd : Cmd where
  blocks := fun _ r => [r.car.num]
  act := reads fun s r =>
    let c := r.car
    let t := s.tx.get c
    let left := match t.state with
      | .lead => t.leadLeft
      | .rampUp => t.rampLen - t.rampDone
      | .rampDown => t.rampLen - t.rampDone
      | _ => 0
    let symbols := match modeOf s c with | some m => if m.native then m.symbols else 0 | none => 0
    let waiting := (t.pendingCmds.filter fun l => l.any fun k => s.pendSet.any fun q => q.key = k).length
    fields 32 [(0, le 1 t.state.code), (1, le 1 (bit t.bringUp)), (2, le 1 (bit t.commanded)),
      (4, leInt 2 (txLevel t)), (6, le 2 (squelchId s c)), (8, le 4 left), (12, le 4 (if native s c then t.xsf else 0)),
      (16, le 2 t.reversals), (18, le 2 (min waiting 65535)), (20, le 4 symbols)]

end Sys2Proof.Machine
end

