-- ==== Sys2Proof/Machine/Rx.lean ====
section
/-!
DEFINITION. The receive path and acquisition (05_receive_path R182 to R242, R895): the carrier states, falls, the
switch-count agreement, staged bring-up, monitors and the commands RX_CONFIG to LINE_AGREE.
-/
namespace Sys2Proof.Machine
open Sys2Proof

/-- A setting of RX_CONFIG in force. -/
def rxSet (s : Device) (c : Carrier) (off : Nat) : Nat := csetN s c 0x0230 off

/-- Bit 0 of `fe_auto`: automatic orientation. -/
def feAuto (s : Device) (c : Carrier) : Bool := tb (rxSet s c 0) 0

/-- `staged` in force on a carrier in a native mode that has a bring-up format (R155, R231). -/
def stagedOn (s : Device) (c : Carrier) : Bool :=
  rxSet s c 26 = 1 && (match modeOf s c with | some m => m.native && m.nBringUp ≠ 0 | none => false)

/-- The state is at least another, in the order of Table 1-3. -/
def RxState.atLeast (a b : RxState) : Bool := b.code ≤ a.code

/-! ### Carrier states (R217 to R222) -/

/-- The receiver moves to a state: event `RX_STATE` with its cause (Table 22-12); settings that wait for an entry take
force (Table 5-8). -/
def setRx (c : Carrier) (st : RxState) (cause : Nat) (s : Device) : Device :=
  let old := (s.rx.get c).state
  let s := raise 0x0203 c.num 0 (le 1 old.code ++ le 1 st.code ++ le 1 cause) s
  let s := modRx c (fun r => { r with
    state := st, ticks := 0, exitCount := 0, syncMiss := 0, since := s.timing.now,
    errBad := if st.atLeast .carrierLock then r.errBad else 0
    clockBad := if st.atLeast .eqConverge then r.clockBad else 0
    stageSf := if st = .staged then r.stageSf else none
    inStep := r.inStep && st.atLeast .superframeLock }) s
  let mine (off : List Nat) (k : Nat) : Bool := keyOp k = 0x0230 && keyTgt k = carCode c && keyOff k ∈ off
  match st with
  | .cdSearch => settle .search (mine [4, 8]) (modRx c (fun r => { r with hintMissed := false, cdOutOfRange := false }) s)
  | .superframeLock => settle .lock (mine [26]) s
  | _ => s

/-- A fall of Table 5-6: `ACQ_RETRIES`, the event and the count of R222. -/
def rxFall (c : Carrier) (st : RxState) (cause : Nat) (s : Device) : Device :=
  let s := setRx c st cause (modRx c (fun r => { r with
    acqRetries := sat 16 (r.acqRetries + 1), falls := 0 :: r.falls }) s)
  if (s.rx.get c).falls.length = 16 then fault 0x0323 c.num [] s else s

/-- A fall to `CD_SEARCH` with a kind of hint; the host's hint counts only when its window is nonzero (R200). -/
def fallToSearch (c : Carrier) (h : HintMode) (cause : Nat) (s : Device) : Device :=
  let s := rxFall c .cdSearch cause s
  let h := if h = .host ∧ rxSet s c 8 = 0 then .blind else h
  modRx c (fun r => { r with hint := h }) s

/-- Timeout of a state in control ticks, none where Table 5-4 gives none. -/
def rxTimeout (r : RxSt) : Option Nat :=
  match r.state with
  | .powerSeen => some 20000
  | .cdSearch => some (if r.hint = .blind || r.hintMissed then 1650000 else 50000)
  | .clockLock => some 30000
  | .eqConverge => some 80000
  | .carrierLock => some 40000
  | .superframeLock => some 60000
  | _ => none

/-- RX_ACQ_TIMEOUT (R217, R219, R193, R196). -/
def rxAcqTimeout (c : Carrier) (s : Device) : Device :=
  let r := s.rx.get c
  match rxTimeout r with
  | none => s
  | some n =>
    if r.ticks < n then s
    else match r.state with
      | .powerSeen => rxFall c .powerSeen 10 s
      | .cdSearch => fallToSearch c .blind 2 s
      | .clockLock => fallToSearch c .host 3 s
      | .eqConverge =>
        let s := modRx c (fun r => { r with
          hypothesis := if feAuto s c then (r.hypothesis + 1) % 4 else r.hypothesis
          eqTimeouts := if feAuto s c then 0 else r.eqTimeouts + 1 }) s
        let s := if (s.rx.get c).eqTimeouts = 4 then
            fault 0x0322 c.num [] (modRx c (fun r => { r with eqTimeouts := 0 }) s) else s
        fallToSearch c .host 3 s
      | _ => rxFall c .eqConverge 4 s

/-- LOCK_HOLD_LOSS: a lock metric has been out of threshold for `lock_hold` control ticks; the lower state wins (R219,
R220). -/
def lockHoldLoss (c : Carrier) (s : Device) : Device :=
  let r := s.rx.get c
  let n := rxSet s c 24
  if r.state.atLeast .eqConverge ∧ n ≤ r.clockBad then
    fallToSearch c .last 5 (modRx c (fun r => { r with clockBad := 0 }) s)
  else if r.state.atLeast .carrierLock ∧ n ≤ r.errBad then
    rxFall c .eqConverge 6 (modRx c (fun r => { r with errBad := 0 }) s)
  else s

/-- CD_SEARCH_HINT_MISS: a hinted search continues as a blind search (R201). -/
def cdSearchHintMiss (c : Carrier) (s : Device) : Device :=
  let r := s.rx.get c
  if r.state = .cdSearch ∧ r.hint ≠ .blind ∧ !r.hintMissed then
    modRx c (fun r => { r with hintMissed := true, hintMiss := sat 16 (r.hintMiss + 1) }) s
  else s

/-- Largest dispersion compensated at a symbol rate (R197): |D| · Rs² ≤ 100,000 · 272², and 400,000. -/
def cdInRange (rs : Nat) (d : Int) : Bool :=
  d.natAbs ≤ 400000 && d.natAbs * rs ^ 2 ≤ 100000 * (272 * 10 ^ 9) ^ 2

/-- The estimate of CD_SEARCH with conjugation detection (R192): hypothesis and estimate. -/
def judgeCd (s : Device) (c : Carrier) (i : AcqIn) : Nat × Int :=
  let r := s.rx.get c
  let differ := (i.cdX < 0) ≠ (i.cdY < 0) && 1000 < i.cdX.natAbs && 1000 < i.cdY.natAbs
  if feAuto s c && differ then
    let hint := cset s c 0x0230 4
    let useX := rxSet s c 8 ≠ 0 && hint ≠ 0 && ((hint < 0) ≠ (i.cdX < 0))
    if useX then (2, i.cdY) else (1, i.cdX)
  else (r.hypothesis, (i.cdX + i.cdY) / 2)

/-- `SUPERFRAME_LOCK` is entered: with bit 0 of `fe_auto` the orientation is identified and reported (R194, R195,
Table 5-8). -/
def enterSuperframeLock (c : Carrier) (map : Nat) (s : Device) : Device :=
  let auto := feAuto s c
  let s := setRx c .superframeLock 0 (modRx c (fun r => { r with mapReported := if auto then map else r.mapReported }) s)
  if auto && map ≠ 0x03020100 then raise 0x0204 c.num 0 (le 4 map) s else s

/-- RX_ACQ_PROGRESS: an exit condition of Table 5-4 has held for its count (R217, R895). -/
def rxAcqProgress (c : Carrier) (i : AcqIn) (s : Device) : Device :=
  let r := s.rx.get c
  match r.state with
  | .off =>
    if r.enabled && (s.conv.get c).loopRunning && (s.conv.get c).fgDone && !losP s c then setRx c .powerSeen 0 s else s
  | .powerSeen =>
    if r.exitCount < 8 then s
    else
      let s := setRx c .cdSearch 0 s
      modRx c (fun r => { r with hint := if rxSet s c 8 = 0 then .blind else .host }) s
  | .cdSearch =>
    let q := judgeCd s c i
    let rs := match modeOf s c with | some m => m.rs | none => 0
    if r.cdOutOfRange then s
    else if cdInRange rs q.2 then
      setRx c .clockLock 0 (modRx c (fun r => { r with hypothesis := q.1, cdEst := q.2 }) s)
    else fault 0x0321 c.num [] (modRx c (fun r => { r with cdEst := q.2, cdOutOfRange := true }) s)
  | .clockLock => if r.exitCount < 1000 then s else setRx c .eqConverge 0 s
  | .eqConverge =>
    if r.exitCount < 1000 then s else setRx c .carrierLock 0 (modRx c (fun r => { r with eqTimeouts := 0 }) s)
  | .carrierLock => if native s c && 3 ≤ r.exitCount then enterSuperframeLock c i.map s else s
  | .superframeLock =>
    if native s c then
      if r.exitCount < 128 then s else setRx c (if r.bringUp then .staged else .inService) 0 s
    else if r.exitCount < 38093 then s else setRx c .inService 0 s
  | .staged => if r.stageSf.isSome && 8 ≤ r.exitCount then setRx c .inService 0 s else s
  | .inService => s

/-- Frame alignment of a ZR mode is declared in lock or lost (R895). -/
def zrAlignRx (c : Carrier) (locked : Bool) (map : Nat) (s : Device) : Device :=
  let r := s.rx.get c
  if locked then (if r.state = .carrierLock then enterSuperframeLock c map s else s)
  else if r.state = .superframeLock ∨ r.state = .inService then rxFall c .carrierLock 7 s else s

/-- The acquisition part of a received superframe boundary (Tables 5-4 and 5-6): the sync pattern at its predicted
position, the format received, the OTUC check of R300, and fewer than 1 % of codewords uncorrectable. -/
def rxSuperframeAcq (c : Carrier) (sync bringUp otucOk codeOk : Bool) (s : Device) : Device :=
  let r := s.rx.get c
  match r.state with
  | .carrierLock => modRx c (fun r => { r with exitCount := if sync then min (r.exitCount + 1) 3 else 0 }) s
  | .superframeLock =>
    let s := modRx c (fun r => { r with
      bringUp := bringUp && stagedOn s c
      syncMiss := if sync then 0 else r.syncMiss + 1
      exitCount := if sync && otucOk && codeOk then min (r.exitCount + 1) 128 else 0 }) s
    if (s.rx.get c).syncMiss = 4 then rxFall c .carrierLock 7 s else s
  | .staged =>
    let s := modRx c (fun r => { r with
      syncMiss := if sync then 0 else r.syncMiss + 1
      stageSf := r.stageSf.map (· + 1)
      exitCount := if r.stageSf.isSome && codeOk then r.exitCount + 1 else 0 }) s
    if (s.rx.get c).syncMiss = 4 then rxFall c .carrierLock 7 s else s
  | .inService =>
    let s := modRx c (fun r => { r with syncMiss := if sync then 0 else r.syncMiss + 1 }) s
    if (s.rx.get c).syncMiss = 4 then rxFall c .carrierLock 7 s else s
  | _ => s

/-! ### Control ticks (R185, R208, R214, R216) -/

/-- Sum of monitors over a slow tick; `sop_rate` keeps its peak. -/
def addMonitor (a m : RxMonitor) : RxMonitor :=
  { snrX := a.snrX + m.snrX, snrY := a.snrY + m.snrY, dgd := a.dgd + m.dgd, sopRate := max a.sopRate m.sopRate,
    freqOff := a.freqOff + m.freqOff, pwr := (List.range 4).map fun k => a.pwr.getD k 0 + m.pwr.getD k 0,
    centroid := m.centroid, clkPhase := m.clkPhase }

/-- `delay_corr` in 2⁻¹⁶ ns, nearest (Table 5-3): centroid, residual dispersion at the offset, interpolator phase. -/
def delayTerms (s : Device) (c : Carrier) (centroid : Int) (i : RxIn) : Int :=
  let rate : Int := match modeOf s c with | some m => m.convRate | none => 0
  let lam : Int := lambdaRxOf s c
  let k : Int := 299792458 * 1000000000000000
  let disp := (s.rx.get c).cdEst * lam * lam * i.residual * 65536
  if rate = 0 then 0
  else
    let num := (centroid + i.interp) * 65536000 * k + disp * 256 * rate
    let den := 256 * rate * k
    (2 * num + den) / (2 * den)

/-- The receiver at a control-tick boundary: a disable and LOS-P (R219, R237), the counts of exit and loss conditions,
slips, recentring and the monitors. -/
def rxControlTick (c : Carrier) (i : RxIn) (s : Device) : Device :=
  let r := s.rx.get c
  let s :=
    if r.state = .off then s
    else if !r.enabled then setRx c .off 0 s
    else if losP s c then rxFall c .off 1 s
    else s
  let bad := [0, 1, 2, 3].any fun k => (portAt s c k).cond = .absent || (portAt s c k).cond = .overdrive
  let r := s.rx.get c
  if r.state = .off then s
  else
    let shift := 128 < i.mon.centroid.natAbs
    let centroid := if !shift then i.mon.centroid else if 0 < i.mon.centroid then i.mon.centroid - 256 else i.mon.centroid + 256
    let holds := match r.state with
      | .powerSeen => some (!bad)
      | .clockLock => some i.clockOk
      | .eqConverge => some i.errOk
      | .superframeLock => if native s c then none else some i.blocksOk
      | _ => none
    let track := r.state.atLeast .eqConverge
    let s := modRx c (fun r => { r with
      ticks := r.ticks + 1
      exitCount := match holds with
        | some true => r.exitCount + 1
        | some false => 0
        | none => r.exitCount
      clockBad := if track && !i.clockOk then r.clockBad + 1 else 0
      errBad := if r.state.atLeast .carrierLock && !i.errOk then r.errBad + 1 else 0
      cdEst := if track then i.cd.getD r.cdEst else r.cdEst
      slips := sat 32 (r.slips + i.slips)
      recentre := sat 32 (r.recentre + bit shift)
      cycleSlips := sat 32 (r.cycleSlips + i.cycleSlips)
      epochSlips := r.epochSlips + i.cycleSlips
      imbalance := if tb (rxSet s c 0) 1 then i.imbalance else r.imbalance
      acc := addMonitor r.acc { i.mon with centroid := centroid }
      accN := r.accN + 1 }) s
    let d := delayTerms s c centroid i
    modRx c (fun r => { r with
      delayCorr := d
      monitor := { r.monitor with centroid := centroid, clkPhase := i.mon.clkPhase } }) s

/-- The receiver at a slow-tick boundary: averages of the monitors (R216) and ages of the falls (R222). -/
def rxSlowTick (c : Carrier) (s : Device) : Device :=
  modRx c (fun r =>
    let n := r.accN
    let m := if n = 0 then r.monitor else { r.monitor with
      snrX := r.acc.snrX / n, snrY := r.acc.snrY / n, dgd := r.acc.dgd / n, sopRate := r.acc.sopRate,
      freqOff := r.acc.freqOff / (n : Int), pwr := r.acc.pwr.map fun z => z / (n : Int) }
    { r with monitor := m, acc := {}, accN := 0, falls := (r.falls.map (· + 1)).filter fun a => a < 60000 }) s

/-- The receiver at an epoch boundary: `RX_SLIP_RATE` (Table 5-10) and the seconds of `stage_retry`. -/
def rxEpoch (c : Carrier) (s : Device) : Device :=
  let many := 100 < (s.rx.get c).epochSlips
  let s := modRx c (fun r => { r with epochSlips := 0, retryEpochs := tickDown r.retryEpochs }) s
  if many then fault 0x0325 c.num [] s else s

/-! ### Switch-count agreement (R223 to R230) -/

/-- `b` is at most `a` in counts that wrap. -/
def countGe (a b : Nat) : Bool := (a + 2 ^ 32 - b % 2 ^ 32) % 2 ^ 32 < 2 ^ 31

/-- A proposal of a kind (R224, R227). -/
def propose (c : Carrier) (kind : Nat) (s : Device) : Device :=
  let s := settle .proposal (fun k => keyOp k = 0x0230 && keyTgt k = carCode c && keyOff k = 27) s
  let lead := rxSet s c 27
  let n := drawNat s
  modRx c (fun r => { r with
    ownRec := { kind, verb := 0, seq := r.nextSeq, rxState := r.state.code,
                countOut := wrap 32 ((n.2.tx.get c).xsf + lead), countBack := wrap 32 (r.xsfRx + lead),
                nonce := wrap 32 n.1 }
    agree := .proposed, proposer := true, proposalAge := 0, nextSeq := wrap 8 (r.nextSeq + 1), retryEpochs := none,
    backoff := none, txCount := none, rxCount := none, agreeCount := 0 }) n.2

/-- An agreement is acknowledged: the two counts, `AGREE_DONE` and, for `ACCORD`, the switch of this end (R228, R229). -/
def agreed (c : Carrier) (kind seq own far : Nat) (s : Device) : Device :=
  let s := modRx c (fun r => { r with agree := .acknowledged, txCount := some own, rxCount := some far,
                                      agreeCount := far, agreedKind := kind }) s
  let s := raise 0x0205 c.num 0 (le 1 kind ++ le 1 seq ++ [0, 0] ++ le 4 own ++ le 4 far) s
  if kind = 2 ∧ s.accord.standby = .ready ∧ !switchRefused s c false then
    scheduleSwitch c (wrap 32 (own + 2 ^ 32 - 1)) s
  else s

/-- A proposal of this end fails (R227, R239); `STAGE` is proposed again after `stage_retry` seconds. -/
def proposalFails (c : Carrier) (s : Device) : Device :=
  let r := s.rx.get c
  let s := raise 0x0206 c.num 0 (le 1 r.ownRec.kind ++ le 1 r.ownRec.seq) s
  let retry := if r.ownRec.kind = 1 then timer (rxSet s c 28) else none
  modRx c (fun r => { r with agree := .idle, proposer := false, retryEpochs := retry }) s

/-- AGREE_FAIL: an unanswered proposal lapses after 256 superframes (R227). -/
def agreeFail (c : Carrier) (s : Device) : Device :=
  let r := s.rx.get c
  if r.agree = .proposed ∧ 257 ≤ r.proposalAge then proposalFails c s else s

/-- An answer arrives in the far end's record (R225, R228). -/
def answerReceived (c : Carrier) (s : Device) : Device :=
  let r := s.rx.get c
  let f := r.farRec
  let o := r.ownRec
  if r.agree = .proposed && o.verb = 0 && f.verb ≠ 0 && f.kind = o.kind && f.seq = o.seq && f.nonce = o.nonce then
    if f.verb = 1 then agreed c o.kind o.seq o.countOut o.countBack s else proposalFails c s
  else s

/-- AGREEMENT_RECEIVED: the far end's record proposes a count; it is answered once (R225, R226). -/
def agreementReceived (c : Carrier) (s : Device) : Device :=
  let r := s.rx.get c
  let f := r.farRec
  let o := r.ownRec
  let answered := o.verb ≠ 0 && o.seq = f.seq && o.nonce = f.nonce && o.kind = f.kind
  let both := r.agree = .proposed && o.verb = 0
  if f.kind = 0 || f.verb ≠ 0 || answered || (both && f.nonce < o.nonce) then s
  else if both && f.nonce = o.nonce then
    let n := drawNat s
    modRx c (fun r => { r with agree := .idle, ownRec := {}, proposer := false, againKind := o.kind,
                               backoff := some (n.1 % 16 + 1) }) n.2
  else
    let ok := countGe f.countBack ((s.tx.get c).xsf + 4) && (f.kind ≠ 2 || s.accord.standby = .ready)
    let s := modRx c (fun r => { r with
      ownRec := { f with verb := if ok then 1 else 2, rxState := r.state.code }, proposer := false, agree := .idle }) s
    if ok then agreed c f.kind f.seq f.countBack f.countOut s else s

/-- The agreement at a transmit superframe boundary: the transmitter switches format at its agreed count (R158, R228);
a withdrawn proposal is made again when its random wait is over (R226); the age of a proposal (R227). -/
def agreeTxSuperframe (c : Carrier) (s : Device) : Device :=
  let r := s.rx.get c
  let s := modRx c (fun r => { r with
    proposalAge := if r.agree = .proposed then r.proposalAge + 1 else r.proposalAge
    backoff := r.backoff.map (· - 1) }) s
  let s := if r.txCount = some (s.tx.get c).xsf then
      let s := if r.agreedKind = 1 then modTx c (fun t => { t with bringUp := false }) s
        else if r.agreedKind = 3 then modTx c (fun t => { t with bringUp := true }) s else s
      modRx c (fun r => { r with txCount := none, agree := if r.rxCount.isNone then .switched else r.agree }) s
    else s
  if (s.rx.get c).backoff = some 0 then propose c (s.rx.get c).againKind s else s

/-- The agreement at a received superframe boundary: the receive tables switch at the far end's agreed count (R228). -/
def agreeRxSuperframe (c : Carrier) (s : Device) : Device :=
  let r := s.rx.get c
  if r.rxCount = some r.xsfRx then
    modRx c (fun r => { r with
      bringUp := if r.agreedKind = 1 then false else if r.agreedKind = 3 then true else r.bringUp
      stageSf := if r.agreedKind = 1 && r.state = .staged then some 0 else if r.agreedKind = 3 then none else r.stageSf
      exitCount := if r.agreedKind = 1 && r.state = .staged then 0 else r.exitCount
      rxCount := none, agree := if r.txCount.isNone then .switched else r.agree }) s
  else s

/-- The conditions of a `STAGE` proposal (R234). -/
def bothStaged (s : Device) (c : Carrier) : Bool :=
  let r := s.rx.get c
  r.state = .staged && r.farRec.rxState = 7 && (r.agree = .idle || r.agree = .switched) && r.stageSf.isNone &&
    r.backoff.isNone

/-- STAGE_PROPOSE (R234). -/
def stagePropose (c : Carrier) (s : Device) : Device :=
  if bothStaged s c && (s.rx.get c).retryEpochs.isNone then propose c 1 s else s

/-- STAGE_RETRY (R227, R235). -/
def stageRetry (c : Carrier) (s : Device) : Device :=
  if expired (s.rx.get c).retryEpochs then
    let s := modRx c (fun r => { r with retryEpochs := none }) s
    if bothStaged s c then propose c 1 s else s
  else s

/-- RX_STAGE_FAIL: `IN_SERVICE` is not reached within 8 full-format superframes (R235). -/
def rxStageFail (c : Carrier) (s : Device) : Device :=
  let r := s.rx.get c
  match r.stageSf with
  | some n =>
    if r.state = .staged ∧ 8 ≤ n ∧ r.exitCount < 8 then
      let s := modRx c (fun r => { r with bringUp := true, stageSf := none, exitCount := 0 }) s
      let s := propose c 3 (fault 0x0324 c.num [] s)
      modRx c (fun r => { r with retryEpochs := timer (rxSet s c 28) }) s
    else s
  | none => s

/-! ### Commands -/

/-- Settings of RX_CONFIG whose block boundary is that of R111 in native modes from `SUPERFRAME_LOCK` up (Table 5-8). -/
def rxMapKey (c : Carrier) (k : Nat) : Bool :=
  keyTgt k = carCode c && keyOp k = 0x0230 && keyOff k ∈ [12, 16, 18, 20]

/-- Receive settings at a block boundary. `rxw` marks the boundary of R111 of the received training field. -/
def settleRx (c : Carrier) (rxw : Bool) (s : Device) : Device :=
  let s := settle .block (fun k => keyTgt k = carCode c && keyOp k = 0x0230 && keyOff k = 23) s
  if native s c && (s.rx.get c).state.atLeast .superframeLock && !rxw then s else settle .block (rxMapKey c) s

/-- RX_CONFIG (R236). -/
def rxConfigCmd : Cmd where
  blocks := fun _ r => [r.car.num]
  field := fun s r off =>
    match off with
    | 4 => (match modeOf s r.car with | some m => cdInRange m.rs (rdInt r.params 4 4) | none => true)
    | 12 => distinctMap (rd r.params 12 4)
    | 23 => rd r.params 23 1 % 8 = 0
    | _ => true
  state := fun s r => if zr s r.car ∧ rd r.params 26 1 = 1 then some (.notPermitted, 0) else none
  act := does fun r s => acceptFields 0x0230 r.tgt r.params s

/-- RX_ENABLE (R237). -/
def rxEnableCmd : Cmd where
  blocks := fun s r =>
    if rd r.params 0 1 = 1 then
      carrierBlocks r.car ++ (if native s r.car then [8] else if zr s r.car then [9 + r.car.num] else [])
    else []
  state := fun s r => if rd r.params 0 1 = 1 ∧ (modeOf s r.car).isNone then some (.notPermitted, 0) else none
  act := does fun r s =>
    modRx r.car (fun x => { x with enabled := rd r.params 0 1 = 1 }) (acceptFields 0x0231 r.tgt r.params s)

/-- RX_REACQUIRE (R238). -/
def rxReacquireCmd : Cmd where
  blocks := fun _ r => [r.car.num]
  state := fun s r => if (s.rx.get r.car).state = .off then some (.notPermitted, 0) else none
  act := does fun r s => fallToSearch r.car (if rd r.params 0 1 = 0 then .host else .last) 8 s

/-- LINE_AGREE (R229, R239). -/
def lineAgreeCmd : Cmd where
  blocks := fun _ r => [r.car.num]
  state := fun s r =>
    if s.accord.standby ≠ .ready ∨ !native s r.car then some (.notPermitted, 0)
    else if (s.rx.get r.car).agree = .proposed ∨ (s.rx.get r.car).agree = .acknowledged then some (.busy, 0) else none
  act := does fun r s => propose r.car 2 s

/-- Agreement state as a number (Table 5-9). -/
def AgreeState.code : AgreeState → Nat
  | .idle => 0
  | .proposed => 1
  | .acknowledged => 2
  | .switched => 3

/-- The receive map in force: the host's, or the one identified (R191, R194, R196). -/
def rxMapInForce (s : Device) (c : Carrier) : Nat :=
  if feAuto s c then (s.rx.get c).mapReported else rxSet s c 12

/-- RX_STATUS (R240, Table 5-9). -/
def rxStatusCmd : Cmd where
  blocks := fun _ r => [r.car.num]
  act := reads fun s r =>
    let c := r.car
    let x := s.rx.get c
    fields 48 [(0, le 1 x.state.code), (1, le 1 (bit x.bringUp)), (2, le 1 x.hypothesis), (3, le 1 x.agree.code),
      (4, le 4 (rxMapInForce s c)), (8, timeBytes10 x.since), (18, le 2 x.acqRetries), (20, le 4 x.xsfRx),
      (24, le 4 x.slips), (28, le 4 x.recentre), (32, le 4 x.cycleSlips), (36, le 2 x.hintMiss),
      (40, leInt 4 x.delayCorr), (44, le 4 x.agreeCount)]

/-- RX_MONITOR (R241, Table 5-5). -/
def rxMonitorCmd : Cmd where
  blocks := fun _ r => [r.car.num]
  act := reads fun s r =>
    let x := s.rx.get r.car
    let m := x.monitor
    fields 36 [(0, le 2 m.snrX), (2, le 2 m.snrY), (4, leInt 4 x.cdEst), (8, le 2 m.dgd), (10, le 2 m.sopRate),
      (12, leInt 4 m.freqOff), (16, (List.range 4).flatMap fun k => leInt 2 (m.pwr.getD k 0)),
      (24, leInt 2 m.centroid), (28, leInt 8 m.clkPhase)]

end Sys2Proof.Machine
end

