-- ==== Sys2Proof/Machine/Fec.lean ====
section
/-!
DEFINITION. Forward error correction (06_forward_error_correction R243 to R286): counters, windows and estimates, the
decoder pool, injection and the commands of the FEC class.
-/
namespace Sys2Proof.Machine
open Sys2Proof

/-- The decoder runs on a carrier (R249). -/
def decoding (s : Device) (c : Carrier) : Bool := (s.rx.get c).state.atLeast .superframeLock

/-- Add what a control tick released to a set of counts (R273). -/
def addCounts (nat : Bool) (i : FecIn) (k : FecCounts) : FecCounts :=
  let conv := ((List.range 15).map fun n => i.hist.getD n 0).sum
  let un := i.hist.getD 15 0
  let hist := (List.range 16).foldl (fun (t : Tab Nat) n =>
    Tab.set (fun _ => 0) t n (sat 64 (Tab.get (fun _ => 0) t n + (if nat then i.hist.getD n 0 else 0)))) k.iterHist
  let llr := (List.range 8).foldl (fun (t : Tab Nat) n =>
    Tab.set (fun _ => 0) t n (sat 64 (Tab.get (fun _ => 0) t n + i.llr.getD n 0))) k.llrHist
  { k with
    inCw := sat 64 (k.inCw + conv + un), inBitsCorr := sat 64 (k.inBitsCorr + i.bits),
    inCwCorr := sat 64 (k.inCwCorr + i.corr), inCwUnconv := sat 64 (k.inCwUnconv + un),
    outCw := sat 64 (k.outCw + i.outer.1), outBitsCorr := sat 64 (k.outBitsCorr + i.outer.2.1),
    outCwCorr := sat 64 (k.outCwCorr + i.outer.2.2.1), outCwUncorr := sat 64 (k.outCwUncorr + i.outer.2.2.2),
    iterHist := hist, llrHist := llr, llrSat := sat 64 (k.llrSat + i.llrSat),
    convBits := k.convBits + (if nat then 40960 * conv else i.zrBits), ngmi := if nat then i.ngmi else 0 }

/-- The decoder of a carrier at a control-tick boundary (R249, R262, R276, R286). -/
def fecControlTick (c : Carrier) (i : FecIn) (s : Device) : Device :=
  let s := modFec c (fun f =>
    if f.clearWaits then { f with run := { start := s.timing.now }, clearWaits := false } else f) s
  if !decoding s c then s
  else
    let nat := native s c
    let conv := ((List.range 15).map fun n => i.hist.getD n 0).sum
    let its := ((List.range 15).map fun n => (n + 1) * i.hist.getD n 0).sum
    let bits := if nat then 40960 * conv else i.zrBits
    let s := modFec c (fun f => { f with
      run := addCounts nat i f.run, epoch := addCounts nat i f.epoch,
      uncorrTick := f.uncorrTick + i.outer.2.2.2,
      iterTick := (f.iterTick.1 + its, f.iterTick.2 + conv),
      sdNow := (f.sdNow.1 + i.bits, f.sdNow.2 + bits) }) s
    let s := putPool { s.pool with used := s.pool.used.mod c (· + i.slots) } s
    let s := when (nat && 0 < i.missed) (fault 0x0342 c.num []) s
    when (!nat && i.zrFail) (fault 0x0343 c.num []) s

/-- An OTUC frame period is marked uncorrectable (R255, R272). -/
def countMarked (c : Carrier) (s : Device) : Device :=
  modFec c (fun f => { f with
    run := { f.run with framesMarked := sat 64 (f.run.framesMarked + 1) }
    epoch := { f.epoch with framesMarked := sat 64 (f.epoch.framesMarked + 1) } }) s

/-- The carrier's ZR decoder releases zeros and marks every frame period (R286). -/
def zrSquelched (s : Device) (c : Carrier) : Bool := (source s 0x0343 c.num).st ≠ .quiet

/-- A core of the pool. -/
def core (s : Device) (k : Nat) : CoreSt := Tab.get (fun _ => {}) s.pool.cores k

/-- Change a core. -/
def modCore (k : Nat) (f : CoreSt → CoreSt) (s : Device) : Device :=
  putPool { s.pool with cores := Tab.modify (fun _ => {}) s.pool.cores k f } s

/-- The pool at a control-tick boundary: iterations, failed cores, and the calendar period of 16 control ticks at
whose end cores retire (R258, R263). -/
def poolControlTick (i : PoolIn) (s : Device) : Device :=
  let s := each (i.iters.filter fun p => p.1 < 32) (fun p s => modCore p.1 (fun k => { k with iters := k.iters + p.2 }) s) s
  let total := ((i.iters.filter fun p => p.1 < 32).map (·.2)).sum
  let s := putPool { s.pool with itersTick := s.pool.itersTick + total } s
  let s := each (i.fails.filter fun k => k < 32) (fun k s =>
    fault 0x0341 k [] (modCore k (fun q => { q with retireWaits := !q.retired }) s)) s
  if s.pool.calTick < 15 then putPool { s.pool with calTick := s.pool.calTick + 1 } s
  else
    let s := each carriers (fun c s => modFec c (fun f => { f with slotsUsed := s.pool.used.get c }) s) s
    putPool { s.pool with
      calTick := 0, used := ⟨0, 0⟩
      cores := Tab.mapAll (fun _ => {}) s.pool.cores fun _ q =>
        { q with retired := q.retired || q.retireWaits, retireWaits := false } } s

/-- FEC of a carrier at a slow-tick boundary: `FEC_UNCORR` (R279), mean iterations (R281), the window of SD. -/
def fecSlowTick (c : Carrier) (s : Device) : Device :=
  let n := (s.fec.get c).uncorrTick
  let s := modFec c (fun f => { f with
    uncorrTick := 0, iterLast := f.iterTick, iterTick := (0, 0),
    sdBits := (f.sdNow :: f.sdBits).take 1000, sdNow := (0, 0) }) s
  if 0 < n then raise 0x0303 c.num 0 (le 4 (sat 32 n)) s else s

/-- The pool at a slow-tick boundary. -/
def poolSlowTick (s : Device) : Device :=
  putPool { s.pool with itersSlow := s.pool.itersTick, itersTick := 0 } s

/-- FEC of a carrier at an epoch boundary: the snapshot (R277), `uncorr_epochs`, and the BER events (R278). -/
def fecEpoch (c : Carrier) (s : Device) : Device :=
  let s := modFec c (fun f =>
    let u := if 0 < f.epoch.outCwUncorr then 1 else 0
    { f with
      run := { f.run with uncorrEpochs := sat 32 (f.run.uncorrEpochs + u) }
      snap := { f.epoch with uncorrEpochs := u }
      epoch := { start := s.timing.now }
      berHist := ((f.epoch.inBitsCorr, f.epoch.convBits) :: f.berHist).take 60 }) s
  let f := s.fec.get c
  let w := f.berHist.take (csetN s c 0x0300 2)
  let bits := (w.map (·.1)).sum
  let coded := (w.map (·.2)).sum
  let ber := toF32 bits coded
  if coded = 0 then s
  else if !f.berHigh && f32Num (csetN s c 0x0300 4) * coded < bits * 2 ^ 149 then
    raise 0x0301 c.num 0 (le 4 ber) (modFec c (fun f => { f with berHigh := true }) s)
  else if f.berHigh && bits * 2 ^ 149 < f32Num (csetN s c 0x0300 8) * coded then
    raise 0x0302 c.num 0 (le 4 ber) (modFec c (fun f => { f with berHigh := false }) s)
  else s

/-- The pool at an epoch boundary: iterations of the last epoch (R284). -/
def poolEpoch (s : Device) : Device :=
  putPool { s.pool with
    cores := Tab.mapAll (fun _ => {}) s.pool.cores fun _ q => { q with itersLast := sat 32 q.iters, iters := 0 } } s

/-- Injection starts or stops (R285). -/
def injectBoundary (c : Carrier) (s : Device) : Device :=
  modFec c (fun f => match f.injectNext with
    | some i => { f with inject := i, injectNext := none }
    | none => f) s

/-! ### Commands -/

/-- The decoder that a carrier's mode uses, as bits of `CLK_EN`. -/
def fecBlocks (s : Device) (c : Carrier) : List Nat :=
  if native s c then [8] else if zr s c then [9 + c.num] else []

/-- FEC_CONFIG (R280). -/
def fecConfigCmd : Cmd where
  blocks := fun s r => fecBlocks s r.car
  field := fun _ r off => off ≠ 8 || rd r.params 8 4 ≤ rd r.params 4 4
  act := does fun r s => acceptFields 0x0300 r.tgt r.params s

/-- FEC_STATUS (R281, Table 22-13). -/
def fecStatusCmd : Cmd where
  blocks := fun s r => fecBlocks s r.car
  act := reads fun s r =>
    let f := s.fec.get r.car
    let m : ModePlan := (modeOf s r.car).getD { fec := 0, n := 0, nBringUp := 0 }
    let mean := if f.iterLast.2 = 0 then 0 else f.iterLast.1 * 100 / f.iterLast.2
    fields 24 [(0, le 1 m.fec), (1, le 1 m.iters), (2, le 2 m.group), (4, le 4 m.coded), (8, le 8 m.fecLatency),
      (16, le 2 mean), (18, le 2 m.slots), (20, le 2 f.slotsUsed)]

/-- The response of FEC_COUNTERS (Table 6-5, R274, R275). -/
def countBytes (k : FecCounts) : List Byte :=
  let nums := [k.inCw, k.inBitsCorr, k.inCwCorr, k.inCwUnconv, k.outCw, k.outBitsCorr, k.outCwCorr, k.outCwUncorr,
    k.framesMarked]
  (nums.flatMap (le 8 ·)) ++ ((List.range 16).flatMap fun n => le 8 (Tab.get (fun _ => 0) k.iterHist n)) ++
    ((List.range 8).flatMap fun n => le 8 (Tab.get (fun _ => 0) k.llrHist n)) ++ le 8 k.llrSat ++
    le 4 (toF32 k.inBitsCorr k.convBits) ++ le 4 (toF32 (k.outCwUncorr * 7616) (k.outCw * 15232)) ++ le 4 k.ngmi ++
    le 1 (bit (k.inCw < 100 * k.inCwUnconv)) ++ [0] ++ le 4 k.uncorrEpochs ++ timeBytes10 k.start

/-- FEC_COUNTERS (R282). -/
def fecCountersCmd : Cmd where
  blocks := fun s r => fecBlocks s r.car
  act := reads fun s r => countBytes (if rd r.params 0 1 = 0 then (s.fec.get r.car).run else (s.fec.get r.car).snap)

/-- FEC_CLEAR (R276, R283). -/
def fecClearCmd : Cmd where
  blocks := fun s r => fecBlocks s r.car
  act := does fun r s => modFec r.car (fun f => { f with clearWaits := true }) s

/-- FEC_POOL_STATUS (R284): the power estimate of R268, then a record per core. -/
def fecPoolStatusCmd : Cmd where
  blocks := fun _ _ => [8]
  act := reads fun s _ =>
    le 4 (min (1900 + 8 * s.pool.itersSlow / 1000) 12000) ++ (List.range 32).flatMap fun k =>
      let q := core s k
      match (plan s).cores.find? fun p => p.1 = k with
      | some p => le 1 (if q.retired then 2 else 0) ++ le 1 p.2.1 ++ le 1 p.2.2 ++ [0] ++ le 4 q.itersLast
      | none => le 1 (if q.retired then 2 else 1) ++ [0, 0, 0] ++ le 4 q.itersLast

/-- FEC_INJECT (R285). -/
def fecInjectCmd : Cmd where
  blocks := fun _ r => [r.car.num]
  field := fun _ r off =>
    match off with
    | 4 => 0x33D6BF95 ≤ rd r.params 4 4 && rd r.params 4 4 ≤ 0x3D4CCCCD
    | 8 => 1 ≤ rd r.params 8 4 && rd r.params 8 4 ≤ 40960
    | _ => true
  act := does fun r s =>
    let i : FecInject :=
      { on := rd r.params 0 1 = 1, pattern := rd r.params 1 1, ratio := rd r.params 4 4, burst := rd r.params 8 4 }
    modFec r.car (fun f => { f with injectNext := some i }) s

end Sys2Proof.Machine
end

