-- ==== Sys2Proof/Machine/Line.lean ====
section
/-!
DEFINITION. Line framing, overhead and defects (07_line_framing_and_defects R287 to R344): the received count, the OTUC
check and the true search, trail trace identifiers, the defect hierarchy with its actions, the overhead port and the
commands of the LINE class.
-/
namespace Sys2Proof.Machine
open Sys2Proof

/-- One side of a carrier: the line, or the host FlexO of a pass-through carrier. -/
def sideOf (s : Device) (c : Carrier) (host : Bool) : SideSt := if host then (s.line.get c).host else (s.line.get c).line

/-- Change one side of a carrier. -/
def modSide (c : Carrier) (host : Bool) (f : SideSt → SideSt) (s : Device) : Device :=
  modLine c (fun l => if host then { l with host := f l.host } else { l with line := f l.line }) s

/-- A slice of a side. -/
def sliceOf (d : SideSt) (k : Nat) : SliceFrame := Tab.get (fun _ => {}) d.slices k

/-- Slices of the received line frame (R154, R287): those of the bring-up format while it is received. -/
def slicesRx (s : Device) (c : Carrier) : Nat :=
  match rxModeOf s c with
  | some m => if !m.native then 0 else if (s.rx.get c).bringUp then m.nBringUp else m.n
  | none => 0

/-- The carrier passes an OTUCn of the host lanes through (R310, R348). -/
def passThrough (s : Device) (c : Carrier) : Bool := match modeOf s c with | some m => m.passThrough | none => false

/-- Slices of a side. -/
def slicesOf (s : Device) (c : Carrier) (host : Bool) : Nat :=
  if host then (match modeOf s c with | some m => if m.passThrough then m.n else 0 | none => 0) else slicesRx s c

/-- The line group a carrier belongs to, with its member there (08_tributaries_groups_protection R358). -/
def groupOf (s : Device) (c : Carrier) : Option (GroupPlan × GroupMember) :=
  (plan s).groups.findSome? fun g =>
    (g.members.find? fun m => m.stack = s.stack.stackId && m.carrier = c).map fun m => (g, m)

/-- A line group's state. -/
def grp (s : Device) (g : Nat) : GroupSt := Tab.get (fun _ => {}) s.tribs.groups g

/-- Change a line group. -/
def modGrp (g : Nat) (f : GroupSt → GroupSt) (s : Device) : Device :=
  putTribs { s.tribs with groups := Tab.modify (fun _ => {}) s.tribs.groups g f } s

/-- LOA of a group as this device reports it: raw here, or at another device that holds members, or no entry from one
for 3 slow ticks (17_stack_bus_and_stacking R683). -/
def groupLoa (s : Device) (g : GroupPlan) : Bool :=
  (grp s g.group).loa || g.members.any fun m => m.stack ≠ s.stack.stackId &&
    (match grpState s g.group m.stack with
     | some (x, age) => x.loa || 3 ≤ age
     | none => true)

/-- Type of a protection scheme: its Accord-fixed value, 0 where the Accord gives none
(08_tributaries_groups_protection R369, R387). -/
def schemeType (s : Device) (k : Nat) : Nat := (planFixed (plan s) (skey 0x0505 0 k 1)).toNat

/-- The carriers are a merge pair. -/
def merging (s : Device) : Bool := schemeType s 0 = 1

/-! ### Frames and multiframes (R298 to R308) -/

/-- Byte of a slice's overhead at a row and a column, both from 1 (Table 7-1, Table 7-8). -/
def ohAt (o : List Byte) (row col : Nat) : Byte := o.getD (16 * (row - 1) + col - 1) 0

/-- The 32 compared FAS bits differ from 0xF6F6_2828 (R298). -/
def fasBadAt (o : List Byte) : Bool := slice o 1 4 ≠ [0xF6, 0xF6, 0x28, 0x28]

/-- One frame more of a condition that becomes a defect, or ends, after 2,581 frames (Table 7-3). -/
def persist (holds defect : Bool) (run : Nat) : Bool × Nat :=
  if holds = defect then (defect, 0)
  else if 2581 ≤ run + 1 then (holds, 0)
  else (defect, run + 1)

/-- One frame of a slice by Table 7-3. `search` marks the true search, whose OOF ends on entry to `IN_FRAME`. -/
def stepSlice (search fasErr mfasErr : Bool) (q : SliceFrame) : SliceFrame :=
  let fb := if fasErr then min 5 (q.fasBad + 1) else 0
  let fg := if fasErr then 0 else min 2 (q.fasGood + 1)
  let mb := if mfasErr then min 5 (q.mfasBad + 1) else 0
  let mg := if mfasErr then 0 else min 2 (q.mfasGood + 1)
  let oof := if 5 ≤ fb then true else if !search && 2 ≤ fg then false else q.oof
  let oom := if 5 ≤ mb then true else if 2 ≤ mg then false else q.oom
  let f := persist oof q.lof q.oofRun
  let m := persist oom q.lom q.oomRun
  { q with fasBad := fb, fasGood := fg, mfasBad := mb, mfasGood := mg, oof := oof, oom := oom, lof := f.1,
           oofRun := f.2, lom := m.1, oomRun := m.2 }

/-- A slice enters `IN_FRAME` with IF and IM holding (R304). -/
def enterInFrame (mfas : Nat) (q : SliceFrame) : SliceFrame :=
  { q with inFrame := true, cands := [], mfas := (mfas + 1) % 256, oof := false, oom := false, fasBad := 0, fasGood := 0,
           mfasBad := 0, mfasGood := 0 }

/-- The winner of a contest: the only candidate whose BIP-8 matched, else the one that arrived first (R305). -/
def contestWinner (l : List FasCand) : Nat :=
  match l.filter (·.bipOk) with
  | [x] => x.mfas
  | _ => (l.head?.map (·.mfas)).getD 0

/-- One frame of a slice in `HUNT` (R302 to R305): the slice, and whether a contest was settled. -/
def hunt (hits : List FasHit) (q : SliceFrame) : SliceFrame × Bool :=
  let held := (q.cands.filter (·.confirmed)).map fun k =>
    { k with mfas := (k.mfas + 1) % 256, held := k.held + 1,
             bipOk := k.bipOk || hits.any fun h => h.pos = k.pos && h.bipOk }
  if held ≠ [] then
    if 2 ≤ (held.head?.map (·.held)).getD 0 then (enterInFrame (contestWinner held) q, true)
    else ({ q with cands := held }, false)
  else
    let good := (q.cands.filter fun k => hits.any fun h => h.pos = k.pos && h.mfas = (k.mfas + 1) % 256).map fun k =>
      { k with mfas := (k.mfas + 1) % 256, confirmed := true }
    match good with
    | [k] => (enterInFrame k.mfas q, false)
    | _ =>
      let fresh := (hits.filter fun h => !(good.any fun k => k.pos = h.pos)).map fun h =>
        ({ pos := h.pos, mfas := h.mfas } : FasCand)
      if good ≠ [] then ({ q with cands := good }, false) else ({ q with cands := fresh.take 4 }, false)

/-- One frame of a slice of the host FlexO side (R301 to R308); `m1` is the MFAS of slice #1 (R307). -/
def searchSlice (i : FrameSlice) (m1 : Option Nat) (q : SliceFrame) : SliceFrame × Bool :=
  if q.inFrame then
    let m := (ohAt i.oh 1 7).toNat
    let err := m ≠ q.mfas || (match m1 with | some x => x ≠ m | none => false)
    let q' := stepSlice true (fasBadAt i.oh) err q
    let next := if q'.oom then (m + 1) % 256 else (q.mfas + 1) % 256
    if q'.oof then ({ q' with inFrame := false, cands := [], mfas := next }, false) else ({ q' with mfas := next }, false)
  else
    let p := hunt i.hits q
    if p.1.inFrame then
      let f := persist false p.1.lof p.1.oofRun
      let m := persist false p.1.lom p.1.oomRun
      ({ p.1 with lof := f.1, oofRun := f.2, lom := m.1, oomRun := m.2 }, p.2)
    else (stepSlice true true true p.1, p.2)

/-- The slices of a side over one frame. On the line every position is predicted: MFAS is `f`, and without a
superframe position every frame counts as errored (R297 to R299). -/
def stepSlices (host locked : Bool) (f n : Nat) (l : List FrameSlice) (d : SideSt) : SideSt :=
  (List.range n).foldl (fun (d : SideSt) k =>
    let i : FrameSlice := l.getD k {}
    if host then
      let m1 := if k = 0 then none else some (ohAt (l.getD 0 {}).oh 1 7).toNat
      let p := searchSlice i m1 (sliceOf d k)
      { d with slices := Tab.set (fun _ => {}) d.slices k p.1, fasContest := wrap 16 (d.fasContest + bit p.2) }
    else
      let fe := !locked || fasBadAt i.oh
      let me := !locked || (ohAt i.oh 1 7).toNat ≠ f
      { d with slices := Tab.set (fun _ => {}) d.slices k (stepSlice false fe me (sliceOf d k)) }) d

/-- The OTUC check of R300 passes. -/
def otucOk (s : Device) (c : Carrier) : Bool :=
  (List.range (slicesRx s c)).all fun k =>
    let q := sliceOf (s.line.get c).line k
    !q.oof && !q.oom

/-! ### Trail trace identifiers (R322 to R326) -/

/-- One TTI byte received with MFAS `m`: the receiver, and whether the accepted TTI is replaced (R322, R323). -/
def ttiStep (m : Nat) (b : Byte) (t : TtiSt) : TtiSt × Bool :=
  let k := m % 64
  let part := if k = 0 then [b] else if t.part.length = k then t.part ++ [b] else []
  if part.length < 64 then ({ t with part := part }, false)
  else
    let run := if part = t.last then min 3 (t.run + 1) else 1
    let t' := { t with part := [], last := part, run := run }
    if 3 ≤ run && (!t.isAccepted || t.accepted ≠ part) then ({ t' with accepted := part, isAccepted := true }, true)
    else (t', false)

/-- TIM (R324, R325). -/
def timOf (mode : Nat) (expected : List Byte) (t : TtiSt) : Bool :=
  t.isAccepted && ((tb mode 0 && slice t.accepted 1 15 ≠ slice expected 1 15) ||
    (tb mode 1 && slice t.accepted 17 15 ≠ slice expected 17 15))

/-- The slice has left OOF: no TTI is accepted any more (R325). -/
def ttiRestart (t : TtiSt) : TtiSt := { t with isAccepted := false, part := [], run := 0, last := [] }

/-- One STAT code (R312, Table 7-5). -/
def statStep (v : Nat) (q : StatSt) : StatSt :=
  let run := if v = q.last then min 3 (q.run + 1) else 1
  { last := v, run := run, accepted := if 3 ≤ run then v else q.accepted }

/-- One bit that declares after `n` frames of 1 and clears after `n` frames of 0: its runs and its state. -/
def runStep (n : Nat) (b : Bool) (p : Nat × Nat) (st : Bool) : (Nat × Nat) × Bool :=
  let q := if b then (min n (p.1 + 1), 0) else (0, min n (p.2 + 1))
  (q, if n ≤ q.1 then true else if n ≤ q.2 then false else st)

/-- Errors a BEI nibble counts: 0 to 8, other codes none. -/
def beiOf (b : Byte) : Nat := if b.toNat / 16 ≤ 8 then b.toNat / 16 else 0

/-! ### Defects (R309 to R319) -/

/-- The host lanes of a pass-through carrier's client. -/
def flexoLanes (s : Device) (c : Carrier) : List LaneSt :=
  ((plan s).clients.filter fun k => !k.eth && k.line = c.num).flatMap fun k =>
    (List.range k.lanes).map fun j => lane s (k.lane + j)

/-- A setting of LINE_CONFIG in force. -/
def lineSet (s : Device) (c : Carrier) (off : Nat) : Nat := csetN s c 0x0400 off

/-- Ranks 1 to 3 of the line (R221, R309, R312). -/
def lineTop (s : Device) (c : Carrier) : List Bool :=
  let r := s.rx.get c
  let los := allAbsent s c
  let low := r.enabled && !los && r.state.atLeast .powerSeen && !r.state.atLeast .carrierLock
  let lofl : Bool := if zr s c then !r.zrLocked else r.state = .carrierLock
  [los, low, lofl]

/-- Ranks 1 to 3 of the host FlexO side (R310). -/
def hostTop (s : Device) (c : Carrier) : List Bool :=
  let l := flexoLanes s c
  [l.any fun k => k.state = .noSignal || k.state = .off, l.any fun k => k.state = .adapting,
   l.any fun k => !k.amLock || k.deskewFailed]

/-- Bits 8 to 14 of the ODUCn path of a group: those of member 0, here or over the stack bus (R360); none where the
carrier is in no group or is member 0 itself. -/
def pathOver (s : Device) (c : Carrier) : Option (List Bool) :=
  match groupOf s c with
  | none => none
  | some (g, m) =>
    if m.index = 0 then none
    else match g.members.find? fun x => x.index = 0 with
      | none => none
      | some z =>
        if z.stack = s.stack.stackId then
          some ((List.range 7).map fun k => (s.line.get z.carrier).line.reported.getLsbD (8 + k))
        else match grpState s g.group z.stack with
          | some (x, _) => some ((List.range 7).map fun k => x.state.getLsbD k)
          | none => some (List.replicate 7 false)

/-- The raw defects of a side, bits 0 to 17 of Table 7-11. -/
def rawBits (s : Device) (c : Carrier) (host : Bool) : List Bool :=
  let d := sideOf s c host
  let top := if host then hostTop s c else lineTop s c
  let frames := host || native s c
  let sl := if frames then (List.range (slicesOf s c host)).map (sliceOf d ·) else []
  let loa := !host && (match groupOf s c with | some (g, _) => groupLoa s g | none => false)
  let q := s.crypto.get c
  let st (v : Nat) : Bool := frames && d.stat.accepted = v && !(!host && c = .b && merging s)
  let own := [st 7, st 6, st 5, frames && d.smTti.tim, frames && d.pmTti.tim, frames && d.raw.getLsbD 13,
    frames && d.raw.getLsbD 14]
  let path := if host then own else (pathOver s c).getD own
  top ++ [sl.any (·.lof), sl.any (·.lom), loa, !host && q.authSf, !host && q.keyAbsent] ++ path ++
    [frames && d.smDeg.deg, frames && d.pmDeg.deg, d.raw.getLsbD 17]

/-- Rank of a bit of Table 7-11. -/
def rankOf (b : Nat) : Nat := [1, 2, 3, 4, 4, 5, 6, 6, 7, 7, 7, 8, 8, 9, 9, 9, 9, 9].getD b 10

/-- The reported bits of raw bits: the highest rank that is raw suppresses every other (R311, R313), `SM_TIM` suppresses
`PM_TIM` (R314). -/
def reportBits (raw : List Bool) : List Bool :=
  let set := (List.range 18).filter fun b => raw.getD b false
  let top := (set.map rankOf).foldl min 10
  (List.range 18).map fun b => raw.getD b false && rankOf b = top && !(b = 12 && raw.getD 11 false)

/-- SF of reported bits: any of ranks 1 to 8, a TIM only while its action bit is clear (R319). -/
def sfOf (mask : Nat) (rep : List Bool) : Bool :=
  (List.range 13).any fun b => rep.getD b false && !(b = 11 && tb mask 4) && !(b = 12 && tb mask 5)

/-- The SD condition of reported bits (R319). -/
def sdOf (rep : List Bool) : Bool := rep.getD 15 false || rep.getD 16 false || rep.getD 17 false

/-- SF of a carrier's line is reported. -/
def lineSf (s : Device) (c : Carrier) : Bool := (s.line.get c).line.reported.getLsbD 18

/-- The SD condition of a carrier's line. -/
def lineSd (s : Device) (c : Carrier) : Bool := (s.line.get c).line.reported.getLsbD 19

/-- A defect of ranks 1 to 8 is reported. -/
def highDefect (v : BitVec 20) : Bool := (v &&& 0x1FFF#20) ≠ 0

/-- The raw and reported vectors of a side follow their conditions (R311 to R315, R319). A change of the path state of
a group's member 0 is sent on the stack bus (17_stack_bus_and_stacking R683). -/
def evalSide (c : Carrier) (host : Bool) (s : Device) : Device :=
  let raw := rawBits s c host
  let rep := reportBits raw
  let v : BitVec 20 := BitVec.ofNat 20 (bitmap (rep ++ [sfOf (lineSet s c 2) rep, sdOf rep]))
  let was := (sideOf s c host).reported
  let s := modSide c host (fun d => { d with
    raw := BitVec.ofNat 20 (bitmap raw), reported := v, since := if v = d.reported then d.since else s.timing.now,
    spoiled := d.spoiled || highDefect v }) s
  match groupOf s c with
  | some (g, m) => when (!host && m.index = 0 && was / 256 ≠ v / 256) (sendGroupState g.group) s
  | none => s

/-- The consequent actions of a carrier (Table 7-6). In a merge pair `CLIENT_AIS` acts only while SF holds on both
carriers (08_tributaries_groups_protection R378). -/
def evalActions (c : Carrier) (s : Device) : Device :=
  let m := lineSet s c 2
  let v := (s.line.get c).line.reported
  let h := (s.line.get c).host.reported
  let sf := lineSf s c
  let bdi (x : BitVec 20) : Bool := (x &&& 0x81F#20) ≠ 0
  let a : ActionSt :=
    { protSf := sf && !tb m 0, protSd := lineSd s c && !tb m 0,
      clientAis := sf && !tb m 1 && (!merging s || (lineSf s .a && lineSf s .b)),
      smBdi := bdi v && !tb m 2, pmBdi := sf && !tb m 3,
      lineAis := passThrough s c && h.getLsbD 18 && !tb m 6, hostBdi := passThrough s c && bdi h && !tb m 2 }
  modLine c (fun l => { l with act := a }) s

/-- Defects and actions of a carrier (R327, R329). -/
def evalLine (c : Carrier) (s : Device) : Device :=
  let s := evalSide c false s
  evalActions c (if passThrough s c then evalSide c true s else s)

/-- The end of a control tick: one `LINE_DEFECT` for each side whose reported vector changed (R316). -/
def lineDefectEvent (c : Carrier) (host : Bool) (s : Device) : Device :=
  let d := sideOf s c host
  if d.reported = d.reportedTick then s
  else
    let s := raise 0x0401 c.num 0 (le 1 (bit host) ++ zeros 3 ++ le 4 d.reportedTick.toNat ++ le 4 d.reported.toNat) s
    modSide c host (fun d => { d with reportedTick := d.reported }) s

/-- Counters of one side cleared by LINE_CLEAR (R341). -/
def clearSide (d : SideSt) : SideSt :=
  if d.clearWaits then
    { d with fasContest := 0, nsoCrcErr := 0, xsfSteps := 0, smBipErr := 0, pmBipErr := 0, smBei := 0, pmBei := 0,
             clearWaits := false }
  else d

/-- The overhead port's counters cleared (R343). -/
def clearOhp (o : OhpSt) : OhpSt := { o with repeatExt := 0, dropExt := 0, repeatIns := 0, dropIns := 0 }

/-- Line framing at a control-tick boundary. -/
def lineControlTick (c : Carrier) (s : Device) : Device :=
  let s := settle .tick (fun k => keyOp k = 0x0400 && keyTgt k = carCode c) s
  let s := modLine c (fun l => { l with
    line := clearSide l.line, host := clearSide l.host, ohp := if l.line.clearWaits then clearOhp l.ohp else l.ohp }) s
  lineDefectEvent c true (lineDefectEvent c false (evalLine c s))

/-! ### OTUC frames -/

/-- Overhead of slice #1 (R290): TTI, STAT and BDI of the frame with MFAS `m`; and which accepted TTIs were replaced. -/
def takeOverhead (stat : Bool) (o : List Byte) (m : Nat) (inMf : Bool) (d : SideSt) : SideSt × Bool × Bool :=
  let sm := if inMf then ttiStep m (ohAt o 1 8) d.smTti else (d.smTti, false)
  let pm := if inMf then ttiStep m (ohAt o 3 10) d.pmTti else (d.pmTti, false)
  let s3 := ohAt o 1 10
  let p3 := ohAt o 3 12
  let sb := runStep 5 (s3.getLsbD 3) d.smBdi (d.raw.getLsbD 13)
  let pb := runStep 5 (p3.getLsbD 3) d.pmBdi (d.raw.getLsbD 14)
  let keep : BitVec 20 := d.raw &&& ~~~0x6000#20
  let raw := keep ||| BitVec.ofNat 20 (bit sb.2 * 2 ^ 13 + bit pb.2 * 2 ^ 14)
  ({ d with smTti := sm.1, pmTti := pm.1, stat := if stat then statStep (p3.toNat % 8) d.stat else d.stat,
            smBdi := sb.1, pmBdi := pb.1, raw := raw }, sm.2, pm.2)

/-- Parity and far-end counts of every slice that is in frame (R290), and the blocks of DEG (R317). -/
def takeParity (locked : Bool) (n : Nat) (i : FrameIn) (d : SideSt) : SideSt :=
  let d := (List.range n).foldl (fun (d : SideSt) k =>
    let x : FrameSlice := i.slices.getD k {}
    let seen := locked && !(sliceOf d k).oof
    let sb := seen && x.smBad
    let pb := seen && x.pmBad
    { d with
      smBipErr := wrap 64 (d.smBipErr + bit sb), pmBipErr := wrap 64 (d.pmBipErr + bit pb),
      smBei := wrap 64 (d.smBei + (if seen then beiOf (ohAt x.oh 1 10) else 0)),
      pmBei := wrap 64 (d.pmBei + (if seen then beiOf (ohAt x.oh 3 12) else 0)),
      smDeg := { d.smDeg with errored := d.smDeg.errored + bit (sb || i.mark), blocks := d.smDeg.blocks + 1 },
      pmDeg := { d.pmDeg with errored := d.pmDeg.errored + bit (pb || i.mark), blocks := d.pmDeg.blocks + 1 } }) d
  { d with marksNow := d.marksNow + bit i.mark }

/-- The overhead of a received line frame goes to the extraction buffer; a full buffer drops it (R335). -/
def ohpExtract (c : Carrier) (i : FrameIn) (s : Device) : Device :=
  let l := s.line.get c
  if !l.ohp.ext then s
  else if 256 ≤ l.ohp.extPad + l.ohp.extBuf.length then
    modLine c (fun l => { l with ohp := { l.ohp with
      dropExt := wrap 32 (l.ohp.dropExt + 1),
      tick := (l.ohp.tick.1, l.ohp.tick.2.1 + 1, l.ohp.tick.2.2.1, l.ohp.tick.2.2.2) } }) s
  else
    let n := slicesRx s c
    let oofs := (List.range n).map fun k => (sliceOf l.line k).oof
    let oh := (List.range 16).flatMap fun k =>
      if k < n && !(oofs.getD k false) then fit 64 (i.slices.getD k {}).oh else zeros 64
    let fr : OhFrame :=
      { invalid := oofs.any id, mfas := l.frame, n := n, xsf := if (s.rx.get c).inStep then (s.rx.get c).xsfRx else 0,
        oofMap := BitVec.ofNat 16 (bitmap oofs), oh := oh }
    modLine c (fun l => { l with ohp := { l.ohp with extBuf := l.ohp.extBuf ++ [fr] } }) s

/-- A received frame period of one side (R287, R290, R297 to R308, R312). -/
def takeFrame (c : Carrier) (host : Bool) (i : FrameIn) (s : Device) : Device :=
  let n := slicesOf s c host
  let locked := host || (s.rx.get c).state.atLeast .superframeLock
  let f := (s.line.get c).frame
  let d := sideOf s c host
  let was := (sliceOf d 0).oof
  let d := stepSlices host locked f n i.slices d
  let q := sliceOf d 0
  let d := if was && !q.oof then { d with smTti := ttiRestart d.smTti, pmTti := ttiRestart d.pmTti } else d
  let d := takeParity locked n i d
  let o := (i.slices.getD 0 {}).oh
  let m := if host then (ohAt o 1 7).toNat else f
  let p := if 0 < n && locked && !q.oof then takeOverhead (host || !merging s) o m (!q.oom) d else (d, false, false)
  let e := (s.line.get c).line
  let d := { p.1 with
    smTti := { p.1.smTti with tim := timOf (lineSet s c 0) e.smTti.expected p.1.smTti }
    pmTti := { p.1.pmTti with tim := timOf (lineSet s c 1) e.pmTti.expected p.1.pmTti } }
  let s := modSide c host (fun _ => d) s
  let s := when p.2.1 (raise 0x0402 c.num 0 [0, 0]) s
  when p.2.2 (raise 0x0402 c.num 0 [1, 0]) s

/-- The part of OTUC_FRAME on this chapter's state. A ZR line carries no OTUC frame: its frame period counts only for
the marks (R309, R318). -/
def lineFrame (c : Carrier) (host : Bool) (i : FrameIn) (s : Device) : Device :=
  let i := if !host && zrSquelched s c then { i with mark := true } else i
  let s := settle .frame (fun k => keyOp k = 0x0400 && keyTgt k = carCode c) s
  if host then (if passThrough s c then evalLine c (takeFrame c true i s) else s)
  else
    let s := when i.mark (countMarked c) s
    let s := if native s c then ohpExtract c i (takeFrame c false i s)
      else modSide c false (fun d => { d with marksNow := d.marksNow + bit i.mark }) s
    evalLine c (modLine c (fun l => { l with frame := (l.frame + 1) % 256 }) s)

/-! ### The received count (R293, R296) -/

/-- The checks of a native superframe overhead: its CRC over bytes 0 to 507 (R293). -/
def nsoValid (b : List Byte) : Bool := b.length = 512 && (crc32c (slice b 0 508)).toNat = fromBe (slice b 508 4)

/-- A valid NSO with count `x` for a count in step, or out of step (R296). -/
def countNso (c : Carrier) (x : Nat) (s : Device) : Device :=
  let r := s.rx.get c
  if r.inStep then
    if x = r.xsfRx then modRx c (fun r => { r with xsfDisagree := 0 }) s
    else if 2 ≤ r.xsfDisagree then
      let s := raise 0x0403 c.num 0 (zeros 4 ++ le 4 r.xsfRx ++ le 4 x) s
      let s := modSide c false (fun d => { d with xsfSteps := wrap 16 (d.xsfSteps + 1) }) s
      modRx c (fun r => { r with inStep := false, xsfDisagree := 0, lastXsf := none }) s
    else modRx c (fun r => { r with xsfDisagree := r.xsfDisagree + 1 }) s
  else if r.lastXsf = some (wrap 32 (x + 2 ^ 32 - 1)) then
    modRx c (fun r => { r with inStep := true, xsfRx := x, xsfDisagree := 0, lastXsf := none }) s
  else modRx c (fun r => { r with lastXsf := some x }) s

/-- An invalid NSO is discarded whole; a count out of step needs two valid ones in a row (R293, R296). -/
def nsoDiscard (c : Carrier) (s : Device) : Device :=
  let s := modSide c false (fun d => { d with nsoCrcErr := wrap 32 (d.nsoCrcErr + 1) }) s
  modRx c (fun r => { r with lastXsf := none }) s

/-! ### Slow ticks and epochs -/

/-- SD at a slow-tick boundary (R318). -/
def sdEvaluation (c : Carrier) (s : Device) : Device :=
  let s := settle .slow (fun k => keyOp k = 0x0400 && keyTgt k = carCode c) s
  let s := modSide c false (fun d => { d with marks := (d.marksNow :: d.marks).take 1000, marksNow := 0 }) s
  let w := lineSet s c 6
  let marks := ((s.line.get c).line.marks.take w).sum
  let b := (s.fec.get c).sdBits.take w
  let bits := (b.map (·.1)).sum
  let coded := (b.map (·.2)).sum
  let sd := lineSet s c 8 ≤ marks || (0 < coded && f32Num (lineSet s c 12) * coded < bits * 2 ^ 149)
  modSide c false (fun d => { d with raw := (d.raw &&& ~~~0x20000#20) ||| (if sd then 0x20000#20 else 0) }) s

/-- Line framing at a slow-tick boundary: SD, and the slips of the overhead port (R318, R336). -/
def lineSlowTick (c : Carrier) (s : Device) : Device :=
  let s := sdEvaluation c s
  let t := (s.line.get c).ohp.tick
  let s := modLine c (fun l => { l with ohp := { l.ohp with tick := (0, 0, 0, 0) } }) s
  let s := if t = (0, 0, 0, 0) then s
    else raise 0x0404 c.num 0 (le 2 t.1 ++ le 2 t.2.1 ++ le 2 t.2.2.1 ++ le 2 t.2.2.2) s
  evalLine c s

/-- The judgement of an epoch for one layer (R317). An epoch without blocks, or with a reported defect of ranks 1 to 8,
is neither bad nor good. -/
def degEpoch (thr m : Nat) (spoiled : Bool) (g : DegSt) : DegSt :=
  let g' := { g with errored := 0, blocks := 0 }
  if spoiled || g.blocks = 0 then g'
  else if thr * g.blocks ≤ 100 * g.errored then
    let n := min m (g.bad + 1)
    { g' with bad := n, good := 0, deg := g.deg || m ≤ n }
  else
    let n := min m (g.good + 1)
    { g' with bad := 0, good := n, deg := g.deg && n < m }

/-- Line framing at an epoch boundary (R317). -/
def lineEpoch (c : Carrier) (s : Device) : Device :=
  let s := settle .epoch (fun k => keyOp k = 0x0400 && keyTgt k = carCode c) s
  let f (d : SideSt) : SideSt :=
    { d with smDeg := degEpoch (lineSet s c 4) (lineSet s c 5) d.spoiled d.smDeg,
             pmDeg := degEpoch (lineSet s c 4) (lineSet s c 5) d.spoiled d.pmDeg,
             spoiled := highDefect d.reported }
  evalLine c (modSide c true f (modSide c false f s))

/-! ### Overhead port (R331 to R338) -/

/-- Valid slots of an OHP frame of cycle index `j` (R333). -/
def ohpSlots (j : Nat) : Nat := (j + 1) * 12150 / 113 - j * 12150 / 113

/-- Take one frame for a slot of the extraction buffer; an empty buffer repeats the last (R335). Frames of the initial
fill are `pad`. -/
def popExt (pad : OhFrame) (o : OhpSt) : OhFrame × OhpSt :=
  if 0 < o.extPad then (pad, { o with extPad := o.extPad - 1, lastExt := pad })
  else match o.extBuf with
    | f :: rest => (f, { o with extBuf := rest, lastExt := f })
    | [] => (o.lastExt, { o with
        repeatExt := wrap 32 (o.repeatExt + 1), tick := (o.tick.1 + 1, o.tick.2) })

/-- The slots of one OHP frame. -/
def popSlots (pad : OhFrame) (n : Nat) (o : OhpSt) : List OhFrame × OhpSt :=
  match n with
  | 0 => ([], o)
  | n + 1 =>
    let p := popExt pad o
    let q := popSlots pad n p.2
    (p.1 :: q.1, q.2)

/-- A valid slot arrives from the port; a full buffer drops it (R335). -/
def pushIns (f : OhFrame) (o : OhpSt) : OhpSt :=
  let o := { o with lastIns := f }
  if 256 ≤ o.insPad + o.insBuf.length then
    { o with dropIns := wrap 32 (o.dropIns + 1), tick := (o.tick.1, o.tick.2.1, o.tick.2.2.1, o.tick.2.2.2 + 1) }
  else { o with insBuf := o.insBuf ++ [f] }

/-- A transmitted line frame takes its overhead; an empty buffer repeats the last frame received (R335). -/
def popIns (pad : OhFrame) (o : OhpSt) : OhFrame × OhpSt :=
  if 0 < o.insPad then (pad, { o with insPad := o.insPad - 1 })
  else match o.insBuf with
    | f :: rest => (f, { o with insBuf := rest })
    | [] => (o.lastIns, { o with
        repeatIns := wrap 32 (o.repeatIns + 1), tick := (o.tick.1, o.tick.2.1, o.tick.2.2.1 + 1, o.tick.2.2.2) })

/-- The bytes a port inserts: those of `mask`, without the NSO bytes of slice #1 in native modes (R337, R342). -/
def maskOh (mask : Nat) (nat : Bool) (f : OhFrame) : List Byte :=
  (List.range 1024).map fun k =>
    if tb mask (k % 64) && !(nat && (k = 10 || k = 11)) then f.oh.getD k 0 else 0

/-- The inserted overhead of `n` transmitted frames, in order. -/
def insertFrames (c : Carrier) (pad : OhFrame) (n : Nat) (s : Device) : Device :=
  match n with
  | 0 => s
  | n + 1 =>
    let p := popIns pad (s.line.get c).ohp
    let s := emit (.overhead c (maskOh (accepted s (skey 0x0404 (carCode c) 0 4)).toNat (native s c) p.1))
      (modLine c (fun l => { l with ohp := p.2 }) s)
    insertFrames c pad n s

/-- Overhead in a frame of the initial fill, which no line frame and no slot has given: free bytes. -/
def padFrame (s : Device) : OhFrame × Device :=
  let p := drawBytes 1024 s
  ({ oh := p.1 }, p.2)

/-- One port at an OHP frame boundary: settings that take force there, the frame sent, the frame received (R332 to
R337, R342). -/
def ohpPort (c : Carrier) (i : OhpIn) (s : Device) : Device :=
  let e := (accepted s (skey 0x0404 (carCode c) 0 0)).toNat
  let o := (s.line.get c).ohp
  let ext := tb e 0
  let ins := tb e 1
  let idle := !o.ext && !o.ins
  let o' : OhpSt :=
    { o with ext := ext, ins := ins, cycle := if idle then 0 else o.cycle,
             extBuf := if ext && o.ext then o.extBuf else [], extPad := if !ext then 0 else if o.ext then o.extPad else 128,
             insBuf := if ins && o.ins then o.insBuf else [], insPad := if !ins then 0 else if o.ins then o.insPad else 128 }
  let s := modLine c (fun l => { l with ohp := o' }) s
  if !ext && !ins then s
  else
    let p := padFrame s
    let s := p.2
    let s := if !ext then s
      else
        let q := popSlots p.1 (ohpSlots o'.cycle) (s.line.get c).ohp
        emit (.ohp c q.1) (modLine c (fun l => { l with ohp := q.2 }) s)
    let s := if !ins then s
      else
        let s := modLine c (fun l => { l with ohp := i.slots.foldl (fun o f => pushIns f o) l.ohp }) s
        insertFrames c p.1 i.sent s
    modLine c (fun l => { l with ohp := { l.ohp with cycle := (l.ohp.cycle + 1) % 113 } }) s

/-- OHP_FRAME: an edge of `OHP_FS` (R332). -/
def ohpFrame (a b : OhpIn) (s : Device) : Device := if s.ohpFs then ohpPort .b b (ohpPort .a a s) else s

/-- The ports stop (R338). -/
def ohpStop (c : Carrier) (s : Device) : Device :=
  modLine c (fun l => { l with ohp := { l.ohp with
    ext := false, ins := false, extBuf := [], extPad := 0, insBuf := [], insPad := 0, cycle := 0 } }) s

/-- OHP_FS_LOSS (R338). -/
def ohpFsLoss (s : Device) : Device :=
  if !s.ohpFs then s else faultOn 0x0361 0 [] (ohpStop .b (ohpStop .a (putOhpFs false s)))

/-- OHP_FS_RETURN: the ports restart at the next OHP frame (R338). -/
def ohpFsReturn (s : Device) : Device := if s.ohpFs then s else faultOff 0x0361 0 (putOhpFs true s)

/-- ZR_FRAME_ALIGNMENT: LOF-L clears or becomes raw, and the receiver moves (R309, R895). -/
def zrFrameAlignment (c : Carrier) (locked : Bool) (map : Nat) (s : Device) : Device :=
  if !zr s c then s
  else evalLine c (zrAlignRx c locked map (modRx c (fun r => { r with zrLocked := locked }) s))

/-! ### Transmitted TTI (R326) -/

/-- A new transmitted TTI takes force at a frame whose MFAS bits [5:0] are 0: frame 0 of a superframe. -/
def ttiTake (t : TtiSt) : TtiSt := match t.txNext with | some v => { t with tx := v, txNext := none } | none => t

/-- Line framing at a transmit superframe boundary. -/
def lineTxSuperframe (c : Carrier) (s : Device) : Device :=
  modSide c false (fun d => { d with smTti := ttiTake d.smTti, pmTti := ttiTake d.pmTti }) s

/-! ### Commands -/

/-- LINE_CONFIG (R339). -/
def lineConfigCmd : Cmd where
  blocks := fun _ r => [r.car.num]
  act := does fun r s => acceptFields 0x0400 r.tgt r.params s

/-- Bitmap of a property of a side's slices. -/
def sliceMap (s : Device) (c : Carrier) (host : Bool) (f : SliceFrame → Bool) : Nat :=
  bitmap ((List.range (slicesOf s c host)).map fun k => f (sliceOf (sideOf s c host) k))

/-- LINE_DEFECTS (R341, Table 7-10). -/
def lineDefectsCmd : Cmd where
  blocks := fun _ r => [r.car.num]
  act := reads fun s r =>
    let h := rd r.params 0 1 = 1
    let d := sideOf s r.car h
    fields 68 [(0, le 4 d.reported.toNat), (4, le 4 d.raw.toNat), (8, le 2 (sliceMap s r.car h (·.lof))),
      (10, le 2 (sliceMap s r.car h (·.lom))), (12, le 2 (sliceMap s r.car h (·.oof))),
      (14, le 2 (sliceMap s r.car h (·.oom))), (16, timeBytes10 d.since), (26, le 2 d.fasContest),
      (28, le 4 d.nsoCrcErr), (32, le 2 d.xsfSteps), (36, le 8 d.smBipErr), (44, le 8 d.pmBipErr), (52, le 8 d.smBei),
      (60, le 8 d.pmBei)]

/-- Change the TTI of a layer of the line: 0 SM, 1 PM. -/
def modTti (layer : Nat) (f : TtiSt → TtiSt) (d : SideSt) : SideSt :=
  if layer = 0 then { d with smTti := f d.smTti } else { d with pmTti := f d.pmTti }

/-- Write a TTI: the transmitted one waits for its frame, the expected one is used at the next frame (R325, R326). -/
def writeTti (which : Nat) (v : List Byte) (t : TtiSt) : TtiSt :=
  if which = 0 then { t with txNext := some v } else { t with expected := v }

/-- The TTI that a read-back shows. -/
def backTti (which : Nat) (t : TtiSt) : List Byte := if which = 0 then t.tx else t.expected

/-- LINE_TTI (R340). -/
def lineTtiCmd : Cmd where
  blocks := fun _ r => [r.car.num]
  back := fun s r =>
    let d := (s.line.get r.car).line
    [(4, backTti (rd r.params 1 1) (if rd r.params 0 1 = 0 then d.smTti else d.pmTti))]
  act := does fun r s =>
    modSide r.car false (modTti (rd r.params 0 1) (writeTti (rd r.params 1 1) (slice r.params 4 64))) s

/-- LINE_TTI_READ (R340). -/
def lineTtiReadCmd : Cmd where
  blocks := fun _ r => [r.car.num]
  act := reads fun s r =>
    let d := (s.line.get r.car).line
    d.smTti.accepted ++ le 1 (bit d.smTti.isAccepted) ++ d.pmTti.accepted ++ le 1 (bit d.pmTti.isAccepted)

/-- OHP_CONFIG: bits of FAS, MFAS and BIP-8 are refused (R337, R342). -/
def ohpConfigCmd : Cmd where
  blocks := fun _ r => [16 + r.car.num]
  field := fun _ r off => off ≠ 4 || rd r.params 4 8 &&& 0x4000000017F = 0
  act := does fun r s => acceptFields 0x0404 r.tgt r.params s

/-- OHP_STATUS (R343). -/
def ohpStatusCmd : Cmd where
  blocks := fun _ r => [16 + r.car.num]
  act := reads fun s r =>
    let o := (s.line.get r.car).ohp
    fields 24 [(0, le 1 (bit s.ohpFs)), (1, le 1 o.cycle), (2, le 2 (o.extPad + o.extBuf.length)),
      (4, le 2 (o.insPad + o.insBuf.length)), (8, le 4 o.repeatExt), (12, le 4 o.dropExt), (16, le 4 o.repeatIns),
      (20, le 4 o.dropIns)]

/-- LINE_CLEAR (R341, R343). -/
def lineClearCmd : Cmd where
  blocks := fun _ r => [r.car.num]
  act := does fun r s => modLine r.car (fun l => { l with
    line := { l.line with clearWaits := true }, host := { l.host with clearWaits := true } }) s

end Sys2Proof.Machine
end

