-- ==== Sys2Proof/Machine/Blotter.lean ====
section
/-!
DEFINITION. Blotter (14_buffer_memory_and_latency_equaliser R616 to R624; 09_line_encryption R425): the capture slots,
their triggers, headers and readout, and the BLOTTER commands.
-/
namespace Sys2Proof.Machine
open Sys2Proof

/-! ### Sources (Table 14-7) -/

/-- Line rate of a host lane, bit/s × 10⁻⁴, by the value of its rate (16_host_lanes Table 16-1). -/
def laneRate (v : Nat) : Nat :=
  match v with
  | 0 => 2578125
  | 1 => 2656250
  | 2 => 5312500
  | 3 => 10625000
  | 4 => 11250000
  | _ => 11181000

/-- The rate code of a lane, Accord-fixed (R640). -/
def laneRateCode (s : Device) (l : Nat) : Nat := (planFixed (plan s) (skey 0x0C00 0 l 2)).toNat

/-- Rate of an OTUCn in bytes per second: n × 239 / 226 × 99.5328 Gbit/s (07_line_framing_and_defects R287). -/
def otuRate (n : Nat) : Nat := n * 239 * 99532800000 / (226 * 8)

/-- Write rate of a source in bytes per second (Table 14-7). -/
def capRate (s : Device) (source target decim mask : Nat) : Nat :=
  let m : ModePlan := (modeOf s (Carrier.ofNum target)).getD {}
  match source with
  | 0 => 5 * m.rs
  | 1 => 5 * m.rs / decim
  | 2 => 8 * m.rs / decim
  | 3 => m.llrRate / decim
  | 4 => otuRate m.n
  | 5 => otuRate m.n
  | 6 => 32000000
  | 7 =>
    (((List.range 64).filter fun ch => tb mask ch && (sense s ch).running).map fun ch =>
      128 * dsetN s 0x0A00 ch 12 / (48 * max 1 (dsetN s 0x0A00 ch 14))).sum
  | _ => laneRate (laneRateCode s (4 * target)) * 10000 / 2

/-- A lane group serves tributaries of a carrier: a client on its lanes is mapped into it or into its group. -/
def groupServes (s : Device) (k : Nat) (c : Carrier) : Bool :=
  (plan s).clients.any fun x =>
    (x.lane / 4 ≤ k && k ≤ (x.lane + x.lanes - 1) / 4) &&
      (x.line = c.num || (match groupOf s c with | some g => x.line = 2 + g.1.group | none => false))

/-- The source is forbidden: data after decryption of a carrier with `crypt_enable` 1 (09_line_encryption R425). -/
def capForbidden (s : Device) (source target : Nat) : Bool :=
  let on (c : Carrier) : Bool := accepted s (skey 0x0600 (carCode c) 0 0) = 1
  (source = 5 && on (Carrier.ofNum target)) || (source = 8 && carriers.any fun c => on c && groupServes s target c)

/-- The source of a capture is lost: its domain is in reset, its carrier or lane group is off, or it has become
forbidden (R621). -/
def sourceLost (s : Device) (c : CapSlot) : Bool :=
  capForbidden s c.source c.target ||
    (if c.source ≤ 6 then
       let car := Carrier.ofNum c.target
       inReset s (carDomain car) || (s.rx.get car).state = .off
     else if c.source = 8 then
       inReset s (lgDomain c.target) || (List.range 4).all fun j => (lane s (4 * c.target + j)).state = .off
     else false)

/-! ### Buffers and bandwidth (R590, R616) -/

/-- Bytes of the buffers of captures not in `IDLE`. -/
def capBuffers (s : Device) : Nat :=
  ([0, 1, 2, 3].map fun i =>
    let c := cap s i
    if c.state = .idle then 0 else c.preBytes + c.postBytes).sum

/-- `cap_bw` in bytes per second (Table 14-3). -/
def capBw (s : Device) : Nat := (plan s).bw.getD 4 0 * 1000000

/-- The part of `cap_bw` that no capture uses. -/
def capBwFree (s : Device) : Nat :=
  capBw s - ([0, 1, 2, 3].map fun i =>
    let c := cap s i
    if c.state = .armed || c.state = .triggered then c.rate else 0).sum

/-- Pages retired in every tower (R597). -/
def pagesRetired (s : Device) : Nat := ([0, 1, 2, 3].map fun t => (Tab.get (fun _ => {}) s.mem.towers t : TowerSt).pages).sum

/-- 4 KiB pages of the capacity (R583), of which pools hold `poolPages`. -/
def capacityPages : Nat := 130816 * 256

/-- Pages that the pools hold. -/
def poolPages (s : Device) : Nat := ([0, 1, 2, 3, 4].map fun k => poolSize s k * 256).sum

/-- Pages taken from the `BLOTTER` pool by retirement: those that unallocated capacity could not give (R597). -/
def blotterTaken (s : Device) : Nat := poolPages s + pagesRetired s - capacityPages

/-- Free bytes of the `BLOTTER` pool. -/
def blotterFree (s : Device) : Nat := (poolSize s 2 * 256 - blotterTaken s) * 4096 - capBuffers s

/-! ### Triggers and captures (R617 to R622) -/

/-- Bytes that a slot has written by now (Table 22-13). -/
def capWritten (s : Device) (c : CapSlot) : Nat :=
  match c.state with
  | .idle => 0
  | .armed => min c.preBytes (c.rate * (s.timing.now - c.armedAt) / SEC)
  | .triggered =>
    let point := (c.trig.map (·.2.2)).getD s.timing.now
    c.trigOffset + min c.postBytes (c.rate * (s.timing.now - point) / SEC)
  | _ => c.length

/-- A slot's trigger point is reached (R618 to R620). -/
def blotterTriggerPoint (i : Fin 4) (s : Device) : Device :=
  let c := cap s i.val
  match c.trig with
  | some (k, t, point) =>
    if c.state = .armed && point ≤ s.timing.now then
      let n := capWritten s c
      modCap i.val (fun c =>
        { c with state := .triggered, trig := some (k, t, s.timing.now), trigKind := k, trigAt := t, trigOffset := n,
                 flags := c.flags ||| (if n < c.preBytes then 1#5 else 0#5) |||
                   (if s.clock.aligned then 0#5 else 16#5) }) s
    else s
  | none => s

/-- A capture ends: `post_bytes` are written, or its source is lost (R617, R621). What it wrote is the operand. -/
def captureComplete (i : Fin 4) (x : CaptureIn) (s : Device) : Device :=
  let c := cap s i.val
  let n := x.data.length
  let finish (c : CapSlot) : CapSlot :=
    { c with state := .done, length := n, data := x.data, t0 := x.t0, trig := none }
  match c.state with
  | .triggered =>
    if n = c.trigOffset + c.postBytes then modCap i.val finish s
    else if sourceLost s c && n ≤ c.trigOffset + c.postBytes then
      modCap i.val (fun c => finish { c with flags := c.flags ||| 4#5, trigOffset := min c.trigOffset n }) s
    else s
  | .armed =>
    if sourceLost s c && n ≤ c.preBytes then
      let k := drawNat s
      let o := drawNat k.2
      let t := drawNat o.2
      modCap i.val (fun c => finish
        { c with flags := c.flags ||| 4#5, trigKind := k.1 % 5, trigOffset := o.1 % 2 ^ 64, trigAt := t.1 }) t.2
    else s
  | _ => s

/-- The header of a capture (Table 14-9). -/
def capHeader (i : Nat) (c : CapSlot) : List Byte :=
  fields 64 [(0, le 1 i), (1, le 1 c.source), (2, le 1 c.target), (3, le 1 c.trigKind), (4, le 1 c.flags.toNat),
    (8, le 8 c.length), (16, le 8 c.trigOffset), (24, timeBytes c.trigAt), (36, timeBytes c.t0), (48, le 4 c.decim)]

/-- A capture: header and data (R622). -/
def capBytes (i : Nat) (c : CapSlot) : List Byte := capHeader i c ++ c.data

/-- An edge of `TRIG_IN` (R618): rising or falling, at an instant. -/
def trigInEdge (falling : Bool) (t : Time) (s : Device) : Device :=
  localTrig 3 t (fun _ c => c.trigEdge = bit falling) s

/-- One entry of a capture readout is written to its ring; a full ring pauses it (R623, R826). The bytes of the last
entry after the capture's end are free. -/
def captureReadoutEntry (i : Fin 4) (s : Device) : Device :=
  let c := cap s i.val
  match c.readout with
  | none => s
  | some (k, at_, end_) =>
    let q := ring s k
    if !q.enable || q.kind ≠ 2 || ringFull q then s
    else
      let n := min 4096 (end_ - at_)
      let r := drawBytes (4096 - n) s
      let s := ringWrite k (slice (capBytes i.val c) at_ n ++ r.1) r.2
      modCap i.val (fun c => { c with readout := if at_ + 4096 < end_ then some (k, at_ + 4096, end_) else none }) s

/-- A spill ends: the archive holds the capture and the slot is `DONE` again (R617, R623). The entry's ID is free. -/
def spillComplete (i : Fin 4) (s : Device) : Device :=
  let c := cap s i.val
  if c.state ≠ .spilling then s
  else
    let id := drawNat s
    let s := modCap i.val (fun c => { c with state := .done }) id.2
    if !s.boot.nand.present then s
    else
      let e : NandEntry := { id := id.1 % 2 ^ 64, data := capBytes i.val c, total := (capBytes i.val c).length }
      modBoot (fun b => { b with nand := { b.nand with
        entries := Tab.modify (fun _ => []) b.nand.entries 3 fun l => l ++ [e]
        written := wrap 64 (b.nand.written + e.total) } }) s

/-! ### Commands -/

/-- Blotter's block of `CLK_EN` (Table 18-5). -/
def blotterBlock : Device → Req → List Nat := fun _ _ => [15]

/-- Fields of BLOTTER_ARM (Table 14-10). -/
def armField (_ : Device) (r : Req) (off : Nat) : Bool :=
  let p := r.params
  let src := rd p 1 1
  let tgt := rd p 2 1
  match off with
  | 2 => if src = 7 then tgt = 0 else if src = 8 then tgt < 8 else tgt < 2
  | 4 => (1 ≤ src && src ≤ 3) || rd p 4 4 = 1
  | 8 => rd p 8 8 % 4096 = 0
  | 16 => rd p 16 8 % 4096 = 0 && 4096 ≤ rd p 16 8
  | _ => true

/-- The write rate a request asks for. -/
def armRate (s : Device) (p : List Byte) : Nat := capRate s (rd p 1 1) (rd p 2 1) (rd p 4 4) (rd p 28 8)

/-- BLOTTER_ARM (R616, R624); during a pool reconfiguration it is held (R586). -/
def blotterArmCmd : Cmd where
  blocks := blotterBlock
  field := armField
  state := fun s r =>
    let p := r.params
    let i := rd p 0 1
    if s.mem.reconfig.isSome then (if (cap s i).held.isSome then some (.busy, 0) else none)
    else if blotterFree s < rd p 8 8 + rd p 16 8 || capBwFree s < armRate s p then some (.noResource, 0)
    else if capForbidden s (rd p 1 1) (rd p 2 1) then some (.denied, 0)
    else if (cap s i).state ≠ .idle then some (.notPermitted, 0)
    else none
  act := fun r s =>
    let p := r.params
    let i := rd p 0 1
    if s.mem.reconfig.isSome then (⟨.pending, []⟩, modCap i (fun c => { c with held := some ⟨0x0B0A, r⟩ }) s)
    else
      let rate := armRate s p
      (Resp.okay, modCap i (fun c =>
        { state := .armed, source := rd p 1 1, target := rd p 2 1, trigMask := BitVec.ofNat 6 (rd p 3 1),
          decim := rd p 4 4, preBytes := rd p 8 8, postBytes := rd p 16 8, faultId := rd p 24 2, senseCh := rd p 26 1,
          trigEdge := rd p 27 1, senseMask := rd p 28 8, rate, armedAt := s.timing.now, trigIgnored := c.trigIgnored }) s)

/-- BLOTTER_TRIGGER (R618): a slot, or all armed slots. -/
def blotterTriggerCmd : Cmd where
  blocks := blotterBlock
  field := fun _ r off => if off = 0 then rd r.params 0 1 < 4 || rd r.params 0 1 = 0xFF else true
  act := does fun r s =>
    let k := rd r.params 0 1
    localTrig 0 s.timing.now (fun i c => k = i || (k = 0xFF && c.state = .armed)) s

/-- The number of a slot state (Table 14-8). -/
def CapState.num : CapState → Nat
  | .idle => 0
  | .armed => 1
  | .triggered => 2
  | .done => 3
  | .spilling => 4

/-- BLOTTER_STATUS (Table 22-13). -/
def blotterStatusCmd : Cmd where
  blocks := blotterBlock
  act := reads fun s _ =>
    ([0, 1, 2, 3].flatMap fun i =>
      let c := cap s i
      le 1 (CapState.num c.state) ++ le 1 c.source ++ le 1 c.target ++ le 1 c.flags.toNat ++ le 8 (capWritten s c) ++
        le 4 c.trigIgnored) ++
    le 4 (sat 32 (capBwFree s / 1000000)) ++ le 4 (blotterFree s / 2 ^ 20)

/-- BLOTTER_READ (R623): a readout into a capture ring, or a chunk. -/
def blotterReadCmd : Cmd where
  blocks := blotterBlock
  field := fun s r off =>
    let p := r.params
    if off = 2 then rd p 1 1 = 1 || ((ring s (rd p 2 1)).kind = 2 && (ring s (rd p 2 1)).enable && rd p 2 1 < 64)
    else if off = 16 then rd p 1 1 = 0 || rd p 16 4 ≤ 4032
    else true
  state := fun s r =>
    let c := cap s (rd r.params 0 1)
    if c.state ≠ .done then some (.notPermitted, 0)
    else if rd r.params 1 1 = 0 && c.readout.isSome then some (.busy, 0)
    else none
  act := fun r s =>
    let p := r.params
    let i := rd p 0 1
    let c := cap s i
    let o := rd p 8 8
    let n := rd p 16 4
    if rd p 1 1 = 1 then (⟨.ok, slice (capBytes i c) o n⟩, s)
    else
      let e := min (o + n) (64 + c.length)
      (Resp.okay, modCap i (fun c => { c with readout := if o < e then some (rd p 2 1, o, e) else none }) s)

/-- BLOTTER_SPILL (R617, R623): without an archive, or without room in its spill area, `NO_RESOURCE`
(20_startup_and_nonvolatile_store R793, R797). -/
def blotterSpillCmd : Cmd where
  blocks := blotterBlock
  state := fun s r =>
    let c := cap s (rd r.params 0 1)
    let n := s.boot.nand
    let used := ((Tab.get (fun _ => []) n.entries 3 : List NandEntry).map fun e => e.data.length).sum
    if c.state ≠ .done then some (.notPermitted, 0)
    else if !n.present || n.spillMiB * 2 ^ 20 < used + 64 + c.length then some (.noResource, 0)
    else none
  act := does fun r s => modCap (rd r.params 0 1) (fun c => { c with state := .spilling }) s

/-- BLOTTER_FREE (R617): a held arm is cancelled (01_talnis_3200_at_a_glance R43). -/
def blotterFreeCmd : Cmd where
  blocks := blotterBlock
  state := fun s r =>
    let c := cap s (rd r.params 0 1)
    if c.state = .triggered || c.state = .spilling then some (.busy, 0) else none
  act := does fun r s =>
    let i := rd r.params 0 1
    let s := match (cap s i).held with | some h => heldDone h .notPermitted s | none => s
    modCap i (fun c => { ({} : CapSlot) with trigIgnored := c.trigIgnored }) s

end Sys2Proof.Machine
end

