-- ==== Sys2Proof/Machine/Trib.lean ====
section
/-!
DEFINITION. Tributaries, line groups and protection (08_tributaries_groups_protection R345 to R390): tributary defects
and actions, group release and LOA, hitless merge, the switched schemes and the commands of class 0x05.
-/
namespace Sys2Proof.Machine
open Sys2Proof

/-! ### Tributaries (R345 to R357) -/

/-- The line whose tributaries the frames of a carrier carry: 0 carrier A, 1 carrier B, 2 + g group g (R351). -/
def lineCode (s : Device) (c : Carrier) : Nat := match groupOf s c with | some (g, _) => 2 + g.group | none => c.num

/-- The line of a request's target. -/
def lineOfReq (r : Req) : Nat := if r.kind = 1 then r.index.toNat else 2 + r.index.toNat

/-- The target code of a line's settings. -/
def lineTgt (line : Nat) : Nat := if line < 2 then 1 + line else 14 + line

/-- The carriers of a line that are on this device. -/
def lineCarriers (s : Device) (line : Nat) : List Carrier :=
  if line < 2 then [Carrier.ofNum line] else (membersHere s (line - 2)).map (·.carrier)

/-- The tributary map's entry (R351). -/
def tribPlan (s : Device) (line t : Nat) : Option ClientPlan := (plan s).clients.find? fun k => k.line = line && k.trib = t

/-- A tributary. -/
def trib (s : Device) (line t : Nat) : TribSt := Tab.get (fun _ => {}) s.tribs.tribs (128 * line + t)

/-- Change a tributary. -/
def modTrib (line t : Nat) (f : TribSt → TribSt) (s : Device) : Device :=
  putTribs { s.tribs with tribs := Tab.modify (fun _ => {}) s.tribs.tribs (128 * line + t) f } s

/-- Key of a setting of TRIB_CONFIG. -/
def tribKey (line t off : Nat) : Nat := skey 0x0500 (lineTgt line) t off

/-- A setting of TRIB_CONFIG in force. -/
def tribSet (s : Device) (line t off : Nat) : Nat := (inForce s (tribKey line t off)).toNat

/-- SF holds on a line: on a carrier of it; on both carriers of a merge pair (R355, R365, R378). -/
def lineHasSf (s : Device) (line : Nat) : Bool :=
  if merging s && line < 2 then lineSf s .a && lineSf s .b else (lineCarriers s line).any (lineSf s)

/-- A defect of ranks 1 to 8 of a line suppresses its tributary defects (07_line_framing_and_defects R313). -/
def lineHigh (s : Device) (line : Nat) : Bool :=
  let high (c : Carrier) : Bool := highDefect (s.line.get c).line.reported
  if merging s && line < 2 then high .a && high .b else (lineCarriers s line).any high

/-- `CLIENT_AIS` of a line. -/
def lineClientAis (s : Device) (line : Nat) : Bool := (lineCarriers s line).any fun c => (s.line.get c).act.clientAis

/-- The raw tributary defects (07_line_framing_and_defects R320, Table 7-5). -/
def tribRaw (s : Device) (line t : Nat) : List Bool :=
  let q := trib s line t
  let want := (tribPlan s line t).map (·.payload)
  [q.stat.accepted = 7, q.stat.accepted = 6, q.stat.accepted = 5, q.tti.tim,
   (match q.payload, want with | some p, some w => p ≠ w | _, _ => false), q.csfRun.1 ≥ 3 || (q.raw.getLsbD 5 && q.csfRun.2 < 3)]

/-- Reported tributary defects: each suppresses those below it (07_line_framing_and_defects R320). -/
def tribReport (high : Bool) (raw : List Bool) : List Bool :=
  (List.range 6).map fun k => !high && raw.getD k false && !((raw.take k).any id)

/-- A tributary defect of orders 1 to 5 is reported, TIM only while its action is enabled (R355). -/
def tribBad (mask : Nat) (rep : BitVec 6) : Bool :=
  (List.range 5).any fun k => rep.getLsbD k && !(k = 3 && tb mask 2)

/-- SF of a tributary (R355). -/
def tribSf (s : Device) (line t : Nat) : Bool :=
  lineHasSf s line || tribBad (tribSet s line t 4) (trib s line t).reported

/-- The client of a tributary is failed: its lanes lack lock, their group is in reset, or the PCS reports loss of block
lock or of alignment (R350; 16_host_lanes R651). -/
def clientFails (s : Device) (k : ClientPlan) : Bool :=
  (List.range k.lanes).any fun j =>
    let l := lane s (k.lane + j)
    l.state ≠ .locked || !l.amLock || l.deskewFailed || inReset s (lgDomain ((k.lane + j) / 4))

/-- The state of one tributary follows its conditions (07_line_framing_and_defects R320, R328; R350, R354). -/
def evalTrib (k : ClientPlan) (s : Device) : Device :=
  let line := k.line
  let t := k.trib
  let raw := tribRaw s line t
  let rep : BitVec 6 := BitVec.ofNat 6 (bitmap (tribReport (lineHigh s line) raw))
  let mask := tribSet s line t 4
  let bad := rep.getLsbD 0 || rep.getLsbD 1 || rep.getLsbD 2 || rep.getLsbD 4 || (rep.getLsbD 3 && !tb mask 2)
  modTrib line t (fun q => { q with
    raw := BitVec.ofNat 6 (bitmap raw), reported := rep, clientFailed := clientFails s k, tti := ttiTake q.tti,
    clientAis := lineClientAis s line || ((bad || rep.getLsbD 5) && !tb mask 0), pmBdi := bad && !tb mask 1,
    statTx := if accepted s (tribKey line t 2) = 1 then 5 else if accepted s (tribKey line t 1) = 0 then 6 else 1 }) s

/-- Every tributary of the map. -/
def evalTribs (s : Device) : Device := each (plan s).clients evalTrib s

/-- A frame of a tributary (07_line_framing_and_defects R291, R320 to R325; R355, R357). -/
def tribFrame (line : Nat) (mark : Bool) (x : TribFrame) (s : Device) : Device :=
  match tribPlan s line x.trib with
  | none => s
  | some _ =>
    let t := x.trib
    let s := settle .frame (fun k => k = tribKey line t 3) s
    let q := trib s line t
    let tt := ttiStep x.mfas x.tti q.tti
    let tim := timOf (tribSet s line t 3) tt.1.expected tt.1
    let run := match x.psi with
      | some (p, _) => if p = q.ptRun.1 then (p, min 3 (q.ptRun.2 + 1)) else (p, 1)
      | none => q.ptRun
    let csf := match x.psi with
      | some (_, b) => if b then (min 3 (q.csfRun.1 + 1), 0) else (0, min 3 (q.csfRun.2 + 1))
      | none => q.csfRun
    let q' : TribSt := { q with
      stat := statStep (x.pm.toNat % 8) q.stat, tti := { tt.1 with tim := tim },
      ptRun := run, payload := if x.psi.isSome && 3 ≤ run.2 then some run.1 else q.payload, csfRun := csf,
      deg := { q.deg with errored := q.deg.errored + bit (x.bipBad || mark), blocks := q.deg.blocks + 1 },
      bipErr := wrap 32 (q.bipErr + bit x.bipBad), idlesIns := wrap 32 (q.idlesIns + x.idles.1),
      idlesDel := wrap 32 (q.idlesDel + x.idles.2) }
    let s := modTrib line t (fun _ => q') s
    when tt.2 (raise 0x0402 line 0 [2, BitVec.ofNat 8 t]) s

/-- Tributaries at a control-tick boundary. -/
def tribControlTick (s : Device) : Device := evalTribs (settle .tick (fun k => keyOp k = 0x0500) s)

/-- Tributaries at an epoch boundary: PM DEG by the settings of the line (R355). -/
def tribEpoch (s : Device) : Device :=
  each (plan s).clients (fun k s =>
    let c := (lineCarriers s k.line).head?.getD .a
    let high := (lineCarriers s k.line).any fun c => (s.line.get c).line.spoiled
    let thr := lineSet s c 4
    let m := lineSet s c 5
    modTrib k.line k.trib (fun q => { q with deg := degEpoch thr m high q.deg }) s) s

/-! ### Line groups (R358 to R368) -/

/-- Extended group count of a transmit superframe that starts at an instant of stack time: the instants of all members
advance by one superframe per count (R361). The count of instant 0 is free (log 12). -/
def gxsfAt (origin : Nat) (m : ModePlan) (t : Time) : Nat :=
  if m.symbols = 0 then 0 else wrap 32 (Config.freeNat origin + (2 * t * m.rs + m.symbols * SEC) / (2 * m.symbols * SEC))

/-- The group alignment field of a transmit superframe (Table 8-3). -/
def groupField (s : Device) (c : Carrier) (at_ : Time) : List Byte :=
  let t := toStack s at_
  let stamp := be 6 (t / SEC) ++ be 4 (t % SEC / NS) ++ be 2 (t % NS)
  match groupOf s c, modeOf s c with
  | some (g, m), some mp =>
    fields 64 [(0, be 2 g.group), (2, [0]), (3, be 1 m.index), (4, be 1 g.members.length), (5, be 1 m.first),
      (6, be 1 m.n), (7, be 1 g.n), (8, be 4 (gxsfAt 0 mp t)), (12, be 4 g.sig), (16, stamp)]
  | _, some mp =>
    if merging s then
      let id := (plan s).merge
      fields 64 [(0, be 2 id.1), (2, [1]), (3, be 1 c.num), (4, [2]), (5, [1]), (6, be 1 mp.n), (7, be 1 mp.n),
        (8, be 4 (gxsfAt 0 mp t)), (12, be 4 id.2), (16, stamp)]
    else fields 64 [(0, be 2 0xFFFF), (16, stamp)]
  | _, none => fields 64 [(0, be 2 0xFFFF), (16, stamp)]

/-- The group count and signature of the last valid group alignment field. -/
def groupSigRx (s : Device) (c : Carrier) : Nat := fromBe (slice (s.line.get c).nso 108 4)

/-- The group alignment field of a valid NSO (R361): the count of the superframe just received. -/
def takeGroupField (c : Carrier) (nso : List Byte) (s : Device) : Device :=
  modLine c (fun l => { l with gxsf := if fromBe (slice nso 96 2) = 0xFFFF then none else some (fromBe (slice nso 104 4)) }) s

/-- Keep a group alignment record (R362, R363). -/
def storeRec (x : GrpRecItem) (s : Device) : Device :=
  if (membersHere s x.grp).isEmpty then s
  else modGrp x.grp (fun q =>
    let old : List GroupRec := Tab.get (fun _ => []) q.recs x.member
    let next := match old.head? with | some y => x.g = wrap 32 (y.g + 1) | none => true
    let rec' : GroupRec := { g := x.g, rxState := x.state, sf := x.sf, next := next, arrival := x.arr }
    { q with recs := Tab.set (fun _ => []) q.recs x.member ((rec' :: old).take 32) }) s

/-- GROUP_RECORD_RECEIVED: a record arrives on a stack port; it is forwarded once and kept (R362, R363;
17_stack_bus_and_stacking R683). -/
def groupRecordReceived (p : Fin 4) (x : GrpRecItem) (s : Device) : Device :=
  if 8 ≤ x.hops + 1 || [0, x.origin, x.grp, x.member, x.g] ∈ s.stack.seen then s else storeRec x (takeRec p.val x s)

/-- A received superframe boundary of a member forms its record, which is kept here and sent (R362). `t` is its
instant at the ADC plane, corrected under R214. -/
def formRecord (c : Carrier) (t : Time) (s : Device) : Device :=
  match groupOf s c, (s.line.get c).gxsf with
  | some (g, m), some k =>
    let n := wrap 32 (k + 1)
    let s := modLine c (fun l => { l with gxsf := some n }) s
    let x : GrpRecItem :=
      { grp := g.group, member := m.index, origin := s.stack.stackId, hops := 0, g := n,
        state := (s.rx.get c).state.code, sf := lineSf s c, arr := toStack s t }
    let s := storeRec x (modStack (fun q => { q with
      seen := ([0, x.origin, x.grp, x.member, x.g] :: q.seen).take 4096 }) s)
    each (upPorts s none) (fun p s => modPort p (fun q => { q with recs := q.recs ++ [x] }) s) s
  | none, some k => modLine c (fun l => { l with gxsf := some (wrap 32 (k + 1)) }) s
  | _, none => s

/-- The record of a member for a count. -/
def recOf (q : GroupSt) (m g : Nat) : Option GroupRec := ((Tab.get (fun _ => []) q.recs m : List GroupRec)).find? fun x => x.g = g

/-- The last skew of a group exceeds 2.5 ms (R365). -/
def skewBad (q : GroupSt) : Bool := 2500 * US < q.aMax - q.aMin

/-- A received signature differs from the local definition (R365). -/
def sigBad (s : Device) (g : GroupPlan) : Bool :=
  (membersHere s g.group).any fun m => (s.line.get m.carrier).nso ≠ [] && groupSigRx s m.carrier ≠ g.sig

/-- Whether a condition of LOA holds (R365). -/
def loaCond (s : Device) (g : GroupPlan) : Bool :=
  let q := grp s g.group
  let last (m : GroupMember) : Option GroupRec := (Tab.get (fun _ => []) q.recs m.index : List GroupRec).head?
  (membersHere s g.group).any (fun m =>
    let r := s.rx.get m.carrier
    !r.state.atLeast .superframeLock || !r.inStep) ||
  g.members.any (fun m => (match last m with | some x => x.rxState < 6 || !x.next | none => false) ||
    3 ≤ (Tab.get (fun _ => 0) q.missing m.index : Nat)) ||
  sigBad s g || skewBad q

/-- The faults of the skew and of the signature (R390). -/
def groupFaults (g : GroupPlan) (s : Device) : Device :=
  faultCond 0x0382 g.group (sigBad s g) [] (faultCond 0x0381 g.group (skewBad (grp s g.group)) [] s)

/-- Every carrier of a group here follows its LOA. -/
def evalGroupLines (g : Nat) (s : Device) : Device := each ((membersHere s g).map (·.carrier)) evalLine s

/-- GROUP_LOA_CHANGE (R365). -/
def groupLoaChange (k : Fin 16) (s : Device) : Device :=
  match (plan s).groups.find? fun g => g.group = k.val with
  | none => s
  | some g =>
    if (membersHere s g.group).isEmpty then s
    else
      let s := groupFaults g s
      let cond := loaCond s g
      let q := grp s g.group
      if cond && !q.loa then
        evalGroupLines g.group (sendGroupState g.group (modGrp g.group (fun q => { q with loa := true, clean := 0 }) s))
      else if !cond && q.loa && 8 ≤ q.clean then
        evalGroupLines g.group (sendGroupState g.group (modGrp g.group (fun q => { q with loa := false }) s))
      else s

/-- Release time of a count: from the records when all are here, else one period after the last (R363, R364). -/
def groupTimes (s : Device) (g : GroupPlan) (n : Nat) (q : GroupSt) : GroupSt :=
  let recs := g.members.filterMap fun m => recOf q m.index n
  if recs.length = g.members.length then
    let a := recs.map (·.arrival)
    let hi := a.foldl max 0
    let lo := a.foldl min hi
    { q with aMax := hi, aMin := lo, tRel := hi + dsetN' s g.group * US }
  else { q with tRel := q.tRel + g.period, recLate := wrap 32 (q.recLate + 1) }
where
  /-- `deskew_guard` in force -/
  dsetN' (s : Device) (k : Nat) : Nat := (inForce s (skey 0x0503 (16 + k) 0 0)).toNat

/-- GROUP_RELEASE: T_rel of count `n` is reached and each local member's superframe is released (R363 to R366). -/
def groupRelease (k : Fin 16) (n : BitVec 32) (s : Device) : Device :=
  match (plan s).groups.find? fun g => g.group = k.val with
  | none => s
  | some g =>
    let n := n.toNat
    let q := grp s g.group
    if (membersHere s g.group).isEmpty || !(match q.released with | some r => n = wrap 32 (r + 1) | none => true) then s
    else
      let s := settle .superframe (fun k => keyOp k = 0x0503 && keyTgt k = 16 + g.group) s
      let s := modGrp g.group (groupTimes s g n) s
      let s := modGrp g.group (fun q => { q with
        released := some n
        missing := g.members.foldl (fun t m => Tab.set (fun _ => 0) t m.index
          (if (recOf q m.index n).isSome then 0 else min 3 (Tab.get (fun _ => 0) q.missing m.index + 1))) q.missing }) s
      let cond := loaCond s g
      let s := groupFaults g (modGrp g.group (fun q => { q with clean := if cond then 0 else min 8 (q.clean + 1) }) s)
      each (membersHere s g.group) (fun m s => emit (.release g.group m.index n) s) s

/-! ### Hitless merge (R372 to R379) -/

/-- A scheme. -/
def scheme (s : Device) (k : Nat) : SchemeSt := Tab.get (fun _ => {}) s.tribs.schemes k

/-- Change a scheme. -/
def modScheme (k : Nat) (f : SchemeSt → SchemeSt) (s : Device) : Device :=
  putTribs { s.tribs with schemes := Tab.modify (fun _ => {}) s.tribs.schemes k f } s

/-- A setting of PROT_CONFIG in force. -/
def protSet (s : Device) (k off : Nat) : Nat := (inForce s (skey 0x0505 0 k off)).toNat

/-- The code of a copy's state (Table 8-7). -/
def CopyState.code : CopyState → Nat
  | .absent => 0
  | .unaligned => 1
  | .aligned => 2

/-- A copy of the merge changes state, with its event (R373). -/
def setCopy (c : Carrier) (st : CopyState) (s : Device) : Device :=
  let old := ((scheme s 0).copies.get c).state
  if old = st then s
  else
    raise 0x0501 0 0 (le 1 c.num ++ le 1 old.code ++ le 1 st.code)
      (modScheme 0 (fun q => { q with copies := q.copies.mod c fun k => { k with state := st } }) s)

/-- The carrier of a copy cannot supply it (R373). -/
def copyAbsent (s : Device) (c : Carrier) : Bool :=
  let r := s.rx.get c
  !r.state.atLeast .superframeLock || !r.inStep

/-- MERGE_COPY: a copy changes state (R373, R375, R376). `behind` is by how much its frames arrive after the other
copy's, `lead` by how much before the release times in force, 2⁻¹⁶ ns. -/
def mergeCopy (c : Carrier) (behind lead : Int) (s : Device) : Device :=
  if !merging s then s
  else
    let q := scheme s 0
    let st := (q.copies.get c).state
    if copyAbsent s c then setCopy c .absent s
    else match st with
      | .absent =>
        let ok := !q.releasing || (protSet s 0 10 * US : Int) ≤ 2 * lead
        setCopy c (if ok then .aligned else .unaligned) s
      | .aligned =>
        if (150 * MS : Int) < behind && (q.copies.get c.other).state ≠ .absent then
          fault 0x0383 0 [] (setCopy c .unaligned s)
        else s
      | .unaligned => s

/-- The copy that the merge prefers: A or B (R377). -/
def mergePref (s : Device) : Carrier :=
  let p := Carrier.ofNum (protSet s 0 8)
  if lineSd s p && !lineSd s p.other then p.other else p

/-- The release of a frame (R374, R379): the offset of each copy; after REALIGN both present copies are ALIGNED. -/
def mergeOffsets (i : MergeIn) (s : Device) : Device :=
  let q := scheme s 0
  let guard : Int := protSet s 0 10 * US
  let here (c : Carrier) : Bool := i.present.get c && (q.copies.get c).state ≠ .absent
  let s := if q.realign then each carriers (fun c s => if here c then setCopy c .aligned s else s) s else s
  let q' := scheme s 0
  let both := here .a && here .b && (q'.copies.get .a).state = .aligned && (q'.copies.get .b).state = .aligned
  let later : Int := max i.arrival.a i.arrival.b
  let upd (c : Carrier) (k : CopySt) : CopySt :=
    if !here c then k
    else { k with
      arrival := i.arrival.get c
      offset := if both then later + guard - (i.arrival.get c : Int)
        else if q.realign || !q.releasing then guard else k.offset }
  modScheme 0 (fun q => { q with
    copies := ⟨upd .a q.copies.a, upd .b q.copies.b⟩, realign := false,
    releasing := q.releasing || here .a || here .b
    diffDelay := if both then ((i.arrival.b : Int) - i.arrival.a) * 256 / US else q.diffDelay }) s

/-- The frame that the merge delivers (R377): the copy, and whether no copy was eligible; none when no frame is there. -/
def mergePick (s : Device) (i : MergeIn) : Option (Carrier × Bool) :=
  let p := mergePref s
  let order := [p, p.other]
  let ok (c : Carrier) : Bool := ((scheme s 0).copies.get c).state = .aligned && i.present.get c
  match order.find? fun c => ok c && !i.marked.get c with
  | some c => some (c, false)
  | none => (order.find? ok).map fun c => (c, true)

/-- MERGE_FRAME_RELEASE: a frame period is released and delivered; ODUCn AIS, OCI and LCK and the tributaries are
evaluated on it under carrier A (R374, R377, R378). -/
def mergeFrameRelease (i : MergeIn) (s : Device) : Device :=
  if !merging s then s
  else
    let moved := (scheme s 0).realign
    let s := mergeOffsets i s
    let pick := mergePick s i
    let s := match pick with
      | some (c, bad) => modScheme 0 (fun q => { q with
          selected := c = .b, bothBad := wrap 32 (q.bothBad + bit bad)
          selB := wrap 32 (q.selB + bit (c ≠ Carrier.ofNum (protSet s 0 8))) }) s
      | none => modScheme 0 (fun q => { q with noneCount := wrap 32 (q.noneCount + 1) }) s
    let ais := moved || pick.isNone
    let v := if ais then 7 else (ohAt (i.frame.slices.getD 0 {}).oh 3 12).toNat % 8
    let s := modSide .a false (fun d => { d with stat := statStep v d.stat }) s
    let s := if ais then s else each i.frame.tribs (tribFrame 0 i.frame.mark) s
    evalTribs (evalLine .b (evalLine .a s))

/-! ### Switched schemes (R380 to R386) -/

/-- `PROTECT` acts on a carrier (R371): of a source of that carrier, or of a decoder core that holds its slots
(Table 6-7). -/
def protReact (s : Device) (c : Carrier) : Bool :=
  holding s 5 fun id i => carrierOfSource id i = some c ||
    (id = 0x0341 && (plan s).cores.any fun p => p.1 = i && 0 < (if c = .a then p.2.1 else p.2.2))

/-- SF_W, SF_P, SD_W, SD_P of a scheme (R355, R371, R380). -/
def protConds (s : Device) (k : Nat) : List Bool :=
  if schemeType s k = 5 then
    let l : Nat × Nat := Tab.get (fun _ => (0, 1)) (plan s).protLines k
    let w := (planFixed (plan s) (skey 0x0505 0 k 12)).toNat
    let p := (planFixed (plan s) (skey 0x0505 0 k 14)).toNat
    [tribSf s l.1 w, tribSf s l.2 p, (trib s l.1 w).deg.deg, (trib s l.2 p).deg.deg]
  else
    let sf (c : Carrier) : Bool := (s.line.get c).act.protSf || protReact s c
    [sf .a, sf .b, (s.line.get .a).act.protSd, (s.line.get .b).act.protSd]

/-- The hold-off timers at a slow-tick boundary (R381). -/
def protHolds (conds : List Bool) (hold : Nat) (q : SchemeSt) : SchemeSt :=
  (List.range 4).foldl (fun (q : SchemeSt) j =>
    let h : Option Nat := Tab.get (fun _ => none) q.holds j
    if !conds.getD j false then
      { q with holds := Tab.set (fun _ => none) q.holds j none, due := q.due &&& ~~~(1#4 <<< j) }
    else if q.due.getLsbD j then q
    else
      let v := match h with | some n => some (n - 1) | none => some (100 * hold)
      { q with holds := Tab.set (fun _ => none) q.holds j v }) q

/-- The path that a request selects (Table 8-5); DNR keeps the last. -/
def requestSelects (code : Nat) (last : Bool) : Bool :=
  if code = 9 then last else code ∈ [2, 3, 5, 6, 8]

/-- The local requests of a scheme but WTR and DNR, in descending priority (Table 8-5). -/
def localRequests (sd : Bool) (q : SchemeSt) : List Nat :=
  (if q.lo then [0] else []) ++ (if q.due.getLsbD 1 then [1] else []) ++ (if q.fs then [2] else []) ++
    (if q.due.getLsbD 0 then [3] else []) ++ (if sd && q.due.getLsbD 3 then [4] else []) ++
    (if sd && q.due.getLsbD 2 then [5] else []) ++ (if q.ms = some true then [6] else []) ++
    (if q.ms = some false then [7] else [])

/-- The selection asked of a scheme: the one that waits, else the one in force. -/
def asked (q : SchemeSt) : Bool := q.next.getD q.selected

/-- The selector of a scheme makes the switch that waits, with its event (R380, R386); a scheme that an Accord switch
has made another type drops it. -/
def protSwitch (k : Nat) (s : Device) : Device :=
  let q := scheme s k
  match q.next with
  | none => s
  | some sel =>
    if schemeType s k < 2 then modScheme k (fun q => { q with next := none }) s
    else raise 0x0502 k 0 (le 1 q.request ++ le 1 (bit sel) ++ le 1 (q.farRequest.getD 0xFF))
      (modScheme k (fun q => { q with
        selected := sel, next := none, switches := wrap 32 (q.switches + 1), lastSwitch := s.timing.now }) s)

/-- The carrier whose OTUC frames time a switch of a scheme: that of the line it will receive (R380); none where that
line has no carrier here. -/
def receivingLine (s : Device) (k : Nat) : Option Carrier :=
  match (scheme s k).next with
  | none => none
  | some sel =>
    if schemeType s k = 5 then
      let l : Nat × Nat := Tab.get (fun _ => (0, 1)) (plan s).protLines k
      (lineCarriers s (if sel then l.2 else l.1)).head?
    else some (if sel then .b else .a)

/-- Requests are evaluated; a switch of the selector to the highest waits for its frame boundary (R380 to R382, R385,
R386). -/
def protEvaluate (k : Nat) (s : Device) : Device :=
  let ty := schemeType s k
  if ty < 2 then s
  else
    let q := scheme s k
    let sd := protSet s k 3 = 1
    let rev := protSet s k 2 = 1
    let l := localRequests sd q
    let w := q.due.getLsbD 0 || (sd && q.due.getLsbD 2)
    let starts := q.wasW && !w && asked q && l.isEmpty
    let wtr := if !l.isEmpty then none else if starts && rev then timer (protSet s k 6) else q.wtr
    let dnr := l.isEmpty && ((starts && !rev) || q.dnr)
    let own := l.head?.getD (if wtr.isSome then 8 else if dnr then 9 else 10)
    let far := if (ty = 3 || ty = 4) && !q.uni then q.farRequest.getD 10 else 10
    let req := min own far
    let sel := requestSelects req (asked q)
    let s := modScheme k (fun q => { q with
      wtr := wtr, dnr := dnr, wasW := w, request := req, next := if sel = q.selected then none else some sel,
      bridged := ty ≠ 4 || sel }) s
    if req ≠ q.request && sel = q.selected then
      raise 0x0502 k 0 (le 1 req ++ le 1 (bit sel) ++ le 1 (q.farRequest.getD 0xFF)) s
    else s

/-- Schemes 0 to 32. -/
def schemeList : List Nat := List.range 33

/-- The type byte of an APS message (R385). -/
def apsType (s : Device) (k : Nat) : Nat :=
  bit (schemeType s k = 4) + 2 * bit (schemeType s k = 3 || schemeType s k = 4) + 4 * bit (protSet s k 2 = 1)

/-- The APS message of a scheme (R385). -/
def apsBytes (s : Device) (k : Nat) : List Byte :=
  let q := scheme s k
  let own := (localRequests (protSet s k 3 = 1) q).head?.getD (if q.wtr.isSome then 8 else if q.dnr then 9 else 10)
  le 1 own ++ le 1 (bit (requestSelects own (asked q))) ++ le 1 (bit q.bridged) ++ le 1 (apsType s k)

/-- Queue the APS message of a bidirectional scheme in place of one that still waits (R385). -/
def queueAps (s : Device) : Device :=
  if schemeType s 0 = 3 || schemeType s 0 = 4 then
    let nso := native s .b
    let s := modOstc .b (fun q => if nso then { q with nsoq := q.nsoq.filter fun m => m.type ≠ 2 }
      else { q with txq := q.txq.filter fun m => m.type ≠ 2 }) s
    if txqFull s .b then s else queueOn .b nso { type := 2, payload := apsBytes s 0 } s
  else s

/-- Protection at a transmit superframe boundary of a carrier: the APS message goes over protection (R385). -/
def protTxSuperframe (c : Carrier) (s : Device) : Device := if c = .b then queueAps s else s

/-- An OTUC frame boundary of a carrier's line: the switches that wait for it are made (R380). -/
def protFrame (c : Carrier) (s : Device) : Device :=
  each schemeList (fun k s => when (receivingLine s k = some c) (protSwitch k) s) s

/-- OTUC_FRAME: a received frame period of a carrier's line, or of its host FlexO side
(07_line_framing_and_defects R298). The tributaries of a merge pair are evaluated on the merged output (R378), and a protection
switch that waits for the frame is made (R380). -/
def otucFrame (c : Carrier) (host : Bool) (i : FrameIn) (s : Device) : Device :=
  let s := lineFrame c host i (when (!host) (protFrame c) s)
  if host || merging s || !native s c then s
  else evalTribs (each i.tribs (tribFrame (lineCode s c) i.mark) s)

/-- One scheme at a slow-tick boundary (R380, R381, R385, R387). A switch for which no frame boundary has come since
the last one is made here (log 66). -/
def protSchemeTick (k : Nat) (s : Device) : Device :=
  let s := protSwitch k s
  let guard := protSet s k 10
  let s := settle .slow (fun x => keyOp x = 0x0505 && keySel x = k) s
  let s := if schemeType s k = 1 && protSet s k 10 ≠ guard then modScheme k (fun q => { q with realign := true }) s else s
  if schemeType s k < 2 then s
  else
    let s := modScheme k (protHolds (protConds s k) (protSet s k 4)) s
    let q := scheme s k
    let differ := match q.aps with | some b => (b.getD 3 0).toNat ≠ apsType s k | none => false
    let s := modScheme k (fun q => { q with apsDiffer := if differ then min 50 (q.apsDiffer + 1) else 0 }) s
    let s := if q.uni && !differ then faultOff 0x0384 k (modScheme k (fun q => { q with uni := false }) s) else s
    protEvaluate k s

/-- Protection at a slow-tick boundary. -/
def protSlowTick (s : Device) : Device :=
  let s := each schemeList protSchemeTick s
  if native s .b then s else queueAps s

/-- Protection at an epoch boundary: WTR counts (R382). -/
def protEpoch (s : Device) : Device :=
  putTribs { s.tribs with schemes := Tab.mapAll (fun _ => {}) s.tribs.schemes fun _ q => { q with wtr := tickDown q.wtr } } s

/-- PROT_HOLD_OFF_EXPIRY: conditions that have held for `hold_off` become requests (R381). -/
def protHoldOffExpiry (k : Fin 33) (s : Device) : Device :=
  let q := scheme s k.val
  let ripe (j : Nat) : Bool := expired (Tab.get (fun _ => none) q.holds j)
  if schemeType s k.val < 2 || !((List.range 4).any ripe) then s
  else
    let due : BitVec 4 := q.due ||| BitVec.ofNat 4 (bitmap ((List.range 4).map ripe))
    protEvaluate k.val (modScheme k.val (fun q => { q with
      due := due
      holds := (List.range 4).foldl (fun t j => if ripe j then Tab.set (fun _ => none) t j none else t) q.holds }) s)

/-- PROT_WTR_EXPIRY: `NR` selects working (R382). -/
def protWtrExpiry (k : Fin 33) (s : Device) : Device :=
  if expired (scheme s k.val).wtr then protEvaluate k.val (modScheme k.val (fun q => { q with wtr := none }) s) else s

/-- APS_RECEIVED: an accepted APS message (R385). -/
def apsReceived (k : Fin 33) (b : List Byte) (s : Device) : Device :=
  let ty := schemeType s k.val
  if (ty = 3 || ty = 4) && b.length = 4 then
    modScheme k.val (fun q => { q with aps := some b, farRequest := if (b.getD 0 0).toNat ≤ 10 then some (b.getD 0 0).toNat else q.farRequest }) s
  else s

/-- PROT_APS_MISMATCH: the types differ for 50 slow ticks (R385). -/
def protApsMismatch (k : Fin 33) (s : Device) : Device :=
  if 50 ≤ (scheme s k.val).apsDiffer && !(scheme s k.val).uni then
    protEvaluate k.val (faultOn 0x0384 k.val [] (modScheme k.val (fun q => { q with uni := true }) s))
  else s

/-! ### Commands -/

/-- TRIB_CONFIG (R356). -/
def tribConfigCmd : Cmd where
  act := does fun r s => acceptFields 0x0500 r.tgt r.params s

/-- TRIB_STATUS (R357). -/
def tribStatusCmd : Cmd where
  act := reads fun s r =>
    let t := rd r.params 0 1
    let line := lineOfReq r
    let q := trib s line t
    fields 80 [(0, le 1 t), (1, le 1 (q.raw.toNat + 64 * bit (tribSf s line t) + 128 * bit q.deg.deg)),
      (2, le 1 (q.reported.toNat + 64 * bit q.tti.isAccepted)), (3, le 1 (q.payload.getD 0)), (4, q.tti.accepted),
      (68, le 4 q.idlesIns), (72, le 4 q.idlesDel), (76, le 4 q.bipErr)]

/-- TRIB_TTI (R357). -/
def tribTtiCmd : Cmd where
  back := fun s r => [(4, backTti (rd r.params 1 1) (trib s (lineOfReq r) (rd r.params 0 1)).tti)]
  act := does fun r s =>
    modTrib (lineOfReq r) (rd r.params 0 1) (fun q =>
      { q with tti := writeTti (rd r.params 1 1) (slice r.params 4 64) q.tti }) s

/-- GROUP_CONFIG (R367). -/
def groupConfigCmd : Cmd where
  act := does fun r s => acceptFields 0x0503 r.tgt r.params s

/-- GROUP_STATUS (R368). -/
def groupStatusCmd : Cmd where
  act := reads fun s r =>
    let k := r.index.toNat
    match (plan s).groups.find? fun g => g.group = k with
    | none => zeros 96
    | some g =>
      let q := grp s k
      let one (i : Nat) : List Byte := match g.members.find? fun m => m.index = i with
        | some m => le 1 m.stack ++ le 1 m.carrier.num ++ le 1 m.n ++ le 1 m.first
        | none => [0xFF, 0xFF, 0xFF, 0xFF]
      let hold (i : Nat) : List Byte := match q.released.bind fun n => recOf q i n with
        | some x => le 4 ((q.tRel - x.arrival) * 1000 / NS)
        | none => zeros 4
      fields 96 [(0, le 1 k), (1, le 1 g.members.length), (2, le 1 g.n),
        (3, le 1 (bit q.loa + 2 * bit (groupLoa s g))), (4, le 4 g.sig), (8, le 8 (q.aMax - q.aMin)),
        (16, leInt 8 ((q.tRel : Int) - q.aMax)), (24, (List.range 8).flatMap one), (56, (List.range 8).flatMap hold),
        (88, le 4 q.recLate)]

/-- PROT_CONFIG (R387). -/
def protConfigCmd : Cmd where
  act := does fun r s => acceptFields 0x0505 r.tgt r.params s

/-- Conditions of PROT_COMMAND (R379, R383, R388). -/
def protCommandState (s : Device) (r : Req) : Option (Status × Nat) :=
  let k := rd r.params 0 1
  let code := rd r.params 1 1
  let ty := schemeType s k
  let q := scheme s k
  let pri := if code = 1 then 0 else if code = 2 then 2 else 6
  let inForce := if q.request = 7 then 6 else q.request
  let merged := q.copies.a.state = .unaligned || q.copies.b.state = .unaligned
  if ty = 0 || (1 ≤ code && code ≤ 4 && (ty = 1 || inForce < pri)) || (code = 5 && (ty ≠ 1 || !merged)) then
    some (.notPermitted, 0)
  else none

/-- PROT_COMMAND with one code: `f` is what the code does to the scheme. -/
def protCmd (code : Nat) (f : SchemeSt → SchemeSt) : Cmd where
  field := fun _ r off => off ≠ 1 || rd r.params 1 1 = code
  state := protCommandState
  act := does fun r s => modScheme (rd r.params 0 1) f s

/-- PROT_COMMAND code 0: lockout, forced and manual switches and the wait to restore end (R379, R388). -/
def protClearCmd : Cmd := protCmd 0 fun q => { q with lo := false, fs := false, ms := none, wtr := none }

/-- PROT_COMMAND code 1: lockout of protection (R379, R388). -/
def protLockoutCmd : Cmd := protCmd 1 fun q => { q with lo := true }

/-- PROT_COMMAND code 2: forced switch (R379, R388). -/
def protForcedCmd : Cmd := protCmd 2 fun q => { q with fs := true }

/-- PROT_COMMAND code 3: manual switch to protection (R379, R388). -/
def protManualPCmd : Cmd := protCmd 3 fun q => { q with ms := some true }

/-- PROT_COMMAND code 4: manual switch to working (R379, R388). -/
def protManualWCmd : Cmd := protCmd 4 fun q => { q with ms := some false }

/-- PROT_COMMAND code 5: the merge copies are aligned afresh (R383, R388). -/
def protRealignCmd : Cmd := protCmd 5 fun q => { q with realign := true }

/-- PROT_STATUS (R389, Table 8-7). -/
def protStatusCmd : Cmd where
  act := reads fun s r =>
    let k := rd r.params 0 1
    let q := scheme s k
    let holds := (List.range 4).map fun j => ((Tab.get (fun _ => none) q.holds j : Option Nat)).getD 0
    if schemeType s k = 0 then fields 40 [(0, [10]), (2, [0xFF])]
    else fields 40 [(0, le 1 q.request), (1, le 1 (bit q.selected)), (2, le 1 (q.farRequest.getD 0xFF)),
      (3, le 1 (q.copies.a.state.code + 4 * q.copies.b.state.code)), (4, le 2 (holds.foldl max 0)),
      (6, le 2 (min 720 (q.wtr.getD 0))), (8, le 4 q.switches), (12, timeBytes10 q.lastSwitch), (24, leInt 4 q.diffDelay),
      (28, le 4 q.selB), (32, le 4 q.bothBad), (36, le 4 q.noneCount)]

end Sys2Proof.Machine
end

