-- ==== Sys2Proof/Machine/Lanes.lean ====
section
/-!
DEFINITION. Host lanes and loopbacks (16_host_lanes R640 to R668): receive states, polarity, lane order and deskew, eye
scans, lane-group resets and the HOSTLANE commands, with CARRIER_LOOPBACK.
-/
namespace Sys2Proof.Machine
open Sys2Proof

/-- The lane numbers. -/
def laneList : List Nat := List.range 32

/-- The lanes of a lane group. -/
def groupLanes (k : Nat) : List Nat := [4 * k, 4 * k + 1, 4 * k + 2, 4 * k + 3]

/-- A setting of HL_CONFIG in force. -/
def hlSet (s : Device) (i off : Nat) : Nat := dsetN s 0x0C00 i off

/-- The client whose lanes include a lane. -/
def clientOn (s : Device) (i : Nat) : Option ClientPlan :=
  (plan s).clients.find? fun k => k.lane ≤ i && i < k.lane + k.lanes

/-- A lane is to receive: it is enabled, carries a client and its group is out of reset (R640, Table 16-3). -/
def laneWanted (s : Device) (i : Nat) : Bool :=
  hlSet s i 1 = 1 && (clientOn s i).isSome && !inReset s (lgDomain (i / 4)) && !inReset s .device && !inReset s .por

/-- The carriers that pass an OTUCn of the host lanes through evaluate their defects. -/
def evalPassThrough (s : Device) : Device := each carriers (fun c s => if passThrough s c then evalLine c s else s) s

/-! ### Deskew and lane order (R650, R651) -/

/-- The lanes of a client. -/
def lanesOf (k : ClientPlan) : List Nat := (List.range k.lanes).map (k.lane + ·)

/-- Every lane of a client has alignment-marker lock. -/
def allMarked (s : Device) (k : ClientPlan) : Bool :=
  (lanesOf k).all fun i => (lane s i).state = .locked && (lane s i).amLock

/-- The logical lanes found are not the client's own, each once. -/
def idsBad (s : Device) (k : ClientPlan) : Bool :=
  let ids := (lanesOf k).map fun i => (lane s i).laneId
  (List.range k.lanes).any fun j => some j ∉ ids

/-- Deskew of a client follows its conditions, with its fault (R651). -/
def evalDeskew (k : ClientPlan) (s : Device) : Device :=
  let bad := allMarked s k && ((lane s k.lane).skewBad || idsBad s k)
  let s := each (lanesOf k) (fun i s => modLane i (fun l => { l with deskewFailed := bad }) s) s
  faultCond 0x0C03 k.lane bad [] s

/-- `HL_LANE_ORDER` when the order found differs from the nominal one (R650, Table 22-12). -/
def reportOrder (k : ClientPlan) (s : Device) : Device :=
  let ids := (lanesOf k).map fun i => (lane s i).laneId
  if allMarked s k && ids ≠ (List.range k.lanes).map some then
    raise 0x0C02 k.lane 0 (le 1 k.lanes ++ (ids.take 11).flatMap fun x => le 1 (x.getD 0xFF)) s
  else s

/-! ### Receive states (Table 16-3) -/

/-- A lane changes state; leaving `HL_LOCKED` ends its inversion, its marker lock and a scan in progress (R649,
R654). -/
def setLane (i : Nat) (st : LaneState) (s : Device) : Device :=
  let l := lane s i
  if l.state = st then s
  else
    let left := l.state = .locked
    let s := match l.scan with
      | some h => if left then heldDone h .timeout (modLane i (fun l => { l with scan := none }) s) else s
      | none => s
    let s := if st = .locked || st = .off then faultOff 0x0C02 i s else s
    let s := modLane i (fun l =>
      { l with state := st, since := s.timing.now, adaptTicks := 0, restarts := if st = .adapting then l.restarts else 0,
               polFixed := l.polFixed && !left, amLock := l.amLock && !left,
               laneId := if left then none else l.laneId }) s
    let s := match clientOn s i with | some k => evalDeskew k s | none => s
    evalPassThrough s

/-- The receive balls of a lane are ignored: `NE_SERIAL` or `NE_PARALLEL` (Table 16-4). -/
def ballsIgnored (l : LaneSt) : Bool := l.loop = 1 || l.loop = 2

/-- A lane's input amplitude crosses its thresholds for 1 µs (Table 16-3). -/
def hlSignalDetect (i : Fin 32) (present : Bool) (s : Device) : Device :=
  let l := lane s i.val
  if ballsIgnored l then s
  else match l.state with
    | .off => s
    | .noSignal => if present then setLane i.val .adapting s else s
    | _ => if present then s else setLane i.val .noSignal s

/-- The CDR and the estimated BER over a slow tick decide lock (R642, R646): BER × 10⁻⁹. -/
def hlLockChange (i : Fin 32) (cdr : Bool) (ber : Nat) (s : Device) : Device :=
  let s := modLane i.val (fun l => { l with estBer := sat 32 ber }) s
  match (lane s i.val).state with
  | .adapting =>
    if cdr && ber < 240000 && !s.lanes.refLost.getLsbD (i.val / 4) then setLane i.val .locked s else s
  | .locked =>
    if !cdr || 1000000 < ber then
      setLane i.val .adapting (modLane i.val (fun l => { l with lockLoss := sat 32 (l.lockLoss + 1) }) s)
    else s
  | _ => s

/-- A lane has been in `HL_ADAPTING` for 50 ms: its adaptation restarts; the eighth restart in a row raises the fault
(R647). -/
def hlAdaptTimeout (i : Fin 32) (s : Device) : Device :=
  let l := lane s i.val
  if l.state ≠ .adapting || l.adaptTicks < 50001 then s
  else
    let s := modLane i.val (fun l =>
      { l with adaptTicks := 0, restarts := min 15 (l.restarts + 1), adaptRestart := sat 32 (l.adaptRestart + 1) }) s
    if 8 ≤ (lane s i.val).restarts then faultOn 0x0C02 i.val [] s else s

/-- No alignment lock within 10 ms: the inverted data is tested, and taken where markers lock in it (R649). -/
def hlPolarity (i : Fin 32) (locks : Bool) (s : Device) : Device :=
  let l := lane s i.val
  if l.state = .locked && !l.amLock && !l.polFixed && tb (hlSet s i.val 10) 2 && l.since + 10 * MS ≤ s.timing.now && locks
  then raise 0x0C01 i.val 0 (le 1 1) (modLane i.val (fun l => { l with polFixed := true }) s)
  else s

/-- A lane gains or loses alignment-marker or block lock, with the logical lane its markers name (R650, R651; R310,
R350). -/
def alignmentMarkerLock (i : Fin 32) (gained : Bool) (id : Nat) (s : Device) : Device :=
  let l := lane s i.val
  if l.amLock = gained || (gained && l.state ≠ .locked) then s
  else
    let s := modLane i.val (fun l => { l with amLock := gained, laneId := if gained then some (id % 32) else none }) s
    let s := match clientOn s i.val with
      | some k => evalDeskew k (reportOrder k s)
      | none => s
    evalTribs (evalPassThrough s)

/-- The skew of a client's lanes exceeds the tolerance, or no longer does (R651). -/
def hlDeskewFail (first : Fin 32) (exceeds : Bool) (s : Device) : Device :=
  match (plan s).clients.find? fun k => k.lane = first.val with
  | none => s
  | some k =>
    let s := modLane first.val (fun l => { l with skewBad := exceeds }) s
    evalTribs (evalPassThrough (evalDeskew k s))

/-- A lane group's reference shows no edge for 1 µs (R642). -/
def hlRefclkLoss (k : Fin 8) (s : Device) : Device :=
  let s := putLanes { s.lanes with refLost := s.lanes.refLost ||| (1#8 <<< k.val) } s
  let s := each (groupLanes k.val) (fun i s => if (lane s i).state = .locked then setLane i .adapting s else s) s
  faultOn 0x0C01 k.val [] s

/-- Edges return on a lane group's reference (R642). -/
def hlRefclkReturn (k : Fin 8) (s : Device) : Device :=
  let s := putLanes { s.lanes with refLost := s.lanes.refLost &&& ~~~(1#8 <<< k.val) } s
  faultOff 0x0C01 k.val s

/-- A lane group leaves the reset of HL_RESET (R660, R662). -/
def hlResetRelease (k : Fin 8) (s : Device) : Device := domainResetRelease (.lg k) {} s

/-- An eye scan completes (R653, R654): 520 bytes per eye covered. -/
def eyeScanComplete (i : Fin 32) (maps : List Byte) (s : Device) : Device :=
  match (lane s i.val).scan with
  | none => s
  | some h =>
    let eyes := rd h.req.params 1 1
    let n := bit (tb eyes 0) + bit (tb eyes 1) + bit (tb eyes 2)
    let e : EyeScan := { eyes, maps := fit (520 * n) maps }
    heldDone h .ok (modLane i.val (fun l => { l with scan := none, eye := some e }) s)

/-! ### Ticks -/

/-- A lane at a control-tick boundary: it starts or stops, and a change of loopback moves it to `HL_ADAPTING` (R640,
R646, R655, R656). -/
def laneTick (i : Nat) (s : Device) : Device :=
  let l := lane s i
  let want := laneWanted s i
  let s := if want && l.state = .off then setLane i .noSignal s
    else if !want && l.state ≠ .off then setLane i .off s else s
  let loop := hlSet s i 11
  let s := if loop = l.loop then s
    else
      let s := modLane i (fun l => { l with loop }) s
      if (lane s i).state = .off then s else setLane i .adapting s
  let s := if (lane s i).state = .adapting then modLane i (fun l => { l with adaptTicks := min 65535 (l.adaptTicks + 1) }) s
    else s
  if (lane s i).clearWaits then
    modLane i (fun l => { l with clearWaits := false, lockLoss := 0, adaptRestart := 0 }) s
  else s

/-- A line loopback enters or leaves `DSP_NE`: the receiver searches again with the host hint (R657). -/
def lineLoopTick (c : Carrier) (s : Device) : Device :=
  let old := (s.rx.get c).loop
  let new := csetN s c 0x0250 0
  if old = new then s
  else
    let s := modRx c (fun r => { r with loop := new }) s
    if (old = 1 || new = 1) && (s.rx.get c).state ≠ .off then fallToSearch c .host 8 s else s

/-- Host lanes and loopbacks at a control-tick boundary. -/
def lanesControlTick (s : Device) : Device := each carriers lineLoopTick (each laneList laneTick s)

/-- What the lanes report over a slow tick (R648, Table 16-7). -/
def lanesSlowTick (l : List LaneMeas) (s : Device) : Device :=
  each l (fun m s => if m.lane < 32 then
      modLane m.lane (fun l => { l with estBer := sat 32 m.estBer, ctle := m.ctle % 32, skewPs := min 300000 m.skewPs }) s
    else s) s

/-! ### Commands -/

/-- The group of a lane carries FlexO (R643). -/
def flexoGroup (s : Device) (i : Nat) : Bool :=
  (groupLanes (i / 4)).any fun j => laneRateCode s j = 5 || (match clientOn s j with | some k => !k.eth | none => false)

/-- The group of a lane carries Ethernet. -/
def ethGroup (s : Device) (i : Nat) : Bool :=
  (groupLanes (i / 4)).any fun j => match clientOn s j with | some k => k.eth | none => false

/-- Fields of HL_CONFIG (R643, R645, Table 16-6). -/
def hlField (s : Device) (r : Req) (off : Nat) : Bool :=
  let p := r.params
  let i := rd p 0 1
  if r.readback then true
  else match off with
    | 4 => rd p 4 1 < 4 || rd p 4 1 = 0xFF
    | 5 => if flexoGroup s i then rd p 5 1 = 2 else if ethGroup s i then rd p 5 1 < 2 else true
    | 8 => (rdInt p 6 1).natAbs + (rdInt p 7 1).natAbs + (rdInt p 8 1).natAbs ≤ 32
    | _ => true

/-- HL_CONFIG (R663): `refclk` and `tx_clk` are given to the four lanes of the group. -/
def hlConfigCmd : Cmd where
  field := hlField
  act := does fun r s =>
    let p := r.params
    let s := acceptFields 0x0C00 r.tgt p s
    each (groupLanes (rd p 0 1 / 4)) (fun i s =>
      putSetting (skey 0x0C00 0 i 5) (rd p 5 1) .tick (putSetting (skey 0x0C00 0 i 4) (rd p 4 1) .tick s)) s

/-- The number of a lane state (Table 16-3). -/
def LaneState.num : LaneState → Nat
  | .off => 0
  | .noSignal => 1
  | .adapting => 2
  | .locked => 3

/-- HL_STATUS (R664, Table 16-7). -/
def hlStatusCmd : Cmd where
  act := reads fun s r =>
    let l := lane s (rd r.params 0 1)
    le 1 (LaneState.num l.state) ++
      le 1 (bit l.polFixed + 2 * bit l.amLock + 4 * bit l.deskewFailed + 8 * bit l.scan.isSome) ++
      le 1 (l.laneId.getD 0xFF) ++ le 1 l.ctle ++ le 4 l.estBer ++ le 4 l.lockLoss ++ le 4 l.adaptRestart ++
      le 4 l.skewPs ++ timeBytes10 l.since ++ [0, 0]

/-- A lane receives NRZ (Table 16-1). -/
def nrzLane (s : Device) (i : Nat) : Bool := laneRateCode s i < 2

/-- HL_EYE_SCAN (R653, R654, R665). -/
def hlEyeScanCmd : Cmd where
  field := fun s r off =>
    if off = 1 then !nrzLane s (rd r.params 0 1) || rd r.params 1 1 &&& 5 = 0
    else if off = 4 then 0x2B8CBCCC ≤ rd r.params 4 4 && rd r.params 4 4 ≤ 0x3C23D70A
    else true
  state := fun s r =>
    let l := lane s (rd r.params 0 1)
    if l.scan.isSome then some (.busy, 0) else if l.state ≠ .locked then some (.notPermitted, 0) else none
  act := fun r s => (⟨.pending, []⟩, modLane (rd r.params 0 1) (fun l => { l with scan := some ⟨0x0C02, r⟩ }) s)

/-- HL_EYE_READ (R665): the last completed scan of a lane. -/
def hlEyeReadCmd : Cmd where
  act := reads fun s r =>
    match (lane s (rd r.params 0 1)).eye with
    | some e => le 1 e.eyes ++ [0, 0, 0] ++ e.maps
    | none => [0, 0, 0, 0]

/-- HL_RESET (R662, R666). -/
def hlResetCmd : Cmd where
  act := does fun r s => enterDomain (lgDomain (rd r.params 0 1)) 2 s

/-- HL_CLEAR (R664, Table 22-11): a lane, or all. -/
def hlClearCmd : Cmd where
  field := fun _ r off => if off = 0 then rd r.params 0 1 < 32 || rd r.params 0 1 = 0xFF else true
  act := does fun r s =>
    let k := rd r.params 0 1
    each (laneList.filter fun i => k = 0xFF || k = i) (fun i s => modLane i (fun l => { l with clearWaits := true }) s) s

/-- CARRIER_LOOPBACK (R655 to R658, R667). -/
def carrierLoopbackCmd : Cmd where
  blocks := fun _ r => [r.car.num]
  state := fun s r =>
    let c := r.car
    if rd r.params 0 1 = 2 && (zr s c || accepted s (skey 0x0600 (carCode c) 0 0) = 1 || rxTiming (plan s) c = 2) then
      some (.notPermitted, 0) else none
  act := does fun r s => acceptFields 0x0250 r.tgt r.params s

end Sys2Proof.Machine
end

