-- ==== Sys2Proof/Machine/Leq.lean ====
section
/-!
DEFINITION. The latency equaliser (14_buffer_memory_and_latency_equaliser R599 to R615; 15_latency_and_load R630 to
R632; 22_command_reference R851, R852): ports, keys, embedded time, storage, release, drain and the LEQ commands.
-/
namespace Sys2Proof.Machine
open Sys2Proof

/-! ### Ports and queues -/

/-- The Ethernet client whose first host lane is `p` (R599). -/
def leqClient (s : Device) (p : Nat) : Option ClientPlan := (plan s).clients.find? fun k => k.eth && k.lane = p

/-- An LEQ port. -/
def leqPort (s : Device) (p : Nat) : LeqPort := Tab.get (fun _ => {}) s.mem.ports p

/-- Change an LEQ port. -/
def modLeqPort (p : Nat) (f : LeqPort → LeqPort) (s : Device) : Device :=
  modMem (fun m => { m with ports := Tab.modify (fun _ => {}) m.ports p f }) s

/-- An LEQ queue. -/
def queue (s : Device) (q : Nat) : QueueSt := Tab.get (fun _ => {}) s.mem.queues q

/-- Change an LEQ queue. -/
def modQueue (q : Nat) (f : QueueSt → QueueSt) (s : Device) : Device :=
  modMem (fun m => { m with queues := Tab.modify (fun _ => {}) m.queues q f }) s

/-- A setting of a queue in force. -/
def qset (s : Device) (q off : Nat) : Nat := dsetN s 0x0B08 q off

/-- The port is down: a lane group of its lanes is in reset, or a lane lacks lock (R614, 16_host_lanes R646). -/
def leqPortDown (s : Device) (k : ClientPlan) : Bool :=
  (List.range k.lanes).any fun j => (lane s (k.lane + j)).state ≠ .locked || inReset s (lgDomain ((k.lane + j) / 4))

/-- Time on the port of a frame of `b` bytes with its 20 bytes of overhead (15_latency_and_load R630). -/
def sendTime (k : ClientPlan) (b : Nat) : Time := (b + 20) * 8 * SEC / (k.rate * 10000000)

/-! ### Keys (R600, R601) -/

/-- Places of a frame that anchors name: outer VLAN TCI, EtherType after the tags, IP header, UDP payload; none where
the frame lacks one. -/
def tagWalk (f : List Byte) (fuel pos : Nat) : Nat :=
  match fuel with
  | 0 => pos
  | n + 1 => if fromBe (slice f pos 2) ∈ [0x8100, 0x88A8] ∧ pos + 4 ≤ f.length then tagWalk f n (pos + 4) else pos

/-- The offset of an anchor in a frame (R601). -/
def anchorAt (f : List Byte) (a : Nat) : Option Nat :=
  let et := tagWalk f 8 12
  let type := fromBe (slice f et 2)
  let ip : Option Nat := if et + 2 ≤ f.length ∧ (type = 0x0800 ∨ type = 0x86DD) then some (et + 2) else none
  match a with
  | 0 => some 0
  | 1 => if et ≠ 12 then some 14 else none
  | 2 => if et + 2 ≤ f.length then some et else none
  | 3 => ip
  | _ =>
    match ip with
    | none => none
    | some o =>
      if type = 0x0800 then
        let ihl := rd f o 1 % 16 * 4
        if rd f (o + 9) 1 = 17 ∧ o + ihl + 8 ≤ f.length then some (o + ihl + 8) else none
      else if rd f (o + 6) 1 = 17 ∧ o + 48 ≤ f.length then some (o + 48) else none

/-- `n` bytes of a frame from an anchor and an offset. -/
def anchored (f : List Byte) (a off n : Nat) : Option (List Byte) :=
  match anchorAt f a with
  | some o => if o + off + n ≤ f.length then some (slice f (o + off) n) else none
  | none => none

/-- A key field: the bytes that hold it, most significant first, shifted right and cut to its width (R601). -/
def keyField (f : List Byte) (a off sh w : Nat) : Option Nat :=
  if w = 0 then some 0
  else (anchored f a off ((sh + w + 7) / 8)).map fun bs => fromBe bs / 2 ^ sh % 2 ^ w

/-- The key of a frame under a profile (R601). -/
def leqKey (s : Device) (prof : Nat) (f : List Byte) : Nat :=
  let v (off : Nat) := dsetN s 0x0B06 prof off
  match keyField f (v 2) (v 3) (v 4) (v 5), keyField f (v 6) (v 7) (v 8) (v 9) with
  | some a, some b => (a * 2 ^ v 9 + b) % 32768
  | _, _ => v 10

/-- The queue of a frame of a port (R600). -/
def leqQueueOf (s : Device) (p : Nat) (f : List Byte) : Nat :=
  dsetN s 0x0B05 p 2 + leqKey s (dsetN s 0x0B05 p 1) f % dsetN s 0x0B05 p 4

/-! ### Embedded time (R602, R603, Table 14-5) -/

/-- Of the values congruent to `v` modulo `m`, the one nearest `t`; free at a tie. -/
def nearest (v m t : Int) (s : Device) : Int × Device :=
  let d := (t - v) % m
  let low := t - d
  if 2 * d < m then (low, s)
  else if 2 * d > m then (low + m, s)
  else
    let r := drawNat s
    (if r.1 % 2 = 0 then low else low + m, r.2)

/-- Days from 1970-01-01 to 1 January (even) or 1 July (odd) of 2000 + e / 2. -/
def vdifDays (e : Nat) : Nat :=
  let y := e / 2
  10957 + 365 * y + (y + 3) / 4 + (if e % 2 = 0 then 0 else 181 + (if y % 4 = 0 then 1 else 0))

/-- The embedded time of a frame under a timestamp profile, in device time; none drops the frame (R603). -/
def embedded (prof : Nat) (x : LeqIn) (s : Device) : Option Int × Device :=
  let n (off : Nat) := dsetN s 0x0B07 prof off
  let add : Int := dset s 0x0B07 prof 4 * (NS : Nat)
  let fld (k : Nat) := anchored x.bytes (n 2) (n 3) k
  match n 1 with
  | 0 =>
    match fld 10 with
    | some b => (some (((fromBe (b.take 6) * SEC + fromBe (b.drop 6) * NS : Nat) : Int) + add), s)
    | none => (none, s)
  | 1 =>
    match fld 8 with
    | some b =>
      let r := nearest ((fromBe (b.take 4) * SEC + fromBe (b.drop 4) * NS : Nat) : Int) ((2 ^ 32 * SEC : Nat) : Int)
        (x.arrival : Int) s
      (some (r.1 + add), r.2)
    | none => (none, s)
  | 2 =>
    match fld 8 with
    | some b =>
      let w0 := rd b 0 4
      let w1 := rd b 4 4
      let frame := w1 % 2 ^ 24
      if tb w0 31 || n 8 ≤ frame then (none, s)
      else
        let sec := vdifDays (w1 / 2 ^ 24 % 64) * 86400 + w0 % 2 ^ 30 + n 12
        (some (((sec * SEC + frame * SEC / n 8 : Nat) : Int) + add), s)
    | none => (none, s)
  | 3 =>
    match fld 4 with
    | some b =>
      let u := 2 ^ (16 - n 13)
      let r := nearest ((fromBe b * u : Nat) : Int) ((2 ^ 32 * u : Nat) : Int) (x.arrival : Int) s
      (some (r.1 + add), r.2)
    | none => (none, s)
  | _ => (some ((x.arrival : Int) + add), s)

/-! ### Storage (R609 to R611) -/

/-- Bytes that a frame of `b` bytes takes: its header and itself in whole lines (R609). -/
def storedSize (b : Nat) : Nat := (b + 32 + 63) / 64 * 64

/-- The 4 KiB pages that stored frames touch, oldest first; `last` is the last page counted (R609). -/
def pagesFrom (last : Option Nat) (l : List LeqFrame) : Nat :=
  match l with
  | [] => 0
  | f :: r =>
    let a := f.pos / 4096
    let b := (f.pos + storedSize f.bytes.length - 1) / 4096
    (b - a + (if some a = last then 0 else 1)) + pagesFrom (some b) r

/-- Occupancy of a queue in pages. -/
def queuePages (q : QueueSt) : Nat := pagesFrom none q.frames

/-- Pages in the quotas of the queues that are not `DISABLED`, but for one (R610). -/
def quotaOthers (s : Device) (except : Option Nat) : Nat :=
  ((s.mem.queues.filter fun p => p.2.state ≠ .disabled && some p.1 ≠ except).map fun p => qset s p.1 8).sum

/-- A frame is put behind the frames of a queue. -/
def storeFrame (k : Nat) (f : LeqFrame) (s : Device) : Device :=
  let s := modMem (fun m => { m with serial := m.serial + 1 }) s
  modQueue k (fun q => { q with frames := q.frames ++ [{ f with serial := s.mem.serial, pos := q.wr }],
                                wr := q.wr + storedSize f.bytes.length }) s

/-! ### Release (R604 to R608, R614; 15_latency_and_load R630 to R632) -/

/-- The instant at which a queue's head can be released: its release time, or the instant at which it became the head,
whichever is later (R605, 15_latency_and_load R631). -/
def headAt (q : QueueSt) (f : LeqFrame) : Time := max (max f.release.toNat q.lastLeft) f.arrival

/-- The head of a queue reached its release late (R606). -/
def lateHead (q : QueueSt) (f : LeqFrame) : Bool := f.release + (2 * NS : Nat) < (headAt q f : Int)

/-- Heads of a queue that are late by `t` and are to be dropped leave it (R606). -/
def dropLateHeads (drop : Bool) (t : Time) (fuel : Nat) (q : QueueSt) : QueueSt :=
  match fuel with
  | 0 => q
  | n + 1 =>
    match q.frames with
    | [] => q
    | f :: r =>
      if drop && headAt q f ≤ t && lateHead q f then
        dropLateHeads drop t n { q with frames := r, lastLeft := headAt q f, dropLate := sat 32 (q.dropLate + 1) }
      else q

/-- The queues with a head for a port: queue number, its state and its head. -/
def portHeads (s : Device) (p : Nat) : List (Nat × QueueSt × LeqFrame) :=
  s.mem.queues.filterMap fun q =>
    match q.2.frames with
    | f :: _ => if f.port = p then some (q.1, q.2, f) else none
    | [] => none

/-- The frame that a port sends next: of the heads that can be released when the port is free, the one of least release
time, then of least queue (R608); with its start. -/
def nextFrame (s : Device) (p : Nat) : Option (Nat × LeqFrame × Time) :=
  let l := portHeads s p
  let first : Option Nat := l.foldl (fun m x =>
    let h := headAt x.2.1 x.2.2
    match m with
    | none => some h
    | some v => some (min v h)) none
  match first with
  | none => none
  | some h =>
    let start := max (leqPort s p).busyUntil h
    let due := l.filter fun x => headAt x.2.1 x.2.2 ≤ start
    (due.foldl (fun (m : Option (Nat × LeqFrame × Time)) x =>
      match m with
      | none => some (x.1, x.2.2, start)
      | some b =>
        if x.2.2.release < b.2.1.release || (x.2.2.release = b.2.1.release && x.1 < b.1) then some (x.1, x.2.2, start)
        else m) none)

/-- Bypass frames that start on the port by `t`, none while a stored frame is due before (R608, R612). -/
def sendBypass (k : ClientPlan) (t : Time) (fuel : Nat) (s : Device) : Device :=
  match fuel with
  | 0 => s
  | n + 1 =>
    let p := leqPort s k.lane
    match p.bypass with
    | [] => s
    | (a, b) :: r =>
      let start := max p.busyUntil a
      let blocked := match nextFrame s k.lane with | some f => decide (f.2.2 ≤ start) | none => false
      if start ≤ t && !blocked then
        sendBypass k t n (emit (.frame k.lane start b)
          (modLeqPort k.lane (fun p => { p with bypass := r, busyUntil := start + sendTime k b.length }) s))
      else s

/-- A stored frame leaves on its port (R604, R630, R632). -/
def sendLeqFrame (k : ClientPlan) (qn : Nat) (f : LeqFrame) (start : Time) (s : Device) : Device :=
  let q := queue s qn
  let hold := (start - f.arrival) / NS
  let wait := (start - headAt q f) / NS
  let late := lateHead q f
  let s := modQueue qn (fun q =>
    { q with frames := q.frames.drop 1, lastLeft := start, released := sat 32 (q.released + 1),
             lateSent := if late then sat 32 (q.lateSent + 1) else q.lateSent,
             holdMax := max q.holdMax hold, holdSum := (q.holdSum.1 + hold, q.holdSum.2 + 1) }) s
  let s := modLeqPort k.lane (fun p => { p with busyUntil := start + sendTime k f.bytes.length,
                                                waitMax := sat 32 (max p.waitMax wait) }) s
  emit (.frame k.lane start f.bytes) s

/-- Frames of a queue whose release time passes by `t` while their port is down are dropped (R614). -/
def dropDown (p : Nat) (t : Time) (q : QueueSt) : QueueSt :=
  let gone := q.frames.filter fun f => f.port = p && f.release < (t : Int)
  if gone.isEmpty then q
  else { q with frames := q.frames.filter fun f => !(f.port = p && f.release < (t : Int)), lastLeft := max q.lastLeft t,
                portDown := sat 32 (q.portDown + gone.length) }

/-- Drop what passed its release time on a port that is down. -/
def dropPort (p : Nat) (s : Device) : Device :=
  modMem (fun m => { m with queues := Tab.mapAll (fun _ => {}) m.queues fun _ q => dropDown p s.timing.now q }) s

/-- The port serves its queues at a release time: late heads that are to be dropped go, waiting bypass frames that come
first are sent, then the frame that is due within the present control tick. -/
def leqFrameRelease (p : Fin 32) (s : Device) : Device :=
  match leqClient s p.val with
  | none => s
  | some k =>
    if leqPortDown s k then dropPort k.lane s
    else
      let lim := s.timing.now + US
      let s := each (portHeads s k.lane) (fun x s =>
        modQueue x.1 (fun q => dropLateHeads (qset s x.1 12 = 1) lim q.frames.length q) s) s
      let s := sendBypass k lim (leqPort s k.lane).bypass.length s
      match nextFrame s k.lane with
      | some (qn, f, start) => if start < lim then sendLeqFrame k qn f start s else s
      | none => s

/-- A `DRAINING` queue that is empty becomes `DISABLED` (R612). -/
def leqDrainComplete (q : Fin 32768) (s : Device) : Device :=
  if (queue s q.val).state = .draining && (queue s q.val).frames.isEmpty then
    modQueue q.val (fun q => { q with state := .disabled }) s
  else s

/-! ### Arrival -/

/-- Stored bytes per control tick within a port's reservation (R588, R590, Table 14-3). -/
def leqAllowed (s : Device) (k : ClientPlan) : Nat :=
  let m := (planFixed (plan s) (skey 0x0B05 0 k.lane 6)).toNat
  k.rate * 10000000 / 8 * ((m + 32 + 63) / 64 * 64) / ((m + 20) * 1000000)

/-- The part of a frame's stored bytes that arrives in the present control tick. -/
def bytesInTick (s : Device) (k : ClientPlan) (x : LeqIn) : Nat :=
  let d := sendTime k x.bytes.length
  let inside := min d (x.arrival - s.timing.now)
  if d = 0 then storedSize x.bytes.length else storedSize x.bytes.length * inside / d

/-- A client frame reaches the LEQ: its queue, its embedded time, and whether it is stored, dropped or bypasses
(R600 to R613). -/
def leqFrameArrival (x : LeqIn) (s : Device) : Device :=
  match leqClient s x.port with
  | none => s
  | some k =>
    let qn := leqQueueOf s x.port x.bytes
    match (queue s qn).state with
    | .disabled =>
      let s := modLeqPort k.lane (fun p => { p with bypass := p.bypass ++ [(x.arrival, x.bytes)] }) s
      if leqPortDown s k then modLeqPort k.lane (fun p => { p with bypass := [] }) s
      else sendBypass k x.arrival (leqPort s k.lane).bypass.length s
    | .draining => modQueue qn (fun q => { q with dropDisabled := sat 32 (q.dropDisabled + 1) }) s
    | .enabled =>
      let e := embedded (qset s qn 3) x s
      let s := e.2
      match e.1 with
      | none => modQueue qn (fun q => { q with dropNots := sat 32 (q.dropNots + 1) }) s
      | some t =>
        let rel := t + (qset s qn 4 * NS : Nat)
        let f : LeqFrame := { arrival := x.arrival, release := rel, bytes := x.bytes, port := k.lane }
        let bw := bytesInTick s k x
        let tick := (leqPort s k.lane).tickBytes
        if (x.arrival : Int) + (qset s qn 16 * NS : Nat) < t then
          modQueue qn (fun q => { q with dropEarly := sat 32 (q.dropEarly + 1) }) s
        else if rel + (2 * NS : Nat) < (x.arrival : Int) && qset s qn 12 = 1 then
          modQueue qn (fun q => { q with dropLate := sat 32 (q.dropLate + 1) }) s
        else if leqAllowed s k < tick + bw then
          modLeqPort k.lane (fun p => { p with dropBw := sat 32 (p.dropBw + 1), bwTick := true }) s
        else if qset s qn 8 < pagesFrom none ((queue s qn).frames ++ [{ f with pos := (queue s qn).wr }]) then
          modQueue qn (fun q => { q with dropFull := sat 32 (q.dropFull + 1) }) s
        else storeFrame qn f (modLeqPort k.lane (fun p => { p with tickBytes := p.tickBytes + bw }) s)

/-! ### Ticks -/

/-- The LEQ at a control-tick boundary: ports that are down or have just returned drop what passed (R614). -/
def leqControlTick (s : Device) : Device :=
  each ((plan s).clients.filter (·.eth)) (fun k s =>
    let down := leqPortDown s k
    let s := if down || (leqPort s k.lane).down then dropPort k.lane s else s
    modLeqPort k.lane (fun p => { p with down := down, tickBytes := 0 }) s) s

/-- The LEQ at a slow-tick boundary: `LEQ_PORT_BW` of the ports whose `LEQ_DROP_BW` grew (Table 14-4). -/
def leqSlowTick (s : Device) : Device :=
  each (s.mem.ports.filter fun p => p.2.bwTick) (fun p s =>
    fault 0x0B07 p.1 [] (modLeqPort p.1 (fun q => { q with bwTick := false }) s)) s

/-- The LEQ at an epoch boundary: hold times of the epoch (R615). -/
def leqEpoch (s : Device) : Device :=
  let f (_ : Nat) (q : QueueSt) : QueueSt :=
    { q with holdLast := (q.holdMax, if q.holdSum.2 = 0 then 0 else q.holdSum.1 / q.holdSum.2), holdMax := 0,
             holdSum := (0, 0) }
  modMem (fun m => { m with queues := Tab.mapAll (fun _ => {}) m.queues f }) s

/-- The counters of the LEQ cleared (Table 14-11). -/
def leqClear (s : Device) : Device :=
  let f (_ : Nat) (q : QueueSt) : QueueSt :=
    { q with released := 0, lateSent := 0, dropLate := 0, dropEarly := 0, dropFull := 0, dropNots := 0, dropEcc := 0,
             dropDisabled := 0, portDown := 0 }
  let g (_ : Nat) (p : LeqPort) : LeqPort := { p with dropBw := 0, waitMax := 0 }
  modMem (fun m => { m with queues := Tab.mapAll (fun _ => {}) m.queues f, ports := Tab.mapAll (fun _ => {}) m.ports g }) s

/-! ### Commands -/

/-- The LEQ's block of `CLK_EN` (Table 18-5). -/
def leqBlock : Device → Req → List Nat := fun _ _ => [14]

/-- A port's queue range has been configured since its settings were reset. -/
def rangeGiven (s : Device) (p : Nat) : Bool :=
  (Tab.get (fun _ => none) s.settings (skey 0x0B05 0 p 2) : Option Int).isSome

/-- The queue ranges of a request's port and of another configured port overlap (R600). -/
def rangesOverlap (s : Device) (r : Req) : Bool :=
  let p := rd r.params 0 1
  let b := rd r.params 2 2
  let n := rd r.params 4 2
  (plan s).clients.any fun k =>
    k.eth && k.lane ≠ p && rangeGiven s k.lane &&
      (let b' := (accepted s (skey 0x0B05 0 k.lane 2)).toNat
       let n' := (accepted s (skey 0x0B05 0 k.lane 4)).toNat
       decide (b < b' + n' ∧ b' < b + n))

/-- LEQ_PORT_CONFIG (R599, R600, R851). -/
def leqPortConfigCmd : Cmd where
  blocks := leqBlock
  field := fun s r off =>
    if off = 0 then (leqClient s (rd r.params 0 1)).isSome
    else if off = 2 then r.readback || !rangesOverlap s r
    else if off = 4 then let n := rd r.params 4 2; n = 2 ^ Nat.log2 n
    else true
  back := fun s r =>
    let p := leqPort s (rd r.params 0 1)
    [(8, le 4 p.dropBw), (12, le 4 p.waitMax)]
  act := does fun r s => acceptFields 0x0B05 r.tgt r.params s

/-- LEQ_KEY_PROFILE (R601); profile 0 is fixed. -/
def leqKeyProfileCmd : Cmd where
  blocks := leqBlock
  field := fun _ r off => if off = 0 then r.readback || rd r.params 0 1 ≠ 0 else true
  act := does fun r s => acceptFields 0x0B06 r.tgt r.params s

/-- LEQ_TS_PROFILE (R602, R852): fields the format does not use must be zero. -/
def leqTsProfileCmd : Cmd where
  blocks := leqBlock
  field := fun _ r off =>
    let f := rd r.params 1 1
    if r.readback then true
    else if off = 2 then f ≠ 4 || rd r.params 2 1 = 0
    else if off = 3 then f ≠ 4 || rd r.params 3 1 = 0
    else if off = 8 then (if f = 2 then 1 ≤ rd r.params 8 4 else rd r.params 8 4 = 0)
    else if off = 12 then f = 2 || rd r.params 12 1 = 0
    else if off = 13 then f = 3 || rd r.params 13 1 = 0
    else true
  act := does fun r s => acceptFields 0x0B07 r.tgt r.params s

/-- A request would enable a queue that is not `ENABLED`. -/
def enablesQueue (s : Device) (r : Req) : Bool := rd r.params 2 1 = 1 && (queue s (rd r.params 0 2)).state ≠ .enabled

/-- LEQ_QUEUE_CONFIG (R610 to R615); an enable during a pool reconfiguration is held (R586). -/
def leqQueueConfigCmd : Cmd where
  blocks := leqBlock
  field := fun s r off => if off = 8 then r.readback || rd r.params 8 4 ≤ poolSize s 0 * 256 else true
  state := fun s r =>
    let q := rd r.params 0 2
    if s.mem.reconfig.isSome && enablesQueue s r then
      if (queue s q).held.isSome then some (.busy, 0) else none
    else if rd r.params 2 1 = 1 && poolSize s 0 * 256 < quotaOthers s (some q) + rd r.params 8 4 then
      some (.noResource, 0)
    else none
  act := fun r s =>
    let q := rd r.params 0 2
    let on := rd r.params 2 1 = 1
    if s.mem.reconfig.isSome && enablesQueue s r then
      (⟨.pending, []⟩, modQueue q (fun x => { x with held := some ⟨0x0B08, r⟩ }) s)
    else
      let s :=
        if on then s
        else
          match (queue s q).held with
          | some h => modQueue q (fun x => { x with held := none }) (heldDone h .notPermitted s)
          | none => s
      let s := acceptFields 0x0B08 r.tgt r.params s
      (Resp.okay, modQueue q (fun x =>
        { x with state := if on then .enabled
                          else match x.state with | .enabled => .draining | st => st }) s)

/-- LEQ_QUEUE_STATUS (R615, Table 22-13). -/
def leqQueueStatusCmd : Cmd where
  blocks := leqBlock
  act := reads fun s r =>
    let n := rd r.params 0 2
    let q := queue s n
    le 2 n ++ le 1 (match q.state with | .disabled => 0 | .enabled => 1 | .draining => 2) ++ [0] ++
      le 4 q.frames.length ++ le 4 (queuePages q) ++ le 4 (sat 32 q.holdLast.1) ++ le 4 (sat 32 q.holdLast.2) ++
      le 4 q.released ++ le 4 q.lateSent ++ le 4 q.dropLate ++ le 4 q.dropEarly ++ le 4 q.dropFull ++ le 4 q.dropNots ++
      le 4 q.dropEcc ++ le 4 q.dropDisabled ++ le 4 q.portDown

end Sys2Proof.Machine
end

