-- ==== Sys2Proof/Machine/Mem.lean ====
section
/-!
DEFINITION. Buffer memory (14_buffer_memory_and_latency_equaliser R582 to R598): pools and their reconfiguration, DRAM
lines, scrub, row retirement, and the MEM commands.
-/
namespace Sys2Proof.Machine
open Sys2Proof

/-- A DRAM tower. -/
def tower (s : Device) (t : Nat) : TowerSt := Tab.get (fun _ => {}) s.mem.towers t

/-- Change a DRAM tower. -/
def modTower (t : Nat) (f : TowerSt → TowerSt) (s : Device) : Device :=
  modMem (fun m => { m with towers := Tab.modify (fun _ => {}) m.towers t f }) s

/-! ### Pools (R583 to R586) -/

/-- Bytes of the Accord images held (Table 14-2). -/
def imagesHeld (s : Device) : Nat :=
  (slotNums.map fun i => if (accSlot s i).state = .free then 0 else (accSlot s i).imageLen).sum

/-- The size a request gives a pool. -/
def poolAsked (r : Req) (k : Nat) : Nat := rd r.params (4 * k) 4

/-- A size lies in the range of Table 14-1. -/
def poolRange (k n : Nat) : Bool :=
  n % 64 = 0 &&
    (match k with
     | 0 => n ≤ 98304
     | 1 => n ≤ 32768
     | 2 => n ≤ 65536
     | _ => 128 ≤ n && n ≤ 2048)

/-- MEM_POOL_SET (R585, Table 14-2); it ends with `POOL_RECONFIG_COMPLETE`. -/
def memPoolSetCmd : Cmd where
  field := fun _ r off => r.readback || poolRange (off / 4) (poolAsked r (off / 4))
  state := fun s r =>
    let asked := ([0, 1, 2, 3].map fun k => poolAsked r k).sum
    if capacityPages < (asked + poolSize s 4) * 256 + pagesRetired s then some (.noResource, 0)
    else if poolAsked r 0 * 256 < quotaOthers s none then some (.noResource, 0)
    else if poolAsked r 2 * 2 ^ 20 < capBuffers s then some (.notPermitted, 0)
    else if poolAsked r 3 * 2 ^ 20 < imagesHeld s then some (.notPermitted, 0)
    else if s.mem.reconfig.isSome then some (.busy, 0)
    else none
  back := fun s _ => [0, 1, 2, 3].map fun k => (4 * k, le 4 (poolSize s k))
  act := does fun r s => modMem (fun m => { m with reconfig := some { sizes := [0, 1, 2, 3].map fun k => poolAsked r k } }) s

/-- Run a command that was held and report its status (01_talnis_3200_at_a_glance R41). -/
def runHeld (h : Held) (c : Cmd) (s : Device) : Device :=
  let q := runCmd h.op c h.req false s
  heldDone h q.1.status q.2

/-- A pool reconfiguration completes: the new sizes, the event, then what was held (R586). -/
def poolReconfigComplete (s : Device) : Device :=
  match s.mem.reconfig with
  | none => s
  | some x =>
    let sizes := x.sizes
    let s := modMem (fun m => { m with
      reconfig := none
      pools := [0, 1, 2, 3].foldl (fun t k => Tab.set (fun _ => none) t k (some (sizes.getD k 0))) m.pools }) s
    let s := raise 0x0B01 0 0 (sizes.flatMap fun n => le 2 (n / 64)) s
    let s := match s.accord.loadHeld with
      | some h => runHeld h accordLoadCmd (modAccord (fun a => { a with loadHeld := none }) s)
      | none => s
    let s := each (s.mem.queues.filter fun q => q.2.held.isSome) (fun q s =>
      match q.2.held with
      | some h => runHeld h leqQueueConfigCmd (modQueue q.1 (fun x => { x with held := none }) s)
      | none => s) s
    each [0, 1, 2, 3] (fun i s =>
      match (cap s i).held with
      | some h => runHeld h blotterArmCmd (modCap i (fun c => { c with held := none }) s)
      | none => s) s

/-! ### DRAM lines and rows (R592 to R597) -/

/-- Spare rows left in a bank of a tower (R597). -/
def sparesLeft (t : TowerSt) (bank : Nat) : Nat := 32 - Tab.get (fun _ => 0) t.rowsUsed bank

/-- The number under which a row of a bank is remembered between scrub passes. -/
def rowKey (bank row : Nat) : Nat := bank * 2 ^ 32 + row

/-- A row is retired: the copy to a spare row begins, or, without a spare, its pages are taken from unallocated
capacity, then from the `BLOTTER` pool; where neither has room they stay in service (R596, R597). -/
def retireRow (t bank row pages : Nat) (s : Device) : Device :=
  let x := tower s t
  if (bank, row) ∈ x.copying then s
  else if (x.copying.filter fun p => p.1 = bank).length < sparesLeft x bank then
    modTower t (fun x => { x with copying := x.copying ++ [(bank, row)], suspect := x.suspect.filter fun p => p.1 ≠ rowKey bank row }) s
  else
    let room := capacityPages - poolPages s - pagesRetired s + blotterFree s / 4096
    let n := min pages room
    let s := modTower t (fun x => { x with pages := sat 32 (x.pages + n) }) s
    if n < pages then fault 0x0B05 t [] s else s

/-- Seven days of device time. -/
def WEEK : Nat := 604800 * SEC

/-- A corrected row found by scrub: at its second pass within 7 days it is retired (R596). -/
def scrubRow (t bank row pages : Nat) (s : Device) : Device :=
  let now := s.timing.now
  let pass := s.mem.scrubStart.getD now
  let key := rowKey bank row
  let seen := (tower s t).suspect.filter fun p => p.1 = key && now ≤ p.2 + WEEK
  if seen.any fun p => p.2 < pass then
    retireRow t bank row pages (modTower t (fun x => { x with suspect := x.suspect.filter fun p => p.1 ≠ key }) s)
  else modTower t (fun x => { x with suspect := (x.suspect.filter fun p => p.1 ≠ key) ++ [(key, now)] }) s

/-- What an uncorrectable line does to what holds it (R593). -/
def lineLost (h : LineHolder) (s : Device) : Device :=
  match h with
  | .leq q i =>
    if i < (queue s q).frames.length then
      modQueue q (fun x => { x with frames := x.frames.eraseIdx i, dropEcc := sat 32 (x.dropEcc + 1) }) s
    else s
  | .blotter k => if (cap s k.val).state = .idle then s else modCap k.val (fun c => { c with flags := c.flags ||| 8#5 }) s
  | .accordStore k =>
    if (accSlot s k.val).state = .free then s else modSlot k.val (fun q => { q with state := .invalid }) s
  | .mergeDeskew => s
  | .system => s
  | .none => s

/-- A DRAM line is found in error (R592, R593, R596). -/
def dramLineError (x : DramIn) (s : Device) : Device :=
  let t := x.tower.val
  if x.ue then
    let s := modTower t (fun w => { w with ue := sat 32 (w.ue + 1) }) s
    retireRow t x.bank x.row x.pages (fault 0x0B02 t [] (lineLost x.holder s))
  else
    let s := modTower t (fun w => { w with ce := sat 32 (w.ce + 1), ceEpoch := w.ceEpoch + 1 }) s
    if x.scrub then scrubRow t x.bank x.row x.pages s else s

/-- The oldest row copy of a tower completes (R596, R597). -/
def rowRetireComplete (t : Fin 4) (s : Device) : Device :=
  match (tower s t.val).copying with
  | [] => s
  | (bank, _) :: rest =>
    let s := modTower t.val (fun x =>
      { x with copying := rest, rows := sat 16 (x.rows + 1), rowsUsed := Tab.modify (fun _ => 0) x.rowsUsed bank (· + 1) }) s
    let s := fault 0x0B03 t.val [] s
    if sparesLeft (tower s t.val) bank = 4 then fault 0x0B04 t.val [] s else s

/-- A tower crosses 85 °C or 82 °C: its refresh rate changes (R595). -/
def dramRefreshRate (t : Fin 4) (fast : Bool) (s : Device) : Device :=
  if (tower s t.val).fastRefresh = fast then s
  else raise 0x0B02 t.val 0 (le 1 (if fast then 2 else 1)) (modTower t.val (fun x => { x with fastRefresh := fast }) s)

/-! ### Scrub (R594) -/

/-- The DRAM can be scrubbed. -/
def dramUp (s : Device) : Bool := !(inReset s .por || inReset s .device || inReset s .dram)

/-- MEM_SCRUB_CONFIG as it acts at once. -/
def scrubSet (r : Req) (s : Device) : Device :=
  let on := rd r.params 0 1 = 1
  let s := acceptFields 0x0B02 r.tgt r.params s
  if on then modMem (fun m => { m with scrubOn := true }) s
  else if s.mem.scrubBusy then modMem (fun m => { m with scrubOff := true }) s
  else modMem (fun m => { m with scrubOn := false, scrubStart := none, scrubNext := 0, scrubLate := false }) s

/-- A scrub segment is issued, or the segment in progress completes; the 8,192nd ends the pass, and a waiting disable
takes force (R594). -/
def scrubSegment (complete : Bool) (s : Device) : Device :=
  let m := s.mem
  if complete then
    if !m.scrubBusy then s
    else
      let last := m.scrubNext = 8191
      let s := modMem (fun m => { m with scrubBusy := false, scrubNext := (m.scrubNext + 1) % 8192,
                                         scrubStart := if last then none else m.scrubStart,
                                         scrubLate := m.scrubLate && !last }) s
      if !m.scrubOff then s
      else
        let s := modMem (fun m => { m with scrubOff := false, scrubOn := false, scrubStart := none, scrubNext := 0,
                                           scrubLate := false, scrubHeld := none }) s
        match m.scrubHeld with
        | some h => heldDone h .ok (scrubSet h.req s)
        | none => s
  else if m.scrubBusy || !m.scrubOn || m.scrubOff || !dramUp s then s
  else
    let now := s.timing.now
    modMem (fun m => { m with scrubBusy := true, scrubStart := if m.scrubStart.isNone then some now else m.scrubStart }) s

/-- A scrub pass is still open 72 h after it began (R594). -/
def scrubLate (s : Device) : Device :=
  match s.mem.scrubStart with
  | some t =>
    if !s.mem.scrubLate && t + 72 * 3600 * SEC ≤ s.timing.now then
      fault 0x0B06 0 [] (modMem (fun m => { m with scrubLate := true }) s)
    else s
  | none => s

/-- MEM_SCRUB_CONFIG (R594): an enable while a disable waits for its segment is held, and a disable then cancels it
(01_talnis_3200_at_a_glance R40 to R43). -/
def memScrubConfigCmd : Cmd where
  state := fun s r =>
    if rd r.params 0 1 = 1 && s.mem.scrubOff && s.mem.scrubHeld.isSome then some (.busy, 0) else none
  act := fun r s =>
    if rd r.params 0 1 = 1 && s.mem.scrubOff then
      (⟨.pending, []⟩, modMem (fun m => { m with scrubHeld := some ⟨0x0B02, r⟩ }) s)
    else
      let s := match s.mem.scrubHeld with
        | some h => heldDone h .notPermitted (modMem (fun m => { m with scrubHeld := none }) s)
        | none => s
      (Resp.okay, scrubSet r s)

/-! ### Status and clear -/

/-- `n` bytes in MiB, rounded up. -/
def mib (n : Nat) : Nat := (n + 2 ^ 20 - 1) / 2 ^ 20

/-- MEM_STATUS (Table 22-13). What the deskew, merge and cipher frames of pool 1 occupy is free (log 12). -/
def memStatusCmd : Cmd where
  act := fun _ s =>
    let m := drawNat s
    let leq := (s.mem.queues.map fun q => queuePages q.2).sum
    (⟨.ok,
      ([0, 1, 2, 3, 4].flatMap fun k => le 4 (poolSize s k)) ++
      le 4 (mib (leq * 4096)) ++ le 4 (m.1 % (poolSize s 1 + 1)) ++ le 4 (mib (capBuffers s)) ++ le 4 (mib (imagesHeld s)) ++
      ((List.range 6).flatMap fun k => le 4 ((plan s).bw.getD k 0)) ++
      ((List.range 6).flatMap fun k => le 4 (Tab.get (fun _ => 0) s.mem.measuredBw k)) ++
      le 4 ((capacityPages - poolPages s - pagesRetired s) / 256) ++ le 4 (pagesRetired s) ++
      le 1 (bit s.mem.reconfig.isSome) ++ zeros 35⟩, m.2)

/-- Spare rows left in the poorest bank of a tower. -/
def poorest (t : TowerSt) : Nat := 32 - t.rowsUsed.foldl (fun m p => max m p.2) 0

/-- MEM_REPAIR_STATUS (R597). -/
def memRepairStatusCmd : Cmd where
  act := reads fun s _ =>
    [0, 1, 2, 3].flatMap fun t =>
      let x := tower s t
      le 2 (poorest x) ++ le 2 x.rows ++ le 4 x.pages ++ le 4 x.ce ++ le 4 x.ue

/-- MEM_CLEAR (Table 14-11). -/
def memClearCmd : Cmd where
  act := does fun _ s => modMem (fun m => { m with clearWaits := true }) s

/-! ### Ticks -/

/-- Buffer memory at a control-tick boundary. -/
def memControlTick (s : Device) : Device :=
  let s := leqControlTick s
  if !s.mem.clearWaits then s
  else
    let s := leqClear s
    modMem (fun m => { m with
      clearWaits := false
      towers := Tab.mapAll (fun _ => {}) m.towers fun _ t => { t with ce := 0, ue := 0 }
      caps := Tab.mapAll (fun _ => {}) m.caps fun _ c => { c with trigIgnored := 0 } }) s

/-- Buffer memory at a slow-tick boundary, with the measured bandwidth of the six classes. -/
def memSlowTick (bw : List Nat) (s : Device) : Device :=
  let t : Tab Nat := ((List.range 6).zip bw).filter fun p => p.2 ≠ 0
  leqSlowTick (modMem (fun m => { m with measuredBw := t }) s)

/-- Buffer memory at an epoch boundary: `DRAM_CE_RATE` and the hold times (R598, R615). -/
def memEpoch (s : Device) : Device :=
  let s := each [0, 1, 2, 3] (fun t s =>
    let high := 1000 < (tower s t).ceEpoch
    let s := modTower t (fun x => { x with ceEpoch := 0 }) s
    if high then fault 0x0B01 t [] s else s) s
  leqEpoch s

end Sys2Proof.Machine
end

