-- ==== Sys2Proof/Machine/Boot.lean ====
section
/-!
DEFINITION. Start-up, firmware and the non-volatile store (20_startup_and_nonvolatile_store R774 to R801): the boot
header, firmware slots and trials, the steps of a start but for the startup script, NOR and NAND writes and erases, and
the NVSTORE commands.
-/
namespace Sys2Proof.Machine
open Sys2Proof

/-! ### The boot header (R776, R777, Table 20-2) -/

/-- A header copy is valid: magic, format and CRC (R776). -/
def bootHdrOk (h : List Byte) : Bool :=
  h.length = 256 && rd h 0 4 = 0x44484254 && rd h 4 2 = 1 && rd h 252 4 = (crc32c (h.take 252)).toNat

/-- `seq` of a header. -/
def bhSeq (h : List Byte) : Nat := rd h 6 2
/-- `fw_pref`. -/
def bhPref (h : List Byte) : Nat := rd h 14 1
/-- `fw_trial`. -/
def bhTrial (h : List Byte) : Nat := rd h 15 1
/-- `fw_slot_len`. -/
def bhSlotLen (h : List Byte) : Nat := rd h 24 4
/-- `script_len`. -/
def bhScriptLen (h : List Byte) : Nat := rd h 48 4

/-- The header used when no copy is valid (R776). -/
def defaultHdr : List Byte := fields 256 [(16, le 4 0x100000), (20, le 4 0xD00000), (24, le 4 0xC00000)]

/-- `seq` a is higher than b (R776). -/
def seqHigher (a b : Nat) : Bool := let d := (a + 65536 - b) % 65536; 1 ≤ d && d ≤ 32767

/-- The copy the ROM uses: the valid one, of two the one with the higher `seq`, else copy 0 (R776). -/
def hdrChoice (h : Two (List Byte)) : Option Nat :=
  match bootHdrOk h.a, bootHdrOk h.b with
  | true, true => if seqHigher (bhSeq h.b) (bhSeq h.a) then some 1 else some 0
  | true, false => some 0
  | false, true => some 1
  | false, false => none

/-- Every header update: the copy not in use takes `seq` one above the copy in use and a new CRC, and is in use from
then on (R777). -/
def updateHdr (h : List Byte) (s : Device) : Device :=
  let h := put (fit 256 h) 6 (le 2 (bhSeq s.boot.header + 1))
  let h := put h 252 (le 4 (crc32c (h.take 252)).toNat)
  let k := if s.boot.copy = some 0 then 1 else 0
  modBoot (fun b => { b with header := h, copy := some k,
                             headers := if k = 0 then { b.headers with a := h } else { b.headers with b := h } }) s

/-- The ROM runs: the device is out of reset and the stage is the one given. -/
def romAt (s : Device) (st : Stage) : Bool :=
  s.boot.stage = st && !(inReset s .por || inReset s .device || inReset s .mgmt)

/-- The stage after a header is accepted: the clocks start, except at a MGMT start (Table 20-4). -/
def afterHdr (s : Device) : Stage := if s.boot.kind = .mgmt then .fwLoad else .clocks

/-- BOOT_HEADER_READ: the ROM selects a header from the NOR (R774, R776). With `BOOT_SRC` 1 it waits for the host. -/
def bootHeaderRead (s : Device) : Device :=
  if !romAt s .rom || s.boot.bootSrc = 1 then s
  else
    let k := hdrChoice s.boot.headers
    let h := match k with | some 0 => s.boot.headers.a | some _ => s.boot.headers.b | none => defaultHdr
    setStage (afterHdr s) (modBoot (fun b =>
      { b with copy := k, header := h, headerDefault := k.isNone, reverted := false, refusedSlot := false, pcie := false,
               scriptNext := (0, 0), scriptDone := false }) s)

/-- The host's image is refused: the ROM records the cause and waits for a new one (R778). -/
def pcieRefused (s : Device) : Device :=
  modBoot (fun b => { b with cause := 5 }) (modHost (fun h => { h with bootBell := 0 }) s)

/-- BOOT_DOORBELL: the host has written its header and image, of this total length (R778). -/
def bootDoorbell (len : BitVec 32) (s : Device) : Device :=
  let first := romAt s .rom && s.boot.bootSrc = 1
  let again := romAt s .fwLoad && s.boot.pcie
  if !first && !again then s
  else
    let h := memRead s.host.bootBuf 0 256
    if !bootHdrOk h then pcieRefused s
    else
      let s := modHost (fun x => { x with bootBell := len.toNat }) s
      let s := modBoot (fun b =>
        { b with header := h, copy := none, pcie := true, headerDefault := false, reverted := false,
                 refusedSlot := if first then false else b.refusedSlot, scriptNext := (0, 0), scriptDone := false }) s
      if first then setStage (afterHdr s) s else s

/-! ### Firmware images (R779 to R783) -/

/-- Status of an examined image in the coding of `detail` (R780, Table 20-5): 0 accepted, 1 format, 2 signature,
3 rollback, 4 key slot. -/
def fwStatus (s : Device) (x : FwImageIn) : Nat :=
  let h := x.header
  if h.length ≠ 160 || rd h 0 4 ≠ 0x465A4C42 || rd h 4 2 ≠ 1 || rd h 6 2 ≠ 0 || bhSlotLen s.boot.header < rd h 8 4 ||
      63 < rd h 12 2 || 2 < rd h 14 1 then 1
  else if !keyAccepted s (rd h 14 1) x.oemHash then 4
  else if !x.sigOk then 2
  else if rd h 12 2 < s.boot.otp.fwCounter then 3
  else 0

/-- A slot has been examined. -/
def noteSlot (k : Nat) (st : Nat) (x : FwImageIn) (s : Device) : Device :=
  let f (q : FwSlot) : FwSlot := { q with status := some st, version := rd x.header 16 4, sec := rd x.header 12 2 % 64 }
  modBoot (fun b => { b with slots := if k = 0 then { b.slots with a := f b.slots.a } else { b.slots with b := f b.slots.b },
                             refusedSlot := b.refusedSlot || st ≠ 0 }) s

/-- The firmware of an image runs; the next step is the self-test, or step 4 at a MGMT start (Table 20-4). -/
def runFw (slot : Nat) (x : FwImageIn) (s : Device) : Device :=
  let s := modBoot (fun b => { b with fwRuns := true, fwSlot := slot, fwVersion := rd x.header 16 4,
                                      fwSec := rd x.header 12 2 % 64 }) s
  setStage (if s.boot.kind = .mgmt then .dramTrain else .selfTest) s

/-- The trial of the preferred slot before it is tried: one attempt more, or after three the other slot is preferred
again (R782). -/
def trialStep (s : Device) : Device :=
  let h := s.boot.header
  let t := bhTrial h
  if t % 2 = 0 then s
  else if t / 16 < 3 then updateHdr (put h 15 (le 1 (t + 16))) s
  else modBoot (fun b => { b with reverted := true }) (updateHdr (put (put h 14 (le 1 (1 - bhPref h))) 15 [0]) s)

/-- FIRMWARE_VERIFIED: the ROM examines the slots, the preferred one first, or the host's image, and runs the first it
accepts (R780 to R782). -/
def firmwareVerified (a b p : FwImageIn) (s : Device) : Device :=
  if !romAt s .fwLoad then s
  else if s.boot.pcie || s.boot.bootSrc = 1 then
    if s.host.bootBell = 0 then s
    else
      let x : FwImageIn := { p with header := memRead s.host.bootBuf 256 160 }
      if fwStatus s x = 0 && rd x.header 8 4 + 256 = s.host.bootBell then runFw 2 x s else pcieRefused s
  else
    let s := trialStep s
    let k := bhPref s.boot.header % 2
    let img (j : Nat) : FwImageIn := if j = 0 then a else b
    let s := noteSlot k (fwStatus s (img k)) (img k) s
    if fwStatus s (img k) = 0 then runFw k (img k) s
    else
      let s := noteSlot (1 - k) (fwStatus s (img (1 - k))) (img (1 - k)) s
      if fwStatus s (img (1 - k)) = 0 then runFw (1 - k) (img (1 - k)) s
      else if s.boot.bootSrc = 2 then
        modBoot (fun b => { b with pcie := true }) (modHost (fun h => { h with bootBell := 0 }) s)
      else bootStop 2 (fwStatus s a + 16 * fwStatus s b) s

/-! ### Steps 3 to 5 (R785 to R787) -/

/-- SRAM_SELF_TEST_COMPLETE: an unrepairable failure of a carrier powers it off, any other stops boot with the block
that failed (R785). -/
def sramSelfTestComplete (car : Two Bool) (other : Option Nat) (s : Device) : Device :=
  if s.boot.stage ≠ .selfTest || !s.boot.fwRuns then s
  else match other with
  | some block => bootStop 3 block s
  | none =>
    let s := modBoot (fun b => { b with bistFail := car }) s
    let s := if car.a || car.b then fault 0x1004 0 [] s else s
    setStage .dramTrain s

/-- What the mount of the archive finds (R793). -/
def mountNand (x : Option NandIn) (s : Device) : Device :=
  match x with
  | none => fault 0x1007 0 [] (modBoot (fun b => { b with nand := { b.nand with present := false } }) s)
  | some n =>
    modBoot (fun b => { b with nand := { b.nand with
      present := true, channels := n.channels, targets := n.targets, capacity := n.capacity, blockMiB := n.blockMiB,
      endurance := n.endurance } }) s

/-- DRAM_TRAINING_COMPLETE: training ends and the archive is mounted; a tower that fails stops boot (R786). At a MGMT
start only the archive is mounted (Table 20-4). -/
def dramTrainingComplete (failed : Option (Fin 4)) (nand : Option NandIn) (s : Device) : Device :=
  if s.boot.stage ≠ .dramTrain || !s.boot.fwRuns then s
  else if s.boot.kind = .mgmt then
    modBoot (fun b => { b with scriptDone := true }) (mountNand nand s)
  else match failed with
  | some t => bootStop 4 t.val s
  | none =>
    let s := mountNand nand (dramReset s)
    let s := if inReset s .dram then leaveReset .dram {} s else s
    setStage .accord s

/-- The library entry or NOR image that the header names for the boot Accord (R787). -/
def bootImage (s : Device) (x : BootAccordIn) : Option (List Byte) :=
  if rd s.boot.header 28 1 = 2 then some x.nor
  else match libEntry s (rd s.boot.header 32 8) with
    | some e => if e.invalid || !s.boot.nand.present then none else some e.data
    | none => none

/-- BOOT_ACCORD: the boot Accord goes to store slot 0, is verified, staged, and switched to with carrier A as reference
(R787). Any failure is `BOOT_ACCORD_FAIL`. -/
def bootAccord (x : BootAccordIn) (s : Device) : Device :=
  if s.boot.stage ≠ .accord || !s.boot.fwRuns then s
  else
    let done (s : Device) : Device := setStage .script s
    let fail (s : Device) : Device := done (fault 0x1005 0 [] s)
    if rd s.boot.header 28 1 = 0 then done s
    else match bootImage s x with
      | none => fail s
      | some image =>
        let s := modSlot 0 (fun _ => { state := .verifying, image, imageLen := image.length, source := 2 }) s
        let s := accordVerifyComplete 0 x.verify s
        if (accSlot s 0).state ≠ .valid then fail s
        else
          let s := stagingComplete x.staged (startStaging 0 s)
          if s.accord.standby ≠ .ready || switchRefused s .a false ||
              (planBlocks s.accord.standbySet.plan).any (fun b => !clkOn s b) then fail s
          else done (scheduleSwitch .a 0 s)

/-- FW_READY: the start is complete. What the ROM found is reported, and commands that a MGMT reset cancelled are
reported not permitted (R776, R780, R782, R789; 21_mailbox_interface R896). -/
def fwReady (s : Device) : Device :=
  let st := s.boot.stage
  let due := s.boot.scriptDone && (st = .script || (st = .dramTrain && s.boot.kind = .mgmt))
  if !due || !s.boot.fwRuns then s
  else
    let s := changePhase (fun s => setStage .ready (modFault (fun f => { f with startup := false }) s)) s
    let k := match s.boot.kind with | .por => 0 | .device => 1 | .mgmt => 2
    let s := raise 0x1001 0 0 (fields 8 [(0, le 1 k), (4, le 4 s.boot.fwVersion)]) s
    let s := if s.boot.headerDefault then fault 0x1001 0 [] s else s
    let s := if s.boot.refusedSlot then fault 0x1002 0 [] s else s
    let s := if s.boot.reverted then fault 0x1003 0 [] s else s
    let l := s.host.cancelled
    let s := modHost (fun h => { h with cancelled := [] }) s
    each l (fun p s => raise 0x0001 p.mb 0 (le 1 p.mb ++ le 1 Status.notPermitted.code ++ le 2 p.op ++ le 2 p.seq) s) s

/-! ### NOR (R775, R783, R800) -/

/-- The slot that NV_FW_WRITE and NV_FW_ACTIVATE address: the one that does not run; while the firmware came from the
host, the one that is not preferred. -/
def idleSlot (s : Device) : Nat :=
  if s.boot.fwSlot = 0 then 1 else if s.boot.fwSlot = 1 then 0 else 1 - bhPref s.boot.header % 2

/-- NOR address of a slot. -/
def slotAddr (s : Device) (k : Nat) : Nat := rd s.boot.header (16 + 4 * k) 4

/-- Bytes of a slot. -/
def slotBytes (s : Device) (k : Nat) : List Host.Cell := if k = 0 then s.boot.slots.a.bytes else s.boot.slots.b.bytes

/-- A NOR byte; erased bytes read 0xFF. -/
def norGet (m : List Host.Cell) (a : Nat) : Byte := Tab.get (fun _ => 0xFF) m a

/-- Program NOR bytes: bits only go from 1 to 0. -/
def norProgram (m : List Host.Cell) (a : Nat) (bs : List Byte) : List Host.Cell :=
  match bs with
  | [] => m
  | b :: r => norProgram (Tab.set (fun _ => (0xFF : Byte)) m a (norGet m a &&& b)) (a + 1) r

/-- A write needs an erase first: a bit would go from 0 to 1. -/
def needsErase (m : List Host.Cell) (a : Nat) (bs : List Byte) : Bool :=
  match bs with
  | [] => false
  | b :: r => norGet m a &&& b ≠ b || needsErase m (a + 1) r

/-- The sectors that `n` bytes from a NOR address lie in. -/
def sectorsOf (a n : Nat) : List Nat := if n = 0 then [] else (List.range ((a + n - 1) / 65536 - a / 65536 + 1)).map (a / 65536 + ·)

/-- What a NOR write command addresses: base address, region, offset and data. -/
def norTarget (op : Nat) (r : Req) (s : Device) : Nat × List Host.Cell × Nat × List Byte :=
  let o := rd r.params 0 4
  let bs := slice r.params 8 (rd r.params 4 2)
  if op = 0x1003 then (slotAddr s (idleSlot s), slotBytes s (idleSlot s), o, bs)
  else (rd s.boot.header 44 4, s.boot.script, o, bs)

/-- The region of a NOR write command replaced. -/
def norPut (op : Nat) (m : List Host.Cell) (s : Device) : Device :=
  if op = 0x1003 then
    if idleSlot s = 0 then modBoot (fun b => { b with slots := { b.slots with a := { b.slots.a with bytes := m } } }) s
    else modBoot (fun b => { b with slots := { b.slots with b := { b.slots.b with bytes := m } } }) s
  else modBoot (fun b => { b with script := m }) s

/-- A NOR write: programmed at once where its bytes are erased and no sector of it is under erase; else its sectors are
erased, or awaited, and the command is held (R800). -/
def norWrite (op : Nat) (r : Req) (s : Device) : Resp × Device :=
  let t := norTarget op r s
  let base := t.1
  let m := t.2.1
  let o := t.2.2.1
  let bs := t.2.2.2
  let secs := sectorsOf (base + o) bs.length
  let wait := secs.any fun k => k ∈ s.boot.norErase
  if !wait && !needsErase m o bs then (Resp.okay, norPut op (norProgram m o bs) s)
  else
    let more := if wait then [] else secs
    (⟨.pending, []⟩, modBoot (fun b => { b with norErase := b.norErase ++ more, norHeld := b.norHeld ++ [⟨op, r⟩] }) s)

/-- The bytes of a region that lie in a NOR sector erased. -/
def eraseIn (base : Nat) (sector : Nat) (m : List Host.Cell) : List Host.Cell :=
  m.filter fun p => (base + p.1) / 65536 ≠ sector

/-- A NOR sector erase ends; one that fails leaves its bytes (R800, Table 20-9). -/
def norErased (k : Nat) (ok : Bool) (s : Device) : Device :=
  if k ∉ s.boot.norErase then s
  else
    let s := modBoot (fun b => { b with norErase := b.norErase.erase k }) s
    let s :=
      if ok then
        modBoot (fun b =>
          { b with
            slots := ⟨{ b.slots.a with bytes := eraseIn (rd b.header 16 4) k b.slots.a.bytes },
                      { b.slots.b with bytes := eraseIn (rd b.header 20 4) k b.slots.b.bytes }⟩
            script := eraseIn (rd b.header 44 4) k b.script }) s
      else fault 0x100B 0 [] s
    let run (h : Held) (s : Device) : Device :=
      let t := norTarget h.op h.req s
      if (sectorsOf (t.1 + t.2.2.1) t.2.2.2.length).any fun k => k ∈ s.boot.norErase then s
      else
        let s := modBoot (fun b => { b with norHeld := b.norHeld.erase h }) s
        heldDone h .ok (norPut h.op (norProgram t.2.1 t.2.2.1 t.2.2.2) s)
    each s.boot.norHeld run s

/-! ### NAND (R793 to R800) -/

/-- Entries of an area of the archive. -/
def nandEntries (s : Device) (area : Nat) : List NandEntry := Tab.get (fun _ => []) s.boot.nand.entries area

/-- Change the archive. -/
def modNand (f : NandSt → NandSt) (s : Device) : Device := modBoot (fun b => { b with nand := f b.nand }) s

/-- An entry is marked invalid (R794). -/
def spoilEntry (area id : Nat) (s : Device) : Device :=
  let f (l : List NandEntry) : List NandEntry := l.map fun e => if e.id = id then { e with invalid := true } else e
  modNand (fun n => { n with entries := Tab.modify (fun _ => []) n.entries area f }) s

/-- An uncorrectable codeword is met in an area (R794): the fault, and what it does to the entry it lies in. -/
def nandUe (area id : Nat) (s : Device) : Device :=
  let s := fault 0x1008 0 [] s
  match area with
  | 0 => spoilEntry 0 id s
  | 1 => modNand (fun n => { n with snaps := n.snaps.eraseIdx id }) s
  | 2 => modNand (fun n => { n with blackBox := n.blackBox.eraseIdx id }) s
  | _ => spoilEntry 3 id s

/-- The entries that a command reads or writes are under erase (R800). -/
def nandErasing (s : Device) (area id : Nat) : Bool :=
  s.boot.nand.format.isSome || s.boot.nand.erasing.contains (area, id)

/-- A command on the archive is held (R800). -/
def holdNand (op : Nat) (r : Req) (s : Device) : Resp × Device :=
  (⟨.pending, []⟩, modNand (fun n => { n with held := n.held ++ [⟨op, r⟩] }) s)

/-- The wear of the archive; `NAND_WEAR_HIGH` when a block reaches 90 % of its endurance (R798). -/
def setWear (w : WearIn) (s : Device) : Device :=
  let n := s.boot.nand
  let high := 9 * n.endurance ≤ 10 * w.hi && n.endurance ≠ 0
  let was := 9 * n.endurance ≤ 10 * n.erases.2.2
  let s := modNand (fun n => { n with erases := (w.lo, w.mean, w.hi) }) s
  if high && !was then fault 0x100A 0 [] s else s

/-- NAND_PATROL: the weekly read of the data blocks; blocks are rewritten without change of content, and uncorrectable
codewords found are handled (R794, R799). -/
def nandPatrol (ue : List (Nat × Nat)) (w : WearIn) (s : Device) : Device :=
  if !s.boot.nand.present || s.boot.stage ≠ .ready then s
  else setWear w (each ue (fun p s => nandUe p.1 p.2 s) s)

/-- NAND_BLOCK_GROWN: a block is marked bad and replaced from the reserve, then from the spill area (R797). -/
def nandBlockGrown (s : Device) : Device :=
  if !s.boot.nand.present then s
  else
    let s := modNand (fun n =>
      let bad := sat 32 (n.grownBad + 1)
      if 0 < n.reserve then { n with grownBad := bad, reserve := n.reserve - 1 }
      else if n.blockMiB ≤ n.spillMiB then { n with grownBad := bad, spillMiB := n.spillMiB - n.blockMiB }
      else { n with grownBad := bad, noBlocks := true }) s
    fault 0x1009 0 [] s

/-! ### NVSTORE commands -/

/-- The number of a stage (Table 20-5). -/
def Stage.num : Stage → Nat
  | .rom => 0
  | .clocks => 1
  | .fwLoad => 2
  | .selfTest => 3
  | .dramTrain => 4
  | .accord => 5
  | .script => 6
  | .ready => 7
  | .stopped => 15

/-- The number of a kind of start. -/
def StartKind.num : StartKind → Nat
  | .por => 0
  | .device => 1
  | .mgmt => 2

/-- The boot status register (R791, Table 20-5). -/
def bootStatus (s : Device) : Nat :=
  s.boot.detail * 65536 + s.boot.cause * 256 + StartKind.num s.boot.kind * 16 + Stage.num s.boot.stage

/-- NV_STATUS (Table 22-13). -/
def nvStatusCmd : Cmd where
  act := reads fun s _ =>
    let b := s.boot
    fields 32 [(0, le 4 (bootStatus s)), (4, le 1 b.fwSlot), (5, le 1 (b.slots.a.status.getD 0xFF)),
      (6, le 1 (b.slots.b.status.getD 0xFF)), (7, le 1 b.otp.fwCounter), (8, le 4 b.slots.a.version),
      (12, le 4 b.slots.b.version), (16, le 2 b.slots.a.sec), (18, le 2 b.slots.b.sec), (20, le 1 (bhPref b.header)),
      (21, le 1 (bhTrial b.header)), (22, le 2 (bhSeq b.header)), (24, le 1 (b.copy.getD 0xFF)),
      (28, le 4 (bhScriptLen b.header))]

/-- NV_HEADER_READ: the header in use. -/
def nvHeaderReadCmd : Cmd where
  act := reads fun s _ => fit 256 s.boot.header

/-- An `xi_mhz` field is one of the values of Table 20-2. -/
def xiField (v : Nat) : Bool := v % 256 ∈ [0, 10, 20, 40, 80, 160] && v / 256 % 128 = 0

/-- NV_HEADER_WRITE (R777, Table 20-2). -/
def nvHeaderWriteCmd : Cmd where
  field := fun _ r off =>
    let v := rd r.params off (if off = 13 then 1 else if off = 8 || off = 10 then 2 else 4)
    match off with
    | 8 => xiField v
    | 10 => xiField v
    | 13 => v = 0 || (25 ≤ v && v ≤ 133)
    | 16 => v % 65536 = 0
    | 20 => v % 65536 = 0
    | _ => true
  act := does fun r s => updateHdr r.params s

/-- The length field of a write command agrees with its data and its region. -/
def chunkField (r : Req) (limit : Nat) (off : Nat) : Bool :=
  if off = 4 then rd r.params 4 2 + 8 = r.params.length && rd r.params 0 4 + rd r.params 4 2 ≤ limit else true

/-- A held command of this opcode waits for a NOR erase. -/
def norHeldOp (s : Device) (op : Nat) : Bool := s.boot.norHeld.any fun h => h.op = op

/-- NV_FW_WRITE (R783, R800). -/
def nvFwWriteCmd : Cmd where
  field := fun s r off => chunkField r (bhSlotLen s.boot.header) off
  state := fun s _ =>
    if norHeldOp s 0x1003 then some (.busy, 0)
    else if bhTrial s.boot.header % 2 = 1 then some (.notPermitted, 0) else none
  act := norWrite 0x1003

/-- NV_SCRIPT_WRITE (R788, R800). -/
def nvScriptWriteCmd : Cmd where
  field := fun _ r off => chunkField r 65536 off
  state := fun s _ => if norHeldOp s 0x1007 then some (.busy, 0) else none
  act := norWrite 0x1007

/-- NV_FW_ACTIVATE (R783). -/
def nvFwActivateCmd : Cmd where
  state := fun s _ => if s.boot.activate.isSome then some (.busy, 0) else none
  act := fun r s => (⟨.pending, []⟩, modBoot (fun b => { b with activate := some ⟨0x1004, r⟩ }) s)

/-- FW_ACTIVATE_COMPLETE: verification of the slot that does not run ends (R783). -/
def fwActivateComplete (x : FwImageIn) (s : Device) : Device :=
  match s.boot.activate with
  | none => s
  | some h =>
    let k := idleSlot s
    let st := fwStatus s x
    let was := s.boot.refusedSlot
    let s := modBoot (fun b => { b with activate := none, refusedSlot := was }) (noteSlot k st x s)
    if st = 0 then heldDone h .ok (updateHdr (put (put s.boot.header 14 (le 1 k)) 15 [1]) s)
    else heldDone h .denied s

/-- NV_FW_COMMIT (R783). -/
def nvFwCommitCmd : Cmd where
  state := fun s _ =>
    if bhTrial s.boot.header % 2 = 1 && s.boot.fwSlot = bhPref s.boot.header then none else some (.notPermitted, 0)
  act := does fun _ s => updateHdr (put s.boot.header 15 [0]) s

/-- NV_FW_VERSION_COMMIT (R783; 02_accords_and_loop_engines R60; 23_package_pins_electrical R872). -/
def nvFwVersionCommitCmd : Cmd where
  state := fun s r =>
    let v := rd r.params 0 1
    if !s.elec.vppOk || s.boot.fwSec < v || v < s.boot.otp.fwCounter then some (.notPermitted, 0) else none
  act := does fun r s => modBoot (fun b => { b with otp := { b.otp with fwCounter := rd r.params 0 1 } }) s

/-- NAND_INFO (R798, Table 22-13). -/
def nandInfoCmd : Cmd where
  act := reads fun s _ =>
    let n := s.boot.nand
    fields 48 [(0, le 1 (bit n.present)), (1, le 1 n.channels), (2, le 1 n.targets), (4, le 8 n.capacity),
      (12, le 4 n.erases.1), (16, le 4 n.erases.2.1), (20, le 4 n.erases.2.2), (24, le 4 n.endurance),
      (28, le 8 n.written), (36, le 4 n.grownBad), (40, le 4 n.reserve), (44, le 4 n.spillMiB)]

/-- ARCHIVE_LIST: the spec gives its response no layout, so its bytes are free (log 12). -/
def archiveListCmd : Cmd where
  state := fun s _ => if s.boot.nand.present then none else some (.noResource, 0)
  act := fun _ s =>
    let n := drawNat s
    let b := drawBytes (n.1 % 4033) n.2
    (⟨.ok, b.1⟩, b.2)

/-- The bytes of an archive entry: of areas 0 and 3 by entry ID, of area 2 by place in the ring; those of a Sillage
snapshot have no layout in the spec. -/
def entryBytes (s : Device) (area id : Nat) : Option (List Byte) :=
  match area with
  | 1 => if id < s.boot.nand.snaps.length then some [] else none
  | 2 => s.boot.nand.blackBox[id]?.map faultBytes
  | _ => ((nandEntries s area).find? fun e => e.id = id).map (·.data)

/-- ARCHIVE_READ (Table 20-8, R800). An entry under erase holds the command. -/
def archiveReadCmd : Cmd where
  field := fun s r off =>
    let id := rd r.params 8 8
    if off = 8 then nandErasing s (rd r.params 0 1) id || !s.boot.nand.present || (entryBytes s (rd r.params 0 1) id).isSome
    else true
  state := fun s _ =>
    if !s.boot.nand.present then some (.noResource, 0)
    else if s.boot.nand.held.any fun h => h.op = 0x100A then some (.busy, 0) else none
  waits := fun s r => !nandErasing s (rd r.params 0 1) (rd r.params 8 8)
  act := fun r s =>
    let area := rd r.params 0 1
    let id := rd r.params 8 8
    if nandErasing s area id then holdNand 0x100A r s
    else if area = 1 then
      let b := drawBytes (rd r.params 2 2) s
      (⟨.ok, b.1⟩, b.2)
    else (⟨.ok, slice ((entryBytes s area id).getD []) (rd r.params 4 4) (rd r.params 2 2)⟩, s)

/-- The entry being written to the library. -/
def writingEntry (s : Device) : Option NandEntry := Tab.get (fun _ => none) s.boot.nand.writing 0

/-- Fields of ARCHIVE_WRITE (R796, Table 22-11): chunks of one entry follow one another, and `LAST` ends it. -/
def archiveWriteField (s : Device) (r : Req) (off : Nat) : Bool :=
  let p := r.params
  let o := rd p 4 4
  let n := rd p 2 2
  let total := rd p 16 4
  match off with
  | 1 => rd p 1 1 = 0 || o + n = total
  | 2 => n + 24 = p.length
  | 4 =>
    o + n ≤ total &&
      (o = 0 || (match writingEntry s with
        | some e => e.id = rd p 8 8 && e.total = total && e.data.length = o
        | none => false))
  | 16 => total ≤ 0x4000000
  | _ => true

/-- ARCHIVE_WRITE (R796, R797, R800). -/
def archiveWriteCmd : Cmd where
  field := archiveWriteField
  state := fun s r =>
    let id := rd r.params 8 8
    let l := nandEntries s 0
    if !s.boot.nand.present || s.boot.nand.noBlocks || (64 ≤ l.length && l.all fun e => e.id ≠ id) then
      some (.noResource, 0)
    else if s.boot.nand.held.any fun h => h.op = 0x100B then some (.busy, 0) else none
  waits := fun s r => !nandErasing s 0 (rd r.params 8 8)
  act := fun r s =>
    let p := r.params
    let id := rd p 8 8
    let o := rd p 4 4
    if nandErasing s 0 id then holdNand 0x100B r s
    else
      let old := if o = 0 then [] else match writingEntry s with | some e => e.data | none => []
      let e : NandEntry := { id, data := old ++ p.drop 24, total := rd p 16 4 }
      let s := modNand (fun n => { n with written := wrap 64 (n.written + (p.length - 24)) }) s
      (Resp.okay,
        if rd p 1 1 = 1 then
          modNand (fun n => { n with
            writing := Tab.set (fun _ => none) n.writing 0 none
            entries := Tab.modify (fun _ => []) n.entries 0 (fun l => (l.filter fun x => x.id ≠ id) ++ [e]) }) s
        else modNand (fun n => { n with writing := Tab.set (fun _ => none) n.writing 0 (some e) }) s)

/-- ARCHIVE_DELETE (Table 20-8): the blocks of the entry are erased. -/
def archiveDeleteCmd : Cmd where
  field := fun s r off =>
    if off = 4 then !s.boot.nand.present || (entryBytes s (rd r.params 0 1) (rd r.params 4 8)).isSome else true
  state := fun s r =>
    let area := rd r.params 0 1
    let id := rd r.params 4 8
    if !s.boot.nand.present then some (.noResource, 0)
    else if area = 0 && rd s.boot.header 28 1 = 1 && rd s.boot.header 32 8 = id then some (.notPermitted, 0) else none
  act := does fun r s =>
    let area := rd r.params 0 1
    let id := rd r.params 4 8
    match area with
    | 1 => modNand (fun n => { n with snaps := n.snaps.eraseIdx id }) s
    | 2 => modNand (fun n => { n with blackBox := n.blackBox.eraseIdx id }) s
    | _ => modNand (fun n => { n with
        entries := Tab.modify (fun _ => []) n.entries area (fun l => l.filter fun e => e.id ≠ id)
        erasing := n.erasing ++ [(area, id)] }) s

/-- NAND_FORMAT (R795). -/
def nandFormatCmd : Cmd where
  state := fun s _ =>
    if !s.boot.nand.present then some (.noResource, 0)
    else if s.boot.nand.format.isSome then some (.busy, 0) else none
  act := fun r s => (⟨.pending, []⟩, modNand (fun n => { n with format := some ⟨0x100D, r⟩ }) s)

/-- Commands held by an erase that has ended run (R800); `cmd` gives each its runner. -/
def runNandHeld (s : Device) : Device :=
  let ready (h : Held) : Bool :=
    !nandErasing s (if h.op = 0x100B then 0 else rd h.req.params 0 1) (rd h.req.params 8 8)
  each (s.boot.nand.held.filter ready) (fun h s =>
    let s := modNand (fun n => { n with held := n.held.erase h }) s
    runHeld h (if h.op = 0x100A then archiveReadCmd else archiveWriteCmd) s) s

/-- FLASH_ERASE_COMPLETE: an erase ends and held commands run; one that fails is reported (R797, R800). -/
def flashEraseComplete (u : FlashUnit) (ok : Bool) (s : Device) : Device :=
  match u with
  | .nor k => norErased k ok s
  | .nand area id =>
    if (area, id) ∉ s.boot.nand.erasing then s
    else
      let s := modNand (fun n => { n with erasing := n.erasing.erase (area, id) }) s
      runNandHeld (if ok then s else nandBlockGrown s)

/-- NAND_FORMAT_COMPLETE: everything is erased and the areas of Table 20-7 are laid out over the blocks that the factory
marks leave (R795). -/
def nandFormatComplete (bad : Nat) (s : Device) : Device :=
  match s.boot.nand.format with
  | none => s
  | some h =>
    let n := s.boot.nand
    let blocks := if n.blockMiB = 0 then 0 else n.capacity / (n.blockMiB * 2 ^ 20)
    let reserve := blocks * 2 / 100
    let spill := (blocks - bad - blocks / 200 - reserve) * n.blockMiB - (64 * 64 + 16 * 4 + 2)
    let s := modNand (fun n => { n with format := none, entries := [], writing := [], snaps := [], blackBox := [],
                                        erasing := [], reserve, spillMiB := spill, noBlocks := false }) s
    runNandHeld (heldDone h .ok s)

end Sys2Proof.Machine
end

