-- ==== Sys2Proof/Machine/Diag.lean ====
section
/-!
DEFINITION. DEVICE and DIAG commands with one-time-programmable memory (22_command_reference R848, R855, R856), and the
electrical monitors (23_package_pins_electrical R870, R871, R884).
-/
namespace Sys2Proof.Machine
open Sys2Proof

/-- DEVICE_INFO (R848, Table 22-6). -/
def deviceInfoCmd : Cmd where
  act := reads fun s _ =>
    let h := s.accord.active.header
    fields 32 [(0, le 4 s.boot.fwVersion), (4, le 1 s.boot.fwSlot), (5, le 1 (Stage.num s.boot.stage)),
      (6, le 1 s.host.variant), (7, le 1 s.stack.stackId),
      (8, if s.accord.active.slot.isSome then le 8 (hdrId h) else zeros 8), (16, le 1 (s.accord.active.slot.getD 0xFF)),
      (17, le 1 s.accord.standby.code), (18, le 1 s.boot.otp.fwCounter), (19, le 1 s.boot.otp.accordCounter),
      (20, le 4 s.host.uptime), (24, le 1 s.boot.otp.fused.toNat)]

/-- Some key that R52 and R53 accept is left when `gone` more items are fused. -/
def keyLeft (s : Device) (gone : BitVec 6) : Bool :=
  let f := s.boot.otp.fused ||| gone
  !f.getLsbD 4 || (f.getLsbD 0 && !f.getLsbD 2) || (f.getLsbD 1 && !f.getLsbD 3)

/-- `value` of OTP_PROGRAM fits its item (Table 22-14). -/
def otpValueOk (item : Nat) (v : List Byte) : Bool :=
  match item with
  | 0 => v ≠ zeros 48
  | 1 => v ≠ zeros 48
  | 5 => v ≠ zeros 48 && v.drop 32 = zeros 16
  | _ => v = zeros 48

/-- OTP_PROGRAM (R855). -/
def otpProgramCmd : Cmd where
  field := fun _ r off => if off = 4 then otpValueOk (rd r.params 0 1) (slice r.params 4 48) else true
  state := fun s r =>
    let k := rd r.params 0 1
    let f := s.boot.otp.fused
    if f.getLsbD k || !s.elec.vppOk then some (.notPermitted, 0)
    else if k = 4 && !((f.getLsbD 0 && !f.getLsbD 2) || (f.getLsbD 1 && !f.getLsbD 3)) then some (.notPermitted, 0)
    else if (k = 2 || k = 3) && !keyLeft s (1#6 <<< k) then some (.notPermitted, 0)
    else if s.kme.alarm then some (.denied, 0)
    else if s.boot.otp.burn.isSome then some (.busy, 0)
    else none
  act := fun r s => (⟨.pending, []⟩, modBoot (fun b => { b with otp := { b.otp with burn := some ⟨0x0002, r⟩ } }) s)

/-- OTP_BURN_COMPLETE: the item holds its new value, or its old one (R855; 23_package_pins_electrical R872). -/
def otpBurnComplete (ok : Bool) (s : Device) : Device :=
  match s.boot.otp.burn with
  | none => s
  | some h =>
    let k := rd h.req.params 0 1
    let v := slice h.req.params 4 48
    let o := { s.boot.otp with burn := none }
    let o : OtpSt := if !ok then o else
      { o with
        fused := o.fused ||| (1#6 <<< k)
        hash := if k = 0 then { o.hash with a := v } else if k = 1 then { o.hash with b := v } else o.hash
        kek := if k = 5 then some (BitVec.ofNat 256 (fromBe (v.take 32))) else o.kek }
    heldDone h (if ok then .ok else .denied) (modBoot (fun b => { b with otp := o }) s)

/-- DIAG_ECHO (R856). -/
def diagEchoCmd : Cmd where
  act := reads fun _ r => r.params

/-- DIAG_SENSORS (R856): averages over the last slow tick. -/
def diagSensorsCmd : Cmd where
  act := reads fun s _ =>
    ((List.range 8).flatMap fun i => leInt 2 (s.elec.temps.getD i 0)) ++
      ((List.range 10).flatMap fun i => le 2 (s.elec.supplies.getD i 0)) ++ le 2 s.elec.avsTarget ++ [0, 0]

/-! ### Electrical monitors -/

/-- The target one step nearer the one wanted: within 650 to 850 mV, in steps of 5 mV, at most 10 mV from the last
(R870). -/
def avsNext (last want : Nat) : Nat :=
  let w := max 650 (min 850 (want / 5 * 5))
  max (last - 10) (min (last + 10) w)

/-- The electrical monitors at a slow-tick boundary (R870, R871, R884). -/
def elecSlowTick (x : ElecIn) (s : Device) : Device :=
  let e := s.elec
  let core := x.supplies.getD 0 0
  let off := 20 * (if core < e.avsTarget then e.avsTarget - core else core - e.avsTarget) > e.avsTarget
  let send := s.boot.fwRuns && (e.avsSent || s.boot.stage = .accord || s.boot.stage = .script || s.boot.stage = .ready)
  let e : ElecSt :=
    { e with
      supplies := (List.range 10).map fun i => x.supplies.getD i 0
      temps := (List.range 8).map fun i => x.temps.getD i 0
      vppOk := 1750 ≤ x.supplies.getD 9 0
      hotRun := if x.temps.any (10500 < ·) then min 15 (e.hotRun + 1) else 0
      coolRun := if x.temps.all (· < 10000) then min 15 (e.coolRun + 1) else 0
      avsOff := if off then min 15 (e.avsOff + 1) else 0
      avsNak := if e.avsSent && !x.ack then min 3 (e.avsNak + 1) else 0
      avsTarget := if send then avsNext e.avsTarget x.want else e.avsTarget
      avsSent := e.avsSent || send }
  let s := putElec e s
  let s := if send then emit (.avs e.avsTarget) s else s
  if e.avsNak < 3 && e.avsOff < 10 then faultOff 0x0E07 0 s else s

/-- AVS_FAIL: three commands in a row are not acknowledged, or VDD_CORE stays off its target for 10 slow ticks
(R871). -/
def avsFail (s : Device) : Device :=
  if 3 ≤ s.elec.avsNak || 10 ≤ s.elec.avsOff then faultOn 0x0E07 0 [] s else s

/-- TJ_HIGH begins and ends (R884). -/
def tjHigh (s : Device) : Device :=
  if 10 ≤ s.elec.hotRun then faultOn 0x0E06 0 [] s
  else if 10 ≤ s.elec.coolRun then faultOff 0x0E06 0 s else s

end Sys2Proof.Machine
end

