-- ==== Sys2Proof/Machine/Sense.lean ====
section
/-!
DEFINITION. The line sensing chain (13_line_sensing_chain R551 to R581): inputs, filters, resampler, marks, detectors,
records and the commands of the SENSE class.
-/
namespace Sys2Proof.Machine
open Sys2Proof

/-- The definition that the active Accord gives a channel (R556). -/
def sensePlanOf (pl : Plan) (ch : Nat) : SensePlan := (pl.sense.find? fun d => d.ch = ch).getD { ch }

/-- The definition in force. -/
def senseDef (s : Device) (ch : Nat) : SensePlan := sensePlanOf (plan s) ch

/-- A setting of SENSE_CONFIG in force. -/
def senseSet (s : Device) (ch off : Nat) : Nat := dsetN s 0x0A00 ch off

end Sys2Proof.Machine
namespace Sys2Proof
open Sys2Proof.Machine

/-- Decimation before the FIR: M × 2^H. -/
def SensePlan.pre (d : SensePlan) : Nat := d.m * 2 ^ d.h
/-- Decimation before the resampler: M × 2^H × F. -/
def SensePlan.all (d : SensePlan) : Nat := d.m * 2 ^ d.h * d.f

/-- The span S in µs (R560, Table 13-2). -/
def SensePlan.span (d : SensePlan) : Nat :=
  d.n * (d.m - 1) + ((List.range d.h).map fun k => 22 * (d.m * 2 ^ k)).sum + (d.coefs.length - 1) * d.pre + 7 * d.all

/-- The channel is linear-phase (R561). -/
def SensePlan.linear (d : SensePlan) : Bool := d.coefs.isEmpty || d.sym

/-- Σ k h_k (R562). -/
def moment (k : Nat) : List Int → Int
  | [] => 0
  | h :: r => (k : Int) * h + moment (k + 1) r

/-- The delay D, 2⁻¹⁶ ns (R561, R562). A FIR whose coefficients sum to 0 has no group delay at 0 Hz that the spec
states: it is free (log 12). -/
def SensePlan.delay (d : SensePlan) : Int :=
  let half : Int := d.span * US / 2
  if d.linear then half
  else
    let sum := d.coefs.foldl (· + ·) 0
    let tf : Int := d.pre * US
    half - ((d.coefs.length - 1 : Nat) : Int) * tf / 2 +
      (if sum = 0 then Config.freeInt 0 else moment 0 d.coefs * tf / sum)

/-- ⌈S × rate⌉ (R567). -/
def SensePlan.unsettledCount (d : SensePlan) (n p : Nat) : Nat := (d.span * n + p * 1000000 - 1) / (p * 1000000)

/-- Mean cost at a rate, × 0.001 cycle per µs (R574, Table 13-2). -/
def SensePlan.cost (d : SensePlan) (n p : Nat) : Nat :=
  let den := d.all * p * 1000000
  let per (cycles dec : Nat) : Nat := cycles * den * 1000 / dec
  let l := d.coefs.length
  let fir := if l = 0 then 0 else per ((if d.sym then (l + 1) / 2 else l) + 1) d.all
  (d.n * den * 1000 + per (d.n + 1) d.m + ((List.range d.h).map fun k => per 8 (d.m * 2 ^ (k + 1))).sum + fir +
    13 * n * d.all * 1000) / den

end Sys2Proof
namespace Sys2Proof.Machine
open Sys2Proof

/-! ### Inputs (R551 to R555) -/

/-- The input of a code is valid (Table 13-1). -/
def senseValid (s : Device) (code : Nat) : Bool :=
  if code < 32 then
    let st := (s.rx.get (Carrier.ofNum (code / 16))).state
    match code % 16 with
    | 0 => st.atLeast .eqConverge
    | 1 => st.atLeast .eqConverge
    | 2 => st.atLeast .eqConverge
    | 7 => st.atLeast .eqConverge
    | 5 => st.atLeast .clockLock
    | 6 => st.atLeast .clockLock
    | 8 => st.atLeast .powerSeen
    | 9 => st.atLeast .powerSeen
    | _ => st.atLeast .carrierLock
  else if code = 32 then s.timing.dpll = .acquiring || s.timing.dpll = .locked
  else (s.ttx.get (Carrier.ofNum (code - 33))).valid

/-- The phase residual of a carrier in LSB: the unwrapped phase less the ramp (R553). -/
def phaseResidual (s : Device) (c : Carrier) (phase : Int) : Int := (phase * 1000 - (s.ramp.get c).value) / 1000

/-- The value of an input in LSB before its base is taken away (Table 13-1). -/
def senseRaw (s : Device) (i : SenseIn) (code : Nat) : Int :=
  if code < 32 then
    let c := Carrier.ofNum (code / 16)
    let v := (if code < 16 then i.a else i.b).getD (code % 16) 0
    if code % 16 = 4 then phaseResidual s c v else v
  else if code = 32 then s.timing.phaseErr / 64
  else (s.ttx.get (Carrier.ofNum (code - 33))).theta / 64

/-- The instant an input sample represents (R552). -/
def senseInstant (s : Device) (code : Nat) : Int :=
  if code < 32 then (s.timing.now : Int) - US / 2 - dRx s (Carrier.ofNum (code / 16)) else s.timing.now

/-! ### Filters (R556, R557) -/

/-- `z` read as 64 bits that wrap. -/
def wrap64 (z : Int) : Int := asSigned 64 (toCode 64 z)

/-- Shift right by `k`, rounding to nearest with ties toward +∞ (R557). -/
def shiftRound (k : Nat) (z : Int) : Int := if k = 0 then z else (z + (2 ^ (k - 1) : Nat)) / (2 ^ k : Nat)

/-- Saturate to 14 bits. -/
def sat14 (z : Int) : Int := clip (-8192) 8191 z

/-- The result of stage `k` (0 CIC, 1 to 3 half-bands, 4 FIR, 5 resampler), shifted and saturated, with its count. -/
def stageEnd (k shift : Nat) (z : Int) (q : SenseSt) : Int × SenseSt :=
  let y := shiftRound shift z
  let v := sat14 y
  if v = y then (v, q)
  else (v, { q with satNow := true, stageSat := Tab.set (fun _ => 0) q.stageSat k (sat 32 (Tab.get (fun _ => 0) q.stageSat k + 1)) })

/-- Integrators: each adds the new value of the one before. -/
def integrate (n : Nat) (x : Int) (l : List Int) : Int × List Int :=
  match n with
  | 0 => (x, [])
  | n + 1 =>
    let v := wrap64 (l.head?.getD 0 + x)
    let p := integrate n v (l.drop 1)
    (p.1, v :: p.2)

/-- Combs: each takes away its last input. -/
def comb (n : Nat) (x : Int) (l : List Int) : Int × List Int :=
  match n with
  | 0 => (x, [])
  | n + 1 =>
    let p := comb n (wrap64 (x - l.head?.getD 0)) (l.drop 1)
    (p.1, x :: p.2)

/-- The sum of products of coefficients and a line, newest first. -/
def dot (cs xs : List Int) : Int :=
  match cs with
  | [] => 0
  | c :: r => c * xs.head?.getD 0 + dot r (xs.drop 1)

/-- The 23 taps of the half-band filter: symmetric, with a DC gain of exactly 1 (R557). -/
def halfBandTaps : List Int :=
  let side := (List.range 11).map Config.halfBand
  side ++ [8192 - 2 * side.foldl (· + ·) 0] ++ side.reverse

/-- The 8 taps of a resampler phase, with a DC gain of exactly 1 (R557). -/
def resamplerTaps (phase : Nat) : List Int :=
  let l := (List.range 7).map (Config.resampler phase)
  l ++ [8192 - l.foldl (· + ·) 0]

/-- An input of the resampler that takes in the input sample of instant `t`. -/
def toResampler (t x : Int) (q : SenseSt) : SenseSt := { q with res := ((t, x) :: q.res).take 64 }

/-- One sample into the FIR. -/
def firIn (d : SensePlan) (shift : Nat → Nat) (t x : Int) (q : SenseSt) : SenseSt :=
  if d.coefs.isEmpty then toResampler t x q
  else
    let line := (x :: q.firLine).take d.coefs.length
    let q := { q with firLine := line, firCount := q.firCount + 1 }
    if q.firCount < d.f then q
    else
      let p := stageEnd 4 (shift 4) (shiftRound 13 (dot d.coefs line)) { q with firCount := 0 }
      toResampler t p.1 p.2

/-- One sample into half-band `k` + 1 of those that are left. -/
def halfBands (d : SensePlan) (shift : Nat → Nat) (t : Int) (left : Nat) (x : Int) (q : SenseSt) : SenseSt :=
  match left with
  | 0 => firIn d shift t x q
  | left + 1 =>
    let k := d.h - left
    let line := (x :: (Tab.get (fun _ => []) q.hb k : List Int)).take 23
    let n : Nat := Tab.get (fun _ => 0) q.hbCount k
    let q := { q with hb := Tab.set (fun _ => []) q.hb k line, hbCount := Tab.set (fun _ => 0) q.hbCount k (1 - n) }
    if n = 0 then q
    else
      let p := stageEnd k (shift k) (shiftRound 13 (dot halfBandTaps line)) q
      halfBands d shift t left p.1 p.2

/-- One input sample of instant `t` through the chain (R556, R557). -/
def chainIn (d : SensePlan) (shift : Nat → Nat) (t x : Int) (q : SenseSt) : SenseSt :=
  let i := integrate d.n x q.integ
  let q := { q with integ := i.2, cicCount := q.cicCount + 1 }
  if q.cicCount < d.m then q
  else
    let y := comb d.n i.1 q.combs
    let p := stageEnd 0 (shift 0) y.1 { q with combs := y.2, cicCount := 0 }
    halfBands d shift t d.h p.1 p.2

/-! ### Records and their delivery (R575, R576) -/

/-- The sensing ring that a channel names (R576). -/
def senseRing (s : Device) (ch : Nat) : Option Nat :=
  let k := senseSet s ch 2
  if k = 0xFF then none else some k

/-- Bitmap of a mark of a record's samples. -/
def markMap (f : SenseSample → Bool) (l : List SenseSample) : Nat := bitmap (l.map f)

/-- The 128 bytes of a record (Table 13-3). -/
def senseRecBytes (ch : Nat) (r : SenseRec) : List Byte :=
  le 1 ch ++ le 1 r.samples.length ++ le 2 r.seq ++ timeBytes r.t ++ le 6 (markMap (·.unsettled) r.samples) ++
    le 6 (markMap (·.invalid) r.samples) ++
    le 2 (bit (r.samples.any (·.sat)) + 2 * bit r.nonlinear + 4 * bit r.freeTick + 8 * bit r.event) ++ [0, 0] ++
    fit 96 (r.samples.flatMap fun x => leInt 2 x.x)

/-- A record is emitted: to its ring, or kept among the last 4; one that finds no room is discarded and counted. -/
def emitRecord (ch : Nat) (s : Device) : Device :=
  match (sense s ch).cur with
  | none => s
  | some r =>
    let s := modSense ch (fun q => { q with cur := none, left := none, eventInRec := false }) s
    let done (s : Device) : Device := modSense ch (fun q => { q with delivered := sat 32 (q.delivered + 1) }) s
    match senseRing s ch with
    | none => done (modSense ch (fun q => { q with kept := if q.kept.length < 4 then q.kept ++ [r] else q.kept.drop 1 ++ [r] }) s)
    | some k =>
      if (ring s k).enable && (ring s k).kind = 1 && !ringFull (ring s k) then done (ringWrite k (senseRecBytes ch r) s)
      else modSense ch (fun q => { q with drop := sat 32 (q.drop + 1), dropTick := true }) s

/-- SENSE_RECORD_EMIT: a record holds 48 samples, or its oldest has waited `flush_ms` (R575). -/
def senseRecordEmit (ch : Fin 64) (s : Device) : Device :=
  let q := sense s ch.val
  match q.cur with
  | some r => if 48 ≤ r.samples.length || expired q.left then emitRecord ch.val s else s
  | none => s

/-- Control ticks run free of device time (R564; 01_talnis_3200_at_a_glance R29). -/
def freeTicks (s : Device) : Bool := !s.clock.aligned

/-- A sample joins the channel's record. -/
def addSample (ch : Nat) (t : Time) (x : SenseSample) (s : Device) : Device :=
  let s := match (sense s ch).cur with
    | some r => if 48 ≤ r.samples.length then emitRecord ch s else s
    | none => s
  let d := senseDef s ch
  let flush := senseSet s ch 10
  modSense ch (fun q => match q.cur with
    | some r => { q with cur := some { r with samples := r.samples ++ [x], freeTick := r.freeTick || freeTicks s } }
    | none =>
      let r : SenseRec :=
        { seq := q.seq, t := t, samples := [x], nonlinear := !d.linear, freeTick := freeTicks s, event := q.eventInRec }
      { q with cur := some r, seq := wrap 16 (q.seq + 1), left := timer flush }) s

/-! ### Detectors (R570 to R572) -/

/-- A detector changes: the first change's stamp, and whether its event bit is set (R571). -/
def setDet (act k : Nat) (t : Time) (v : Bool) (q : SenseSt) : SenseSt :=
  if q.det.getLsbD k = v then q
  else { q with
    det := if v then q.det ||| (1#3 <<< k) else q.det &&& ~~~(1#3 <<< k)
    detFirst := if q.detEvent || !tb act k then q.detFirst else some t
    detEvent := q.detEvent || tb act k }

/-- The envelope after one more sample of magnitude `m` (R570), exactly. -/
def envelope (m attack decay : Nat) (e : Nat × Nat) : Nat × Nat :=
  let k := if e.1 < m * 2 ^ e.2 then attack else decay
  let num : Int := (e.1 : Int) * (2 ^ k : Nat) + ((m * 2 ^ e.2 : Nat) : Int) - e.1
  let n := num.toNat
  if n % 2 ^ (e.2 + k) = 0 then (n / 2 ^ (e.2 + k), 0) else (n, e.2 + k)

/-- The three detectors take a settled and valid sample (R570). -/
def detect (p : Nat → Nat) (t : Time) (x : Int) (q : SenseSt) : SenseSt :=
  let m := x.natAbs
  let act := p 15
  let win := 2 ^ p 16
  let peak := max q.peak m
  let n := q.winCount + 1
  let q := if p 20 < m then setDet act 0 t true q else q
  let q := if n < win then { q with peak := peak, winCount := n }
    else
      let q := if peak ≤ p 22 then setDet act 0 t false q else q
      { q with peak := 0, winCount := 0 }
  let w := (x :: q.window).take win
  let sum := (w.map fun z => (z * z).toNat).sum
  let q := { q with window := w }
  let q := if w.length < win then q
    else
      let q := { q with rms := Nat.sqrt (sum / win) }
      if p 24 * p 24 * win < sum then setDet act 1 t true q
      else if sum ≤ p 26 * p 26 * win then setDet act 1 t false q else q
  let e := envelope m (p 17) (p 18) q.env
  let q := { q with env := e }
  if p 28 * 2 ^ e.2 < e.1 then setDet act 2 t true q
  else if e.1 ≤ p 30 * 2 ^ e.2 then setDet act 2 t false q else q

/-- The detectors of a channel take a sample; each declaration with its trigger bit set triggers captures (R572). -/
def runDetectors (ch : Nat) (t : Time) (x : Int) (s : Device) : Device :=
  let old := (sense s ch).det
  let p := fun off => senseSet s ch off
  let s := modSense ch (detect p t x) s
  let new := (sense s ch).det
  let fire := [0, 1, 2].any fun k => new.getLsbD k && !old.getLsbD k && tb (p 15) (3 + k)
  when fire (localTrig 2 t fun _ c => c.senseCh = ch) s

/-! ### Output samples (R559, R563, R567) -/

/-- The newest 8 resampler inputs at or before an instant. -/
def resWindow (target : Int) (l : List (Int × Int)) : List (Int × Int) := (l.filter fun p => p.1 ≤ target).take 8

/-- The phase of an instant between resampler inputs, 0 to 255. -/
def resPhase (d : SensePlan) (target : Int) (w : List (Int × Int)) : Nat :=
  match w.head? with
  | some p => min 255 (((target - p.1) * 256 / (d.all * US : Nat)).toNat)
  | none => 0

/-- SENSE_OUTPUT_SAMPLE: output instant `k` of an epoch whose seconds count is `sec` (R559, R563, R567). -/
def senseOutputSample (ch : Fin 64) (sec k : Nat) (s : Device) : Device :=
  let c := ch.val
  let q := sense s c
  let n := senseSet s c 12
  let p := senseSet s c 14
  let t : Time := sec * SEC + k * p * SEC / n
  if !q.running || n ≤ k || p = 0 || sec % p ≠ 0 || !(match q.lastOut with | some u => u < t | none => true) then s
  else
    let d := senseDef s c
    let hi : Int := (t : Int) + d.delay
    let lo : Int := hi - d.span * US
    let w := resWindow hi q.res
    let y := dot (resamplerTaps (resPhase d hi w)) (w.map (·.2))
    let r := stageEnd 5 (senseSet s c 9) (shiftRound 13 y) q
    let un := q.events.any fun e => lo < (e : Int) && (e : Int) ≤ hi
    let bad := q.overrun || q.invalidSpans.any fun i => i.1 ≤ hi && lo ≤ i.2
    let x : SenseSample := { x := r.1, unsettled := un, invalid := bad, sat := r.2.satNow }
    let s := modSense c (fun _ => { r.2 with
      satNow := false, overrun := false, lastOut := some t
      unsettled := sat 32 (q.unsettled + bit un), invalid := sat 32 (q.invalid + bit bad) }) s
    let s := addSample c t x s
    if un || bad then s else runDetectors c t r.1 s

/-! ### Ticks -/

/-- An event of a channel at a control-tick boundary (R565); events older than the span are forgotten. -/
def senseEvent (ch : Nat) (s : Device) : Device :=
  let t := s.timing.now
  let span := (senseDef s ch).span
  modSense ch (fun q => { q with
    events := t :: q.events.filter fun e => t ≤ e + 2 * span * US
    eventInRec := true, cur := q.cur.map fun r => { r with event := true } }) s

/-- The chain of a channel cleared at its start (R569). -/
def startChannel (ch : Nat) (base : Int) (s : Device) : Device :=
  let s := settle .epoch (fun k => keyOp k = 0x0A00 && keySel k = ch) s
  let s := modSense ch (fun q =>
    ({ running := true, base := base, kept := q.kept, inSat := q.inSat, stageSat := q.stageSat, delivered := q.delivered,
       drop := q.drop, unsettled := q.unsettled, invalid := q.invalid, clearWaits := q.clearWaits,
       dropTick := q.dropTick } : SenseSt)) s
  senseEvent ch s

/-- Enables and disables that take force at the boundary (R569). -/
def changeChannel (ch : Nat) (i : SenseIn) (s : Device) : Device :=
  let q := sense s ch
  match q.change with
  | none => s
  | some true =>
    let s := modSense ch (fun q => { q with change := none }) s
    if q.running then s
    else startChannel ch (senseRaw s i (senseDef s ch).code) s
  | some false =>
    let s := emitRecord ch (modSense ch (fun q => { q with change := none }) s)
    modSense ch (fun q => { q with running := false }) s

/-- A span of invalid input grows by one sample. -/
def noteInvalid (t : Int) (was : Bool) (l : List (Int × Int)) : List (Int × Int) :=
  match l with
  | (a, b) :: r => if was then (t, t) :: (a, b) :: r else (a, t) :: r
  | [] => [(t, t)]

/-- One input sample of a running channel (R552 to R555, R557, R565, R567). -/
def sampleChannel (ch : Nat) (i : SenseIn) (s : Device) : Device :=
  let q := sense s ch
  if !q.running then s
  else
    let d := senseDef s ch
    let valid := senseValid s d.code
    let s := if valid && !q.inputValid && q.res ≠ [] then senseEvent ch s else s
    let t := senseInstant s d.code
    let raw := senseRaw s i d.code
    let v := if d.code % 16 = 5 || d.code % 16 = 6 then raw - q.base else raw
    let x := if valid then sat14 v else 0
    let shift := fun k => senseSet s ch (4 + k)
    modSense ch (fun q =>
      let q := { q with
        inSat := if valid && sat14 v ≠ v then sat 32 (q.inSat + 1) else q.inSat
        satNow := q.satNow || (valid && sat14 v ≠ v)
        invalidSpans := if valid then q.invalidSpans
          else (noteInvalid t q.inputValid q.invalidSpans).filter fun i => t - 2 * (d.span * US : Nat) ≤ i.2
        inputValid := valid }
      chainIn d shift t x q) s

/-- A shift of a channel waits for this boundary. -/
def shiftWaits (s : Device) (ch : Nat) : Bool :=
  s.pendSet.any fun p => keyOp p.key = 0x0A00 && keySel p.key = ch && 4 ≤ keyOff p.key && keyOff p.key ≤ 9

/-- Counters of a channel cleared (R579). -/
def clearSense (q : SenseSt) : SenseSt :=
  if q.clearWaits then
    { q with inSat := 0, stageSat := [], delivered := 0, drop := 0, unsettled := 0, invalid := 0, clearWaits := false }
  else q

/-- One channel at a control-tick boundary. -/
def senseChannelTick (i : SenseIn) (ch : Nat) (s : Device) : Device :=
  let s := if (sense s ch).running && shiftWaits s ch then senseEvent ch s else s
  let s := settle .tick (fun k => keyOp k = 0x0A00 && keySel k = ch) s
  sampleChannel ch i (changeChannel ch i (modSense ch clearSense s))

/-- The channels that hold state or a definition. -/
def senseChannels (s : Device) : List Nat :=
  (List.range 64).filter fun ch => s.sense.any (fun p => p.1 = ch) || s.pendSet.any fun p => keyOp p.key = 0x0A00 && keySel p.key = ch

/-- The sensing chain at a control-tick boundary (R551 to R557, R569, R574). -/
def senseControlTick (i : SenseIn) (s : Device) : Device :=
  let ramps (c : Carrier) (l : List Int) (s : Device) : Device :=
    putRamp (s.ramp.mod c fun r => { r with value := r.value + r.slope, sum := r.sum + l.getD 3 0 }) s
  let s := ramps .b i.b (ramps .a i.a s)
  let s := each (senseChannels s) (senseChannelTick i) s
  each (i.overruns.filter fun ch => ch < 64 && (sense s ch).running) (fun ch s =>
    fault 0x0A01 ch [] (modSense ch (fun q => { q with overrun := true }) s)) s

/-- The sensing chain at a slow-tick boundary: ramps, waits, `SENSE_DET`, `SENSE_RING_OVERFLOW` (R553, R571, R575,
R581). -/
def senseSlowTick (s : Device) : Device :=
  let turn (r : PhaseRamp) : PhaseRamp := { r with slope := r.sum * 4096, sum := 0 }
  let s := putRamp ⟨turn s.ramp.a, turn s.ramp.b⟩ s
  let grew := s.sense.any fun p => p.2.dropTick
  let s := each (s.sense.map (·.1)) (fun ch s =>
    let q := sense s ch
    let s := modSense ch (fun q => { q with
      left := tickDown q.left, dropTick := false, detBefore := q.det, detFirst := none, detEvent := false }) s
    if q.detEvent then
      raiseAt (q.detFirst.getD s.timing.now) 0x0A01 ch 0 (le 1 q.detBefore.toNat ++ le 1 q.det.toNat) s
    else s) s
  when grew (fault 0x0A02 0 []) s

/-- The sensing chain at an epoch boundary: an output rate takes force when the seconds count is a multiple of the new
`p_sec` (R566). -/
def senseEpoch (s : Device) : Device :=
  each (senseChannels s) (fun ch s =>
    let waits := s.pendSet.any fun p => keyOp p.key = 0x0A00 && keySel p.key = ch && (keyOff p.key = 12 || keyOff p.key = 14)
    let p := (accepted s (skey 0x0A00 0 ch 14)).toNat
    if waits && s.timing.now / SEC % p = 0 then
      let s := settle .epoch (fun k => keyOp k = 0x0A00 && keySel k = ch) s
      if (sense s ch).running then senseEvent ch s else s
    else s) s

/-! ### Commands -/

/-- The output rate is one that R558 admits. -/
def rateOk (d : SensePlan) (n p : Nat) : Bool :=
  n * d.all ≤ p * 1000000 && p * 1000000 ≤ 128 * n * d.all && 10 * n ≤ d.rateMax * p

/-- SENSE_CONFIG (R558, R569, R576, R577). -/
def senseConfigCmd : Cmd where
  blocks := fun _ _ => [13]
  field := fun s r off =>
    let p := r.params
    match off with
    | 2 =>
      let k := rd p 2 1
      k = 0xFF || (k < 64 && (ring s k).enable && (ring s k).kind = 1)
    | 12 => rateOk (senseDef s (rd p 0 1)) (rd p 12 2) (rd p 14 1)
    | 22 => rd p 22 2 ≤ rd p 20 2
    | 26 => rd p 26 2 ≤ rd p 24 2
    | 30 => rd p 30 2 ≤ rd p 28 2
    | _ => true
  act := does fun r s =>
    let ch := rd r.params 0 1
    let on := rd r.params 1 1 = 1
    let s := acceptFields 0x0A00 r.tgt r.params s
    modSense ch (fun q => { q with change := if q.running = on then none else some on }) s

/-- SENSE_INFO (R578). -/
def senseInfoCmd : Cmd where
  blocks := fun _ _ => [13]
  act := reads fun s r =>
    let ch := rd r.params 0 1
    let d := senseDef s ch
    let n := senseSet s ch 12
    let p := senseSet s ch 14
    fields 48 [(0, le 1 ch), (1, le 1 d.code), (2, le 1 d.n), (3, le 1 d.h), (4, le 2 d.m), (6, le 2 d.coefs.length),
      (8, le 1 d.f), (9, le 1 (bit d.sym + 2 * bit d.linear)), (10, le 2 (d.unsettledCount n p)), (12, le 4 d.rateMax),
      (16, le 4 (d.cost n p)), (20, le 8 (d.span * US)), (28, leInt 8 d.delay)] ++ d.coefs.flatMap (leInt 2 ·)

/-- SENSE_STATUS (R579). -/
def senseStatusCmd : Cmd where
  blocks := fun _ _ => [13]
  act := reads fun s r =>
    let q := sense s (rd r.params 0 1)
    fields 64 [(0, le 4 q.inSat), (4, (List.range 6).flatMap fun k => le 4 (Tab.get (fun _ => 0) q.stageSat k)),
      (28, le 4 q.delivered), (32, le 4 q.drop), (36, le 4 q.unsettled), (40, le 4 q.invalid), (44, le 1 q.det.toNat),
      (46, le 2 q.peak), (48, le 2 q.rms), (50, le 2 (q.env.1 / 2 ^ q.env.2))]

/-- SENSE_READ (R580). -/
def senseReadCmd : Cmd where
  blocks := fun _ _ => [13]
  act := fun r s =>
    let ch := rd r.params 0 1
    match (if (senseRing s ch).isNone then (sense s ch).kept else []) with
    | x :: rest => (⟨.ok, senseRecBytes ch x⟩, modSense ch (fun q => { q with kept := rest }) s)
    | [] => (⟨.ok, fit 128 (le 1 ch)⟩, s)

/-- SENSE_CLEAR (R579): one channel, or 0xFF for all. -/
def senseClearCmd : Cmd where
  blocks := fun _ _ => [13]
  field := fun _ r off => off ≠ 0 || rd r.params 0 1 < 64 || rd r.params 0 1 = 0xFF
  act := does fun r s =>
    let ch := rd r.params 0 1
    each (if ch = 0xFF then s.sense.map (·.1) else [ch]) (fun ch s => modSense ch (fun q => { q with clearWaits := true }) s) s

end Sys2Proof.Machine
end

