-- ==== Sys2Proof/Machine/Switch.lean ====
section
/-!
DEFINITION. The Accord switch (02_accords_and_loop_engines R67 to R83): its instant, what takes force then, the settings
that keep or lose their values, the receive-side switch and the completion.
-/
namespace Sys2Proof.Machine
open Sys2Proof

/-- Count `a` exceeds count `b` (07_line_framing_and_defects R295). -/
def countGt (a b : Nat) : Bool := countGe a b && a % 2 ^ 32 ≠ b % 2 ^ 32

/-- A carrier's transmit line clock runs: a powered native carrier out of reset (07_line_framing_and_defects R294). -/
def lineClockRuns (s : Device) (c : Carrier) : Bool :=
  native s c && s.clock.power.get c && !inReset s (carDomain c)

/-- The present instant is T of the scheduled switch (R69, R70): at least two control ticks after acceptance, and at a
transmit superframe boundary of the reference carrier that satisfies `after_xsf` while its line clock runs. -/
def switchDue (s : Device) : Bool :=
  let c := s.accord.refCarrier
  let t := s.tx.get c
  s.accord.standby = .scheduled && 2 ≤ s.accord.sinceAccept &&
    (!lineClockRuns s c ||
      (t.sfSent && t.sfAt = s.timing.now && (s.accord.afterXsf = 0 || countGt t.xsf s.accord.afterXsf)))

/-! ### Settings at T (R82) -/

/-- The plan default of a setting: that of its limits, else its reset value. -/
def planDefault (pl : Plan) (key : Nat) : Int :=
  match planLimit pl key with
  | some l => l.dflt
  | none => resetVal pl (flexoLane pl) key

/-- Rules of the owning chapters that depend on the mode, for one value (05_receive_path R200 and R231). -/
def modeRule (pl : Plan) (key : Nat) (v : Int) : Bool :=
  match pl.modes.get (Carrier.ofNum (keyTgt key - 1)) with
  | none => true
  | some m =>
    if keyOp key = 0x0230 ∧ keyOff key = 4 then cdInRange m.rs v
    else if keyOp key = 0x0230 ∧ keyOff key = 26 then m.native || v = 0
    else true

/-- A value lies within the limits of a plan for a key. -/
def keyFits (pl : Plan) (key : Nat) (v : Int) : Bool :=
  match rowAt (keyOp key) (keyOff key) with
  | some r => within pl key r v && modeRule pl key v
  | none => true

/-- Settings whose value can depend on the plan though no command has set them. -/
def planKeys (old new : Plan) : List Nat :=
  (old.limits ++ new.limits).map (·.key) ++
    carriers.flatMap (fun c => [skey 0x0300 (carCode c) 0 4, skey 0x0300 (carCode c) 0 8, skey 0x0400 (carCode c) 0 12] ++
      (List.range 64).map fun k => skey 0x0223 (carCode c) 0 (4 + 2 * k)) ++
    (List.range 64).map fun l => skey 0x0C00 0 l 5

/-- The run-time settings of the changed partitions that R82 judges, in order of their keys; the pool sizes are judged
apart. -/
def judgedKeys (s : Device) (old new : Plan) : List Nat :=
  let keys := s.settings.map (·.1) ++ planKeys old new
  let sorted : Tab Nat := keys.foldl (fun t k => Tab.set (fun _ => 0) t k 1) []
  (sorted.map (·.1)).filter fun k =>
    s.accord.changed.getLsbD (keyPart k) && keyOp k ≠ 0x0B00 &&
      (match rowAt (keyOp k) (keyOff k) with | some r => r.kind = .rt | none => false)

/-- What R82 makes of one setting: its value in force, the change still pending with its boundary, and whether it took
the incoming default. The old value and the pending one are those before T. -/
def judge (new : Plan) (key : Nat) (old : Int) (pend : Option (Int × Nat)) : Int × Option (Int × Nat) × Bool :=
  let d := planDefault new key
  let oldOk := keyFits new key old
  match pend with
  | none => if oldOk then (old, none, false) else (d, none, true)
  | some (v, w) =>
    if keyFits new key v then (if oldOk then old else d, some (v, w), !oldOk) else (d, none, true)

/-- Put the outcome for one setting into the store: always listed, so that it no longer follows the plan. -/
def putJudged (key : Nat) (q : Int × Option (Int × Nat) × Bool) (s : Device) : Device :=
  let rest := s.pendSet.filter fun p => p.key ≠ key
  match q.2.1 with
  | none => putPendSet rest (putSettings (Tab.set (fun _ => none) s.settings key (some q.1)) s)
  | some (v, w) =>
    putPendSet (rest ++ [⟨key, q.1, w⟩]) (putSettings (Tab.set (fun _ => none) s.settings key (some v)) s)

/-- Offsets of a notch entry of TX_CONFIG. -/
def notchOffs (i : Nat) : List Nat := [20 + 8 * i, 22 + 8 * i, 24 + 8 * i, 25 + 8 * i]

/-- Settings that take their default together because a rule joins them: a notch entry that no longer lies inside
(04_transmit_path R160), and a pre-emphasis filter that the incoming mode's taps do not hold (R165). They are judged on
the values last accepted. -/
def joinedKeys (s : Device) (new : Plan) (c : Carrier) : List Nat :=
  let v (op off : Nat) : Int := accepted s (skey op (carCode c) 0 off)
  let notches := ([0, 1, 2, 3].filter fun i =>
    v 0x0220 (25 + 8 * i) = 1 && !notchInside new c (v 0x0220 (20 + 8 * i)) (v 0x0220 (22 + 8 * i)).toNat).flatMap fun i =>
      (notchOffs i).map fun o => skey 0x0220 (carCode c) 0 o
  let tap (k : Nat) : Nat := (v 0x0223 (4 + 2 * k)).natAbs
  let ks := List.range 64
  let bad := match new.modes.get c with
    | none => false
    | some m => ks.any fun k => (m.taps ≤ k && tap k ≠ 0) || tap m.mainTap < tap k
  notches ++ (if bad then ks.map fun k => skey 0x0223 (carCode c) 0 (4 + 2 * k) else [])

/-- `ACCORD_RT_DEFAULTED`: one event in 1 to 16 records, two settings each (R82; 22_command_reference R859). -/
def reportDefaulted (keys : List Nat) (s : Device) : Device :=
  let listed := keys.take 32
  let n := (listed.length + 1) / 2
  each (List.range n) (fun i s =>
    let two := (slice (listed.flatMap settingId) (8 * i) 8)
    raise 0x0104 0 0 (le 1 i ++ le 1 n ++ le 2 (sat 16 (keys.length - 32)) ++ fit 8 two) s) s

/-- Sizes of pools 0 to 3 at T (14_buffer_memory_and_latency_equaliser Table 14-1): a size outside the incoming limits
takes the incoming default. The pools that did, by their setting. -/
def judgePools (old new : Plan) (s : Device) : List Nat × Device :=
  if !s.accord.changed.getLsbD 0 then ([], s)
  else
    [0, 1, 2, 3].foldl (fun (q : List Nat × Device) k =>
      let key := skey 0x0B00 0 0 (4 * k)
      let now : Nat := (Tab.get (fun _ => (none : Option Nat)) q.2.mem.pools k).getD (poolDefault old k)
      let ok := match planLimit new key with
        | some l => l.lo ≤ now && now ≤ l.hi
        | none => true
      let v := if ok then now else poolDefault new k
      (if ok then q.1 else q.1 ++ [key],
        modMem (fun m => { m with pools := Tab.set (fun _ => none) m.pools k (some v) }) q.2)) ([], s)

/-- Every setting of the changed partitions is judged (R82). `before` is the device just before T. -/
def judgeSettings (before : Device) (new : Plan) (s : Device) : Device :=
  let old := plan before
  let joined := carriers.flatMap fun c => if s.accord.changed.getLsbD (partNum c) then joinedKeys before new c else []
  let keys := judgedKeys before old new
  let pend (k : Nat) : Option (Int × Nat) :=
    (before.pendSet.find? fun p => p.key = k).map fun p => (accepted before k, p.when)
  let out (k : Nat) : Int × Option (Int × Nat) × Bool :=
    let d := planDefault new k
    if k ∈ joined then (d, none, inForce before k ≠ d || accepted before k ≠ d) else judge new k (inForce before k) (pend k)
  let s := each keys (fun k s => putJudged k (out k) s) s
  let q := judgePools old new s
  let s := each carriers prunePending q.2
  reportDefaulted ((keys.filter fun k => (out k).2.2) ++ q.1) s

/-! ### The switch -/

/-- The receiver at the switch of its carrier's receive tables: a change of line mode without a switch at the agreed
count makes it fall (R83; 05_receive_path Table 5-6). -/
def rxModeChange (old new : Plan) (c : Carrier) (atCount : Bool) (s : Device) : Device :=
  if old.modes.get c = new.modes.get c then s
  else
    let s := modRx c (fun r => { r with zrLocked := false }) s
    if atCount || (s.rx.get c).state = .off then s else fallToSearch c .last 9 s

/-- An `ACCORD` agreement on a carrier holds the receive switch to the far end's agreed count (05_receive_path R228). -/
def agreedWait (s : Device) (c : Carrier) : Bool := (s.rx.get c).agreedKind = 2 && (s.rx.get c).rxCount.isSome

/-- A receiver that has reached `SUPERFRAME_LOCK` switches at its own superframe boundary (R74); one with a new mode and
no agreed count falls at T. -/
def rxWaits (s : Device) (old new : Plan) (c : Carrier) : Bool :=
  (s.rx.get c).state.atLeast .superframeLock && (old.modes.get c = new.modes.get c || agreedWait s c)

/-- The tables of a changed carrier's receive side take force (R74, R78, R80). -/
def switchRx (old new : Plan) (c : Carrier) (s : Device) : Device :=
  switchTables old new (fun t => t.part = .car c && t.rx) s

/-- A changed carrier at T (R73, R74; 03_converters_and_trim R119; 04_transmit_path R177). -/
def switchCarrier (old new : Plan) (c : Carrier) (s : Device) : Device :=
  let rate (pl : Plan) : Option Nat := (pl.modes.get c).map (·.convRate)
  let s := switchTables old new (fun t => t.part = .car c && !t.rx) s
  let s := when ((rate old).isSome && (rate new).isSome && rate old ≠ rate new) (convRateChange c) s
  let s := if powered s c then s else powerTick c s
  let wait := rxWaits s old new c
  let s := modAccord (fun a => { a with rxWait := a.rxWait.set c wait, clusterWait := a.clusterWait.set c true }) s
  if wait then s else rxModeChange old new c false (switchRx old new c s)

/-- ACCORD_SWITCH_T (R73, R78, R82). -/
def accordSwitchT (s : Device) : Device :=
  if !switchDue s then s
  else
    let before := s
    let old := plan s
    let new := s.accord.standbySet.plan
    let ch := s.accord.changed
    let s := modAccord (fun a => { a with
      standby := .switching, switchT := s.timing.now, active := a.standbySet, standbySet := a.active,
      devWait := ch.getLsbD 0, clusterWait := ⟨false, false⟩, rxWait := ⟨false, false⟩ }) s
    let s := judgeSettings before new s
    let s := when (ch.getLsbD 0) (switchTables old new fun t => t.part = .dev) s
    let s := each carriers (fun c s => when (ch.getLsbD (partNum c)) (switchCarrier old new c) s) s
    let moved (k : Nat) : Bool := (sense s k).running && sensePlanOf old k ≠ sensePlanOf new k
    each ((List.range 64).filter fun k => ch.getLsbD 0 && moved k) senseEvent s

/-- ACCORD_RX_SWITCH: the receive tables of a changed carrier take force at its receive superframe boundary (R74), after
an `ACCORD` agreement at the agreed count (05_receive_path R228). -/
def accordRxSwitch (c : Carrier) (s : Device) : Device :=
  if s.accord.standby ≠ .switching ∨ !s.accord.rxWait.get c then s
  else if agreedWait s c && (s.rx.get c).state.atLeast .superframeLock then s
  else
    let old := s.accord.standbySet.plan
    let new := plan s
    let s := modAccord (fun a => { a with rxWait := a.rxWait.set c false }) s
    rxModeChange old new c ((s.rx.get c).agreedKind = 2) (switchRx old new c s)

/-- The clusters begin the incoming schedules at the first control-tick boundary at or after the switch of their tables
(R75, R76); the boundaries since the acceptance of a switch are counted (R69). -/
def accordControlTick (s : Device) : Device :=
  modAccord (fun a => { a with
    sinceAccept := if a.standby = .scheduled then min (a.sinceAccept + 1) 2 else a.sinceAccept
    devWait := false
    clusterWait := ⟨a.clusterWait.a && a.rxWait.a, a.clusterWait.b && a.rxWait.b⟩ }) s

/-- Nothing of the switch is left to do (R77). -/
def switchDone (s : Device) : Bool :=
  let a := s.accord
  a.standby = .switching && !(a.rxWait.a || a.rxWait.b || a.devWait || a.clusterWait.a || a.clusterWait.b)

/-- The command of a held opcode (Table 2-2). -/
def heldSwitchCmd (op : Nat) : Cmd := if op = 0x0104 then accordStageCmd else accordSwitchCmd

/-- ACCORD_SWITCH_COMPLETE: the event, the former Accord in the standby set, then the held commands (R66, R67, R77).
With no former Accord the standby set is empty. -/
def accordSwitchComplete (s : Device) : Device :=
  if !switchDone s then s
  else
    let held := s.accord.held
    let slot := s.accord.active.slot.getD 0
    let s := raiseAt s.accord.switchT 0x0103 slot 0
      (slice s.accord.active.header 16 8 ++ le 1 s.accord.changed.toNat) s
    let s := modAccord (fun a => { a with
      standby := if a.standbySet.slot.isSome then .ready else .empty, changed := 0, held := [] }) s
    each held (fun h s => runHeld h (heldSwitchCmd h.op) s) s

end Sys2Proof.Machine
end

