-- ==== Sys2Proof/Machine/Commands.lean ====
section
/-!
DEFINITION. The index of the commands by opcode (22_command_reference Table 22-5), for requests that come as bytes: the
doorbells, the startup script, the proxy mailbox.
-/
namespace Sys2Proof.Machine
open Sys2Proof

/-- The commands of class 00 (22_command_reference Table 22-5). -/
def cmds00 : List (Nat × Cmd) := [
  (0x0000, deviceInfoCmd), (0x0001, ringConfigCmd), (0x0002, otpProgramCmd)]

/-- The commands of class 01 (22_command_reference Table 22-5). -/
def cmds01 : List (Nat × Cmd) := [
  (0x0100, accordListCmd), (0x0101, accordLoadCmd), (0x0102, accordInfoCmd), (0x0103, accordReportCmd),
  (0x0104, accordStageCmd), (0x0105, accordSwitchCmd), (0x0106, accordCancelCmd), (0x0107, accordDeleteCmd),
  (0x0108, accordVersionCommitCmd), (0x0109, accordLimitsCmd), (0x010A, engineStatusCmd), (0x010B, engineReadCmd)]

/-- The commands of class 02 (22_command_reference Table 22-5). -/
def cmds02 : List (Nat × Cmd) := [
  (0x0220, txConfigCmd), (0x0221, txEnableCmd), (0x0222, txStatusCmd), (0x0223, txPreemphCmd),
  (0x0230, rxConfigCmd), (0x0231, rxEnableCmd), (0x0232, rxStatusCmd), (0x0233, rxMonitorCmd),
  (0x0234, rxReacquireCmd), (0x0235, lineAgreeCmd), (0x0240, calReadCmd), (0x0241, calConfigCmd),
  (0x0242, calSwapCmd), (0x0243, convPortStatusCmd), (0x0244, convSelftestCmd), (0x0250, carrierLoopbackCmd)]

/-- The commands of class 03 (22_command_reference Table 22-5). -/
def cmds03 : List (Nat × Cmd) := [
  (0x0300, fecConfigCmd), (0x0301, fecStatusCmd), (0x0302, fecCountersCmd), (0x0303, fecClearCmd),
  (0x0304, fecPoolStatusCmd), (0x0305, fecInjectCmd)]

/-- The commands of class 04 (22_command_reference Table 22-5). -/
def cmds04 : List (Nat × Cmd) := [
  (0x0400, lineConfigCmd), (0x0401, lineDefectsCmd), (0x0402, lineTtiCmd), (0x0403, lineTtiReadCmd),
  (0x0404, ohpConfigCmd), (0x0405, ohpStatusCmd), (0x0406, lineClearCmd)]

/-- The commands of class 05 (22_command_reference Table 22-5). -/
def cmds05 : List (Nat × Cmd) := [
  (0x0500, tribConfigCmd), (0x0501, tribStatusCmd), (0x0502, tribTtiCmd), (0x0503, groupConfigCmd),
  (0x0504, groupStatusCmd), (0x0505, protConfigCmd), (0x0507, protStatusCmd)]

/-- The commands of class 06 (22_command_reference Table 22-5). -/
def cmds06 : List (Nat × Cmd) := [
  (0x0600, cryptoConfigCmd), (0x0601, cryptoKeyLoadCmd), (0x0602, cryptoRollCmd), (0x0603, cryptoStatusCmd),
  (0x0604, cryptoZeroizeCmd), (0x0605, cryptoAlarmClearCmd)]

/-- The commands of class 07 (22_command_reference Table 22-5). -/
def cmds07 : List (Nat × Cmd) := [
  (0x0700, ostcConfigCmd), (0x0701, ostcSendCmd), (0x0702, ostcRecvCmd), (0x0703, ostcStatusCmd),
  (0x0704, ostcClearCmd)]

/-- The commands of class 08 (22_command_reference Table 22-5). -/
def cmds08 : List (Nat × Cmd) := [
  (0x0800, timingRefConfigCmd), (0x0801, timingSelConfigCmd), (0x0802, timingDpllConfigCmd),
  (0x0804, timingStatusCmd), (0x0805, timingRefStatusCmd), (0x0806, timingOutConfigCmd), (0x0807, sillageReadCmd)]

/-- The commands of class 09 (22_command_reference Table 22-5). -/
def cmds09 : List (Nat × Cmd) := [
  (0x0900, ttxConfigCmd), (0x0901, ttxCalSetCmd), (0x0902, ttxStatusCmd), (0x0903, ttxDelayReadCmd),
  (0x0904, ttxTimeSetCmd), (0x0905, ptpPortConfigCmd)]

/-- The commands of class 0A (22_command_reference Table 22-5). -/
def cmds0A : List (Nat × Cmd) := [
  (0x0A00, senseConfigCmd), (0x0A01, senseInfoCmd), (0x0A02, senseStatusCmd), (0x0A03, senseReadCmd),
  (0x0A04, senseClearCmd)]

/-- The commands of class 0B (22_command_reference Table 22-5). -/
def cmds0B : List (Nat × Cmd) := [
  (0x0B00, memPoolSetCmd), (0x0B01, memStatusCmd), (0x0B02, memScrubConfigCmd), (0x0B03, memRepairStatusCmd),
  (0x0B04, memClearCmd), (0x0B05, leqPortConfigCmd), (0x0B06, leqKeyProfileCmd), (0x0B07, leqTsProfileCmd),
  (0x0B08, leqQueueConfigCmd), (0x0B09, leqQueueStatusCmd), (0x0B0A, blotterArmCmd), (0x0B0B, blotterTriggerCmd),
  (0x0B0C, blotterStatusCmd), (0x0B0D, blotterReadCmd), (0x0B0E, blotterSpillCmd), (0x0B0F, blotterFreeCmd)]

/-- The commands of class 0C (22_command_reference Table 22-5). -/
def cmds0C : List (Nat × Cmd) := [
  (0x0C00, hlConfigCmd), (0x0C01, hlStatusCmd), (0x0C02, hlEyeScanCmd), (0x0C03, hlEyeReadCmd),
  (0x0C04, hlResetCmd), (0x0C05, hlClearCmd)]

/-- The commands of class 0D (22_command_reference Table 22-5). -/
def cmds0D : List (Nat × Cmd) := [
  (0x0D00, stackConfigCmd), (0x0D01, stackStatusCmd), (0x0D02, stackPortStatusCmd), (0x0D03, stackHandoverCmd),
  (0x0D04, stackClearCmd)]

/-- The commands of class 0E (22_command_reference Table 22-5). -/
def cmds0E : List (Nat × Cmd) := [
  (0x0E00, clockConfigCmd), (0x0E01, clockStatusCmd), (0x0E02, resetDomainCmd), (0x0E03, resetStatusCmd)]

/-- The commands of class 0F (22_command_reference Table 22-5). -/
def cmds0F : List (Nat × Cmd) := [
  (0x0F00, faultListCmd), (0x0F01, faultConfigCmd), (0x0F02, faultStatusCmd), (0x0F03, faultLogReadCmd),
  (0x0F06, faultPhaseCmd), (0x0F07, faultBlackboxReadCmd)]

/-- The commands of class 10 (22_command_reference Table 22-5). -/
def cmds10 : List (Nat × Cmd) := [
  (0x1000, nvStatusCmd), (0x1001, nvHeaderReadCmd), (0x1002, nvHeaderWriteCmd), (0x1003, nvFwWriteCmd),
  (0x1004, nvFwActivateCmd), (0x1005, nvFwCommitCmd), (0x1006, nvFwVersionCommitCmd), (0x1007, nvScriptWriteCmd),
  (0x1008, nandInfoCmd), (0x1009, archiveListCmd), (0x100A, archiveReadCmd), (0x100B, archiveWriteCmd),
  (0x100C, archiveDeleteCmd), (0x100D, nandFormatCmd)]

/-- The commands of class 11 (22_command_reference Table 22-5). -/
def cmds11 : List (Nat × Cmd) := [
  (0x1100, diagEchoCmd), (0x1101, diagSensorsCmd)]

/-- The rows of PROT_COMMAND by the code in parameter byte 1; a code of none goes to a row that refuses it. -/
def pickProtCommand (p : List Byte) : Cmd :=
  match rd p 1 1 with
  | 1 => protLockoutCmd
  | 2 => protForcedCmd
  | 3 => protManualPCmd
  | 4 => protManualWCmd
  | 5 => protRealignCmd
  | _ => protClearCmd

/-- The rows of TIMING_COMMAND by the code in parameter byte 0; a code of none goes to a row that refuses it. -/
def pickTimingCommand (p : List Byte) : Cmd :=
  match rd p 0 1 with
  | 1 => timingForceCmd
  | 2 => timingHoldoverCmd
  | 3 => clearWtrCmd
  | 4 => sillageSaveCmd
  | 5 => sillageResetCmd
  | 6 => oscTempCmd
  | _ => timingClearCmd

/-- The rows of FAULT_CLEAR by the code in parameter byte 3; a code of none goes to a row that refuses it. -/
def pickFaultClear (p : List Byte) : Cmd :=
  match rd p 3 1 with
  | 1 => faultClearCountersCmd
  | 2 => faultClearFirstFaultCmd
  | 3 => faultClearLogCmd
  | _ => faultClearLatchCmd

/-- The rows of FAULT_INJECT by the code in parameter byte 3; a code of none goes to a row that refuses it. -/
def pickFaultInject (p : List Byte) : Cmd :=
  match rd p 3 1 with
  | 1 => faultInjectArmCmd
  | _ => faultInjectDisarmCmd

/-- The command of an opcode with its parameters, none where Table 22-5 has no such opcode. -/
def cmdOf (op : Nat) (p : List Byte) : Option Cmd :=
  match op with
  | 0x0506 => some (pickProtCommand p)
  | 0x0803 => some (pickTimingCommand p)
  | 0x0F04 => some (pickFaultClear p)
  | 0x0F05 => some (pickFaultInject p)
  | _ => ((cmds00 ++ cmds01 ++ cmds02 ++ cmds03 ++ cmds04 ++ cmds05 ++ cmds06 ++ cmds07 ++ cmds08 ++
      cmds09 ++ cmds0A ++ cmds0B ++ cmds0C ++ cmds0D ++ cmds0E ++ cmds0F ++ cmds10 ++ cmds11).find? fun c => c.1 = op).map (·.2)

end Sys2Proof.Machine
end

