-- ==== Sys2Proof/Machine/Host.lean ====
section
/-!
DEFINITION. The host interface (21_mailbox_interface): register writes, the request buffers and doorbells, the debug
window, commands proxied from and to other members, the end of a command's transfer, and the startup script
(20_startup_and_nonvolatile_store R788), which comes as bytes as a doorbell's request does.
-/
namespace Sys2Proof.Machine
open Sys2Proof

/-! ### Requests as bytes -/

/-- Checks 1 to 3 of Table 21-5a on the bytes of a request and the doorbell's length. -/
def requestFault (len : Nat) (bytes : List Byte) : Option Status :=
  if len < 16 ∨ 4096 < len ∨ rd bytes 4 2 ≠ len then some .badLength
  else if rd bytes 12 4 ≠ (crc32c (put bytes 12 (zeros 4))).toNat then some .crcError
  else none

/-- A request that has passed checks 1 to 3 for mailbox 0 to 3: forwarded (R830), refused as `BAD_OPCODE`, held behind
a transfer (15_latency_and_load R633), or run. -/
def dispatchReq (op : Nat) (r : Req) (boot : Bool) (s : Device) : Device :=
  if !r.here s then forward op r s
  else match cmdOf op r.params with
    | none => answer op r ⟨.badOpcode, []⟩ s
    | some c =>
      if heldBack s r then
        modMb r.mb.val (fun m => { m with busy := true }) (modHost (fun h => { h with waiting := h.waiting ++ [⟨op, r⟩] }) s)
      else runLocal op c r boot s

/-- A request of `len` bytes in a mailbox's buffer runs (R811, R815; 22_command_reference R839). `bytes` is the buffer
as far as the length reaches. -/
def deliverReq (mb : Fin 5) (len : Nat) (bytes : List Byte) (boot : Bool) (s : Device) : Device :=
  let s := modMb mb.val (fun m => { m with respReady := false }) s
  match requestFault len bytes with
  | some st =>
    let q := parseReq mb bytes
    respond mb.val q.2.seq.toNat st.code (respBytes q.1 q.2 ⟨st, []⟩ false) s
  | none => let q := parseReq mb (bytes.take len); dispatchReq q.1 q.2 boot s

/-- The interface that owns a mailbox (Table 21-2). -/
def ownIface (n : Nat) : Iface := if n < 2 then .pcie else if n = 2 then .spi else .i2c

/-- A write to `MB_DOORBELL` (R808, R809, R811, R813). A length outside the window shows the header alone. -/
def ringDoorbell (i : Iface) (n : Fin 5) (len : Nat) (s : Device) : Device :=
  if i ≠ ownIface n.val || !served s then s
  else if (mailbox s n.val).busy then modMb n.val (fun m => { m with dbIgnored := true }) s
  else
    let size := if len ≤ 4096 then max len 16 else 16
    deliverReq n len (memRead (mailbox s n.val).req 0 size) false s

/-- MAILBOX_REQUEST_REFUSED: the buffer holds bytes that fail checks 1 to 4 (Table 21-5a). -/
def mailboxRequestRefused (n : Fin 4) (len : BitVec 16) (bytes : List Byte) (s : Device) : Device :=
  let mb : Fin 5 := ⟨n.val, by omega⟩
  let l := len.toNat
  let size := if l ≤ 4096 then max l 16 else 16
  let seen := fit size bytes
  let q := parseReq mb (seen.take l)
  let refused := (requestFault l seen).isSome || (q.2.here s && (cmdOf q.1 q.2.params).isNone)
  if !served s || !refused then s
  else if (mailbox s n.val).busy then modMb n.val (fun m => { m with dbIgnored := true }) s
  else deliverReq mb l seen false (modMb n.val (fun m => { m with req := memWrite m.req 0 seen }) s)

/-- The whole BAR2 is the boot buffer (R809). -/
def bootWindow (s : Device) : Bool :=
  match s.boot.stage with
  | .rom => true
  | .clocks => true
  | .fwLoad => true
  | _ => false

/-- One word written to a request buffer (R808, R812). -/
def bufferWord (i : Iface) (off : Nat) (w : List Byte) (s : Device) : Device :=
  let n := off / 0x2000
  if bootWindow s then modHost (fun h => { h with bootBuf := memWrite h.bootBuf off w }) s
  else if 4 ≤ n || 0x1000 ≤ off % 0x2000 || i ≠ ownIface n then s
  else if (mailbox s n).busy then modMb n (fun m => { m with writeLocked := true }) s
  else modMb n (fun m => { m with req := memWrite m.req (off % 0x2000) w }) s

/-- REQUEST_BUFFER_WRITE: a write of bytes at a BAR2 offset, whole words on a word boundary only (R806, R812). -/
def requestBufferWrite (i : Iface) (off : BitVec 24) (bytes : List Byte) (s : Device) : Device :=
  if off.toNat % 4 ≠ 0 then s
  else each (List.range (bytes.length / 4)) (fun k s =>
    if off.toNat + 4 * k < 2 ^ 24 then bufferWord i (off.toNat + 4 * k) (slice bytes (4 * k) 4) s else s) s

/-- DEBUG_WINDOW_WRITE: a word at an offset of the window; `block` is the bit of `CLK_EN` of the block whose page is
shown, if it has one (R719, R809, R810). -/
def debugWindowWrite (off : BitVec 23) (v : BitVec 32) (block : Option (Fin 18)) (s : Device) : Device :=
  let a := off.toNat
  if a % 4 ≠ 0 then s
  else if bootWindow s then
    modHost (fun h => { h with bootBuf := memWrite h.bootBuf (0x800000 + a) (le 4 v.toNat) }) s
  else if !s.host.dbgWrite || (match block with | some b => !clkOn s b.val | none => false) then s
  else modHost (fun h => { h with dbgRegs := Tab.set (fun _ => 0) h.dbgRegs (h.dbgPage * 2 ^ 23 + a) v }) s

/-! ### Register writes (Table 21-1) -/

/-- A write to a word of the MSI-X table: a pending vector that loses its mask sends its message (R829). -/
def msixWrite (i : Nat) (v : BitVec 32) (s : Device) : Device :=
  let s := modHost (fun h => { h with
    msixTable := Tab.set (fun i => if i % 4 = 3 then 1 else 0) h.msixTable i v }) s
  if s.host.msixPend.getLsbD (i / 4) && !msixMasked s (i / 4) then
    sendMsix (i / 4) (modHost (fun h => { h with msixPend := h.msixPend &&& ~~~(1#32 <<< (i / 4)) }) s)
  else s

/-- A write to `MB_STATUS` clears the bits written 1 (Table 21-4, R828). -/
def mbStatusWrite (n : Nat) (v : BitVec 32) (s : Device) : Device :=
  modMb n (fun m => { m with
    respReady := m.respReady && !v.getLsbD 0
    dbIgnored := m.dbIgnored && !v.getLsbD 2
    writeLocked := m.writeLocked && !v.getLsbD 3 }) s

/-- Registers without a row of their own, below the mailboxes and beside the events (Table 21-1). -/
def plainWrite (a : Nat) (v : BitVec 32) (s : Device) : Device :=
  match a with
  | 0x34 => irqLevel (modHost (fun h => { h with irqEnable := v &&& 0x1EF }) s)
  | 0x90 => modHost (fun h => { h with dbgPage := v.toNat % 256 }) s
  | 0x94 => modHost (fun h => { h with dbgWrite := v.getLsbD 0 }) s
  | 0x128 => modHost (fun h => { h with fifoMask := BitVec.ofNat 18 v.toNat }) s
  | 0x12C => modHost (fun h => { h with fifoSev := v.toNat % 4 }) s
  | 0x20 => clkEnWrite v s
  | 0x30 => irqStatusClear v s
  | 0x80 => bootDoorbell v s
  | 0x120 => evtFifoPop v s
  | _ => s

/-- REGISTER_WRITE: a word at a BAR0 offset from an interface (R805 to R808, Table 21-1); a write to a read-only or
reserved offset is ignored. -/
def registerWrite (i : Iface) (off : BitVec 16) (v : BitVec 32) (s : Device) : Device :=
  let a := off.toNat
  if a % 4 ≠ 0 then s
  else if 0x10 ≤ a && a < 0x20 then
    modHost (fun h => { h with scratch := Tab.set (fun _ => 0) h.scratch ((a - 0x10) / 4) v }) s
  else if 0x40 ≤ a && a < 0x80 && a % 16 = 0 then
    ringDoorbell i (Fin.ofNat 5 ((a - 0x40) / 16)) (v.toNat % 65536) s
  else if 0x40 ≤ a && a < 0x80 && a % 16 = 4 then mbStatusWrite ((a - 0x40) / 16) v s
  else if 0x800 ≤ a && a < 0xC00 && a % 16 = 4 then ringTailWrite (Fin.ofNat 64 ((a - 0x800) / 16)) v s
  else if 0x2000 ≤ a && a < 0x2200 && i = .pcie then msixWrite ((a - 0x2000) / 4) v s
  else plainWrite a v s

/-! ### Proxied commands -/

/-- PROXIED_COMMAND: a request for another member is forwarded, or refused here (R830, R831). -/
def proxiedCommand (op : BitVec 16) (r : Req) (s : Device) : Device :=
  let n := r.mb.val
  if 4 ≤ n || !served s || r.here s then s
  else if (mailbox s n).busy then modMb n (fun m => { m with dbIgnored := true }) s
  else forward op.toNat r (modMb n (fun m =>
    { m with req := memWrite m.req 0 (reqBytes op.toNat r), respReady := false }) s)

/-- PROXY_REQUEST_RECEIVED: a request for this member runs in MB4 and its answer returns (R686, R815 checks 4 to 6 and
8, R830). While the own number is in conflict it answers `STACK_UNREACHABLE` (17_stack_bus_and_stacking R677). -/
def proxyRequestReceived (m : SbMsg) (tagOk : Bool) (s : Device) : Device :=
  let x := stackAuth m tagOk s
  if !x.1 || m.type ≠ 0 || m.dest ≠ s.stack.stackId || !served s then x.2
  else
    let q := parseReq 4 m.body
    let s := modStack (fun k => { k with mb4Pend := k.mb4Pend ++ [(m.origin, ⟨4, q.1, q.2.seq.toNat⟩)] }) x.2
    if s.stack.idConflict then answer q.1 q.2 ⟨.stackUnreachable, []⟩ s
    else match cmdOf q.1 q.2.params with
      | none => answer q.1 q.2 ⟨.badOpcode, []⟩ s
      | some c =>
        if (mailbox s 4).busy || heldBack s q.2 then
          modHost (fun h => { h with waiting := h.waiting ++ [⟨q.1, q.2⟩] }) s
        else runLocal q.1 c q.2 false s

/-! ### Transfers (15_latency_and_load R633) -/

/-- The commands that waited behind a transfer run in order, unless they must wait still (R819). -/
def runWaiting (s : Device) : Device :=
  let l := s.host.waiting
  each l (fun h s =>
    let wait := heldBack s h.req || (h.req.mb.val = 4 && (mailbox s 4).busy)
    match wait, cmdOf h.op h.req.params with
    | false, some c => runLocal h.op c h.req false s
    | _, _ => modHost (fun x => { x with waiting := x.waiting ++ [h] }) s) (modHost (fun x => { x with waiting := [] }) s)

/-- DMA_TRANSFER_COMPLETE: the transfer of a mailbox's command ends; the rest of the command runs, then what waited on
its object. `ue` marks an uncorrectable codeword met on the way: the entry is handled as its area gives, and a library
entry is not delivered (20_startup_and_nonvolatile_store R794). -/
def dmaTransferComplete (mb : Fin 5) (ue : Bool) (s : Device) : Device :=
  match s.host.transfers.find? fun h => h.req.mb = mb with
  | none => s
  | some h =>
    let s := modHost (fun x => { x with transfers := x.transfers.erase h }) s
    let area := rd h.req.params 0 1
    let q : Resp × Device := match cmdOf h.op h.req.params with
      | none => (⟨.badOpcode, []⟩, s)
      | some c => runCmd h.op c h.req false s
    let s := when ue (nandUe area (rd h.req.params 8 8)) q.2
    let a : Resp := if ue && area = 0 && q.1.status = .ok then ⟨.denied, []⟩ else q.1
    runWaiting (answer h.op h.req a s)

/-! ### Startup script (20_startup_and_nonvolatile_store R788) -/

/-- Bytes of the script region. -/
def scriptBytes (s : Device) (o n : Nat) : List Byte := (List.range n).map fun i => norGet s.boot.script (o + i)

/-- The script ends. -/
def scriptEnd (s : Device) : Device := modBoot (fun b => { b with scriptDone := true }) s

/-- The script stops at a record: `BOOT_SCRIPT_FAIL`. -/
def scriptFail (k : Nat) (s : Device) : Device := fault 0x1006 0 (le 2 k) (scriptEnd s)

/-- The last status of MB1 lets the script go on. -/
def scriptOk (s : Device) : Bool :=
  (mailbox s 1).lastStatus = Status.ok.code || (mailbox s 1).lastStatus = Status.pending.code

/-- Run records until the script ends, fails, or waits for MB1. -/
def scriptLoop : Nat → Device → Device
  | 0, s => s
  | n + 1, s =>
    let k := s.boot.scriptNext.1
    let o := s.boot.scriptNext.2
    let all := bhScriptLen s.boot.header
    if (mailbox s 1).busy then s
    else if 0 < k && !scriptOk s then scriptFail (k - 1) s
    else if all ≤ o then scriptEnd s
    else
      let m := rd (scriptBytes s o 2) 0 2
      let s := modBoot (fun b => { b with scriptNext := (k + 1, o + 2 + m) }) s
      if all < o + 2 + m then scriptFail k s
      else scriptLoop n (deliverReq 1 m (fit (max m 16) (scriptBytes s (o + 2) m)) true s)

/-- STARTUP_SCRIPT: the records run as if they arrived on MB1, once the boot Accord is in place (R787, R788). -/
def startupScript (s : Device) : Device :=
  let waits := s.accord.standby = .scheduled || s.accord.standby = .switching
  if s.boot.stage ≠ .script || !s.boot.fwRuns || s.boot.scriptDone || waits then s
  else scriptLoop (bhScriptLen s.boot.header + 1) s

end Sys2Proof.Machine
end

