-- ==== Sys2Proof/Machine/Ticks.lean ====
section
/-!
DEFINITION. The boundaries of Table 1-5 (01_talnis_3200_at_a_glance R27 to R32): control tick, slow tick, epoch, block,
superframes, and the native superframe overhead that a received superframe carries. Each calls the parts of the chapters
that run on it; where several take force at one boundary the order is that of the calls.
-/
namespace Sys2Proof.Machine
open Sys2Proof

/-- Device time passes (R513); it stands still while the TIMING domain is in reset. -/
def passTime (d : Nat) (s : Device) : Device :=
  if inReset s .timing then s else modTiming (fun t => { t with now := t.now + d }) s

/-! ### Control tick -/

/-- The carriers' parts of a control tick. -/
def carrierTick (i : TickIn) (c : Carrier) (s : Device) : Device :=
  let s := convControlTick c (i.conv.get c) s
  let s := rxControlTick c (i.rx.get c) (txControlTick c s)
  lineControlTick c (fecControlTick c (i.fec.get c) s)

/-- Settings that take force at a control-tick boundary, but for the channels of the sensing chain, which note the
change (13_line_sensing_chain R565). -/
def settleTick (s : Device) : Device := settle .tick (fun k => keyOp k ≠ 0x0A00) s

/-- CONTROL_TICK (R27): the pass of the engines that ends, then what takes force at the boundary. -/
def controlTick (i : TickIn) (s : Device) : Device :=
  let s := endPulses (settleTick (advanceTime i.dt s))
  let s := ringsOff (heldFollow (clockControlTick s))
  let s := enginesTick i.runs i.bg s
  let s := poolControlTick i.pool (each carriers (carrierTick i) s)
  let s := senseControlTick i.sense (tribControlTick s)
  let s := each carriers (fun c s => ostcControlTick c (i.floor.get c) (cryptoControlTick c s)) s
  lanesControlTick (memControlTick (stackControlTick (accordControlTick s)))

/-! ### Slow tick -/

/-- The carriers' parts of a slow tick. -/
def carrierSlow (c : Carrier) (s : Device) : Device :=
  let s := fecSlowTick c (rxSlowTick c (convSlowTick c s))
  ttxSlowTick c (ostcSlowTick c (lineSlowTick c s))

/-- SLOW_TICK (R27). The candidates whose definition changes are found before the settings take force. -/
def slowTick (i : SlowIn) (s : Device) : Device :=
  let moved := movedCands s
  let s := settle .slow (fun k => keyOp k ≠ 0x0505) s
  let s := timingSlowTick i.timing moved (clockSlowTick i.clock s)
  let s := poolSlowTick (each carriers carrierSlow s)
  let s := ptpSlowTick (senseSlowTick (protSlowTick s))
  let s := memSlowTick i.bw (stackSlowTick i.ports s)
  let s := lanesSlowTick i.lanes (elecSlowTick i.elec s)
  faultSlowTick (cryptoSlowTick s)

/-! ### Epoch -/

/-- Device time at an epoch boundary is a whole second (R27). -/
def toSecond (s : Device) : Device :=
  if inReset s .timing || s.timing.now % SEC = 0 then s
  else modTiming (fun t => { t with now := (t.now / SEC + 1) * SEC }) s

/-- The carriers' parts of an epoch. -/
def carrierEpoch (c : Carrier) (s : Device) : Device :=
  let s := ttxEpoch c (rxEpoch c (convEpoch c s))
  lineEpoch c (fecEpoch c s)

/-- EPOCH (R27): the seconds count, the snapshots and judgements of the second that ends, and the uptime. -/
def epoch (m : SillageMeas) (s : Device) : Device :=
  let s := settle .epoch (fun k => keyOp k ≠ 0x0A00) (toSecond s)
  let s := timingEpoch m s
  let s := poolEpoch (each carriers carrierEpoch (tribEpoch s))
  let s := senseEpoch (protEpoch s)
  let s := faultEpoch (memEpoch (accordEpoch s))
  modHost (fun h => { h with uptime := sat 32 (h.uptime + 1) }) s

/-! ### Blocks -/

/-- BLOCK_BOUNDARY of a carrier (R31): element changes and trims, waveform and receive settings, coefficient commits,
and in ZR modes the injection of FEC_INJECT. `txw` and `rxw` mark the block boundary of
03_converters_and_trim R111 of the transmitted and the received training field. -/
def blockBoundary (c : Carrier) (txw rxw : Bool) (s : Device) : Device :=
  if !s.clock.power.get c then s
  else
    let s := settleRx c rxw (settleWave c txw (convBlock c txw rxw s))
    when (zr s c) (injectBoundary c) (commitTables c s)

/-! ### Transmit superframes -/

/-- The 16 bytes of an agreement record, most significant byte first (05_receive_path Table 5-7). -/
def agreeBytes (a : AgreeRec) : List Byte :=
  le 1 a.kind ++ le 1 a.verb ++ le 1 a.seq ++ le 1 a.rxState ++ be 4 a.countOut ++ be 4 a.countBack ++ be 4 a.nonce

/-- The agreement record that 16 bytes spell. -/
def parseAgree (l : List Byte) : AgreeRec :=
  { kind := rd l 0 1, verb := rd l 1 1, seq := rd l 2 1, rxState := rd l 3 1, countOut := fromBe (slice l 4 4),
    countBack := fromBe (slice l 8 4), nonce := fromBe (slice l 12 4) }

/-- The native superframe overhead of the superframe that starts (07_line_framing_and_defects Table 7-2). The tags of
the last superframe are the line engine's, free here (log 12). -/
def buildNso (c : Carrier) (s : Device) : List Byte × Device :=
  let x := (s.tx.get c).xsf
  let r := s.rx.get c
  let record := agreeBytes { r.ownRec with rxState := r.state.code }
  let map := rxMapInForce s c
  let time := ttxField c x s
  let mgmt := mgmtField c time.2
  let tags := drawBytes 128 mgmt.2
  let s := tags.2
  let b := fields 512 [(0, be 4 x), (8, record), (24, be 4 map), (32, time.1), (96, groupField s c s.timing.now),
    (160, cipherField s c tags.1), (416, mgmt.1)]
  (put b 508 (be 4 (crc32c (b.take 508)).toNat), s)

/-- TX_SUPERFRAME of a native carrier whose line clock runs (07_line_framing_and_defects R294): the count, the stamp, the
agreed format, the cipher, injection, and the overhead sent. -/
def txSuperframe (c : Carrier) (dt : Nat) (s : Device) : Device :=
  if !lineClockRuns s c then s
  else
    let s := passTime dt s
    let s := modTx c (fun t => { t with
      xsf := if t.sfSent then wrap 32 (t.xsf + 1) else 0, sfSent := true, sfAt := s.timing.now }) s
    let s := stampTx c (s.tx.get c).xsf s.timing.now s
    let s := injectBoundary c (protTxSuperframe c (lineTxSuperframe c (agreeTxSuperframe c s)))
    let n := buildNso c (cryptoTxSuperframe c s)
    cryptoNoteSent c (emit (.nso c n.1) n.2)

/-! ### Received superframes -/

/-- No slice of a carrier is OOF or OOM (07_line_framing_and_defects R300). -/
def otucCheck (s : Device) (c : Carrier) : Bool :=
  (List.range (slicesOf s c false)).all fun k =>
    let q := sliceOf (sideOf s c false) k
    !q.oof && !q.oom

/-- A received superframe while the alignment is held: the count, the agreed switch, keys and tags, the group record
and the stamp (07_line_framing_and_defects R288, R296). -/
def heldSuperframe (c : Carrier) (i : RxSfIn) (s : Device) : Device :=
  let s := modLine c (fun l => { l with frame := 0 }) s
  let s := modRx c (fun r => { r with xsfRx := if r.inStep then wrap 32 (r.xsfRx + 1) else r.xsfRx }) s
  let r := s.rx.get c
  let s := if r.inStep then agreeRxSuperframe c s else s
  let s := cryptoRxSuperframe c r.xsfRx i.segs s
  let s := formRecord c s.timing.now s
  if r.inStep then stampRx c r.xsfRx s.timing.now s else s

/-- RX_SUPERFRAME of a native carrier. The OTUC check and the code of the superframe that ends are judged first. -/
def rxSuperframe (c : Carrier) (i : RxSfIn) (s : Device) : Device :=
  match rxModeOf s c with
  | none => s
  | some m =>
    if !m.native || !(s.rx.get c).state.atLeast .carrierLock then s
    else
      let s := passTime i.dt s
      let s := rxSuperframeAcq c i.sync i.bringUp (otucCheck s c) i.codeOk s
      if (s.rx.get c).state.atLeast .superframeLock then heldSuperframe c i s else s

/-- The fields of a valid overhead go to their functions (07_line_framing_and_defects R293): count, agreement record,
map, group field, cipher field and the two fragments, whose tags match as `tagA` and `tagB` say. -/
def takeNso (c : Carrier) (b : List Byte) (tagA tagB : Bool) (s : Device) : Device :=
  let x := fromBe (slice b 0 4)
  let s := countNso c x (modLine c (fun l => { l with nso := b }) s)
  let s := answerReceived c (modRx c (fun r => { r with farRec := parseAgree (slice b 8 16) }) s)
  let s := takeGroupField c b (feMapReceived c (fromBe (slice b 24 4)) s)
  let s := cryptoNso c x (rd b 160 1) (rd b 161 1) (rd b 162 1) (rd b 163 1) s
  fragIn c 1 (slice b 448 32) tagB (fragIn c 0 (slice b 416 32) tagA s)

/-- NSO_RECEIVED at the end of a received native superframe (07_line_framing_and_defects R293, R296). -/
def nsoReceived (c : Carrier) (b : List Byte) (tagA tagB : Bool) (s : Device) : Device :=
  if !(s.rx.get c).state.atLeast .superframeLock || !((rxModeOf s c).any fun m => m.native) then s
  else if nsoValid b then takeNso c b tagA tagB s
  else fragInvalid c (nsoDiscard c s)

end Sys2Proof.Machine
end

