-- ==== Sys2Proof/Machine/Exec.lean ====
section
/-!
DEFINITION. One meaning per row of spec/opcode_table.json, over the operations of the chapters' files. An event row is
the chapter's function of that event; a mailbox command is its `Cmd`, run under the rules of `Mailbox`.
-/
namespace Sys2Proof.Machine
open Sys2Proof

/-- The output pins that follow the state at once: `IRQ_N` (21_mailbox_interface R828), `FAULT_N` (19_fault_handling
R757), `TXON_A` and `TXON_B`, high while a transmitter is not in `TX_OFF` (04_transmit_path R170). -/
def drivePins (s : Device) : Device :=
  let s := pinLevel (irqLevel s)
  putElec { s.elec with txon := ⟨s.tx.a.state ≠ .off, s.tx.b.state ≠ .off⟩ } s

/-- A command acts on the device: what the last command sent out is forgotten, the effect happens, the pins follow. -/
def State.act (f : Device → Device) (s : State) : State :=
  { s with dev := drivePins (f (putOut [] s.dev)) }

/-- POWER_ON_RESET (R867). -/
def execPowerOnReset (released : Bool) (x : Straps) (s : State) : Host.Outcome State Fault Refusal :=
  .next (s.act (powerOnReset released x))

/-- RESET_N (R721). -/
def execResetN (low : Bool) (s : State) : Host.Outcome State Fault Refusal :=
  .next (s.act (resetN low))

/-- ZEROIZE_N (R430). -/
def execZeroizeN (low : Bool) (s : State) : Host.Outcome State Fault Refusal :=
  .next (s.act (zeroizeN low))

/-- TAMPER_CONDITION (R430). -/
def execTamperCondition (sensor : Fin 3) (trips : Bool) (s : State) : Host.Outcome State Fault Refusal :=
  .next (s.act (tamperCondition sensor trips))

/-- OSC_READY_RISE (R491). -/
def execOscReadyRise (s : State) : Host.Outcome State Fault Refusal :=
  .next (s.act oscRise)

/-- OSC_READY_FALL (R491). -/
def execOscReadyFall (s : State) : Host.Outcome State Fault Refusal :=
  .next (s.act oscFall)

/-- TRIG_IN_EDGE (R618). -/
def execTrigInEdge (falling : Bool) (t : Time) (s : State) : Host.Outcome State Fault Refusal :=
  .next (s.act (trigInEdge falling t))

/-- OHP_FS_LOSS (R338). -/
def execOhpFsLoss (s : State) : Host.Outcome State Fault Refusal :=
  .next (s.act ohpFsLoss)

/-- OHP_FS_RETURN (R338). -/
def execOhpFsReturn (s : State) : Host.Outcome State Fault Refusal :=
  .next (s.act ohpFsReturn)

/-- OHP_FRAME (R332). -/
def execOhpFrame (a b : OhpIn) (s : State) : Host.Outcome State Fault Refusal :=
  .next (s.act (ohpFrame a b))

/-- XI_INPUT_JUDGED (R702). -/
def execXiInputJudged (n : Fin 2) (ok : Bool) (freq : Int) (s : State) : Host.Outcome State Fault Refusal :=
  .next (s.act (xiInputJudged n ok freq))

/-- ROOT_INPUT_LOSS (R709). -/
def execRootInputLoss (s : State) : Host.Outcome State Fault Refusal :=
  .next (s.act rootInputLoss)

/-- PLL_R_LOCKED (R711). -/
def execPllRLocked (s : State) : Host.Outcome State Fault Refusal :=
  .next (s.act pllRLocked)

/-- SELECTOR_SWITCH (R713). -/
def execSelectorSwitch (k : Fin 11) (s : State) : Host.Outcome State Fault Refusal :=
  .next (s.act (selectorSwitch k))

/-- CLK_FORCED_SWITCH (R714). -/
def execClkForcedSwitch (k : Fin 11) (s : State) : Host.Outcome State Fault Refusal :=
  .next (s.act (clkForcedSwitch k))

/-- SELECTOR_NEW_CLOCK_ABSENT (R715). -/
def execSelectorNewClockAbsent (k : Fin 11) (s : State) : Host.Outcome State Fault Refusal :=
  .next (s.act (selectorNewClockAbsent k))

/-- TICK_ALIGNED (R712). -/
def execTickAligned (s : State) : Host.Outcome State Fault Refusal :=
  .next (s.act tickAligned)

/-- OSC_TRIM_STALE (R717). -/
def execOscTrimStale (s : State) : Host.Outcome State Fault Refusal :=
  .next (s.act oscTrimStale)

/-- MGMT_WATCHDOG (R725). -/
def execMgmtWatchdog (s : State) : Host.Outcome State Fault Refusal :=
  .next (s.act mgmtWatchdog)

/-- DOMAIN_RESET_RELEASE (R722). -/
def execDomainResetRelease (d : Domain) (x : Straps) (s : State) : Host.Outcome State Fault Refusal :=
  .next (s.act (domainResetRelease d x))

/-- DRAM_RETRAIN_COMPLETE (R723). -/
def execDramRetrainComplete (s : State) : Host.Outcome State Fault Refusal :=
  .next (s.act dramRetrainComplete)

/-- CARRIER_LOOP_START (R733). -/
def execCarrierLoopStart (c : Carrier) (s : State) : Host.Outcome State Fault Refusal :=
  .next (s.act (loopStart c))

/-- CONTROL_TICK (R27). -/
def execControlTick (u : TickIn) (s : State) : Host.Outcome State Fault Refusal :=
  .next (s.act (controlTick u))

/-- SLOW_TICK (R27). -/
def execSlowTick (u : SlowIn) (s : State) : Host.Outcome State Fault Refusal :=
  .next (s.act (slowTick u))

/-- EPOCH (R27). -/
def execEpoch (m : SillageMeas) (s : State) : Host.Outcome State Fault Refusal :=
  .next (s.act (epoch m))

/-- TIME_SET_APPLY (R515). -/
def execTimeSetApply (s : State) : Host.Outcome State Fault Refusal :=
  .next (s.act timeSetApply)

/-- SILLAGE_FIT (R493). -/
def execSillageFit (m : SillageModel) (s : State) : Host.Outcome State Fault Refusal :=
  .next (s.act (sillageFit m))

/-- SILLAGE_SNAPSHOT (R496). -/
def execSillageSnapshot (ok : Bool) (s : State) : Host.Outcome State Fault Refusal :=
  .next (s.act (sillageSnapshot ok))

/-- SILLAGE_RESTORE (R496). -/
def execSillageRestore (s : State) : Host.Outcome State Fault Refusal :=
  .next (s.act sillageRestore)

/-- BLOCK_BOUNDARY (R31). -/
def execBlockBoundary (c : Carrier) (txw rxw : Bool) (s : State) : Host.Outcome State Fault Refusal :=
  .next (s.act (blockBoundary c txw rxw))

/-- SWAP_DEFER_EXPIRY (R115). -/
def execSwapDeferExpiry (c : Carrier) (k : Fin 8) (s : State) : Host.Outcome State Fault Refusal :=
  .next (s.act (swapDeferExpiry c k))

/-- SPARE_CALIBRATED (R121). -/
def execSpareCalibrated (c : Carrier) (k : Fin 4) (n : Fin 72) (offset gain : Int) (skew : Nat) (s : State) :
    Host.Outcome State Fault Refusal :=
  .next (s.act (spareCalibrated c k n offset gain skew))

/-- FOREGROUND_CAL_COMPLETE (R120). -/
def execForegroundCalComplete (c : Carrier) (trims : List TrimReq) (cells : List CellMeas) (s : State) :
    Host.Outcome State Fault Refusal :=
  .next (s.act (foregroundCalComplete c trims cells))

/-- SELFTEST_COMPLETE (R133). -/
def execSelftestComplete (c : Carrier) (found : List (Option (Nat × Bool))) (s : State) :
    Host.Outcome State Fault Refusal :=
  .next (s.act (selftestComplete c found))

/-- TX_SUPERFRAME (R294). -/
def execTxSuperframe (c : Carrier) (dt : Nat) (s : State) : Host.Outcome State Fault Refusal :=
  .next (s.act (txSuperframe c dt))

/-- KEY_IV_LIMIT (R408). -/
def execKeyIvLimit (c : Carrier) (rx : Bool) (s : State) : Host.Outcome State Fault Refusal :=
  .next (s.act (keyIvLimit c rx))

/-- NSO_RECEIVED (R293). -/
def execNsoReceived (c : Carrier) (b : List Byte) (tagA tagB : Bool) (s : State) : Host.Outcome State Fault Refusal :=
  .next (s.act (nsoReceived c b tagA tagB))

/-- RX_SUPERFRAME (R288). -/
def execRxSuperframe (c : Carrier) (u : RxSfIn) (s : State) : Host.Outcome State Fault Refusal :=
  .next (s.act (rxSuperframe c u))

/-- KEY_SLOT_ERASED (R407). -/
def execKeySlotErased (c : Carrier) (rx : Bool) (k : Fin 2) (s : State) : Host.Outcome State Fault Refusal :=
  .next (s.act (keySlotErased c rx k))

/-- CRYPTO_ERASE_COMPLETE (R424). -/
def execCryptoEraseComplete (c : Carrier) (s : State) : Host.Outcome State Fault Refusal :=
  .next (s.act (cryptoEraseComplete c))

/-- OTUC_FRAME (R298). -/
def execOtucFrame (c : Carrier) (host : Bool) (u : FrameIn) (s : State) : Host.Outcome State Fault Refusal :=
  .next (s.act (otucFrame c host u))

/-- RX_ACQ_PROGRESS (R217). -/
def execRxAcqProgress (c : Carrier) (u : AcqIn) (s : State) : Host.Outcome State Fault Refusal :=
  .next (s.act (rxAcqProgress c u))

/-- RX_ACQ_TIMEOUT (R219). -/
def execRxAcqTimeout (c : Carrier) (s : State) : Host.Outcome State Fault Refusal :=
  .next (s.act (rxAcqTimeout c))

/-- CD_SEARCH_HINT_MISS (R201). -/
def execCdSearchHintMiss (c : Carrier) (s : State) : Host.Outcome State Fault Refusal :=
  .next (s.act (cdSearchHintMiss c))

/-- LOCK_HOLD_LOSS (R219). -/
def execLockHoldLoss (c : Carrier) (s : State) : Host.Outcome State Fault Refusal :=
  .next (s.act (lockHoldLoss c))

/-- AGREEMENT_RECEIVED (R225). -/
def execAgreementReceived (c : Carrier) (s : State) : Host.Outcome State Fault Refusal :=
  .next (s.act (agreementReceived c))

/-- AGREE_FAIL (R227). -/
def execAgreeFail (c : Carrier) (s : State) : Host.Outcome State Fault Refusal :=
  .next (s.act (agreeFail c))

/-- STAGE_RETRY (R227). -/
def execStageRetry (c : Carrier) (s : State) : Host.Outcome State Fault Refusal :=
  .next (s.act (stageRetry c))

/-- STAGE_PROPOSE (R234). -/
def execStagePropose (c : Carrier) (s : State) : Host.Outcome State Fault Refusal :=
  .next (s.act (stagePropose c))

/-- RX_STAGE_FAIL (R235). -/
def execRxStageFail (c : Carrier) (s : State) : Host.Outcome State Fault Refusal :=
  .next (s.act (rxStageFail c))

/-- TX_LEAD_ELAPSED (R170). -/
def execTxLeadElapsed (c : Carrier) (s : State) : Host.Outcome State Fault Refusal :=
  .next (s.act (txLeadElapsed c))

/-- TX_RAMP_COMPLETE (R171). -/
def execTxRampComplete (c : Carrier) (s : State) : Host.Outcome State Fault Refusal :=
  .next (s.act (txRampComplete c))

/-- ACCORD_SWITCH_T (R73). -/
def execAccordSwitchT (s : State) : Host.Outcome State Fault Refusal :=
  .next (s.act accordSwitchT)

/-- ACCORD_RX_SWITCH (R74). -/
def execAccordRxSwitch (c : Carrier) (s : State) : Host.Outcome State Fault Refusal :=
  .next (s.act (accordRxSwitch c))

/-- ACCORD_SWITCH_COMPLETE (R77). -/
def execAccordSwitchComplete (s : State) : Host.Outcome State Fault Refusal :=
  .next (s.act accordSwitchComplete)

/-- ACCORD_VERIFY_COMPLETE (R57). -/
def execAccordVerifyComplete (u : Fin 16) (v : VerifyIn) (s : State) : Host.Outcome State Fault Refusal :=
  .next (s.act (accordVerifyComplete u v))

/-- ACCORD_LOAD_TIMEOUT (R849). -/
def execAccordLoadTimeout (u : Fin 16) (s : State) : Host.Outcome State Fault Refusal :=
  .next (s.act (accordLoadTimeout u))

/-- ACCORD_DMA_COMPLETE (R849). -/
def execAccordDmaComplete (u : Fin 16) (image : List Byte) (s : State) : Host.Outcome State Fault Refusal :=
  .next (s.act (accordDmaComplete u image))

/-- STAGING_COMPLETE (R63). -/
def execStagingComplete (e : StageEnd) (s : State) : Host.Outcome State Fault Refusal :=
  .next (s.act (stagingComplete e))

/-- POOL_RECONFIG_COMPLETE (R586). -/
def execPoolReconfigComplete (s : State) : Host.Outcome State Fault Refusal :=
  .next (s.act poolReconfigComplete)

/-- SCRUB_SEGMENT (R594). -/
def execScrubSegment (complete : Bool) (s : State) : Host.Outcome State Fault Refusal :=
  .next (s.act (scrubSegment complete))

/-- SCRUB_LATE (R594). -/
def execScrubLate (s : State) : Host.Outcome State Fault Refusal :=
  .next (s.act scrubLate)

/-- DRAM_LINE_ERROR (R593). -/
def execDramLineError (x : DramIn) (s : State) : Host.Outcome State Fault Refusal :=
  .next (s.act (dramLineError x))

/-- ROW_RETIRE_COMPLETE (R596). -/
def execRowRetireComplete (t : Fin 4) (s : State) : Host.Outcome State Fault Refusal :=
  .next (s.act (rowRetireComplete t))

/-- DRAM_REFRESH_RATE (R595). -/
def execDramRefreshRate (t : Fin 4) (fast : Bool) (s : State) : Host.Outcome State Fault Refusal :=
  .next (s.act (dramRefreshRate t fast))

/-- LEQ_FRAME_ARRIVAL (R600). -/
def execLeqFrameArrival (x : LeqIn) (s : State) : Host.Outcome State Fault Refusal :=
  .next (s.act (leqFrameArrival x))

/-- LEQ_FRAME_RELEASE (R604). -/
def execLeqFrameRelease (p : Fin 32) (s : State) : Host.Outcome State Fault Refusal :=
  .next (s.act (leqFrameRelease p))

/-- LEQ_DRAIN_COMPLETE (R612). -/
def execLeqDrainComplete (q : Fin 32768) (s : State) : Host.Outcome State Fault Refusal :=
  .next (s.act (leqDrainComplete q))

/-- BLOTTER_TRIGGER_POINT (R618). -/
def execBlotterTriggerPoint (u : Fin 4) (s : State) : Host.Outcome State Fault Refusal :=
  .next (s.act (blotterTriggerPoint u))

/-- CAPTURE_COMPLETE (R617). -/
def execCaptureComplete (u : Fin 4) (x : CaptureIn) (s : State) : Host.Outcome State Fault Refusal :=
  .next (s.act (captureComplete u x))

/-- SPILL_COMPLETE (R617). -/
def execSpillComplete (u : Fin 4) (s : State) : Host.Outcome State Fault Refusal :=
  .next (s.act (spillComplete u))

/-- CAPTURE_READOUT_ENTRY (R826). -/
def execCaptureReadoutEntry (u : Fin 4) (s : State) : Host.Outcome State Fault Refusal :=
  .next (s.act (captureReadoutEntry u))

/-- SENSE_OUTPUT_SAMPLE (R559). -/
def execSenseOutputSample (ch : Fin 64) (sec k : Nat) (s : State) : Host.Outcome State Fault Refusal :=
  .next (s.act (senseOutputSample ch sec k))

/-- SENSE_RECORD_EMIT (R575). -/
def execSenseRecordEmit (ch : Fin 64) (s : State) : Host.Outcome State Fault Refusal :=
  .next (s.act (senseRecordEmit ch))

/-- OSTC_BURST_START (R439). -/
def execOstcBurstStart (c : Carrier) (s : State) : Host.Outcome State Fault Refusal :=
  .next (s.act (ostcBurstStart c))

/-- OSTC_BURST_END (R437). -/
def execOstcBurstEnd (c : Carrier) (s : State) : Host.Outcome State Fault Refusal :=
  .next (s.act (ostcBurstEnd c))

/-- OSTC_BURST_TRUNCATED (R440). -/
def execOstcBurstTruncated (c : Carrier) (s : State) : Host.Outcome State Fault Refusal :=
  .next (s.act (ostcBurstTruncated c))

/-- OSTC_TRIGGER (R451). -/
def execOstcTrigger (c : Carrier) (s : State) : Host.Outcome State Fault Refusal :=
  .next (s.act (ostcTrigger c))

/-- OSTC_QUALIFY (R451). -/
def execOstcQualify (c : Carrier) (levelQ : Int) (snr : Nat) (s : State) : Host.Outcome State Fault Refusal :=
  .next (s.act (ostcQualify c levelQ snr))

/-- OSTC_QUAL_TIMEOUT (R451). -/
def execOstcQualTimeout (c : Carrier) (s : State) : Host.Outcome State Fault Refusal :=
  .next (s.act (ostcQualTimeout c))

/-- OSTC_FALSE_START (R452). -/
def execOstcFalseStart (c : Carrier) (s : State) : Host.Outcome State Fault Refusal :=
  .next (s.act (ostcFalseStart c))

/-- OSTC_SYNC_FOUND (R451). -/
def execOstcSyncFound (c : Carrier) (mark : Time) (s : State) : Host.Outcome State Fault Refusal :=
  .next (s.act (ostcSyncFound c mark))

/-- OSTC_BURST_RECEIVED (R455). -/
def execOstcBurstReceived (c : Carrier) (res : BurstResult) (s : State) : Host.Outcome State Fault Refusal :=
  .next (s.act (ostcBurstReceived c res))

/-- APS_RECEIVED (R385). -/
def execApsReceived (k : Fin 33) (b : List Byte) (s : State) : Host.Outcome State Fault Refusal :=
  .next (s.act (apsReceived k b))

/-- PROT_APS_MISMATCH (R385). -/
def execProtApsMismatch (k : Fin 33) (s : State) : Host.Outcome State Fault Refusal :=
  .next (s.act (protApsMismatch k))

/-- PROT_HOLD_OFF_EXPIRY (R381). -/
def execProtHoldOffExpiry (k : Fin 33) (s : State) : Host.Outcome State Fault Refusal :=
  .next (s.act (protHoldOffExpiry k))

/-- PROT_WTR_EXPIRY (R382). -/
def execProtWtrExpiry (k : Fin 33) (s : State) : Host.Outcome State Fault Refusal :=
  .next (s.act (protWtrExpiry k))

/-- MERGE_FRAME_RELEASE (R374). -/
def execMergeFrameRelease (u : MergeIn) (s : State) : Host.Outcome State Fault Refusal :=
  .next (s.act (mergeFrameRelease u))

/-- MERGE_COPY (R373). -/
def execMergeCopy (c : Carrier) (behind lead : Int) (s : State) : Host.Outcome State Fault Refusal :=
  .next (s.act (mergeCopy c behind lead))

/-- GROUP_RECORD_RECEIVED (R362). -/
def execGroupRecordReceived (p : Fin 4) (x : GrpRecItem) (s : State) : Host.Outcome State Fault Refusal :=
  .next (s.act (groupRecordReceived p x))

/-- GROUP_RELEASE (R363). -/
def execGroupRelease (k : Fin 16) (n : BitVec 32) (s : State) : Host.Outcome State Fault Refusal :=
  .next (s.act (groupRelease k n))

/-- GROUP_LOA_CHANGE (R365). -/
def execGroupLoaChange (k : Fin 16) (s : State) : Host.Outcome State Fault Refusal :=
  .next (s.act (groupLoaChange k))

/-- TTX_RECORD_RECEIVED (R530). -/
def execTtxRecordReceived (c : Carrier) (u : TtxIn) (s : State) : Host.Outcome State Fault Refusal :=
  .next (s.act (ttxRecordReceived c u))

/-- TTX_EXCHANGE (R533). -/
def execTtxExchange (c : Carrier) (s : State) : Host.Outcome State Fault Refusal :=
  .next (s.act (ttxExchange c))

/-- TTX_CANDIDATE_STALE (R467). -/
def execTtxCandidateStale (c : Carrier) (s : State) : Host.Outcome State Fault Refusal :=
  .next (s.act (ttxCandidateStale c))

/-- PTP_EVENT_FRAME (R542). -/
def execPtpEventFrame (u : PtpIn) (s : State) : Host.Outcome State Fault Refusal :=
  .next (s.act (ptpEventFrame u))

/-- CANDIDATE_ACTIVITY_LOSS (R476). -/
def execCandidateActivityLoss (u : Fin 13) (s : State) : Host.Outcome State Fault Refusal :=
  .next (s.act (candidateActivityLoss u))

/-- CANDIDATE_QUALIFIED (R470). -/
def execCandidateQualified (u : Fin 13) (s : State) : Host.Outcome State Fault Refusal :=
  .next (s.act (candidateQualified u))

/-- CANDIDATE_REENTRY (R479). -/
def execCandidateReentry (u : Fin 13) (s : State) : Host.Outcome State Fault Refusal :=
  .next (s.act (candidateReentry u))

/-- DPLL_LOCK_TIME (R485). -/
def execDpllLockTime (s : State) : Host.Outcome State Fault Refusal :=
  .next (s.act dpllLockTime)

/-- FAST_LOCK_DWELL (R484). -/
def execFastLockDwell (s : State) : Host.Outcome State Fault Refusal :=
  .next (s.act fastLockDwell)

/-- OSC_TEMP_STALE (R507). -/
def execOscTempStale (s : State) : Host.Outcome State Fault Refusal :=
  .next (s.act oscTempStale)

/-- RECEIVED_QL_STALE (R472). -/
def execReceivedQlStale (u : Fin 13) (s : State) : Host.Outcome State Fault Refusal :=
  .next (s.act (receivedQlStale u))

/-- STACK_FRAME_RECEIVED (R672). -/
def execStackFrameReceived (f : StackFrame) (s : State) : Host.Outcome State Fault Refusal :=
  .next (s.act (stackFrameReceived f))

/-- STACK_PORT_UP (R671). -/
def execStackPortUp (p : Fin 4) (intDelay : Nat) (s : State) : Host.Outcome State Fault Refusal :=
  .next (s.act (stackPortUp p intDelay))

/-- STACK_ADAPT_RESTART (R671). -/
def execStackAdaptRestart (p : Fin 4) (s : State) : Host.Outcome State Fault Refusal :=
  .next (s.act (stackAdaptRestart p))

/-- STACK_TIME_VALID (R680). -/
def execStackTimeValid (s : State) : Host.Outcome State Fault Refusal :=
  .next (s.act stackTimeValid)

/-- STACK_MASTER_LOST (R693). -/
def execStackMasterLost (s : State) : Host.Outcome State Fault Refusal :=
  .next (s.act stackMasterLost)

/-- STACK_TAKEOVER (R690). -/
def execStackTakeover (s : State) : Host.Outcome State Fault Refusal :=
  .next (s.act stackTakeover)

/-- STACK_MASTER_LISTEN_END (R676). -/
def execStackMasterListenEnd (s : State) : Host.Outcome State Fault Refusal :=
  .next (s.act stackMasterListenEnd)

/-- STACK_HANDOVER_INSTANT (R692). -/
def execStackHandoverInstant (s : State) : Host.Outcome State Fault Refusal :=
  .next (s.act stackHandoverInstant)

/-- STACK_UPSTREAM_CHANGE (R681). -/
def execStackUpstreamChange (s : State) : Host.Outcome State Fault Refusal :=
  .next (s.act stackUpstreamChange)

/-- HELLO_SEND (R687). -/
def execHelloSend (s : State) : Host.Outcome State Fault Refusal :=
  .next (s.act helloSend)

/-- HELLO_RECEIVED (R687). -/
def execHelloReceived (m : SbMsg) (tagOk : Bool) (s : State) : Host.Outcome State Fault Refusal :=
  .next (s.act (helloReceived m tagOk))

/-- MEMBER_HELLO_TIMEOUT (R687). -/
def execMemberHelloTimeout (m : Fin 8) (s : State) : Host.Outcome State Fault Refusal :=
  .next (s.act (memberHelloTimeout m))

/-- PROXY_REQUEST_RECEIVED (R686). -/
def execProxyRequestReceived (m : SbMsg) (tagOk : Bool) (s : State) : Host.Outcome State Fault Refusal :=
  .next (s.act (proxyRequestReceived m tagOk))

/-- PROXY_RESPONSE_RECEIVED (R686). -/
def execProxyResponseReceived (m : SbMsg) (tagOk : Bool) (s : State) : Host.Outcome State Fault Refusal :=
  .next (s.act (proxyResponseReceived m tagOk))

/-- PROXY_TIMEOUT (R686). -/
def execProxyTimeout (m : Fin 8) (s : State) : Host.Outcome State Fault Refusal :=
  .next (s.act (proxyTimeout m))

/-- FORWARDED_EVENT_RECEIVED (R689). -/
def execForwardedEventReceived (m : SbMsg) (tagOk : Bool) (s : State) : Host.Outcome State Fault Refusal :=
  .next (s.act (forwardedEventReceived m tagOk))

/-- HL_SIGNAL_DETECT (R646). -/
def execHlSignalDetect (u : Fin 32) (present : Bool) (s : State) : Host.Outcome State Fault Refusal :=
  .next (s.act (hlSignalDetect u present))

/-- HL_LOCK_CHANGE (R646). -/
def execHlLockChange (u : Fin 32) (cdr : Bool) (ber : Nat) (s : State) : Host.Outcome State Fault Refusal :=
  .next (s.act (hlLockChange u cdr ber))

/-- HL_ADAPT_TIMEOUT (R647). -/
def execHlAdaptTimeout (u : Fin 32) (s : State) : Host.Outcome State Fault Refusal :=
  .next (s.act (hlAdaptTimeout u))

/-- HL_POLARITY (R649). -/
def execHlPolarity (u : Fin 32) (locks : Bool) (s : State) : Host.Outcome State Fault Refusal :=
  .next (s.act (hlPolarity u locks))

/-- HL_DESKEW_FAIL (R651). -/
def execHlDeskewFail (first : Fin 32) (exceeds : Bool) (s : State) : Host.Outcome State Fault Refusal :=
  .next (s.act (hlDeskewFail first exceeds))

/-- HL_REFCLK_LOSS (R642). -/
def execHlRefclkLoss (k : Fin 8) (s : State) : Host.Outcome State Fault Refusal :=
  .next (s.act (hlRefclkLoss k))

/-- HL_RESET_RELEASE (R662). -/
def execHlResetRelease (k : Fin 8) (s : State) : Host.Outcome State Fault Refusal :=
  .next (s.act (hlResetRelease k))

/-- EYE_SCAN_COMPLETE (R654). -/
def execEyeScanComplete (u : Fin 32) (maps : List Byte) (s : State) : Host.Outcome State Fault Refusal :=
  .next (s.act (eyeScanComplete u maps))

/-- FAULT_EVENT (R747). -/
def execFaultEvent (l : List FaultEntry) (s : State) : Host.Outcome State Fault Refusal :=
  .next (s.act (faultEvent l))

/-- FAULT_REACTION (R754). -/
def execFaultReaction (s : State) : Host.Outcome State Fault Refusal :=
  .next (s.act faultReaction)

/-- FAULT_QUIET_EXPIRY (R749). -/
def execFaultQuietExpiry (id inst : Nat) (s : State) : Host.Outcome State Fault Refusal :=
  .next (s.act (faultQuietExpiry id inst))

/-- RECOVERY_PHASE_END (R743). -/
def execRecoveryPhaseEnd (d : Domain) (s : State) : Host.Outcome State Fault Refusal :=
  .next (s.act (recoveryPhaseEnd d))

/-- FAULT_INJECT_DONE (R763). -/
def execFaultInjectDone (id inst quiet : Nat) (s : State) : Host.Outcome State Fault Refusal :=
  .next (s.act (faultInjectDone id inst quiet))

/-- BLACKBOX_COPY (R767). -/
def execBlackboxCopy (s : State) : Host.Outcome State Fault Refusal :=
  .next (s.act blackboxCopy)

/-- BOOT_HEADER_READ (R776). -/
def execBootHeaderRead (s : State) : Host.Outcome State Fault Refusal :=
  .next (s.act bootHeaderRead)

/-- FIRMWARE_VERIFIED (R781). -/
def execFirmwareVerified (a b p : FwImageIn) (s : State) : Host.Outcome State Fault Refusal :=
  .next (s.act (firmwareVerified a b p))

/-- SRAM_SELF_TEST_COMPLETE (R785). -/
def execSramSelfTestComplete (car : Two Bool) (other : Option Nat) (s : State) : Host.Outcome State Fault Refusal :=
  .next (s.act (sramSelfTestComplete car other))

/-- DRAM_TRAINING_COMPLETE (R786). -/
def execDramTrainingComplete (failed : Option (Fin 4)) (nand : Option NandIn) (s : State) :
    Host.Outcome State Fault Refusal :=
  .next (s.act (dramTrainingComplete failed nand))

/-- BOOT_ACCORD (R787). -/
def execBootAccord (x : BootAccordIn) (s : State) : Host.Outcome State Fault Refusal :=
  .next (s.act (bootAccord x))

/-- STARTUP_SCRIPT (R788). -/
def execStartupScript (s : State) : Host.Outcome State Fault Refusal :=
  .next (s.act startupScript)

/-- FW_READY (R789). -/
def execFwReady (s : State) : Host.Outcome State Fault Refusal :=
  .next (s.act fwReady)

/-- AVS_FAIL (R871). -/
def execAvsFail (s : State) : Host.Outcome State Fault Refusal :=
  .next (s.act avsFail)

/-- TJ_HIGH (R884). -/
def execTjHigh (s : State) : Host.Outcome State Fault Refusal :=
  .next (s.act tjHigh)

/-- NAND_PATROL (R799). -/
def execNandPatrol (ue : List (Nat × Nat)) (w : WearIn) (s : State) : Host.Outcome State Fault Refusal :=
  .next (s.act (nandPatrol ue w))

/-- NAND_BLOCK_GROWN (R797). -/
def execNandBlockGrown (s : State) : Host.Outcome State Fault Refusal :=
  .next (s.act nandBlockGrown)

/-- FLASH_ERASE_COMPLETE (R800). -/
def execFlashEraseComplete (u : FlashUnit) (ok : Bool) (s : State) : Host.Outcome State Fault Refusal :=
  .next (s.act (flashEraseComplete u ok))

/-- OTP_BURN_COMPLETE (R855). -/
def execOtpBurnComplete (ok : Bool) (s : State) : Host.Outcome State Fault Refusal :=
  .next (s.act (otpBurnComplete ok))

/-- FW_ACTIVATE_COMPLETE (R783). -/
def execFwActivateComplete (x : FwImageIn) (s : State) : Host.Outcome State Fault Refusal :=
  .next (s.act (fwActivateComplete x))

/-- DMA_TRANSFER_COMPLETE (R633). -/
def execDmaTransferComplete (mb : Fin 5) (ue : Bool) (s : State) : Host.Outcome State Fault Refusal :=
  .next (s.act (dmaTransferComplete mb ue))

/-- EVENT_DELIVERY (R635). -/
def execEventDelivery (s : State) : Host.Outcome State Fault Refusal :=
  .next (s.act eventDelivery)

/-- EVENT_LOSS (R823). -/
def execEventLoss (d : Fin 65) (s : State) : Host.Outcome State Fault Refusal :=
  .next (s.act (eventLoss d))

/-- MSIX_COALESCE_EXPIRY (R827). -/
def execMsixCoalesceExpiry (k : Fin 64) (s : State) : Host.Outcome State Fault Refusal :=
  .next (s.act (msixCoalesceExpiry k))

/-- BOOT_DOORBELL (R778). -/
def execBootDoorbell (len : BitVec 32) (s : State) : Host.Outcome State Fault Refusal :=
  .next (s.act (bootDoorbell len))

/-- IRQ_STATUS_CLEAR (R828). -/
def execIrqStatusClear (v : BitVec 32) (s : State) : Host.Outcome State Fault Refusal :=
  .next (s.act (irqStatusClear v))

/-- CLK_EN_WRITE (R718). -/
def execClkEnWrite (v : BitVec 32) (s : State) : Host.Outcome State Fault Refusal :=
  .next (s.act (clkEnWrite v))

/-- EVT_FIFO_POP (R822). -/
def execEvtFifoPop (v : BitVec 32) (s : State) : Host.Outcome State Fault Refusal :=
  .next (s.act (evtFifoPop v))

/-- EVT_FIFO_DROP_READ (R823). -/
def execEvtFifoDropRead (s : State) : Host.Outcome State Fault Refusal :=
  .next (s.act evtFifoDropRead)

/-- RING_TAIL_WRITE (R825). -/
def execRingTailWrite (k : Fin 64) (v : BitVec 32) (s : State) : Host.Outcome State Fault Refusal :=
  .next (s.act (ringTailWrite k v))

/-- RING_DROP_READ (R823). -/
def execRingDropRead (k : Fin 64) (s : State) : Host.Outcome State Fault Refusal :=
  .next (s.act (ringDropRead k))

/-- DEBUG_WINDOW_WRITE (R810). -/
def execDebugWindowWrite (off : BitVec 23) (v : BitVec 32) (block : Option (Fin 18)) (s : State) :
    Host.Outcome State Fault Refusal :=
  .next (s.act (debugWindowWrite off v block))

/-- REGISTER_WRITE (R807). -/
def execRegisterWrite (u : Iface) (off : BitVec 16) (v : BitVec 32) (s : State) : Host.Outcome State Fault Refusal :=
  .next (s.act (registerWrite u off v))

/-- PROXIED_COMMAND (R830). -/
def execProxiedCommand (op : BitVec 16) (r : Req) (s : State) : Host.Outcome State Fault Refusal :=
  .next (s.act (proxiedCommand op r))

/-- DEVICE_INFO (R848): a request of mailbox 0 to 3. -/
def execDeviceInfo (r : Req) (s : State) : Host.Outcome State Fault Refusal :=
  .next (s.act (mailboxRun 0x0000 deviceInfoCmd r))

/-- RING_CONFIG (R827): a request of mailbox 0 to 3. -/
def execRingConfig (r : Req) (s : State) : Host.Outcome State Fault Refusal :=
  .next (s.act (mailboxRun 0x0001 ringConfigCmd r))

/-- OTP_PROGRAM (R855): a request of mailbox 0 to 3. -/
def execOtpProgram (r : Req) (s : State) : Host.Outcome State Fault Refusal :=
  .next (s.act (mailboxRun 0x0002 otpProgramCmd r))

/-- ACCORD_LIST (R850): a request of mailbox 0 to 3. -/
def execAccordList (r : Req) (s : State) : Host.Outcome State Fault Refusal :=
  .next (s.act (mailboxRun 0x0100 accordListCmd r))

/-- ACCORD_LOAD (R849): a request of mailbox 0 to 3. -/
def execAccordLoad (r : Req) (s : State) : Host.Outcome State Fault Refusal :=
  .next (s.act (mailboxRun 0x0101 accordLoadCmd r))

/-- ACCORD_INFO (R850): a request of mailbox 0 to 3. -/
def execAccordInfo (r : Req) (s : State) : Host.Outcome State Fault Refusal :=
  .next (s.act (mailboxRun 0x0102 accordInfoCmd r))

/-- ACCORD_REPORT (R98): a request of mailbox 0 to 3. -/
def execAccordReport (r : Req) (s : State) : Host.Outcome State Fault Refusal :=
  .next (s.act (mailboxRun 0x0103 accordReportCmd r))

/-- ACCORD_STAGE (R63): a request of mailbox 0 to 3. -/
def execAccordStage (r : Req) (s : State) : Host.Outcome State Fault Refusal :=
  .next (s.act (mailboxRun 0x0104 accordStageCmd r))

/-- ACCORD_SWITCH (R69): a request of mailbox 0 to 3. -/
def execAccordSwitch (r : Req) (s : State) : Host.Outcome State Fault Refusal :=
  .next (s.act (mailboxRun 0x0105 accordSwitchCmd r))

/-- ACCORD_CANCEL (R65): a request of mailbox 0 to 3. -/
def execAccordCancel (r : Req) (s : State) : Host.Outcome State Fault Refusal :=
  .next (s.act (mailboxRun 0x0106 accordCancelCmd r))

/-- ACCORD_DELETE (R59): a request of mailbox 0 to 3. -/
def execAccordDelete (r : Req) (s : State) : Host.Outcome State Fault Refusal :=
  .next (s.act (mailboxRun 0x0107 accordDeleteCmd r))

/-- ACCORD_VERSION_COMMIT (R60): a request of mailbox 0 to 3. -/
def execAccordVersionCommit (r : Req) (s : State) : Host.Outcome State Fault Refusal :=
  .next (s.act (mailboxRun 0x0108 accordVersionCommitCmd r))

/-- ACCORD_LIMITS (R46): a request of mailbox 0 to 3. -/
def execAccordLimits (r : Req) (s : State) : Host.Outcome State Fault Refusal :=
  .next (s.act (mailboxRun 0x0109 accordLimitsCmd r))

/-- ENGINE_STATUS (R95): a request of mailbox 0 to 3. -/
def execEngineStatus (r : Req) (s : State) : Host.Outcome State Fault Refusal :=
  .next (s.act (mailboxRun 0x010A engineStatusCmd r))

/-- ENGINE_READ (R96): a request of mailbox 0 to 3. -/
def execEngineRead (r : Req) (s : State) : Host.Outcome State Fault Refusal :=
  .next (s.act (mailboxRun 0x010B engineReadCmd r))

/-- TX_CONFIG (R178): a request of mailbox 0 to 3. -/
def execTxConfig (r : Req) (s : State) : Host.Outcome State Fault Refusal :=
  .next (s.act (mailboxRun 0x0220 txConfigCmd r))

/-- TX_ENABLE (R180): a request of mailbox 0 to 3. -/
def execTxEnable (r : Req) (s : State) : Host.Outcome State Fault Refusal :=
  .next (s.act (mailboxRun 0x0221 txEnableCmd r))

/-- TX_STATUS (R181): a request of mailbox 0 to 3. -/
def execTxStatus (r : Req) (s : State) : Host.Outcome State Fault Refusal :=
  .next (s.act (mailboxRun 0x0222 txStatusCmd r))

/-- TX_PREEMPH (R179): a request of mailbox 0 to 3. -/
def execTxPreemph (r : Req) (s : State) : Host.Outcome State Fault Refusal :=
  .next (s.act (mailboxRun 0x0223 txPreemphCmd r))

/-- RX_CONFIG (R236): a request of mailbox 0 to 3. -/
def execRxConfig (r : Req) (s : State) : Host.Outcome State Fault Refusal :=
  .next (s.act (mailboxRun 0x0230 rxConfigCmd r))

/-- RX_ENABLE (R237): a request of mailbox 0 to 3. -/
def execRxEnable (r : Req) (s : State) : Host.Outcome State Fault Refusal :=
  .next (s.act (mailboxRun 0x0231 rxEnableCmd r))

/-- RX_STATUS (R240): a request of mailbox 0 to 3. -/
def execRxStatus (r : Req) (s : State) : Host.Outcome State Fault Refusal :=
  .next (s.act (mailboxRun 0x0232 rxStatusCmd r))

/-- RX_MONITOR (R241): a request of mailbox 0 to 3. -/
def execRxMonitor (r : Req) (s : State) : Host.Outcome State Fault Refusal :=
  .next (s.act (mailboxRun 0x0233 rxMonitorCmd r))

/-- RX_REACQUIRE (R238): a request of mailbox 0 to 3. -/
def execRxReacquire (r : Req) (s : State) : Host.Outcome State Fault Refusal :=
  .next (s.act (mailboxRun 0x0234 rxReacquireCmd r))

/-- LINE_AGREE (R239): a request of mailbox 0 to 3. -/
def execLineAgree (r : Req) (s : State) : Host.Outcome State Fault Refusal :=
  .next (s.act (mailboxRun 0x0235 lineAgreeCmd r))

/-- CAL_READ (R138): a request of mailbox 0 to 3. -/
def execCalRead (r : Req) (s : State) : Host.Outcome State Fault Refusal :=
  .next (s.act (mailboxRun 0x0240 calReadCmd r))

/-- CAL_CONFIG (R136): a request of mailbox 0 to 3. -/
def execCalConfig (r : Req) (s : State) : Host.Outcome State Fault Refusal :=
  .next (s.act (mailboxRun 0x0241 calConfigCmd r))

/-- CAL_SWAP (R137): a request of mailbox 0 to 3. -/
def execCalSwap (r : Req) (s : State) : Host.Outcome State Fault Refusal :=
  .next (s.act (mailboxRun 0x0242 calSwapCmd r))

/-- CONV_PORT_STATUS (R139): a request of mailbox 0 to 3. -/
def execConvPortStatus (r : Req) (s : State) : Host.Outcome State Fault Refusal :=
  .next (s.act (mailboxRun 0x0243 convPortStatusCmd r))

/-- CONV_SELFTEST (R140): a request of mailbox 0 to 3. -/
def execConvSelftest (r : Req) (s : State) : Host.Outcome State Fault Refusal :=
  .next (s.act (mailboxRun 0x0244 convSelftestCmd r))

/-- CARRIER_LOOPBACK (R667): a request of mailbox 0 to 3. -/
def execCarrierLoopback (r : Req) (s : State) : Host.Outcome State Fault Refusal :=
  .next (s.act (mailboxRun 0x0250 carrierLoopbackCmd r))

/-- FEC_CONFIG (R280): a request of mailbox 0 to 3. -/
def execFecConfig (r : Req) (s : State) : Host.Outcome State Fault Refusal :=
  .next (s.act (mailboxRun 0x0300 fecConfigCmd r))

/-- FEC_STATUS (R281): a request of mailbox 0 to 3. -/
def execFecStatus (r : Req) (s : State) : Host.Outcome State Fault Refusal :=
  .next (s.act (mailboxRun 0x0301 fecStatusCmd r))

/-- FEC_COUNTERS (R282): a request of mailbox 0 to 3. -/
def execFecCounters (r : Req) (s : State) : Host.Outcome State Fault Refusal :=
  .next (s.act (mailboxRun 0x0302 fecCountersCmd r))

/-- FEC_CLEAR (R283): a request of mailbox 0 to 3. -/
def execFecClear (r : Req) (s : State) : Host.Outcome State Fault Refusal :=
  .next (s.act (mailboxRun 0x0303 fecClearCmd r))

/-- FEC_POOL_STATUS (R284): a request of mailbox 0 to 3. -/
def execFecPoolStatus (r : Req) (s : State) : Host.Outcome State Fault Refusal :=
  .next (s.act (mailboxRun 0x0304 fecPoolStatusCmd r))

/-- FEC_INJECT (R285): a request of mailbox 0 to 3. -/
def execFecInject (r : Req) (s : State) : Host.Outcome State Fault Refusal :=
  .next (s.act (mailboxRun 0x0305 fecInjectCmd r))

/-- LINE_CONFIG (R339): a request of mailbox 0 to 3. -/
def execLineConfig (r : Req) (s : State) : Host.Outcome State Fault Refusal :=
  .next (s.act (mailboxRun 0x0400 lineConfigCmd r))

/-- LINE_DEFECTS (R341): a request of mailbox 0 to 3. -/
def execLineDefects (r : Req) (s : State) : Host.Outcome State Fault Refusal :=
  .next (s.act (mailboxRun 0x0401 lineDefectsCmd r))

/-- LINE_TTI (R340): a request of mailbox 0 to 3. -/
def execLineTti (r : Req) (s : State) : Host.Outcome State Fault Refusal :=
  .next (s.act (mailboxRun 0x0402 lineTtiCmd r))

/-- LINE_TTI_READ (R340): a request of mailbox 0 to 3. -/
def execLineTtiRead (r : Req) (s : State) : Host.Outcome State Fault Refusal :=
  .next (s.act (mailboxRun 0x0403 lineTtiReadCmd r))

/-- OHP_CONFIG (R342): a request of mailbox 0 to 3. -/
def execOhpConfig (r : Req) (s : State) : Host.Outcome State Fault Refusal :=
  .next (s.act (mailboxRun 0x0404 ohpConfigCmd r))

/-- OHP_STATUS (R343): a request of mailbox 0 to 3. -/
def execOhpStatus (r : Req) (s : State) : Host.Outcome State Fault Refusal :=
  .next (s.act (mailboxRun 0x0405 ohpStatusCmd r))

/-- LINE_CLEAR (R341): a request of mailbox 0 to 3. -/
def execLineClear (r : Req) (s : State) : Host.Outcome State Fault Refusal :=
  .next (s.act (mailboxRun 0x0406 lineClearCmd r))

/-- TRIB_CONFIG (R356): a request of mailbox 0 to 3. -/
def execTribConfig (r : Req) (s : State) : Host.Outcome State Fault Refusal :=
  .next (s.act (mailboxRun 0x0500 tribConfigCmd r))

/-- TRIB_STATUS (R357): a request of mailbox 0 to 3. -/
def execTribStatus (r : Req) (s : State) : Host.Outcome State Fault Refusal :=
  .next (s.act (mailboxRun 0x0501 tribStatusCmd r))

/-- TRIB_TTI (R357): a request of mailbox 0 to 3. -/
def execTribTti (r : Req) (s : State) : Host.Outcome State Fault Refusal :=
  .next (s.act (mailboxRun 0x0502 tribTtiCmd r))

/-- GROUP_CONFIG (R367): a request of mailbox 0 to 3. -/
def execGroupConfig (r : Req) (s : State) : Host.Outcome State Fault Refusal :=
  .next (s.act (mailboxRun 0x0503 groupConfigCmd r))

/-- GROUP_STATUS (R368): a request of mailbox 0 to 3. -/
def execGroupStatus (r : Req) (s : State) : Host.Outcome State Fault Refusal :=
  .next (s.act (mailboxRun 0x0504 groupStatusCmd r))

/-- PROT_CONFIG (R387): a request of mailbox 0 to 3. -/
def execProtConfig (r : Req) (s : State) : Host.Outcome State Fault Refusal :=
  .next (s.act (mailboxRun 0x0505 protConfigCmd r))

/-- PROT_CLEAR (R383): a request of mailbox 0 to 3. -/
def execProtClear (r : Req) (s : State) : Host.Outcome State Fault Refusal :=
  .next (s.act (mailboxRun 0x0506 protClearCmd r))

/-- PROT_LOCKOUT (R388): a request of mailbox 0 to 3. -/
def execProtLockout (r : Req) (s : State) : Host.Outcome State Fault Refusal :=
  .next (s.act (mailboxRun 0x0506 protLockoutCmd r))

/-- PROT_FORCED (R388): a request of mailbox 0 to 3. -/
def execProtForced (r : Req) (s : State) : Host.Outcome State Fault Refusal :=
  .next (s.act (mailboxRun 0x0506 protForcedCmd r))

/-- PROT_MANUAL_P (R388): a request of mailbox 0 to 3. -/
def execProtManualP (r : Req) (s : State) : Host.Outcome State Fault Refusal :=
  .next (s.act (mailboxRun 0x0506 protManualPCmd r))

/-- PROT_MANUAL_W (R388): a request of mailbox 0 to 3. -/
def execProtManualW (r : Req) (s : State) : Host.Outcome State Fault Refusal :=
  .next (s.act (mailboxRun 0x0506 protManualWCmd r))

/-- PROT_REALIGN (R379): a request of mailbox 0 to 3. -/
def execProtRealign (r : Req) (s : State) : Host.Outcome State Fault Refusal :=
  .next (s.act (mailboxRun 0x0506 protRealignCmd r))

/-- PROT_STATUS (R389): a request of mailbox 0 to 3. -/
def execProtStatus (r : Req) (s : State) : Host.Outcome State Fault Refusal :=
  .next (s.act (mailboxRun 0x0507 protStatusCmd r))

/-- CRYPTO_CONFIG (R427): a request of mailbox 0 to 3. -/
def execCryptoConfig (r : Req) (s : State) : Host.Outcome State Fault Refusal :=
  .next (s.act (mailboxRun 0x0600 cryptoConfigCmd r))

/-- CRYPTO_KEY_LOAD (R404): a request of mailbox 0 to 3. -/
def execCryptoKeyLoad (r : Req) (s : State) : Host.Outcome State Fault Refusal :=
  .next (s.act (mailboxRun 0x0601 cryptoKeyLoadCmd r))

/-- CRYPTO_ROLL (R405): a request of mailbox 0 to 3. -/
def execCryptoRoll (r : Req) (s : State) : Host.Outcome State Fault Refusal :=
  .next (s.act (mailboxRun 0x0602 cryptoRollCmd r))

/-- CRYPTO_STATUS (R429): a request of mailbox 0 to 3. -/
def execCryptoStatus (r : Req) (s : State) : Host.Outcome State Fault Refusal :=
  .next (s.act (mailboxRun 0x0603 cryptoStatusCmd r))

/-- CRYPTO_ZEROIZE (R420): a request of mailbox 0 to 3. -/
def execCryptoZeroize (r : Req) (s : State) : Host.Outcome State Fault Refusal :=
  .next (s.act (mailboxRun 0x0604 cryptoZeroizeCmd r))

/-- CRYPTO_ALARM_CLEAR (R422): a request of mailbox 0 to 3. -/
def execCryptoAlarmClear (r : Req) (s : State) : Host.Outcome State Fault Refusal :=
  .next (s.act (mailboxRun 0x0605 cryptoAlarmClearCmd r))

/-- OSTC_CONFIG (R458): a request of mailbox 0 to 3. -/
def execOstcConfig (r : Req) (s : State) : Host.Outcome State Fault Refusal :=
  .next (s.act (mailboxRun 0x0700 ostcConfigCmd r))

/-- OSTC_SEND (R459): a request of mailbox 0 to 3. -/
def execOstcSend (r : Req) (s : State) : Host.Outcome State Fault Refusal :=
  .next (s.act (mailboxRun 0x0701 ostcSendCmd r))

/-- OSTC_RECV (R460): a request of mailbox 0 to 3. -/
def execOstcRecv (r : Req) (s : State) : Host.Outcome State Fault Refusal :=
  .next (s.act (mailboxRun 0x0702 ostcRecvCmd r))

/-- OSTC_STATUS (R461): a request of mailbox 0 to 3. -/
def execOstcStatus (r : Req) (s : State) : Host.Outcome State Fault Refusal :=
  .next (s.act (mailboxRun 0x0703 ostcStatusCmd r))

/-- OSTC_CLEAR (R461): a request of mailbox 0 to 3. -/
def execOstcClear (r : Req) (s : State) : Host.Outcome State Fault Refusal :=
  .next (s.act (mailboxRun 0x0704 ostcClearCmd r))

/-- TIMING_REF_CONFIG (R504): a request of mailbox 0 to 3. -/
def execTimingRefConfig (r : Req) (s : State) : Host.Outcome State Fault Refusal :=
  .next (s.act (mailboxRun 0x0800 timingRefConfigCmd r))

/-- TIMING_SEL_CONFIG (R505): a request of mailbox 0 to 3. -/
def execTimingSelConfig (r : Req) (s : State) : Host.Outcome State Fault Refusal :=
  .next (s.act (mailboxRun 0x0801 timingSelConfigCmd r))

/-- TIMING_DPLL_CONFIG (R506): a request of mailbox 0 to 3. -/
def execTimingDpllConfig (r : Req) (s : State) : Host.Outcome State Fault Refusal :=
  .next (s.act (mailboxRun 0x0802 timingDpllConfigCmd r))

/-- TIMING_CLEAR (R475): a request of mailbox 0 to 3. -/
def execTimingClear (r : Req) (s : State) : Host.Outcome State Fault Refusal :=
  .next (s.act (mailboxRun 0x0803 timingClearCmd r))

/-- TIMING_FORCE (R475): a request of mailbox 0 to 3. -/
def execTimingForce (r : Req) (s : State) : Host.Outcome State Fault Refusal :=
  .next (s.act (mailboxRun 0x0803 timingForceCmd r))

/-- TIMING_HOLDOVER (R507): a request of mailbox 0 to 3. -/
def execTimingHoldover (r : Req) (s : State) : Host.Outcome State Fault Refusal :=
  .next (s.act (mailboxRun 0x0803 timingHoldoverCmd r))

/-- CLEAR_WTR (R469): a request of mailbox 0 to 3. -/
def execClearWtr (r : Req) (s : State) : Host.Outcome State Fault Refusal :=
  .next (s.act (mailboxRun 0x0803 clearWtrCmd r))

/-- SILLAGE_SAVE (R496): a request of mailbox 0 to 3. -/
def execSillageSave (r : Req) (s : State) : Host.Outcome State Fault Refusal :=
  .next (s.act (mailboxRun 0x0803 sillageSaveCmd r))

/-- SILLAGE_RESET (R497): a request of mailbox 0 to 3. -/
def execSillageReset (r : Req) (s : State) : Host.Outcome State Fault Refusal :=
  .next (s.act (mailboxRun 0x0803 sillageResetCmd r))

/-- OSC_TEMP (R507): a request of mailbox 0 to 3. -/
def execOscTemp (r : Req) (s : State) : Host.Outcome State Fault Refusal :=
  .next (s.act (mailboxRun 0x0803 oscTempCmd r))

/-- TIMING_STATUS (R508): a request of mailbox 0 to 3. -/
def execTimingStatus (r : Req) (s : State) : Host.Outcome State Fault Refusal :=
  .next (s.act (mailboxRun 0x0804 timingStatusCmd r))

/-- TIMING_REF_STATUS (R509): a request of mailbox 0 to 3. -/
def execTimingRefStatus (r : Req) (s : State) : Host.Outcome State Fault Refusal :=
  .next (s.act (mailboxRun 0x0805 timingRefStatusCmd r))

/-- TIMING_OUT_CONFIG (R510): a request of mailbox 0 to 3. -/
def execTimingOutConfig (r : Req) (s : State) : Host.Outcome State Fault Refusal :=
  .next (s.act (mailboxRun 0x0806 timingOutConfigCmd r))

/-- SILLAGE_READ (R511): a request of mailbox 0 to 3. -/
def execSillageRead (r : Req) (s : State) : Host.Outcome State Fault Refusal :=
  .next (s.act (mailboxRun 0x0807 sillageReadCmd r))

/-- TTX_CONFIG (R544): a request of mailbox 0 to 3. -/
def execTtxConfig (r : Req) (s : State) : Host.Outcome State Fault Refusal :=
  .next (s.act (mailboxRun 0x0900 ttxConfigCmd r))

/-- TTX_CAL_SET (R537): a request of mailbox 0 to 3. -/
def execTtxCalSet (r : Req) (s : State) : Host.Outcome State Fault Refusal :=
  .next (s.act (mailboxRun 0x0901 ttxCalSetCmd r))

/-- TTX_STATUS (R546): a request of mailbox 0 to 3. -/
def execTtxStatus (r : Req) (s : State) : Host.Outcome State Fault Refusal :=
  .next (s.act (mailboxRun 0x0902 ttxStatusCmd r))

/-- TTX_DELAY_READ (R547): a request of mailbox 0 to 3. -/
def execTtxDelayRead (r : Req) (s : State) : Host.Outcome State Fault Refusal :=
  .next (s.act (mailboxRun 0x0903 ttxDelayReadCmd r))

/-- TTX_TIME_SET (R515): a request of mailbox 0 to 3. -/
def execTtxTimeSet (r : Req) (s : State) : Host.Outcome State Fault Refusal :=
  .next (s.act (mailboxRun 0x0904 ttxTimeSetCmd r))

/-- PTP_PORT_CONFIG (R549): a request of mailbox 0 to 3. -/
def execPtpPortConfig (r : Req) (s : State) : Host.Outcome State Fault Refusal :=
  .next (s.act (mailboxRun 0x0905 ptpPortConfigCmd r))

/-- SENSE_CONFIG (R577): a request of mailbox 0 to 3. -/
def execSenseConfig (r : Req) (s : State) : Host.Outcome State Fault Refusal :=
  .next (s.act (mailboxRun 0x0A00 senseConfigCmd r))

/-- SENSE_INFO (R578): a request of mailbox 0 to 3. -/
def execSenseInfo (r : Req) (s : State) : Host.Outcome State Fault Refusal :=
  .next (s.act (mailboxRun 0x0A01 senseInfoCmd r))

/-- SENSE_STATUS (R579): a request of mailbox 0 to 3. -/
def execSenseStatus (r : Req) (s : State) : Host.Outcome State Fault Refusal :=
  .next (s.act (mailboxRun 0x0A02 senseStatusCmd r))

/-- SENSE_READ (R580): a request of mailbox 0 to 3. -/
def execSenseRead (r : Req) (s : State) : Host.Outcome State Fault Refusal :=
  .next (s.act (mailboxRun 0x0A03 senseReadCmd r))

/-- SENSE_CLEAR (R579): a request of mailbox 0 to 3. -/
def execSenseClear (r : Req) (s : State) : Host.Outcome State Fault Refusal :=
  .next (s.act (mailboxRun 0x0A04 senseClearCmd r))

/-- MEM_POOL_SET (R585): a request of mailbox 0 to 3. -/
def execMemPoolSet (r : Req) (s : State) : Host.Outcome State Fault Refusal :=
  .next (s.act (mailboxRun 0x0B00 memPoolSetCmd r))

/-- MEM_STATUS (R854): a request of mailbox 0 to 3. -/
def execMemStatus (r : Req) (s : State) : Host.Outcome State Fault Refusal :=
  .next (s.act (mailboxRun 0x0B01 memStatusCmd r))

/-- MEM_SCRUB_CONFIG (R594): a request of mailbox 0 to 3. -/
def execMemScrubConfig (r : Req) (s : State) : Host.Outcome State Fault Refusal :=
  .next (s.act (mailboxRun 0x0B02 memScrubConfigCmd r))

/-- MEM_REPAIR_STATUS (R597): a request of mailbox 0 to 3. -/
def execMemRepairStatus (r : Req) (s : State) : Host.Outcome State Fault Refusal :=
  .next (s.act (mailboxRun 0x0B03 memRepairStatusCmd r))

/-- MEM_CLEAR (R847): a request of mailbox 0 to 3. -/
def execMemClear (r : Req) (s : State) : Host.Outcome State Fault Refusal :=
  .next (s.act (mailboxRun 0x0B04 memClearCmd r))

/-- LEQ_PORT_CONFIG (R851): a request of mailbox 0 to 3. -/
def execLeqPortConfig (r : Req) (s : State) : Host.Outcome State Fault Refusal :=
  .next (s.act (mailboxRun 0x0B05 leqPortConfigCmd r))

/-- LEQ_KEY_PROFILE (R601): a request of mailbox 0 to 3. -/
def execLeqKeyProfile (r : Req) (s : State) : Host.Outcome State Fault Refusal :=
  .next (s.act (mailboxRun 0x0B06 leqKeyProfileCmd r))

/-- LEQ_TS_PROFILE (R852): a request of mailbox 0 to 3. -/
def execLeqTsProfile (r : Req) (s : State) : Host.Outcome State Fault Refusal :=
  .next (s.act (mailboxRun 0x0B07 leqTsProfileCmd r))

/-- LEQ_QUEUE_CONFIG (R615): a request of mailbox 0 to 3. -/
def execLeqQueueConfig (r : Req) (s : State) : Host.Outcome State Fault Refusal :=
  .next (s.act (mailboxRun 0x0B08 leqQueueConfigCmd r))

/-- LEQ_QUEUE_STATUS (R615): a request of mailbox 0 to 3. -/
def execLeqQueueStatus (r : Req) (s : State) : Host.Outcome State Fault Refusal :=
  .next (s.act (mailboxRun 0x0B09 leqQueueStatusCmd r))

/-- BLOTTER_ARM (R616): a request of mailbox 0 to 3. -/
def execBlotterArm (r : Req) (s : State) : Host.Outcome State Fault Refusal :=
  .next (s.act (mailboxRun 0x0B0A blotterArmCmd r))

/-- BLOTTER_TRIGGER (R618): a request of mailbox 0 to 3. -/
def execBlotterTrigger (r : Req) (s : State) : Host.Outcome State Fault Refusal :=
  .next (s.act (mailboxRun 0x0B0B blotterTriggerCmd r))

/-- BLOTTER_STATUS (R854): a request of mailbox 0 to 3. -/
def execBlotterStatus (r : Req) (s : State) : Host.Outcome State Fault Refusal :=
  .next (s.act (mailboxRun 0x0B0C blotterStatusCmd r))

/-- BLOTTER_READ (R623): a request of mailbox 0 to 3. -/
def execBlotterRead (r : Req) (s : State) : Host.Outcome State Fault Refusal :=
  .next (s.act (mailboxRun 0x0B0D blotterReadCmd r))

/-- BLOTTER_SPILL (R623): a request of mailbox 0 to 3. -/
def execBlotterSpill (r : Req) (s : State) : Host.Outcome State Fault Refusal :=
  .next (s.act (mailboxRun 0x0B0E blotterSpillCmd r))

/-- BLOTTER_FREE (R617): a request of mailbox 0 to 3. -/
def execBlotterFree (r : Req) (s : State) : Host.Outcome State Fault Refusal :=
  .next (s.act (mailboxRun 0x0B0F blotterFreeCmd r))

/-- HL_CONFIG (R663): a request of mailbox 0 to 3. -/
def execHlConfig (r : Req) (s : State) : Host.Outcome State Fault Refusal :=
  .next (s.act (mailboxRun 0x0C00 hlConfigCmd r))

/-- HL_STATUS (R664): a request of mailbox 0 to 3. -/
def execHlStatus (r : Req) (s : State) : Host.Outcome State Fault Refusal :=
  .next (s.act (mailboxRun 0x0C01 hlStatusCmd r))

/-- HL_EYE_SCAN (R654): a request of mailbox 0 to 3. -/
def execHlEyeScan (r : Req) (s : State) : Host.Outcome State Fault Refusal :=
  .next (s.act (mailboxRun 0x0C02 hlEyeScanCmd r))

/-- HL_EYE_READ (R665): a request of mailbox 0 to 3. -/
def execHlEyeRead (r : Req) (s : State) : Host.Outcome State Fault Refusal :=
  .next (s.act (mailboxRun 0x0C03 hlEyeReadCmd r))

/-- HL_RESET (R662): a request of mailbox 0 to 3. -/
def execHlReset (r : Req) (s : State) : Host.Outcome State Fault Refusal :=
  .next (s.act (mailboxRun 0x0C04 hlResetCmd r))

/-- HL_CLEAR (R664): a request of mailbox 0 to 3. -/
def execHlClear (r : Req) (s : State) : Host.Outcome State Fault Refusal :=
  .next (s.act (mailboxRun 0x0C05 hlClearCmd r))

/-- STACK_CONFIG (R695): a request of mailbox 0 to 3. -/
def execStackConfig (r : Req) (s : State) : Host.Outcome State Fault Refusal :=
  .next (s.act (mailboxRun 0x0D00 stackConfigCmd r))

/-- STACK_STATUS (R696): a request of mailbox 0 to 3. -/
def execStackStatus (r : Req) (s : State) : Host.Outcome State Fault Refusal :=
  .next (s.act (mailboxRun 0x0D01 stackStatusCmd r))

/-- STACK_PORT_STATUS (R697): a request of mailbox 0 to 3. -/
def execStackPortStatus (r : Req) (s : State) : Host.Outcome State Fault Refusal :=
  .next (s.act (mailboxRun 0x0D02 stackPortStatusCmd r))

/-- STACK_HANDOVER (R692): a request of mailbox 0 to 3. -/
def execStackHandover (r : Req) (s : State) : Host.Outcome State Fault Refusal :=
  .next (s.act (mailboxRun 0x0D03 stackHandoverCmd r))

/-- STACK_CLEAR (R696): a request of mailbox 0 to 3. -/
def execStackClear (r : Req) (s : State) : Host.Outcome State Fault Refusal :=
  .next (s.act (mailboxRun 0x0D04 stackClearCmd r))

/-- CLOCK_CONFIG (R734): a request of mailbox 0 to 3. -/
def execClockConfig (r : Req) (s : State) : Host.Outcome State Fault Refusal :=
  .next (s.act (mailboxRun 0x0E00 clockConfigCmd r))

/-- CLOCK_STATUS (R735): a request of mailbox 0 to 3. -/
def execClockStatus (r : Req) (s : State) : Host.Outcome State Fault Refusal :=
  .next (s.act (mailboxRun 0x0E01 clockStatusCmd r))

/-- RESET_DOMAIN (R736): a request of mailbox 0 to 3. -/
def execResetDomain (r : Req) (s : State) : Host.Outcome State Fault Refusal :=
  .next (s.act (mailboxRun 0x0E02 resetDomainCmd r))

/-- RESET_STATUS (R737): a request of mailbox 0 to 3. -/
def execResetStatus (r : Req) (s : State) : Host.Outcome State Fault Refusal :=
  .next (s.act (mailboxRun 0x0E03 resetStatusCmd r))

/-- FAULT_LIST (R742): a request of mailbox 0 to 3. -/
def execFaultList (r : Req) (s : State) : Host.Outcome State Fault Refusal :=
  .next (s.act (mailboxRun 0x0F00 faultListCmd r))

/-- FAULT_CONFIG (R768): a request of mailbox 0 to 3. -/
def execFaultConfig (r : Req) (s : State) : Host.Outcome State Fault Refusal :=
  .next (s.act (mailboxRun 0x0F01 faultConfigCmd r))

/-- FAULT_STATUS (R769): a request of mailbox 0 to 3. -/
def execFaultStatus (r : Req) (s : State) : Host.Outcome State Fault Refusal :=
  .next (s.act (mailboxRun 0x0F02 faultStatusCmd r))

/-- FAULT_LOG_READ (R770): a request of mailbox 0 to 3. -/
def execFaultLogRead (r : Req) (s : State) : Host.Outcome State Fault Refusal :=
  .next (s.act (mailboxRun 0x0F03 faultLogReadCmd r))

/-- FAULT_CLEAR_LATCH (R771): a request of mailbox 0 to 3. -/
def execFaultClearLatch (r : Req) (s : State) : Host.Outcome State Fault Refusal :=
  .next (s.act (mailboxRun 0x0F04 faultClearLatchCmd r))

/-- FAULT_CLEAR_COUNTERS (R771): a request of mailbox 0 to 3. -/
def execFaultClearCounters (r : Req) (s : State) : Host.Outcome State Fault Refusal :=
  .next (s.act (mailboxRun 0x0F04 faultClearCountersCmd r))

/-- FAULT_CLEAR_FIRST_FAULT (R771): a request of mailbox 0 to 3. -/
def execFaultClearFirstFault (r : Req) (s : State) : Host.Outcome State Fault Refusal :=
  .next (s.act (mailboxRun 0x0F04 faultClearFirstFaultCmd r))

/-- FAULT_CLEAR_LOG (R771): a request of mailbox 0 to 3. -/
def execFaultClearLog (r : Req) (s : State) : Host.Outcome State Fault Refusal :=
  .next (s.act (mailboxRun 0x0F04 faultClearLogCmd r))

/-- FAULT_INJECT_ARM (R764): a request of mailbox 0 to 3. -/
def execFaultInjectArm (r : Req) (s : State) : Host.Outcome State Fault Refusal :=
  .next (s.act (mailboxRun 0x0F05 faultInjectArmCmd r))

/-- FAULT_INJECT_DISARM (R772): a request of mailbox 0 to 3. -/
def execFaultInjectDisarm (r : Req) (s : State) : Host.Outcome State Fault Refusal :=
  .next (s.act (mailboxRun 0x0F05 faultInjectDisarmCmd r))

/-- FAULT_PHASE (R773): a request of mailbox 0 to 3. -/
def execFaultPhase (r : Req) (s : State) : Host.Outcome State Fault Refusal :=
  .next (s.act (mailboxRun 0x0F06 faultPhaseCmd r))

/-- FAULT_BLACKBOX_READ (R767): a request of mailbox 0 to 3. -/
def execFaultBlackboxRead (r : Req) (s : State) : Host.Outcome State Fault Refusal :=
  .next (s.act (mailboxRun 0x0F07 faultBlackboxReadCmd r))

/-- NV_STATUS (R854): a request of mailbox 0 to 3. -/
def execNvStatus (r : Req) (s : State) : Host.Outcome State Fault Refusal :=
  .next (s.act (mailboxRun 0x1000 nvStatusCmd r))

/-- NV_HEADER_READ (R776): a request of mailbox 0 to 3. -/
def execNvHeaderRead (r : Req) (s : State) : Host.Outcome State Fault Refusal :=
  .next (s.act (mailboxRun 0x1001 nvHeaderReadCmd r))

/-- NV_HEADER_WRITE (R777): a request of mailbox 0 to 3. -/
def execNvHeaderWrite (r : Req) (s : State) : Host.Outcome State Fault Refusal :=
  .next (s.act (mailboxRun 0x1002 nvHeaderWriteCmd r))

/-- NV_FW_WRITE (R783): a request of mailbox 0 to 3. -/
def execNvFwWrite (r : Req) (s : State) : Host.Outcome State Fault Refusal :=
  .next (s.act (mailboxRun 0x1003 nvFwWriteCmd r))

/-- NV_FW_ACTIVATE (R783): a request of mailbox 0 to 3. -/
def execNvFwActivate (r : Req) (s : State) : Host.Outcome State Fault Refusal :=
  .next (s.act (mailboxRun 0x1004 nvFwActivateCmd r))

/-- NV_FW_COMMIT (R783): a request of mailbox 0 to 3. -/
def execNvFwCommit (r : Req) (s : State) : Host.Outcome State Fault Refusal :=
  .next (s.act (mailboxRun 0x1005 nvFwCommitCmd r))

/-- NV_FW_VERSION_COMMIT (R783): a request of mailbox 0 to 3. -/
def execNvFwVersionCommit (r : Req) (s : State) : Host.Outcome State Fault Refusal :=
  .next (s.act (mailboxRun 0x1006 nvFwVersionCommitCmd r))

/-- NV_SCRIPT_WRITE (R788): a request of mailbox 0 to 3. -/
def execNvScriptWrite (r : Req) (s : State) : Host.Outcome State Fault Refusal :=
  .next (s.act (mailboxRun 0x1007 nvScriptWriteCmd r))

/-- NAND_INFO (R798): a request of mailbox 0 to 3. -/
def execNandInfo (r : Req) (s : State) : Host.Outcome State Fault Refusal :=
  .next (s.act (mailboxRun 0x1008 nandInfoCmd r))

/-- ARCHIVE_LIST (R853): a request of mailbox 0 to 3. -/
def execArchiveList (r : Req) (s : State) : Host.Outcome State Fault Refusal :=
  .next (s.act (mailboxRun 0x1009 archiveListCmd r))

/-- ARCHIVE_READ (R853): a request of mailbox 0 to 3. -/
def execArchiveRead (r : Req) (s : State) : Host.Outcome State Fault Refusal :=
  .next (s.act (mailboxRun 0x100A archiveReadCmd r))

/-- ARCHIVE_WRITE (R796): a request of mailbox 0 to 3. -/
def execArchiveWrite (r : Req) (s : State) : Host.Outcome State Fault Refusal :=
  .next (s.act (mailboxRun 0x100B archiveWriteCmd r))

/-- ARCHIVE_DELETE (R853): a request of mailbox 0 to 3. -/
def execArchiveDelete (r : Req) (s : State) : Host.Outcome State Fault Refusal :=
  .next (s.act (mailboxRun 0x100C archiveDeleteCmd r))

/-- NAND_FORMAT (R795): a request of mailbox 0 to 3. -/
def execNandFormat (r : Req) (s : State) : Host.Outcome State Fault Refusal :=
  .next (s.act (mailboxRun 0x100D nandFormatCmd r))

/-- DIAG_ECHO (R856): a request of mailbox 0 to 3. -/
def execDiagEcho (r : Req) (s : State) : Host.Outcome State Fault Refusal :=
  .next (s.act (mailboxRun 0x1100 diagEchoCmd r))

/-- DIAG_SENSORS (R856): a request of mailbox 0 to 3. -/
def execDiagSensors (r : Req) (s : State) : Host.Outcome State Fault Refusal :=
  .next (s.act (mailboxRun 0x1101 diagSensorsCmd r))

/-- ZR_FRAME_ALIGNMENT (R309). -/
def execZrFrameAlignment (c : Carrier) (locked : Bool) (map : Nat) (s : State) : Host.Outcome State Fault Refusal :=
  .next (s.act (zrFrameAlignment c locked map))

/-- ALIGNMENT_MARKER_LOCK (R649). -/
def execAlignmentMarkerLock (u : Fin 32) (gained : Bool) (id : Nat) (s : State) : Host.Outcome State Fault Refusal :=
  .next (s.act (alignmentMarkerLock u gained id))

/-- STACK_PORT_ALIGN (R671). -/
def execStackPortAlign (p : Fin 4) (s : State) : Host.Outcome State Fault Refusal :=
  .next (s.act (stackPortAlign p))

/-- HL_REFCLK_RETURN (R642). -/
def execHlRefclkReturn (k : Fin 8) (s : State) : Host.Outcome State Fault Refusal :=
  .next (s.act (hlRefclkReturn k))

/-- MAILBOX_REQUEST_REFUSED (R815). -/
def execMailboxRequestRefused (n : Fin 4) (len : BitVec 16) (bytes : List Byte) (s : State) :
    Host.Outcome State Fault Refusal :=
  .next (s.act (mailboxRequestRefused n len bytes))

/-- REQUEST_BUFFER_WRITE (R812). -/
def execRequestBufferWrite (u : Iface) (off : BitVec 24) (bytes : List Byte) (s : State) :
    Host.Outcome State Fault Refusal :=
  .next (s.act (requestBufferWrite u off bytes))

/-- NAND_FORMAT_COMPLETE (R795). -/
def execNandFormatComplete (bad : Nat) (s : State) : Host.Outcome State Fault Refusal :=
  .next (s.act (nandFormatComplete bad))

/-- ACCORD_NAND_READ_COMPLETE (R849). -/
def execAccordNandReadComplete (u : Fin 16) (ok : Bool) (s : State) : Host.Outcome State Fault Refusal :=
  .next (s.act (accordNandReadComplete u ok))

end Sys2Proof.Machine
end

