-- ==== Sys2Proof/Machine/Dispatch.lean ====
section
/-!
DEFINITION. One arm per command.
-/
namespace Sys2Proof.Machine
open Sys2Proof

/-- The effect of a command on everything but the queue. -/
def exec (i : Instr) (s : State) : Host.Outcome State Fault Refusal :=
  match i with
  | .powerOnReset released x => Sys2Proof.Machine.execPowerOnReset released x s
  | .resetN low => Sys2Proof.Machine.execResetN low s
  | .zeroizeN low => Sys2Proof.Machine.execZeroizeN low s
  | .tamperCondition sensor trips => Sys2Proof.Machine.execTamperCondition sensor trips s
  | .oscReadyRise => Sys2Proof.Machine.execOscReadyRise s
  | .oscReadyFall => Sys2Proof.Machine.execOscReadyFall s
  | .trigInEdge falling t => Sys2Proof.Machine.execTrigInEdge falling t s
  | .ohpFsLoss => Sys2Proof.Machine.execOhpFsLoss s
  | .ohpFsReturn => Sys2Proof.Machine.execOhpFsReturn s
  | .ohpFrame a b => Sys2Proof.Machine.execOhpFrame a b s
  | .xiInputJudged n ok freq => Sys2Proof.Machine.execXiInputJudged n ok freq s
  | .rootInputLoss => Sys2Proof.Machine.execRootInputLoss s
  | .pllRLocked => Sys2Proof.Machine.execPllRLocked s
  | .selectorSwitch k => Sys2Proof.Machine.execSelectorSwitch k s
  | .clkForcedSwitch k => Sys2Proof.Machine.execClkForcedSwitch k s
  | .selectorNewClockAbsent k => Sys2Proof.Machine.execSelectorNewClockAbsent k s
  | .tickAligned => Sys2Proof.Machine.execTickAligned s
  | .oscTrimStale => Sys2Proof.Machine.execOscTrimStale s
  | .mgmtWatchdog => Sys2Proof.Machine.execMgmtWatchdog s
  | .domainResetRelease d x => Sys2Proof.Machine.execDomainResetRelease d x s
  | .dramRetrainComplete => Sys2Proof.Machine.execDramRetrainComplete s
  | .carrierLoopStart c => Sys2Proof.Machine.execCarrierLoopStart c s
  | .controlTick u => Sys2Proof.Machine.execControlTick u s
  | .slowTick u => Sys2Proof.Machine.execSlowTick u s
  | .epoch m => Sys2Proof.Machine.execEpoch m s
  | .timeSetApply => Sys2Proof.Machine.execTimeSetApply s
  | .sillageFit m => Sys2Proof.Machine.execSillageFit m s
  | .sillageSnapshot ok => Sys2Proof.Machine.execSillageSnapshot ok s
  | .sillageRestore => Sys2Proof.Machine.execSillageRestore s
  | .blockBoundary c txw rxw => Sys2Proof.Machine.execBlockBoundary c txw rxw s
  | .swapDeferExpiry c k => Sys2Proof.Machine.execSwapDeferExpiry c k s
  | .spareCalibrated c k n offset gain skew => Sys2Proof.Machine.execSpareCalibrated c k n offset gain skew s
  | .foregroundCalComplete c trims cells => Sys2Proof.Machine.execForegroundCalComplete c trims cells s
  | .selftestComplete c found => Sys2Proof.Machine.execSelftestComplete c found s
  | .txSuperframe c dt => Sys2Proof.Machine.execTxSuperframe c dt s
  | .keyIvLimit c rx => Sys2Proof.Machine.execKeyIvLimit c rx s
  | .nsoReceived c b tagA tagB => Sys2Proof.Machine.execNsoReceived c b tagA tagB s
  | .rxSuperframe c u => Sys2Proof.Machine.execRxSuperframe c u s
  | .keySlotErased c rx k => Sys2Proof.Machine.execKeySlotErased c rx k s
  | .cryptoEraseComplete c => Sys2Proof.Machine.execCryptoEraseComplete c s
  | .otucFrame c host u => Sys2Proof.Machine.execOtucFrame c host u s
  | .rxAcqProgress c u => Sys2Proof.Machine.execRxAcqProgress c u s
  | .rxAcqTimeout c => Sys2Proof.Machine.execRxAcqTimeout c s
  | .cdSearchHintMiss c => Sys2Proof.Machine.execCdSearchHintMiss c s
  | .lockHoldLoss c => Sys2Proof.Machine.execLockHoldLoss c s
  | .agreementReceived c => Sys2Proof.Machine.execAgreementReceived c s
  | .agreeFail c => Sys2Proof.Machine.execAgreeFail c s
  | .stageRetry c => Sys2Proof.Machine.execStageRetry c s
  | .stagePropose c => Sys2Proof.Machine.execStagePropose c s
  | .rxStageFail c => Sys2Proof.Machine.execRxStageFail c s
  | .txLeadElapsed c => Sys2Proof.Machine.execTxLeadElapsed c s
  | .txRampComplete c => Sys2Proof.Machine.execTxRampComplete c s
  | .accordSwitchT => Sys2Proof.Machine.execAccordSwitchT s
  | .accordRxSwitch c => Sys2Proof.Machine.execAccordRxSwitch c s
  | .accordSwitchComplete => Sys2Proof.Machine.execAccordSwitchComplete s
  | .accordVerifyComplete u v => Sys2Proof.Machine.execAccordVerifyComplete u v s
  | .accordLoadTimeout u => Sys2Proof.Machine.execAccordLoadTimeout u s
  | .accordDmaComplete u image => Sys2Proof.Machine.execAccordDmaComplete u image s
  | .stagingComplete e => Sys2Proof.Machine.execStagingComplete e s
  | .poolReconfigComplete => Sys2Proof.Machine.execPoolReconfigComplete s
  | .scrubSegment complete => Sys2Proof.Machine.execScrubSegment complete s
  | .scrubLate => Sys2Proof.Machine.execScrubLate s
  | .dramLineError x => Sys2Proof.Machine.execDramLineError x s
  | .rowRetireComplete t => Sys2Proof.Machine.execRowRetireComplete t s
  | .dramRefreshRate t fast => Sys2Proof.Machine.execDramRefreshRate t fast s
  | .leqFrameArrival x => Sys2Proof.Machine.execLeqFrameArrival x s
  | .leqFrameRelease p => Sys2Proof.Machine.execLeqFrameRelease p s
  | .leqDrainComplete q => Sys2Proof.Machine.execLeqDrainComplete q s
  | .blotterTriggerPoint u => Sys2Proof.Machine.execBlotterTriggerPoint u s
  | .captureComplete u x => Sys2Proof.Machine.execCaptureComplete u x s
  | .spillComplete u => Sys2Proof.Machine.execSpillComplete u s
  | .captureReadoutEntry u => Sys2Proof.Machine.execCaptureReadoutEntry u s
  | .senseOutputSample ch sec k => Sys2Proof.Machine.execSenseOutputSample ch sec k s
  | .senseRecordEmit ch => Sys2Proof.Machine.execSenseRecordEmit ch s
  | .ostcBurstStart c => Sys2Proof.Machine.execOstcBurstStart c s
  | .ostcBurstEnd c => Sys2Proof.Machine.execOstcBurstEnd c s
  | .ostcBurstTruncated c => Sys2Proof.Machine.execOstcBurstTruncated c s
  | .ostcTrigger c => Sys2Proof.Machine.execOstcTrigger c s
  | .ostcQualify c levelQ snr => Sys2Proof.Machine.execOstcQualify c levelQ snr s
  | .ostcQualTimeout c => Sys2Proof.Machine.execOstcQualTimeout c s
  | .ostcFalseStart c => Sys2Proof.Machine.execOstcFalseStart c s
  | .ostcSyncFound c mark => Sys2Proof.Machine.execOstcSyncFound c mark s
  | .ostcBurstReceived c res => Sys2Proof.Machine.execOstcBurstReceived c res s
  | .apsReceived k b => Sys2Proof.Machine.execApsReceived k b s
  | .protApsMismatch k => Sys2Proof.Machine.execProtApsMismatch k s
  | .protHoldOffExpiry k => Sys2Proof.Machine.execProtHoldOffExpiry k s
  | .protWtrExpiry k => Sys2Proof.Machine.execProtWtrExpiry k s
  | .mergeFrameRelease u => Sys2Proof.Machine.execMergeFrameRelease u s
  | .mergeCopy c behind lead => Sys2Proof.Machine.execMergeCopy c behind lead s
  | .groupRecordReceived p x => Sys2Proof.Machine.execGroupRecordReceived p x s
  | .groupRelease k n => Sys2Proof.Machine.execGroupRelease k n s
  | .groupLoaChange k => Sys2Proof.Machine.execGroupLoaChange k s
  | .ttxRecordReceived c u => Sys2Proof.Machine.execTtxRecordReceived c u s
  | .ttxExchange c => Sys2Proof.Machine.execTtxExchange c s
  | .ttxCandidateStale c => Sys2Proof.Machine.execTtxCandidateStale c s
  | .ptpEventFrame u => Sys2Proof.Machine.execPtpEventFrame u s
  | .candidateActivityLoss u => Sys2Proof.Machine.execCandidateActivityLoss u s
  | .candidateQualified u => Sys2Proof.Machine.execCandidateQualified u s
  | .candidateReentry u => Sys2Proof.Machine.execCandidateReentry u s
  | .dpllLockTime => Sys2Proof.Machine.execDpllLockTime s
  | .fastLockDwell => Sys2Proof.Machine.execFastLockDwell s
  | .oscTempStale => Sys2Proof.Machine.execOscTempStale s
  | .receivedQlStale u => Sys2Proof.Machine.execReceivedQlStale u s
  | .stackFrameReceived f => Sys2Proof.Machine.execStackFrameReceived f s
  | .stackPortUp p intDelay => Sys2Proof.Machine.execStackPortUp p intDelay s
  | .stackAdaptRestart p => Sys2Proof.Machine.execStackAdaptRestart p s
  | .stackTimeValid => Sys2Proof.Machine.execStackTimeValid s
  | .stackMasterLost => Sys2Proof.Machine.execStackMasterLost s
  | .stackTakeover => Sys2Proof.Machine.execStackTakeover s
  | .stackMasterListenEnd => Sys2Proof.Machine.execStackMasterListenEnd s
  | .stackHandoverInstant => Sys2Proof.Machine.execStackHandoverInstant s
  | .stackUpstreamChange => Sys2Proof.Machine.execStackUpstreamChange s
  | .helloSend => Sys2Proof.Machine.execHelloSend s
  | .helloReceived m tagOk => Sys2Proof.Machine.execHelloReceived m tagOk s
  | .memberHelloTimeout m => Sys2Proof.Machine.execMemberHelloTimeout m s
  | .proxyRequestReceived m tagOk => Sys2Proof.Machine.execProxyRequestReceived m tagOk s
  | .proxyResponseReceived m tagOk => Sys2Proof.Machine.execProxyResponseReceived m tagOk s
  | .proxyTimeout m => Sys2Proof.Machine.execProxyTimeout m s
  | .forwardedEventReceived m tagOk => Sys2Proof.Machine.execForwardedEventReceived m tagOk s
  | .hlSignalDetect u present => Sys2Proof.Machine.execHlSignalDetect u present s
  | .hlLockChange u cdr ber => Sys2Proof.Machine.execHlLockChange u cdr ber s
  | .hlAdaptTimeout u => Sys2Proof.Machine.execHlAdaptTimeout u s
  | .hlPolarity u locks => Sys2Proof.Machine.execHlPolarity u locks s
  | .hlDeskewFail first exceeds => Sys2Proof.Machine.execHlDeskewFail first exceeds s
  | .hlRefclkLoss k => Sys2Proof.Machine.execHlRefclkLoss k s
  | .hlResetRelease k => Sys2Proof.Machine.execHlResetRelease k s
  | .eyeScanComplete u maps => Sys2Proof.Machine.execEyeScanComplete u maps s
  | .faultEvent l => Sys2Proof.Machine.execFaultEvent l s
  | .faultReaction => Sys2Proof.Machine.execFaultReaction s
  | .faultQuietExpiry id inst => Sys2Proof.Machine.execFaultQuietExpiry id inst s
  | .recoveryPhaseEnd d => Sys2Proof.Machine.execRecoveryPhaseEnd d s
  | .faultInjectDone id inst quiet => Sys2Proof.Machine.execFaultInjectDone id inst quiet s
  | .blackboxCopy => Sys2Proof.Machine.execBlackboxCopy s
  | .bootHeaderRead => Sys2Proof.Machine.execBootHeaderRead s
  | .firmwareVerified a b p => Sys2Proof.Machine.execFirmwareVerified a b p s
  | .sramSelfTestComplete car other => Sys2Proof.Machine.execSramSelfTestComplete car other s
  | .dramTrainingComplete failed nand => Sys2Proof.Machine.execDramTrainingComplete failed nand s
  | .bootAccord x => Sys2Proof.Machine.execBootAccord x s
  | .startupScript => Sys2Proof.Machine.execStartupScript s
  | .fwReady => Sys2Proof.Machine.execFwReady s
  | .avsFail => Sys2Proof.Machine.execAvsFail s
  | .tjHigh => Sys2Proof.Machine.execTjHigh s
  | .nandPatrol ue w => Sys2Proof.Machine.execNandPatrol ue w s
  | .nandBlockGrown => Sys2Proof.Machine.execNandBlockGrown s
  | .flashEraseComplete u ok => Sys2Proof.Machine.execFlashEraseComplete u ok s
  | .otpBurnComplete ok => Sys2Proof.Machine.execOtpBurnComplete ok s
  | .fwActivateComplete x => Sys2Proof.Machine.execFwActivateComplete x s
  | .dmaTransferComplete mb ue => Sys2Proof.Machine.execDmaTransferComplete mb ue s
  | .eventDelivery => Sys2Proof.Machine.execEventDelivery s
  | .eventLoss d => Sys2Proof.Machine.execEventLoss d s
  | .msixCoalesceExpiry k => Sys2Proof.Machine.execMsixCoalesceExpiry k s
  | .bootDoorbell len => Sys2Proof.Machine.execBootDoorbell len s
  | .irqStatusClear v => Sys2Proof.Machine.execIrqStatusClear v s
  | .clkEnWrite v => Sys2Proof.Machine.execClkEnWrite v s
  | .evtFifoPop v => Sys2Proof.Machine.execEvtFifoPop v s
  | .evtFifoDropRead => Sys2Proof.Machine.execEvtFifoDropRead s
  | .ringTailWrite k v => Sys2Proof.Machine.execRingTailWrite k v s
  | .ringDropRead k => Sys2Proof.Machine.execRingDropRead k s
  | .debugWindowWrite off v block => Sys2Proof.Machine.execDebugWindowWrite off v block s
  | .registerWrite u off v => Sys2Proof.Machine.execRegisterWrite u off v s
  | .proxiedCommand op r => Sys2Proof.Machine.execProxiedCommand op r s
  | .deviceInfo r => Sys2Proof.Machine.execDeviceInfo r s
  | .ringConfig r => Sys2Proof.Machine.execRingConfig r s
  | .otpProgram r => Sys2Proof.Machine.execOtpProgram r s
  | .accordList r => Sys2Proof.Machine.execAccordList r s
  | .accordLoad r => Sys2Proof.Machine.execAccordLoad r s
  | .accordInfo r => Sys2Proof.Machine.execAccordInfo r s
  | .accordReport r => Sys2Proof.Machine.execAccordReport r s
  | .accordStage r => Sys2Proof.Machine.execAccordStage r s
  | .accordSwitch r => Sys2Proof.Machine.execAccordSwitch r s
  | .accordCancel r => Sys2Proof.Machine.execAccordCancel r s
  | .accordDelete r => Sys2Proof.Machine.execAccordDelete r s
  | .accordVersionCommit r => Sys2Proof.Machine.execAccordVersionCommit r s
  | .accordLimits r => Sys2Proof.Machine.execAccordLimits r s
  | .engineStatus r => Sys2Proof.Machine.execEngineStatus r s
  | .engineRead r => Sys2Proof.Machine.execEngineRead r s
  | .txConfig r => Sys2Proof.Machine.execTxConfig r s
  | .txEnable r => Sys2Proof.Machine.execTxEnable r s
  | .txStatus r => Sys2Proof.Machine.execTxStatus r s
  | .txPreemph r => Sys2Proof.Machine.execTxPreemph r s
  | .rxConfig r => Sys2Proof.Machine.execRxConfig r s
  | .rxEnable r => Sys2Proof.Machine.execRxEnable r s
  | .rxStatus r => Sys2Proof.Machine.execRxStatus r s
  | .rxMonitor r => Sys2Proof.Machine.execRxMonitor r s
  | .rxReacquire r => Sys2Proof.Machine.execRxReacquire r s
  | .lineAgree r => Sys2Proof.Machine.execLineAgree r s
  | .calRead r => Sys2Proof.Machine.execCalRead r s
  | .calConfig r => Sys2Proof.Machine.execCalConfig r s
  | .calSwap r => Sys2Proof.Machine.execCalSwap r s
  | .convPortStatus r => Sys2Proof.Machine.execConvPortStatus r s
  | .convSelftest r => Sys2Proof.Machine.execConvSelftest r s
  | .carrierLoopback r => Sys2Proof.Machine.execCarrierLoopback r s
  | .fecConfig r => Sys2Proof.Machine.execFecConfig r s
  | .fecStatus r => Sys2Proof.Machine.execFecStatus r s
  | .fecCounters r => Sys2Proof.Machine.execFecCounters r s
  | .fecClear r => Sys2Proof.Machine.execFecClear r s
  | .fecPoolStatus r => Sys2Proof.Machine.execFecPoolStatus r s
  | .fecInject r => Sys2Proof.Machine.execFecInject r s
  | .lineConfig r => Sys2Proof.Machine.execLineConfig r s
  | .lineDefects r => Sys2Proof.Machine.execLineDefects r s
  | .lineTti r => Sys2Proof.Machine.execLineTti r s
  | .lineTtiRead r => Sys2Proof.Machine.execLineTtiRead r s
  | .ohpConfig r => Sys2Proof.Machine.execOhpConfig r s
  | .ohpStatus r => Sys2Proof.Machine.execOhpStatus r s
  | .lineClear r => Sys2Proof.Machine.execLineClear r s
  | .tribConfig r => Sys2Proof.Machine.execTribConfig r s
  | .tribStatus r => Sys2Proof.Machine.execTribStatus r s
  | .tribTti r => Sys2Proof.Machine.execTribTti r s
  | .groupConfig r => Sys2Proof.Machine.execGroupConfig r s
  | .groupStatus r => Sys2Proof.Machine.execGroupStatus r s
  | .protConfig r => Sys2Proof.Machine.execProtConfig r s
  | .protClear r => Sys2Proof.Machine.execProtClear r s
  | .protLockout r => Sys2Proof.Machine.execProtLockout r s
  | .protForced r => Sys2Proof.Machine.execProtForced r s
  | .protManualP r => Sys2Proof.Machine.execProtManualP r s
  | .protManualW r => Sys2Proof.Machine.execProtManualW r s
  | .protRealign r => Sys2Proof.Machine.execProtRealign r s
  | .protStatus r => Sys2Proof.Machine.execProtStatus r s
  | .cryptoConfig r => Sys2Proof.Machine.execCryptoConfig r s
  | .cryptoKeyLoad r => Sys2Proof.Machine.execCryptoKeyLoad r s
  | .cryptoRoll r => Sys2Proof.Machine.execCryptoRoll r s
  | .cryptoStatus r => Sys2Proof.Machine.execCryptoStatus r s
  | .cryptoZeroize r => Sys2Proof.Machine.execCryptoZeroize r s
  | .cryptoAlarmClear r => Sys2Proof.Machine.execCryptoAlarmClear r s
  | .ostcConfig r => Sys2Proof.Machine.execOstcConfig r s
  | .ostcSend r => Sys2Proof.Machine.execOstcSend r s
  | .ostcRecv r => Sys2Proof.Machine.execOstcRecv r s
  | .ostcStatus r => Sys2Proof.Machine.execOstcStatus r s
  | .ostcClear r => Sys2Proof.Machine.execOstcClear r s
  | .timingRefConfig r => Sys2Proof.Machine.execTimingRefConfig r s
  | .timingSelConfig r => Sys2Proof.Machine.execTimingSelConfig r s
  | .timingDpllConfig r => Sys2Proof.Machine.execTimingDpllConfig r s
  | .timingClear r => Sys2Proof.Machine.execTimingClear r s
  | .timingForce r => Sys2Proof.Machine.execTimingForce r s
  | .timingHoldover r => Sys2Proof.Machine.execTimingHoldover r s
  | .clearWtr r => Sys2Proof.Machine.execClearWtr r s
  | .sillageSave r => Sys2Proof.Machine.execSillageSave r s
  | .sillageReset r => Sys2Proof.Machine.execSillageReset r s
  | .oscTemp r => Sys2Proof.Machine.execOscTemp r s
  | .timingStatus r => Sys2Proof.Machine.execTimingStatus r s
  | .timingRefStatus r => Sys2Proof.Machine.execTimingRefStatus r s
  | .timingOutConfig r => Sys2Proof.Machine.execTimingOutConfig r s
  | .sillageRead r => Sys2Proof.Machine.execSillageRead r s
  | .ttxConfig r => Sys2Proof.Machine.execTtxConfig r s
  | .ttxCalSet r => Sys2Proof.Machine.execTtxCalSet r s
  | .ttxStatus r => Sys2Proof.Machine.execTtxStatus r s
  | .ttxDelayRead r => Sys2Proof.Machine.execTtxDelayRead r s
  | .ttxTimeSet r => Sys2Proof.Machine.execTtxTimeSet r s
  | .ptpPortConfig r => Sys2Proof.Machine.execPtpPortConfig r s
  | .senseConfig r => Sys2Proof.Machine.execSenseConfig r s
  | .senseInfo r => Sys2Proof.Machine.execSenseInfo r s
  | .senseStatus r => Sys2Proof.Machine.execSenseStatus r s
  | .senseRead r => Sys2Proof.Machine.execSenseRead r s
  | .senseClear r => Sys2Proof.Machine.execSenseClear r s
  | .memPoolSet r => Sys2Proof.Machine.execMemPoolSet r s
  | .memStatus r => Sys2Proof.Machine.execMemStatus r s
  | .memScrubConfig r => Sys2Proof.Machine.execMemScrubConfig r s
  | .memRepairStatus r => Sys2Proof.Machine.execMemRepairStatus r s
  | .memClear r => Sys2Proof.Machine.execMemClear r s
  | .leqPortConfig r => Sys2Proof.Machine.execLeqPortConfig r s
  | .leqKeyProfile r => Sys2Proof.Machine.execLeqKeyProfile r s
  | .leqTsProfile r => Sys2Proof.Machine.execLeqTsProfile r s
  | .leqQueueConfig r => Sys2Proof.Machine.execLeqQueueConfig r s
  | .leqQueueStatus r => Sys2Proof.Machine.execLeqQueueStatus r s
  | .blotterArm r => Sys2Proof.Machine.execBlotterArm r s
  | .blotterTrigger r => Sys2Proof.Machine.execBlotterTrigger r s
  | .blotterStatus r => Sys2Proof.Machine.execBlotterStatus r s
  | .blotterRead r => Sys2Proof.Machine.execBlotterRead r s
  | .blotterSpill r => Sys2Proof.Machine.execBlotterSpill r s
  | .blotterFree r => Sys2Proof.Machine.execBlotterFree r s
  | .hlConfig r => Sys2Proof.Machine.execHlConfig r s
  | .hlStatus r => Sys2Proof.Machine.execHlStatus r s
  | .hlEyeScan r => Sys2Proof.Machine.execHlEyeScan r s
  | .hlEyeRead r => Sys2Proof.Machine.execHlEyeRead r s
  | .hlReset r => Sys2Proof.Machine.execHlReset r s
  | .hlClear r => Sys2Proof.Machine.execHlClear r s
  | .stackConfig r => Sys2Proof.Machine.execStackConfig r s
  | .stackStatus r => Sys2Proof.Machine.execStackStatus r s
  | .stackPortStatus r => Sys2Proof.Machine.execStackPortStatus r s
  | .stackHandover r => Sys2Proof.Machine.execStackHandover r s
  | .stackClear r => Sys2Proof.Machine.execStackClear r s
  | .clockConfig r => Sys2Proof.Machine.execClockConfig r s
  | .clockStatus r => Sys2Proof.Machine.execClockStatus r s
  | .resetDomain r => Sys2Proof.Machine.execResetDomain r s
  | .resetStatus r => Sys2Proof.Machine.execResetStatus r s
  | .faultList r => Sys2Proof.Machine.execFaultList r s
  | .faultConfig r => Sys2Proof.Machine.execFaultConfig r s
  | .faultStatus r => Sys2Proof.Machine.execFaultStatus r s
  | .faultLogRead r => Sys2Proof.Machine.execFaultLogRead r s
  | .faultClearLatch r => Sys2Proof.Machine.execFaultClearLatch r s
  | .faultClearCounters r => Sys2Proof.Machine.execFaultClearCounters r s
  | .faultClearFirstFault r => Sys2Proof.Machine.execFaultClearFirstFault r s
  | .faultClearLog r => Sys2Proof.Machine.execFaultClearLog r s
  | .faultInjectArm r => Sys2Proof.Machine.execFaultInjectArm r s
  | .faultInjectDisarm r => Sys2Proof.Machine.execFaultInjectDisarm r s
  | .faultPhase r => Sys2Proof.Machine.execFaultPhase r s
  | .faultBlackboxRead r => Sys2Proof.Machine.execFaultBlackboxRead r s
  | .nvStatus r => Sys2Proof.Machine.execNvStatus r s
  | .nvHeaderRead r => Sys2Proof.Machine.execNvHeaderRead r s
  | .nvHeaderWrite r => Sys2Proof.Machine.execNvHeaderWrite r s
  | .nvFwWrite r => Sys2Proof.Machine.execNvFwWrite r s
  | .nvFwActivate r => Sys2Proof.Machine.execNvFwActivate r s
  | .nvFwCommit r => Sys2Proof.Machine.execNvFwCommit r s
  | .nvFwVersionCommit r => Sys2Proof.Machine.execNvFwVersionCommit r s
  | .nvScriptWrite r => Sys2Proof.Machine.execNvScriptWrite r s
  | .nandInfo r => Sys2Proof.Machine.execNandInfo r s
  | .archiveList r => Sys2Proof.Machine.execArchiveList r s
  | .archiveRead r => Sys2Proof.Machine.execArchiveRead r s
  | .archiveWrite r => Sys2Proof.Machine.execArchiveWrite r s
  | .archiveDelete r => Sys2Proof.Machine.execArchiveDelete r s
  | .nandFormat r => Sys2Proof.Machine.execNandFormat r s
  | .diagEcho r => Sys2Proof.Machine.execDiagEcho r s
  | .diagSensors r => Sys2Proof.Machine.execDiagSensors r s
  | .zrFrameAlignment c locked map => Sys2Proof.Machine.execZrFrameAlignment c locked map s
  | .alignmentMarkerLock u gained id => Sys2Proof.Machine.execAlignmentMarkerLock u gained id s
  | .stackPortAlign p => Sys2Proof.Machine.execStackPortAlign p s
  | .hlRefclkReturn k => Sys2Proof.Machine.execHlRefclkReturn k s
  | .mailboxRequestRefused n len bytes => Sys2Proof.Machine.execMailboxRequestRefused n len bytes s
  | .requestBufferWrite u off bytes => Sys2Proof.Machine.execRequestBufferWrite u off bytes s
  | .nandFormatComplete bad => Sys2Proof.Machine.execNandFormatComplete bad s
  | .accordNandReadComplete u ok => Sys2Proof.Machine.execAccordNandReadComplete u ok s

end Sys2Proof.Machine
end

