-- ==== Sys2Proof/Safety.lean ====
section
/-!
DEFINITION. The terms that statements use: a step answers, the pins follow the state, the device's memories are in
canonical form, a mailbox command is taken and passes every check, and what its answer leaves unchanged.
-/
namespace Sys2Proof.Machine
open Sys2Proof

/-- A step that answers a next state. -/
def safe (s : State) : Prop := ∃ t, step s = .next t

/-- The pins follow the state: `IRQ_N` is low exactly while an enabled bit of `IRQ_STATUS` is set (21_mailbox_interface
R828), `FAULT_N` as R757 of 19_fault_handling says, and `TXON_x` is high exactly while the transmitter is not in `TX_OFF`
(04_transmit_path R170). -/
def PinsFollow (s : Device) : Prop :=
  (s.host.irqLow = true ↔ (s.host.irqStatus &&& s.host.irqEnable) ≠ 0) ∧
  (s.fault.pinLow = true ↔
    (∃ q ∈ s.fault.sources, q.2.held.getLsbD 9 ∨ q.2.held.getLsbD 2 ∨
      (q.2.st = .latched ∧ clsOf (q.1 / 256) = 2))) ∧
  (s.elec.txon.a = true ↔ s.tx.a.state ≠ .off) ∧ (s.elec.txon.b = true ↔ s.tx.b.state ≠ .off)

/-- Every addressed memory of the device is in its canonical form: request buffers, boot buffer, engine data and cluster
memory, firmware slots, startup script. -/
def MemoriesOk (s : Device) : Prop :=
  Memory.wf 0 s.host.bootBuf = true ∧ (∀ n, Memory.wf 0 (mailbox s n).req = true) ∧
  (∀ e, Memory.wf 0 (engine s e).dataMem = true) ∧ Memory.wf 0 s.engines.clusterMem = true ∧
  Memory.wf 0xFF s.boot.slots.a.bytes = true ∧ Memory.wf 0xFF s.boot.slots.b.bytes = true ∧
  Memory.wf 0xFF s.boot.script = true

/-- No fused item of OTP is lost and neither anti-rollback counter falls (22_command_reference R855;
02_accords_and_loop_engines R60; 20_startup_and_nonvolatile_store R780). -/
def OtpGrows (s t : Device) : Prop :=
  (s.boot.otp.fused &&& t.boot.otp.fused) = s.boot.otp.fused ∧ s.boot.otp.fwCounter ≤ t.boot.otp.fwCounter ∧
  s.boot.otp.accordCounter ≤ t.boot.otp.accordCounter

/-! ### Mailbox commands -/

/-- The device as a command finds it: the outputs of the last step are gone, and its request stands in the buffer of its
mailbox (21_mailbox_interface R811, R812). -/
def arrive (op : Nat) (r : Req) (s : Device) : Device :=
  modMb r.mb.val (fun m => { m with req := memWrite m.req 0 (reqBytes op r), respReady := false }) (putOut [] s)

/-- The firmware takes the request for this device at once: mailboxes 0 to 3 are served, this one is not busy, the
request names this device, and no transfer holds its object (21_mailbox_interface R809, R811, R813, R819). -/
def takes (op : Nat) (r : Req) (s : Device) : Bool :=
  decide (r.mb.val < 4) && served (putOut [] s) && !(mailbox s r.mb.val).busy && r.here (arrive op r s) &&
    !heldBack (arrive op r s) r

/-- The command is taken, every check of 21_mailbox_interface R815 and 22_command_reference R842 passes, it is no
read-back, and it waits for no transfer. -/
def runs (op : Nat) (c : Cmd) (r : Req) (s : Device) : Bool :=
  takes op r s && (refusal op c r false (arrive op r s)).isNone && !r.readback && !c.waits (arrive op r s) r

/-- The mailbox of a request holds this answer: the response bytes, `LAST_SEQ`, `LAST_STATUS`, `BUSY` clear,
`RESP_READY` set, and the mailbox's bit of `IRQ_STATUS` set (21_mailbox_interface R814, R828). -/
def Answered (op : Nat) (r : Req) (q : Resp) (t : Device) : Prop :=
  (mailbox t r.mb.val).resp = respBytes op r q false ∧ (mailbox t r.mb.val).lastSeq = r.seq.toNat ∧
  (mailbox t r.mb.val).lastStatus = q.status.code ∧ (mailbox t r.mb.val).busy = false ∧
  (mailbox t r.mb.val).respReady = true ∧ t.host.irqStatus.getLsbD r.mb.val = true

/-- `t` is `s` but for mailbox `n`, the interrupt bits and lines, the pins that follow the state, and the outputs of the
step: every setting, register, counter, buffer and memory else is unchanged. -/
def OnlyMailbox (n : Nat) (s t : Device) : Prop :=
  t = { s with
    host := { s.host with mbs := t.host.mbs, irqStatus := t.host.irqStatus, irqLow := t.host.irqLow,
                          msixPend := t.host.msixPend }
    fault := { s.fault with pinLow := t.fault.pinLow }
    elec := { s.elec with txon := t.elec.txon }
    out := t.out } ∧
  ∀ m, m ≠ n → mailbox t m = mailbox s m

/-! ### The mailbox commands of the table -/

/-- The opcode, the particulars and the request of a mailbox command (22_command_reference Table 22-5); none for the
other rows of the table. -/
def commandOf (i : Instr) : Option (Nat × Cmd × Req) :=
  match i with
  | .deviceInfo r => some (0x0000, deviceInfoCmd, r)
  | .ringConfig r => some (0x0001, ringConfigCmd, r)
  | .otpProgram r => some (0x0002, otpProgramCmd, r)
  | .accordList r => some (0x0100, accordListCmd, r)
  | .accordLoad r => some (0x0101, accordLoadCmd, r)
  | .accordInfo r => some (0x0102, accordInfoCmd, r)
  | .accordReport r => some (0x0103, accordReportCmd, r)
  | .accordStage r => some (0x0104, accordStageCmd, r)
  | .accordSwitch r => some (0x0105, accordSwitchCmd, r)
  | .accordCancel r => some (0x0106, accordCancelCmd, r)
  | .accordDelete r => some (0x0107, accordDeleteCmd, r)
  | .accordVersionCommit r => some (0x0108, accordVersionCommitCmd, r)
  | .accordLimits r => some (0x0109, accordLimitsCmd, r)
  | .engineStatus r => some (0x010A, engineStatusCmd, r)
  | .engineRead r => some (0x010B, engineReadCmd, r)
  | .txConfig r => some (0x0220, txConfigCmd, r)
  | .txEnable r => some (0x0221, txEnableCmd, r)
  | .txStatus r => some (0x0222, txStatusCmd, r)
  | .txPreemph r => some (0x0223, txPreemphCmd, r)
  | .rxConfig r => some (0x0230, rxConfigCmd, r)
  | .rxEnable r => some (0x0231, rxEnableCmd, r)
  | .rxStatus r => some (0x0232, rxStatusCmd, r)
  | .rxMonitor r => some (0x0233, rxMonitorCmd, r)
  | .rxReacquire r => some (0x0234, rxReacquireCmd, r)
  | .lineAgree r => some (0x0235, lineAgreeCmd, r)
  | .calRead r => some (0x0240, calReadCmd, r)
  | .calConfig r => some (0x0241, calConfigCmd, r)
  | .calSwap r => some (0x0242, calSwapCmd, r)
  | .convPortStatus r => some (0x0243, convPortStatusCmd, r)
  | .convSelftest r => some (0x0244, convSelftestCmd, r)
  | .carrierLoopback r => some (0x0250, carrierLoopbackCmd, r)
  | .fecConfig r => some (0x0300, fecConfigCmd, r)
  | .fecStatus r => some (0x0301, fecStatusCmd, r)
  | .fecCounters r => some (0x0302, fecCountersCmd, r)
  | .fecClear r => some (0x0303, fecClearCmd, r)
  | .fecPoolStatus r => some (0x0304, fecPoolStatusCmd, r)
  | .fecInject r => some (0x0305, fecInjectCmd, r)
  | .lineConfig r => some (0x0400, lineConfigCmd, r)
  | .lineDefects r => some (0x0401, lineDefectsCmd, r)
  | .lineTti r => some (0x0402, lineTtiCmd, r)
  | .lineTtiRead r => some (0x0403, lineTtiReadCmd, r)
  | .ohpConfig r => some (0x0404, ohpConfigCmd, r)
  | .ohpStatus r => some (0x0405, ohpStatusCmd, r)
  | .lineClear r => some (0x0406, lineClearCmd, r)
  | .tribConfig r => some (0x0500, tribConfigCmd, r)
  | .tribStatus r => some (0x0501, tribStatusCmd, r)
  | .tribTti r => some (0x0502, tribTtiCmd, r)
  | .groupConfig r => some (0x0503, groupConfigCmd, r)
  | .groupStatus r => some (0x0504, groupStatusCmd, r)
  | .protConfig r => some (0x0505, protConfigCmd, r)
  | .protClear r => some (0x0506, protClearCmd, r)
  | .protLockout r => some (0x0506, protLockoutCmd, r)
  | .protForced r => some (0x0506, protForcedCmd, r)
  | .protManualP r => some (0x0506, protManualPCmd, r)
  | .protManualW r => some (0x0506, protManualWCmd, r)
  | .protRealign r => some (0x0506, protRealignCmd, r)
  | .protStatus r => some (0x0507, protStatusCmd, r)
  | .cryptoConfig r => some (0x0600, cryptoConfigCmd, r)
  | .cryptoKeyLoad r => some (0x0601, cryptoKeyLoadCmd, r)
  | .cryptoRoll r => some (0x0602, cryptoRollCmd, r)
  | .cryptoStatus r => some (0x0603, cryptoStatusCmd, r)
  | .cryptoZeroize r => some (0x0604, cryptoZeroizeCmd, r)
  | .cryptoAlarmClear r => some (0x0605, cryptoAlarmClearCmd, r)
  | .ostcConfig r => some (0x0700, ostcConfigCmd, r)
  | .ostcSend r => some (0x0701, ostcSendCmd, r)
  | .ostcRecv r => some (0x0702, ostcRecvCmd, r)
  | .ostcStatus r => some (0x0703, ostcStatusCmd, r)
  | .ostcClear r => some (0x0704, ostcClearCmd, r)
  | .timingRefConfig r => some (0x0800, timingRefConfigCmd, r)
  | .timingSelConfig r => some (0x0801, timingSelConfigCmd, r)
  | .timingDpllConfig r => some (0x0802, timingDpllConfigCmd, r)
  | .timingClear r => some (0x0803, timingClearCmd, r)
  | .timingForce r => some (0x0803, timingForceCmd, r)
  | .timingHoldover r => some (0x0803, timingHoldoverCmd, r)
  | .clearWtr r => some (0x0803, clearWtrCmd, r)
  | .sillageSave r => some (0x0803, sillageSaveCmd, r)
  | .sillageReset r => some (0x0803, sillageResetCmd, r)
  | .oscTemp r => some (0x0803, oscTempCmd, r)
  | .timingStatus r => some (0x0804, timingStatusCmd, r)
  | .timingRefStatus r => some (0x0805, timingRefStatusCmd, r)
  | .timingOutConfig r => some (0x0806, timingOutConfigCmd, r)
  | .sillageRead r => some (0x0807, sillageReadCmd, r)
  | .ttxConfig r => some (0x0900, ttxConfigCmd, r)
  | .ttxCalSet r => some (0x0901, ttxCalSetCmd, r)
  | .ttxStatus r => some (0x0902, ttxStatusCmd, r)
  | .ttxDelayRead r => some (0x0903, ttxDelayReadCmd, r)
  | .ttxTimeSet r => some (0x0904, ttxTimeSetCmd, r)
  | .ptpPortConfig r => some (0x0905, ptpPortConfigCmd, r)
  | .senseConfig r => some (0x0A00, senseConfigCmd, r)
  | .senseInfo r => some (0x0A01, senseInfoCmd, r)
  | .senseStatus r => some (0x0A02, senseStatusCmd, r)
  | .senseRead r => some (0x0A03, senseReadCmd, r)
  | .senseClear r => some (0x0A04, senseClearCmd, r)
  | .memPoolSet r => some (0x0B00, memPoolSetCmd, r)
  | .memStatus r => some (0x0B01, memStatusCmd, r)
  | .memScrubConfig r => some (0x0B02, memScrubConfigCmd, r)
  | .memRepairStatus r => some (0x0B03, memRepairStatusCmd, r)
  | .memClear r => some (0x0B04, memClearCmd, r)
  | .leqPortConfig r => some (0x0B05, leqPortConfigCmd, r)
  | .leqKeyProfile r => some (0x0B06, leqKeyProfileCmd, r)
  | .leqTsProfile r => some (0x0B07, leqTsProfileCmd, r)
  | .leqQueueConfig r => some (0x0B08, leqQueueConfigCmd, r)
  | .leqQueueStatus r => some (0x0B09, leqQueueStatusCmd, r)
  | .blotterArm r => some (0x0B0A, blotterArmCmd, r)
  | .blotterTrigger r => some (0x0B0B, blotterTriggerCmd, r)
  | .blotterStatus r => some (0x0B0C, blotterStatusCmd, r)
  | .blotterRead r => some (0x0B0D, blotterReadCmd, r)
  | .blotterSpill r => some (0x0B0E, blotterSpillCmd, r)
  | .blotterFree r => some (0x0B0F, blotterFreeCmd, r)
  | .hlConfig r => some (0x0C00, hlConfigCmd, r)
  | .hlStatus r => some (0x0C01, hlStatusCmd, r)
  | .hlEyeScan r => some (0x0C02, hlEyeScanCmd, r)
  | .hlEyeRead r => some (0x0C03, hlEyeReadCmd, r)
  | .hlReset r => some (0x0C04, hlResetCmd, r)
  | .hlClear r => some (0x0C05, hlClearCmd, r)
  | .stackConfig r => some (0x0D00, stackConfigCmd, r)
  | .stackStatus r => some (0x0D01, stackStatusCmd, r)
  | .stackPortStatus r => some (0x0D02, stackPortStatusCmd, r)
  | .stackHandover r => some (0x0D03, stackHandoverCmd, r)
  | .stackClear r => some (0x0D04, stackClearCmd, r)
  | .clockConfig r => some (0x0E00, clockConfigCmd, r)
  | .clockStatus r => some (0x0E01, clockStatusCmd, r)
  | .resetDomain r => some (0x0E02, resetDomainCmd, r)
  | .resetStatus r => some (0x0E03, resetStatusCmd, r)
  | .faultList r => some (0x0F00, faultListCmd, r)
  | .faultConfig r => some (0x0F01, faultConfigCmd, r)
  | .faultStatus r => some (0x0F02, faultStatusCmd, r)
  | .faultLogRead r => some (0x0F03, faultLogReadCmd, r)
  | .faultClearLatch r => some (0x0F04, faultClearLatchCmd, r)
  | .faultClearCounters r => some (0x0F04, faultClearCountersCmd, r)
  | .faultClearFirstFault r => some (0x0F04, faultClearFirstFaultCmd, r)
  | .faultClearLog r => some (0x0F04, faultClearLogCmd, r)
  | .faultInjectArm r => some (0x0F05, faultInjectArmCmd, r)
  | .faultInjectDisarm r => some (0x0F05, faultInjectDisarmCmd, r)
  | .faultPhase r => some (0x0F06, faultPhaseCmd, r)
  | .faultBlackboxRead r => some (0x0F07, faultBlackboxReadCmd, r)
  | .nvStatus r => some (0x1000, nvStatusCmd, r)
  | .nvHeaderRead r => some (0x1001, nvHeaderReadCmd, r)
  | .nvHeaderWrite r => some (0x1002, nvHeaderWriteCmd, r)
  | .nvFwWrite r => some (0x1003, nvFwWriteCmd, r)
  | .nvFwActivate r => some (0x1004, nvFwActivateCmd, r)
  | .nvFwCommit r => some (0x1005, nvFwCommitCmd, r)
  | .nvFwVersionCommit r => some (0x1006, nvFwVersionCommitCmd, r)
  | .nvScriptWrite r => some (0x1007, nvScriptWriteCmd, r)
  | .nandInfo r => some (0x1008, nandInfoCmd, r)
  | .archiveList r => some (0x1009, archiveListCmd, r)
  | .archiveRead r => some (0x100A, archiveReadCmd, r)
  | .archiveWrite r => some (0x100B, archiveWriteCmd, r)
  | .archiveDelete r => some (0x100C, archiveDeleteCmd, r)
  | .nandFormat r => some (0x100D, nandFormatCmd, r)
  | .diagEcho r => some (0x1100, diagEchoCmd, r)
  | .diagSensors r => some (0x1101, diagSensorsCmd, r)
  | _ => none

/-- The command answers a next state, leaves the queue as it is, and the device is then as `p` says. -/
def Yields (i : Instr) (s : State) (p : Device → Prop) : Prop :=
  ∃ t, exec i s = .next t ∧ t.pending = s.pending ∧ p t.dev

/-! ### Frames -/

/-- The parts of the device, one for each field of its state but the outputs of the last step. -/
inductive Part where
  | accord | engines | conv | tx | rx | fec | pool | line | ohpFs | tribs
  | crypto | kme | ostc | timing | ttx | sense | ramp | mem | lanes | stack
  | clock | fault | boot | host | elec | settings | pendSet | evq | fresh
  deriving DecidableEq, Repr

/-- A part is the same in both states, but for the pins that follow the state (`PinsFollow` says how they do). -/
def Part.same (s t : Device) (p : Part) : Prop :=
  match p with
  | .accord => t.accord = s.accord
  | .engines => t.engines = s.engines
  | .conv => t.conv = s.conv
  | .tx => t.tx = s.tx
  | .rx => t.rx = s.rx
  | .fec => t.fec = s.fec
  | .pool => t.pool = s.pool
  | .line => t.line = s.line
  | .ohpFs => t.ohpFs = s.ohpFs
  | .tribs => t.tribs = s.tribs
  | .crypto => t.crypto = s.crypto
  | .kme => t.kme = s.kme
  | .ostc => t.ostc = s.ostc
  | .timing => t.timing = s.timing
  | .ttx => t.ttx = s.ttx
  | .sense => t.sense = s.sense
  | .ramp => t.ramp = s.ramp
  | .mem => t.mem = s.mem
  | .lanes => t.lanes = s.lanes
  | .stack => t.stack = s.stack
  | .clock => t.clock = s.clock
  | .fault => t.fault = { s.fault with pinLow := t.fault.pinLow }
  | .boot => t.boot = s.boot
  | .host => t.host = { s.host with irqLow := t.host.irqLow }
  | .elec => t.elec = { s.elec with txon := t.elec.txon }
  | .settings => t.settings = s.settings
  | .pendSet => t.pendSet = s.pendSet
  | .evq => t.evq = s.evq
  | .fresh => t.fresh = s.fresh

/-- Every part but the listed ones is unchanged. -/
def Only (l : List Part) (s t : Device) : Prop := ∀ p, p ∉ l → p.same s t

/-- Every part but the listed ones and the answering mailbox is unchanged: `OnlyMailbox` with more parts that change. A
list with `.host` leaves out the host interface as a whole. -/
def OnlyAnd (l : List Part) (n : Nat) (s t : Device) : Prop :=
  Only (.host :: l) s t ∧
  (.host ∈ l ∨ (t.host = { s.host with mbs := t.host.mbs, irqStatus := t.host.irqStatus, irqLow := t.host.irqLow,
                                       msixPend := t.host.msixPend } ∧ ∀ m, m ≠ n → mailbox t m = mailbox s m))

/-- The parts that an event of a fault source can change beside the source itself: the log and the pins, what it erases
and resets with `ZEROIZE`, and the captures it triggers with their stack-wide trigger (19_fault_handling R754). -/
def Part.ofFault : List Part := [.fault, .crypto, .kme, .clock, .mem, .stack]

/-- The parts that a raised event changes: the records that wait for delivery (21_mailbox_interface R820). -/
def Raised (type source sev : Nat) (payload : List Byte) (s t : Device) : Prop :=
  t.evq = s.evq ++ [⟨type, source, sev, s.stack.stackId, s.timing.now, fit 12 payload⟩]

/-- The collector has counted one event of a source at the present instant (19_fault_handling R747, R759). -/
def Faulted (id inst : Nat) (s t : Device) : Prop :=
  (source t id inst).events = sat 32 ((source s id inst).events + 1) ∧ (source t id inst).lastEvent = s.timing.now

/-- The receiver of a carrier enters a state by a cause and raises `RX_STATE`; the other carrier's receiver does not
change (05_receive_path R217, R219, Table 5-6; 22_command_reference Table 22-12). -/
def RxEnters (c : Carrier) (st : RxState) (cause : Nat) (s t : Device) : Prop :=
  (t.rx.get c).state = st ∧ (t.rx.get c).ticks = 0 ∧ (t.rx.get c).exitCount = 0 ∧
  t.rx.get c.other = s.rx.get c.other ∧
  Raised 0x0203 c.num 0 (le 1 (s.rx.get c).state.code ++ le 1 st.code ++ le 1 cause) s t

/-- A fall of Table 5-6: the state is entered, `ACQ_RETRIES` counts, and the fall is noted for `RX_ACQ_UNSTABLE`
(05_receive_path R219, R222). -/
def RxFalls (c : Carrier) (st : RxState) (cause : Nat) (s t : Device) : Prop :=
  RxEnters c st cause s t ∧ (t.rx.get c).acqRetries = sat 16 ((s.rx.get c).acqRetries + 1) ∧
  (t.rx.get c).falls = 0 :: (s.rx.get c).falls

/-! ### Answers -/

/-- The command, when it runs, is answered with a status and parameters, changes the listed parts and the answering
mailbox alone, and `q` says what it answers and leaves (21_mailbox_interface R811, R814; 22_command_reference R840). -/
def Answers (i : Instr) (s : State) (l : List Part) (st : Status) (q : List Byte → Device → Prop) : Prop :=
  ∀ op c r, commandOf i = some (op, c, r) → runs op c r s.dev = true →
    Yields i s fun t => ∃ p, Answered op r ⟨st, p⟩ t ∧ OnlyAnd l r.mb.val s.dev t ∧ q p t

/-- The command, when it runs, is answered `OK` without parameters. -/
def Does (i : Instr) (s : State) (l : List Part) (q : Device → Prop) : Prop :=
  Answers i s l .ok fun p t => p = [] ∧ q t

/-- The command, when it runs, is answered `OK` with parameters and changes nothing but its mailbox. -/
def Reads (i : Instr) (s : State) (q : List Byte → Prop) : Prop := Answers i s [] .ok fun p _ => q p

/-- The command, when it runs, is answered `PENDING` and noted for its `DEFERRED_DONE`
(01_talnis_3200_at_a_glance R41). -/
def Defers (i : Instr) (s : State) (l : List Part) (q : Device → Prop) : Prop :=
  ∀ op c r, commandOf i = some (op, c, r) → runs op c r s.dev = true →
    Yields i s fun t => Answered op r ⟨.pending, []⟩ t ∧ ⟨r.mb.val, op, r.seq.toNat⟩ ∈ t.host.pendCmds ∧
      OnlyAnd (.host :: l) r.mb.val s.dev t ∧ q t

/-- Every run-time field of a request is the accepted value of its setting; it is in force at once, or the old value
stays in force until the setting's boundary (01_talnis_3200_at_a_glance R33, R34). -/
def Accepts (op tgt : Nat) (p : List Byte) (s t : Device) : Prop :=
  ∀ row, row ∈ layout op → row.kind = .rt →
    accepted t (skey op tgt (selector op p) row.off) = row.read p ∧
    inForce t (skey op tgt (selector op p) row.off) =
      if row.bnd = .now then row.read p else inForce s (skey op tgt (selector op p) row.off)

/-- Every other setting keeps its accepted value and its value in force. -/
def OthersKept (op tgt : Nat) (p : List Byte) (s t : Device) : Prop :=
  ∀ key, (∀ row, row ∈ layout op → row.kind = .rt → key ≠ skey op tgt (selector op p) row.off) →
    accepted t key = accepted s key ∧ inForce t key = inForce s key

end Sys2Proof.Machine
end

