-- ==== Sys2Proof/Certificates/Slice0/Obligations.lean ====
section
/-!
DEFINITION. The statements for the provers, in the order of OBLIGATIONS.json: what the events of each part of the device
do, what each mailbox command answers and changes, and what every step keeps. Each names what it leaves unchanged with
`Only`, `OnlyAnd` or `OnlyMailbox` of Safety.lean. A clause `Yields c s P` says that the command answers a next state of
which `P` holds.
-/
open Sys2Proof Sys2Proof.Machine

/-- A supply fall puts the device in POR and, from a running state, keeps OTP but for a burn in progress and drops
settings, fault sources and the state of both transmitters and receivers; a POR release with RESET_N low leaves POR
and keeps DEVICE in reset; RESET_N low puts DEVICE and every domain it contains in reset with last cause 1, drops
transmitters and receivers, drives TXON low and keeps the timing state while TIMING_HOLD is 1; RESET_N high changes
that pin alone. Rests on 18_clocks_resets_power R721 to R727. The model's own choices in it: what each reset keeps
where the text names no item is the reading of log 41. -/
def Obligations.ResetInputs : Prop :=
  (∀ (s : State) (x : Straps), Yields (.powerOnReset false x) s fun t =>
    t.elec.porReleased = false ∧ inReset t .por = true ∧
    (inReset s.dev .por = false → t.boot.otp = { s.dev.boot.otp with burn := none } ∧ t.settings = [] ∧
      t.fault.sources = [] ∧ t.tx = ⟨{}, {}⟩ ∧ t.rx = ⟨{}, {}⟩)) ∧
  (∀ (s : State) (x : Straps), inReset s.dev .por = true → s.dev.clock.resetN = true →
    (.device, 1) ∈ s.dev.clock.inReset → Yields (.powerOnReset true x) s fun t =>
    t.elec.porReleased = true ∧ inReset t .por = false ∧ inReset t .device = true) ∧
  (∀ s : State, inReset s.dev .por = false → inReset s.dev .device = false → Yields (.resetN true) s fun t =>
    t.clock.resetN = true ∧ inReset t .device = true ∧ t.clock.lastCause = 1 ∧
    (∀ d ∈ containedIn s.dev, inReset t d = true) ∧ t.boot.otp = { s.dev.boot.otp with burn := none } ∧
    t.tx = ⟨{}, {}⟩ ∧ t.rx = ⟨{}, {}⟩ ∧ t.elec.txon = ⟨false, false⟩ ∧
    (s.dev.clock.timingHold = true → t.timing = s.dev.timing)) ∧
  (∀ s : State, Yields (.resetN false) s fun t =>
    t.clock = { s.dev.clock with resetN := false } ∧ Only [.clock] s.dev t)

/-- XI_INPUT_JUDGED sets the input's stability and frequency, counts the attempt and raises XTAL_FAIL's condition at the
fifth failure; ROOT_INPUT_LOSS while PLL-R runs opens its loop to COASTING, counts it, aims management at FOSC and
raises ROOT_COAST; PLL_R_LOCKED at the start of the clocks takes the first stable input and moves boot to FW_LOAD, and
from coasting on a valid source ends ROOT_COAST; TICK_ALIGNED ends an alignment with its event; OSC_TRIM_STALE raises
its fault and keeps both trim codes. Rests on 18_clocks_resets_power R700 to R703; 18_clocks_resets_power R704 to
R712; 18_clocks_resets_power R716, R717. The model's own choices in it: the readings of log 85. -/
def Obligations.ClockSourcesFollow : Prop :=
  (∀ (s : State) (n : Fin 2) (ok : Bool) (freq : Int), Yields (.xiInputJudged n ok freq) s fun t =>
    (xi t n.val).stable = ok ∧ (xi t n.val).freq = freq ∧ (xi t n.val).attempts = min 7 ((xi s.dev n.val).attempts + 1) ∧
    (source t 0x0E03 n.val).cond =
      (if ok then false else if 5 ≤ (xi s.dev n.val).attempts + 1 then true else (source s.dev 0x0E03 n.val).cond)) ∧
  (∀ s : State, pllRuns s.dev = true → Yields .rootInputLoss s fun t =>
    t.clock.pll = .coasting ∧ t.clock.aligned = false ∧ t.clock.coasts = wrap 32 (s.dev.clock.coasts + 1) ∧
    (sel t 0).source = (sel s.dev 0).source ∧
    (sel t 1).target = (if (sel s.dev 1).source = 1 then none else some 1) ∧
    (source t 0x0E01 0).cond = true ∧ Only Part.ofFault s.dev t) ∧
  (∀ (s : State) (i : Nat), s.dev.clock.pll = .unlocked → s.dev.boot.stage = .clocks →
    [0, 1].find? (rootValid s.dev) = some i → Yields .pllRLocked s fun t =>
    t.clock.pll = .locked ∧ (sel t 0).source = i ∧ (sel t 1).source = 0 ∧ t.boot.stage = .fwLoad ∧
    t.host.irqStatus.getLsbD 7 = true ∧ Only [.clock, .boot, .host] s.dev t) ∧
  (∀ s : State, s.dev.clock.pll = .coasting → rootValid s.dev (sel s.dev 0).source = true →
    Yields .pllRLocked s fun t => t.clock.pll = .locked ∧ (source t 0x0E01 0).cond = false ∧
      Only [.clock, .fault] s.dev t) ∧
  (∀ s : State, s.dev.clock.pll = .aligning → Yields .tickAligned s fun t =>
    t.clock = { s.dev.clock with pll := .locked, aligned := true } ∧
    Raised 0x0E01 0 0 (le 4 s.dev.clock.alignTicks) s.dev t ∧ Only [.clock, .evq] s.dev t) ∧
  (∀ s : State, 10000 ≤ s.dev.clock.trimAge → dset s.dev 0x0E00 0 3 ≠ 0xFF → Yields .oscTrimStale s fun t =>
    (source t 0x0E04 0).cond = true ∧ t.clock.foscTrim = s.dev.clock.foscTrim ∧
    t.clock.soscTrim = s.dev.clock.soscTrim ∧ Only Part.ofFault s.dev t)

/-- With a target and no TIMING reset waiting, a switch moves the selector to it, clears the target and counts the switch,
a forced switch counts as forced too and raises CLK_FORCED, an absent new clock clears the target and leaves the
source, for the root marking that XI input silent; no other selector changes. A write to CLK_EN sets a block's bit,
clears it only while the block is not in use, and marks a refused clear. Rests on 18_clocks_resets_power R713 to R715;
18_clocks_resets_power R718 to R720. The model's own choices in it: the readings of log 85. -/
def Obligations.SelectorsSwitch : Prop :=
  (∀ (s : State) (k : Fin 11) (i : Nat), (sel s.dev k.val).target = some i → s.dev.clock.timingWaits = false →
    Yields (.selectorSwitch k) s fun t =>
      sel t k.val = { sel s.dev k.val with source := i, target := none,
                                           switches := wrap 32 ((sel s.dev k.val).switches + 1) } ∧
      (∀ j, j ≠ k.val → sel t j = sel s.dev j) ∧ Only [.clock] s.dev t) ∧
  (∀ (s : State) (k : Fin 11) (i : Nat), (sel s.dev k.val).target = some i → s.dev.clock.timingWaits = false →
    Yields (.clkForcedSwitch k) s fun t =>
      sel t k.val = { sel s.dev k.val with source := i, target := none,
                                           switches := wrap 32 ((sel s.dev k.val).switches + 1),
                                           forced := wrap 32 ((sel s.dev k.val).forced + 1) } ∧
      (∀ j, j ≠ k.val → sel t j = sel s.dev j) ∧ Faulted 0x0E02 (min k.val 3) s.dev t ∧ Only Part.ofFault s.dev t) ∧
  (∀ (s : State) (k : Fin 11) (i : Nat), (sel s.dev k.val).target = some i →
    Yields (.selectorNewClockAbsent k) s fun t =>
      sel t k.val = { sel s.dev k.val with target := none } ∧ (∀ j, j ≠ k.val → sel t j = sel s.dev j) ∧
      (k.val = 0 → i < 2 → (xi t i).silent = true) ∧ Only [.clock] s.dev t) ∧
  (∀ (s : State) (v : BitVec 32), Yields (.clkEnWrite v) s fun t =>
    (∀ b < 18, t.clock.clkEn.getLsbD b = (v.getLsbD b || (s.dev.clock.clkEn.getLsbD b && blockInUse s.dev b))) ∧
    ((∃ b < 18, v.getLsbD b = false ∧ s.dev.clock.clkEn.getLsbD b = true ∧ blockInUse s.dev b = true) →
      t.clock.refused = true) ∧ Only [.clock] s.dev t)

/-- 100 control ticks without a heartbeat reset MGMT: mailboxes go, the firmware stops, settings and carriers stay; a
domain whose causes are all gone leaves reset and no other domain moves; DEVICE leaving reset reads the straps; DRAM
leaves reset when retrained. Rests on 18_clocks_resets_power R721 to R727; 18_clocks_resets_power R728 to R730. The
model's own choices in it: the hold of a commanded reset and the release of CRYPTO are the readings of logs 42 and 43. -/
def Obligations.DomainsEnterAndLeaveReset : Prop :=
  (∀ s : State, 100 ≤ s.dev.clock.heartbeatAge → inReset s.dev .mgmt = false → Yields .mgmtWatchdog s fun t =>
    inReset t .mgmt = true ∧ t.clock.heartbeatAge = 0 ∧ t.host.mbs = [] ∧ t.boot.fwRuns = false ∧
    Faulted 0x0E05 0 s.dev t ∧ t.settings = s.dev.settings ∧ t.tx = s.dev.tx ∧ t.rx = s.dev.rx) ∧
  (∀ (s : State) (d : Domain) (x : Straps), d ≠ .por → d ≠ .dram → d ≠ .device → inReset s.dev d = true →
    (∀ c, (d, c) ∈ s.dev.clock.inReset → causeGone s.dev d c = true) →
    Yields (.domainResetRelease d x) s fun t => inReset t d = false ∧
      ∀ e, e ≠ d → inReset t e = inReset s.dev e) ∧
  (∀ (s : State) (x : Straps), inReset s.dev .por = false → (.device, 1) ∈ s.dev.clock.inReset →
    (∀ c, (.device, c) ∈ s.dev.clock.inReset → c = 4 ∨ causeGone s.dev .device c = true) →
    Yields (.domainResetRelease .device x) s fun t => inReset t .device = false ∧
      t.clock.timingHold = x.timingHold ∧ t.stack.strapRole = x.role % 4 ∧ t.stack.stackId = x.id % 8 ∧
      t.boot.bootSrc = x.bootSrc % 4) ∧
  (∀ s : State, inReset s.dev .dram = true → inReset s.dev .device = false →
    (∀ c, (.dram, c) ∈ s.dev.clock.inReset → causeGone s.dev .dram c = true) →
    Yields .dramRetrainComplete s fun t => inReset t .dram = false)

/-- TX_LEAD_ELAPSED with foreground calibration done starts the up ramp with its length; TX_RAMP_COMPLETE ends an up ramp
in TX_ON and a down ramp in TX_OFF with TXON low; CARRIER_LOOP_START runs the converter loop of a powered carrier with
calibration due; SWAP_DEFER_EXPIRY applies the changes that waited longer than swap_defer and reports them; at a block
boundary where the waveform may change no waveform change of the carrier is left waiting. The other carrier does not
change. Rests on 04_transmit_path R170 to R177; 04_transmit_path R159 to R169; 03_converters_and_trim R108 to R119;
18_clocks_resets_power R731 to R733. The model's own choices in it: the rounding of the ramp length is log 39; ramps
and lead are counted as in log 55; the deferral is read as in log 53. -/
def Obligations.TransmitterAndConverterEvents : Prop :=
  (∀ (s : State) (c : Carrier), (s.dev.tx.get c).state = .lead → (s.dev.tx.get c).leadLeft = 0 →
    (s.dev.conv.get c).fgDone = true → txWanted s.dev c = true → Yields (.txLeadElapsed c) s fun t =>
      t.tx.get c = { s.dev.tx.get c with state := .rampUp, rampDone := 0, rampLen := rampTicks s.dev c } ∧
      t.tx.get c.other = s.dev.tx.get c.other ∧ t.elec.txon.get c = true ∧ t.settings = s.dev.settings ∧
      Only [.tx, .pendSet] s.dev t) ∧
  (∀ (s : State) (c : Carrier), (s.dev.tx.get c).state = .rampUp → (s.dev.tx.get c).rampLen ≤ (s.dev.tx.get c).rampDone →
    Yields (.txRampComplete c) s fun t =>
      t.tx.get c = { s.dev.tx.get c with state := .on } ∧ t.tx.get c.other = s.dev.tx.get c.other ∧
      t.elec.txon.get c = true ∧ Only [.tx] s.dev t) ∧
  (∀ (s : State) (c : Carrier), (s.dev.tx.get c).state = .rampDown → (s.dev.tx.get c).rampLen ≤ (s.dev.tx.get c).rampDone →
    Yields (.txRampComplete c) s fun t =>
      t.tx.get c = { s.dev.tx.get c with state := .off } ∧ t.tx.get c.other = s.dev.tx.get c.other ∧
      t.elec.txon.get c = false ∧ Only [.tx] s.dev t) ∧
  (∀ (s : State) (c : Carrier), s.dev.clock.power.get c = true → (s.dev.conv.get c).loopRunning = false →
    Yields (.carrierLoopStart c) s fun t =>
      (t.conv.get c).loopRunning = true ∧ (t.conv.get c).fgDone = false ∧ t.conv.get c.other = s.dev.conv.get c.other ∧
      t.tx = s.dev.tx ∧ t.rx = s.dev.rx ∧ t.settings = s.dev.settings) ∧
  (∀ (s : State) (c : Carrier) (k : Fin 8) (e : ElemChange), zr s.dev c = true → (s.dev.conv.get c).loopRunning = true →
    tb (csetN s.dev c 0x0241 1) k.val = false → e ∈ (convOf s.dev c k.val).pending →
    csetN s.dev c 0x0241 4 < e.age → Yields (.swapDeferExpiry c k) s fun t =>
      (convOf t c k.val).pending = (convOf s.dev c k.val).pending.filter (fun e => e.age ≤ csetN s.dev c 0x0241 4) ∧
      Raised 0x0202 c.num 1 (le 1 (k.val % 4) ++ le 1 (k.val / 4) ++
        le 2 ((convOf s.dev c k.val).pending.filter fun e => csetN s.dev c 0x0241 4 < e.age).length) s.dev t ∧
      t.conv.get c.other = s.dev.conv.get c.other ∧ t.settings = s.dev.settings) ∧
  (∀ (s : State) (c : Carrier) (txw rxw : Bool), s.dev.clock.power.get c = true →
    (native s.dev c = false ∨ (s.dev.tx.get c).state = .off ∨ txw = true) →
    Yields (.blockBoundary c txw rxw) s fun t =>
      ∀ q ∈ t.pendSet, ¬(q.when = When.block.code ∧ waveKey c q.key = true))

/-- From each state of Table 5-4 whose exit count is reached, RX_ACQ_PROGRESS enters the next state with its RX_STATE
event; CD_SEARCH takes the estimate and goes on only when the dispersion is in range, else raises RX_CD_RANGE;
SUPERFRAME_LOCK reports the identified map under fe_auto; nothing else but receiver, events and pending settings
changes. Rests on 05_receive_path R217 to R222, R895; 05_receive_path R188 to R196; 05_receive_path R197 to R203. The
model's own choices in it: exit counts and estimates are read as in logs 56 and 57. -/
def Obligations.AcquisitionProgress : Prop :=
  (∀ (s : State) (c : Carrier) (u : AcqIn), (s.dev.rx.get c).state = .off → (s.dev.rx.get c).enabled = true →
    (s.dev.conv.get c).loopRunning = true → (s.dev.conv.get c).fgDone = true → losP s.dev c = false →
    Yields (.rxAcqProgress c u) s fun t => RxEnters c .powerSeen 0 s.dev t ∧ Only [.rx, .evq, .pendSet] s.dev t) ∧
  (∀ (s : State) (c : Carrier) (u : AcqIn), (s.dev.rx.get c).state = .powerSeen → 8 ≤ (s.dev.rx.get c).exitCount →
    Yields (.rxAcqProgress c u) s fun t => RxEnters c .cdSearch 0 s.dev t ∧ Only [.rx, .evq, .pendSet] s.dev t) ∧
  (∀ (s : State) (c : Carrier) (u : AcqIn) (m : ModePlan), (s.dev.rx.get c).state = .cdSearch →
    modeOf s.dev c = some m → (s.dev.rx.get c).cdOutOfRange = false →
    Yields (.rxAcqProgress c u) s fun t =>
      (t.rx.get c).cdEst = (judgeCd s.dev c u).2 ∧
      (if cdInRange m.rs (judgeCd s.dev c u).2 then
        RxEnters c .clockLock 0 s.dev t ∧ (t.rx.get c).hypothesis = (judgeCd s.dev c u).1
      else (t.rx.get c).state = .cdSearch ∧ Faulted 0x0321 c.num s.dev t)) ∧
  (∀ (s : State) (c : Carrier) (u : AcqIn), (s.dev.rx.get c).state = .clockLock → 1000 ≤ (s.dev.rx.get c).exitCount →
    Yields (.rxAcqProgress c u) s fun t => RxEnters c .eqConverge 0 s.dev t ∧ Only [.rx, .evq] s.dev t) ∧
  (∀ (s : State) (c : Carrier) (u : AcqIn), (s.dev.rx.get c).state = .eqConverge → 1000 ≤ (s.dev.rx.get c).exitCount →
    Yields (.rxAcqProgress c u) s fun t => RxEnters c .carrierLock 0 s.dev t ∧ Only [.rx, .evq] s.dev t) ∧
  (∀ (s : State) (c : Carrier) (u : AcqIn), (s.dev.rx.get c).state = .carrierLock → native s.dev c = true →
    3 ≤ (s.dev.rx.get c).exitCount → u.map = 0x03020100 →
    Yields (.rxAcqProgress c u) s fun t =>
      RxEnters c .superframeLock 0 s.dev t ∧ (feAuto s.dev c = true → (t.rx.get c).mapReported = u.map) ∧
      (feAuto s.dev c = false → (t.rx.get c).mapReported = (s.dev.rx.get c).mapReported) ∧
      Only [.rx, .evq, .pendSet] s.dev t) ∧
  (∀ (s : State) (c : Carrier) (u : AcqIn), (s.dev.rx.get c).state = .carrierLock → native s.dev c = true →
    3 ≤ (s.dev.rx.get c).exitCount → feAuto s.dev c = true → u.map ≠ 0x03020100 →
    Yields (.rxAcqProgress c u) s fun t =>
      (t.rx.get c).state = .superframeLock ∧ (t.rx.get c).mapReported = u.map ∧
      t.rx.get c.other = s.dev.rx.get c.other ∧
      t.evq = s.dev.evq ++
        [⟨0x0203, c.num, 0, s.dev.stack.stackId, s.dev.timing.now,
            fit 12 (le 1 RxState.carrierLock.code ++ le 1 RxState.superframeLock.code ++ le 1 0)⟩,
          ⟨0x0204, c.num, 0, s.dev.stack.stackId, s.dev.timing.now, fit 12 (le 4 u.map)⟩] ∧
      Only [.rx, .evq, .pendSet] s.dev t) ∧
  (∀ (s : State) (c : Carrier) (u : AcqIn), (s.dev.rx.get c).state = .superframeLock →
    (if native s.dev c then 128 else 38093) ≤ (s.dev.rx.get c).exitCount →
    Yields (.rxAcqProgress c u) s fun t =>
      RxEnters c (if native s.dev c && (s.dev.rx.get c).bringUp then .staged else .inService) 0 s.dev t ∧
      Only [.rx, .evq] s.dev t) ∧
  (∀ (s : State) (c : Carrier) (u : AcqIn), (s.dev.rx.get c).state = .staged → (s.dev.rx.get c).stageSf.isSome = true →
    8 ≤ (s.dev.rx.get c).exitCount →
    Yields (.rxAcqProgress c u) s fun t => RxEnters c .inService 0 s.dev t ∧ Only [.rx, .evq] s.dev t)

/-- RX_ACQ_TIMEOUT after the time of each state, and LOCK_HOLD_LOSS after lock_hold control ticks of a bad lock metric,
make the receiver fall with the cause of Table 5-6, counting the retry; CD_SEARCH_HINT_MISS goes on as a blind search
and is counted. Rests on 05_receive_path R217 to R222, R895; 05_receive_path R183 to R187. The model's own choices in
it: timeouts are counted exactly from entry (log 56). -/
def Obligations.AcquisitionFalls : Prop :=
  (∀ (s : State) (c : Carrier), (s.dev.rx.get c).state = .powerSeen → 20000 ≤ (s.dev.rx.get c).ticks →
    Yields (.rxAcqTimeout c) s fun t => RxFalls c .powerSeen 10 s.dev t) ∧
  (∀ (s : State) (c : Carrier), (s.dev.rx.get c).state = .cdSearch →
    (if (s.dev.rx.get c).hint = .blind || (s.dev.rx.get c).hintMissed then 1650000 else 50000) ≤ (s.dev.rx.get c).ticks →
    Yields (.rxAcqTimeout c) s fun t => RxFalls c .cdSearch 2 s.dev t ∧ (t.rx.get c).hint = .blind) ∧
  (∀ (s : State) (c : Carrier), (s.dev.rx.get c).state = .clockLock → 30000 ≤ (s.dev.rx.get c).ticks →
    Yields (.rxAcqTimeout c) s fun t => RxFalls c .cdSearch 3 s.dev t) ∧
  (∀ (s : State) (c : Carrier), (s.dev.rx.get c).state = .eqConverge → 80000 ≤ (s.dev.rx.get c).ticks →
    Yields (.rxAcqTimeout c) s fun t => RxFalls c .cdSearch 3 s.dev t ∧
      (t.rx.get c).hypothesis =
        (if feAuto s.dev c then ((s.dev.rx.get c).hypothesis + 1) % 4 else (s.dev.rx.get c).hypothesis)) ∧
  (∀ (s : State) (c : Carrier), (s.dev.rx.get c).state = .carrierLock → 40000 ≤ (s.dev.rx.get c).ticks →
    Yields (.rxAcqTimeout c) s fun t => RxFalls c .eqConverge 4 s.dev t) ∧
  (∀ (s : State) (c : Carrier), (s.dev.rx.get c).state = .superframeLock → 60000 ≤ (s.dev.rx.get c).ticks →
    Yields (.rxAcqTimeout c) s fun t => RxFalls c .eqConverge 4 s.dev t) ∧
  (∀ (s : State) (c : Carrier), (s.dev.rx.get c).state.atLeast .eqConverge = true →
    rxSet s.dev c 24 ≤ (s.dev.rx.get c).clockBad →
    Yields (.lockHoldLoss c) s fun t => RxFalls c .cdSearch 5 s.dev t ∧ (t.rx.get c).hint = .last) ∧
  (∀ (s : State) (c : Carrier), (s.dev.rx.get c).state.atLeast .carrierLock = true →
    (s.dev.rx.get c).clockBad < rxSet s.dev c 24 → rxSet s.dev c 24 ≤ (s.dev.rx.get c).errBad →
    Yields (.lockHoldLoss c) s fun t => RxFalls c .eqConverge 6 s.dev t) ∧
  (∀ (s : State) (c : Carrier), (s.dev.rx.get c).state = .cdSearch → (s.dev.rx.get c).hint ≠ .blind →
    (s.dev.rx.get c).hintMissed = false → Yields (.cdSearchHintMiss c) s fun t =>
      t.rx.get c = { s.dev.rx.get c with hintMissed := true, hintMiss := sat 16 ((s.dev.rx.get c).hintMiss + 1) } ∧
      t.rx.get c.other = s.dev.rx.get c.other ∧ Only [.rx] s.dev t)

/-- A STAGE proposal whose count is at least 4 ahead is acknowledged and its two counts are taken with AGREE_DONE; any
proposal too near is answered with a refusal; an own proposal older than 256 superframes lapses with AGREE_FAIL;
STAGE_PROPOSE and STAGE_RETRY propose when both ends are staged; RX_STAGE_FAIL takes the carrier back to the bring-up
format by a proposal. Rests on 05_receive_path R223 to R235. The model's own choices in it: the answers and tie-breaks
are read as in log 58. -/
def Obligations.Agreements : Prop :=
  (∀ (s : State) (c : Carrier), (s.dev.rx.get c).farRec.kind = 1 → (s.dev.rx.get c).farRec.verb = 0 →
    (s.dev.rx.get c).ownRec.verb ≠ 0 → (s.dev.rx.get c).ownRec.nonce ≠ (s.dev.rx.get c).farRec.nonce →
    countGe (s.dev.rx.get c).farRec.countBack ((s.dev.tx.get c).xsf + 4) = true →
    Yields (.agreementReceived c) s fun t =>
      (t.rx.get c).ownRec = { (s.dev.rx.get c).farRec with verb := 1, rxState := (s.dev.rx.get c).state.code } ∧
      (t.rx.get c).txCount = some (s.dev.rx.get c).farRec.countBack ∧
      (t.rx.get c).rxCount = some (s.dev.rx.get c).farRec.countOut ∧
      Raised 0x0205 c.num 0 (le 1 1 ++ le 1 (s.dev.rx.get c).farRec.seq ++ [0, 0] ++
        le 4 (s.dev.rx.get c).farRec.countBack ++ le 4 (s.dev.rx.get c).farRec.countOut) s.dev t ∧
      Only [.rx, .evq] s.dev t) ∧
  (∀ (s : State) (c : Carrier), (s.dev.rx.get c).farRec.kind ≠ 0 → (s.dev.rx.get c).farRec.verb = 0 →
    (s.dev.rx.get c).ownRec.verb ≠ 0 → (s.dev.rx.get c).ownRec.nonce ≠ (s.dev.rx.get c).farRec.nonce →
    countGe (s.dev.rx.get c).farRec.countBack ((s.dev.tx.get c).xsf + 4) = false →
    Yields (.agreementReceived c) s fun t =>
      t.rx.get c = { s.dev.rx.get c with
        ownRec := { (s.dev.rx.get c).farRec with verb := 2, rxState := (s.dev.rx.get c).state.code }
        proposer := false, agree := .idle } ∧ Only [.rx] s.dev t) ∧
  (∀ (s : State) (c : Carrier), (s.dev.rx.get c).agree = .proposed → 256 < (s.dev.rx.get c).proposalAge →
    Yields (.agreeFail c) s fun t =>
      (t.rx.get c).agree = .idle ∧
      (t.rx.get c).retryEpochs = (if (s.dev.rx.get c).ownRec.kind = 1 then timer (rxSet s.dev c 28) else none) ∧
      Raised 0x0206 c.num 0 (le 1 (s.dev.rx.get c).ownRec.kind ++ le 1 (s.dev.rx.get c).ownRec.seq) s.dev t ∧
      Only [.rx, .evq] s.dev t) ∧
  (∀ (s : State) (c : Carrier), bothStaged s.dev c = true →
    (s.dev.rx.get c).retryEpochs = none → Yields (.stagePropose c) s fun t =>
      (t.rx.get c).agree = .proposed ∧ (t.rx.get c).ownRec.kind = 1 ∧ (t.rx.get c).ownRec.verb = 0 ∧
      (t.rx.get c).proposalAge = 0 ∧ Only [.rx, .pendSet, .fresh] s.dev t) ∧
  (∀ (s : State) (c : Carrier), bothStaged s.dev c = true →
    (s.dev.rx.get c).retryEpochs = some 0 → Yields (.stageRetry c) s fun t =>
      (t.rx.get c).agree = .proposed ∧ (t.rx.get c).ownRec.kind = 1 ∧ (t.rx.get c).ownRec.verb = 0 ∧
      (t.rx.get c).retryEpochs = none ∧ Only [.rx, .pendSet, .fresh] s.dev t) ∧
  (∀ (s : State) (c : Carrier) (n : Nat), (s.dev.rx.get c).state = .staged → (s.dev.rx.get c).stageSf = some n →
    8 ≤ n → (s.dev.rx.get c).exitCount < 8 → Yields (.rxStageFail c) s fun t =>
      (t.rx.get c).state = .staged ∧ (t.rx.get c).bringUp = true ∧ (t.rx.get c).ownRec.kind = 3 ∧
      (t.rx.get c).agree = .proposed ∧ Faulted 0x0324 c.num s.dev t)

/-- ACCORD_VERIFY_COMPLETE makes the slot VALID with its plan exactly when header, key, signature, minimum firmware and
counter pass, else frees it with DENIED; ACCORD_LOAD_TIMEOUT frees a chunked load after more than 10 boundaries
without a chunk and a DMA load after one second; a DMA copy or library read that ends starts verification; a library
read that meets an uncorrectable codeword frees the slot and raises NAND_UE. Rests on 02_accords_and_loop_engines R50
to R55; 02_accords_and_loop_engines R56 to R61; 22_command_reference R848 to R856. The model's own choices in it: what
a verified image contains is an operand (log 10); the epoch count of the timeout and the length of an image are read
as in log 46. -/
def Obligations.AccordLoads : Prop :=
  (∀ (s : State) (i : Fin 16) (v : VerifyIn), (accSlot s.dev i.val).state = .verifying →
    Yields (.accordVerifyComplete i v) s fun t =>
      (∀ k, k ≠ i.val → accSlot t k = accSlot s.dev k) ∧
      (if headerOk (accSlot s.dev i.val).image (accSlot s.dev i.val).imageLen &&
          keyAccepted s.dev (hdrKey (accSlot s.dev i.val).image) v.oemHash && v.sigOk &&
          hdrFw (accSlot s.dev i.val).image ≤ s.dev.boot.fwVersion / 65536 &&
          s.dev.boot.otp.accordCounter ≤ hdrSec (accSlot s.dev i.val).image then
        accSlot t i.val = { accSlot s.dev i.val with state := .valid, plan := v.plan } ∧
        Raised 0x0101 i.val 0 (le 1 Status.ok.code) s.dev t
      else accSlot t i.val = {} ∧ Raised 0x0101 i.val 0 (le 1 Status.denied.code) s.dev t) ∧
      Only [.accord, .evq] s.dev t) ∧
  (∀ (s : State) (i : Fin 16), (accSlot s.dev i.val).state = .loading → (accSlot s.dev i.val).source = 0 →
    10 < (accSlot s.dev i.val).idle → Yields (.accordLoadTimeout i) s fun t =>
      accSlot t i.val = {} ∧ Raised 0x0101 i.val 0 (le 1 Status.timeout.code) s.dev t ∧ Only [.accord, .evq] s.dev t) ∧
  (∀ (s : State) (i : Fin 16), (accSlot s.dev i.val).state = .loading → (accSlot s.dev i.val).source = 1 →
    (accSlot s.dev i.val).lastAt + SEC ≤ s.dev.timing.now → Yields (.accordLoadTimeout i) s fun t =>
      accSlot t i.val = {} ∧ Raised 0x0101 i.val 0 (le 1 Status.timeout.code) s.dev t ∧ Only [.accord, .evq] s.dev t) ∧
  (∀ (s : State) (i : Fin 16) (image : List Byte), (accSlot s.dev i.val).state = .loading →
    (accSlot s.dev i.val).source = 1 → image.length = (accSlot s.dev i.val).imageLen →
    Yields (.accordDmaComplete i image) s fun t =>
      accSlot t i.val = { accSlot s.dev i.val with image, state := .verifying } ∧ Only [.accord] s.dev t) ∧
  (∀ (s : State) (i : Fin 16) (e : NandEntry), (accSlot s.dev i.val).state = .loading →
    (accSlot s.dev i.val).source = 2 → libEntry s.dev (accSlot s.dev i.val).libEntry = some e → e.invalid = false →
    Yields (.accordNandReadComplete i true) s fun t =>
      accSlot t i.val = { accSlot s.dev i.val with image := e.data, state := .verifying } ∧ Only [.accord] s.dev t) ∧
  (∀ (s : State) (i : Fin 16) (e : NandEntry), (accSlot s.dev i.val).state = .loading →
    (accSlot s.dev i.val).source = 2 → libEntry s.dev (accSlot s.dev i.val).libEntry = some e →
    Yields (.accordNandReadComplete i false) s fun t =>
      accSlot t i.val = {} ∧ Faulted 0x1008 0 s.dev t ∧ Raised 0x0101 i.val 0 (le 1 Status.denied.code) s.dev t)

/-- Staging that ends well makes the standby set READY with the slot's header and plan; a memory error ends it, marks the
image invalid and reports DENIED; at T the standby set becomes the active one and the former active set the standby; a
receive side that waits switches at its boundary; the switch ends with its event and the former Accord staged. Rests
on 02_accords_and_loop_engines R62 to R67; 02_accords_and_loop_engines R68 to R83. The model's own choices in it: the
first switch and the receive side are read as in logs 47 and 50; T as in log 48. -/
def Obligations.AccordStagingAndSwitch : Prop :=
  (∀ (s : State) (i : Nat), s.dev.accord.standby = .staging → s.dev.accord.standbySet.slot = some i →
    (accSlot s.dev i).state = .valid → ((accSlot s.dev i).plan.cores.any fun k => coreRetired s.dev k.1) = false →
    Yields (.stagingComplete .good) s fun t =>
      t.accord = { s.dev.accord with
        standby := .ready
        standbySet := { slot := some i, header := fit 336 (accSlot s.dev i).image, plan := (accSlot s.dev i).plan } } ∧
      Raised 0x0102 i 0 (le 1 Status.ok.code) s.dev t ∧ Only [.accord, .evq] s.dev t) ∧
  (∀ (s : State) (i : Nat), s.dev.accord.standby = .staging → s.dev.accord.standbySet.slot = some i →
    (accSlot s.dev i).state = .valid → Yields (.stagingComplete .memError) s fun t =>
      t.accord.standby = .empty ∧ (accSlot t i).state = .invalid ∧
      Raised 0x0102 i 0 (le 1 Status.denied.code) s.dev t ∧ Only [.accord, .evq] s.dev t) ∧
  (∀ s : State, switchDue s.dev = true → Yields .accordSwitchT s fun t =>
      t.accord.standby = .switching ∧ t.accord.active = s.dev.accord.standbySet ∧
      t.accord.standbySet = s.dev.accord.active ∧ t.accord.switchT = s.dev.timing.now ∧
      t.accord.changed = s.dev.accord.changed ∧ t.timing = s.dev.timing) ∧
  (∀ (s : State) (c : Carrier), s.dev.accord.standby = .switching → s.dev.accord.rxWait.get c = true →
    (agreedWait s.dev c && (s.dev.rx.get c).state.atLeast .superframeLock) = false →
    Yields (.accordRxSwitch c) s fun t =>
      t.accord = { s.dev.accord with rxWait := s.dev.accord.rxWait.set c false } ∧
      t.rx.get c.other = s.dev.rx.get c.other ∧ t.timing = s.dev.timing) ∧
  (∀ s : State, switchDone s.dev = true → s.dev.accord.held = [] → Yields .accordSwitchComplete s fun t =>
      t.accord = { s.dev.accord with
        standby := if s.dev.accord.standbySet.slot.isSome then .ready else .empty, changed := 0 } ∧
      t.evq = s.dev.evq ++ [⟨0x0103, s.dev.accord.active.slot.getD 0, 0, s.dev.stack.stackId, s.dev.accord.switchT,
        fit 12 (slice s.dev.accord.active.header 16 8 ++ le 1 s.dev.accord.changed.toNat)⟩] ∧
      Only [.accord, .evq] s.dev t)

/-- ZEROIZE_N and each tamper condition erase every line slot, every KME context, the DRBG state and the mask state, reset
CRYPTO and latch the alarm, and keep OTP; the end of the pin ends the condition and keeps the alarm; a key that
reaches 2^32 - 2^16 superframes is erased; a RETIRING slot is erased with KEY_ROLLED; the erasure after a disable
ends. Rests on 09_line_encryption R419 to R426; 09_line_encryption R403 to R409. The model's own choices in it: ages
are counted as in log 69. -/
def Obligations.KeysEraseAndAge : Prop :=
  (∀ s : State, (source s.dev 0x0607 0).cond = false → Yields (.zeroizeN true) s fun t =>
    t.crypto.a.tx = ⟨{}, {}⟩ ∧ t.crypto.a.rx = ⟨{}, {}⟩ ∧ t.crypto.b.tx = ⟨{}, {}⟩ ∧ t.crypto.b.rx = ⟨{}, {}⟩ ∧
    t.kme.ctxs = [] ∧ t.kme.drbgSeeded = false ∧ t.kme.maskSegs = [] ∧ t.kme.alarm = true ∧
    inReset t .crypto = true ∧ (source t 0x0607 0).cond = true ∧ t.boot.otp = s.dev.boot.otp ∧ Only Part.ofFault s.dev t) ∧
  (∀ s : State, Yields (.zeroizeN false) s fun t =>
    (source t 0x0607 0).cond = false ∧ t.kme.alarm = s.dev.kme.alarm ∧ t.kme.ctxs = s.dev.kme.ctxs ∧
    t.crypto = s.dev.crypto ∧ Only [.kme, .fault] s.dev t) ∧
  (∀ (s : State) (k : Fin 3), (source s.dev (0x0601 + k.val) 0).cond = false →
    Yields (.tamperCondition k true) s fun t =>
      t.crypto.a.tx = ⟨{}, {}⟩ ∧ t.crypto.a.rx = ⟨{}, {}⟩ ∧ t.crypto.b.tx = ⟨{}, {}⟩ ∧ t.crypto.b.rx = ⟨{}, {}⟩ ∧
      t.kme.ctxs = [] ∧ t.kme.alarm = true ∧ inReset t .crypto = true ∧ (source t (0x0601 + k.val) 0).cond = true ∧
      t.boot.otp = s.dev.boot.otp ∧ Only Part.ofFault s.dev t) ∧
  (∀ (s : State) (c : Carrier) (rx : Bool) (k : Nat),
    activeSlot (if rx then (s.dev.crypto.get c).rx else (s.dev.crypto.get c).tx) = some k →
    2 ^ 32 - 2 ^ 16 ≤ (slotAt (if rx then (s.dev.crypto.get c).rx else (s.dev.crypto.get c).tx) k).age →
    Yields (.keyIvLimit c rx) s fun t =>
      t.crypto.get c = (if rx then { s.dev.crypto.get c with rx := setSlot (s.dev.crypto.get c).rx k fun _ => {} }
        else { s.dev.crypto.get c with tx := setSlot (s.dev.crypto.get c).tx k fun _ => {} }) ∧
      t.crypto.get c.other = s.dev.crypto.get c.other ∧ Only [.crypto] s.dev t) ∧
  (∀ (s : State) (c : Carrier) (rx : Bool) (k : Fin 2),
    (slotAt (if rx then (s.dev.crypto.get c).rx else (s.dev.crypto.get c).tx) k.val).state = .retiring →
    Yields (.keySlotErased c rx k) s fun t =>
      t.crypto.get c = (if rx then { s.dev.crypto.get c with rx := setSlot (s.dev.crypto.get c).rx k.val fun _ => {} }
        else { s.dev.crypto.get c with tx := setSlot (s.dev.crypto.get c).tx k.val fun _ => {} }) ∧
      t.crypto.get c.other = s.dev.crypto.get c.other ∧
      Raised 0x0601 c.num 0 (le 1 (bit rx) ++ le 1 k.val) s.dev t ∧ Only [.crypto, .evq] s.dev t) ∧
  (∀ (s : State) (c : Carrier), (s.dev.crypto.get c).erasing = true → (s.dev.crypto.get c).heldEnable = none →
    Yields (.cryptoEraseComplete c) s fun t =>
      t.crypto.get c = { s.dev.crypto.get c with erasing := false } ∧
      t.crypto.get c.other = s.dev.crypto.get c.other ∧ Only [.crypto] s.dev t)

/-- An edge of TRIG_IN triggers an armed slot that admits it; at its trigger point the slot is TRIGGERED with the offset
written so far, flagged when less than pre_bytes were there; a completed capture is DONE with its data; a spill adds
the capture to area 3 of the archive; one readout entry of 4,096 bytes goes to its ring. Rests on
14_buffer_memory_and_latency_equaliser R616 to R624; 21_mailbox_interface R824 to R827. The model's own choices in it:
the data of a capture is an operand, the entry ID and the padding are free values (logs 12, 80). -/
def Obligations.CapturesTrigger : Prop :=
  (∀ (s : State) (falling : Bool) (at_ : Time) (n : Fin 4), (cap s.dev n.val).state = .armed →
    (cap s.dev n.val).trig = none → (cap s.dev n.val).trigMask.getLsbD 3 = true →
    (cap s.dev n.val).trigMask.getLsbD 4 = false → (cap s.dev n.val).trigEdge = bit falling →
    Yields (.trigInEdge falling at_) s fun t =>
      cap t n.val = { cap s.dev n.val with trig := some (3, at_, at_) } ∧ Only [.mem, .stack] s.dev t) ∧
  (∀ (s : State) (n : Fin 4) (k : Nat) (at_ point : Time), (cap s.dev n.val).state = .armed →
    (cap s.dev n.val).trig = some (k, at_, point) → point ≤ s.dev.timing.now →
    Yields (.blotterTriggerPoint n) s fun t =>
      (cap t n.val).state = .triggered ∧ (cap t n.val).trigKind = k ∧ (cap t n.val).trigAt = at_ ∧
      (cap t n.val).trigOffset = capWritten s.dev (cap s.dev n.val) ∧
      (cap t n.val).flags.getLsbD 0 = ((cap s.dev n.val).flags.getLsbD 0 ||
        decide (capWritten s.dev (cap s.dev n.val) < (cap s.dev n.val).preBytes)) ∧
      (∀ j, j ≠ n.val → cap t j = cap s.dev j) ∧ Only [.mem] s.dev t) ∧
  (∀ (s : State) (n : Fin 4) (x : CaptureIn), (cap s.dev n.val).state = .triggered →
    x.data.length = (cap s.dev n.val).trigOffset + (cap s.dev n.val).postBytes →
    Yields (.captureComplete n x) s fun t =>
      cap t n.val = { cap s.dev n.val with
        state := .done, length := x.data.length, data := x.data, t0 := x.t0, trig := none } ∧
      (∀ j, j ≠ n.val → cap t j = cap s.dev j) ∧ Only [.mem] s.dev t) ∧
  (∀ (s : State) (n : Fin 4), (cap s.dev n.val).state = .spilling → s.dev.boot.nand.present = true →
    Yields (.spillComplete n) s fun t =>
      cap t n.val = { cap s.dev n.val with state := .done } ∧
      (∃ id, Tab.get (fun _ => []) t.boot.nand.entries 3 = Tab.get (fun _ => []) s.dev.boot.nand.entries 3 ++
        [{ id, data := capBytes n.val (cap s.dev n.val), total := (capBytes n.val (cap s.dev n.val)).length }]) ∧
      Only [.mem, .boot, .fresh] s.dev t) ∧
  (∀ (s : State) (n : Fin 4) (k a e : Nat), (cap s.dev n.val).readout = some (k, a, e) → (ring s.dev k).enable = true →
    (ring s.dev k).kind = 2 → ringFull (ring s.dev k) = false →
    Yields (.captureReadoutEntry n) s fun t =>
      (cap t n.val).readout = (if a + 4096 < e then some (k, a + 4096, e) else none) ∧
      (ring t k).head = ((ring s.dev k).head + 1) % (ring s.dev k).entries ∧
      (∃ pad : List Byte, .dma ((ring s.dev k).base + (ring s.dev k).head * 4096)
        (slice (capBytes n.val (cap s.dev n.val)) a (min 4096 (e - a)) ++ pad) ∈ t.out) ∧
      Only [.mem, .host, .fresh] s.dev t)

/-- Loss of OHP_FS stops both ports and raises its fault, its return ends it; an OHP frame advances the cycle and sends
the slots of the cycle index; ZR alignment moves a receiver from CARRIER_LOCK to SUPERFRAME_LOCK and its loss back,
counted. Rests on 07_line_framing_and_defects R331 to R338; 07_line_framing_and_defects R297 to R310; 05_receive_path
R217 to R222, R895. The model's own choices in it: the buffers are served as in log 63. -/
def Obligations.OverheadPorts : Prop :=
  (∀ s : State, s.dev.ohpFs = true → Yields .ohpFsLoss s fun t =>
    t.ohpFs = false ∧ (source t 0x0361 0).cond = true ∧
    (∀ c, (t.line.get c).ohp = { (s.dev.line.get c).ohp with
      ext := false, ins := false, extBuf := [], extPad := 0, insBuf := [], insPad := 0, cycle := 0 }) ∧
    Only ([.ohpFs, .line] ++ Part.ofFault) s.dev t) ∧
  (∀ s : State, s.dev.ohpFs = false → Yields .ohpFsReturn s fun t =>
    t.ohpFs = true ∧ (source t 0x0361 0).cond = false ∧ Only [.ohpFs, .fault] s.dev t) ∧
  (∀ (s : State) (a b : OhpIn) (c : Carrier), s.dev.ohpFs = true → accepted s.dev (skey 0x0404 (carCode c) 0 0) = 1 →
    (s.dev.line.get c).ohp.ext = true → Yields (.ohpFrame a b) s fun t =>
      (t.line.get c).ohp.cycle = ((s.dev.line.get c).ohp.cycle + 1) % 113 ∧ (t.line.get c).ohp.ext = true ∧
      (∃ l : List OhFrame, .ohp c l ∈ t.out ∧ l.length = ohpSlots (s.dev.line.get c).ohp.cycle) ∧
      Only [.line, .fresh] s.dev t) ∧
  (∀ (s : State) (c : Carrier) (m : Nat), zr s.dev c = true → (s.dev.rx.get c).state = .carrierLock →
    Yields (.zrFrameAlignment c true m) s fun t =>
      (t.rx.get c).state = .superframeLock ∧ (t.rx.get c).zrLocked = true ∧
      (t.rx.get c).mapReported = (if feAuto s.dev c then m else (s.dev.rx.get c).mapReported) ∧
      t.rx.get c.other = s.dev.rx.get c.other) ∧
  (∀ (s : State) (c : Carrier) (m : Nat), zr s.dev c = true → (s.dev.rx.get c).state = .inService →
    Yields (.zrFrameAlignment c false m) s fun t =>
      (t.rx.get c).state = .carrierLock ∧ (t.rx.get c).zrLocked = false ∧
      (t.rx.get c).acqRetries = sat 16 ((s.dev.rx.get c).acqRetries + 1) ∧
      t.rx.get c.other = s.dev.rx.get c.other)

/-- A burst starts with the next message that may be sent while ostc_tx, TX_ON and the gap allow it and PLL-R does not
coast; a burst sent whole leaves the queue and is counted, a truncated one keeps its message; truncation ramps down
over 8 symbols and is counted. Rests on 10_supervisory_timing_channel R435 to R442; 10_supervisory_timing_channel R443
to R448; 18_clocks_resets_power R704 to R712. -/
def Obligations.OstcBursts : Prop :=
  (∀ (s : State) (c : Carrier) (m : Msg), (s.dev.ostc.get c).kept = false → pick s.dev c false (s.dev.ostc.get c).txq = some m →
    (s.dev.ostc.get c).burst = none → (s.dev.ostc.get c).gap = 0 → cset s.dev c 0x0700 0 = 1 →
    (s.dev.tx.get c).state = .on → s.dev.clock.pll ≠ .coasting → Yields (.ostcBurstStart c) s fun t =>
      ∃ b, (t.ostc.get c).burst = some b ∧ b.msg = (stampMsg c false m s.dev).1 ∧ b.total = burstSymbols b.msg ∧
        b.sent = 0 ∧ b.truncated = false ∧ (t.ostc.get c).txq = b.msg :: (s.dev.ostc.get c).txq.erase m ∧
        t.ostc.get c.other = s.dev.ostc.get c.other ∧ Only [.ostc, .kme] s.dev t) ∧
  (∀ (s : State) (c : Carrier) (b : Burst), (s.dev.ostc.get c).burst = some b → b.total ≤ b.sent → b.truncated = false →
    Yields (.ostcBurstEnd c) s fun t =>
      t.ostc.get c = { s.dev.ostc.get c with
        burst := none, gap := 32, txq := (s.dev.ostc.get c).txq.erase b.msg
        txBursts := wrap 32 ((s.dev.ostc.get c).txBursts + 1) } ∧ Only [.ostc] s.dev t) ∧
  (∀ (s : State) (c : Carrier) (b : Burst), (s.dev.ostc.get c).burst = some b → b.total ≤ b.sent → b.truncated = true →
    Yields (.ostcBurstEnd c) s fun t =>
      t.ostc.get c = { s.dev.ostc.get c with burst := none, gap := 32, kept := true } ∧ Only [.ostc] s.dev t) ∧
  (∀ (s : State) (c : Carrier) (b : Burst), (s.dev.ostc.get c).burst = some b → b.truncated = false →
    b.sent + 8 < b.total → (s.dev.tx.get c).state ≠ .on → Yields (.ostcBurstTruncated c) s fun t =>
      t.ostc.get c = { s.dev.ostc.get c with
        burst := some { b with truncated := true, total := b.sent + 8 }
        txTrunc := wrap 32 ((s.dev.ostc.get c).txTrunc + 1) } ∧ Only [.ostc] s.dev t)

/-- Trigger, qualification, their timeouts, a false start, the sync word and the end of reception move the OSTC receiver
and its counters as Table 10-4 and the rules give; a good untagged management message for all members joins the
receive queue while ostc_auth is 0. Rests on 10_supervisory_timing_channel R449 to R456; 10_supervisory_timing_channel
R457; 10_supervisory_timing_channel R443 to R448. The model's own choices in it: reception is read as in log 70. -/
def Obligations.OstcReception : Prop :=
  (∀ (s : State) (c : Carrier), ostcRuns s.dev c = true → (s.dev.ostc.get c).rx = .search →
    Yields (.ostcTrigger c) s fun t => t.ostc.get c = { s.dev.ostc.get c with
      rx := .triggered, triggers := wrap 32 ((s.dev.ostc.get c).triggers + 1) } ∧ Only [.ostc] s.dev t) ∧
  (∀ (s : State) (c : Carrier) (q : Int) (n : Nat), ostcRuns s.dev c = true → (s.dev.ostc.get c).rx = .triggered →
    Yields (.ostcQualify c q n) s fun t => t.ostc.get c = { s.dev.ostc.get c with
      rx := .qualified, levelQ := q, toneSnr := min n 6000 } ∧ Only [.ostc] s.dev t) ∧
  (∀ (s : State) (c : Carrier), (s.dev.ostc.get c).rx = .triggered → Yields (.ostcQualTimeout c) s fun t =>
    (t.ostc.get c).rx = .search ∧ (t.ostc.get c).qualFail = wrap 32 ((s.dev.ostc.get c).qualFail + 1) ∧
    Only [.ostc] s.dev t) ∧
  (∀ (s : State) (c : Carrier), (s.dev.ostc.get c).rx = .qualified → Yields (.ostcQualTimeout c) s fun t =>
    (t.ostc.get c).rx = .search ∧ (t.ostc.get c).syncMiss = wrap 32 ((s.dev.ostc.get c).syncMiss + 1) ∧
    Only [.ostc] s.dev t) ∧
  (∀ (s : State) (c : Carrier), ostcRuns s.dev c = true →
    ((s.dev.ostc.get c).rx = .qualified ∨ (s.dev.ostc.get c).rx = .receiving) → Yields (.ostcFalseStart c) s fun t =>
      t.ostc.get c = { s.dev.ostc.get c with
        rx := .triggered, mark := none, falseStart := wrap 32 ((s.dev.ostc.get c).falseStart + 1) } ∧
      Only [.ostc] s.dev t) ∧
  (∀ (s : State) (c : Carrier) (at_ : Time), ostcRuns s.dev c = true → (s.dev.ostc.get c).rx = .qualified →
    Yields (.ostcSyncFound c at_) s fun t => t.ostc.get c = { s.dev.ostc.get c with
      rx := .receiving, mark := some at_ } ∧ Only [.ostc] s.dev t) ∧
  (∀ (s : State) (c : Carrier), ostcRuns s.dev c = true → (s.dev.ostc.get c).rx = .receiving →
    Yields (.ostcBurstReceived c .ldpcFail) s fun t =>
      (t.ostc.get c).rx = .search ∧ (t.ostc.get c).ldpcFail = wrap 32 ((s.dev.ostc.get c).ldpcFail + 1) ∧
      (t.ostc.get c).rxq = (s.dev.ostc.get c).rxq ∧ Only [.ostc] s.dev t) ∧
  (∀ (s : State) (c : Carrier), ostcRuns s.dev c = true → (s.dev.ostc.get c).rx = .receiving →
    Yields (.ostcBurstReceived c .crcFail) s fun t =>
      (t.ostc.get c).rx = .search ∧ (t.ostc.get c).crcFail = wrap 32 ((s.dev.ostc.get c).crcFail + 1) ∧
      (t.ostc.get c).rxq = (s.dev.ostc.get c).rxq ∧ Only [.ostc] s.dev t) ∧
  (∀ (s : State) (c : Carrier) (m : Msg), ostcRuns s.dev c = true → (s.dev.ostc.get c).rx = .receiving →
    m.tagged = false → m.type = 0 → m.dest = 0xFF → cset s.dev c 0x0700 8 = 0 → (s.dev.ostc.get c).rxq.length < 16 →
    Yields (.ostcBurstReceived c (.ok m true)) s fun t =>
      (t.ostc.get c).rx = .search ∧ (t.ostc.get c).rxOk = wrap 32 ((s.dev.ostc.get c).rxOk + 1) ∧
      (t.ostc.get c).rxq = (s.dev.ostc.get c).rxq ++ [{ msg := m, path := 0, toneSnr := (s.dev.ostc.get c).toneSnr,
                                                        mark := (s.dev.ostc.get c).mark.getD 0 }] ∧
      Only [.ostc] s.dev t)

/-- A stale time-transfer candidate and a lost activity make a candidate invalid and FAILED unless DISABLED or LOOPED, and
the DPLL holds if it was selected; a qualified or restored candidate becomes AVAILABLE; an excluded one that agrees
for 10 slow ticks qualifies again; a level not renewed for 5 s reads QL_NONE. Each change has its event and no other
candidate moves. Rests on 11_reference_selection_and_holdover R462 to R470; 11_reference_selection_and_holdover R471
to R473; 11_reference_selection_and_holdover R474 to R481. The model's own choices in it: a candidate fails at
detection (log 36). -/
def Obligations.ReferencesMove : Prop :=
  (∀ (s : State) (c : Carrier) (at_ : Time), (s.dev.ttx.get c).lastAt = some at_ → at_ + 5 * SEC ≤ s.dev.timing.now →
    Yields (.ttxCandidateStale c) s fun t =>
      (cand t (11 + c.num)).valid = false ∧ (s.dev.timing.selected = some (11 + c.num) → t.timing.stopped = true) ∧
      ((cand s.dev (11 + c.num)).state ≠ .disabled → (cand s.dev (11 + c.num)).state ≠ .looped → (cand t (11 + c.num)).state = .failed) ∧
      ((cand s.dev (11 + c.num)).state = .disabled ∨ (cand s.dev (11 + c.num)).state = .looped → (cand t (11 + c.num)).state = (cand s.dev (11 + c.num)).state) ∧
      ((cand s.dev (11 + c.num)).state ≠ .disabled → (cand s.dev (11 + c.num)).state ≠ .looped → (cand s.dev (11 + c.num)).state ≠ .failed →
        Raised 0x0801 (11 + c.num) 0 (le 1 (cand s.dev (11 + c.num)).state.code ++ le 1 CandState.failed.code ++ le 1 1) s.dev t) ∧
      (∀ j, j ≠ (11 + c.num) → cand t j = cand s.dev j) ∧ t.timing.dpll = s.dev.timing.dpll ∧ Only [.timing, .evq] s.dev t) ∧
  (∀ (s : State) (n : Fin 13), Yields (.candidateActivityLoss n) s fun t =>
      (cand t n.val).valid = false ∧ (s.dev.timing.selected = some n.val → t.timing.stopped = true) ∧
      ((cand s.dev n.val).state ≠ .disabled → (cand s.dev n.val).state ≠ .looped → (cand t n.val).state = .failed) ∧
      ((cand s.dev n.val).state = .disabled ∨ (cand s.dev n.val).state = .looped → (cand t n.val).state = (cand s.dev n.val).state) ∧
      ((cand s.dev n.val).state ≠ .disabled → (cand s.dev n.val).state ≠ .looped → (cand s.dev n.val).state ≠ .failed →
        Raised 0x0801 n.val 0 (le 1 (cand s.dev n.val).state.code ++ le 1 CandState.failed.code ++ le 1 1) s.dev t) ∧
      (∀ j, j ≠ n.val → cand t j = cand s.dev j) ∧ t.timing.dpll = s.dev.timing.dpll ∧ Only [.timing, .evq] s.dev t) ∧
  (∀ (s : State) (n : Fin 13), (cand s.dev n.val).valid = true → (cand s.dev n.val).state = .qualifying →
    (cand s.dev n.val).left ≤ 1 → Yields (.candidateQualified n) s fun t =>
      (cand t n.val).state = .available ∧ (∀ j, j ≠ n.val → cand t j = cand s.dev j) ∧
      Raised 0x0801 n.val 0 (le 1 CandState.qualifying.code ++ le 1 CandState.available.code ++ le 1 2) s.dev t ∧
      Only [.timing, .evq] s.dev t) ∧
  (∀ (s : State) (n : Fin 13), (cand s.dev n.val).valid = true → (cand s.dev n.val).state = .waitRestore →
    (cand s.dev n.val).left = 0 → Yields (.candidateQualified n) s fun t =>
      (cand t n.val).state = .available ∧ (∀ j, j ≠ n.val → cand t j = cand s.dev j) ∧
      Raised 0x0801 n.val 0 (le 1 CandState.waitRestore.code ++ le 1 CandState.available.code ++ le 1 2) s.dev t ∧
      Only [.timing, .evq] s.dev t) ∧
  (∀ (s : State) (n : Fin 13), (cand s.dev n.val).state = .excluded → 10 ≤ (cand s.dev n.val).agree →
    Yields (.candidateReentry n) s fun t =>
      (cand t n.val).state = .qualifying ∧ (cand t n.val).left = 1000 * selSet s.dev 2 + 1 ∧
      (∀ j, j ≠ n.val → cand t j = cand s.dev j) ∧
      Raised 0x0801 n.val 0 (le 1 CandState.excluded.code ++ le 1 CandState.qualifying.code ++ le 1 3) s.dev t ∧
      Only [.timing, .evq] s.dev t) ∧
  (∀ (s : State) (n : Fin 13) (at_ : Time), (cand s.dev n.val).qlAt = some at_ → at_ + 5 * SEC ≤ s.dev.timing.now →
    Yields (.receivedQlStale n) s fun t =>
      cand t n.val = { cand s.dev n.val with qlRx := 14, qlAt := none } ∧
      (∀ j, j ≠ n.val → cand t j = cand s.dev j) ∧ Only [.timing] s.dev t)

/-- DPLL_LOCK_TIME locks an acquiring DPLL after lock_time below the threshold; FAST_LOCK_DWELL narrows the bandwidth one
step; OSC_READY rising and falling move the local oscillator's selector and its fault, and in holdover the DPLL
becomes LOST; a temperature older than 10 s is dropped with its event. Rests on 11_reference_selection_and_holdover
R482 to R491; 11_reference_selection_and_holdover R492 to R497; 11_reference_selection_and_holdover R504 to R512. The
model's own choices in it: OSC_READY is read as in log 71. -/
def Obligations.DpllAndOscillator : Prop :=
  (∀ s : State, s.dev.timing.dpll = .acquiring → belowLock s.dev = true → dpllSet s.dev 8 < s.dev.timing.lockRun →
    Yields .dpllLockTime s fun t =>
      t.timing.dpll = .locked ∧ t.timing.now = s.dev.timing.now ∧ t.timing.selected = s.dev.timing.selected ∧
      Raised 0x0803 0 0 (le 1 DpllState.acquiring.code ++ le 1 DpllState.locked.code ++ le 1 1) s.dev t ∧
      Only [.timing, .evq] s.dev t) ∧
  (∀ s : State, s.dev.timing.dwell = some 0 → belowLock s.dev = true → bwInUse s.dev < s.dev.timing.bwUsed - 1 →
    Yields .fastLockDwell s fun t =>
      t.timing = { s.dev.timing with bwUsed := s.dev.timing.bwUsed - 1, dwell := dwellOf (s.dev.timing.bwUsed - 1) } ∧
      Only [.timing] s.dev t) ∧
  (∀ s : State, Yields .oscReadyRise s fun t =>
      t.timing.oscReady = true ∧ (source t 0x0804 0).cond = false ∧
      (sel t 2).target = (if (sel s.dev 2).source = 1 then none else some 1) ∧
      Only [.timing, .clock, .fault] s.dev t) ∧
  (∀ s : State, s.dev.timing.oscReady = true → s.dev.timing.dpll ≠ .holdover → Yields .oscReadyFall s fun t =>
      t.timing = { s.dev.timing with oscReady := false } ∧ (source t 0x0804 0).cond = true ∧
      (sel t 2).target = (if (sel s.dev 2).source = 0 then none else some 0) ∧
      Only (.timing :: Part.ofFault) s.dev t) ∧
  (∀ s : State, s.dev.timing.oscReady = true → s.dev.timing.dpll = .holdover → Yields .oscReadyFall s fun t =>
      t.timing.oscReady = false ∧ t.timing.dpll = .lost ∧ (source t 0x0804 0).cond = true ∧
      Raised 0x0803 0 0 (le 1 DpllState.holdover.code ++ le 1 DpllState.lost.code ++ le 1 3) s.dev t) ∧
  (∀ s : State, s.dev.timing.oscTemp.isSome = true → s.dev.timing.oscTempAt + 10 * SEC ≤ s.dev.timing.now →
    Yields .oscTempStale s fun t =>
      t.timing = { s.dev.timing with oscTemp := none } ∧
      Raised 0x0803 0 0 (le 1 s.dev.timing.dpll.code ++ le 1 s.dev.timing.dpll.code ++ le 1 4) s.dev t ∧
      Only [.timing, .evq] s.dev t)

/-- TIME_SET_APPLY at the second boundary after TTX_TIME_SET sets the seconds and keeps the fraction; a fit takes its
model; a snapshot goes to the archive, a failed one raises SILLAGE_SAVE_FAIL; a restore takes a snapshot at most
86,400 s old and else nothing. Rests on 11_reference_selection_and_holdover R492 to R497;
12_time_transfer_and_delay_calibration R513 to R515. The model's own choices in it: the age of a snapshot and the
boundary are read as in log 73. -/
def Obligations.TimeAndSillage : Prop :=
  (∀ (s : State) (sec n : Nat), s.dev.timing.timeSet = some (sec, n) → 2 ≤ n → s.dev.timing.heldSnap = none →
    Yields .timeSetApply s fun t =>
      t.timing = { s.dev.timing with
        now := sec * SEC + s.dev.timing.now % SEC, timeSet := none, secondsSet := true } ∧
      Only [.timing] s.dev t) ∧
  (∀ (s : State) (m : SillageModel), s.dev.timing.fitDue = true → Yields (.sillageFit m) s fun t =>
      t.timing = { s.dev.timing with fitDue := false, model := m, fitAge := 0 } ∧ Only [.timing] s.dev t) ∧
  (∀ s : State, s.dev.timing.snapDue = true → s.dev.boot.nand.present = true → Yields (.sillageSnapshot true) s fun t =>
      (∃ x : SillageSnap, x.recs = s.dev.timing.sillage ∧ x.model = s.dev.timing.model ∧
        t.boot.nand.snaps = (x :: s.dev.boot.nand.snaps).take 16) ∧
      t.clock.snapAge = some 0 ∧ t.timing = { s.dev.timing with snapDue := false } ∧
      Only [.timing, .boot, .clock] s.dev t) ∧
  (∀ s : State, s.dev.timing.snapDue = true → Yields (.sillageSnapshot false) s fun t =>
      Faulted 0x0805 0 s.dev t ∧ t.boot = s.dev.boot ∧ t.timing = { s.dev.timing with snapDue := false }) ∧
  (∀ (s : State) (x : SillageSnap) (r : List SillageSnap) (a : Nat), s.dev.timing.restoreDue = true →
    s.dev.boot.nand.snaps = x :: r → s.dev.clock.snapAge = some a → a ≤ 86400 → Yields .sillageRestore s fun t =>
      t.timing.sillage = (s.dev.timing.sillage ++ x.recs).take 86400 ∧ t.timing.model = x.model ∧
      t.timing.restoreDue = false ∧ t.boot = s.dev.boot) ∧
  (∀ (s : State) (x : SillageSnap) (r : List SillageSnap) (a : Nat), s.dev.timing.restoreDue = true →
    s.dev.boot.nand.snaps = x :: r → s.dev.clock.snapAge = some a → 86400 < a → Yields .sillageRestore s fun t =>
      t.timing.sillage = s.dev.timing.sillage ∧ t.timing.model = s.dev.timing.model ∧ Only [.timing] s.dev t)

/-- A good untagged record is kept and joins the exchange, one of an invalid NSO is counted; an exchange takes its records
and chooses the path; a PTP event frame of a client's first port gives a PTP_TS record, or an egress stamp on the
wire. Rests on 12_time_transfer_and_delay_calibration R527 to R531; 12_time_transfer_and_delay_calibration R532 to
R538; 12_time_transfer_and_delay_calibration R540 to R543. The model's own choices in it: records are read as in log
72 and PTP frames as in log 74. -/
def Obligations.TimeTransferRecords : Prop :=
  (∀ (s : State) (c : Carrier) (x : TtxIn), x.ostc = false → x.nsoValid = true → (s.dev.rx.get c).inStep = true →
    x.record.tagged = false → cset s.dev c 0x0900 4 = 0 → Yields (.ttxRecordReceived c x) s fun t =>
      (t.ttx.get c).far = some x.record ∧ (t.ttx.get c).recs = (s.dev.ttx.get c).recs ++ [x.record] ∧
      (t.ttx.get c).recBad = (s.dev.ttx.get c).recBad ∧ t.ttx.get c.other = s.dev.ttx.get c.other) ∧
  (∀ (s : State) (c : Carrier) (x : TtxIn), x.ostc = false → x.nsoValid = false →
    Yields (.ttxRecordReceived c x) s fun t =>
      t.ttx.get c = { s.dev.ttx.get c with recBad := wrap 32 ((s.dev.ttx.get c).recBad + 1) } ∧
      t.ttx.get c.other = s.dev.ttx.get c.other ∧ Only [.ttx] s.dev t) ∧
  (∀ (s : State) (c : Carrier), Yields (.ttxExchange c) s fun t =>
      (t.ttx.get c).recs = [] ∧ (t.ttx.get c).path = pathOf (exchangeSettings c s.dev) c ∧
      t.ttx.get c.other = s.dev.ttx.get c.other ∧ t.timing = s.dev.timing) ∧
  (∀ (s : State) (x : PtpIn), ethFirst s.dev x.port = true → x.messageType ≤ 3 →
    tb (dsetN s.dev 0x0905 x.port 3) x.encap = true → dset s.dev 0x0905 x.port 4 = 0 →
    dsetN s.dev 0x0905 x.port (if x.egress then 2 else 1) = 1 → Yields (.ptpEventFrame x) s fun t =>
      t.evq = s.dev.evq ++ [⟨0x0904, x.port, 0, s.dev.stack.stackId, x.at_,
        fit 12 (le 1 (bit x.egress) ++ le 1 x.messageType ++ le 1 x.domain ++ zeros 1 ++ le 2 x.sequence ++
          le 4 x.identity)⟩] ∧ Only [.evq] s.dev t) ∧
  (∀ (s : State) (x : PtpIn), ethFirst s.dev x.port = true → x.messageType ≤ 3 →
    tb (dsetN s.dev 0x0905 x.port 3) x.encap = true → dset s.dev 0x0905 x.port 4 = 0 → x.egress = true →
    dsetN s.dev 0x0905 x.port 2 = 3 → Yields (.ptpEventFrame x) s fun t =>
      t.out = [.ptp x.port 0 x.at_] ∧ Only [] s.dev t)

/-- A reconfiguration takes the new sizes of pools 0 to 3 with its event and keeps queues and captures; scrub segments
start and end, the 8,192nd ending the pass; a pass open for 72 h is reported; line errors are counted on their tower,
an uncorrectable one raising DRAM_UE; a copied row is retired with its fault; a change of refresh rate is reported.
Rests on 14_buffer_memory_and_latency_equaliser R582 to R586; 14_buffer_memory_and_latency_equaliser R592 to R598. The
model's own choices in it: retirement order and the pass timer are read as in logs 76 and 77. -/
def Obligations.BufferMemoryUpkeep : Prop :=
  (∀ (s : State) (x : Reconfig), s.dev.mem.reconfig = some x → s.dev.accord.loadHeld = none →
    (∀ q, q ∈ s.dev.mem.queues → q.2.held = none) → (∀ i, i < 4 → (cap s.dev i).held = none) →
    Yields .poolReconfigComplete s fun t =>
      t.mem.reconfig = none ∧ (∀ k, k < 4 → poolSize t k = x.sizes.getD k 0) ∧ poolSize t 4 = poolSize s.dev 4 ∧
      Raised 0x0B01 0 0 (x.sizes.flatMap fun n => le 2 (n / 64)) s.dev t ∧ t.mem.queues = s.dev.mem.queues ∧
      t.mem.caps = s.dev.mem.caps ∧ t.mem.towers = s.dev.mem.towers ∧ Only [.mem, .evq] s.dev t) ∧
  (∀ s : State, dramUp s.dev = true → s.dev.mem.scrubOn = true → s.dev.mem.scrubOff = false → s.dev.mem.scrubBusy = false →
    Yields (.scrubSegment false) s fun t =>
      t.mem = { s.dev.mem with scrubBusy := true, scrubStart := some (s.dev.mem.scrubStart.getD s.dev.timing.now) } ∧
      Only [.mem] s.dev t) ∧
  (∀ s : State, s.dev.mem.scrubBusy = true → s.dev.mem.scrubOff = false →
    Yields (.scrubSegment true) s fun t =>
      t.mem.scrubBusy = false ∧ t.mem.scrubNext = (s.dev.mem.scrubNext + 1) % 8192 ∧
      (s.dev.mem.scrubNext = 8191 → t.mem.scrubStart = none ∧ t.mem.scrubLate = false) ∧
      (s.dev.mem.scrubNext ≠ 8191 → t.mem.scrubStart = s.dev.mem.scrubStart ∧ t.mem.scrubLate = s.dev.mem.scrubLate) ∧
      t.mem.scrubOn = s.dev.mem.scrubOn ∧ t.mem.towers = s.dev.mem.towers ∧ t.mem.queues = s.dev.mem.queues ∧
      Only [.mem] s.dev t) ∧
  (∀ (s : State) (b : Time), s.dev.mem.scrubStart = some b → s.dev.mem.scrubLate = false →
    b + 72 * 3600 * SEC ≤ s.dev.timing.now → Yields .scrubLate s fun t =>
      t.mem.scrubLate = true ∧ t.mem.scrubStart = some b ∧ Faulted 0x0B06 0 s.dev t ∧ Only Part.ofFault s.dev t) ∧
  (∀ (s : State) (x : DramIn), x.ue = true → x.holder = .none → Yields (.dramLineError x) s fun t =>
      (tower t x.tower.val).ue = sat 32 ((tower s.dev x.tower.val).ue + 1) ∧
      (tower t x.tower.val).ce = (tower s.dev x.tower.val).ce ∧ t.mem.queues = s.dev.mem.queues ∧
      (∀ j, j ≠ x.tower.val → tower t j = tower s.dev j) ∧ Faulted 0x0B02 x.tower.val s.dev t ∧
      Only Part.ofFault s.dev t) ∧
  (∀ (s : State) (x : DramIn), x.ue = false → x.scrub = false → Yields (.dramLineError x) s fun t =>
      tower t x.tower.val = { tower s.dev x.tower.val with
        ce := sat 32 ((tower s.dev x.tower.val).ce + 1), ceEpoch := (tower s.dev x.tower.val).ceEpoch + 1 } ∧
      (∀ j, j ≠ x.tower.val → tower t j = tower s.dev j) ∧ t.mem.queues = s.dev.mem.queues ∧ Only [.mem] s.dev t) ∧
  (∀ (s : State) (w : Fin 4) (bank row : Nat) (rest : List (Nat × Nat)), (tower s.dev w.val).copying = (bank, row) :: rest →
    Yields (.rowRetireComplete w) s fun t =>
      (tower t w.val).copying = rest ∧ (tower t w.val).rows = sat 16 ((tower s.dev w.val).rows + 1) ∧
      (tower t w.val).pages = (tower s.dev w.val).pages ∧ (∀ j, j ≠ w.val → tower t j = tower s.dev j) ∧
      Faulted 0x0B03 w.val s.dev t ∧ Only Part.ofFault s.dev t) ∧
  (∀ (s : State) (w : Fin 4) (fast : Bool), (tower s.dev w.val).fastRefresh ≠ fast →
    Yields (.dramRefreshRate w fast) s fun t =>
      tower t w.val = { tower s.dev w.val with fastRefresh := fast } ∧ (∀ j, j ≠ w.val → tower t j = tower s.dev j) ∧
      Raised 0x0B02 w.val 0 (le 1 (if fast then 2 else 1)) s.dev t ∧ Only [.mem, .evq] s.dev t)

/-- A frame of a DRAINING queue is dropped and counted; a frame that is neither early nor late, within its bandwidth and
quota, is stored with its release time; an early frame is dropped and counted; at a release time the port sends the
head of least release time, counts it and occupies the port for its sending time; an empty DRAINING queue becomes
DISABLED. Rests on 14_buffer_memory_and_latency_equaliser R599 to R615; 15_latency_and_load R629 to R638. The model's
own choices in it: drop order, lateness and the serial number are read as in logs 78 and 79. -/
def Obligations.LatencyEqualiserFrames : Prop :=
  (∀ (s : State) (x : LeqIn) (k : ClientPlan), leqClient s.dev x.port = some k →
    (queue s.dev (leqQueueOf s.dev x.port x.bytes)).state = .draining → Yields (.leqFrameArrival x) s fun t =>
      (let n := leqQueueOf s.dev x.port x.bytes
       queue t n = { queue s.dev n with dropDisabled := sat 32 ((queue s.dev n).dropDisabled + 1) } ∧
       ∀ m, m ≠ n → queue t m = queue s.dev m) ∧ Only [.mem] s.dev t) ∧
  (∀ (s : State) (x : LeqIn) (k : ClientPlan) (n : Nat) (at_ : Int), leqClient s.dev x.port = some k →
    n = leqQueueOf s.dev x.port x.bytes → (queue s.dev n).state = .enabled →
    (embedded (qset s.dev n 3) x s.dev).1 = some at_ → at_ ≤ (x.arrival : Int) + (qset s.dev n 16 * NS : Nat) →
    (x.arrival : Int) ≤ at_ + (qset s.dev n 4 * NS : Nat) + (2 * NS : Nat) →
    (leqPort s.dev k.lane).tickBytes + bytesInTick s.dev k x ≤ leqAllowed s.dev k →
    pagesFrom none ((queue s.dev n).frames ++
      [{ arrival := x.arrival, release := at_ + (qset s.dev n 4 * NS : Nat), bytes := x.bytes, port := k.lane
         pos := (queue s.dev n).wr }]) ≤ qset s.dev n 8 →
    Yields (.leqFrameArrival x) s fun t =>
      (∃ serial, queue t n = { queue s.dev n with
        wr := (queue s.dev n).wr + storedSize x.bytes.length
        frames := (queue s.dev n).frames ++
          [{ arrival := x.arrival, release := at_ + (qset s.dev n 4 * NS : Nat), bytes := x.bytes, port := k.lane
             serial, pos := (queue s.dev n).wr }] }) ∧
      (∀ m, m ≠ n → queue t m = queue s.dev m) ∧ Only [.mem, .fresh] s.dev t) ∧
  (∀ (s : State) (x : LeqIn) (k : ClientPlan) (n : Nat) (at_ : Int), leqClient s.dev x.port = some k →
    n = leqQueueOf s.dev x.port x.bytes → (queue s.dev n).state = .enabled →
    (embedded (qset s.dev n 3) x s.dev).1 = some at_ → (x.arrival : Int) + (qset s.dev n 16 * NS : Nat) < at_ →
    Yields (.leqFrameArrival x) s fun t =>
      queue t n = { queue s.dev n with dropEarly := sat 32 ((queue s.dev n).dropEarly + 1) } ∧
      (∀ m, m ≠ n → queue t m = queue s.dev m) ∧ Only [.mem, .fresh] s.dev t) ∧
  (∀ (s : State) (p : Fin 32) (k : ClientPlan) (n : Nat) (f : LeqFrame) (start : Time), leqClient s.dev p.val = some k →
    leqPortDown s.dev k = false → (∀ x, x ∈ portHeads s.dev k.lane → qset s.dev x.1 12 ≠ 1) →
    (leqPort s.dev k.lane).bypass = [] → (s.dev.mem.queues.map (·.1)).Pairwise (· < ·) → nextFrame s.dev k.lane = some (n, f, start) →
    start < s.dev.timing.now + US → Yields (.leqFrameRelease p) s fun t =>
      t.out = [.frame k.lane start f.bytes] ∧ (queue t n).frames = (queue s.dev n).frames.drop 1 ∧
      (queue t n).released = sat 32 ((queue s.dev n).released + 1) ∧ (queue t n).lastLeft = start ∧
      (leqPort t k.lane).busyUntil = start + sendTime k f.bytes.length ∧
      (∀ m, m ≠ n → queue t m = queue s.dev m) ∧ Only [.mem] s.dev t) ∧
  (∀ (s : State) (q : Fin 32768), (queue s.dev q.val).state = .draining → (queue s.dev q.val).frames = [] →
    Yields (.leqDrainComplete q) s fun t =>
      queue t q.val = { queue s.dev q.val with state := .disabled } ∧ (∀ m, m ≠ q.val → queue t m = queue s.dev m) ∧
      Only [.mem] s.dev t)

/-- At an output instant a running channel takes its sample into its record; a full or flushed record is kept among the
last 4 of a channel without a ring and counted, and one for a disabled ring is counted as dropped. No other channel
changes. Rests on 13_line_sensing_chain R575, R576; 13_line_sensing_chain R560 to R564; 13_line_sensing_chain R556 to
R559. The model's own choices in it: filters and windows are read as in log 75; a kept record that is replaced is not
counted (log 75). -/
def Obligations.SensingEvents : Prop :=
  (∀ (s : State) (ch : Fin 64) (sec k : Nat), (sense s.dev ch.val).running = true → k < senseSet s.dev ch.val 12 →
    senseSet s.dev ch.val 14 ≠ 0 → sec % senseSet s.dev ch.val 14 = 0 →
    (∀ u, (sense s.dev ch.val).lastOut = some u →
      u < sec * SEC + k * senseSet s.dev ch.val 14 * SEC / senseSet s.dev ch.val 12) →
    Yields (.senseOutputSample ch sec k) s fun t =>
      (sense t ch.val).lastOut = some (sec * SEC + k * senseSet s.dev ch.val 14 * SEC / senseSet s.dev ch.val 12) ∧
      (sense t ch.val).overrun = false ∧ (∃ r, (sense t ch.val).cur = some r ∧ r.samples ≠ []) ∧
      (∀ j, j ≠ ch.val → sense t j = sense s.dev j)) ∧
  (∀ (s : State) (ch : Fin 64) (r : SenseRec), (sense s.dev ch.val).cur = some r →
    (48 ≤ r.samples.length ∨ (sense s.dev ch.val).left = some 0) → senseRing s.dev ch.val = none →
    Yields (.senseRecordEmit ch) s fun t =>
      sense t ch.val = { sense s.dev ch.val with
        cur := none, left := none, eventInRec := false
        kept := if (sense s.dev ch.val).kept.length < 4 then (sense s.dev ch.val).kept ++ [r]
                else (sense s.dev ch.val).kept.drop 1 ++ [r]
        delivered := sat 32 ((sense s.dev ch.val).delivered + 1) } ∧
      (∀ j, j ≠ ch.val → sense t j = sense s.dev j) ∧ Only [.sense] s.dev t) ∧
  (∀ (s : State) (ch : Fin 64) (r : SenseRec) (k : Nat), (sense s.dev ch.val).cur = some r →
    (48 ≤ r.samples.length ∨ (sense s.dev ch.val).left = some 0) → senseRing s.dev ch.val = some k →
    (ring s.dev k).enable = false → Yields (.senseRecordEmit ch) s fun t =>
      (sense t ch.val).cur = none ∧ (sense t ch.val).drop = sat 32 ((sense s.dev ch.val).drop + 1) ∧
      (sense t ch.val).kept = (sense s.dev ch.val).kept ∧ (∀ j, j ≠ ch.val → sense t j = sense s.dev j) ∧
      Only [.sense] s.dev t)

/-- A spare whose trims are in range becomes SPARE_READY at age 0, one out of range FAILED with its fault; foreground
calibration ends and resets the age of active elements; a self-test that finds every DAC on its own ADC reports result
0 and its deferred end, one that misses a DAC reports 2 and no map. Rests on 03_converters_and_trim R120 to R124;
03_converters_and_trim R104 to R107; 03_converters_and_trim R125 to R135; 03_converters_and_trim R136 to R140. The
model's own choices in it: order and results are read as in logs 52 and 54. -/
def Obligations.ConverterCalibration : Prop :=
  (∀ (s : State) (c : Carrier) (k : Fin 4) (n : Fin 72) (offset gain : Int) (skew : Nat),
    1000 ≤ (convOf s.dev c k.val).calTicks →
    ((sliceAt s.dev c k.val n.val).state = .spareReady ∨ (sliceAt s.dev c k.val n.val).state = .spareCalibrating) →
    -64 ≤ offset → offset ≤ 63 → -128 ≤ gain → gain ≤ 127 → skew ≤ 1023 →
    Yields (.spareCalibrated c k n offset gain skew) s fun t =>
      sliceAt t c k.val n.val = { sliceAt s.dev c k.val n.val with
        offset, gain, skew, state := .spareReady, calAge := some 0 } ∧
      (∀ m, m ≠ n.val → sliceAt t c k.val m = sliceAt s.dev c k.val m) ∧ (convOf t c k.val).calTicks = 0 ∧
      t.conv.get c.other = s.dev.conv.get c.other ∧ Only (.conv :: Part.ofFault) s.dev t) ∧
  (∀ (s : State) (c : Carrier) (k : Fin 4) (n : Fin 72) (offset gain : Int) (skew : Nat),
    1000 ≤ (convOf s.dev c k.val).calTicks → (sliceAt s.dev c k.val n.val).failCause = 0 →
    ((sliceAt s.dev c k.val n.val).state = .spareReady ∨ (sliceAt s.dev c k.val n.val).state = .spareCalibrating) →
    (offset < -64 ∨ 63 < offset ∨ gain < -128 ∨ 127 < gain ∨ 1023 < skew) →
    Yields (.spareCalibrated c k n offset gain skew) s fun t =>
      sliceAt t c k.val n.val = { sliceAt s.dev c k.val n.val with failCause := 1, state := .failed } ∧
      (∀ m, m ≠ n.val → sliceAt t c k.val m = sliceAt s.dev c k.val m) ∧ Faulted 0x0305 c.num s.dev t ∧
      t.conv.get c.other = s.dev.conv.get c.other ∧ Only (.conv :: Part.ofFault) s.dev t) ∧
  (∀ (s : State) (c : Carrier), (s.dev.conv.get c).loopRunning = true → (s.dev.conv.get c).fgDone = false →
    Yields (.foregroundCalComplete c [] []) s fun t =>
      (t.conv.get c).fgDone = true ∧
      (∀ k n, k < 8 → n < (if k < 4 then 72 else 4) → (sliceAt s.dev c k n).state = .active →
        sliceAt t c k n = { sliceAt s.dev c k n with calAge := some 0 }) ∧
      t.conv.get c.other = s.dev.conv.get c.other ∧ Only (.conv :: Part.ofFault) s.dev t) ∧
  (∀ (s : State) (c : Carrier) (h : Held), (s.dev.conv.get c).selftest = some h →
    ⟨h.req.mb.val, h.op, h.req.seq.toNat⟩ ∈ s.dev.host.pendCmds →
    Yields (.selftestComplete c [some (0, false), some (1, false), some (2, false), some (3, false)]) s fun t =>
      t.conv.get c = { s.dev.conv.get c with selftest := none, lastMap := [0, 1, 2, 3], selfResult := some 0 } ∧
      Raised 0x0001 h.req.mb.val 0
        (le 1 h.req.mb.val ++ le 1 Status.ok.code ++ le 2 h.op ++ le 2 h.req.seq.toNat ++ [0, 1, 2, 3, 0]) s.dev t ∧
      t.conv.get c.other = s.dev.conv.get c.other ∧ Only (.conv :: .host :: .evq :: Part.ofFault) s.dev t) ∧
  (∀ (s : State) (c : Carrier) (h : Held) (found : List (Option (Nat × Bool))) (a : Nat),
    (s.dev.conv.get c).selftest = some h → a < 4 → (∀ q, some q ∈ found.take 4 → q.1 ≠ a) →
    Yields (.selftestComplete c found) s fun t =>
      t.conv.get c = { s.dev.conv.get c with selftest := none, lastMap := [0, 0, 0, 0], selfResult := some 2 } ∧
      t.conv.get c.other = s.dev.conv.get c.other ∧ Only (.conv :: .host :: .evq :: Part.ofFault) s.dev t)

/-- A transmit superframe counts, stamps and sends one 512-byte overhead with its count and CRC; a received one advances
count and time and a fourth missed sync falls to CARRIER_LOCK; a valid overhead with the expected count brings the
count in step and takes the agreement record, an invalid one is discarded and counted; an OTUC frame advances the
frame number and feeds the extraction port. Rests on 07_line_framing_and_defects R292 to R296;
07_line_framing_and_defects R297 to R310; 07_line_framing_and_defects R331 to R338; 05_receive_path R217 to R222,
R895. The model's own choices in it: misses and acceptance are read as in log 60. -/
def Obligations.SuperframesAndFrames : Prop :=
  (∀ (s : State) (c : Carrier) (dt : Nat), lineClockRuns s.dev c = true → inReset s.dev .timing = false →
    Yields (.txSuperframe c dt) s fun t =>
      (t.tx.get c).xsf = (if (s.dev.tx.get c).sfSent then wrap 32 ((s.dev.tx.get c).xsf + 1) else 0) ∧
      (t.tx.get c).sfSent = true ∧ (t.tx.get c).sfAt = s.dev.timing.now + dt ∧ t.timing.now = s.dev.timing.now + dt ∧
      t.tx.get c.other = s.dev.tx.get c.other ∧
      ∃ b, .nso c b ∈ t.out ∧ b.length = 512 ∧ b.take 4 = be 4 (t.tx.get c).xsf ∧ nsoValid b = true) ∧
  (∀ (s : State) (c : Carrier) (i : RxSfIn) (m : ModePlan), rxModeOf s.dev c = some m → m.native = true →
    (s.dev.rx.get c).state = .inService → i.sync = true → (s.dev.rx.get c).rxCount = none →
    inReset s.dev .timing = false → Yields (.rxSuperframe c i) s fun t =>
      (t.rx.get c).state = .inService ∧ (t.rx.get c).syncMiss = 0 ∧
      (t.rx.get c).xsfRx = (if (s.dev.rx.get c).inStep then wrap 32 ((s.dev.rx.get c).xsfRx + 1) else (s.dev.rx.get c).xsfRx) ∧
      (t.line.get c).frame = 0 ∧ t.timing.now = s.dev.timing.now + i.dt ∧ t.rx.get c.other = s.dev.rx.get c.other ∧
      t.tx = s.dev.tx) ∧
  (∀ (s : State) (c : Carrier) (i : RxSfIn) (m : ModePlan), rxModeOf s.dev c = some m → m.native = true →
    (s.dev.rx.get c).state = .inService → i.sync = false → (s.dev.rx.get c).syncMiss = 3 →
    Yields (.rxSuperframe c i) s fun t =>
      (t.rx.get c).state = .carrierLock ∧ (t.rx.get c).acqRetries = sat 16 ((s.dev.rx.get c).acqRetries + 1) ∧
      t.rx.get c.other = s.dev.rx.get c.other ∧ t.tx = s.dev.tx) ∧
  (∀ (s : State) (c : Carrier) (m : ModePlan) (b : List Byte) (ta tb : Bool), rxModeOf s.dev c = some m → m.native = true →
    (s.dev.rx.get c).state.atLeast .superframeLock = true → nsoValid b = true → (s.dev.rx.get c).inStep = false →
    (s.dev.rx.get c).lastXsf = some (wrap 32 (fromBe (b.take 4) + 2 ^ 32 - 1)) →
    Yields (.nsoReceived c b ta tb) s fun t =>
      (t.line.get c).nso = b ∧ (t.rx.get c).inStep = true ∧ (t.rx.get c).xsfRx = fromBe (b.take 4) ∧
      (t.rx.get c).farRec = parseAgree (slice b 8 16) ∧ t.rx.get c.other = s.dev.rx.get c.other) ∧
  (∀ (s : State) (c : Carrier) (m : ModePlan) (b : List Byte) (ta tb : Bool), rxModeOf s.dev c = some m → m.native = true →
    (s.dev.rx.get c).state.atLeast .superframeLock = true → nsoValid b = false →
    Yields (.nsoReceived c b ta tb) s fun t =>
      (t.line.get c).nso = (s.dev.line.get c).nso ∧
      (t.line.get c).line.nsoCrcErr = wrap 32 ((s.dev.line.get c).line.nsoCrcErr + 1) ∧
      t.rx.get c = { s.dev.rx.get c with lastXsf := none } ∧ t.rx.get c.other = s.dev.rx.get c.other ∧ t.tx = s.dev.tx) ∧
  (∀ (s : State) (c : Carrier) (i : FrameIn), native s.dev c = true → (s.dev.line.get c).ohp.ext = true →
    Yields (.otucFrame c false i) s fun t =>
      (t.line.get c).frame = ((s.dev.line.get c).frame + 1) % 256 ∧
      ((s.dev.line.get c).ohp.extPad + (s.dev.line.get c).ohp.extBuf.length < 256 →
        ∃ f, (t.line.get c).ohp.extBuf = (s.dev.line.get c).ohp.extBuf ++ [f] ∧ f.mfas = (s.dev.line.get c).frame) ∧
      (256 ≤ (s.dev.line.get c).ohp.extPad + (s.dev.line.get c).ohp.extBuf.length →
        (t.line.get c).ohp.extBuf = (s.dev.line.get c).ohp.extBuf ∧
        (t.line.get c).ohp.dropExt = wrap 32 ((s.dev.line.get c).ohp.dropExt + 1)) ∧
      t.tx = s.dev.tx ∧ t.rx = s.dev.rx)

/-- A received APS code of a scheme that uses APS is held with its request; 50 differing codes make the scheme
unidirectional with its fault; a hold-off that expires makes its failure due; wait-to-restore that expires with
nothing pending puts NR in force and asks for the working side, with its event where the selector stands there
already; no other scheme changes by these. At the OTUC frame of the carrier of the line to be received, the selector
of a switched scheme makes the switch that waits, counts it and keeps its time. Rests on
08_tributaries_groups_protection R369 to R386. The model's own choices in it: requests, events and timers are read as
in logs 66 and 67. -/
def Obligations.ProtectionEvents : Prop :=
  (∀ (s : State) (k : Fin 33) (b : List Byte), (schemeType s.dev k.val = 3 ∨ schemeType s.dev k.val = 4) → b.length = 4 →
    Yields (.apsReceived k b) s fun t =>
      scheme t k.val = { scheme s.dev k.val with
        aps := some b
        farRequest := if (b.getD 0 0).toNat ≤ 10 then some (b.getD 0 0).toNat else (scheme s.dev k.val).farRequest } ∧
      (∀ j, j ≠ k.val → scheme t j = scheme s.dev j) ∧ Only [.tribs] s.dev t) ∧
  (∀ (s : State) (k : Fin 33), 2 ≤ schemeType s.dev k.val → 50 ≤ (scheme s.dev k.val).apsDiffer →
    (scheme s.dev k.val).uni = false → (source s.dev 0x0384 k.val).cond = false → Yields (.protApsMismatch k) s fun t =>
      (scheme t k.val).uni = true ∧ (source t 0x0384 k.val).cond = true ∧ Faulted 0x0384 k.val s.dev t ∧
      (∀ j, j ≠ k.val → scheme t j = scheme s.dev j) ∧ Only (.tribs :: .evq :: Part.ofFault) s.dev t) ∧
  (∀ (s : State) (k : Fin 33) (j : Nat), 2 ≤ schemeType s.dev k.val → j < 4 →
    (Tab.get (fun _ => none) (scheme s.dev k.val).holds j : Option Nat) = some 0 → Yields (.protHoldOffExpiry k) s fun t =>
      (scheme t k.val).due.getLsbD j = true ∧
      (Tab.get (fun _ => none) (scheme t k.val).holds j : Option Nat) = none ∧
      (∀ i, i < 4 → (scheme s.dev k.val).due.getLsbD i = true → (scheme t k.val).due.getLsbD i = true) ∧
      (∀ i, i ≠ k.val → scheme t i = scheme s.dev i) ∧ Only [.tribs, .evq] s.dev t) ∧
  (∀ (s : State) (k : Fin 33), 2 ≤ schemeType s.dev k.val → (scheme s.dev k.val).wtr = some 0 →
    (scheme s.dev k.val).lo = false → (scheme s.dev k.val).fs = false → (scheme s.dev k.val).ms = none →
    (scheme s.dev k.val).due = 0 → (scheme s.dev k.val).wasW = false → (scheme s.dev k.val).dnr = false →
    (scheme s.dev k.val).farRequest = none → (scheme s.dev k.val).request = 8 → (scheme s.dev k.val).next = none →
    Yields (.protWtrExpiry k) s fun t =>
      (scheme t k.val).wtr = none ∧ (scheme t k.val).request = 10 ∧
      (scheme t k.val).selected = (scheme s.dev k.val).selected ∧
      (scheme t k.val).next = (if (scheme s.dev k.val).selected then some false else none) ∧
      ((scheme s.dev k.val).selected = false →
        Raised 0x0502 k.val 0 [10, 0, 0xFF] s.dev t ∧ Only [.tribs, .evq] s.dev t) ∧
      ((scheme s.dev k.val).selected = true → Only [.tribs] s.dev t) ∧
      (∀ i, i ≠ k.val → scheme t i = scheme s.dev i)) ∧
  (∀ (s : State) (k : Fin 33) (c : Carrier) (i : FrameIn) (sel : Bool), 2 ≤ schemeType s.dev k.val →
    schemeType s.dev k.val ≠ 5 → (scheme s.dev k.val).next = some sel → c = (if sel then .b else .a) →
    Yields (.otucFrame c false i) s fun t =>
      scheme t k.val = { scheme s.dev k.val with
        selected := sel, next := none, switches := wrap 32 ((scheme s.dev k.val).switches + 1)
        lastSwitch := s.dev.timing.now } ∧
      t.tx = s.dev.tx ∧ t.rx = s.dev.rx)

/-- A copy becomes ABSENT with its event, returns ALIGNED or UNALIGNED by its lead, and becomes UNALIGNED with its fault
when more than 150 ms behind; a released frame period is taken from the preferred copy unless it is marked and the
other is not, doubly bad periods are counted, and with no copy present the count of empty periods grows. Rests on
08_tributaries_groups_protection R369 to R386. The model's own choices in it: the states of copies are read as in log
68. -/
def Obligations.HitlessMerge : Prop :=
  (∀ (s : State) (c : Carrier) (behind lead : Int), merging s.dev = true → copyAbsent s.dev c = true →
    ((scheme s.dev 0).copies.get c).state ≠ .absent → Yields (.mergeCopy c behind lead) s fun t =>
      ((scheme t 0).copies.get c).state = .absent ∧
      (scheme t 0).copies.get c.other = (scheme s.dev 0).copies.get c.other ∧
      Raised 0x0501 0 0 (le 1 c.num ++ le 1 ((scheme s.dev 0).copies.get c).state.code ++ [0]) s.dev t ∧
      Only [.tribs, .evq] s.dev t) ∧
  (∀ (s : State) (c : Carrier) (behind lead : Int), merging s.dev = true → copyAbsent s.dev c = false →
    ((scheme s.dev 0).copies.get c).state = .absent → Yields (.mergeCopy c behind lead) s fun t =>
      ((scheme t 0).copies.get c).state =
        (if (scheme s.dev 0).releasing = true ∧ 2 * lead < (protSet s.dev 0 10 * US : Int) then .unaligned else .aligned) ∧
      (scheme t 0).copies.get c.other = (scheme s.dev 0).copies.get c.other ∧ Only [.tribs, .evq] s.dev t) ∧
  (∀ (s : State) (c : Carrier) (behind lead : Int), merging s.dev = true → copyAbsent s.dev c = false →
    ((scheme s.dev 0).copies.get c).state = .aligned → (150 * MS : Int) < behind →
    ((scheme s.dev 0).copies.get c.other).state ≠ .absent → Yields (.mergeCopy c behind lead) s fun t =>
      ((scheme t 0).copies.get c).state = .unaligned ∧ Faulted 0x0383 0 s.dev t ∧
      Raised 0x0501 0 0 (le 1 c.num ++ [2, 1]) s.dev t ∧
      (scheme t 0).copies.get c.other = (scheme s.dev 0).copies.get c.other ∧
      Only (.tribs :: .evq :: Part.ofFault) s.dev t) ∧
  (∀ (s : State) (i : MergeIn) (p : Carrier), merging s.dev = true → (scheme s.dev 0).realign = false → p = mergePref s.dev →
    (scheme s.dev 0).copies.a.state = .aligned → (scheme s.dev 0).copies.b.state = .aligned →
    i.present.a = true → i.present.b = true → Yields (.mergeFrameRelease i) s fun t =>
      (i.marked.get p = false → (scheme t 0).selected = decide (p = .b)) ∧
      (i.marked.get p = true → i.marked.get p.other = false → (scheme t 0).selected = decide (p.other = .b)) ∧
      (scheme t 0).bothBad =
        wrap 32 ((scheme s.dev 0).bothBad + bit (i.marked.get p && i.marked.get p.other)) ∧
      (∀ c, ((scheme t 0).copies.get c).offset =
        (max i.arrival.a i.arrival.b : Nat) + (protSet s.dev 0 10 * US : Int) - (i.arrival.get c : Int)) ∧
      (scheme t 0).diffDelay = ((i.arrival.b : Int) - i.arrival.a) * 256 / US ∧
      (scheme t 0).noneCount = (scheme s.dev 0).noneCount ∧ t.tx = s.dev.tx ∧ t.rx = s.dev.rx) ∧
  (∀ (s : State) (i : MergeIn), merging s.dev = true → (scheme s.dev 0).realign = false →
    i.present.a = false → i.present.b = false → Yields (.mergeFrameRelease i) s fun t =>
      (scheme t 0).noneCount = wrap 32 ((scheme s.dev 0).noneCount + 1) ∧
      (scheme t 0).selected = (scheme s.dev 0).selected ∧ (scheme t 0).copies = (scheme s.dev 0).copies ∧
      t.tx = s.dev.tx ∧ t.rx = s.dev.rx)

/-- A record that was seen or has made 8 hops changes nothing; a new one of a group with members here is kept and sent on
with one hop more; a release with every record sets the release time from the latest arrival, one without is counted
late; loss of alignment begins by its condition and ends after 8 clean superframes. Rests on
08_tributaries_groups_protection R358 to R368; 17_stack_bus_and_stacking R683, R684; 17_stack_bus_and_stacking R673 to
R675. The model's own choices in it: records and alignment are read as in log 65. -/
def Obligations.LineGroups : Prop :=
  (∀ (s : State) (p : Fin 4) (x : GrpRecItem), (8 ≤ x.hops + 1 ∨ [0, x.origin, x.grp, x.member, x.g] ∈ s.dev.stack.seen) →
    Yields (.groupRecordReceived p x) s fun t => Only [] s.dev t) ∧
  (∀ (s : State) (p : Fin 4) (x : GrpRecItem), x.hops + 1 < 8 → [0, x.origin, x.grp, x.member, x.g] ∉ s.dev.stack.seen →
    membersHere s.dev x.grp ≠ [] → Yields (.groupRecordReceived p x) s fun t =>
      [0, x.origin, x.grp, x.member, x.g] ∈ t.stack.seen ∧
      (∃ r, (Tab.get (fun _ => []) (grp t x.grp).recs x.member : List GroupRec) =
          (r :: Tab.get (fun _ => []) (grp s.dev x.grp).recs x.member).take 32 ∧
        r.g = x.g ∧ r.rxState = x.state ∧ r.sf = x.sf ∧ r.arrival = x.arr) ∧
      (∀ i, i ∈ others p.val s.dev → (sbPort t i).recs = (sbPort s.dev i).recs ++ [{ x with hops := x.hops + 1 }]) ∧
      (∀ g, g ≠ x.grp → grp t g = grp s.dev g) ∧ Only [.tribs, .stack] s.dev t) ∧
  (∀ (s : State) (k : Fin 16) (g : GroupPlan) (n : BitVec 32), ((plan s.dev).groups.find? fun g => g.group = k.val) = some g →
    membersHere s.dev g.group ≠ [] → s.dev.pendSet = [] →
    (∀ r, (grp s.dev g.group).released = some r → n.toNat = wrap 32 (r + 1)) →
    (∀ m, m ∈ g.members → (recOf (grp s.dev g.group) m.index n.toNat).isSome = true) →
    Yields (.groupRelease k n) s fun t =>
      t.out = (membersHere s.dev g.group).map (fun m => Output.release g.group m.index n.toNat) ∧
      (grp t g.group).released = some n.toNat ∧
      (grp t g.group).tRel = (grp t g.group).aMax + groupTimes.dsetN' s.dev g.group * US ∧
      (∀ m, m ∈ g.members → ∀ r, recOf (grp s.dev g.group) m.index n.toNat = some r →
        (grp t g.group).aMin ≤ r.arrival ∧ r.arrival ≤ (grp t g.group).aMax) ∧
      (grp t g.group).recLate = (grp s.dev g.group).recLate ∧ (∀ j, j ≠ g.group → grp t j = grp s.dev j) ∧
      Only (.tribs :: Part.ofFault) s.dev t) ∧
  (∀ (s : State) (k : Fin 16) (g : GroupPlan) (n : BitVec 32) (m : GroupMember),
    ((plan s.dev).groups.find? fun g => g.group = k.val) = some g →
    membersHere s.dev g.group ≠ [] → s.dev.pendSet = [] →
    (∀ r, (grp s.dev g.group).released = some r → n.toNat = wrap 32 (r + 1)) →
    m ∈ g.members → recOf (grp s.dev g.group) m.index n.toNat = none →
    Yields (.groupRelease k n) s fun t =>
      (grp t g.group).released = some n.toNat ∧ (grp t g.group).tRel = (grp s.dev g.group).tRel + g.period ∧
      (grp t g.group).recLate = wrap 32 ((grp s.dev g.group).recLate + 1)) ∧
  (∀ (s : State) (k : Fin 16) (g : GroupPlan), ((plan s.dev).groups.find? fun g => g.group = k.val) = some g →
    membersHere s.dev g.group ≠ [] → loaCond s.dev g = true → (grp s.dev g.group).loa = false →
    Yields (.groupLoaChange k) s fun t =>
      grp t g.group = { grp s.dev g.group with loa := true, clean := 0 } ∧
      (∀ j, j ≠ g.group → grp t j = grp s.dev j) ∧ t.tx = s.dev.tx ∧ t.rx = s.dev.rx) ∧
  (∀ (s : State) (k : Fin 16) (g : GroupPlan), ((plan s.dev).groups.find? fun g => g.group = k.val) = some g →
    membersHere s.dev g.group ≠ [] → loaCond s.dev g = false → (grp s.dev g.group).loa = true →
    8 ≤ (grp s.dev g.group).clean → Yields (.groupLoaChange k) s fun t =>
      grp t g.group = { grp s.dev g.group with loa := false } ∧
      (∀ j, j ≠ g.group → grp t j = grp s.dev j) ∧ t.tx = s.dev.tx ∧ t.rx = s.dev.rx)

/-- A port goes from SB_ADAPT to SB_ALIGN and, after 64 good frames, to SB_UP with its internal delay; 50 ms of adaptation
restart it, counted; a good frame is counted and stamps its arrival; the fourth bad frame in a row takes an SB_UP port
down with its fault; on the upstream port the stamps of a time word give the clock difference. Rests on
17_stack_bus_and_stacking R669 to R672; 17_stack_bus_and_stacking R678 to R682. The model's own choices in it: the run
of bad frames is read as in log 82. -/
def Obligations.StackPorts : Prop :=
  (∀ (s : State) (p : Fin 4), (sbPort s.dev p.val).state = .adapt → Yields (.stackPortAlign p) s fun t =>
      sbPort t p.val = { sbPort s.dev p.val with state := .align, good := 0, bad := 0 } ∧
      (∀ i, i ≠ p.val → sbPort t i = sbPort s.dev i) ∧ Only [.stack] s.dev t) ∧
  (∀ (s : State) (p : Fin 4) (d : Nat), (sbPort s.dev p.val).state = .align → 64 ≤ (sbPort s.dev p.val).good →
    Yields (.stackPortUp p d) s fun t =>
      sbPort t p.val = { sbPort s.dev p.val with state := .up, bad := 0, intDelay := d } ∧
      (∀ i, i ≠ p.val → sbPort t i = sbPort s.dev i) ∧ Only [.stack] s.dev t) ∧
  (∀ (s : State) (p : Fin 4), (sbPort s.dev p.val).state = .adapt → 50000 ≤ (sbPort s.dev p.val).adaptTicks →
    Yields (.stackAdaptRestart p) s fun t =>
      sbPort t p.val = { sbPort s.dev p.val with
        adaptTicks := 0, adaptRestart := wrap 32 ((sbPort s.dev p.val).adaptRestart + 1) } ∧
      (∀ i, i ≠ p.val → sbPort t i = sbPort s.dev i) ∧ Only [.stack] s.dev t) ∧
  (∀ (s : State) (f : StackFrame), (sbPort s.dev f.port.val).state = .align → f.markOk = true → f.crcOk = true →
    Yields (.stackFrameReceived f) s fun t =>
      (sbPort t f.port.val).good = min 64 ((sbPort s.dev f.port.val).good + 1) ∧ (sbPort t f.port.val).bad = 0 ∧
      (sbPort t f.port.val).state = .align ∧ (sbPort t f.port.val).peerId = some f.word.sender ∧
      (sbPort t f.port.val).stRx = (f.arrival : Int) + s.dev.stack.sigma ∧
      (∀ i, i ≠ f.port.val → sbPort t i = sbPort s.dev i) ∧ Only [.stack] s.dev t) ∧
  (∀ (s : State) (f : StackFrame), (sbPort s.dev f.port.val).state = .up → (f.markOk = false ∨ f.crcOk = false) →
    (sbPort s.dev f.port.val).bad = 3 → Yields (.stackFrameReceived f) s fun t =>
      (sbPort t f.port.val).state = .adapt ∧ (sbPort t f.port.val).peerId = none ∧
      (sbPort t f.port.val).downCount = wrap 32 ((sbPort s.dev f.port.val).downCount + 1) ∧
      Faulted 0x0D01 f.port.val s.dev t ∧ Only Part.ofFault s.dev t) ∧
  (∀ (s : State) (f : StackFrame), (sbPort s.dev f.port.val).state = .up → f.markOk = true → f.crcOk = true →
    s.dev.stack.acting ≠ .actingMaster → f.word.isMaster = false → f.word.masterOk = false → f.recs = [] → f.states = [] →
    f.trigs = [] → f.relay = none → f.msgs = [] → Yields (.stackFrameReceived f) s fun t =>
      (sbPort t f.port.val).state = .up ∧ (sbPort t f.port.val).bad = 0 ∧ (sbPort t f.port.val).peer = some f.word ∧
      (sbPort t f.port.val).stRx = (f.arrival : Int) + s.dev.stack.sigma ∧
      (∀ i, i ≠ f.port.val → sbPort t i = sbPort s.dev i) ∧
      (s.dev.stack.upstream = some f.port.val → t.stack.okRun = 0 ∧
        t.stack.theta = (s.dev.stack.theta.1 + (((f.word.stRx : Int) - (sbPort s.dev f.port.val).stMark) -
          ((f.arrival : Int) + s.dev.stack.sigma - (f.word.stMark : Int))), s.dev.stack.theta.2 + 1)) ∧
      t.stack.sigma = s.dev.stack.sigma ∧ Only [.stack] s.dev t)

/-- The first update after 1,000 good frames makes stack time valid; four ticks without the master make it invalid with
its fault; a standby takes over after 100 ticks; a strapped master acts after its listen unless it heard one; an
announced hand-over second moves the role on both sides with its event; a better port becomes the upstream. Rests on
17_stack_bus_and_stacking R676, R677; 17_stack_bus_and_stacking R678 to R682; 17_stack_bus_and_stacking R690 to R693.
The model's own choices in it: roles are read as in logs 20 and 83. -/
def Obligations.StackTimeAndRoles : Prop :=
  (∀ s : State, s.dev.stack.validDue = true → Yields .stackTimeValid s fun t =>
      t.stack = { s.dev.stack with valid := true, validDue := false } ∧ (source t 0x0D02 0).cond = false ∧
      Only [.stack, .fault] s.dev t) ∧
  (∀ s : State, s.dev.stack.valid = true → 4 ≤ s.dev.stack.missRun → s.dev.stack.acting ≠ .actingMaster →
    s.dev.stack.acting ≠ .standalone → (source s.dev 0x0D02 0).cond = false → Yields .stackMasterLost s fun t =>
      t.stack.valid = false ∧ t.stack.okRun = 0 ∧ t.stack.spreadTicks = 0 ∧ t.stack.sigma = s.dev.stack.sigma ∧
      t.stack.acting = s.dev.stack.acting ∧ (source t 0x0D02 0).cond = true ∧ Faulted 0x0D02 0 s.dev t ∧
      Only Part.ofFault s.dev t) ∧
  (∀ s : State, s.dev.stack.acting = .standby → s.dev.stack.seenUp = true → 100 ≤ s.dev.stack.missAny →
    s.dev.stack.handover = none → Yields .stackTakeover s fun t =>
      t.stack.acting = .actingMaster ∧ t.stack.master = some s.dev.stack.stackId ∧ t.stack.upstream = none ∧
      t.stack.valid = true ∧ t.stack.sigma = s.dev.stack.sigma ∧
      t.stack.takeovers = wrap 32 (s.dev.stack.takeovers + 1) ∧ Raised 0x0D03 0 0 [2, 1, 0] s.dev t ∧
      Faulted 0x0D03 0 s.dev t ∧ Only (.evq :: Part.ofFault) s.dev t) ∧
  (∀ s : State, s.dev.stack.listening = true → 200 ≤ s.dev.stack.listenTicks → s.dev.stack.heardMaster = false →
    Yields .stackMasterListenEnd s fun t =>
      t.stack.listening = false ∧ t.stack.acting = .actingMaster ∧ t.stack.sigma = 0 ∧ t.stack.valid = true ∧
      t.stack.master = some s.dev.stack.stackId ∧ Only [.stack] s.dev t) ∧
  (∀ s : State, s.dev.stack.listening = true → 200 ≤ s.dev.stack.listenTicks → s.dev.stack.heardMaster = true →
    Yields .stackMasterListenEnd s fun t =>
      t.stack.listening = false ∧ t.stack.acting = .standby ∧ t.stack.standby = some s.dev.stack.stackId ∧
      t.stack.sigma = s.dev.stack.sigma ∧ Only [.stack] s.dev t) ∧
  (∀ (s : State) (sec : Nat), s.dev.stack.handover = some (s.dev.stack.stackId, sec) →
    sec * SEC ≤ toStack s.dev s.dev.timing.now → Yields .stackHandoverInstant s fun t =>
      t.stack.acting = .actingMaster ∧ t.stack.master = some s.dev.stack.stackId ∧ t.stack.handover = none ∧
      t.stack.sigma = s.dev.stack.sigma ∧ Raised 0x0D03 0 0 (le 1 s.dev.stack.acting.code ++ [1, 1]) s.dev t ∧
      Only [.stack, .evq, .fault] s.dev t) ∧
  (∀ (s : State) (m sec : Nat), s.dev.stack.handover = some (m, sec) → m ≠ s.dev.stack.stackId →
    s.dev.stack.acting = .actingMaster → sec * SEC ≤ toStack s.dev s.dev.timing.now →
    Yields .stackHandoverInstant s fun t =>
      t.stack.acting = .standby ∧ t.stack.master = some m ∧ t.stack.handover = none ∧
      t.stack.standby = some s.dev.stack.stackId ∧ Raised 0x0D03 0 0 [1, 2, 1] s.dev t ∧
      Only [.stack, .evq] s.dev t) ∧
  (∀ (s : State) (p : Nat), s.dev.stack.acting ≠ .actingMaster → s.dev.stack.acting ≠ .standalone →
    nextUpstream s.dev = some p → Yields .stackUpstreamChange s fun t =>
      t.stack.upstream = some p ∧ t.stack.hops = (offers s.dev p).getD 0 + 1 ∧ t.stack.theta = (0, 0) ∧
      t.stack.okRun = 0 ∧ t.stack.sigma = s.dev.stack.sigma ∧ (∀ i, i < 4 → (sbPort t i).better = 0) ∧
      Only [.stack] s.dev t)

/-- A HELLO goes out every millisecond; one received makes its sender a member, one with the own STACK_ID is a conflict,
and a member silent for 3 ms leaves, each with its event; a command for an absent member is refused at once, for a
present one it is forwarded and its mailbox stays busy until the response or the timeout; a forwarded event is
delivered by the master; a request for this device runs in MB4 and its answer returns. Clauses about messages of the
bus assume stack_auth 0. Rests on 17_stack_bus_and_stacking R685 to R689; 17_stack_bus_and_stacking R676, R677;
21_mailbox_interface R830 to R833. The model's own choices in it: messages are read as in log 84. -/
def Obligations.StackMembersAndProxies : Prop :=
  (∀ s : State, s.dev.stack.acting ≠ .standalone → 1000 ≤ s.dev.stack.helloAge → dset s.dev 0x0D00 0 1 = 0 →
    Yields .helloSend s fun t =>
      t.stack.helloAge = 0 ∧
      (∀ p, p ∈ upPorts s.dev none → (sbPort s.dev p).queue.length < 64 → ∃ m, (sbPort t p).queue = (sbPort s.dev p).queue ++ [m] ∧
        m.type = 3 ∧ m.origin = s.dev.stack.stackId ∧ m.dest = 0xFF ∧ m.hops = 0 ∧
        m.body = le 1 s.dev.stack.strapRole ++ le 1 s.dev.stack.acting.code ++ le 1 s.dev.stack.stackId) ∧
      t.stack.members = s.dev.stack.members ∧ Only [.stack] s.dev t) ∧
  (∀ (s : State) (m : SbMsg) (ok : Bool) (id : Nat), dset s.dev 0x0D00 0 1 = 0 → m.type = 3 → id = rd m.body 2 1 % 8 →
    id ≠ s.dev.stack.stackId → Yields (.helloReceived m ok) s fun t =>
      (Tab.get (fun _ => none) t.stack.hello id : Option Nat) = some 0 ∧
      (Tab.get (fun _ => none) t.stack.roles id : Option Nat) = some (rd m.body 0 1) ∧
      t.stack.members.getLsbD id = true ∧
      (∀ j, j ≠ id → t.stack.members.getLsbD j = s.dev.stack.members.getLsbD j) ∧
      (rd m.body 1 1 = 2 → t.stack.standby = some id) ∧
      (s.dev.stack.members.getLsbD id = false →
        Raised 0x0D02 0 0 (le 1 s.dev.stack.members.toNat ++ le 1 t.stack.members.toNat) s.dev t) ∧
      Only [.stack, .evq] s.dev t) ∧
  (∀ (s : State) (m : SbMsg) (ok : Bool), dset s.dev 0x0D00 0 1 = 0 → m.type = 3 → rd m.body 2 1 % 8 = s.dev.stack.stackId →
    (source s.dev 0x0D05 0).cond = false → Yields (.helloReceived m ok) s fun t =>
      t.stack.idConflict = true ∧ (source t 0x0D05 0).cond = true ∧ Faulted 0x0D05 0 s.dev t ∧
      t.stack.members = s.dev.stack.members ∧ Only Part.ofFault s.dev t) ∧
  (∀ (s : State) (m : Fin 8) (age : Nat), (Tab.get (fun _ => none) s.dev.stack.hello m.val : Option Nat) = some age →
    3000 ≤ age → m.val ≠ s.dev.stack.stackId → s.dev.stack.proxyPend = [] → s.dev.stack.members.getLsbD m.val = true →
    Yields (.memberHelloTimeout m) s fun t =>
      (Tab.get (fun _ => none) t.stack.hello m.val : Option Nat) = none ∧ t.stack.members.getLsbD m.val = false ∧
      (∀ j, j ≠ m.val → t.stack.members.getLsbD j = s.dev.stack.members.getLsbD j) ∧
      t.stack.standby ≠ some m.val ∧
      Raised 0x0D02 0 0 (le 1 s.dev.stack.members.toNat ++ le 1 t.stack.members.toNat) s.dev t ∧
      Only [.stack, .evq] s.dev t) ∧
  (∀ (s : State) (op : BitVec 16) (r : Req), r.mb.val < 4 → served s.dev = true → r.here s.dev = false →
    (mailbox s.dev r.mb.val).busy = false → (8 ≤ r.member.toNat ∨ s.dev.stack.members.getLsbD r.member.toNat = false) →
    Yields (.proxiedCommand op r) s fun t =>
      Answered op.toNat r ⟨.stackUnreachable, []⟩ t ∧ (∀ j, j ≠ r.mb.val → mailbox t j = mailbox s.dev j) ∧
      Only [.host] s.dev t) ∧
  (∀ (s : State) (op : BitVec 16) (r : Req), r.mb.val < 4 → served s.dev = true → r.here s.dev = false →
    (mailbox s.dev r.mb.val).busy = false → r.member.toNat < 8 → s.dev.stack.members.getLsbD r.member.toNat = true →
    namesHost op.toNat r = false → (Tab.get (fun _ => []) s.dev.stack.proxied r.member.toNat : List ProxyCmd) = [] →
    Yields (.proxiedCommand op r) s fun t =>
      (mailbox t r.mb.val).busy = true ∧ (mailbox t r.mb.val).lastSeq = (mailbox s.dev r.mb.val).lastSeq ∧
      (∃ p, (Tab.get (fun _ => []) t.stack.proxied r.member.toNat : List ProxyCmd) = [p] ∧ p.op = op.toNat ∧ p.req = r ∧
        p.sent = true ∧ p.left = dsetN s.dev 0x0D00 0 4 + 1) ∧
      (∀ j, j ≠ r.mb.val → mailbox t j = mailbox s.dev j) ∧ Only [.host, .stack, .kme] s.dev t) ∧
  (∀ (s : State) (m : SbMsg) (ok : Bool) (p : ProxyCmd), dset s.dev 0x0D00 0 1 = 0 → m.type = 1 →
    m.dest = s.dev.stack.stackId → (Tab.get (fun _ => []) s.dev.stack.proxied m.origin : List ProxyCmd) = [p] → p.sent = true →
    rd m.body 0 2 = p.op → rd m.body 2 2 = p.req.seq.toNat → rd m.body 6 1 ≠ Status.pending.code → p.req.mb.val < 4 →
    Yields (.proxyResponseReceived m ok) s fun t =>
      (mailbox t p.req.mb.val).resp = withCrc (put m.body 7 (le 1 (rd m.body 7 1 % 2 + 2))) ∧
      (mailbox t p.req.mb.val).lastSeq = p.req.seq.toNat ∧ (mailbox t p.req.mb.val).lastStatus = rd m.body 6 1 ∧
      (mailbox t p.req.mb.val).busy = false ∧ (mailbox t p.req.mb.val).respReady = true ∧
      (Tab.get (fun _ => []) t.stack.proxied m.origin : List ProxyCmd) = [] ∧ Only [.host, .stack] s.dev t) ∧
  (∀ (s : State) (m : Fin 8) (p : ProxyCmd), (Tab.get (fun _ => []) s.dev.stack.proxied m.val : List ProxyCmd) = [p] →
    p.left = 0 → p.req.mb.val < 4 → Yields (.proxyTimeout m) s fun t =>
      (Tab.get (fun _ => []) t.stack.proxied m.val : List ProxyCmd) = [] ∧
      t.stack.proxyTimeouts = wrap 32 (s.dev.stack.proxyTimeouts + 1) ∧
      (mailbox t p.req.mb.val).lastStatus = Status.timeout.code ∧ (mailbox t p.req.mb.val).lastSeq = p.req.seq.toNat ∧
      (mailbox t p.req.mb.val).busy = false ∧ Only [.host, .stack] s.dev t) ∧
  (∀ (s : State) (m : SbMsg) (ok : Bool), dset s.dev 0x0D00 0 1 = 0 → m.type = 2 → s.dev.stack.acting = .actingMaster →
    (parseEvent m.body).type ≠ 0x0001 → Yields (.forwardedEventReceived m ok) s fun t =>
      t.evq = s.dev.evq ++ [{ parseEvent m.body with member := m.origin }] ∧ Only [.evq] s.dev t) ∧
  (∀ (s : State) (m : SbMsg) (ok : Bool) (q : Req), dset s.dev 0x0D00 0 1 = 0 → m.type = 0 → m.dest = s.dev.stack.stackId →
    served s.dev = true → s.dev.stack.idConflict = false → cmdOf (rd m.body 0 2) q.params = none → q = (parseReq 4 m.body).2 →
    s.dev.stack.mb4Pend = [] →
    Yields (.proxyRequestReceived m ok) s fun t =>
      (mailbox t 4).lastSeq = q.seq.toNat ∧ (mailbox t 4).lastStatus = Status.badOpcode.code ∧ t.stack.mb4Pend = [] ∧
      (∀ p, p ∈ upPorts s.dev none → (sbPort s.dev p).queue.length < 64 → ∃ x, (sbPort t p).queue = (sbPort s.dev p).queue ++ [x] ∧
        x.type = 1 ∧ x.dest = m.origin ∧ x.body = respBytes (rd m.body 0 2) q ⟨.badOpcode, []⟩ false) ∧
      Only [.host, .stack] s.dev t)

/-- Off a word boundary a write does nothing; scratch, interrupt enable, debug page and control, FIFO mask and severity
take their bits; MB_STATUS clears the bits written 1; a doorbell from another interface or while mailboxes are not
served is ignored; IRQ_STATUS clears the bits written 1 and the interrupt line follows. Everything else is unchanged.
Rests on 21_mailbox_interface R807 to R810; 21_mailbox_interface R811 to R816, R894, R896; 21_mailbox_interface R828,
R829. The model's own choices in it: writes off a word boundary are read as in log 96. -/
def Obligations.HostRegisterWrites : Prop :=
  (∀ (s : State) (i : Iface) (off : BitVec 16) (v : BitVec 32), off.toNat % 4 ≠ 0 → Yields (.registerWrite i off v) s fun t =>
      t.host = { s.dev.host with irqLow := t.host.irqLow } ∧ Only [] s.dev t) ∧
  (∀ (s : State) (i : Iface) (k : Fin 4) (v : BitVec 32), Yields (.registerWrite i (BitVec.ofNat 16 (0x10 + 4 * k.val)) v) s fun t =>
      t.host = { s.dev.host with scratch := t.host.scratch, irqLow := t.host.irqLow } ∧
      (Tab.get (fun _ => 0) t.host.scratch k.val : BitVec 32) = v ∧
      (∀ j, j ≠ k.val → (Tab.get (fun _ => 0) t.host.scratch j : BitVec 32) = Tab.get (fun _ => 0) s.dev.host.scratch j) ∧
      Only [.host] s.dev t) ∧
  (∀ (s : State) (i : Iface) (v : BitVec 32), Yields (.registerWrite i 0x34 v) s fun t =>
      t.host = { s.dev.host with irqEnable := v &&& 0x1EF, irqLow := t.host.irqLow } ∧ Only [.host] s.dev t) ∧
  (∀ (s : State) (i : Iface) (v : BitVec 32), Yields (.registerWrite i 0x90 v) s fun t =>
      t.host = { s.dev.host with dbgPage := v.toNat % 256, irqLow := t.host.irqLow } ∧ Only [.host] s.dev t) ∧
  (∀ (s : State) (i : Iface) (v : BitVec 32), Yields (.registerWrite i 0x94 v) s fun t =>
      t.host = { s.dev.host with dbgWrite := v.getLsbD 0, irqLow := t.host.irqLow } ∧ Only [.host] s.dev t) ∧
  (∀ (s : State) (i : Iface) (v : BitVec 32), Yields (.registerWrite i 0x128 v) s fun t =>
      t.host = { s.dev.host with fifoMask := v.setWidth 18, irqLow := t.host.irqLow } ∧ Only [.host] s.dev t) ∧
  (∀ (s : State) (i : Iface) (v : BitVec 32), Yields (.registerWrite i 0x12C v) s fun t =>
      t.host = { s.dev.host with fifoSev := v.toNat % 4, irqLow := t.host.irqLow } ∧ Only [.host] s.dev t) ∧
  (∀ (s : State) (i : Iface) (n : Fin 4) (v : BitVec 32), Yields (.registerWrite i (BitVec.ofNat 16 (0x44 + 16 * n.val)) v) s fun t =>
      mailbox t n.val = { mailbox s.dev n.val with
        respReady := (mailbox s.dev n.val).respReady && !v.getLsbD 0
        dbIgnored := (mailbox s.dev n.val).dbIgnored && !v.getLsbD 2
        writeLocked := (mailbox s.dev n.val).writeLocked && !v.getLsbD 3 } ∧
      (∀ m, m ≠ n.val → mailbox t m = mailbox s.dev m) ∧
      t.host = { s.dev.host with mbs := t.host.mbs, irqLow := t.host.irqLow } ∧ Only [.host] s.dev t) ∧
  (∀ (s : State) (i : Iface) (n : Fin 4) (v : BitVec 32), (i ≠ ownIface n.val ∨ served s.dev = false) →
    Yields (.registerWrite i (BitVec.ofNat 16 (0x40 + 16 * n.val)) v) s fun t =>
      t.host = { s.dev.host with irqLow := t.host.irqLow } ∧ Only [] s.dev t) ∧
  (∀ (s : State) (v : BitVec 32), Yields (.irqStatusClear v) s fun t =>
      t.host = { s.dev.host with irqStatus := s.dev.host.irqStatus &&& ~~~v, irqLow := t.host.irqLow } ∧
      t.host.irqLow = decide ((s.dev.host.irqStatus &&& ~~~v &&& s.dev.host.irqEnable) ≠ 0) ∧ Only [.host] s.dev t)

/-- A word written from the owning interface stands in an idle mailbox's buffer and no other byte changes; while the
mailbox is busy it sets WRITE_LOCKED alone; from another interface, or into a response buffer, it is ignored; while
the boot window is open it stands in the boot buffer; a debug write reaches its register only with DBG_WRITE set and
the block's clock on. Rests on 21_mailbox_interface R807 to R810; 21_mailbox_interface R811 to R816, R894, R896;
18_clocks_resets_power R718 to R720. The model's own choices in it: the boot buffer and the pages of the window are
read as in log 96. -/
def Obligations.RequestBuffersAndDebugWindow : Prop :=
  (∀ (s : State) (n : Fin 4) (o : Nat) (b : List Byte), bootWindow s.dev = false → o < 0x1000 → o % 4 = 0 → b.length = 4 →
    (mailbox s.dev n.val).busy = false →
    Yields (.requestBufferWrite (ownIface n.val) (BitVec.ofNat 24 (0x2000 * n.val + o)) b) s fun t =>
      (∀ k, k < 4 → memGet (mailbox t n.val).req (o + k) = b.getD k 0) ∧
      (∀ a, (a < o ∨ o + 4 ≤ a) → memGet (mailbox t n.val).req a = memGet (mailbox s.dev n.val).req a) ∧
      mailbox t n.val = { mailbox s.dev n.val with req := (mailbox t n.val).req } ∧
      (∀ m, m ≠ n.val → mailbox t m = mailbox s.dev m) ∧
      t.host = { s.dev.host with mbs := t.host.mbs, irqLow := t.host.irqLow } ∧ Only [.host] s.dev t) ∧
  (∀ (s : State) (n : Fin 4) (o : Nat) (b : List Byte), bootWindow s.dev = false → o < 0x1000 → o % 4 = 0 → b.length = 4 →
    (mailbox s.dev n.val).busy = true →
    Yields (.requestBufferWrite (ownIface n.val) (BitVec.ofNat 24 (0x2000 * n.val + o)) b) s fun t =>
      mailbox t n.val = { mailbox s.dev n.val with writeLocked := true } ∧
      (∀ m, m ≠ n.val → mailbox t m = mailbox s.dev m) ∧
      t.host = { s.dev.host with mbs := t.host.mbs, irqLow := t.host.irqLow } ∧ Only [.host] s.dev t) ∧
  (∀ (s : State) (i : Iface) (n : Fin 4) (o : Nat) (b : List Byte), bootWindow s.dev = false → o < 0x2000 → o % 4 = 0 →
    b.length = 4 → (i ≠ ownIface n.val ∨ 0x1000 ≤ o) →
    Yields (.requestBufferWrite i (BitVec.ofNat 24 (0x2000 * n.val + o)) b) s fun t =>
      t.host = { s.dev.host with irqLow := t.host.irqLow } ∧ Only [] s.dev t) ∧
  (∀ (s : State) (i : Iface) (o : BitVec 24) (b : List Byte), bootWindow s.dev = true → o.toNat % 4 = 0 → b.length = 4 →
    Yields (.requestBufferWrite i o b) s fun t =>
      (∀ k, k < 4 → memGet t.host.bootBuf (o.toNat + k) = b.getD k 0) ∧
      (∀ a, (a < o.toNat ∨ o.toNat + 4 ≤ a) → memGet t.host.bootBuf a = memGet s.dev.host.bootBuf a) ∧
      t.host = { s.dev.host with bootBuf := t.host.bootBuf, irqLow := t.host.irqLow } ∧ Only [.host] s.dev t) ∧
  (∀ (s : State) (o : BitVec 23) (v : BitVec 32) (b : Option (Fin 18)), bootWindow s.dev = false → o.toNat % 4 = 0 →
    s.dev.host.dbgWrite = true → (∀ k, b = some k → clkOn s.dev k.val = true) →
    Yields (.debugWindowWrite o v b) s fun t =>
      (Tab.get (fun _ => 0) t.host.dbgRegs (s.dev.host.dbgPage * 2 ^ 23 + o.toNat) : BitVec 32) = v ∧
      (∀ a, a ≠ s.dev.host.dbgPage * 2 ^ 23 + o.toNat →
        (Tab.get (fun _ => 0) t.host.dbgRegs a : BitVec 32) = Tab.get (fun _ => 0) s.dev.host.dbgRegs a) ∧
      t.host = { s.dev.host with dbgRegs := t.host.dbgRegs, irqLow := t.host.irqLow } ∧ Only [.host] s.dev t) ∧
  (∀ (s : State) (o : BitVec 23) (v : BitVec 32) (b : Option (Fin 18)), bootWindow s.dev = false →
    (s.dev.host.dbgWrite = false ∨ ∃ k, b = some k ∧ clkOn s.dev k.val = false) →
    Yields (.debugWindowWrite o v b) s fun t =>
      t.host = { s.dev.host with irqLow := t.host.irqLow } ∧ Only [] s.dev t)

/-- A request whose bytes fail checks 1 to 4 is answered with that status; a transfer that ends runs the rest of its
command and answers; the script ends after its last record and stops at a failed one with BOOT_SCRIPT_FAIL; a boot
doorbell takes a valid header and starts the clocks, an invalid one leaves the cause for the host. Rests on
21_mailbox_interface R811 to R816, R894, R896; 15_latency_and_load R629 to R638; 20_startup_and_nonvolatile_store R784
to R791; 20_startup_and_nonvolatile_store R774 to R778. The model's own choices in it: transfers and the script are
read as in logs 93 and 99. -/
def Obligations.RequestsAndTransfers : Prop :=
  (∀ (s : State) (n : Fin 4) (len : BitVec 16) (b : List Byte) (st : Status), served s.dev = true →
    (mailbox s.dev n.val).busy = false → 16 ≤ len.toNat → len.toNat ≤ 4096 →
    requestFault len.toNat (fit len.toNat b) = some st →
    Yields (.mailboxRequestRefused n len b) s fun t =>
      (mailbox t n.val).lastStatus = st.code ∧ (mailbox t n.val).lastSeq = rd (fit len.toNat b) 2 2 ∧
      (mailbox t n.val).busy = false ∧ (mailbox t n.val).respReady = true ∧ t.host.irqStatus.getLsbD n.val = true ∧
      OnlyMailbox n.val s.dev t) ∧
  (∀ (s : State) (mb : Fin 5) (h : Held) (c : Cmd) (q : Resp × Device),
    (s.dev.host.transfers.find? fun h => h.req.mb = mb) = some h → cmdOf h.op h.req.params = some c → mb.val < 4 →
    q = runCmd h.op c h.req false (modHost (fun x => { x with transfers := x.transfers.erase h }) (putOut [] s.dev)) →
    q.2.host.waiting = [] → Yields (.dmaTransferComplete mb false) s fun t =>
      Answered h.op h.req q.1 t ∧ t.host.transfers = q.2.host.transfers ∧ Only [.host] q.2 t) ∧
  (∀ s : State, s.dev.boot.stage = .script → s.dev.boot.fwRuns = true → s.dev.boot.scriptDone = false →
    s.dev.accord.standby ≠ .scheduled → s.dev.accord.standby ≠ .switching → (mailbox s.dev 1).busy = false →
    (s.dev.boot.scriptNext.1 = 0 ∨ (mailbox s.dev 1).lastStatus = Status.ok.code) →
    bhScriptLen s.dev.boot.header ≤ s.dev.boot.scriptNext.2 → Yields .startupScript s fun t =>
      t.boot = { s.dev.boot with scriptDone := true } ∧ Only [.boot] s.dev t) ∧
  (∀ (s : State) (k : Nat), s.dev.boot.stage = .script → s.dev.boot.fwRuns = true → s.dev.boot.scriptDone = false →
    s.dev.accord.standby ≠ .scheduled → s.dev.accord.standby ≠ .switching → (mailbox s.dev 1).busy = false →
    s.dev.boot.scriptNext.1 = k + 1 → (mailbox s.dev 1).lastStatus ≠ Status.ok.code →
    (mailbox s.dev 1).lastStatus ≠ Status.pending.code → Yields .startupScript s fun t =>
      t.boot.scriptDone = true ∧ Faulted 0x1006 0 s.dev t ∧ Only (.boot :: Part.ofFault) s.dev t) ∧
  (∀ (s : State) (len : BitVec 32), romAt s.dev .rom = true → s.dev.boot.bootSrc = 1 →
    bootHdrOk (memRead s.dev.host.bootBuf 0 256) = true → Yields (.bootDoorbell len) s fun t =>
      t.boot.header = memRead s.dev.host.bootBuf 0 256 ∧ t.boot.pcie = true ∧ t.boot.stage = afterHdr s.dev ∧
      t.host.bootBell = len.toNat ∧ Only [.boot, .host] s.dev t) ∧
  (∀ (s : State) (len : BitVec 32), romAt s.dev .rom = true → s.dev.boot.bootSrc = 1 →
    bootHdrOk (memRead s.dev.host.bootBuf 0 256) = false → Yields (.bootDoorbell len) s fun t =>
      t.boot = { s.dev.boot with cause := 5 } ∧ t.host.bootBell = 0 ∧ Only [.boot, .host] s.dev t)

/-- The oldest record goes to the FIFO or to its ring with the next sequence number, or is dropped and counted when there
is no room; an EVENT_LOSS record follows when room returns; a coalesced message is sent when its interval ends;
popping, the read-to-clear counters and RING_TAIL act as Table 21-1 gives, an impossible tail being ignored. Rests on
21_mailbox_interface R820 to R823; 21_mailbox_interface R824 to R827; 21_mailbox_interface R807 to R810. The model's
own choices in it: delivery is read as in logs 97 and 98. -/
def Obligations.EventDestinations : Prop :=
  (∀ (s : State) (e : EventRec), eventsRun s.dev = true → s.dev.evq.find? (mayDeliver s.dev) = some e →
    destsOf s.dev e = [none] → (lossOf s.dev none).count = 0 → s.dev.host.fifo.length < 256 →
    (e.member ≠ s.dev.stack.stackId ∨ (s.dev.stack.acting ≠ .member ∧ s.dev.stack.acting ≠ .standby ∧
      s.dev.stack.mb4Pend = [])) → Yields .eventDelivery s fun t =>
      t.evq = s.dev.evq.erase e ∧
      t.host.fifo = s.dev.host.fifo ++ [eventBytes e s.dev.host.fifoLoss.seq] ∧
      t.host.fifoLoss = { s.dev.host.fifoLoss with seq := wrap 16 (s.dev.host.fifoLoss.seq + 1) } ∧
      (s.dev.host.fifo = [] → t.host.irqStatus.getLsbD 6 = true) ∧ t.host.rings = s.dev.host.rings ∧
      Only [.host, .evq] s.dev t) ∧
  (∀ (s : State) (e : EventRec), eventsRun s.dev = true → s.dev.evq.find? (mayDeliver s.dev) = some e →
    destsOf s.dev e = [none] → 256 ≤ s.dev.host.fifo.length → e.type ≠ 0x0904 → (e.member ≠ s.dev.stack.stackId ∨ (s.dev.stack.acting ≠ .member ∧ s.dev.stack.acting ≠ .standby ∧
      s.dev.stack.mb4Pend = [])) →
    Yields .eventDelivery s fun t =>
      t.evq = s.dev.evq.erase e ∧ t.host.fifo = s.dev.host.fifo ∧
      t.host.fifoDrop = sat 32 (s.dev.host.fifoDrop + 1) ∧
      t.host.fifoLoss.count = sat 32 (s.dev.host.fifoLoss.count + 1) ∧ t.host.irqStatus.getLsbD 8 = true ∧
      Only [.host, .evq] s.dev t) ∧
  (∀ (s : State) (e : EventRec) (k : Nat), eventsRun s.dev = true → s.dev.evq.find? (mayDeliver s.dev) = some e →
    destsOf s.dev e = [some k] → (ring s.dev k).loss.count = 0 → ringFull (ring s.dev k) = false →
    (e.member ≠ s.dev.stack.stackId ∨ (s.dev.stack.acting ≠ .member ∧ s.dev.stack.acting ≠ .standby ∧
      s.dev.stack.mb4Pend = [])) → Yields .eventDelivery s fun t =>
      t.evq = s.dev.evq.erase e ∧ (ring t k).head = ((ring s.dev k).head + 1) % (ring s.dev k).entries ∧
      .dma ((ring s.dev k).base + (ring s.dev k).head * entrySize (ring s.dev k).kind)
        (eventBytes e (ring s.dev k).loss.seq) ∈ t.out ∧
      (∀ j, j ≠ k → ring t j = ring s.dev j) ∧ t.host.fifo = s.dev.host.fifo ∧ Only [.host, .evq] s.dev t) ∧
  (∀ s : State, eventsRun s.dev = true → s.dev.host.fifoLoss.count ≠ 0 → s.dev.host.fifo.length < 256 →
    Yields (.eventLoss 64) s fun t =>
      t.host.fifoLoss.count = 0 ∧
      t.host.fifo = s.dev.host.fifo ++ [eventBytes
        { type := 0x0002, source := 0, sev := 0, member := s.dev.stack.stackId, t := s.dev.host.fifoLoss.span.1
          payload := le 4 s.dev.host.fifoLoss.count ++ le 4 (s.dev.host.fifoLoss.span.2 / SEC) ++
            le 4 (s.dev.host.fifoLoss.span.2 % SEC / NS) } s.dev.host.fifoLoss.seq] ∧
      t.evq = s.dev.evq ∧ Only [.host] s.dev t) ∧
  (∀ (s : State) (k : Fin 64), (ring s.dev k.val).msiWaits = true →
    (∀ u, (ring s.dev k.val).lastMsi = some u → u + (ring s.dev k.val).coalesce * US ≤ s.dev.timing.now) →
    msixMasked s.dev (ring s.dev k.val).vector = false → Yields (.msixCoalesceExpiry k) s fun t =>
      t.out = [.msix (ring s.dev k.val).vector] ∧
      ring t k.val = { ring s.dev k.val with lastMsi := some s.dev.timing.now, msiWaits := false } ∧
      (∀ j, j ≠ k.val → ring t j = ring s.dev j) ∧ Only [.host] s.dev t) ∧
  (∀ (s : State) (v : BitVec 32), v.getLsbD 0 = true → Yields (.evtFifoPop v) s fun t =>
      t.host = { s.dev.host with fifo := s.dev.host.fifo.drop 1, irqLow := t.host.irqLow } ∧ Only [.host] s.dev t) ∧
  (∀ s : State, Yields .evtFifoDropRead s fun t =>
      t.out = [.read (BitVec.ofNat 32 s.dev.host.fifoDrop)] ∧
      t.host = { s.dev.host with fifoDrop := 0, irqLow := t.host.irqLow } ∧ Only [.host] s.dev t) ∧
  (∀ (s : State) (k : Fin 64) (v : BitVec 32), tailOk (ring s.dev k.val) v.toNat = true → Yields (.ringTailWrite k v) s fun t =>
      ring t k.val = { ring s.dev k.val with tail := v.toNat } ∧ (∀ j, j ≠ k.val → ring t j = ring s.dev j) ∧
      t.host = { s.dev.host with rings := t.host.rings, irqLow := t.host.irqLow } ∧ Only [.host] s.dev t) ∧
  (∀ (s : State) (k : Fin 64) (v : BitVec 32), tailOk (ring s.dev k.val) v.toNat = false → Yields (.ringTailWrite k v) s fun t =>
      t.host = { s.dev.host with irqLow := t.host.irqLow } ∧ Only [] s.dev t) ∧
  (∀ (s : State) (k : Fin 64), Yields (.ringDropRead k) s fun t =>
      t.out = [.read (BitVec.ofNat 32 (ring s.dev k.val).drop)] ∧ ring t k.val = { ring s.dev k.val with drop := 0 } ∧
      (∀ j, j ≠ k.val → ring t j = ring s.dev j) ∧ Only [.host] s.dev t)

/-- Signal detection starts and ends adaptation; lock and its loss follow the CDR and the estimated BER; the eighth
restart of adaptation raises the lane's fault; polarity, marker lock and deskew follow their inputs with their events;
loss of a lane group's reference takes its locked lanes to HL_ADAPTING with its fault and its return ends it; a group
leaves reset; a scan keeps its maps and reports its end. Carriers do not change. Rests on 16_host_lanes R644 to R648;
16_host_lanes R649 to R651; 16_host_lanes R652 to R654; 16_host_lanes R640 to R643; 16_host_lanes R660 to R662. The
model's own choices in it: lock loss and scans are read as in log 81. -/
def Obligations.HostLaneReception : Prop :=
  (∀ (s : State) (i : Fin 32), ballsIgnored (lane s.dev i.val) = false → (lane s.dev i.val).state = .noSignal →
    Yields (.hlSignalDetect i true) s fun t =>
      (lane t i.val).state = .adapting ∧ (lane t i.val).since = s.dev.timing.now ∧ (lane t i.val).adaptTicks = 0 ∧
      (∀ j, j ≠ i.val → (lane t j).state = (lane s.dev j).state) ∧ t.tx = s.dev.tx ∧ t.rx = s.dev.rx) ∧
  (∀ (s : State) (i : Fin 32), ballsIgnored (lane s.dev i.val) = false →
    ((lane s.dev i.val).state = .locked ∨ (lane s.dev i.val).state = .adapting) →
    Yields (.hlSignalDetect i false) s fun t =>
      (lane t i.val).state = .noSignal ∧ (lane t i.val).restarts = 0 ∧
      ((lane s.dev i.val).state = .locked → (lane t i.val).amLock = false ∧ (lane t i.val).polFixed = false) ∧
      (∀ j, j ≠ i.val → (lane t j).state = (lane s.dev j).state) ∧ t.tx = s.dev.tx ∧ t.rx = s.dev.rx) ∧
  (∀ (s : State) (i : Fin 32) (ber : Nat), (lane s.dev i.val).state = .adapting → ber < 240000 →
    s.dev.lanes.refLost.getLsbD (i.val / 4) = false → Yields (.hlLockChange i true ber) s fun t =>
      (lane t i.val).state = .locked ∧ (lane t i.val).estBer = ber ∧ (lane t i.val).restarts = 0 ∧
      (source t 0x0C02 i.val).cond = false ∧ (∀ j, j ≠ i.val → (lane t j).state = (lane s.dev j).state) ∧
      t.tx = s.dev.tx ∧ t.rx = s.dev.rx) ∧
  (∀ (s : State) (i : Fin 32) (cdr : Bool) (ber : Nat), (lane s.dev i.val).state = .locked →
    (cdr = false ∨ 1000000 < ber) → Yields (.hlLockChange i cdr ber) s fun t =>
      (lane t i.val).state = .adapting ∧ (lane t i.val).lockLoss = sat 32 ((lane s.dev i.val).lockLoss + 1) ∧
      (lane t i.val).amLock = false ∧ (∀ j, j ≠ i.val → (lane t j).state = (lane s.dev j).state) ∧
      t.tx = s.dev.tx ∧ t.rx = s.dev.rx) ∧
  (∀ (s : State) (i : Fin 32), (lane s.dev i.val).state = .adapting → 50001 ≤ (lane s.dev i.val).adaptTicks →
    Yields (.hlAdaptTimeout i) s fun t =>
      lane t i.val = { lane s.dev i.val with
        adaptTicks := 0, restarts := min 15 ((lane s.dev i.val).restarts + 1)
        adaptRestart := sat 32 ((lane s.dev i.val).adaptRestart + 1) } ∧
      (∀ j, j ≠ i.val → lane t j = lane s.dev j) ∧
      (7 ≤ (lane s.dev i.val).restarts → (source s.dev 0x0C02 i.val).cond = false →
        (source t 0x0C02 i.val).cond = true ∧ Faulted 0x0C02 i.val s.dev t) ∧
      ((lane s.dev i.val).restarts < 7 → Only [.lanes] s.dev t) ∧ Only (.lanes :: Part.ofFault) s.dev t) ∧
  (∀ (s : State) (i : Fin 32), (lane s.dev i.val).state = .locked → (lane s.dev i.val).amLock = false →
    (lane s.dev i.val).polFixed = false → tb (hlSet s.dev i.val 10) 2 = true →
    (lane s.dev i.val).since + 10 * MS ≤ s.dev.timing.now → Yields (.hlPolarity i true) s fun t =>
      lane t i.val = { lane s.dev i.val with polFixed := true } ∧ Raised 0x0C01 i.val 0 [1] s.dev t ∧
      (∀ j, j ≠ i.val → lane t j = lane s.dev j) ∧ Only [.lanes, .evq] s.dev t) ∧
  (∀ (s : State) (i : Fin 32) (id : Nat), (lane s.dev i.val).state = .locked → (lane s.dev i.val).amLock = false →
    Yields (.alignmentMarkerLock i true id) s fun t =>
      (lane t i.val).amLock = true ∧ (lane t i.val).laneId = some (id % 32) ∧ (lane t i.val).state = .locked ∧
      (∀ j, j ≠ i.val → (lane t j).amLock = (lane s.dev j).amLock) ∧ t.tx = s.dev.tx ∧ t.rx = s.dev.rx) ∧
  (∀ (s : State) (i : Fin 32) (id : Nat), (lane s.dev i.val).amLock = true →
    Yields (.alignmentMarkerLock i false id) s fun t =>
      (lane t i.val).amLock = false ∧ (lane t i.val).laneId = none ∧
      (lane t i.val).state = (lane s.dev i.val).state ∧
      (∀ j, j ≠ i.val → (lane t j).amLock = (lane s.dev j).amLock) ∧ t.tx = s.dev.tx ∧ t.rx = s.dev.rx) ∧
  (∀ (s : State) (i : Fin 32) (k : ClientPlan), ((plan s.dev).clients.find? fun k => k.lane = i.val) = some k →
    allMarked s.dev k = true → (source s.dev 0x0C03 k.lane).cond = false → Yields (.hlDeskewFail i true) s fun t =>
      (lane t i.val).skewBad = true ∧ (∀ j, j ∈ lanesOf k → (lane t j).deskewFailed = true) ∧
      (source t 0x0C03 k.lane).cond = true ∧ Faulted 0x0C03 k.lane s.dev t ∧ t.tx = s.dev.tx ∧ t.rx = s.dev.rx) ∧
  (∀ (s : State) (k : Fin 8), (source s.dev 0x0C01 k.val).cond = false → Yields (.hlRefclkLoss k) s fun t =>
      t.lanes.refLost = s.dev.lanes.refLost ||| (1#8 <<< k.val) ∧
      (∀ i, i ∈ groupLanes k.val → (lane t i).state =
        (if (lane s.dev i).state = .locked then .adapting else (lane s.dev i).state)) ∧
      (∀ i, i ∉ groupLanes k.val → (lane t i).state = (lane s.dev i).state) ∧
      (source t 0x0C01 k.val).cond = true ∧ Faulted 0x0C01 k.val s.dev t ∧ t.tx = s.dev.tx ∧ t.rx = s.dev.rx) ∧
  (∀ (s : State) (k : Fin 8), Yields (.hlRefclkReturn k) s fun t =>
      t.lanes = { s.dev.lanes with refLost := s.dev.lanes.refLost &&& ~~~(1#8 <<< k.val) } ∧
      (source t 0x0C01 k.val).cond = false ∧ Only [.lanes, .fault] s.dev t) ∧
  (∀ (s : State) (k : Fin 8), inReset s.dev (.lg k) = true →
    (∀ c, (Domain.lg k, c) ∈ s.dev.clock.inReset → causeGone s.dev (.lg k) c = true) →
    Yields (.hlResetRelease k) s fun t => inReset t (.lg k) = false ∧ ∀ e, e ≠ .lg k → inReset t e = inReset s.dev e) ∧
  (∀ (s : State) (i : Fin 32) (maps : List Byte) (h : Held), (lane s.dev i.val).scan = some h →
    ⟨h.req.mb.val, h.op, h.req.seq.toNat⟩ ∈ s.dev.host.pendCmds → Yields (.eyeScanComplete i maps) s fun t =>
      lane t i.val = { lane s.dev i.val with
        scan := none
        eye := some ⟨rd h.req.params 1 1, fit (520 * (bit (tb (rd h.req.params 1 1) 0) + bit (tb (rd h.req.params 1 1) 1) +
          bit (tb (rd h.req.params 1 1) 2))) maps⟩ } ∧
      (∀ j, j ≠ i.val → lane t j = lane s.dev j) ∧
      Raised 0x0001 h.req.mb.val 0
        (le 1 h.req.mb.val ++ le 1 Status.ok.code ++ le 2 h.op ++ le 2 h.req.seq.toNat) s.dev t ∧
      Only [.lanes, .host, .evq] s.dev t)

/-- An event moves its source by its effective class, is logged once per slow tick, and keeps every other source;
reactions begin with FAULT_RAISED and the resets that are due; a quiet period ends an ACTIVE source, class U counting
a recovery and latching at the sixteenth within 3,600 s; recovery phases, injections and the black-box copy end as
their rules say. Rests on 19_fault_handling R743 to R746; 19_fault_handling R747 to R752; 19_fault_handling R753 to
R756, R892, R893; 19_fault_handling R759 to R762; 19_fault_handling R763 to R766; 19_fault_handling R767. The model's
own choices in it: windows, raw moments and reactions are read as in logs 21, 86, 87 and 88. -/
def Obligations.FaultCollector : Prop :=
  (∀ (s : State) (e : FaultEntry), isSource e.id e.inst = true → e.kind = 1 → e.inverted = false → e.id ≠ 0x0341 →
    Yields (.faultEvent [e]) s fun t =>
      Faulted e.id e.inst s.dev t ∧ (source t e.id e.inst).pulse = true ∧
      (source t e.id e.inst).st = nextPhase s.dev { id := e.id, inst := e.inst, detail := e.detail } ∧
      ((source s.dev e.id e.inst).logged = false → ∃ r, t.fault.log = (r :: s.dev.fault.log).take 1024 ∧
        r.id = e.id ∧ r.inst = e.inst ∧ r.t = s.dev.timing.now ∧ r.detail = e.detail ∧
        r.cls = effClass s.dev { id := e.id, inst := e.inst, detail := e.detail }) ∧
      ((source s.dev e.id e.inst).logged = true → t.fault.log = s.dev.fault.log) ∧
      (∀ id inst, isSource id inst = true → (id, inst) ≠ (e.id, e.inst) → source t id inst = source s.dev id inst) ∧
      Only Part.ofFault s.dev t) ∧
  (∀ (s : State) (e : FaultIn), belowCount s.dev e = false → e.injected = false → clsOf e.id = 2 →
    nextPhase s.dev e = .latched) ∧
  (∀ (s : State) (e : FaultIn), belowCount s.dev e = false → e.injected = false → clsOf e.id ≠ 2 →
    (source s.dev e.id e.inst).st = .quiet → nextPhase s.dev e = .active) ∧
  (∀ (s : State) (e : FaultIn), belowCount s.dev e = true → nextPhase s.dev e = (source s.dev e.id e.inst).st) ∧
  (∀ (s : State) (e : FaultEntry), e.kind = 2 → Yields (.faultEvent [e]) s fun t =>
      (source t e.id e.inst).cond = false ∧ (source t e.id e.inst).st = (source s.dev e.id e.inst).st ∧
      (source t e.id e.inst).events = (source s.dev e.id e.inst).events ∧ Only [.fault] s.dev t) ∧
  (∀ s : State, (∀ p, p ∈ s.dev.fault.sources → p.2.due.getLsbD 7 = false) → Yields .faultReaction s fun t =>
      t.evq = s.dev.evq ++ s.dev.fault.dueRaised.map (·.2) ∧ t.fault.dueRaised = [] ∧
      (s.dev.fault.dueRaised ≠ [] → t.host.irqStatus.getLsbD 5 = true) ∧ t.fault.log = s.dev.fault.log ∧
      Only [.fault, .evq, .host] s.dev t) ∧
  (∀ (s : State) (id inst : Nat), (s.dev.fault.sources.filter fun p => p.2.due.getLsbD 7).map (·.1) = [srcKey id inst] →
    inst < 256 → Yields .faultReaction s fun t => inReset t (domainOf id inst) = true) ∧
  (∀ (s : State) (id inst : Nat), (source s.dev id inst).st = .active → (source s.dev id inst).quiet = some 0 → clsOf id ≠ 1 →
    Yields (.faultQuietExpiry id inst) s fun t =>
      source t id inst = { source s.dev id inst with
        st := .quiet, quiet := none, held := 0, due := 0, lastChange := s.dev.timing.now } ∧
      (faultSet s.dev id inst 4 / 2 % 2 = 1 → Raised 0x0F02 id 0
        (fields 8 [(0, le 1 inst), (6, le 2 (source s.dev id inst).recoveries)]) s.dev t) ∧
      Only [.fault, .evq] s.dev t) ∧
  (∀ (s : State) (id inst : Nat), (source s.dev id inst).st = .active → (source s.dev id inst).quiet = some 0 → clsOf id = 1 →
    (source s.dev id inst).recent.length < 15 → Yields (.faultQuietExpiry id inst) s fun t =>
      (source t id inst).st = .quiet ∧ (source t id inst).recoveries = sat 16 ((source s.dev id inst).recoveries + 1) ∧
      (source t id inst).recent = 0 :: (source s.dev id inst).recent.take 14 ∧ (source t id inst).held = 0 ∧
      Only [.fault, .evq] s.dev t) ∧
  (∀ (s : State) (id inst : Nat), (source s.dev id inst).st = .active → (source s.dev id inst).quiet = some 0 → clsOf id = 1 →
    (source s.dev id inst).recent.length = 15 → (∀ a, a ∈ (source s.dev id inst).recent → a < 3600) →
    Yields (.faultQuietExpiry id inst) s fun t =>
      (source t id inst).st = .latched ∧ (source t id inst).quiet = none ∧
      (source t id inst).recoveries = sat 16 ((source s.dev id inst).recoveries + 1) ∧
      (∃ r, t.fault.log = (r :: s.dev.fault.log).take 1024 ∧ r.id = id ∧ r.inst = inst ∧ r.flags = 8) ∧
      Only [.fault] s.dev t) ∧
  (∀ (s : State) (d : Domain), (d, 0) ∈ s.dev.fault.recovery → Yields (.recoveryPhaseEnd d) s fun t =>
      t.fault.recovery = s.dev.fault.recovery.filter (fun p => p ≠ (d, 0)) ∧ t.fault.log = s.dev.fault.log ∧
      Only [.fault] s.dev t) ∧
  (∀ (s : State) (id inst quiet : Nat) (a : Injection), armedAt s.dev id inst = some a → a.left ≤ quiet →
    Yields (.faultInjectDone id inst quiet) s fun t =>
      armedAt t id inst = none ∧ Raised 0x0F03 id 0 (le 1 inst ++ le 1 a.marked) s.dev t ∧
      t.fault.sources = s.dev.fault.sources ∧ Only [.fault, .evq] s.dev t) ∧
  (∀ (s : State) (r : FaultRec) (rest : List FaultRec), s.dev.fault.toBlackBox = r :: rest → s.dev.boot.nand.present = true →
    Yields .blackboxCopy s fun t =>
      t.boot = { s.dev.boot with nand := { s.dev.boot.nand with
        blackBox := (r :: s.dev.boot.nand.blackBox).take 65536 } } ∧
      t.fault = { s.dev.fault with toBlackBox := rest, pinLow := t.fault.pinLow } ∧ Only [.boot, .fault] s.dev t)

/-- The ROM takes the header copy by the rule of sequence numbers, or the default; a verified image runs and a start whose
images all fail stops with cause 2 and both reasons; self-test and training failures stop boot or power a carrier off;
the archive is mounted; the boot Accord is optional and its failure a fault; ready raises FW_READY and ends the start-
up phase. Rests on 20_startup_and_nonvolatile_store R774 to R778; 20_startup_and_nonvolatile_store R779 to R783;
20_startup_and_nonvolatile_store R784 to R791. The model's own choices in it: the images examined are operands (log
89). -/
def Obligations.StartupStages : Prop :=
  (∀ s : State, romAt s.dev .rom = true → s.dev.boot.bootSrc ≠ 1 → Yields .bootHeaderRead s fun t =>
      t.boot.stage = afterHdr s.dev ∧ t.boot.copy = hdrChoice s.dev.boot.headers ∧
      (hdrChoice s.dev.boot.headers = some 0 → t.boot.header = s.dev.boot.headers.a ∧ t.boot.headerDefault = false) ∧
      (hdrChoice s.dev.boot.headers = some 1 → t.boot.header = s.dev.boot.headers.b ∧ t.boot.headerDefault = false) ∧
      (hdrChoice s.dev.boot.headers = none → t.boot.header = defaultHdr ∧ t.boot.headerDefault = true) ∧
      t.boot.headers = s.dev.boot.headers ∧ Only [.boot, .host] s.dev t) ∧
  (∀ (s : State) (a b p : FwImageIn), romAt s.dev .fwLoad = true → s.dev.boot.pcie = false → s.dev.boot.bootSrc ≠ 1 →
    bhTrial s.dev.boot.header % 2 = 0 → bhPref s.dev.boot.header % 2 = 0 → fwStatus s.dev a = 0 →
    Yields (.firmwareVerified a b p) s fun t =>
      t.boot.fwRuns = true ∧ t.boot.fwSlot = 0 ∧ t.boot.fwVersion = rd a.header 16 4 ∧ t.boot.slots.a.status = some 0 ∧
      t.boot.stage = (if s.dev.boot.kind = .mgmt then .dramTrain else .selfTest) ∧ t.boot.slots.b = s.dev.boot.slots.b ∧
      Only [.boot, .host] s.dev t) ∧
  (∀ (s : State) (a b p : FwImageIn), romAt s.dev .fwLoad = true → s.dev.boot.pcie = false → s.dev.boot.bootSrc = 0 →
    bhTrial s.dev.boot.header % 2 = 0 → fwStatus s.dev a ≠ 0 → fwStatus s.dev b ≠ 0 →
    Yields (.firmwareVerified a b p) s fun t =>
      t.boot.stage = .stopped ∧ t.boot.cause = 2 ∧ t.boot.detail = fwStatus s.dev a + 16 * fwStatus s.dev b ∧
      t.boot.fwRuns = s.dev.boot.fwRuns ∧ Only [.boot, .host] s.dev t) ∧
  (∀ (s : State) (car : Two Bool), s.dev.boot.stage = .selfTest → s.dev.boot.fwRuns = true →
    Yields (.sramSelfTestComplete car none) s fun t =>
      t.boot.stage = .dramTrain ∧ t.boot.bistFail = car ∧
      (car.a = true ∨ car.b = true → Faulted 0x1004 0 s.dev t) ∧ Only (.boot :: .host :: Part.ofFault) s.dev t) ∧
  (∀ (s : State) (car : Two Bool) (block : Nat), s.dev.boot.stage = .selfTest → s.dev.boot.fwRuns = true →
    Yields (.sramSelfTestComplete car (some block)) s fun t =>
      t.boot.stage = .stopped ∧ t.boot.cause = 3 ∧ t.boot.detail = block ∧ Only [.boot, .host] s.dev t) ∧
  (∀ (s : State) (n : Option NandIn) (w : Fin 4), s.dev.boot.stage = .dramTrain → s.dev.boot.fwRuns = true →
    s.dev.boot.kind ≠ .mgmt → Yields (.dramTrainingComplete (some w) n) s fun t =>
      t.boot.stage = .stopped ∧ t.boot.cause = 4 ∧ t.boot.detail = w.val ∧ Only [.boot, .host] s.dev t) ∧
  (∀ (s : State) (n : NandIn), s.dev.boot.stage = .dramTrain → s.dev.boot.fwRuns = true → s.dev.boot.kind ≠ .mgmt →
    Yields (.dramTrainingComplete none (some n)) s fun t =>
      t.boot.stage = .accord ∧ inReset t .dram = false ∧ t.boot.nand.present = true ∧
      t.boot.nand.capacity = n.capacity ∧ t.accord.slots = [] ∧ t.tx = s.dev.tx ∧ t.rx = s.dev.rx ∧
      t.settings = s.dev.settings) ∧
  (∀ (s : State) (x : BootAccordIn), s.dev.boot.stage = .accord → s.dev.boot.fwRuns = true →
    rd s.dev.boot.header 28 1 = 0 → Yields (.bootAccord x) s fun t =>
      t.boot = { s.dev.boot with stage := .script } ∧ Only [.boot, .host] s.dev t) ∧
  (∀ (s : State) (x : BootAccordIn), s.dev.boot.stage = .accord → s.dev.boot.fwRuns = true →
    rd s.dev.boot.header 28 1 ≠ 0 → bootImage s.dev x = none → Yields (.bootAccord x) s fun t =>
      t.boot.stage = .script ∧ Faulted 0x1005 0 s.dev t ∧ t.accord = s.dev.accord ∧
      Only (.boot :: .host :: Part.ofFault) s.dev t) ∧
  (∀ s : State, s.dev.boot.stage = .script → s.dev.boot.fwRuns = true → s.dev.boot.scriptDone = true →
    s.dev.host.cancelled = [] → s.dev.boot.headerDefault = false → s.dev.boot.refusedSlot = false →
    s.dev.boot.reverted = false → Yields .fwReady s fun t =>
      t.boot = { s.dev.boot with stage := .ready } ∧ t.fault.startup = false ∧
      Raised 0x1001 0 0 (fields 8 [(0, le 1 (match s.dev.boot.kind with | .por => 0 | .device => 1 | .mgmt => 2)),
        (4, le 4 s.dev.boot.fwVersion)]) s.dev t ∧ Only [.boot, .host, .fault, .evq] s.dev t)

/-- A patrol takes the wear and raises NAND_WEAR_HIGH at 90 % and NAND_UE for an unreadable entry, which it marks; a grown
block comes from the reserve, then from the spill area; an erase makes its sector read erased, a failed one is
reported; activation of a good image prefers the idle slot on trial, of a bad one changes nothing but its slot; a
format empties the archive. Rests on 20_startup_and_nonvolatile_store R793 to R800; 20_startup_and_nonvolatile_store
R779 to R783; 20_startup_and_nonvolatile_store R801. The model's own choices in it: the archive is read as in logs 90
to 92. -/
def Obligations.FlashAndArchive : Prop :=
  (∀ (s : State) (w : WearIn), s.dev.boot.nand.present = true → s.dev.boot.stage = .ready →
    Yields (.nandPatrol [] w) s fun t =>
      t.boot.nand = { s.dev.boot.nand with erases := (w.lo, w.mean, w.hi) } ∧
      (s.dev.boot.nand.endurance ≠ 0 → 9 * s.dev.boot.nand.endurance ≤ 10 * w.hi →
        10 * s.dev.boot.nand.erases.2.2 < 9 * s.dev.boot.nand.endurance → Faulted 0x100A 0 s.dev t) ∧
      Only (.boot :: Part.ofFault) s.dev t) ∧
  (∀ (s : State) (area id : Nat) (w : WearIn), s.dev.boot.nand.present = true → s.dev.boot.stage = .ready →
    (area = 0 ∨ area = 3) → Yields (.nandPatrol [(area, id)] w) s fun t =>
      Faulted 0x1008 0 s.dev t ∧
      (∀ e, e ∈ (Tab.get (fun _ => []) t.boot.nand.entries area : List NandEntry) → e.id = id → e.invalid = true) ∧
      Only (.boot :: Part.ofFault) s.dev t) ∧
  (∀ s : State, s.dev.boot.nand.present = true → 0 < s.dev.boot.nand.reserve → Yields .nandBlockGrown s fun t =>
      t.boot = { s.dev.boot with nand := { s.dev.boot.nand with
        grownBad := sat 32 (s.dev.boot.nand.grownBad + 1), reserve := s.dev.boot.nand.reserve - 1 } } ∧
      Faulted 0x1009 0 s.dev t ∧ Only (.boot :: Part.ofFault) s.dev t) ∧
  (∀ s : State, s.dev.boot.nand.present = true → s.dev.boot.nand.reserve = 0 →
    s.dev.boot.nand.spillMiB < s.dev.boot.nand.blockMiB → Yields .nandBlockGrown s fun t =>
      t.boot = { s.dev.boot with nand := { s.dev.boot.nand with
        grownBad := sat 32 (s.dev.boot.nand.grownBad + 1), noBlocks := true } } ∧ Faulted 0x1009 0 s.dev t) ∧
  (∀ (s : State) (k : Nat), k ∈ s.dev.boot.norErase → s.dev.boot.norHeld = [] → Yields (.flashEraseComplete (.nor k) true) s fun t =>
      t.boot.norErase = s.dev.boot.norErase.erase k ∧
      t.boot.script = eraseIn (rd s.dev.boot.header 44 4) k s.dev.boot.script ∧
      t.boot.slots.a = { s.dev.boot.slots.a with
        bytes := eraseIn (rd s.dev.boot.header 16 4) k s.dev.boot.slots.a.bytes } ∧
      t.boot.slots.b = { s.dev.boot.slots.b with
        bytes := eraseIn (rd s.dev.boot.header 20 4) k s.dev.boot.slots.b.bytes } ∧ Only [.boot] s.dev t) ∧
  (∀ (s : State) (k : Nat), k ∈ s.dev.boot.norErase → s.dev.boot.norHeld = [] → Yields (.flashEraseComplete (.nor k) false) s fun t =>
      t.boot = { s.dev.boot with norErase := s.dev.boot.norErase.erase k } ∧ Faulted 0x100B 0 s.dev t ∧
      Only (.boot :: Part.ofFault) s.dev t) ∧
  (∀ (s : State) (area id : Nat), (area, id) ∈ s.dev.boot.nand.erasing → s.dev.boot.nand.held = [] →
    Yields (.flashEraseComplete (.nand area id) true) s fun t =>
      t.boot = { s.dev.boot with nand := { s.dev.boot.nand with
        erasing := s.dev.boot.nand.erasing.erase (area, id) } } ∧ Only [.boot] s.dev t) ∧
  (∀ (s : State) (x : FwImageIn) (h : Held), s.dev.boot.activate = some h → fwStatus s.dev x = 0 →
    ⟨h.req.mb.val, h.op, h.req.seq.toNat⟩ ∈ s.dev.host.pendCmds → Yields (.fwActivateComplete x) s fun t =>
      t.boot.activate = none ∧
      (idleSlot s.dev = 0 → t.boot.slots.a.status = some 0) ∧ (idleSlot s.dev ≠ 0 → t.boot.slots.b.status = some 0) ∧
      t.boot.header = (updateHdr (put (put s.dev.boot.header 14 (le 1 (idleSlot s.dev))) 15 [1]) s.dev).boot.header ∧
      Raised 0x0001 h.req.mb.val 0
        (le 1 h.req.mb.val ++ le 1 Status.ok.code ++ le 2 h.op ++ le 2 h.req.seq.toNat) s.dev t ∧
      Only [.boot, .host, .evq] s.dev t) ∧
  (∀ (s : State) (x : FwImageIn) (h : Held), s.dev.boot.activate = some h → fwStatus s.dev x ≠ 0 →
    ⟨h.req.mb.val, h.op, h.req.seq.toNat⟩ ∈ s.dev.host.pendCmds → Yields (.fwActivateComplete x) s fun t =>
      t.boot.activate = none ∧ t.boot.header = s.dev.boot.header ∧ t.boot.headers = s.dev.boot.headers ∧
      t.boot.refusedSlot = s.dev.boot.refusedSlot ∧
      Raised 0x0001 h.req.mb.val 0
        (le 1 h.req.mb.val ++ le 1 Status.denied.code ++ le 2 h.op ++ le 2 h.req.seq.toNat) s.dev t ∧
      Only [.boot, .host, .evq] s.dev t) ∧
  (∀ (s : State) (bad : Nat) (h : Held), s.dev.boot.nand.format = some h → s.dev.boot.nand.held = [] →
    Yields (.nandFormatComplete bad) s fun t =>
      t.boot.nand.format = none ∧ t.boot.nand.entries = [] ∧ t.boot.nand.snaps = [] ∧ t.boot.nand.blackBox = [] ∧
      t.boot.nand.erasing = [] ∧ t.boot.nand.noBlocks = false ∧ t.boot.nand.grownBad = s.dev.boot.nand.grownBad ∧
      Only [.boot, .host, .evq] s.dev t)

/-- A burn that succeeds fuses its item and reports OK, a failed one leaves OTP as it was and reports DENIED; three
unacknowledged AVS commands or 10 slow ticks off target raise AVS_FAIL; 10 slow ticks above the limit raise TJ_HIGH,
10 below its release end it. Rests on 22_command_reference R848 to R856; 23_package_pins_electrical R867 to R875;
23_package_pins_electrical R883, R884; 18_clocks_resets_power R734 to R738. The model's own choices in it: a failed
burn is DENIED (log 94); the monitors are read as in log 95. -/
def Obligations.FusesAndMonitors : Prop :=
  (∀ (s : State) (h : Held) (k : Nat), s.dev.boot.otp.burn = some h → k = rd h.req.params 0 1 → k < 6 →
    ⟨h.req.mb.val, h.op, h.req.seq.toNat⟩ ∈ s.dev.host.pendCmds → Yields (.otpBurnComplete true) s fun t =>
      t.boot.otp.burn = none ∧ t.boot.otp.fused = s.dev.boot.otp.fused ||| (1#6 <<< k) ∧
      t.boot.otp.fused.getLsbD k = true ∧ (k = 0 → t.boot.otp.hash.a = slice h.req.params 4 48) ∧
      (k = 1 → t.boot.otp.hash.b = slice h.req.params 4 48) ∧
      (k ≠ 0 → t.boot.otp.hash.a = s.dev.boot.otp.hash.a) ∧ (k ≠ 1 → t.boot.otp.hash.b = s.dev.boot.otp.hash.b) ∧
      (k ≠ 5 → t.boot.otp.kek = s.dev.boot.otp.kek) ∧
      Raised 0x0001 h.req.mb.val 0
        (le 1 h.req.mb.val ++ le 1 Status.ok.code ++ le 2 h.op ++ le 2 h.req.seq.toNat) s.dev t ∧
      Only [.boot, .host, .evq] s.dev t) ∧
  (∀ (s : State) (h : Held), s.dev.boot.otp.burn = some h →
    ⟨h.req.mb.val, h.op, h.req.seq.toNat⟩ ∈ s.dev.host.pendCmds → Yields (.otpBurnComplete false) s fun t =>
      t.boot.otp = { s.dev.boot.otp with burn := none } ∧
      Raised 0x0001 h.req.mb.val 0
        (le 1 h.req.mb.val ++ le 1 Status.denied.code ++ le 2 h.op ++ le 2 h.req.seq.toNat) s.dev t ∧
      Only [.boot, .host, .evq] s.dev t) ∧
  (∀ s : State, (3 ≤ s.dev.elec.avsNak ∨ 10 ≤ s.dev.elec.avsOff) → (source s.dev 0x0E07 0).cond = false →
    Yields .avsFail s fun t =>
      (source t 0x0E07 0).cond = true ∧ Faulted 0x0E07 0 s.dev t ∧ Only Part.ofFault s.dev t) ∧
  (∀ s : State, 10 ≤ s.dev.elec.hotRun → (source s.dev 0x0E06 0).cond = false → Yields .tjHigh s fun t =>
      (source t 0x0E06 0).cond = true ∧ Faulted 0x0E06 0 s.dev t ∧ Only Part.ofFault s.dev t) ∧
  (∀ s : State, s.dev.elec.hotRun < 10 → 10 ≤ s.dev.elec.coolRun → Yields .tjHigh s fun t =>
      (source t 0x0E06 0).cond = false ∧ Only [.fault] s.dev t)

/-- A control tick passes its time, ends the rings whose disable waited and leaves OTP, boot stage and monitors; a slow
tick lets every source log again and takes the averages measured; an epoch counts the uptime. Rests on
01_talnis_3200_at_a_glance R27 to R34, R897; 21_mailbox_interface R824 to R827; 19_fault_handling R759 to R762. The
model's own choices in it: time passes by the operand of the tick (log 32); uptime counts epochs (log 32). -/
def Obligations.Boundaries : Prop :=
  (∀ (s : State) (u : TickIn), inReset s.dev .timing = false → s.dev.clock.delayed = [] → Yields (.controlTick u) s fun t =>
      t.timing.now = s.dev.timing.now + u.dt ∧
      (∀ k, k < 64 → (ring s.dev k).offWaits = true → (ring t k).enable = false ∧ (ring t k).offWaits = false) ∧
      t.boot.otp = s.dev.boot.otp ∧ t.boot.stage = s.dev.boot.stage ∧
      t.elec = { s.dev.elec with txon := t.elec.txon }) ∧
  (∀ (s : State) (u : SlowIn), Yields (.slowTick u) s fun t =>
      (∀ id inst, (source t id inst).logged = false) ∧
      t.elec.temps = (List.range 8).map (fun i => u.elec.temps.getD i 0) ∧
      t.elec.supplies = (List.range 10).map (fun i => u.elec.supplies.getD i 0)) ∧
  (∀ (s : State) (m : SillageMeas), Yields (.epoch m) s fun t => t.host.uptime = sat 32 (s.dev.host.uptime + 1))

/-- Each command that sets run-time settings, when it runs, answers OK, accepts the value of every run-time field its
request gives, keeps the settings of other commands and objects, and changes nothing else but what the clause names
(the commanded transmitter and receiver, sensing channels, outputs, calibration persistence). Rests on 00_scope R13 to
R18; 22_command_reference R844, R845; 22_command_reference R846, R847. The model's own choices in it: requests and
their effects are indivisible (log 37). -/
def Obligations.SettingsAccepted : Prop :=
  (∀ (s : State) (i : Instr) (op : Nat) (c : Cmd) (r : Req), commandOf i = some (op, c, r) →
    op ∈ [0x0230, 0x0250, 0x0300, 0x0400, 0x0404, 0x0500, 0x0503, 0x0505, 0x0700, 0x0900, 0x0B05, 0x0B06, 0x0B07, 0x0D00,
      0x0E00] →
    Does i s [.settings, .pendSet] fun t =>
      Accepts op r.tgt r.params s.dev t ∧ OthersKept op r.tgt r.params s.dev t) ∧
  (∀ (s : State) (i : Instr) (op : Nat) (c : Cmd) (r : Req), commandOf i = some (op, c, r) →
    op ∈ [0x0801, 0x0802, 0x0905] →
    Does i s [.settings, .pendSet] fun t => Accepts op 0 r.params s.dev t ∧ OthersKept op 0 r.params s.dev t) ∧
  (∀ (s : State) (r : Req), Does (.txConfig r) s [.settings, .pendSet, .tx] fun t =>
      Accepts 0x0220 r.tgt r.params s.dev t ∧ OthersKept 0x0220 r.tgt r.params s.dev t ∧
      (t.tx.get r.car).state = (s.dev.tx.get r.car).state ∧ t.tx.get r.car.other = s.dev.tx.get r.car.other) ∧
  (∀ (s : State) (r : Req), Does (.txPreemph r) s [.settings, .pendSet, .tx] fun t =>
      Accepts 0x0223 r.tgt r.params s.dev t ∧ OthersKept 0x0223 r.tgt r.params s.dev t ∧
      (t.tx.get r.car).state = (s.dev.tx.get r.car).state ∧ t.tx.get r.car.other = s.dev.tx.get r.car.other) ∧
  (∀ (s : State) (r : Req), Does (.txEnable r) s [.settings, .pendSet, .tx] fun t =>
      Accepts 0x0221 r.tgt r.params s.dev t ∧ OthersKept 0x0221 r.tgt r.params s.dev t ∧
      t.tx.get r.car = { s.dev.tx.get r.car with commanded := decide (rd r.params 0 1 = 1) } ∧
      t.tx.get r.car.other = s.dev.tx.get r.car.other) ∧
  (∀ (s : State) (r : Req), Does (.rxEnable r) s [.settings, .pendSet, .rx] fun t =>
      Accepts 0x0231 r.tgt r.params s.dev t ∧ OthersKept 0x0231 r.tgt r.params s.dev t ∧
      t.rx.get r.car = { s.dev.rx.get r.car with enabled := decide (rd r.params 0 1 = 1) } ∧
      t.rx.get r.car.other = s.dev.rx.get r.car.other) ∧
  (∀ (s : State) (r : Req), Does (.calConfig r) s (.settings :: .pendSet :: Part.ofFault) fun t =>
      Accepts 0x0241 r.tgt r.params s.dev t ∧ OthersKept 0x0241 r.tgt r.params s.dev t) ∧
  (∀ (s : State) (r : Req), Does (.timingRefConfig r) s [.settings, .pendSet] fun t =>
      ∀ row, row ∈ layout 0x0800 → row.kind = .rt → refApplies (rd r.params 0 1) (rd r.params 3 1) row.off = true →
        accepted t (skey 0x0800 0 (rd r.params 0 1) row.off) = row.read r.params) ∧
  (∀ (s : State) (r : Req), Does (.timingOutConfig r) s [.settings, .pendSet, .timing] fun t =>
      Accepts 0x0806 0 r.params s.dev t ∧ OthersKept 0x0806 0 r.params s.dev t ∧
      t.timing = { s.dev.timing with outs := t.timing.outs }) ∧
  (∀ (s : State) (r : Req), Does (.ttxCalSet r) s [.settings, .pendSet, .ttx] fun t =>
      Accepts 0x0901 r.tgt r.params s.dev t ∧ OthersKept 0x0901 r.tgt r.params s.dev t ∧
      t.ttx.get r.car = { s.dev.ttx.get r.car with persist := decide (rd r.params 25 1 = 1) } ∧
      t.ttx.get r.car.other = s.dev.ttx.get r.car.other) ∧
  (∀ (s : State) (r : Req), Does (.senseConfig r) s [.settings, .pendSet, .sense] fun t =>
      Accepts 0x0A00 r.tgt r.params s.dev t ∧ OthersKept 0x0A00 r.tgt r.params s.dev t ∧
      sense t (rd r.params 0 1) = { sense s.dev (rd r.params 0 1) with
        change := if (sense s.dev (rd r.params 0 1)).running = decide (rd r.params 1 1 = 1) then none
                  else some (decide (rd r.params 1 1 = 1)) } ∧
      ∀ j, j ≠ rd r.params 0 1 → sense t j = sense s.dev j) ∧
  (∀ (s : State) (r : Req), Does (.hlConfig r) s [.settings, .pendSet] fun t =>
      (∀ row, row ∈ layout 0x0C00 → row.kind = .rt →
        accepted t (skey 0x0C00 r.tgt (rd r.params 0 1) row.off) = row.read r.params) ∧
      ∀ j, j ∈ groupLanes (rd r.params 0 1 / 4) →
        accepted t (skey 0x0C00 0 j 4) = rd r.params 4 1 ∧ accepted t (skey 0x0C00 0 j 5) = rd r.params 5 1) ∧
  (∀ (s : State) (r : Req), Does (.faultConfig r) s [.settings, .pendSet] fun t =>
      ∀ j, j ∈ namedInsts r.params →
        faultSet t (rd r.params 0 2) j 4 = rd r.params 4 2 ∧
        accepted t (skey 0x0F01 0 (rd r.params 0 2 + 65536 * j) 6) = rd r.params 6 1 ∧
        accepted t (skey 0x0F01 0 (rd r.params 0 2 + 65536 * j) 8) = rd r.params 8 2 ∧
        accepted t (skey 0x0F01 0 (rd r.params 0 2 + 65536 * j) 10) = rd r.params 10 2)

/-- ACCORD_LIST, ACCORD_INFO, ACCORD_REPORT, ACCORD_LIMITS, ENGINE_STATUS and ENGINE_READ answer the state; ACCORD_LOAD
starts, continues or holds a load; ACCORD_STAGE, ACCORD_SWITCH and ACCORD_CANCEL act on the standby set or wait for a
switch in progress; ACCORD_DELETE frees a slot; ACCORD_VERSION_COMMIT raises the counter and marks older images
invalid. Rests on 02_accords_and_loop_engines R56 to R61; 02_accords_and_loop_engines R62 to R67;
02_accords_and_loop_engines R68 to R83; 02_accords_and_loop_engines R84 to R96; 22_command_reference R848 to R856. The
model's own choices in it: the lists of ACCORD_LIMITS are read as in log 100, loads as in log 46. -/
def Obligations.AccordCommands : Prop :=
  (∀ (s : State) (r : Req), Reads (.accordList r) s fun p => p = slotNums.flatMap (slotRecord s.dev)) ∧
  (∀ (s : State) (r : Req), Reads (.accordInfo r) s fun p =>
      p = slotRecord s.dev (rd r.params 0 1) ++ slotHeader s.dev (rd r.params 0 1)) ∧
  (∀ (s : State) (i : Nat), i < 256 → (slotRecord s.dev i).length = 64 ∧ rd (slotRecord s.dev i) 0 1 = i ∧
      rd (slotRecord s.dev i) 1 1 = (accSlot s.dev i).state.code ∧ rd (slotRecord s.dev i) 2 1 = slotRole s.dev i) ∧
  (∀ (s : State) (r : Req), Reads (.accordReport r) s fun p =>
      slice p 0 4 = le 4 (accSlot s.dev (rd r.params 0 1)).plan.report.length ∧
      p.drop 8 = slice (accSlot s.dev (rd r.params 0 1)).plan.report (rd r.params 4 4) 4032) ∧
  (∀ (s : State) (r : Req), Reads (.accordLimits r) s fun p =>
      slice p 0 4 = le 4 ((layout (rd r.params 0 2)).filter fun q => q.kind = .rt &&
        (rd r.params 0 2 ≠ 0x0800 || refApplies (rd r.params 2 2) (dset s.dev 0x0800 (rd r.params 2 2) 3).toNat q.off)).length) ∧
  (∀ (s : State) (r : Req), Reads (.engineStatus r) s fun p =>
      (rd r.params 0 1 ≠ 0xFF → slice p 0 1 = le 1 (rd r.params 0 1) ∧
        slice p 4 2 = le 2 (engine s.dev (rd r.params 0 1)).fgMax ∧
        slice p 6 6 = le 6 (engine s.dev (rd r.params 0 1)).bgCycles ∧
        slice p 14 2 = le 2 (engine s.dev (rd r.params 0 1)).overruns) ∧
      (rd r.params 0 1 = 0xFF → p = (List.range 96).flatMap (engineRecord s.dev))) ∧
  (∀ (s : State) (r : Req), rd r.params 1 1 = 0 → Reads (.engineRead r) s fun p =>
      p = memRead (engine s.dev (rd r.params 0 1)).dataMem (rd r.params 4 4) (rd r.params 8 2)) ∧
  (∀ (s : State) (r : Req), rd r.params 1 1 ≠ 0 → Reads (.engineRead r) s fun p =>
      p = memRead s.dev.engines.clusterMem (rd r.params 0 1 / 16 * 2 ^ 20 + rd r.params 4 4) (rd r.params 8 2)) ∧
  (∀ (s : State) (r : Req) (i : Nat), s.dev.mem.reconfig = none → rd r.params 0 1 = 0 → rd r.params 4 4 = 0 →
    chunkLoad s.dev = none → freeSlot s.dev = some i → Answers (.accordLoad r) s [.accord] .ok fun p t =>
      p = le 1 i ++ [0, 0, 0] ∧ (accSlot t i).image = r.params.drop 48 ∧ (accSlot t i).imageLen = rd r.params 8 4 ∧
      (accSlot t i).state = (if (r.params.drop 48).length = rd r.params 8 4 then .verifying else .loading) ∧
      ∀ j, j ≠ i → accSlot t j = accSlot s.dev j) ∧
  (∀ (s : State) (r : Req) (i : Nat), s.dev.mem.reconfig = none → rd r.params 0 1 = 0 → rd r.params 4 4 ≠ 0 →
    chunkLoad s.dev = some i → Answers (.accordLoad r) s [.accord] .ok fun p t =>
      p = le 1 i ++ [0, 0, 0] ∧ (accSlot t i).image = (accSlot s.dev i).image ++ r.params.drop 48 ∧
      ∀ j, j ≠ i → accSlot t j = accSlot s.dev j) ∧
  (∀ (s : State) (r : Req) (i : Nat), s.dev.mem.reconfig = none → rd r.params 0 1 ≠ 0 → freeSlot s.dev = some i →
    Answers (.accordLoad r) s [.accord] .ok fun p t =>
      p = le 1 i ++ [0, 0, 0] ∧ (accSlot t i).state = .loading ∧ (accSlot t i).source = rd r.params 0 1 ∧
      (accSlot t i).imageLen = rd r.params 8 4 ∧ ∀ j, j ≠ i → accSlot t j = accSlot s.dev j) ∧
  (∀ (s : State) (r : Req), s.dev.mem.reconfig ≠ none → Defers (.accordLoad r) s [.accord] fun t =>
      t.accord = { s.dev.accord with loadHeld := some ⟨0x0101, r⟩ }) ∧
  (∀ (s : State) (r : Req), s.dev.accord.standby ≠ .switching → Does (.accordStage r) s [.accord] fun t =>
      t.accord = { s.dev.accord with standby := .staging, standbySet := { slot := some (rd r.params 0 1) } }) ∧
  (∀ (s : State) (r : Req), s.dev.accord.standby = .switching → Defers (.accordStage r) s [.accord] fun t =>
      t.accord = { s.dev.accord with held := s.dev.accord.held ++ [⟨0x0104, r⟩] }) ∧
  (∀ (s : State) (r : Req), s.dev.accord.standby ≠ .switching → Does (.accordSwitch r) s [.accord, .rx] fun t =>
      t.accord.standby = .scheduled ∧ t.accord.refCarrier = Carrier.ofNum (rd r.params 0 1) ∧
      t.accord.afterXsf = rd r.params 4 4 ∧ t.accord.acceptedAt = s.dev.timing.now ∧
      t.accord.active = s.dev.accord.active ∧ t.accord.slots = s.dev.accord.slots) ∧
  (∀ (s : State) (r : Req), s.dev.accord.standby = .switching → Defers (.accordSwitch r) s [.accord] fun t =>
      t.accord = { s.dev.accord with held := s.dev.accord.held ++ [⟨0x0105, r⟩] }) ∧
  (∀ (s : State) (r : Req), s.dev.accord.standby = .staging → Does (.accordCancel r) s [.accord] fun t =>
      t.accord = { s.dev.accord with standby := .empty, standbySet := {} }) ∧
  (∀ (s : State) (r : Req), s.dev.accord.standby = .scheduled → Does (.accordCancel r) s [.accord] fun t =>
      t.accord = { s.dev.accord with standby := .ready, changed := 0 }) ∧
  (∀ (s : State) (r : Req), Does (.accordDelete r) s [.accord] fun t =>
      accSlot t (rd r.params 0 1) = {} ∧ ∀ j, j ≠ rd r.params 0 1 → accSlot t j = accSlot s.dev j) ∧
  (∀ (s : State) (r : Req), Does (.accordVersionCommit r) s [.boot, .accord] fun t =>
      t.boot = { s.dev.boot with otp := { s.dev.boot.otp with accordCounter := rd r.params 0 1 } } ∧
      ∀ j, accSlot t j =
        (if (accSlot s.dev j).state = .valid ∧ hdrSec (accSlot s.dev j).image < rd r.params 0 1 then
          { accSlot s.dev j with state := .invalid } else accSlot s.dev j))

/-- Status commands answer the state of transmitter, receiver, converters and FEC at the layout offsets stated;
RX_REACQUIRE makes the receiver fall with cause 8; LINE_AGREE proposes with the next number; CAL_SWAP queues its
element change; CONV_SELFTEST is held until it ends; FEC_CLEAR and FEC_INJECT wait for their boundary. The other
carrier does not change. Rests on 03_converters_and_trim R136 to R140; 04_transmit_path R178 to R181; 05_receive_path
R236 to R242; 06_forward_error_correction R280 to R286; 06_forward_error_correction R273 to R279;
06_forward_error_correction R257 to R264. The model's own choices in it: status is taken at the instant of the command
(log 37); proposals as in log 58; pool power as in log 59. -/
def Obligations.CarrierCommands : Prop :=
  (∀ (s : State) (r : Req), Reads (.txStatus r) s fun p =>
      slice p 0 1 = le 1 (s.dev.tx.get r.car).state.code ∧ slice p 1 1 = le 1 (bit (s.dev.tx.get r.car).bringUp) ∧
      slice p 2 1 = le 1 (bit (s.dev.tx.get r.car).commanded) ∧ slice p 6 2 = le 2 (squelchId s.dev r.car) ∧
      slice p 12 4 = le 4 (if native s.dev r.car then (s.dev.tx.get r.car).xsf else 0) ∧
      slice p 16 2 = le 2 (s.dev.tx.get r.car).reversals) ∧
  (∀ (s : State) (r : Req), Reads (.rxStatus r) s fun p =>
      slice p 0 1 = le 1 (s.dev.rx.get r.car).state.code ∧ slice p 1 1 = le 1 (bit (s.dev.rx.get r.car).bringUp) ∧
      slice p 8 10 = timeBytes10 (s.dev.rx.get r.car).since ∧ slice p 18 2 = le 2 (s.dev.rx.get r.car).acqRetries ∧
      slice p 20 4 = le 4 (s.dev.rx.get r.car).xsfRx ∧ slice p 24 4 = le 4 (s.dev.rx.get r.car).slips ∧
      slice p 32 4 = le 4 (s.dev.rx.get r.car).cycleSlips ∧ slice p 36 2 = le 2 (s.dev.rx.get r.car).hintMiss ∧
      slice p 40 4 = leInt 4 (s.dev.rx.get r.car).delayCorr) ∧
  (∀ (s : State) (r : Req), Reads (.rxMonitor r) s fun p =>
      slice p 0 2 = le 2 (s.dev.rx.get r.car).monitor.snrX ∧ slice p 2 2 = le 2 (s.dev.rx.get r.car).monitor.snrY ∧
      slice p 4 4 = leInt 4 (s.dev.rx.get r.car).cdEst ∧ slice p 12 4 = leInt 4 (s.dev.rx.get r.car).monitor.freqOff ∧
      slice p 28 8 = leInt 8 (s.dev.rx.get r.car).monitor.clkPhase) ∧
  (∀ (s : State) (r : Req), Does (.rxReacquire r) s (.rx :: .evq :: .pendSet :: Part.ofFault) fun t =>
      RxFalls r.car .cdSearch 8 s.dev t) ∧
  (∀ (s : State) (r : Req), Does (.lineAgree r) s [.rx, .pendSet, .fresh] fun t =>
      (t.rx.get r.car).agree = .proposed ∧ (t.rx.get r.car).ownRec.kind = 2 ∧ (t.rx.get r.car).ownRec.verb = 0 ∧
      (t.rx.get r.car).ownRec.seq = (s.dev.rx.get r.car).nextSeq ∧
      (t.rx.get r.car).nextSeq = wrap 8 ((s.dev.rx.get r.car).nextSeq + 1) ∧
      (t.rx.get r.car).state = (s.dev.rx.get r.car).state ∧ t.rx.get r.car.other = s.dev.rx.get r.car.other) ∧
  (∀ (s : State) (r : Req), Reads (.calRead r) s fun p =>
      slice p 0 1 = le 1 (rd r.params 0 1) ∧
      slice p 4 4 = le 4 (convOf s.dev r.car (4 * rd r.params 0 1 + rd r.params 1 1)).swaps ∧
      (rd r.params 0 1 = 0 → p.drop 32 =
        (List.range 72).flatMap fun n => sliceRecord (sliceAt s.dev r.car (rd r.params 1 1) n))) ∧
  (∀ (s : State) (r : Req), rd r.params 0 1 = 0 → Does (.calSwap r) s [.conv] fun t =>
      (∃ e, (convOf t r.car (rd r.params 1 1)).pending = (convOf s.dev r.car (rd r.params 1 1)).pending ++ [e] ∧
        e.kind = .sliceSwap ∧ e.incoming = rd r.params 4 2 ∧ e.position = rd r.params 6 2) ∧
      (∀ k, k ≠ rd r.params 1 1 → convOf t r.car k = convOf s.dev r.car k) ∧
      t.conv.get r.car.other = s.dev.conv.get r.car.other) ∧
  (∀ (s : State) (r : Req), rd r.params 0 1 ≠ 0 → Does (.calSwap r) s [.conv] fun t =>
      (∃ e, (convOf t r.car (4 + rd r.params 1 1)).pending = (convOf s.dev r.car (4 + rd r.params 1 1)).pending ++ [e] ∧
        e.kind = .cellSwap ∧ e.seg = rd r.params 2 1 ∧ e.incoming = rd r.params 4 2 ∧ e.position = rd r.params 6 2) ∧
      (∀ k, k ≠ 4 + rd r.params 1 1 → convOf t r.car k = convOf s.dev r.car k) ∧
      t.conv.get r.car.other = s.dev.conv.get r.car.other) ∧
  (∀ (s : State) (r : Req), Reads (.convPortStatus r) s fun p =>
      slice p 0 1 = le 1 (portAt s.dev r.car 0).cond.code ∧ slice p 12 1 = le 1 (portAt s.dev r.car 1).cond.code ∧
      slice p 2 10 = timeBytes10 (portAt s.dev r.car 0).since) ∧
  (∀ (s : State) (r : Req), Defers (.convSelftest r) s [.conv] fun t =>
      t.conv.get r.car = { s.dev.conv.get r.car with selftest := some ⟨0x0244, r⟩ } ∧
      t.conv.get r.car.other = s.dev.conv.get r.car.other) ∧
  (∀ (s : State) (r : Req) (m : ModePlan), modeOf s.dev r.car = some m → Reads (.fecStatus r) s fun p =>
      slice p 0 1 = le 1 m.fec ∧ slice p 1 1 = le 1 m.iters ∧ slice p 2 2 = le 2 m.group ∧ slice p 4 4 = le 4 m.coded ∧
      slice p 8 8 = le 8 m.fecLatency ∧ slice p 18 2 = le 2 m.slots ∧
      slice p 20 2 = le 2 (s.dev.fec.get r.car).slotsUsed) ∧
  (∀ (s : State) (r : Req), Reads (.fecCounters r) s fun p =>
      slice p 0 8 = le 8 (if rd r.params 0 1 = 0 then (s.dev.fec.get r.car).run else (s.dev.fec.get r.car).snap).inCw ∧
      slice p 32 8 = le 8 (if rd r.params 0 1 = 0 then (s.dev.fec.get r.car).run else (s.dev.fec.get r.car).snap).outCw ∧
      slice p 56 8 = le 8 (if rd r.params 0 1 = 0 then (s.dev.fec.get r.car).run else (s.dev.fec.get r.car).snap).outCwUncorr) ∧
  (∀ (s : State) (r : Req), Does (.fecClear r) s [.fec] fun t =>
      t.fec.get r.car = { s.dev.fec.get r.car with clearWaits := true } ∧
      t.fec.get r.car.other = s.dev.fec.get r.car.other) ∧
  (∀ (s : State) (r : Req), Reads (.fecPoolStatus r) s fun p =>
      slice p 0 4 = le 4 (min (1900 + 8 * s.dev.pool.itersSlow / 1000) 12000)) ∧
  (∀ (s : State) (r : Req), Does (.fecInject r) s [.fec] fun t =>
      t.fec.get r.car = { s.dev.fec.get r.car with
        injectNext := some { on := decide (rd r.params 0 1 = 1), pattern := rd r.params 1 1, ratio := rd r.params 4 4
                             burst := rd r.params 8 4 } } ∧ t.fec.get r.car.other = s.dev.fec.get r.car.other)

/-- Defect, TTI, overhead-port, tributary, group and protection status answer the state at the offsets stated; LINE_TTI
and TRIB_TTI write one TTI; LINE_CLEAR waits for its boundary; each PROT_COMMAND changes the one request of its
scheme. No other carrier, tributary or scheme changes. Rests on 07_line_framing_and_defects R339 to R344;
08_tributaries_groups_protection R358 to R368; 08_tributaries_groups_protection R387 to R390. The model's own choices
in it: status is taken at the instant of the command (log 37). -/
def Obligations.LineAndTributaryCommands : Prop :=
  (∀ (s : State) (r : Req), Reads (.lineDefects r) s fun p =>
      slice p 0 4 = le 4 (sideOf s.dev r.car (decide (rd r.params 0 1 = 1))).reported.toNat ∧
      slice p 4 4 = le 4 (sideOf s.dev r.car (decide (rd r.params 0 1 = 1))).raw.toNat ∧
      slice p 28 4 = le 4 (sideOf s.dev r.car (decide (rd r.params 0 1 = 1))).nsoCrcErr ∧
      slice p 36 8 = le 8 (sideOf s.dev r.car (decide (rd r.params 0 1 = 1))).smBipErr ∧
      slice p 44 8 = le 8 (sideOf s.dev r.car (decide (rd r.params 0 1 = 1))).pmBipErr) ∧
  (∀ (s : State) (r : Req), Does (.lineTti r) s [.line] fun t =>
      t.line.get r.car.other = s.dev.line.get r.car.other ∧
      (t.line.get r.car).line = modTti (rd r.params 0 1)
        (writeTti (rd r.params 1 1) (slice r.params 4 64)) (s.dev.line.get r.car).line ∧
      (t.line.get r.car).host = (s.dev.line.get r.car).host) ∧
  (∀ (s : State) (r : Req), Reads (.lineTtiRead r) s fun p =>
      p = (s.dev.line.get r.car).line.smTti.accepted ++ le 1 (bit (s.dev.line.get r.car).line.smTti.isAccepted) ++
        (s.dev.line.get r.car).line.pmTti.accepted ++ le 1 (bit (s.dev.line.get r.car).line.pmTti.isAccepted)) ∧
  (∀ (s : State) (r : Req), Reads (.ohpStatus r) s fun p =>
      slice p 0 1 = le 1 (bit s.dev.ohpFs) ∧
      slice p 2 2 = le 2 ((s.dev.line.get r.car).ohp.extPad + (s.dev.line.get r.car).ohp.extBuf.length) ∧
      slice p 4 2 = le 2 ((s.dev.line.get r.car).ohp.insPad + (s.dev.line.get r.car).ohp.insBuf.length) ∧
      slice p 12 4 = le 4 (s.dev.line.get r.car).ohp.dropExt ∧ slice p 20 4 = le 4 (s.dev.line.get r.car).ohp.dropIns) ∧
  (∀ (s : State) (r : Req), Does (.lineClear r) s [.line] fun t =>
      t.line.get r.car = { s.dev.line.get r.car with
        line := { (s.dev.line.get r.car).line with clearWaits := true }
        host := { (s.dev.line.get r.car).host with clearWaits := true } } ∧
      t.line.get r.car.other = s.dev.line.get r.car.other) ∧
  (∀ (s : State) (r : Req), Reads (.tribStatus r) s fun p =>
      slice p 0 1 = le 1 (rd r.params 0 1) ∧
      slice p 3 1 = le 1 ((trib s.dev (lineOfReq r) (rd r.params 0 1)).payload.getD 0) ∧
      slice p 68 4 = le 4 (trib s.dev (lineOfReq r) (rd r.params 0 1)).idlesIns ∧
      slice p 72 4 = le 4 (trib s.dev (lineOfReq r) (rd r.params 0 1)).idlesDel ∧
      slice p 76 4 = le 4 (trib s.dev (lineOfReq r) (rd r.params 0 1)).bipErr) ∧
  (∀ (s : State) (r : Req), Does (.tribTti r) s [.tribs] fun t =>
      trib t (lineOfReq r) (rd r.params 0 1) = { trib s.dev (lineOfReq r) (rd r.params 0 1) with
        tti := writeTti (rd r.params 1 1) (slice r.params 4 64) (trib s.dev (lineOfReq r) (rd r.params 0 1)).tti }) ∧
  (∀ (s : State) (r : Req) (g : GroupPlan), ((plan s.dev).groups.find? fun g => g.group = r.index.toNat) = some g →
    Reads (.groupStatus r) s fun p =>
      slice p 0 1 = le 1 r.index.toNat ∧ slice p 1 1 = le 1 g.members.length ∧ slice p 4 4 = le 4 g.sig ∧
      slice p 3 1 = le 1 (bit (grp s.dev r.index.toNat).loa + 2 * bit (groupLoa s.dev g)) ∧
      slice p 8 8 = le 8 ((grp s.dev r.index.toNat).aMax - (grp s.dev r.index.toNat).aMin) ∧
      slice p 88 4 = le 4 (grp s.dev r.index.toNat).recLate) ∧
  (∀ (s : State) (r : Req), Does (.protClear r) s [.tribs] fun t =>
      scheme t (rd r.params 0 1) = { scheme s.dev (rd r.params 0 1) with lo := false, fs := false, ms := none, wtr := none } ∧
      ∀ k, k ≠ rd r.params 0 1 → scheme t k = scheme s.dev k) ∧
  (∀ (s : State) (r : Req), Does (.protLockout r) s [.tribs] fun t =>
      scheme t (rd r.params 0 1) = { scheme s.dev (rd r.params 0 1) with lo := true } ∧
      ∀ k, k ≠ rd r.params 0 1 → scheme t k = scheme s.dev k) ∧
  (∀ (s : State) (r : Req), Does (.protForced r) s [.tribs] fun t =>
      scheme t (rd r.params 0 1) = { scheme s.dev (rd r.params 0 1) with fs := true } ∧
      ∀ k, k ≠ rd r.params 0 1 → scheme t k = scheme s.dev k) ∧
  (∀ (s : State) (r : Req), Does (.protManualP r) s [.tribs] fun t =>
      scheme t (rd r.params 0 1) = { scheme s.dev (rd r.params 0 1) with ms := some true } ∧
      ∀ k, k ≠ rd r.params 0 1 → scheme t k = scheme s.dev k) ∧
  (∀ (s : State) (r : Req), Does (.protManualW r) s [.tribs] fun t =>
      scheme t (rd r.params 0 1) = { scheme s.dev (rd r.params 0 1) with ms := some false } ∧
      ∀ k, k ≠ rd r.params 0 1 → scheme t k = scheme s.dev k) ∧
  (∀ (s : State) (r : Req), Does (.protRealign r) s [.tribs] fun t =>
      scheme t (rd r.params 0 1) = { scheme s.dev (rd r.params 0 1) with realign := true } ∧
      ∀ k, k ≠ rd r.params 0 1 → scheme t k = scheme s.dev k) ∧
  (∀ (s : State) (r : Req), schemeType s.dev (rd r.params 0 1) ≠ 0 → Reads (.protStatus r) s fun p =>
      slice p 0 1 = le 1 (scheme s.dev (rd r.params 0 1)).request ∧
      slice p 1 1 = le 1 (bit (scheme s.dev (rd r.params 0 1)).selected) ∧
      slice p 2 1 = le 1 ((scheme s.dev (rd r.params 0 1)).farRequest.getD 0xFF) ∧
      slice p 6 2 = le 2 ((scheme s.dev (rd r.params 0 1)).wtr.getD 0) ∧
      slice p 8 4 = le 4 (scheme s.dev (rd r.params 0 1)).switches ∧
      slice p 36 4 = le 4 (scheme s.dev (rd r.params 0 1)).noneCount)

/-- CRYPTO_CONFIG accepts its settings, erases the carrier's slots on a disable and is held during an erasure;
CRYPTO_KEY_LOAD unwraps its key with the OTP key and loads the slot or context, or answers DENIED; CRYPTO_ROLL starts
its countdown; zeroise erases every key with its fault; OSTC_SEND queues on its path, OSTC_RECV takes the oldest
message; status and clear act as stated. Rests on 09_line_encryption R427 to R430; 09_line_encryption R403 to R409;
09_line_encryption R419 to R426; 10_supervisory_timing_channel R458 to R461. The model's own choices in it: the roll
target with two loaded slots is log 17. -/
def Obligations.CryptoAndOstcCommands : Prop :=
  (∀ (s : State) (r : Req), enableDuringErase s.dev r = false → (s.dev.crypto.get r.car).heldEnable = none →
    (cryptEnable s.dev r.car = false ∨ rd r.params 0 1 ≠ 0) → Does (.cryptoConfig r) s [.settings, .pendSet] fun t =>
      Accepts 0x0600 r.tgt r.params s.dev t ∧ OthersKept 0x0600 r.tgt r.params s.dev t) ∧
  (∀ (s : State) (r : Req), (s.dev.crypto.get r.car).heldEnable = none → cryptEnable s.dev r.car = true →
    rd r.params 0 1 = 0 → Does (.cryptoConfig r) s [.settings, .pendSet, .crypto] fun t =>
      Accepts 0x0600 r.tgt r.params s.dev t ∧ (t.crypto.get r.car).tx = ⟨{}, {}⟩ ∧ (t.crypto.get r.car).rx = ⟨{}, {}⟩ ∧
      (t.crypto.get r.car).erasing = true ∧ t.crypto.get r.car.other = s.dev.crypto.get r.car.other) ∧
  (∀ (s : State) (r : Req), enableDuringErase s.dev r = true → Defers (.cryptoConfig r) s [.crypto] fun t =>
      t.crypto.get r.car = { s.dev.crypto.get r.car with heldEnable := some ⟨0x0600, r⟩ } ∧
      t.crypto.get r.car.other = s.dev.crypto.get r.car.other) ∧
  (∀ (s : State) (r : Req), runs 0x0601 cryptoKeyLoadCmd r s.dev = true → Yields (.cryptoKeyLoad r) s fun t =>
      (kwUnwrap (be 32 (s.dev.boot.otp.kek.getD 0).toNat) (slice r.params 8 40) = none →
        Answered 0x0601 r ⟨.denied, []⟩ t ∧ OnlyMailbox r.mb.val s.dev t) ∧
      (∀ key, kwUnwrap (be 32 (s.dev.boot.otp.kek.getD 0).toNat) (slice r.params 8 40) = some key →
        Answered 0x0601 r ⟨.ok, []⟩ t ∧
        (rd r.params 0 1 = 0 → rd r.params 1 1 = 0 →
          slotAt (t.crypto.get r.car).tx (rd r.params 2 1) =
            { state := .loaded, key := some (BitVec.ofNat 256 (fromBe key)), salt := rd r.params 4 4, age := 0 } ∧
          (t.crypto.get r.car).rx = (s.dev.crypto.get r.car).rx ∧
          t.crypto.get r.car.other = s.dev.crypto.get r.car.other ∧ OnlyAnd [.crypto] r.mb.val s.dev t) ∧
        (rd r.params 0 1 = 0 → rd r.params 1 1 = 1 →
          slotAt (t.crypto.get r.car).rx (rd r.params 2 1) =
            { state := .loaded, key := some (BitVec.ofNat 256 (fromBe key)), salt := rd r.params 4 4, age := 0 } ∧
          (t.crypto.get r.car).tx = (s.dev.crypto.get r.car).tx ∧
          t.crypto.get r.car.other = s.dev.crypto.get r.car.other ∧ OnlyAnd [.crypto] r.mb.val s.dev t) ∧
        (rd r.params 0 1 ≠ 0 →
          (Tab.get (fun _ => {}) t.kme.ctxs (rd r.params 2 1) : KmeCtx) =
            { key := some (BitVec.ofNat 256 (fromBe key)), sendCount := 1, lastAccepted := [] } ∧
          (∀ k, k ≠ rd r.params 2 1 →
            (Tab.get (fun _ => {}) t.kme.ctxs k : KmeCtx) = Tab.get (fun _ => {}) s.dev.kme.ctxs k) ∧
          OnlyAnd [.kme] r.mb.val s.dev t))) ∧
  (∀ (s : State) (r : Req), Does (.cryptoRoll r) s [.crypto] fun t =>
      t.crypto.get r.car = { s.dev.crypto.get r.car with
        rollTo := some (rollTarget (s.dev.crypto.get r.car)), rollTicks := 0, rollIn := 0, rollAt := s.dev.timing.now } ∧
      t.crypto.get r.car.other = s.dev.crypto.get r.car.other) ∧
  (∀ (s : State) (r : Req), Reads (.cryptoStatus r) s fun p =>
      slice p 1 1 = le 1 (bit s.dev.kme.alarm) ∧ slice p 4 1 = le 1 (s.dev.crypto.get r.car).rollIn ∧
      slice p 2 1 = le 1 (keyCode (s.dev.crypto.get r.car).tx.a.state + 4 * keyCode (s.dev.crypto.get r.car).tx.b.state) ∧
      slice p 3 1 = le 1 (keyCode (s.dev.crypto.get r.car).rx.a.state + 4 * keyCode (s.dev.crypto.get r.car).rx.b.state) ∧
      slice p 8 4 = le 4 (s.dev.crypto.get r.car).tagFail ∧ slice p 12 4 = le 4 (s.dev.crypto.get r.car).tagMissing ∧
      slice p 16 4 = le 4 (s.dev.crypto.get r.car).segPass ∧ slice p 24 4 = le 4 (s.dev.crypto.get r.car).kmeAuthFail) ∧
  (∀ (s : State) (r : Req), Does (.cryptoZeroize r) s Part.ofFault fun t =>
      Faulted 0x0608 0 s.dev t ∧
      ∀ c, (t.crypto.get c).tx = ⟨{}, {}⟩ ∧ (t.crypto.get c).rx = ⟨{}, {}⟩ ∧ t.kme.ctxs = []) ∧
  (∀ (s : State) (r : Req), Does (.cryptoAlarmClear r) s [.kme] fun t => t.kme = { s.dev.kme with alarm := false }) ∧
  (∀ (s : State) (r : Req), sendsOstc s.dev r = true → Does (.ostcSend r) s [.ostc] fun t =>
      t.ostc.get r.car = { s.dev.ostc.get r.car with
        txq := (s.dev.ostc.get r.car).txq ++ [{ type := 0, dest := rd r.params 1 1, payload := r.params.drop 4 }] } ∧
      t.ostc.get r.car.other = s.dev.ostc.get r.car.other) ∧
  (∀ (s : State) (r : Req), sendsOstc s.dev r = false → Does (.ostcSend r) s [.ostc] fun t =>
      t.ostc.get r.car = { s.dev.ostc.get r.car with
        nsoq := (s.dev.ostc.get r.car).nsoq ++ [{ type := 0, dest := rd r.params 1 1, payload := r.params.drop 4 }] } ∧
      t.ostc.get r.car.other = s.dev.ostc.get r.car.other) ∧
  (∀ (s : State) (r : Req), (s.dev.ostc.get r.car).rxq = [] → Reads (.ostcRecv r) s fun p => p = zeros 32) ∧
  (∀ (s : State) (r : Req) (x : RxMsg) (rest : List RxMsg), (s.dev.ostc.get r.car).rxq = x :: rest →
    Answers (.ostcRecv r) s [.ostc] .ok fun p t =>
      slice p 0 1 = [1] ∧ slice p 1 1 = le 1 x.path ∧ slice p 2 2 = le 2 x.toneSnr ∧ slice p 4 1 = le 1 x.msg.type ∧
      p.drop 32 = x.msg.payload ∧ t.ostc.get r.car = { s.dev.ostc.get r.car with rxq := rest } ∧
      t.ostc.get r.car.other = s.dev.ostc.get r.car.other) ∧
  (∀ (s : State) (r : Req), Reads (.ostcStatus r) s fun p =>
      slice p 0 1 = le 1 (s.dev.ostc.get r.car).rx.code ∧ slice p 1 1 = le 1 (bit (s.dev.ostc.get r.car).burst.isSome) ∧
      slice p 3 1 = le 1 (s.dev.ostc.get r.car).rxq.length ∧ slice p 8 4 = le 4 (s.dev.ostc.get r.car).triggers ∧
      slice p 24 4 = le 4 (s.dev.ostc.get r.car).rxOk ∧ slice p 48 4 = le 4 (s.dev.ostc.get r.car).txBursts) ∧
  (∀ (s : State) (r : Req), Does (.ostcClear r) s [.ostc] fun t =>
      t.ostc.get r.car = { s.dev.ostc.get r.car with clearWaits := true } ∧
      t.ostc.get r.car.other = s.dev.ostc.get r.car.other)

/-- TIMING_COMMAND forces, releases, holds and ends restore waits; SILLAGE_SAVE writes a snapshot or raises its fault,
SILLAGE_RESET discards records, model and stored snapshots; OSC_TEMP keeps the temperature and its instant;
TTX_TIME_SET waits for its second; status and reads answer the state at the offsets stated; SENSE_READ of a channel
with a ring answers an empty record; SENSE_CLEAR waits for its boundary. Rests on 11_reference_selection_and_holdover
R504 to R512; 11_reference_selection_and_holdover R492 to R497; 12_time_transfer_and_delay_calibration R544 to R550;
13_line_sensing_chain R577 to R581. The model's own choices in it: SENSE_READ with a ring is log 75; a failed save is
log 73. -/
def Obligations.TimingAndSensingCommands : Prop :=
  (∀ (s : State) (r : Req), Does (.timingClear r) s [.timing] fun t =>
      t.timing = { s.dev.timing with forced := none, hoForced := false }) ∧
  (∀ (s : State) (r : Req), Does (.timingForce r) s [.timing] fun t =>
      t.timing = { s.dev.timing with forced := some (rd r.params 1 1) }) ∧
  (∀ (s : State) (r : Req), Does (.timingHoldover r) s [.timing] fun t =>
      t.timing = { s.dev.timing with hoForced := true }) ∧
  (∀ (s : State) (r : Req), Does (.clearWtr r) s [.timing] fun t =>
      t.timing = { s.dev.timing with clearWtr := rd r.params 1 1 :: s.dev.timing.clearWtr }) ∧
  (∀ (s : State) (r : Req), s.dev.boot.nand.present = true → Does (.sillageSave r) s [.boot, .clock] fun t =>
      t.boot.nand.snaps.length = min 16 (s.dev.boot.nand.snaps.length + 1) ∧
      (∀ x, t.boot.nand.snaps.head? = some x → x.recs = s.dev.timing.sillage ∧ x.model = s.dev.timing.model) ∧
      t.clock.snapAge = some 0) ∧
  (∀ (s : State) (r : Req), s.dev.boot.nand.present = false → Does (.sillageSave r) s Part.ofFault fun t =>
      Faulted 0x0805 0 s.dev t) ∧
  (∀ (s : State) (r : Req), Does (.sillageReset r) s [.timing, .boot] fun t =>
      t.timing = { s.dev.timing with sillage := [], model := {}, heldSnap := none } ∧
      t.boot = { s.dev.boot with nand := { s.dev.boot.nand with snaps := [] } }) ∧
  (∀ (s : State) (r : Req), Does (.oscTemp r) s [.timing] fun t =>
      t.timing = { s.dev.timing with oscTemp := some (rdInt r.params 4 4), oscTempAt := s.dev.timing.now }) ∧
  (∀ (s : State) (r : Req), Reads (.timingStatus r) s fun p =>
      slice p 0 1 = le 1 s.dev.timing.dpll.code ∧ slice p 1 1 = le 1 (s.dev.timing.selected.getD 0xFF) ∧
      slice p 4 1 = le 1 (qlOut s.dev) ∧ slice p 8 12 = timeBytes s.dev.timing.now ∧
      slice p 20 8 = leInt 8 s.dev.timing.phaseErr ∧ slice p 28 4 = leInt 4 s.dev.timing.freqOff) ∧
  (∀ (s : State) (r : Req), Reads (.timingRefStatus r) s fun p =>
      slice p 0 1 = le 1 (cand s.dev 0).state.code ∧ slice p 1 1 = le 1 (candKind s.dev 0) ∧
      slice p 24 1 = le 1 (cand s.dev 1).state.code) ∧
  (∀ (s : State) (r : Req), Reads (.sillageRead r) s fun p =>
      slice p 0 2 = le 2 ((s.dev.timing.sillage.drop (rd r.params 0 4)).take (rd r.params 4 2)).length ∧
      slice p 2 1 = le 1 (bit (historyValid s.dev)) ∧
      p.drop 32 = ((s.dev.timing.sillage.drop (rd r.params 0 4)).take (rd r.params 4 2)).flatMap sillageBytes) ∧
  (∀ (s : State) (r : Req), Reads (.ttxStatus r) s fun p =>
      slice p 0 1 = le 1 (s.dev.ttx.get r.car).path ∧ slice p 4 8 = leInt 8 (s.dev.ttx.get r.car).theta ∧
      slice p 12 8 = leInt 8 (s.dev.ttx.get r.car).thetaRaw ∧ slice p 32 8 = le 8 (s.dev.ttx.get r.car).meanDelay) ∧
  (∀ (s : State) (r : Req), Reads (.ttxDelayRead r) s fun p =>
      slice p 0 8 = leInt 8 (((modeOf s.dev r.car).map fun x => x.dTx).getD 0) ∧
      slice p 16 8 = leInt 8 (((modeOf s.dev r.car).map fun x => x.dRx).getD 0) ∧
      slice p 40 4 = leInt 4 (s.dev.rx.get r.car).delayCorr) ∧
  (∀ (s : State) (r : Req), Does (.ttxTimeSet r) s [.timing] fun t =>
      t.timing = { s.dev.timing with timeSet := some (rd r.params 0 6, 0) }) ∧
  (∀ (s : State) (r : Req), Reads (.senseInfo r) s fun p =>
      slice p 0 1 = le 1 (rd r.params 0 1) ∧ slice p 1 1 = le 1 (senseDef s.dev (rd r.params 0 1)).code ∧
      slice p 4 2 = le 2 (senseDef s.dev (rd r.params 0 1)).m ∧
      slice p 12 4 = le 4 (senseDef s.dev (rd r.params 0 1)).rateMax ∧
      p.drop 48 = (senseDef s.dev (rd r.params 0 1)).coefs.flatMap (leInt 2 ·)) ∧
  (∀ (s : State) (r : Req), Reads (.senseStatus r) s fun p =>
      slice p 0 4 = le 4 (sense s.dev (rd r.params 0 1)).inSat ∧
      slice p 28 4 = le 4 (sense s.dev (rd r.params 0 1)).delivered ∧
      slice p 32 4 = le 4 (sense s.dev (rd r.params 0 1)).drop ∧
      slice p 36 4 = le 4 (sense s.dev (rd r.params 0 1)).unsettled ∧
      slice p 46 2 = le 2 (sense s.dev (rd r.params 0 1)).peak ∧ slice p 48 2 = le 2 (sense s.dev (rd r.params 0 1)).rms) ∧
  (∀ (s : State) (r : Req), senseRing s.dev (rd r.params 0 1) ≠ none →
    Reads (.senseRead r) s fun p => p = fit 128 (le 1 (rd r.params 0 1))) ∧
  (∀ (s : State) (r : Req), rd r.params 0 1 ≠ 0xFF → Does (.senseClear r) s [.sense] fun t =>
      sense t (rd r.params 0 1) = { sense s.dev (rd r.params 0 1) with clearWaits := true } ∧
      ∀ j, j ≠ rd r.params 0 1 → sense t j = sense s.dev j)

/-- For a channel whose ring is 0xFF: with kept records, SENSE_READ answers OK with the bytes of the oldest one, which
leaves the channel's kept records while the rest stay in order and no other channel changes; with none, it answers a
128-byte record whose count byte is 0 and changes nothing. Formalises R580 of 13_line_sensing_chain. -/
def Obligations.SenseReadReturnsOldestRecord : Prop :=
  (∀ (s : State) (r : Req) (x : SenseRec) (rest : List SenseRec), senseRing s.dev (rd r.params 0 1) = none →
    (sense s.dev (rd r.params 0 1)).kept = x :: rest → Answers (.senseRead r) s [.sense] .ok fun p t =>
      p = senseRecBytes (rd r.params 0 1) x ∧
      sense t (rd r.params 0 1) = { sense s.dev (rd r.params 0 1) with kept := rest } ∧
      ∀ j, j ≠ rd r.params 0 1 → sense t j = sense s.dev j) ∧
  (∀ (s : State) (r : Req), senseRing s.dev (rd r.params 0 1) = none →
    (sense s.dev (rd r.params 0 1)).kept = [] → Reads (.senseRead r) s fun p =>
      p.length = 128 ∧ slice p 1 1 = [0])

/-- MEM_POOL_SET starts a reconfiguration; scrub is enabled, disabled at its segment or held; LEQ_QUEUE_CONFIG enables,
drains or is held; BLOTTER_ARM, TRIGGER, READ, SPILL and FREE move one slot; status commands answer the state at the
offsets stated. No other queue or slot changes. Rests on 14_buffer_memory_and_latency_equaliser R582 to R586;
14_buffer_memory_and_latency_equaliser R592 to R598; 14_buffer_memory_and_latency_equaliser R599 to R615;
14_buffer_memory_and_latency_equaliser R616 to R624. The model's own choices in it: held commands as in logs 76, 77
and 80; occupancy bytes of MEM_STATUS that no rule gives are free (log 12). -/
def Obligations.MemoryAndCaptureCommands : Prop :=
  (∀ (s : State) (r : Req), Does (.memPoolSet r) s [.mem] fun t =>
      t.mem = { s.dev.mem with reconfig := some { sizes := [poolAsked r 0, poolAsked r 1, poolAsked r 2, poolAsked r 3] } }) ∧
  (∀ (s : State) (r : Req), Answers (.memStatus r) s [.fresh] .ok fun p _ =>
      slice p 0 4 = le 4 (poolSize s.dev 0) ∧ slice p 4 4 = le 4 (poolSize s.dev 1) ∧
      slice p 8 4 = le 4 (poolSize s.dev 2) ∧ slice p 12 4 = le 4 (poolSize s.dev 3) ∧
      slice p 28 4 = le 4 (mib (capBuffers s.dev))) ∧
  (∀ (s : State) (r : Req), rd r.params 0 1 = 1 → s.dev.mem.scrubOff = false → s.dev.mem.scrubHeld = none →
    Does (.memScrubConfig r) s [.settings, .pendSet, .mem] fun t =>
      Accepts 0x0B02 r.tgt r.params s.dev t ∧ t.mem = { s.dev.mem with scrubOn := true }) ∧
  (∀ (s : State) (r : Req), rd r.params 0 1 ≠ 1 → s.dev.mem.scrubBusy = true → s.dev.mem.scrubHeld = none →
    Does (.memScrubConfig r) s [.settings, .pendSet, .mem] fun t =>
      Accepts 0x0B02 r.tgt r.params s.dev t ∧ t.mem = { s.dev.mem with scrubOff := true }) ∧
  (∀ (s : State) (r : Req), rd r.params 0 1 ≠ 1 → s.dev.mem.scrubBusy = false → s.dev.mem.scrubHeld = none →
    Does (.memScrubConfig r) s [.settings, .pendSet, .mem] fun t =>
      Accepts 0x0B02 r.tgt r.params s.dev t ∧
      t.mem = { s.dev.mem with scrubOn := false, scrubStart := none, scrubNext := 0, scrubLate := false }) ∧
  (∀ (s : State) (r : Req), rd r.params 0 1 = 1 → s.dev.mem.scrubOff = true → Defers (.memScrubConfig r) s [.mem] fun t =>
      t.mem = { s.dev.mem with scrubHeld := some ⟨0x0B02, r⟩ }) ∧
  (∀ (s : State) (r : Req), Reads (.memRepairStatus r) s fun p =>
      slice p 0 2 = le 2 (poorest (tower s.dev 0)) ∧ slice p 2 2 = le 2 (tower s.dev 0).rows ∧
      slice p 4 4 = le 4 (tower s.dev 0).pages ∧ slice p 8 4 = le 4 (tower s.dev 0).ce ∧
      slice p 12 4 = le 4 (tower s.dev 0).ue ∧ slice p 24 4 = le 4 (tower s.dev 1).ce) ∧
  (∀ (s : State) (r : Req), Does (.memClear r) s [.mem] fun t => t.mem = { s.dev.mem with clearWaits := true }) ∧
  (∀ (s : State) (r : Req), s.dev.mem.reconfig = none → rd r.params 2 1 = 1 →
    Does (.leqQueueConfig r) s [.settings, .pendSet, .mem] fun t =>
      Accepts 0x0B08 r.tgt r.params s.dev t ∧
      queue t (rd r.params 0 2) = { queue s.dev (rd r.params 0 2) with state := .enabled } ∧
      ∀ j, j ≠ rd r.params 0 2 → queue t j = queue s.dev j) ∧
  (∀ (s : State) (r : Req), rd r.params 2 1 ≠ 1 → (queue s.dev (rd r.params 0 2)).held = none →
    (queue s.dev (rd r.params 0 2)).state = .enabled → Does (.leqQueueConfig r) s [.settings, .pendSet, .mem] fun t =>
      Accepts 0x0B08 r.tgt r.params s.dev t ∧
      queue t (rd r.params 0 2) = { queue s.dev (rd r.params 0 2) with state := .draining } ∧
      ∀ j, j ≠ rd r.params 0 2 → queue t j = queue s.dev j) ∧
  (∀ (s : State) (r : Req), s.dev.mem.reconfig ≠ none → enablesQueue s.dev r = true →
    Defers (.leqQueueConfig r) s [.mem] fun t =>
      queue t (rd r.params 0 2) = { queue s.dev (rd r.params 0 2) with held := some ⟨0x0B08, r⟩ } ∧
      ∀ j, j ≠ rd r.params 0 2 → queue t j = queue s.dev j) ∧
  (∀ (s : State) (r : Req), Reads (.leqQueueStatus r) s fun p =>
      slice p 0 2 = le 2 (rd r.params 0 2) ∧ slice p 4 4 = le 4 (queue s.dev (rd r.params 0 2)).frames.length ∧
      slice p 20 4 = le 4 (queue s.dev (rd r.params 0 2)).released ∧
      slice p 28 4 = le 4 (queue s.dev (rd r.params 0 2)).dropLate ∧
      slice p 36 4 = le 4 (queue s.dev (rd r.params 0 2)).dropFull ∧
      slice p 52 4 = le 4 (queue s.dev (rd r.params 0 2)).portDown) ∧
  (∀ (s : State) (r : Req), s.dev.mem.reconfig = none → Does (.blotterArm r) s [.mem] fun t =>
      (cap t (rd r.params 0 1)).state = .armed ∧ (cap t (rd r.params 0 1)).source = rd r.params 1 1 ∧
      (cap t (rd r.params 0 1)).target = rd r.params 2 1 ∧ (cap t (rd r.params 0 1)).preBytes = rd r.params 8 8 ∧
      (cap t (rd r.params 0 1)).postBytes = rd r.params 16 8 ∧ (cap t (rd r.params 0 1)).trig = none ∧
      (cap t (rd r.params 0 1)).armedAt = s.dev.timing.now ∧
      ∀ j, j ≠ rd r.params 0 1 → cap t j = cap s.dev j) ∧
  (∀ (s : State) (r : Req), s.dev.mem.reconfig ≠ none → Defers (.blotterArm r) s [.mem] fun t =>
      cap t (rd r.params 0 1) = { cap s.dev (rd r.params 0 1) with held := some ⟨0x0B0A, r⟩ } ∧
      ∀ j, j ≠ rd r.params 0 1 → cap t j = cap s.dev j) ∧
  (∀ (s : State) (r : Req), rd r.params 0 1 < 4 → (cap s.dev (rd r.params 0 1)).state = .armed →
    (cap s.dev (rd r.params 0 1)).trig = none → (cap s.dev (rd r.params 0 1)).trigMask.getLsbD 0 = true →
    (cap s.dev (rd r.params 0 1)).trigMask.getLsbD 5 = false → Does (.blotterTrigger r) s [.mem, .stack] fun t =>
      (cap t (rd r.params 0 1)).trig = some (0, s.dev.timing.now, s.dev.timing.now) ∧
      ∀ j, j ≠ rd r.params 0 1 → cap t j = cap s.dev j) ∧
  (∀ (s : State) (r : Req), Reads (.blotterStatus r) s fun p =>
      slice p 0 1 = le 1 (CapState.num (cap s.dev 0).state) ∧ slice p 1 1 = le 1 (cap s.dev 0).source ∧
      slice p 3 1 = le 1 (cap s.dev 0).flags.toNat ∧ slice p 12 4 = le 4 (cap s.dev 0).trigIgnored ∧
      slice p 16 1 = le 1 (CapState.num (cap s.dev 1).state)) ∧
  (∀ (s : State) (r : Req), rd r.params 1 1 = 1 → Reads (.blotterRead r) s fun p =>
      p = slice (capBytes (rd r.params 0 1) (cap s.dev (rd r.params 0 1))) (rd r.params 8 8) (rd r.params 16 4)) ∧
  (∀ (s : State) (r : Req), rd r.params 1 1 ≠ 1 → rd r.params 8 8 < 64 + (cap s.dev (rd r.params 0 1)).length →
    0 < rd r.params 16 4 → Does (.blotterRead r) s [.mem] fun t =>
      cap t (rd r.params 0 1) = { cap s.dev (rd r.params 0 1) with readout := some (rd r.params 2 1, rd r.params 8 8,
        min (rd r.params 8 8 + rd r.params 16 4) (64 + (cap s.dev (rd r.params 0 1)).length)) } ∧
      ∀ j, j ≠ rd r.params 0 1 → cap t j = cap s.dev j) ∧
  (∀ (s : State) (r : Req), Does (.blotterSpill r) s [.mem] fun t =>
      cap t (rd r.params 0 1) = { cap s.dev (rd r.params 0 1) with state := .spilling } ∧
      ∀ j, j ≠ rd r.params 0 1 → cap t j = cap s.dev j) ∧
  (∀ (s : State) (r : Req), (cap s.dev (rd r.params 0 1)).held = none → Does (.blotterFree r) s [.mem] fun t =>
      cap t (rd r.params 0 1) = { ({} : CapSlot) with trigIgnored := (cap s.dev (rd r.params 0 1)).trigIgnored } ∧
      ∀ j, j ≠ rd r.params 0 1 → cap t j = cap s.dev j)

/-- Lane, port, stack, clock and reset status answer the state at the offsets stated; an eye scan is held until it ends;
HL_RESET and RESET_DOMAIN put the named domain in reset, DEVICE and MGMT after the answer; STACK_HANDOVER announces
its second; clears zero their counters. Rests on 16_host_lanes R663 to R668; 16_host_lanes R652 to R654;
17_stack_bus_and_stacking R695 to R699; 17_stack_bus_and_stacking R690 to R693; 18_clocks_resets_power R734 to R738;
18_clocks_resets_power R721 to R727. The model's own choices in it: CLOCK_STATUS beyond its table is logs 22 and 23;
the reset delay is log 42. -/
def Obligations.LaneStackAndClockCommands : Prop :=
  (∀ (s : State) (r : Req), Reads (.hlStatus r) s fun p =>
      slice p 0 1 = le 1 (LaneState.num (lane s.dev (rd r.params 0 1)).state) ∧
      slice p 2 1 = le 1 ((lane s.dev (rd r.params 0 1)).laneId.getD 0xFF) ∧
      slice p 4 4 = le 4 (lane s.dev (rd r.params 0 1)).estBer ∧
      slice p 8 4 = le 4 (lane s.dev (rd r.params 0 1)).lockLoss ∧
      slice p 12 4 = le 4 (lane s.dev (rd r.params 0 1)).adaptRestart) ∧
  (∀ (s : State) (r : Req), Defers (.hlEyeScan r) s [.lanes] fun t =>
      lane t (rd r.params 0 1) = { lane s.dev (rd r.params 0 1) with scan := some ⟨0x0C02, r⟩ } ∧
      ∀ j, j ≠ rd r.params 0 1 → lane t j = lane s.dev j) ∧
  (∀ (s : State) (r : Req) (e : EyeScan), (lane s.dev (rd r.params 0 1)).eye = some e → Reads (.hlEyeRead r) s fun p =>
      p = le 1 e.eyes ++ [0, 0, 0] ++ e.maps) ∧
  (∀ (s : State) (r : Req), (lane s.dev (rd r.params 0 1)).eye = none → Reads (.hlEyeRead r) s fun p =>
      p = [0, 0, 0, 0]) ∧
  (∀ (s : State) (r : Req), inReset s.dev (lgDomain (rd r.params 0 1)) = false →
    Answers (.hlReset r) s [.lanes, .clock, .host, .evq] .ok fun p t =>
      p = [] ∧ inReset t (lgDomain (rd r.params 0 1)) = true) ∧
  (∀ (s : State) (r : Req), rd r.params 0 1 < 32 → Does (.hlClear r) s [.lanes] fun t =>
      lane t (rd r.params 0 1) = { lane s.dev (rd r.params 0 1) with clearWaits := true } ∧
      ∀ j, j ≠ rd r.params 0 1 → lane t j = lane s.dev j) ∧
  (∀ (s : State) (r : Req), rd r.params 0 1 = 0xFF → Does (.hlClear r) s [.lanes] fun t =>
      ∀ j, j < 32 → lane t j = { lane s.dev j with clearWaits := true }) ∧
  (∀ (s : State) (r : Req), Reads (.stackStatus r) s fun p =>
      slice p 0 1 = le 1 s.dev.stack.strapRole ∧ slice p 1 1 = le 1 s.dev.stack.stackId ∧
      slice p 2 1 = le 1 s.dev.stack.acting.code ∧ slice p 3 1 = le 1 (s.dev.stack.master.getD 0xFF) ∧
      slice p 6 1 = le 1 s.dev.stack.hops ∧ slice p 8 1 = le 1 s.dev.stack.members.toNat ∧
      slice p 12 8 = leInt 8 s.dev.stack.sigma ∧ slice p 28 4 = le 4 s.dev.stack.takeovers) ∧
  (∀ (s : State) (r : Req), Reads (.stackPortStatus r) s fun p =>
      slice p 0 1 = le 1 (sbPort s.dev (rd r.params 0 1)).state.code ∧
      slice p 4 4 = le 4 (sbPort s.dev (rd r.params 0 1)).linkDelay ∧
      slice p 8 4 = le 4 (sbPort s.dev (rd r.params 0 1)).intDelay ∧
      slice p 12 4 = le 4 (sbPort s.dev (rd r.params 0 1)).crcErr ∧
      slice p 16 4 = le 4 (sbPort s.dev (rd r.params 0 1)).downCount) ∧
  (∀ (s : State) (r : Req) (b : Nat), s.dev.stack.standby = some b → Does (.stackHandover r) s [.stack] fun t =>
      t.stack = { s.dev.stack with
        handover := some (b, (toStack s.dev s.dev.timing.now + 10 * MS + SEC - 1) / SEC) }) ∧
  (∀ (s : State) (r : Req), Does (.stackClear r) s [.stack] fun t =>
      t.stack.takeovers = 0 ∧ t.stack.proxyTimeouts = 0 ∧ t.stack.msgDrop = 0 ∧ t.stack.sigma = s.dev.stack.sigma ∧
      ∀ k, k < 4 → sbPort t k = { sbPort s.dev k with crcErr := 0, downCount := 0, adaptRestart := 0 }) ∧
  (∀ (s : State) (r : Req), Reads (.clockStatus r) s fun p =>
      slice p 0 1 = le 1 (if pllRuns s.dev then (sel s.dev 0).source else 0xFF) ∧
      slice p 2 1 = le 1 (bit s.dev.clock.xi.a.stable + 2 * bit s.dev.clock.xi.b.stable) ∧
      slice p 4 4 = leInt 4 s.dev.clock.xi.a.freq ∧ slice p 12 2 = le 2 s.dev.clock.foscTrim ∧
      slice p 68 4 = le 4 s.dev.clock.coasts) ∧
  (∀ (s : State) (r : Req), (rd r.params 0 1 = 1 ∨ rd r.params 0 1 = 2) → rd r.params 1 1 = 0 →
    Does (.resetDomain r) s [.clock] fun t =>
      t.clock = { s.dev.clock with delayed := s.dev.clock.delayed ++
        [(if rd r.params 0 1 = 1 then .device else .mgmt, s.dev.timing.now)] }) ∧
  (∀ (s : State) (r : Req), rd r.params 0 1 = 7 → rd r.params 1 1 = 0 → Does (.resetDomain r) s [.crypto, .kme, .clock] fun t =>
      inReset t .crypto = true ∧ t.kme.ctxs = [] ∧
      ∀ c, (t.crypto.get c).tx = ⟨{}, {}⟩ ∧ (t.crypto.get c).rx = ⟨{}, {}⟩) ∧
  (∀ (s : State) (r : Req) (k : Fin 8), resetTarget r = some (.lg k) →
    Does (.resetDomain r) s [.lanes, .clock, .host, .evq] fun t => inReset t (.lg k) = true) ∧
  (∀ (s : State) (r : Req) (k : Fin 4), resetTarget r = some (.sb k) →
    Does (.resetDomain r) s [.stack, .clock] fun t => inReset t (.sb k) = true) ∧
  (∀ (s : State) (r : Req), resetTarget r = some .dram →
    Does (.resetDomain r) s [.accord, .mem, .clock] fun t => inReset t .dram = true) ∧
  (∀ (s : State) (r : Req) (c : Carrier), resetTarget r = some (carDomain c) →
    Does (.resetDomain r) s [.conv, .tx, .rx, .fec, .line, .tribs, .crypto, .ostc, .ttx, .elec, .settings, .pendSet, .clock]
      fun t => inReset t (carDomain c) = true ∧ t.tx.get c.other = s.dev.tx.get c.other ∧
        t.rx.get c.other = s.dev.rx.get c.other) ∧
  (∀ (s : State) (r : Req), resetTarget r = some .timing → rootOnDpll s.dev = false →
    Does (.resetDomain r) s (.timing :: .ttx :: .evq :: .settings :: .pendSet :: Part.ofFault) fun t =>
      inReset t .timing = true) ∧
  (∀ (s : State) (r : Req), Reads (.resetStatus r) s fun p =>
      slice p 0 4 = le 4 (bitmap (allDomains.map (inReset s.dev))) ∧ slice p 4 1 = le 1 s.dev.clock.lastCause ∧
      slice p 5 1 = le 1 (bit s.dev.clock.timingHold))

/-- FAULT_LIST, FAULT_STATUS, FAULT_LOG_READ and FAULT_BLACKBOX_READ answer the sources, the log and the stored records,
newest first; FAULT_CLEAR clears a latch that is not raw, counters, the first-fault record or the log; FAULT_INJECT
arms and disarms a checker; FAULT_PHASE sets the phase and the recovery time. Rests on 19_fault_handling R768 to R773;
19_fault_handling R763 to R766; 19_fault_handling R767. The model's own choices in it: status is taken at the instant
of the command (log 37). -/
def Obligations.FaultCommands : Prop :=
  (∀ (s : State) (r : Req), Reads (.faultList r) s fun p =>
      p = le 2 ((allSources.drop (rd r.params 0 2)).take 251).length ++ [0, 0] ++
        ((allSources.drop (rd r.params 0 2)).take 251).flatMap listBytes) ∧
  (∀ (s : State) (r : Req), rd r.params 0 2 ≠ 0xFFFF → Reads (.faultStatus r) s fun p =>
      slice p 0 2 = le 2 (rd r.params 0 2) ∧ slice p 2 1 = le 1 (rd r.params 2 1) ∧
      slice p 3 1 = [match (source s.dev (rd r.params 0 2) (rd r.params 2 1)).st with
        | .quiet => 0 | .active => 1 | .latched => 2] ∧
      slice p 8 4 = le 4 (source s.dev (rd r.params 0 2) (rd r.params 2 1)).events ∧
      slice p 12 2 = le 2 (source s.dev (rd r.params 0 2) (rd r.params 2 1)).recoveries ∧
      slice p 16 10 = timeBytes10 (source s.dev (rd r.params 0 2) (rd r.params 2 1)).lastEvent) ∧
  (∀ (s : State) (r : Req), rd r.params 0 2 = 0xFFFF → Reads (.faultStatus r) s fun p =>
      slice p 8 4 = le 4 (countPhase s.dev (· = .active)) ∧ slice p 12 4 = le 4 (countPhase s.dev (· = .latched)) ∧
      slice p 16 1 = le 1 (bit (safeState s.dev)) ∧ slice p 20 4 = le 4 s.dev.fault.overwrite) ∧
  (∀ (s : State) (r : Req), Reads (.faultLogRead r) s fun p =>
      p = ((s.dev.fault.log.drop (rd r.params 0 2)).take (rd r.params 2 2)).flatMap faultBytes) ∧
  (∀ (s : State) (r : Req), rd r.params 2 1 ≠ 0xFF → (source s.dev (rd r.params 0 2) (rd r.params 2 1)).st = .latched →
    SourceRaw (source s.dev (rd r.params 0 2) (rd r.params 2 1)) = false → Does (.faultClearLatch r) s [.fault, .evq] fun t =>
      source t (rd r.params 0 2) (rd r.params 2 1) = { source s.dev (rd r.params 0 2) (rd r.params 2 1) with
        st := .quiet, quiet := none, held := 0, due := 0, lastChange := s.dev.timing.now } ∧
      t.fault.log = s.dev.fault.log) ∧
  (∀ (s : State) (r : Req), Does (.faultClearCounters r) s [.fault] fun t =>
      (∀ i, i ∈ namedInsts r.params → source t (rd r.params 0 2) i = { source s.dev (rd r.params 0 2) i with
        recoveries := 0, events := 0, recent := [] }) ∧ t.fault.log = s.dev.fault.log) ∧
  (∀ (s : State) (r : Req), Does (.faultClearFirstFault r) s [.fault] fun t =>
      t.fault = { s.dev.fault with first := none, pinLow := t.fault.pinLow }) ∧
  (∀ (s : State) (r : Req), Does (.faultClearLog r) s [.fault] fun t =>
      t.fault = { s.dev.fault with log := [], pinLow := t.fault.pinLow }) ∧
  (∀ (s : State) (r : Req), Does (.faultInjectArm r) s [.fault] fun t =>
      armedAt t (rd r.params 0 2) (rd r.params 2 1) = some
        { pattern := BitVec.ofNat 32 (rd r.params 4 4), left := rd r.params 8 1, react := decide (rd r.params 9 1 = 1)
          marked := 0 } ∧ t.fault.sources = s.dev.fault.sources) ∧
  (∀ (s : State) (r : Req) (a : Injection), armedAt s.dev (rd r.params 0 2) (rd r.params 2 1) = some a →
    Does (.faultInjectDisarm r) s [.fault, .evq] fun t =>
      armedAt t (rd r.params 0 2) (rd r.params 2 1) = none ∧
      Raised 0x0F03 (rd r.params 0 2) 0 (le 1 (rd r.params 2 1) ++ le 1 a.marked) s.dev t) ∧
  (∀ (s : State) (r : Req), Does (.faultPhase r) s [.fault] fun t =>
      t.fault.test = decide (rd r.params 0 1 = 1) ∧ t.fault.recoveryS = rd r.params 2 2 ∧
      t.fault.log = s.dev.fault.log) ∧
  (∀ (s : State) (r : Req), Reads (.faultBlackboxRead r) s fun p =>
      p = ((s.dev.boot.nand.blackBox.drop (rd r.params 0 2)).take (rd r.params 2 2)).flatMap faultBytes)

/-- DEVICE_INFO, NV_STATUS, NV_HEADER_READ, NAND_INFO, DIAG_ECHO and DIAG_SENSORS answer the state; RING_CONFIG sets up a
ring or lets its disable wait; OTP_PROGRAM, NV_FW_ACTIVATE and NAND_FORMAT are held until they end; NOR writes program
erased bytes or wait for the erase; header updates raise the sequence number; archive reads and writes wait for their
transfer or an erase; ARCHIVE_DELETE removes its entry. Rests on 20_startup_and_nonvolatile_store R801;
20_startup_and_nonvolatile_store R793 to R800; 20_startup_and_nonvolatile_store R779 to R783; 21_mailbox_interface
R824 to R827; 22_command_reference R848 to R856. The model's own choices in it: ARCHIVE_LIST answers free bytes of at
most 4,032 (log 12); transfers as in log 99. -/
def Obligations.DeviceAndStoreCommands : Prop :=
  (∀ (s : State) (r : Req), Reads (.deviceInfo r) s fun p =>
      slice p 0 4 = le 4 s.dev.boot.fwVersion ∧ slice p 5 1 = le 1 (Stage.num s.dev.boot.stage) ∧
      slice p 7 1 = le 1 s.dev.stack.stackId ∧ slice p 16 1 = le 1 (s.dev.accord.active.slot.getD 0xFF) ∧
      slice p 17 1 = le 1 s.dev.accord.standby.code ∧ slice p 20 4 = le 4 s.dev.host.uptime ∧
      slice p 24 1 = le 1 s.dev.boot.otp.fused.toNat) ∧
  (∀ (s : State) (r : Req), (ring s.dev (rd r.params 0 1)).enable = false → rd r.params 2 1 = 1 →
    Does (.ringConfig r) s [.host] fun t =>
      ring t (rd r.params 0 1) = { ring s.dev (rd r.params 0 1) with
        kind := rd r.params 1 1, vector := rd r.params 3 1, entries := rd r.params 4 4, base := rd r.params 8 8,
        classMask := rd r.params 16 4, minSev := rd r.params 20 1, coalesce := rd r.params 22 2, enable := true,
        head := 0, tail := 0, loss := {}, msiWaits := false } ∧
      ∀ k, k ≠ rd r.params 0 1 → ring t k = ring s.dev k) ∧
  (∀ (s : State) (r : Req), (ring s.dev (rd r.params 0 1)).enable = true → Does (.ringConfig r) s [.host] fun t =>
      ring t (rd r.params 0 1) = { ring s.dev (rd r.params 0 1) with offWaits := true } ∧
      ∀ k, k ≠ rd r.params 0 1 → ring t k = ring s.dev k) ∧
  (∀ (s : State) (r : Req), Defers (.otpProgram r) s [.boot] fun t =>
      t.boot = { s.dev.boot with otp := { s.dev.boot.otp with burn := some ⟨0x0002, r⟩ } }) ∧
  (∀ (s : State) (r : Req), Reads (.nvStatus r) s fun p =>
      slice p 4 1 = le 1 s.dev.boot.fwSlot ∧ slice p 5 1 = le 1 (s.dev.boot.slots.a.status.getD 0xFF) ∧
      slice p 7 1 = le 1 s.dev.boot.otp.fwCounter ∧ slice p 8 4 = le 4 s.dev.boot.slots.a.version ∧
      slice p 24 1 = le 1 (s.dev.boot.copy.getD 0xFF)) ∧
  (∀ (s : State) (r : Req), Reads (.nvHeaderRead r) s fun p => p = fit 256 s.dev.boot.header) ∧
  (∀ (s : State) (r : Req), Does (.nvHeaderWrite r) s [.boot] fun t =>
      t.boot.header.length = 256 ∧ bhSeq t.boot.header = wrap 16 (bhSeq s.dev.boot.header + 1) ∧
      (∀ k, k < 252 → k ≠ 6 → k ≠ 7 → t.boot.header.getD k 0 = r.params.getD k 0) ∧ t.boot.slots = s.dev.boot.slots) ∧
  (∀ (s : State) (r : Req), s.dev.boot.norErase = [] → needsErase (slotBytes s.dev (idleSlot s.dev)) (rd r.params 0 4)
      (slice r.params 8 (rd r.params 4 2)) = false → Does (.nvFwWrite r) s [.boot] fun t =>
      slotBytes t (idleSlot s.dev) =
        norProgram (slotBytes s.dev (idleSlot s.dev)) (rd r.params 0 4) (slice r.params 8 (rd r.params 4 2)) ∧
      t.boot.script = s.dev.boot.script ∧ t.boot.header = s.dev.boot.header) ∧
  (∀ (s : State) (r : Req), needsErase (slotBytes s.dev (idleSlot s.dev)) (rd r.params 0 4)
      (slice r.params 8 (rd r.params 4 2)) = true → Defers (.nvFwWrite r) s [.boot] fun t =>
      t.boot.norHeld = s.dev.boot.norHeld ++ [⟨0x1003, r⟩] ∧ t.boot.slots = s.dev.boot.slots ∧
      t.boot.script = s.dev.boot.script) ∧
  (∀ (s : State) (r : Req), Defers (.nvFwActivate r) s [.boot] fun t =>
      t.boot = { s.dev.boot with activate := some ⟨0x1004, r⟩ }) ∧
  (∀ (s : State) (r : Req), s.dev.boot.header.length = 256 → Does (.nvFwCommit r) s [.boot] fun t =>
      t.boot.header.getD 15 0 = 0 ∧ bhSeq t.boot.header = wrap 16 (bhSeq s.dev.boot.header + 1) ∧
      t.boot.slots = s.dev.boot.slots) ∧
  (∀ (s : State) (r : Req), Does (.nvFwVersionCommit r) s [.boot] fun t =>
      t.boot = { s.dev.boot with otp := { s.dev.boot.otp with fwCounter := rd r.params 0 1 } }) ∧
  (∀ (s : State) (r : Req), s.dev.boot.norErase = [] → needsErase s.dev.boot.script (rd r.params 0 4)
      (slice r.params 8 (rd r.params 4 2)) = false → Does (.nvScriptWrite r) s [.boot] fun t =>
      t.boot = { s.dev.boot with script :=
        (norProgram s.dev.boot.script (rd r.params 0 4) (slice r.params 8 (rd r.params 4 2))) }) ∧
  (∀ (s : State) (r : Req), Reads (.nandInfo r) s fun p =>
      slice p 0 1 = le 1 (bit s.dev.boot.nand.present) ∧ slice p 4 8 = le 8 s.dev.boot.nand.capacity ∧
      slice p 28 8 = le 8 s.dev.boot.nand.written ∧ slice p 36 4 = le 4 s.dev.boot.nand.grownBad) ∧
  (∀ (s : State) (r : Req), Answers (.archiveList r) s [.fresh] .ok fun p _ => p.length ≤ 4032) ∧
  (∀ (s : State) (i : Instr) (op : Nat) (c : Cmd) (r : Req), commandOf i = some (op, c, r) → (op = 0x100A ∨ op = 0x100B) →
    takes op r s.dev = true → refusal op c r false (arrive op r s.dev) = none → r.readback = false →
    c.waits (arrive op r s.dev) r = true → Yields i s fun t =>
      (mailbox t r.mb.val).busy = true ∧ t.host.transfers = s.dev.host.transfers ++ [⟨op, r⟩] ∧ Only [.host] s.dev t) ∧
  (∀ (s : State) (i : Instr) (op : Nat) (c : Cmd) (r : Req), commandOf i = some (op, c, r) → (op = 0x100A ∨ op = 0x100B) →
    Defers i s [.boot] fun t => t.boot = { s.dev.boot with nand := { s.dev.boot.nand with
      held := s.dev.boot.nand.held ++ [⟨op, r⟩] } }) ∧
  (∀ (s : State) (r : Req), rd r.params 0 1 = 0 ∨ rd r.params 0 1 = 3 → Does (.archiveDelete r) s [.boot] fun t =>
      (∀ e, e ∈ (Tab.get (fun _ => []) t.boot.nand.entries (rd r.params 0 1) : List NandEntry) → e.id ≠ rd r.params 4 8) ∧
      t.boot.nand.erasing = s.dev.boot.nand.erasing ++ [(rd r.params 0 1, rd r.params 4 8)] ∧
      t.boot.nand.snaps = s.dev.boot.nand.snaps ∧ t.boot.nand.blackBox = s.dev.boot.nand.blackBox) ∧
  (∀ (s : State) (r : Req), Defers (.nandFormat r) s [.boot] fun t =>
      t.boot = { s.dev.boot with nand := { s.dev.boot.nand with format := some ⟨0x100D, r⟩ } }) ∧
  (∀ (s : State) (r : Req), Reads (.diagEcho r) s fun p => p = r.params) ∧
  (∀ (s : State) (r : Req), Reads (.diagSensors r) s fun p =>
      slice p 0 2 = leInt 2 (s.dev.elec.temps.getD 0 0) ∧ slice p 16 2 = le 2 (s.dev.elec.supplies.getD 0 0) ∧
      slice p 36 2 = le 2 s.dev.elec.avsTarget)

/-- With command c at the front, step of s is exec of c on s with the rest of the queue; on an empty queue step answers s
unchanged; exec of every command on every state answers a next state that keeps the queue it was given. Rests on
21_mailbox_interface R817 to R819. The model's own choices in it: the queue and idling on an empty queue are the
model's (logs 28 and 29); that no command stops is log 27. -/
def Obligations.StepRunsTheFrontCommand : Prop :=
  (∀ (c : Instr) (s : State) (q : List Instr), s.pending = c :: q → step s = exec c { s with pending := q }) ∧
  (∀ s : State, s.pending = [] → step s = .next s) ∧
  (∀ (c : Instr) (s : State), ∃ d, exec c s = .next { dev := d, pending := s.pending })

/-- State.reset has an empty queue, pins that follow the state, memories in their form, the ROM stage, last cause POR,
transmitters and receivers off, time 0, a free-running DPLL, no active Accord, interrupts clear, no fault source
raised, idle mailboxes and no settings. Rests on 18_clocks_resets_power R721 to R727; 21_mailbox_interface R807 to
R810; 20_startup_and_nonvolatile_store R784 to R791. The model's own choices in it: State.reset is the device at the
release of POR (log 44); registers the spec gives no reset value are not among these clauses but for device time and
the DPLL state (log 1). -/
def Obligations.StateAtReset : Prop :=
  State.reset.pending = [] ∧ PinsFollow State.reset.dev ∧ MemoriesOk State.reset.dev ∧
  State.reset.dev.boot.stage = .rom ∧ State.reset.dev.clock.lastCause = 0 ∧
  State.reset.dev.tx.a.state = .off ∧ State.reset.dev.tx.b.state = .off ∧
  State.reset.dev.rx.a.state = .off ∧ State.reset.dev.rx.b.state = .off ∧
  State.reset.dev.timing.now = 0 ∧ State.reset.dev.timing.dpll = .freeRun ∧
  State.reset.dev.accord.active.slot = none ∧ State.reset.dev.accord.standby = .empty ∧
  State.reset.dev.host.irqStatus = 0 ∧ State.reset.dev.host.irqEnable = 0 ∧ State.reset.dev.evq = [] ∧
  State.reset.dev.kme.alarm = false ∧
  (∀ id n, (source State.reset.dev id n).held = 0 ∧ (source State.reset.dev id n).events = 0) ∧
  (∀ n, (mailbox State.reset.dev n).busy = false ∧ (mailbox State.reset.dev n).respReady = false) ∧
  State.reset.dev.settings = [] ∧ State.reset.dev.pendSet = []

/-- If IRQ_N is low exactly while IRQ_STATUS AND IRQ_ENABLE is nonzero, it is so after every step; IRQ_STATUS_CLEAR, and a
register write to IRQ_STATUS, clear the bits written 1; a write to MB_STATUS that clears RESP_READY leaves IRQ_STATUS
as it was. Formalises R828 of 21_mailbox_interface. -/
def Obligations.InterruptLineFollowsStatus : Prop :=
  (∀ s t : State, (s.dev.host.irqLow = true ↔ (s.dev.host.irqStatus &&& s.dev.host.irqEnable) ≠ 0) → step s = .next t →
    (t.dev.host.irqLow = true ↔ (t.dev.host.irqStatus &&& t.dev.host.irqEnable) ≠ 0)) ∧
  (∀ (s : State) (v : BitVec 32), Yields (.irqStatusClear v) s fun t =>
    t.host.irqStatus = s.dev.host.irqStatus &&& ~~~v) ∧
  (∀ (s : State) (i : Iface) (v : BitVec 32), Yields (.registerWrite i 0x30 v) s fun t =>
    t.host.irqStatus = s.dev.host.irqStatus &&& ~~~v) ∧
  (∀ (s : State) (i : Iface) (n : Fin 4) (v : BitVec 32), v.getLsbD 0 = true →
    Yields (.registerWrite i (BitVec.ofNat 16 (0x44 + 16 * n.val)) v) s fun t =>
      (mailbox t n.val).respReady = false ∧ t.host.irqStatus = s.dev.host.irqStatus)

/-- If IRQ_N, FAULT_N and both TXON outputs follow the state (IRQ_N low exactly while an enabled interrupt bit is set,
FAULT_N low exactly while a source holds the pin or the safe state or a class F latch stands, TXON high exactly while
the transmitter is not in TX_OFF), then so they do after every step, whatever command runs. Rests on
21_mailbox_interface R828, R829; 19_fault_handling R757, R758; 04_transmit_path R170 to R177. -/
def Obligations.PinsFollowEveryStep : Prop :=
  ∀ s t : State, PinsFollow s.dev → step s = .next t → PinsFollow t.dev

/-- If the boot buffer, all request buffers, the data memories of all engines, the cluster memories, both firmware slots
and the startup script are in canonical form (addresses strictly rising, no entry equal to what an unlisted address
reads as), then so they are after every step. Rests on 21_mailbox_interface R807 to R810; 02_accords_and_loop_engines
R84 to R96; 20_startup_and_nonvolatile_store R801. The model's own choices in it: what an unlisted byte reads as is
logs 1 and 8. -/
def Obligations.MemoriesKeepTheirForm : Prop :=
  ∀ s t : State, MemoriesOk s.dev → step s = .next t → MemoriesOk t.dev

/-- Over every step from every state, every item of OTP that is fused stays fused, and neither the firmware nor the Accord
anti-rollback counter falls. Rests on 22_command_reference R848 to R856; 02_accords_and_loop_engines R56 to R61;
20_startup_and_nonvolatile_store R779 to R783. -/
def Obligations.FusesAndCountersOnlyGrow : Prop :=
  ∀ s t : State, step s = .next t → OtpGrows s.dev t.dev

/-- For every mailbox command of the table that is taken and fails a check of R815 or R842, the answer is that refusal,
and nothing of the device changes but its mailbox, the interrupt bits and lines, and the pins that follow the state.
Rests on 21_mailbox_interface R811 to R816, R894, R896; 22_command_reference R841 to R843. The model's own choices in
it: the order of checks within a step is read as in log 34. -/
def Obligations.RefusedCommandChangesNothing : Prop :=
  ∀ (s : State) (i : Instr) (op : Nat) (c : Cmd) (r : Req) (q : Resp), commandOf i = some (op, c, r) →
    takes op r s.dev = true → refusal op c r false (arrive op r s.dev) = some q →
    Yields i s fun t => Answered op r q t ∧ OnlyMailbox r.mb.val s.dev t

/-- For every row that rings a doorbell of mailbox 0 to 3 (each mailbox command, a proxied command, a request that fails
its first checks, a write to MB_DOORBELL from the owning interface) while the mailboxes are served and this one is
busy, the mailbox gains DB_IGNORED and is else unchanged, and so are every other mailbox, every setting, buffer and
command outstanding. Formalises R813 of 21_mailbox_interface. -/
def Obligations.BusyMailboxIgnoresDoorbell : Prop :=
  (∀ (s : State) (i : Instr) (op : Nat) (c : Cmd) (r : Req), commandOf i = some (op, c, r) → r.mb.val < 4 →
    served (putOut [] s.dev) = true → (mailbox s.dev r.mb.val).busy = true → Yields i s fun t =>
      mailbox t r.mb.val = { mailbox s.dev r.mb.val with dbIgnored := true } ∧ OnlyMailbox r.mb.val s.dev t) ∧
  (∀ (s : State) (op : BitVec 16) (r : Req), r.mb.val < 4 → served s.dev = true → r.here s.dev = false →
    (mailbox s.dev r.mb.val).busy = true → Yields (.proxiedCommand op r) s fun t =>
      mailbox t r.mb.val = { mailbox s.dev r.mb.val with dbIgnored := true } ∧ OnlyMailbox r.mb.val s.dev t) ∧
  (∀ (s : State) (n : Fin 4) (len : BitVec 16) (b : List Byte), served s.dev = true → (mailbox s.dev n.val).busy = true →
    16 ≤ len.toNat → len.toNat ≤ 4096 → (requestFault len.toNat (fit len.toNat b)).isSome = true →
    Yields (.mailboxRequestRefused n len b) s fun t =>
      mailbox t n.val = { mailbox s.dev n.val with dbIgnored := true } ∧ OnlyMailbox n.val s.dev t) ∧
  (∀ (s : State) (n : Fin 4) (v : BitVec 32), served s.dev = true → (mailbox s.dev n.val).busy = true →
    Yields (.registerWrite (ownIface n.val) (BitVec.ofNat 16 (0x40 + 16 * n.val)) v) s fun t =>
      mailbox t n.val = { mailbox s.dev n.val with dbIgnored := true } ∧ OnlyMailbox n.val s.dev t)

/-- For every mailbox command of the table that is taken with READBACK and passes its checks, the answer is OK, nothing
else changes, and in its parameters each plain parameter stands as given and each run-time setting shows the value in
force, but for the fields that the command's own rule fills. Rests on 22_command_reference R844, R845. The model's own
choices in it: the present value is the value in force (log 19). -/
def Obligations.ReadBackShowsPresentValues : Prop :=
  ∀ (s : State) (i : Instr) (op : Nat) (c : Cmd) (r : Req), commandOf i = some (op, c, r) →
    takes op r s.dev = true → refusal op c r false (arrive op r s.dev) = none → r.readback = true →
    Yields i s fun t => ∃ p, Answered op r ⟨.ok, p⟩ t ∧ OnlyMailbox r.mb.val s.dev t ∧
      ∀ row, row ∈ layout op →
        (∀ f, f ∈ c.back (arrive op r s.dev) r → f.1 + f.2.length ≤ row.off ∨ row.off + row.size ≤ f.1) →
        (row.kind = .par → slice p row.off row.size = slice r.params row.off row.size) ∧
        (row.kind = .rt → slice p row.off row.size =
          leInt row.size (inForce s.dev (skey op r.tgt (selector op r.params) row.off)))
end

