-- ==== Sys2Proof/Laws/State.lean ====
section
/-!
SUPPORT. What an update of one part of the device leaves of every part, each by `rfl`; sparse tables read after they are
written; the step and the act of a command.
-/
namespace Sys2Proof
variable {α : Type}

@[simp] theorem Two.get_mod (p : Two α) (c : Carrier) (f : α → α) : (p.mod c f).get c = f (p.get c) := by
  cases c <;> rfl

@[simp] theorem Two.get_set (p : Two α) (c : Carrier) (v : α) : (p.set c v).get c = v := by
  cases c <;> rfl

theorem Two.get_mod_ne (p : Two α) (f : α → α) : ∀ c d : Carrier, d ≠ c → (p.mod c f).get d = p.get d
  | .a, .a, h => absurd rfl h
  | .a, .b, _ => rfl
  | .b, .a, _ => rfl
  | .b, .b, h => absurd rfl h

/-! ### Sparse tables -/

theorem Tab.get_erase (d : Nat → α) (t : Tab α) (i j : Nat) :
    Tab.get d (Tab.erase t i) j = if j = i then d j else Tab.get d t j := by
  induction t with
  | nil => by_cases h : j = i <;> simp [Tab.erase, Tab.get, h]
  | cons p r ih =>
    obtain ⟨k, v⟩ := p
    by_cases hk : k = i
    · simp only [Tab.erase, List.filter] at ih ⊢
      subst hk
      by_cases hj : j = k
      · subst hj
        simpa [Tab.get] using ih
      · have : ¬ k = j := fun h => hj h.symm
        simpa [Tab.get, hj, this] using ih
    · simp only [Tab.erase, List.filter] at ih ⊢
      simp only [ne_eq, hk, not_false_eq_true, decide_true, Tab.get]
      by_cases hj : k = j
      · subst hj
        simp [hk]
      · simpa [hj] using ih

theorem Tab.get_insert (d : Nat → α) (t : Tab α) (i j : Nat) (v : α) (h : ∀ p ∈ t, p.1 ≠ i) :
    Tab.get d (Tab.insert t i v) j = if j = i then v else Tab.get d t j := by
  induction t with
  | nil =>
    by_cases hj : j = i
    · simp [Tab.insert, Tab.get, hj]
    · have : ¬ i = j := fun e => hj e.symm
      simp [Tab.insert, Tab.get, hj, this]
  | cons p r ih =>
    obtain ⟨k, w⟩ := p
    have hk : k ≠ i := h (k, w) (by simp)
    have hr : ∀ p ∈ r, p.1 ≠ i := fun p hp => h p (by simp [hp])
    by_cases hlt : i < k
    · simp only [Tab.insert, hlt, if_true, Tab.get]
      by_cases hj : j = i
      · subst hj; simp
      · have : ¬ i = j := fun e => hj e.symm
        simp [hj, this]
    · simp only [Tab.insert, hlt, if_false, Tab.get]
      by_cases hj : k = j
      · subst hj; simp [hk]
      · simpa [hj] using ih hr

/-- A table reads at `i` what was set there, and everywhere else what it read before. -/
theorem Tab.get_set [DecidableEq α] (d : Nat → α) (t : Tab α) (i j : Nat) (v : α) :
    Tab.get d (Tab.set d t i v) j = if j = i then v else Tab.get d t j := by
  unfold Tab.set
  split
  · rename_i hv
    rw [Tab.get_erase]
    split
    · rename_i hj; subst hj; exact hv.symm
    · rfl
  · rw [Tab.get_insert]
    · split
      · rfl
      · rename_i hj; rw [Tab.get_erase, if_neg hj]
    · intro p hp
      simpa [Tab.erase] using (List.mem_filter.1 hp).2

@[simp] theorem Tab.get_set_self [DecidableEq α] (d : Nat → α) (t : Tab α) (i : Nat) (v : α) :
    Tab.get d (Tab.set d t i v) i = v := by
  rw [Tab.get_set, if_pos rfl]

theorem Tab.get_set_ne [DecidableEq α] (d : Nat → α) (t : Tab α) {i j : Nat} (v : α) (h : j ≠ i) :
    Tab.get d (Tab.set d t i v) j = Tab.get d t j := by
  rw [Tab.get_set, if_neg h]

theorem Tab.get_modify [DecidableEq α] (d : Nat → α) (t : Tab α) (i j : Nat) (f : α → α) :
    Tab.get d (Tab.modify d t i f) j = if j = i then f (Tab.get d t i) else Tab.get d t j := by
  simp [Tab.modify, Tab.get_set]

@[simp] theorem Tab.get_modify_self [DecidableEq α] (d : Nat → α) (t : Tab α) (i : Nat) (f : α → α) :
    Tab.get d (Tab.modify d t i f) i = f (Tab.get d t i) := by
  simp [Tab.modify]

end Sys2Proof
namespace Sys2Proof.Machine
open Sys2Proof

/-! ### One part of the device changed -/

@[simp] theorem modTx_accord (c : Carrier) (f : TxSt → TxSt) (s : Device) : (modTx c f s).accord = s.accord := rfl
@[simp] theorem modTx_engines (c : Carrier) (f : TxSt → TxSt) (s : Device) : (modTx c f s).engines = s.engines := rfl
@[simp] theorem modTx_conv (c : Carrier) (f : TxSt → TxSt) (s : Device) : (modTx c f s).conv = s.conv := rfl
@[simp] theorem modTx_tx (c : Carrier) (f : TxSt → TxSt) (s : Device) : (modTx c f s).tx = s.tx.mod c f := rfl
@[simp] theorem modTx_rx (c : Carrier) (f : TxSt → TxSt) (s : Device) : (modTx c f s).rx = s.rx := rfl
@[simp] theorem modTx_fec (c : Carrier) (f : TxSt → TxSt) (s : Device) : (modTx c f s).fec = s.fec := rfl
@[simp] theorem modTx_pool (c : Carrier) (f : TxSt → TxSt) (s : Device) : (modTx c f s).pool = s.pool := rfl
@[simp] theorem modTx_line (c : Carrier) (f : TxSt → TxSt) (s : Device) : (modTx c f s).line = s.line := rfl
@[simp] theorem modTx_ohpFs (c : Carrier) (f : TxSt → TxSt) (s : Device) : (modTx c f s).ohpFs = s.ohpFs := rfl
@[simp] theorem modTx_tribs (c : Carrier) (f : TxSt → TxSt) (s : Device) : (modTx c f s).tribs = s.tribs := rfl
@[simp] theorem modTx_crypto (c : Carrier) (f : TxSt → TxSt) (s : Device) : (modTx c f s).crypto = s.crypto := rfl
@[simp] theorem modTx_kme (c : Carrier) (f : TxSt → TxSt) (s : Device) : (modTx c f s).kme = s.kme := rfl
@[simp] theorem modTx_ostc (c : Carrier) (f : TxSt → TxSt) (s : Device) : (modTx c f s).ostc = s.ostc := rfl
@[simp] theorem modTx_timing (c : Carrier) (f : TxSt → TxSt) (s : Device) : (modTx c f s).timing = s.timing := rfl
@[simp] theorem modTx_ttx (c : Carrier) (f : TxSt → TxSt) (s : Device) : (modTx c f s).ttx = s.ttx := rfl
@[simp] theorem modTx_sense (c : Carrier) (f : TxSt → TxSt) (s : Device) : (modTx c f s).sense = s.sense := rfl
@[simp] theorem modTx_ramp (c : Carrier) (f : TxSt → TxSt) (s : Device) : (modTx c f s).ramp = s.ramp := rfl
@[simp] theorem modTx_mem (c : Carrier) (f : TxSt → TxSt) (s : Device) : (modTx c f s).mem = s.mem := rfl
@[simp] theorem modTx_lanes (c : Carrier) (f : TxSt → TxSt) (s : Device) : (modTx c f s).lanes = s.lanes := rfl
@[simp] theorem modTx_stack (c : Carrier) (f : TxSt → TxSt) (s : Device) : (modTx c f s).stack = s.stack := rfl
@[simp] theorem modTx_clock (c : Carrier) (f : TxSt → TxSt) (s : Device) : (modTx c f s).clock = s.clock := rfl
@[simp] theorem modTx_fault (c : Carrier) (f : TxSt → TxSt) (s : Device) : (modTx c f s).fault = s.fault := rfl
@[simp] theorem modTx_boot (c : Carrier) (f : TxSt → TxSt) (s : Device) : (modTx c f s).boot = s.boot := rfl
@[simp] theorem modTx_host (c : Carrier) (f : TxSt → TxSt) (s : Device) : (modTx c f s).host = s.host := rfl
@[simp] theorem modTx_elec (c : Carrier) (f : TxSt → TxSt) (s : Device) : (modTx c f s).elec = s.elec := rfl
@[simp] theorem modTx_settings (c : Carrier) (f : TxSt → TxSt) (s : Device) : (modTx c f s).settings = s.settings := rfl
@[simp] theorem modTx_pendSet (c : Carrier) (f : TxSt → TxSt) (s : Device) : (modTx c f s).pendSet = s.pendSet := rfl
@[simp] theorem modTx_evq (c : Carrier) (f : TxSt → TxSt) (s : Device) : (modTx c f s).evq = s.evq := rfl
@[simp] theorem modTx_out (c : Carrier) (f : TxSt → TxSt) (s : Device) : (modTx c f s).out = s.out := rfl
@[simp] theorem modTx_fresh (c : Carrier) (f : TxSt → TxSt) (s : Device) : (modTx c f s).fresh = s.fresh := rfl
@[simp] theorem modRx_accord (c : Carrier) (f : RxSt → RxSt) (s : Device) : (modRx c f s).accord = s.accord := rfl
@[simp] theorem modRx_engines (c : Carrier) (f : RxSt → RxSt) (s : Device) : (modRx c f s).engines = s.engines := rfl
@[simp] theorem modRx_conv (c : Carrier) (f : RxSt → RxSt) (s : Device) : (modRx c f s).conv = s.conv := rfl
@[simp] theorem modRx_tx (c : Carrier) (f : RxSt → RxSt) (s : Device) : (modRx c f s).tx = s.tx := rfl
@[simp] theorem modRx_rx (c : Carrier) (f : RxSt → RxSt) (s : Device) : (modRx c f s).rx = s.rx.mod c f := rfl
@[simp] theorem modRx_fec (c : Carrier) (f : RxSt → RxSt) (s : Device) : (modRx c f s).fec = s.fec := rfl
@[simp] theorem modRx_pool (c : Carrier) (f : RxSt → RxSt) (s : Device) : (modRx c f s).pool = s.pool := rfl
@[simp] theorem modRx_line (c : Carrier) (f : RxSt → RxSt) (s : Device) : (modRx c f s).line = s.line := rfl
@[simp] theorem modRx_ohpFs (c : Carrier) (f : RxSt → RxSt) (s : Device) : (modRx c f s).ohpFs = s.ohpFs := rfl
@[simp] theorem modRx_tribs (c : Carrier) (f : RxSt → RxSt) (s : Device) : (modRx c f s).tribs = s.tribs := rfl
@[simp] theorem modRx_crypto (c : Carrier) (f : RxSt → RxSt) (s : Device) : (modRx c f s).crypto = s.crypto := rfl
@[simp] theorem modRx_kme (c : Carrier) (f : RxSt → RxSt) (s : Device) : (modRx c f s).kme = s.kme := rfl
@[simp] theorem modRx_ostc (c : Carrier) (f : RxSt → RxSt) (s : Device) : (modRx c f s).ostc = s.ostc := rfl
@[simp] theorem modRx_timing (c : Carrier) (f : RxSt → RxSt) (s : Device) : (modRx c f s).timing = s.timing := rfl
@[simp] theorem modRx_ttx (c : Carrier) (f : RxSt → RxSt) (s : Device) : (modRx c f s).ttx = s.ttx := rfl
@[simp] theorem modRx_sense (c : Carrier) (f : RxSt → RxSt) (s : Device) : (modRx c f s).sense = s.sense := rfl
@[simp] theorem modRx_ramp (c : Carrier) (f : RxSt → RxSt) (s : Device) : (modRx c f s).ramp = s.ramp := rfl
@[simp] theorem modRx_mem (c : Carrier) (f : RxSt → RxSt) (s : Device) : (modRx c f s).mem = s.mem := rfl
@[simp] theorem modRx_lanes (c : Carrier) (f : RxSt → RxSt) (s : Device) : (modRx c f s).lanes = s.lanes := rfl
@[simp] theorem modRx_stack (c : Carrier) (f : RxSt → RxSt) (s : Device) : (modRx c f s).stack = s.stack := rfl
@[simp] theorem modRx_clock (c : Carrier) (f : RxSt → RxSt) (s : Device) : (modRx c f s).clock = s.clock := rfl
@[simp] theorem modRx_fault (c : Carrier) (f : RxSt → RxSt) (s : Device) : (modRx c f s).fault = s.fault := rfl
@[simp] theorem modRx_boot (c : Carrier) (f : RxSt → RxSt) (s : Device) : (modRx c f s).boot = s.boot := rfl
@[simp] theorem modRx_host (c : Carrier) (f : RxSt → RxSt) (s : Device) : (modRx c f s).host = s.host := rfl
@[simp] theorem modRx_elec (c : Carrier) (f : RxSt → RxSt) (s : Device) : (modRx c f s).elec = s.elec := rfl
@[simp] theorem modRx_settings (c : Carrier) (f : RxSt → RxSt) (s : Device) : (modRx c f s).settings = s.settings := rfl
@[simp] theorem modRx_pendSet (c : Carrier) (f : RxSt → RxSt) (s : Device) : (modRx c f s).pendSet = s.pendSet := rfl
@[simp] theorem modRx_evq (c : Carrier) (f : RxSt → RxSt) (s : Device) : (modRx c f s).evq = s.evq := rfl
@[simp] theorem modRx_out (c : Carrier) (f : RxSt → RxSt) (s : Device) : (modRx c f s).out = s.out := rfl
@[simp] theorem modRx_fresh (c : Carrier) (f : RxSt → RxSt) (s : Device) : (modRx c f s).fresh = s.fresh := rfl
@[simp] theorem modFec_accord (c : Carrier) (f : FecSt → FecSt) (s : Device) : (modFec c f s).accord = s.accord := rfl
@[simp] theorem modFec_engines (c : Carrier) (f : FecSt → FecSt) (s : Device) : (modFec c f s).engines = s.engines := rfl
@[simp] theorem modFec_conv (c : Carrier) (f : FecSt → FecSt) (s : Device) : (modFec c f s).conv = s.conv := rfl
@[simp] theorem modFec_tx (c : Carrier) (f : FecSt → FecSt) (s : Device) : (modFec c f s).tx = s.tx := rfl
@[simp] theorem modFec_rx (c : Carrier) (f : FecSt → FecSt) (s : Device) : (modFec c f s).rx = s.rx := rfl
@[simp] theorem modFec_fec (c : Carrier) (f : FecSt → FecSt) (s : Device) : (modFec c f s).fec = s.fec.mod c f := rfl
@[simp] theorem modFec_pool (c : Carrier) (f : FecSt → FecSt) (s : Device) : (modFec c f s).pool = s.pool := rfl
@[simp] theorem modFec_line (c : Carrier) (f : FecSt → FecSt) (s : Device) : (modFec c f s).line = s.line := rfl
@[simp] theorem modFec_ohpFs (c : Carrier) (f : FecSt → FecSt) (s : Device) : (modFec c f s).ohpFs = s.ohpFs := rfl
@[simp] theorem modFec_tribs (c : Carrier) (f : FecSt → FecSt) (s : Device) : (modFec c f s).tribs = s.tribs := rfl
@[simp] theorem modFec_crypto (c : Carrier) (f : FecSt → FecSt) (s : Device) : (modFec c f s).crypto = s.crypto := rfl
@[simp] theorem modFec_kme (c : Carrier) (f : FecSt → FecSt) (s : Device) : (modFec c f s).kme = s.kme := rfl
@[simp] theorem modFec_ostc (c : Carrier) (f : FecSt → FecSt) (s : Device) : (modFec c f s).ostc = s.ostc := rfl
@[simp] theorem modFec_timing (c : Carrier) (f : FecSt → FecSt) (s : Device) : (modFec c f s).timing = s.timing := rfl
@[simp] theorem modFec_ttx (c : Carrier) (f : FecSt → FecSt) (s : Device) : (modFec c f s).ttx = s.ttx := rfl
@[simp] theorem modFec_sense (c : Carrier) (f : FecSt → FecSt) (s : Device) : (modFec c f s).sense = s.sense := rfl
@[simp] theorem modFec_ramp (c : Carrier) (f : FecSt → FecSt) (s : Device) : (modFec c f s).ramp = s.ramp := rfl
@[simp] theorem modFec_mem (c : Carrier) (f : FecSt → FecSt) (s : Device) : (modFec c f s).mem = s.mem := rfl
@[simp] theorem modFec_lanes (c : Carrier) (f : FecSt → FecSt) (s : Device) : (modFec c f s).lanes = s.lanes := rfl
@[simp] theorem modFec_stack (c : Carrier) (f : FecSt → FecSt) (s : Device) : (modFec c f s).stack = s.stack := rfl
@[simp] theorem modFec_clock (c : Carrier) (f : FecSt → FecSt) (s : Device) : (modFec c f s).clock = s.clock := rfl
@[simp] theorem modFec_fault (c : Carrier) (f : FecSt → FecSt) (s : Device) : (modFec c f s).fault = s.fault := rfl
@[simp] theorem modFec_boot (c : Carrier) (f : FecSt → FecSt) (s : Device) : (modFec c f s).boot = s.boot := rfl
@[simp] theorem modFec_host (c : Carrier) (f : FecSt → FecSt) (s : Device) : (modFec c f s).host = s.host := rfl
@[simp] theorem modFec_elec (c : Carrier) (f : FecSt → FecSt) (s : Device) : (modFec c f s).elec = s.elec := rfl
@[simp] theorem modFec_settings (c : Carrier) (f : FecSt → FecSt) (s : Device) : (modFec c f s).settings = s.settings := rfl
@[simp] theorem modFec_pendSet (c : Carrier) (f : FecSt → FecSt) (s : Device) : (modFec c f s).pendSet = s.pendSet := rfl
@[simp] theorem modFec_evq (c : Carrier) (f : FecSt → FecSt) (s : Device) : (modFec c f s).evq = s.evq := rfl
@[simp] theorem modFec_out (c : Carrier) (f : FecSt → FecSt) (s : Device) : (modFec c f s).out = s.out := rfl
@[simp] theorem modFec_fresh (c : Carrier) (f : FecSt → FecSt) (s : Device) : (modFec c f s).fresh = s.fresh := rfl
@[simp] theorem modLine_accord (c : Carrier) (f : LineSt → LineSt) (s : Device) : (modLine c f s).accord = s.accord := rfl
@[simp] theorem modLine_engines (c : Carrier) (f : LineSt → LineSt) (s : Device) : (modLine c f s).engines = s.engines := rfl
@[simp] theorem modLine_conv (c : Carrier) (f : LineSt → LineSt) (s : Device) : (modLine c f s).conv = s.conv := rfl
@[simp] theorem modLine_tx (c : Carrier) (f : LineSt → LineSt) (s : Device) : (modLine c f s).tx = s.tx := rfl
@[simp] theorem modLine_rx (c : Carrier) (f : LineSt → LineSt) (s : Device) : (modLine c f s).rx = s.rx := rfl
@[simp] theorem modLine_fec (c : Carrier) (f : LineSt → LineSt) (s : Device) : (modLine c f s).fec = s.fec := rfl
@[simp] theorem modLine_pool (c : Carrier) (f : LineSt → LineSt) (s : Device) : (modLine c f s).pool = s.pool := rfl
@[simp] theorem modLine_line (c : Carrier) (f : LineSt → LineSt) (s : Device) : (modLine c f s).line = s.line.mod c f := rfl
@[simp] theorem modLine_ohpFs (c : Carrier) (f : LineSt → LineSt) (s : Device) : (modLine c f s).ohpFs = s.ohpFs := rfl
@[simp] theorem modLine_tribs (c : Carrier) (f : LineSt → LineSt) (s : Device) : (modLine c f s).tribs = s.tribs := rfl
@[simp] theorem modLine_crypto (c : Carrier) (f : LineSt → LineSt) (s : Device) : (modLine c f s).crypto = s.crypto := rfl
@[simp] theorem modLine_kme (c : Carrier) (f : LineSt → LineSt) (s : Device) : (modLine c f s).kme = s.kme := rfl
@[simp] theorem modLine_ostc (c : Carrier) (f : LineSt → LineSt) (s : Device) : (modLine c f s).ostc = s.ostc := rfl
@[simp] theorem modLine_timing (c : Carrier) (f : LineSt → LineSt) (s : Device) : (modLine c f s).timing = s.timing := rfl
@[simp] theorem modLine_ttx (c : Carrier) (f : LineSt → LineSt) (s : Device) : (modLine c f s).ttx = s.ttx := rfl
@[simp] theorem modLine_sense (c : Carrier) (f : LineSt → LineSt) (s : Device) : (modLine c f s).sense = s.sense := rfl
@[simp] theorem modLine_ramp (c : Carrier) (f : LineSt → LineSt) (s : Device) : (modLine c f s).ramp = s.ramp := rfl
@[simp] theorem modLine_mem (c : Carrier) (f : LineSt → LineSt) (s : Device) : (modLine c f s).mem = s.mem := rfl
@[simp] theorem modLine_lanes (c : Carrier) (f : LineSt → LineSt) (s : Device) : (modLine c f s).lanes = s.lanes := rfl
@[simp] theorem modLine_stack (c : Carrier) (f : LineSt → LineSt) (s : Device) : (modLine c f s).stack = s.stack := rfl
@[simp] theorem modLine_clock (c : Carrier) (f : LineSt → LineSt) (s : Device) : (modLine c f s).clock = s.clock := rfl
@[simp] theorem modLine_fault (c : Carrier) (f : LineSt → LineSt) (s : Device) : (modLine c f s).fault = s.fault := rfl
@[simp] theorem modLine_boot (c : Carrier) (f : LineSt → LineSt) (s : Device) : (modLine c f s).boot = s.boot := rfl
@[simp] theorem modLine_host (c : Carrier) (f : LineSt → LineSt) (s : Device) : (modLine c f s).host = s.host := rfl
@[simp] theorem modLine_elec (c : Carrier) (f : LineSt → LineSt) (s : Device) : (modLine c f s).elec = s.elec := rfl
@[simp] theorem modLine_settings (c : Carrier) (f : LineSt → LineSt) (s : Device) : (modLine c f s).settings = s.settings := rfl
@[simp] theorem modLine_pendSet (c : Carrier) (f : LineSt → LineSt) (s : Device) : (modLine c f s).pendSet = s.pendSet := rfl
@[simp] theorem modLine_evq (c : Carrier) (f : LineSt → LineSt) (s : Device) : (modLine c f s).evq = s.evq := rfl
@[simp] theorem modLine_out (c : Carrier) (f : LineSt → LineSt) (s : Device) : (modLine c f s).out = s.out := rfl
@[simp] theorem modLine_fresh (c : Carrier) (f : LineSt → LineSt) (s : Device) : (modLine c f s).fresh = s.fresh := rfl
@[simp] theorem modConv_accord (c : Carrier) (f : CarrierConv → CarrierConv) (s : Device) : (modConv c f s).accord = s.accord := rfl
@[simp] theorem modConv_engines (c : Carrier) (f : CarrierConv → CarrierConv) (s : Device) : (modConv c f s).engines = s.engines := rfl
@[simp] theorem modConv_conv (c : Carrier) (f : CarrierConv → CarrierConv) (s : Device) : (modConv c f s).conv = s.conv.mod c f := rfl
@[simp] theorem modConv_tx (c : Carrier) (f : CarrierConv → CarrierConv) (s : Device) : (modConv c f s).tx = s.tx := rfl
@[simp] theorem modConv_rx (c : Carrier) (f : CarrierConv → CarrierConv) (s : Device) : (modConv c f s).rx = s.rx := rfl
@[simp] theorem modConv_fec (c : Carrier) (f : CarrierConv → CarrierConv) (s : Device) : (modConv c f s).fec = s.fec := rfl
@[simp] theorem modConv_pool (c : Carrier) (f : CarrierConv → CarrierConv) (s : Device) : (modConv c f s).pool = s.pool := rfl
@[simp] theorem modConv_line (c : Carrier) (f : CarrierConv → CarrierConv) (s : Device) : (modConv c f s).line = s.line := rfl
@[simp] theorem modConv_ohpFs (c : Carrier) (f : CarrierConv → CarrierConv) (s : Device) : (modConv c f s).ohpFs = s.ohpFs := rfl
@[simp] theorem modConv_tribs (c : Carrier) (f : CarrierConv → CarrierConv) (s : Device) : (modConv c f s).tribs = s.tribs := rfl
@[simp] theorem modConv_crypto (c : Carrier) (f : CarrierConv → CarrierConv) (s : Device) : (modConv c f s).crypto = s.crypto := rfl
@[simp] theorem modConv_kme (c : Carrier) (f : CarrierConv → CarrierConv) (s : Device) : (modConv c f s).kme = s.kme := rfl
@[simp] theorem modConv_ostc (c : Carrier) (f : CarrierConv → CarrierConv) (s : Device) : (modConv c f s).ostc = s.ostc := rfl
@[simp] theorem modConv_timing (c : Carrier) (f : CarrierConv → CarrierConv) (s : Device) : (modConv c f s).timing = s.timing := rfl
@[simp] theorem modConv_ttx (c : Carrier) (f : CarrierConv → CarrierConv) (s : Device) : (modConv c f s).ttx = s.ttx := rfl
@[simp] theorem modConv_sense (c : Carrier) (f : CarrierConv → CarrierConv) (s : Device) : (modConv c f s).sense = s.sense := rfl
@[simp] theorem modConv_ramp (c : Carrier) (f : CarrierConv → CarrierConv) (s : Device) : (modConv c f s).ramp = s.ramp := rfl
@[simp] theorem modConv_mem (c : Carrier) (f : CarrierConv → CarrierConv) (s : Device) : (modConv c f s).mem = s.mem := rfl
@[simp] theorem modConv_lanes (c : Carrier) (f : CarrierConv → CarrierConv) (s : Device) : (modConv c f s).lanes = s.lanes := rfl
@[simp] theorem modConv_stack (c : Carrier) (f : CarrierConv → CarrierConv) (s : Device) : (modConv c f s).stack = s.stack := rfl
@[simp] theorem modConv_clock (c : Carrier) (f : CarrierConv → CarrierConv) (s : Device) : (modConv c f s).clock = s.clock := rfl
@[simp] theorem modConv_fault (c : Carrier) (f : CarrierConv → CarrierConv) (s : Device) : (modConv c f s).fault = s.fault := rfl
@[simp] theorem modConv_boot (c : Carrier) (f : CarrierConv → CarrierConv) (s : Device) : (modConv c f s).boot = s.boot := rfl
@[simp] theorem modConv_host (c : Carrier) (f : CarrierConv → CarrierConv) (s : Device) : (modConv c f s).host = s.host := rfl
@[simp] theorem modConv_elec (c : Carrier) (f : CarrierConv → CarrierConv) (s : Device) : (modConv c f s).elec = s.elec := rfl
@[simp] theorem modConv_settings (c : Carrier) (f : CarrierConv → CarrierConv) (s : Device) : (modConv c f s).settings = s.settings := rfl
@[simp] theorem modConv_pendSet (c : Carrier) (f : CarrierConv → CarrierConv) (s : Device) : (modConv c f s).pendSet = s.pendSet := rfl
@[simp] theorem modConv_evq (c : Carrier) (f : CarrierConv → CarrierConv) (s : Device) : (modConv c f s).evq = s.evq := rfl
@[simp] theorem modConv_out (c : Carrier) (f : CarrierConv → CarrierConv) (s : Device) : (modConv c f s).out = s.out := rfl
@[simp] theorem modConv_fresh (c : Carrier) (f : CarrierConv → CarrierConv) (s : Device) : (modConv c f s).fresh = s.fresh := rfl
@[simp] theorem modCrypto_accord (c : Carrier) (f : CryptoSt → CryptoSt) (s : Device) : (modCrypto c f s).accord = s.accord := rfl
@[simp] theorem modCrypto_engines (c : Carrier) (f : CryptoSt → CryptoSt) (s : Device) : (modCrypto c f s).engines = s.engines := rfl
@[simp] theorem modCrypto_conv (c : Carrier) (f : CryptoSt → CryptoSt) (s : Device) : (modCrypto c f s).conv = s.conv := rfl
@[simp] theorem modCrypto_tx (c : Carrier) (f : CryptoSt → CryptoSt) (s : Device) : (modCrypto c f s).tx = s.tx := rfl
@[simp] theorem modCrypto_rx (c : Carrier) (f : CryptoSt → CryptoSt) (s : Device) : (modCrypto c f s).rx = s.rx := rfl
@[simp] theorem modCrypto_fec (c : Carrier) (f : CryptoSt → CryptoSt) (s : Device) : (modCrypto c f s).fec = s.fec := rfl
@[simp] theorem modCrypto_pool (c : Carrier) (f : CryptoSt → CryptoSt) (s : Device) : (modCrypto c f s).pool = s.pool := rfl
@[simp] theorem modCrypto_line (c : Carrier) (f : CryptoSt → CryptoSt) (s : Device) : (modCrypto c f s).line = s.line := rfl
@[simp] theorem modCrypto_ohpFs (c : Carrier) (f : CryptoSt → CryptoSt) (s : Device) : (modCrypto c f s).ohpFs = s.ohpFs := rfl
@[simp] theorem modCrypto_tribs (c : Carrier) (f : CryptoSt → CryptoSt) (s : Device) : (modCrypto c f s).tribs = s.tribs := rfl
@[simp] theorem modCrypto_crypto (c : Carrier) (f : CryptoSt → CryptoSt) (s : Device) : (modCrypto c f s).crypto = s.crypto.mod c f := rfl
@[simp] theorem modCrypto_kme (c : Carrier) (f : CryptoSt → CryptoSt) (s : Device) : (modCrypto c f s).kme = s.kme := rfl
@[simp] theorem modCrypto_ostc (c : Carrier) (f : CryptoSt → CryptoSt) (s : Device) : (modCrypto c f s).ostc = s.ostc := rfl
@[simp] theorem modCrypto_timing (c : Carrier) (f : CryptoSt → CryptoSt) (s : Device) : (modCrypto c f s).timing = s.timing := rfl
@[simp] theorem modCrypto_ttx (c : Carrier) (f : CryptoSt → CryptoSt) (s : Device) : (modCrypto c f s).ttx = s.ttx := rfl
@[simp] theorem modCrypto_sense (c : Carrier) (f : CryptoSt → CryptoSt) (s : Device) : (modCrypto c f s).sense = s.sense := rfl
@[simp] theorem modCrypto_ramp (c : Carrier) (f : CryptoSt → CryptoSt) (s : Device) : (modCrypto c f s).ramp = s.ramp := rfl
@[simp] theorem modCrypto_mem (c : Carrier) (f : CryptoSt → CryptoSt) (s : Device) : (modCrypto c f s).mem = s.mem := rfl
@[simp] theorem modCrypto_lanes (c : Carrier) (f : CryptoSt → CryptoSt) (s : Device) : (modCrypto c f s).lanes = s.lanes := rfl
@[simp] theorem modCrypto_stack (c : Carrier) (f : CryptoSt → CryptoSt) (s : Device) : (modCrypto c f s).stack = s.stack := rfl
@[simp] theorem modCrypto_clock (c : Carrier) (f : CryptoSt → CryptoSt) (s : Device) : (modCrypto c f s).clock = s.clock := rfl
@[simp] theorem modCrypto_fault (c : Carrier) (f : CryptoSt → CryptoSt) (s : Device) : (modCrypto c f s).fault = s.fault := rfl
@[simp] theorem modCrypto_boot (c : Carrier) (f : CryptoSt → CryptoSt) (s : Device) : (modCrypto c f s).boot = s.boot := rfl
@[simp] theorem modCrypto_host (c : Carrier) (f : CryptoSt → CryptoSt) (s : Device) : (modCrypto c f s).host = s.host := rfl
@[simp] theorem modCrypto_elec (c : Carrier) (f : CryptoSt → CryptoSt) (s : Device) : (modCrypto c f s).elec = s.elec := rfl
@[simp] theorem modCrypto_settings (c : Carrier) (f : CryptoSt → CryptoSt) (s : Device) : (modCrypto c f s).settings = s.settings := rfl
@[simp] theorem modCrypto_pendSet (c : Carrier) (f : CryptoSt → CryptoSt) (s : Device) : (modCrypto c f s).pendSet = s.pendSet := rfl
@[simp] theorem modCrypto_evq (c : Carrier) (f : CryptoSt → CryptoSt) (s : Device) : (modCrypto c f s).evq = s.evq := rfl
@[simp] theorem modCrypto_out (c : Carrier) (f : CryptoSt → CryptoSt) (s : Device) : (modCrypto c f s).out = s.out := rfl
@[simp] theorem modCrypto_fresh (c : Carrier) (f : CryptoSt → CryptoSt) (s : Device) : (modCrypto c f s).fresh = s.fresh := rfl
@[simp] theorem modOstc_accord (c : Carrier) (f : OstcSt → OstcSt) (s : Device) : (modOstc c f s).accord = s.accord := rfl
@[simp] theorem modOstc_engines (c : Carrier) (f : OstcSt → OstcSt) (s : Device) : (modOstc c f s).engines = s.engines := rfl
@[simp] theorem modOstc_conv (c : Carrier) (f : OstcSt → OstcSt) (s : Device) : (modOstc c f s).conv = s.conv := rfl
@[simp] theorem modOstc_tx (c : Carrier) (f : OstcSt → OstcSt) (s : Device) : (modOstc c f s).tx = s.tx := rfl
@[simp] theorem modOstc_rx (c : Carrier) (f : OstcSt → OstcSt) (s : Device) : (modOstc c f s).rx = s.rx := rfl
@[simp] theorem modOstc_fec (c : Carrier) (f : OstcSt → OstcSt) (s : Device) : (modOstc c f s).fec = s.fec := rfl
@[simp] theorem modOstc_pool (c : Carrier) (f : OstcSt → OstcSt) (s : Device) : (modOstc c f s).pool = s.pool := rfl
@[simp] theorem modOstc_line (c : Carrier) (f : OstcSt → OstcSt) (s : Device) : (modOstc c f s).line = s.line := rfl
@[simp] theorem modOstc_ohpFs (c : Carrier) (f : OstcSt → OstcSt) (s : Device) : (modOstc c f s).ohpFs = s.ohpFs := rfl
@[simp] theorem modOstc_tribs (c : Carrier) (f : OstcSt → OstcSt) (s : Device) : (modOstc c f s).tribs = s.tribs := rfl
@[simp] theorem modOstc_crypto (c : Carrier) (f : OstcSt → OstcSt) (s : Device) : (modOstc c f s).crypto = s.crypto := rfl
@[simp] theorem modOstc_kme (c : Carrier) (f : OstcSt → OstcSt) (s : Device) : (modOstc c f s).kme = s.kme := rfl
@[simp] theorem modOstc_ostc (c : Carrier) (f : OstcSt → OstcSt) (s : Device) : (modOstc c f s).ostc = s.ostc.mod c f := rfl
@[simp] theorem modOstc_timing (c : Carrier) (f : OstcSt → OstcSt) (s : Device) : (modOstc c f s).timing = s.timing := rfl
@[simp] theorem modOstc_ttx (c : Carrier) (f : OstcSt → OstcSt) (s : Device) : (modOstc c f s).ttx = s.ttx := rfl
@[simp] theorem modOstc_sense (c : Carrier) (f : OstcSt → OstcSt) (s : Device) : (modOstc c f s).sense = s.sense := rfl
@[simp] theorem modOstc_ramp (c : Carrier) (f : OstcSt → OstcSt) (s : Device) : (modOstc c f s).ramp = s.ramp := rfl
@[simp] theorem modOstc_mem (c : Carrier) (f : OstcSt → OstcSt) (s : Device) : (modOstc c f s).mem = s.mem := rfl
@[simp] theorem modOstc_lanes (c : Carrier) (f : OstcSt → OstcSt) (s : Device) : (modOstc c f s).lanes = s.lanes := rfl
@[simp] theorem modOstc_stack (c : Carrier) (f : OstcSt → OstcSt) (s : Device) : (modOstc c f s).stack = s.stack := rfl
@[simp] theorem modOstc_clock (c : Carrier) (f : OstcSt → OstcSt) (s : Device) : (modOstc c f s).clock = s.clock := rfl
@[simp] theorem modOstc_fault (c : Carrier) (f : OstcSt → OstcSt) (s : Device) : (modOstc c f s).fault = s.fault := rfl
@[simp] theorem modOstc_boot (c : Carrier) (f : OstcSt → OstcSt) (s : Device) : (modOstc c f s).boot = s.boot := rfl
@[simp] theorem modOstc_host (c : Carrier) (f : OstcSt → OstcSt) (s : Device) : (modOstc c f s).host = s.host := rfl
@[simp] theorem modOstc_elec (c : Carrier) (f : OstcSt → OstcSt) (s : Device) : (modOstc c f s).elec = s.elec := rfl
@[simp] theorem modOstc_settings (c : Carrier) (f : OstcSt → OstcSt) (s : Device) : (modOstc c f s).settings = s.settings := rfl
@[simp] theorem modOstc_pendSet (c : Carrier) (f : OstcSt → OstcSt) (s : Device) : (modOstc c f s).pendSet = s.pendSet := rfl
@[simp] theorem modOstc_evq (c : Carrier) (f : OstcSt → OstcSt) (s : Device) : (modOstc c f s).evq = s.evq := rfl
@[simp] theorem modOstc_out (c : Carrier) (f : OstcSt → OstcSt) (s : Device) : (modOstc c f s).out = s.out := rfl
@[simp] theorem modOstc_fresh (c : Carrier) (f : OstcSt → OstcSt) (s : Device) : (modOstc c f s).fresh = s.fresh := rfl
@[simp] theorem modTtx_accord (c : Carrier) (f : TtxSt → TtxSt) (s : Device) : (modTtx c f s).accord = s.accord := rfl
@[simp] theorem modTtx_engines (c : Carrier) (f : TtxSt → TtxSt) (s : Device) : (modTtx c f s).engines = s.engines := rfl
@[simp] theorem modTtx_conv (c : Carrier) (f : TtxSt → TtxSt) (s : Device) : (modTtx c f s).conv = s.conv := rfl
@[simp] theorem modTtx_tx (c : Carrier) (f : TtxSt → TtxSt) (s : Device) : (modTtx c f s).tx = s.tx := rfl
@[simp] theorem modTtx_rx (c : Carrier) (f : TtxSt → TtxSt) (s : Device) : (modTtx c f s).rx = s.rx := rfl
@[simp] theorem modTtx_fec (c : Carrier) (f : TtxSt → TtxSt) (s : Device) : (modTtx c f s).fec = s.fec := rfl
@[simp] theorem modTtx_pool (c : Carrier) (f : TtxSt → TtxSt) (s : Device) : (modTtx c f s).pool = s.pool := rfl
@[simp] theorem modTtx_line (c : Carrier) (f : TtxSt → TtxSt) (s : Device) : (modTtx c f s).line = s.line := rfl
@[simp] theorem modTtx_ohpFs (c : Carrier) (f : TtxSt → TtxSt) (s : Device) : (modTtx c f s).ohpFs = s.ohpFs := rfl
@[simp] theorem modTtx_tribs (c : Carrier) (f : TtxSt → TtxSt) (s : Device) : (modTtx c f s).tribs = s.tribs := rfl
@[simp] theorem modTtx_crypto (c : Carrier) (f : TtxSt → TtxSt) (s : Device) : (modTtx c f s).crypto = s.crypto := rfl
@[simp] theorem modTtx_kme (c : Carrier) (f : TtxSt → TtxSt) (s : Device) : (modTtx c f s).kme = s.kme := rfl
@[simp] theorem modTtx_ostc (c : Carrier) (f : TtxSt → TtxSt) (s : Device) : (modTtx c f s).ostc = s.ostc := rfl
@[simp] theorem modTtx_timing (c : Carrier) (f : TtxSt → TtxSt) (s : Device) : (modTtx c f s).timing = s.timing := rfl
@[simp] theorem modTtx_ttx (c : Carrier) (f : TtxSt → TtxSt) (s : Device) : (modTtx c f s).ttx = s.ttx.mod c f := rfl
@[simp] theorem modTtx_sense (c : Carrier) (f : TtxSt → TtxSt) (s : Device) : (modTtx c f s).sense = s.sense := rfl
@[simp] theorem modTtx_ramp (c : Carrier) (f : TtxSt → TtxSt) (s : Device) : (modTtx c f s).ramp = s.ramp := rfl
@[simp] theorem modTtx_mem (c : Carrier) (f : TtxSt → TtxSt) (s : Device) : (modTtx c f s).mem = s.mem := rfl
@[simp] theorem modTtx_lanes (c : Carrier) (f : TtxSt → TtxSt) (s : Device) : (modTtx c f s).lanes = s.lanes := rfl
@[simp] theorem modTtx_stack (c : Carrier) (f : TtxSt → TtxSt) (s : Device) : (modTtx c f s).stack = s.stack := rfl
@[simp] theorem modTtx_clock (c : Carrier) (f : TtxSt → TtxSt) (s : Device) : (modTtx c f s).clock = s.clock := rfl
@[simp] theorem modTtx_fault (c : Carrier) (f : TtxSt → TtxSt) (s : Device) : (modTtx c f s).fault = s.fault := rfl
@[simp] theorem modTtx_boot (c : Carrier) (f : TtxSt → TtxSt) (s : Device) : (modTtx c f s).boot = s.boot := rfl
@[simp] theorem modTtx_host (c : Carrier) (f : TtxSt → TtxSt) (s : Device) : (modTtx c f s).host = s.host := rfl
@[simp] theorem modTtx_elec (c : Carrier) (f : TtxSt → TtxSt) (s : Device) : (modTtx c f s).elec = s.elec := rfl
@[simp] theorem modTtx_settings (c : Carrier) (f : TtxSt → TtxSt) (s : Device) : (modTtx c f s).settings = s.settings := rfl
@[simp] theorem modTtx_pendSet (c : Carrier) (f : TtxSt → TtxSt) (s : Device) : (modTtx c f s).pendSet = s.pendSet := rfl
@[simp] theorem modTtx_evq (c : Carrier) (f : TtxSt → TtxSt) (s : Device) : (modTtx c f s).evq = s.evq := rfl
@[simp] theorem modTtx_out (c : Carrier) (f : TtxSt → TtxSt) (s : Device) : (modTtx c f s).out = s.out := rfl
@[simp] theorem modTtx_fresh (c : Carrier) (f : TtxSt → TtxSt) (s : Device) : (modTtx c f s).fresh = s.fresh := rfl
@[simp] theorem modTiming_accord (f : TimingSt → TimingSt) (s : Device) : (modTiming f s).accord = s.accord := rfl
@[simp] theorem modTiming_engines (f : TimingSt → TimingSt) (s : Device) : (modTiming f s).engines = s.engines := rfl
@[simp] theorem modTiming_conv (f : TimingSt → TimingSt) (s : Device) : (modTiming f s).conv = s.conv := rfl
@[simp] theorem modTiming_tx (f : TimingSt → TimingSt) (s : Device) : (modTiming f s).tx = s.tx := rfl
@[simp] theorem modTiming_rx (f : TimingSt → TimingSt) (s : Device) : (modTiming f s).rx = s.rx := rfl
@[simp] theorem modTiming_fec (f : TimingSt → TimingSt) (s : Device) : (modTiming f s).fec = s.fec := rfl
@[simp] theorem modTiming_pool (f : TimingSt → TimingSt) (s : Device) : (modTiming f s).pool = s.pool := rfl
@[simp] theorem modTiming_line (f : TimingSt → TimingSt) (s : Device) : (modTiming f s).line = s.line := rfl
@[simp] theorem modTiming_ohpFs (f : TimingSt → TimingSt) (s : Device) : (modTiming f s).ohpFs = s.ohpFs := rfl
@[simp] theorem modTiming_tribs (f : TimingSt → TimingSt) (s : Device) : (modTiming f s).tribs = s.tribs := rfl
@[simp] theorem modTiming_crypto (f : TimingSt → TimingSt) (s : Device) : (modTiming f s).crypto = s.crypto := rfl
@[simp] theorem modTiming_kme (f : TimingSt → TimingSt) (s : Device) : (modTiming f s).kme = s.kme := rfl
@[simp] theorem modTiming_ostc (f : TimingSt → TimingSt) (s : Device) : (modTiming f s).ostc = s.ostc := rfl
@[simp] theorem modTiming_timing (f : TimingSt → TimingSt) (s : Device) : (modTiming f s).timing = f s.timing := rfl
@[simp] theorem modTiming_ttx (f : TimingSt → TimingSt) (s : Device) : (modTiming f s).ttx = s.ttx := rfl
@[simp] theorem modTiming_sense (f : TimingSt → TimingSt) (s : Device) : (modTiming f s).sense = s.sense := rfl
@[simp] theorem modTiming_ramp (f : TimingSt → TimingSt) (s : Device) : (modTiming f s).ramp = s.ramp := rfl
@[simp] theorem modTiming_mem (f : TimingSt → TimingSt) (s : Device) : (modTiming f s).mem = s.mem := rfl
@[simp] theorem modTiming_lanes (f : TimingSt → TimingSt) (s : Device) : (modTiming f s).lanes = s.lanes := rfl
@[simp] theorem modTiming_stack (f : TimingSt → TimingSt) (s : Device) : (modTiming f s).stack = s.stack := rfl
@[simp] theorem modTiming_clock (f : TimingSt → TimingSt) (s : Device) : (modTiming f s).clock = s.clock := rfl
@[simp] theorem modTiming_fault (f : TimingSt → TimingSt) (s : Device) : (modTiming f s).fault = s.fault := rfl
@[simp] theorem modTiming_boot (f : TimingSt → TimingSt) (s : Device) : (modTiming f s).boot = s.boot := rfl
@[simp] theorem modTiming_host (f : TimingSt → TimingSt) (s : Device) : (modTiming f s).host = s.host := rfl
@[simp] theorem modTiming_elec (f : TimingSt → TimingSt) (s : Device) : (modTiming f s).elec = s.elec := rfl
@[simp] theorem modTiming_settings (f : TimingSt → TimingSt) (s : Device) : (modTiming f s).settings = s.settings := rfl
@[simp] theorem modTiming_pendSet (f : TimingSt → TimingSt) (s : Device) : (modTiming f s).pendSet = s.pendSet := rfl
@[simp] theorem modTiming_evq (f : TimingSt → TimingSt) (s : Device) : (modTiming f s).evq = s.evq := rfl
@[simp] theorem modTiming_out (f : TimingSt → TimingSt) (s : Device) : (modTiming f s).out = s.out := rfl
@[simp] theorem modTiming_fresh (f : TimingSt → TimingSt) (s : Device) : (modTiming f s).fresh = s.fresh := rfl
@[simp] theorem modMem_accord (f : MemSt → MemSt) (s : Device) : (modMem f s).accord = s.accord := rfl
@[simp] theorem modMem_engines (f : MemSt → MemSt) (s : Device) : (modMem f s).engines = s.engines := rfl
@[simp] theorem modMem_conv (f : MemSt → MemSt) (s : Device) : (modMem f s).conv = s.conv := rfl
@[simp] theorem modMem_tx (f : MemSt → MemSt) (s : Device) : (modMem f s).tx = s.tx := rfl
@[simp] theorem modMem_rx (f : MemSt → MemSt) (s : Device) : (modMem f s).rx = s.rx := rfl
@[simp] theorem modMem_fec (f : MemSt → MemSt) (s : Device) : (modMem f s).fec = s.fec := rfl
@[simp] theorem modMem_pool (f : MemSt → MemSt) (s : Device) : (modMem f s).pool = s.pool := rfl
@[simp] theorem modMem_line (f : MemSt → MemSt) (s : Device) : (modMem f s).line = s.line := rfl
@[simp] theorem modMem_ohpFs (f : MemSt → MemSt) (s : Device) : (modMem f s).ohpFs = s.ohpFs := rfl
@[simp] theorem modMem_tribs (f : MemSt → MemSt) (s : Device) : (modMem f s).tribs = s.tribs := rfl
@[simp] theorem modMem_crypto (f : MemSt → MemSt) (s : Device) : (modMem f s).crypto = s.crypto := rfl
@[simp] theorem modMem_kme (f : MemSt → MemSt) (s : Device) : (modMem f s).kme = s.kme := rfl
@[simp] theorem modMem_ostc (f : MemSt → MemSt) (s : Device) : (modMem f s).ostc = s.ostc := rfl
@[simp] theorem modMem_timing (f : MemSt → MemSt) (s : Device) : (modMem f s).timing = s.timing := rfl
@[simp] theorem modMem_ttx (f : MemSt → MemSt) (s : Device) : (modMem f s).ttx = s.ttx := rfl
@[simp] theorem modMem_sense (f : MemSt → MemSt) (s : Device) : (modMem f s).sense = s.sense := rfl
@[simp] theorem modMem_ramp (f : MemSt → MemSt) (s : Device) : (modMem f s).ramp = s.ramp := rfl
@[simp] theorem modMem_mem (f : MemSt → MemSt) (s : Device) : (modMem f s).mem = f s.mem := rfl
@[simp] theorem modMem_lanes (f : MemSt → MemSt) (s : Device) : (modMem f s).lanes = s.lanes := rfl
@[simp] theorem modMem_stack (f : MemSt → MemSt) (s : Device) : (modMem f s).stack = s.stack := rfl
@[simp] theorem modMem_clock (f : MemSt → MemSt) (s : Device) : (modMem f s).clock = s.clock := rfl
@[simp] theorem modMem_fault (f : MemSt → MemSt) (s : Device) : (modMem f s).fault = s.fault := rfl
@[simp] theorem modMem_boot (f : MemSt → MemSt) (s : Device) : (modMem f s).boot = s.boot := rfl
@[simp] theorem modMem_host (f : MemSt → MemSt) (s : Device) : (modMem f s).host = s.host := rfl
@[simp] theorem modMem_elec (f : MemSt → MemSt) (s : Device) : (modMem f s).elec = s.elec := rfl
@[simp] theorem modMem_settings (f : MemSt → MemSt) (s : Device) : (modMem f s).settings = s.settings := rfl
@[simp] theorem modMem_pendSet (f : MemSt → MemSt) (s : Device) : (modMem f s).pendSet = s.pendSet := rfl
@[simp] theorem modMem_evq (f : MemSt → MemSt) (s : Device) : (modMem f s).evq = s.evq := rfl
@[simp] theorem modMem_out (f : MemSt → MemSt) (s : Device) : (modMem f s).out = s.out := rfl
@[simp] theorem modMem_fresh (f : MemSt → MemSt) (s : Device) : (modMem f s).fresh = s.fresh := rfl
@[simp] theorem modStack_accord (f : StackSt → StackSt) (s : Device) : (modStack f s).accord = s.accord := rfl
@[simp] theorem modStack_engines (f : StackSt → StackSt) (s : Device) : (modStack f s).engines = s.engines := rfl
@[simp] theorem modStack_conv (f : StackSt → StackSt) (s : Device) : (modStack f s).conv = s.conv := rfl
@[simp] theorem modStack_tx (f : StackSt → StackSt) (s : Device) : (modStack f s).tx = s.tx := rfl
@[simp] theorem modStack_rx (f : StackSt → StackSt) (s : Device) : (modStack f s).rx = s.rx := rfl
@[simp] theorem modStack_fec (f : StackSt → StackSt) (s : Device) : (modStack f s).fec = s.fec := rfl
@[simp] theorem modStack_pool (f : StackSt → StackSt) (s : Device) : (modStack f s).pool = s.pool := rfl
@[simp] theorem modStack_line (f : StackSt → StackSt) (s : Device) : (modStack f s).line = s.line := rfl
@[simp] theorem modStack_ohpFs (f : StackSt → StackSt) (s : Device) : (modStack f s).ohpFs = s.ohpFs := rfl
@[simp] theorem modStack_tribs (f : StackSt → StackSt) (s : Device) : (modStack f s).tribs = s.tribs := rfl
@[simp] theorem modStack_crypto (f : StackSt → StackSt) (s : Device) : (modStack f s).crypto = s.crypto := rfl
@[simp] theorem modStack_kme (f : StackSt → StackSt) (s : Device) : (modStack f s).kme = s.kme := rfl
@[simp] theorem modStack_ostc (f : StackSt → StackSt) (s : Device) : (modStack f s).ostc = s.ostc := rfl
@[simp] theorem modStack_timing (f : StackSt → StackSt) (s : Device) : (modStack f s).timing = s.timing := rfl
@[simp] theorem modStack_ttx (f : StackSt → StackSt) (s : Device) : (modStack f s).ttx = s.ttx := rfl
@[simp] theorem modStack_sense (f : StackSt → StackSt) (s : Device) : (modStack f s).sense = s.sense := rfl
@[simp] theorem modStack_ramp (f : StackSt → StackSt) (s : Device) : (modStack f s).ramp = s.ramp := rfl
@[simp] theorem modStack_mem (f : StackSt → StackSt) (s : Device) : (modStack f s).mem = s.mem := rfl
@[simp] theorem modStack_lanes (f : StackSt → StackSt) (s : Device) : (modStack f s).lanes = s.lanes := rfl
@[simp] theorem modStack_stack (f : StackSt → StackSt) (s : Device) : (modStack f s).stack = f s.stack := rfl
@[simp] theorem modStack_clock (f : StackSt → StackSt) (s : Device) : (modStack f s).clock = s.clock := rfl
@[simp] theorem modStack_fault (f : StackSt → StackSt) (s : Device) : (modStack f s).fault = s.fault := rfl
@[simp] theorem modStack_boot (f : StackSt → StackSt) (s : Device) : (modStack f s).boot = s.boot := rfl
@[simp] theorem modStack_host (f : StackSt → StackSt) (s : Device) : (modStack f s).host = s.host := rfl
@[simp] theorem modStack_elec (f : StackSt → StackSt) (s : Device) : (modStack f s).elec = s.elec := rfl
@[simp] theorem modStack_settings (f : StackSt → StackSt) (s : Device) : (modStack f s).settings = s.settings := rfl
@[simp] theorem modStack_pendSet (f : StackSt → StackSt) (s : Device) : (modStack f s).pendSet = s.pendSet := rfl
@[simp] theorem modStack_evq (f : StackSt → StackSt) (s : Device) : (modStack f s).evq = s.evq := rfl
@[simp] theorem modStack_out (f : StackSt → StackSt) (s : Device) : (modStack f s).out = s.out := rfl
@[simp] theorem modStack_fresh (f : StackSt → StackSt) (s : Device) : (modStack f s).fresh = s.fresh := rfl
@[simp] theorem modClock_accord (f : ClockSt → ClockSt) (s : Device) : (modClock f s).accord = s.accord := rfl
@[simp] theorem modClock_engines (f : ClockSt → ClockSt) (s : Device) : (modClock f s).engines = s.engines := rfl
@[simp] theorem modClock_conv (f : ClockSt → ClockSt) (s : Device) : (modClock f s).conv = s.conv := rfl
@[simp] theorem modClock_tx (f : ClockSt → ClockSt) (s : Device) : (modClock f s).tx = s.tx := rfl
@[simp] theorem modClock_rx (f : ClockSt → ClockSt) (s : Device) : (modClock f s).rx = s.rx := rfl
@[simp] theorem modClock_fec (f : ClockSt → ClockSt) (s : Device) : (modClock f s).fec = s.fec := rfl
@[simp] theorem modClock_pool (f : ClockSt → ClockSt) (s : Device) : (modClock f s).pool = s.pool := rfl
@[simp] theorem modClock_line (f : ClockSt → ClockSt) (s : Device) : (modClock f s).line = s.line := rfl
@[simp] theorem modClock_ohpFs (f : ClockSt → ClockSt) (s : Device) : (modClock f s).ohpFs = s.ohpFs := rfl
@[simp] theorem modClock_tribs (f : ClockSt → ClockSt) (s : Device) : (modClock f s).tribs = s.tribs := rfl
@[simp] theorem modClock_crypto (f : ClockSt → ClockSt) (s : Device) : (modClock f s).crypto = s.crypto := rfl
@[simp] theorem modClock_kme (f : ClockSt → ClockSt) (s : Device) : (modClock f s).kme = s.kme := rfl
@[simp] theorem modClock_ostc (f : ClockSt → ClockSt) (s : Device) : (modClock f s).ostc = s.ostc := rfl
@[simp] theorem modClock_timing (f : ClockSt → ClockSt) (s : Device) : (modClock f s).timing = s.timing := rfl
@[simp] theorem modClock_ttx (f : ClockSt → ClockSt) (s : Device) : (modClock f s).ttx = s.ttx := rfl
@[simp] theorem modClock_sense (f : ClockSt → ClockSt) (s : Device) : (modClock f s).sense = s.sense := rfl
@[simp] theorem modClock_ramp (f : ClockSt → ClockSt) (s : Device) : (modClock f s).ramp = s.ramp := rfl
@[simp] theorem modClock_mem (f : ClockSt → ClockSt) (s : Device) : (modClock f s).mem = s.mem := rfl
@[simp] theorem modClock_lanes (f : ClockSt → ClockSt) (s : Device) : (modClock f s).lanes = s.lanes := rfl
@[simp] theorem modClock_stack (f : ClockSt → ClockSt) (s : Device) : (modClock f s).stack = s.stack := rfl
@[simp] theorem modClock_clock (f : ClockSt → ClockSt) (s : Device) : (modClock f s).clock = f s.clock := rfl
@[simp] theorem modClock_fault (f : ClockSt → ClockSt) (s : Device) : (modClock f s).fault = s.fault := rfl
@[simp] theorem modClock_boot (f : ClockSt → ClockSt) (s : Device) : (modClock f s).boot = s.boot := rfl
@[simp] theorem modClock_host (f : ClockSt → ClockSt) (s : Device) : (modClock f s).host = s.host := rfl
@[simp] theorem modClock_elec (f : ClockSt → ClockSt) (s : Device) : (modClock f s).elec = s.elec := rfl
@[simp] theorem modClock_settings (f : ClockSt → ClockSt) (s : Device) : (modClock f s).settings = s.settings := rfl
@[simp] theorem modClock_pendSet (f : ClockSt → ClockSt) (s : Device) : (modClock f s).pendSet = s.pendSet := rfl
@[simp] theorem modClock_evq (f : ClockSt → ClockSt) (s : Device) : (modClock f s).evq = s.evq := rfl
@[simp] theorem modClock_out (f : ClockSt → ClockSt) (s : Device) : (modClock f s).out = s.out := rfl
@[simp] theorem modClock_fresh (f : ClockSt → ClockSt) (s : Device) : (modClock f s).fresh = s.fresh := rfl
@[simp] theorem modFault_accord (f : FaultSt → FaultSt) (s : Device) : (modFault f s).accord = s.accord := rfl
@[simp] theorem modFault_engines (f : FaultSt → FaultSt) (s : Device) : (modFault f s).engines = s.engines := rfl
@[simp] theorem modFault_conv (f : FaultSt → FaultSt) (s : Device) : (modFault f s).conv = s.conv := rfl
@[simp] theorem modFault_tx (f : FaultSt → FaultSt) (s : Device) : (modFault f s).tx = s.tx := rfl
@[simp] theorem modFault_rx (f : FaultSt → FaultSt) (s : Device) : (modFault f s).rx = s.rx := rfl
@[simp] theorem modFault_fec (f : FaultSt → FaultSt) (s : Device) : (modFault f s).fec = s.fec := rfl
@[simp] theorem modFault_pool (f : FaultSt → FaultSt) (s : Device) : (modFault f s).pool = s.pool := rfl
@[simp] theorem modFault_line (f : FaultSt → FaultSt) (s : Device) : (modFault f s).line = s.line := rfl
@[simp] theorem modFault_ohpFs (f : FaultSt → FaultSt) (s : Device) : (modFault f s).ohpFs = s.ohpFs := rfl
@[simp] theorem modFault_tribs (f : FaultSt → FaultSt) (s : Device) : (modFault f s).tribs = s.tribs := rfl
@[simp] theorem modFault_crypto (f : FaultSt → FaultSt) (s : Device) : (modFault f s).crypto = s.crypto := rfl
@[simp] theorem modFault_kme (f : FaultSt → FaultSt) (s : Device) : (modFault f s).kme = s.kme := rfl
@[simp] theorem modFault_ostc (f : FaultSt → FaultSt) (s : Device) : (modFault f s).ostc = s.ostc := rfl
@[simp] theorem modFault_timing (f : FaultSt → FaultSt) (s : Device) : (modFault f s).timing = s.timing := rfl
@[simp] theorem modFault_ttx (f : FaultSt → FaultSt) (s : Device) : (modFault f s).ttx = s.ttx := rfl
@[simp] theorem modFault_sense (f : FaultSt → FaultSt) (s : Device) : (modFault f s).sense = s.sense := rfl
@[simp] theorem modFault_ramp (f : FaultSt → FaultSt) (s : Device) : (modFault f s).ramp = s.ramp := rfl
@[simp] theorem modFault_mem (f : FaultSt → FaultSt) (s : Device) : (modFault f s).mem = s.mem := rfl
@[simp] theorem modFault_lanes (f : FaultSt → FaultSt) (s : Device) : (modFault f s).lanes = s.lanes := rfl
@[simp] theorem modFault_stack (f : FaultSt → FaultSt) (s : Device) : (modFault f s).stack = s.stack := rfl
@[simp] theorem modFault_clock (f : FaultSt → FaultSt) (s : Device) : (modFault f s).clock = s.clock := rfl
@[simp] theorem modFault_fault (f : FaultSt → FaultSt) (s : Device) : (modFault f s).fault = f s.fault := rfl
@[simp] theorem modFault_boot (f : FaultSt → FaultSt) (s : Device) : (modFault f s).boot = s.boot := rfl
@[simp] theorem modFault_host (f : FaultSt → FaultSt) (s : Device) : (modFault f s).host = s.host := rfl
@[simp] theorem modFault_elec (f : FaultSt → FaultSt) (s : Device) : (modFault f s).elec = s.elec := rfl
@[simp] theorem modFault_settings (f : FaultSt → FaultSt) (s : Device) : (modFault f s).settings = s.settings := rfl
@[simp] theorem modFault_pendSet (f : FaultSt → FaultSt) (s : Device) : (modFault f s).pendSet = s.pendSet := rfl
@[simp] theorem modFault_evq (f : FaultSt → FaultSt) (s : Device) : (modFault f s).evq = s.evq := rfl
@[simp] theorem modFault_out (f : FaultSt → FaultSt) (s : Device) : (modFault f s).out = s.out := rfl
@[simp] theorem modFault_fresh (f : FaultSt → FaultSt) (s : Device) : (modFault f s).fresh = s.fresh := rfl
@[simp] theorem modBoot_accord (f : BootSt → BootSt) (s : Device) : (modBoot f s).accord = s.accord := rfl
@[simp] theorem modBoot_engines (f : BootSt → BootSt) (s : Device) : (modBoot f s).engines = s.engines := rfl
@[simp] theorem modBoot_conv (f : BootSt → BootSt) (s : Device) : (modBoot f s).conv = s.conv := rfl
@[simp] theorem modBoot_tx (f : BootSt → BootSt) (s : Device) : (modBoot f s).tx = s.tx := rfl
@[simp] theorem modBoot_rx (f : BootSt → BootSt) (s : Device) : (modBoot f s).rx = s.rx := rfl
@[simp] theorem modBoot_fec (f : BootSt → BootSt) (s : Device) : (modBoot f s).fec = s.fec := rfl
@[simp] theorem modBoot_pool (f : BootSt → BootSt) (s : Device) : (modBoot f s).pool = s.pool := rfl
@[simp] theorem modBoot_line (f : BootSt → BootSt) (s : Device) : (modBoot f s).line = s.line := rfl
@[simp] theorem modBoot_ohpFs (f : BootSt → BootSt) (s : Device) : (modBoot f s).ohpFs = s.ohpFs := rfl
@[simp] theorem modBoot_tribs (f : BootSt → BootSt) (s : Device) : (modBoot f s).tribs = s.tribs := rfl
@[simp] theorem modBoot_crypto (f : BootSt → BootSt) (s : Device) : (modBoot f s).crypto = s.crypto := rfl
@[simp] theorem modBoot_kme (f : BootSt → BootSt) (s : Device) : (modBoot f s).kme = s.kme := rfl
@[simp] theorem modBoot_ostc (f : BootSt → BootSt) (s : Device) : (modBoot f s).ostc = s.ostc := rfl
@[simp] theorem modBoot_timing (f : BootSt → BootSt) (s : Device) : (modBoot f s).timing = s.timing := rfl
@[simp] theorem modBoot_ttx (f : BootSt → BootSt) (s : Device) : (modBoot f s).ttx = s.ttx := rfl
@[simp] theorem modBoot_sense (f : BootSt → BootSt) (s : Device) : (modBoot f s).sense = s.sense := rfl
@[simp] theorem modBoot_ramp (f : BootSt → BootSt) (s : Device) : (modBoot f s).ramp = s.ramp := rfl
@[simp] theorem modBoot_mem (f : BootSt → BootSt) (s : Device) : (modBoot f s).mem = s.mem := rfl
@[simp] theorem modBoot_lanes (f : BootSt → BootSt) (s : Device) : (modBoot f s).lanes = s.lanes := rfl
@[simp] theorem modBoot_stack (f : BootSt → BootSt) (s : Device) : (modBoot f s).stack = s.stack := rfl
@[simp] theorem modBoot_clock (f : BootSt → BootSt) (s : Device) : (modBoot f s).clock = s.clock := rfl
@[simp] theorem modBoot_fault (f : BootSt → BootSt) (s : Device) : (modBoot f s).fault = s.fault := rfl
@[simp] theorem modBoot_boot (f : BootSt → BootSt) (s : Device) : (modBoot f s).boot = f s.boot := rfl
@[simp] theorem modBoot_host (f : BootSt → BootSt) (s : Device) : (modBoot f s).host = s.host := rfl
@[simp] theorem modBoot_elec (f : BootSt → BootSt) (s : Device) : (modBoot f s).elec = s.elec := rfl
@[simp] theorem modBoot_settings (f : BootSt → BootSt) (s : Device) : (modBoot f s).settings = s.settings := rfl
@[simp] theorem modBoot_pendSet (f : BootSt → BootSt) (s : Device) : (modBoot f s).pendSet = s.pendSet := rfl
@[simp] theorem modBoot_evq (f : BootSt → BootSt) (s : Device) : (modBoot f s).evq = s.evq := rfl
@[simp] theorem modBoot_out (f : BootSt → BootSt) (s : Device) : (modBoot f s).out = s.out := rfl
@[simp] theorem modBoot_fresh (f : BootSt → BootSt) (s : Device) : (modBoot f s).fresh = s.fresh := rfl
@[simp] theorem modHost_accord (f : HostSt → HostSt) (s : Device) : (modHost f s).accord = s.accord := rfl
@[simp] theorem modHost_engines (f : HostSt → HostSt) (s : Device) : (modHost f s).engines = s.engines := rfl
@[simp] theorem modHost_conv (f : HostSt → HostSt) (s : Device) : (modHost f s).conv = s.conv := rfl
@[simp] theorem modHost_tx (f : HostSt → HostSt) (s : Device) : (modHost f s).tx = s.tx := rfl
@[simp] theorem modHost_rx (f : HostSt → HostSt) (s : Device) : (modHost f s).rx = s.rx := rfl
@[simp] theorem modHost_fec (f : HostSt → HostSt) (s : Device) : (modHost f s).fec = s.fec := rfl
@[simp] theorem modHost_pool (f : HostSt → HostSt) (s : Device) : (modHost f s).pool = s.pool := rfl
@[simp] theorem modHost_line (f : HostSt → HostSt) (s : Device) : (modHost f s).line = s.line := rfl
@[simp] theorem modHost_ohpFs (f : HostSt → HostSt) (s : Device) : (modHost f s).ohpFs = s.ohpFs := rfl
@[simp] theorem modHost_tribs (f : HostSt → HostSt) (s : Device) : (modHost f s).tribs = s.tribs := rfl
@[simp] theorem modHost_crypto (f : HostSt → HostSt) (s : Device) : (modHost f s).crypto = s.crypto := rfl
@[simp] theorem modHost_kme (f : HostSt → HostSt) (s : Device) : (modHost f s).kme = s.kme := rfl
@[simp] theorem modHost_ostc (f : HostSt → HostSt) (s : Device) : (modHost f s).ostc = s.ostc := rfl
@[simp] theorem modHost_timing (f : HostSt → HostSt) (s : Device) : (modHost f s).timing = s.timing := rfl
@[simp] theorem modHost_ttx (f : HostSt → HostSt) (s : Device) : (modHost f s).ttx = s.ttx := rfl
@[simp] theorem modHost_sense (f : HostSt → HostSt) (s : Device) : (modHost f s).sense = s.sense := rfl
@[simp] theorem modHost_ramp (f : HostSt → HostSt) (s : Device) : (modHost f s).ramp = s.ramp := rfl
@[simp] theorem modHost_mem (f : HostSt → HostSt) (s : Device) : (modHost f s).mem = s.mem := rfl
@[simp] theorem modHost_lanes (f : HostSt → HostSt) (s : Device) : (modHost f s).lanes = s.lanes := rfl
@[simp] theorem modHost_stack (f : HostSt → HostSt) (s : Device) : (modHost f s).stack = s.stack := rfl
@[simp] theorem modHost_clock (f : HostSt → HostSt) (s : Device) : (modHost f s).clock = s.clock := rfl
@[simp] theorem modHost_fault (f : HostSt → HostSt) (s : Device) : (modHost f s).fault = s.fault := rfl
@[simp] theorem modHost_boot (f : HostSt → HostSt) (s : Device) : (modHost f s).boot = s.boot := rfl
@[simp] theorem modHost_host (f : HostSt → HostSt) (s : Device) : (modHost f s).host = f s.host := rfl
@[simp] theorem modHost_elec (f : HostSt → HostSt) (s : Device) : (modHost f s).elec = s.elec := rfl
@[simp] theorem modHost_settings (f : HostSt → HostSt) (s : Device) : (modHost f s).settings = s.settings := rfl
@[simp] theorem modHost_pendSet (f : HostSt → HostSt) (s : Device) : (modHost f s).pendSet = s.pendSet := rfl
@[simp] theorem modHost_evq (f : HostSt → HostSt) (s : Device) : (modHost f s).evq = s.evq := rfl
@[simp] theorem modHost_out (f : HostSt → HostSt) (s : Device) : (modHost f s).out = s.out := rfl
@[simp] theorem modHost_fresh (f : HostSt → HostSt) (s : Device) : (modHost f s).fresh = s.fresh := rfl
@[simp] theorem modAccord_accord (f : AccordSt → AccordSt) (s : Device) : (modAccord f s).accord = f s.accord := rfl
@[simp] theorem modAccord_engines (f : AccordSt → AccordSt) (s : Device) : (modAccord f s).engines = s.engines := rfl
@[simp] theorem modAccord_conv (f : AccordSt → AccordSt) (s : Device) : (modAccord f s).conv = s.conv := rfl
@[simp] theorem modAccord_tx (f : AccordSt → AccordSt) (s : Device) : (modAccord f s).tx = s.tx := rfl
@[simp] theorem modAccord_rx (f : AccordSt → AccordSt) (s : Device) : (modAccord f s).rx = s.rx := rfl
@[simp] theorem modAccord_fec (f : AccordSt → AccordSt) (s : Device) : (modAccord f s).fec = s.fec := rfl
@[simp] theorem modAccord_pool (f : AccordSt → AccordSt) (s : Device) : (modAccord f s).pool = s.pool := rfl
@[simp] theorem modAccord_line (f : AccordSt → AccordSt) (s : Device) : (modAccord f s).line = s.line := rfl
@[simp] theorem modAccord_ohpFs (f : AccordSt → AccordSt) (s : Device) : (modAccord f s).ohpFs = s.ohpFs := rfl
@[simp] theorem modAccord_tribs (f : AccordSt → AccordSt) (s : Device) : (modAccord f s).tribs = s.tribs := rfl
@[simp] theorem modAccord_crypto (f : AccordSt → AccordSt) (s : Device) : (modAccord f s).crypto = s.crypto := rfl
@[simp] theorem modAccord_kme (f : AccordSt → AccordSt) (s : Device) : (modAccord f s).kme = s.kme := rfl
@[simp] theorem modAccord_ostc (f : AccordSt → AccordSt) (s : Device) : (modAccord f s).ostc = s.ostc := rfl
@[simp] theorem modAccord_timing (f : AccordSt → AccordSt) (s : Device) : (modAccord f s).timing = s.timing := rfl
@[simp] theorem modAccord_ttx (f : AccordSt → AccordSt) (s : Device) : (modAccord f s).ttx = s.ttx := rfl
@[simp] theorem modAccord_sense (f : AccordSt → AccordSt) (s : Device) : (modAccord f s).sense = s.sense := rfl
@[simp] theorem modAccord_ramp (f : AccordSt → AccordSt) (s : Device) : (modAccord f s).ramp = s.ramp := rfl
@[simp] theorem modAccord_mem (f : AccordSt → AccordSt) (s : Device) : (modAccord f s).mem = s.mem := rfl
@[simp] theorem modAccord_lanes (f : AccordSt → AccordSt) (s : Device) : (modAccord f s).lanes = s.lanes := rfl
@[simp] theorem modAccord_stack (f : AccordSt → AccordSt) (s : Device) : (modAccord f s).stack = s.stack := rfl
@[simp] theorem modAccord_clock (f : AccordSt → AccordSt) (s : Device) : (modAccord f s).clock = s.clock := rfl
@[simp] theorem modAccord_fault (f : AccordSt → AccordSt) (s : Device) : (modAccord f s).fault = s.fault := rfl
@[simp] theorem modAccord_boot (f : AccordSt → AccordSt) (s : Device) : (modAccord f s).boot = s.boot := rfl
@[simp] theorem modAccord_host (f : AccordSt → AccordSt) (s : Device) : (modAccord f s).host = s.host := rfl
@[simp] theorem modAccord_elec (f : AccordSt → AccordSt) (s : Device) : (modAccord f s).elec = s.elec := rfl
@[simp] theorem modAccord_settings (f : AccordSt → AccordSt) (s : Device) : (modAccord f s).settings = s.settings := rfl
@[simp] theorem modAccord_pendSet (f : AccordSt → AccordSt) (s : Device) : (modAccord f s).pendSet = s.pendSet := rfl
@[simp] theorem modAccord_evq (f : AccordSt → AccordSt) (s : Device) : (modAccord f s).evq = s.evq := rfl
@[simp] theorem modAccord_out (f : AccordSt → AccordSt) (s : Device) : (modAccord f s).out = s.out := rfl
@[simp] theorem modAccord_fresh (f : AccordSt → AccordSt) (s : Device) : (modAccord f s).fresh = s.fresh := rfl
@[simp] theorem putKme_accord (v : KmeSt) (s : Device) : (putKme v s).accord = s.accord := rfl
@[simp] theorem putKme_engines (v : KmeSt) (s : Device) : (putKme v s).engines = s.engines := rfl
@[simp] theorem putKme_conv (v : KmeSt) (s : Device) : (putKme v s).conv = s.conv := rfl
@[simp] theorem putKme_tx (v : KmeSt) (s : Device) : (putKme v s).tx = s.tx := rfl
@[simp] theorem putKme_rx (v : KmeSt) (s : Device) : (putKme v s).rx = s.rx := rfl
@[simp] theorem putKme_fec (v : KmeSt) (s : Device) : (putKme v s).fec = s.fec := rfl
@[simp] theorem putKme_pool (v : KmeSt) (s : Device) : (putKme v s).pool = s.pool := rfl
@[simp] theorem putKme_line (v : KmeSt) (s : Device) : (putKme v s).line = s.line := rfl
@[simp] theorem putKme_ohpFs (v : KmeSt) (s : Device) : (putKme v s).ohpFs = s.ohpFs := rfl
@[simp] theorem putKme_tribs (v : KmeSt) (s : Device) : (putKme v s).tribs = s.tribs := rfl
@[simp] theorem putKme_crypto (v : KmeSt) (s : Device) : (putKme v s).crypto = s.crypto := rfl
@[simp] theorem putKme_kme (v : KmeSt) (s : Device) : (putKme v s).kme = v := rfl
@[simp] theorem putKme_ostc (v : KmeSt) (s : Device) : (putKme v s).ostc = s.ostc := rfl
@[simp] theorem putKme_timing (v : KmeSt) (s : Device) : (putKme v s).timing = s.timing := rfl
@[simp] theorem putKme_ttx (v : KmeSt) (s : Device) : (putKme v s).ttx = s.ttx := rfl
@[simp] theorem putKme_sense (v : KmeSt) (s : Device) : (putKme v s).sense = s.sense := rfl
@[simp] theorem putKme_ramp (v : KmeSt) (s : Device) : (putKme v s).ramp = s.ramp := rfl
@[simp] theorem putKme_mem (v : KmeSt) (s : Device) : (putKme v s).mem = s.mem := rfl
@[simp] theorem putKme_lanes (v : KmeSt) (s : Device) : (putKme v s).lanes = s.lanes := rfl
@[simp] theorem putKme_stack (v : KmeSt) (s : Device) : (putKme v s).stack = s.stack := rfl
@[simp] theorem putKme_clock (v : KmeSt) (s : Device) : (putKme v s).clock = s.clock := rfl
@[simp] theorem putKme_fault (v : KmeSt) (s : Device) : (putKme v s).fault = s.fault := rfl
@[simp] theorem putKme_boot (v : KmeSt) (s : Device) : (putKme v s).boot = s.boot := rfl
@[simp] theorem putKme_host (v : KmeSt) (s : Device) : (putKme v s).host = s.host := rfl
@[simp] theorem putKme_elec (v : KmeSt) (s : Device) : (putKme v s).elec = s.elec := rfl
@[simp] theorem putKme_settings (v : KmeSt) (s : Device) : (putKme v s).settings = s.settings := rfl
@[simp] theorem putKme_pendSet (v : KmeSt) (s : Device) : (putKme v s).pendSet = s.pendSet := rfl
@[simp] theorem putKme_evq (v : KmeSt) (s : Device) : (putKme v s).evq = s.evq := rfl
@[simp] theorem putKme_out (v : KmeSt) (s : Device) : (putKme v s).out = s.out := rfl
@[simp] theorem putKme_fresh (v : KmeSt) (s : Device) : (putKme v s).fresh = s.fresh := rfl
@[simp] theorem putPendSet_accord (v : List PendSet) (s : Device) : (putPendSet v s).accord = s.accord := rfl
@[simp] theorem putPendSet_engines (v : List PendSet) (s : Device) : (putPendSet v s).engines = s.engines := rfl
@[simp] theorem putPendSet_conv (v : List PendSet) (s : Device) : (putPendSet v s).conv = s.conv := rfl
@[simp] theorem putPendSet_tx (v : List PendSet) (s : Device) : (putPendSet v s).tx = s.tx := rfl
@[simp] theorem putPendSet_rx (v : List PendSet) (s : Device) : (putPendSet v s).rx = s.rx := rfl
@[simp] theorem putPendSet_fec (v : List PendSet) (s : Device) : (putPendSet v s).fec = s.fec := rfl
@[simp] theorem putPendSet_pool (v : List PendSet) (s : Device) : (putPendSet v s).pool = s.pool := rfl
@[simp] theorem putPendSet_line (v : List PendSet) (s : Device) : (putPendSet v s).line = s.line := rfl
@[simp] theorem putPendSet_ohpFs (v : List PendSet) (s : Device) : (putPendSet v s).ohpFs = s.ohpFs := rfl
@[simp] theorem putPendSet_tribs (v : List PendSet) (s : Device) : (putPendSet v s).tribs = s.tribs := rfl
@[simp] theorem putPendSet_crypto (v : List PendSet) (s : Device) : (putPendSet v s).crypto = s.crypto := rfl
@[simp] theorem putPendSet_kme (v : List PendSet) (s : Device) : (putPendSet v s).kme = s.kme := rfl
@[simp] theorem putPendSet_ostc (v : List PendSet) (s : Device) : (putPendSet v s).ostc = s.ostc := rfl
@[simp] theorem putPendSet_timing (v : List PendSet) (s : Device) : (putPendSet v s).timing = s.timing := rfl
@[simp] theorem putPendSet_ttx (v : List PendSet) (s : Device) : (putPendSet v s).ttx = s.ttx := rfl
@[simp] theorem putPendSet_sense (v : List PendSet) (s : Device) : (putPendSet v s).sense = s.sense := rfl
@[simp] theorem putPendSet_ramp (v : List PendSet) (s : Device) : (putPendSet v s).ramp = s.ramp := rfl
@[simp] theorem putPendSet_mem (v : List PendSet) (s : Device) : (putPendSet v s).mem = s.mem := rfl
@[simp] theorem putPendSet_lanes (v : List PendSet) (s : Device) : (putPendSet v s).lanes = s.lanes := rfl
@[simp] theorem putPendSet_stack (v : List PendSet) (s : Device) : (putPendSet v s).stack = s.stack := rfl
@[simp] theorem putPendSet_clock (v : List PendSet) (s : Device) : (putPendSet v s).clock = s.clock := rfl
@[simp] theorem putPendSet_fault (v : List PendSet) (s : Device) : (putPendSet v s).fault = s.fault := rfl
@[simp] theorem putPendSet_boot (v : List PendSet) (s : Device) : (putPendSet v s).boot = s.boot := rfl
@[simp] theorem putPendSet_host (v : List PendSet) (s : Device) : (putPendSet v s).host = s.host := rfl
@[simp] theorem putPendSet_elec (v : List PendSet) (s : Device) : (putPendSet v s).elec = s.elec := rfl
@[simp] theorem putPendSet_settings (v : List PendSet) (s : Device) : (putPendSet v s).settings = s.settings := rfl
@[simp] theorem putPendSet_pendSet (v : List PendSet) (s : Device) : (putPendSet v s).pendSet = v := rfl
@[simp] theorem putPendSet_evq (v : List PendSet) (s : Device) : (putPendSet v s).evq = s.evq := rfl
@[simp] theorem putPendSet_out (v : List PendSet) (s : Device) : (putPendSet v s).out = s.out := rfl
@[simp] theorem putPendSet_fresh (v : List PendSet) (s : Device) : (putPendSet v s).fresh = s.fresh := rfl
@[simp] theorem putRamp_accord (v : Two PhaseRamp) (s : Device) : (putRamp v s).accord = s.accord := rfl
@[simp] theorem putRamp_engines (v : Two PhaseRamp) (s : Device) : (putRamp v s).engines = s.engines := rfl
@[simp] theorem putRamp_conv (v : Two PhaseRamp) (s : Device) : (putRamp v s).conv = s.conv := rfl
@[simp] theorem putRamp_tx (v : Two PhaseRamp) (s : Device) : (putRamp v s).tx = s.tx := rfl
@[simp] theorem putRamp_rx (v : Two PhaseRamp) (s : Device) : (putRamp v s).rx = s.rx := rfl
@[simp] theorem putRamp_fec (v : Two PhaseRamp) (s : Device) : (putRamp v s).fec = s.fec := rfl
@[simp] theorem putRamp_pool (v : Two PhaseRamp) (s : Device) : (putRamp v s).pool = s.pool := rfl
@[simp] theorem putRamp_line (v : Two PhaseRamp) (s : Device) : (putRamp v s).line = s.line := rfl
@[simp] theorem putRamp_ohpFs (v : Two PhaseRamp) (s : Device) : (putRamp v s).ohpFs = s.ohpFs := rfl
@[simp] theorem putRamp_tribs (v : Two PhaseRamp) (s : Device) : (putRamp v s).tribs = s.tribs := rfl
@[simp] theorem putRamp_crypto (v : Two PhaseRamp) (s : Device) : (putRamp v s).crypto = s.crypto := rfl
@[simp] theorem putRamp_kme (v : Two PhaseRamp) (s : Device) : (putRamp v s).kme = s.kme := rfl
@[simp] theorem putRamp_ostc (v : Two PhaseRamp) (s : Device) : (putRamp v s).ostc = s.ostc := rfl
@[simp] theorem putRamp_timing (v : Two PhaseRamp) (s : Device) : (putRamp v s).timing = s.timing := rfl
@[simp] theorem putRamp_ttx (v : Two PhaseRamp) (s : Device) : (putRamp v s).ttx = s.ttx := rfl
@[simp] theorem putRamp_sense (v : Two PhaseRamp) (s : Device) : (putRamp v s).sense = s.sense := rfl
@[simp] theorem putRamp_ramp (v : Two PhaseRamp) (s : Device) : (putRamp v s).ramp = v := rfl
@[simp] theorem putRamp_mem (v : Two PhaseRamp) (s : Device) : (putRamp v s).mem = s.mem := rfl
@[simp] theorem putRamp_lanes (v : Two PhaseRamp) (s : Device) : (putRamp v s).lanes = s.lanes := rfl
@[simp] theorem putRamp_stack (v : Two PhaseRamp) (s : Device) : (putRamp v s).stack = s.stack := rfl
@[simp] theorem putRamp_clock (v : Two PhaseRamp) (s : Device) : (putRamp v s).clock = s.clock := rfl
@[simp] theorem putRamp_fault (v : Two PhaseRamp) (s : Device) : (putRamp v s).fault = s.fault := rfl
@[simp] theorem putRamp_boot (v : Two PhaseRamp) (s : Device) : (putRamp v s).boot = s.boot := rfl
@[simp] theorem putRamp_host (v : Two PhaseRamp) (s : Device) : (putRamp v s).host = s.host := rfl
@[simp] theorem putRamp_elec (v : Two PhaseRamp) (s : Device) : (putRamp v s).elec = s.elec := rfl
@[simp] theorem putRamp_settings (v : Two PhaseRamp) (s : Device) : (putRamp v s).settings = s.settings := rfl
@[simp] theorem putRamp_pendSet (v : Two PhaseRamp) (s : Device) : (putRamp v s).pendSet = s.pendSet := rfl
@[simp] theorem putRamp_evq (v : Two PhaseRamp) (s : Device) : (putRamp v s).evq = s.evq := rfl
@[simp] theorem putRamp_out (v : Two PhaseRamp) (s : Device) : (putRamp v s).out = s.out := rfl
@[simp] theorem putRamp_fresh (v : Two PhaseRamp) (s : Device) : (putRamp v s).fresh = s.fresh := rfl
@[simp] theorem putOut_accord (v : List Output) (s : Device) : (putOut v s).accord = s.accord := rfl
@[simp] theorem putOut_engines (v : List Output) (s : Device) : (putOut v s).engines = s.engines := rfl
@[simp] theorem putOut_conv (v : List Output) (s : Device) : (putOut v s).conv = s.conv := rfl
@[simp] theorem putOut_tx (v : List Output) (s : Device) : (putOut v s).tx = s.tx := rfl
@[simp] theorem putOut_rx (v : List Output) (s : Device) : (putOut v s).rx = s.rx := rfl
@[simp] theorem putOut_fec (v : List Output) (s : Device) : (putOut v s).fec = s.fec := rfl
@[simp] theorem putOut_pool (v : List Output) (s : Device) : (putOut v s).pool = s.pool := rfl
@[simp] theorem putOut_line (v : List Output) (s : Device) : (putOut v s).line = s.line := rfl
@[simp] theorem putOut_ohpFs (v : List Output) (s : Device) : (putOut v s).ohpFs = s.ohpFs := rfl
@[simp] theorem putOut_tribs (v : List Output) (s : Device) : (putOut v s).tribs = s.tribs := rfl
@[simp] theorem putOut_crypto (v : List Output) (s : Device) : (putOut v s).crypto = s.crypto := rfl
@[simp] theorem putOut_kme (v : List Output) (s : Device) : (putOut v s).kme = s.kme := rfl
@[simp] theorem putOut_ostc (v : List Output) (s : Device) : (putOut v s).ostc = s.ostc := rfl
@[simp] theorem putOut_timing (v : List Output) (s : Device) : (putOut v s).timing = s.timing := rfl
@[simp] theorem putOut_ttx (v : List Output) (s : Device) : (putOut v s).ttx = s.ttx := rfl
@[simp] theorem putOut_sense (v : List Output) (s : Device) : (putOut v s).sense = s.sense := rfl
@[simp] theorem putOut_ramp (v : List Output) (s : Device) : (putOut v s).ramp = s.ramp := rfl
@[simp] theorem putOut_mem (v : List Output) (s : Device) : (putOut v s).mem = s.mem := rfl
@[simp] theorem putOut_lanes (v : List Output) (s : Device) : (putOut v s).lanes = s.lanes := rfl
@[simp] theorem putOut_stack (v : List Output) (s : Device) : (putOut v s).stack = s.stack := rfl
@[simp] theorem putOut_clock (v : List Output) (s : Device) : (putOut v s).clock = s.clock := rfl
@[simp] theorem putOut_fault (v : List Output) (s : Device) : (putOut v s).fault = s.fault := rfl
@[simp] theorem putOut_boot (v : List Output) (s : Device) : (putOut v s).boot = s.boot := rfl
@[simp] theorem putOut_host (v : List Output) (s : Device) : (putOut v s).host = s.host := rfl
@[simp] theorem putOut_elec (v : List Output) (s : Device) : (putOut v s).elec = s.elec := rfl
@[simp] theorem putOut_settings (v : List Output) (s : Device) : (putOut v s).settings = s.settings := rfl
@[simp] theorem putOut_pendSet (v : List Output) (s : Device) : (putOut v s).pendSet = s.pendSet := rfl
@[simp] theorem putOut_evq (v : List Output) (s : Device) : (putOut v s).evq = s.evq := rfl
@[simp] theorem putOut_out (v : List Output) (s : Device) : (putOut v s).out = v := rfl
@[simp] theorem putOut_fresh (v : List Output) (s : Device) : (putOut v s).fresh = s.fresh := rfl
@[simp] theorem putEvq_accord (v : List EventRec) (s : Device) : (putEvq v s).accord = s.accord := rfl
@[simp] theorem putEvq_engines (v : List EventRec) (s : Device) : (putEvq v s).engines = s.engines := rfl
@[simp] theorem putEvq_conv (v : List EventRec) (s : Device) : (putEvq v s).conv = s.conv := rfl
@[simp] theorem putEvq_tx (v : List EventRec) (s : Device) : (putEvq v s).tx = s.tx := rfl
@[simp] theorem putEvq_rx (v : List EventRec) (s : Device) : (putEvq v s).rx = s.rx := rfl
@[simp] theorem putEvq_fec (v : List EventRec) (s : Device) : (putEvq v s).fec = s.fec := rfl
@[simp] theorem putEvq_pool (v : List EventRec) (s : Device) : (putEvq v s).pool = s.pool := rfl
@[simp] theorem putEvq_line (v : List EventRec) (s : Device) : (putEvq v s).line = s.line := rfl
@[simp] theorem putEvq_ohpFs (v : List EventRec) (s : Device) : (putEvq v s).ohpFs = s.ohpFs := rfl
@[simp] theorem putEvq_tribs (v : List EventRec) (s : Device) : (putEvq v s).tribs = s.tribs := rfl
@[simp] theorem putEvq_crypto (v : List EventRec) (s : Device) : (putEvq v s).crypto = s.crypto := rfl
@[simp] theorem putEvq_kme (v : List EventRec) (s : Device) : (putEvq v s).kme = s.kme := rfl
@[simp] theorem putEvq_ostc (v : List EventRec) (s : Device) : (putEvq v s).ostc = s.ostc := rfl
@[simp] theorem putEvq_timing (v : List EventRec) (s : Device) : (putEvq v s).timing = s.timing := rfl
@[simp] theorem putEvq_ttx (v : List EventRec) (s : Device) : (putEvq v s).ttx = s.ttx := rfl
@[simp] theorem putEvq_sense (v : List EventRec) (s : Device) : (putEvq v s).sense = s.sense := rfl
@[simp] theorem putEvq_ramp (v : List EventRec) (s : Device) : (putEvq v s).ramp = s.ramp := rfl
@[simp] theorem putEvq_mem (v : List EventRec) (s : Device) : (putEvq v s).mem = s.mem := rfl
@[simp] theorem putEvq_lanes (v : List EventRec) (s : Device) : (putEvq v s).lanes = s.lanes := rfl
@[simp] theorem putEvq_stack (v : List EventRec) (s : Device) : (putEvq v s).stack = s.stack := rfl
@[simp] theorem putEvq_clock (v : List EventRec) (s : Device) : (putEvq v s).clock = s.clock := rfl
@[simp] theorem putEvq_fault (v : List EventRec) (s : Device) : (putEvq v s).fault = s.fault := rfl
@[simp] theorem putEvq_boot (v : List EventRec) (s : Device) : (putEvq v s).boot = s.boot := rfl
@[simp] theorem putEvq_host (v : List EventRec) (s : Device) : (putEvq v s).host = s.host := rfl
@[simp] theorem putEvq_elec (v : List EventRec) (s : Device) : (putEvq v s).elec = s.elec := rfl
@[simp] theorem putEvq_settings (v : List EventRec) (s : Device) : (putEvq v s).settings = s.settings := rfl
@[simp] theorem putEvq_pendSet (v : List EventRec) (s : Device) : (putEvq v s).pendSet = s.pendSet := rfl
@[simp] theorem putEvq_evq (v : List EventRec) (s : Device) : (putEvq v s).evq = v := rfl
@[simp] theorem putEvq_out (v : List EventRec) (s : Device) : (putEvq v s).out = s.out := rfl
@[simp] theorem putEvq_fresh (v : List EventRec) (s : Device) : (putEvq v s).fresh = s.fresh := rfl
@[simp] theorem putElec_accord (v : ElecSt) (s : Device) : (putElec v s).accord = s.accord := rfl
@[simp] theorem putElec_engines (v : ElecSt) (s : Device) : (putElec v s).engines = s.engines := rfl
@[simp] theorem putElec_conv (v : ElecSt) (s : Device) : (putElec v s).conv = s.conv := rfl
@[simp] theorem putElec_tx (v : ElecSt) (s : Device) : (putElec v s).tx = s.tx := rfl
@[simp] theorem putElec_rx (v : ElecSt) (s : Device) : (putElec v s).rx = s.rx := rfl
@[simp] theorem putElec_fec (v : ElecSt) (s : Device) : (putElec v s).fec = s.fec := rfl
@[simp] theorem putElec_pool (v : ElecSt) (s : Device) : (putElec v s).pool = s.pool := rfl
@[simp] theorem putElec_line (v : ElecSt) (s : Device) : (putElec v s).line = s.line := rfl
@[simp] theorem putElec_ohpFs (v : ElecSt) (s : Device) : (putElec v s).ohpFs = s.ohpFs := rfl
@[simp] theorem putElec_tribs (v : ElecSt) (s : Device) : (putElec v s).tribs = s.tribs := rfl
@[simp] theorem putElec_crypto (v : ElecSt) (s : Device) : (putElec v s).crypto = s.crypto := rfl
@[simp] theorem putElec_kme (v : ElecSt) (s : Device) : (putElec v s).kme = s.kme := rfl
@[simp] theorem putElec_ostc (v : ElecSt) (s : Device) : (putElec v s).ostc = s.ostc := rfl
@[simp] theorem putElec_timing (v : ElecSt) (s : Device) : (putElec v s).timing = s.timing := rfl
@[simp] theorem putElec_ttx (v : ElecSt) (s : Device) : (putElec v s).ttx = s.ttx := rfl
@[simp] theorem putElec_sense (v : ElecSt) (s : Device) : (putElec v s).sense = s.sense := rfl
@[simp] theorem putElec_ramp (v : ElecSt) (s : Device) : (putElec v s).ramp = s.ramp := rfl
@[simp] theorem putElec_mem (v : ElecSt) (s : Device) : (putElec v s).mem = s.mem := rfl
@[simp] theorem putElec_lanes (v : ElecSt) (s : Device) : (putElec v s).lanes = s.lanes := rfl
@[simp] theorem putElec_stack (v : ElecSt) (s : Device) : (putElec v s).stack = s.stack := rfl
@[simp] theorem putElec_clock (v : ElecSt) (s : Device) : (putElec v s).clock = s.clock := rfl
@[simp] theorem putElec_fault (v : ElecSt) (s : Device) : (putElec v s).fault = s.fault := rfl
@[simp] theorem putElec_boot (v : ElecSt) (s : Device) : (putElec v s).boot = s.boot := rfl
@[simp] theorem putElec_host (v : ElecSt) (s : Device) : (putElec v s).host = s.host := rfl
@[simp] theorem putElec_elec (v : ElecSt) (s : Device) : (putElec v s).elec = v := rfl
@[simp] theorem putElec_settings (v : ElecSt) (s : Device) : (putElec v s).settings = s.settings := rfl
@[simp] theorem putElec_pendSet (v : ElecSt) (s : Device) : (putElec v s).pendSet = s.pendSet := rfl
@[simp] theorem putElec_evq (v : ElecSt) (s : Device) : (putElec v s).evq = s.evq := rfl
@[simp] theorem putElec_out (v : ElecSt) (s : Device) : (putElec v s).out = s.out := rfl
@[simp] theorem putElec_fresh (v : ElecSt) (s : Device) : (putElec v s).fresh = s.fresh := rfl
@[simp] theorem putSettings_accord (v : Tab (Option Int)) (s : Device) : (putSettings v s).accord = s.accord := rfl
@[simp] theorem putSettings_engines (v : Tab (Option Int)) (s : Device) : (putSettings v s).engines = s.engines := rfl
@[simp] theorem putSettings_conv (v : Tab (Option Int)) (s : Device) : (putSettings v s).conv = s.conv := rfl
@[simp] theorem putSettings_tx (v : Tab (Option Int)) (s : Device) : (putSettings v s).tx = s.tx := rfl
@[simp] theorem putSettings_rx (v : Tab (Option Int)) (s : Device) : (putSettings v s).rx = s.rx := rfl
@[simp] theorem putSettings_fec (v : Tab (Option Int)) (s : Device) : (putSettings v s).fec = s.fec := rfl
@[simp] theorem putSettings_pool (v : Tab (Option Int)) (s : Device) : (putSettings v s).pool = s.pool := rfl
@[simp] theorem putSettings_line (v : Tab (Option Int)) (s : Device) : (putSettings v s).line = s.line := rfl
@[simp] theorem putSettings_ohpFs (v : Tab (Option Int)) (s : Device) : (putSettings v s).ohpFs = s.ohpFs := rfl
@[simp] theorem putSettings_tribs (v : Tab (Option Int)) (s : Device) : (putSettings v s).tribs = s.tribs := rfl
@[simp] theorem putSettings_crypto (v : Tab (Option Int)) (s : Device) : (putSettings v s).crypto = s.crypto := rfl
@[simp] theorem putSettings_kme (v : Tab (Option Int)) (s : Device) : (putSettings v s).kme = s.kme := rfl
@[simp] theorem putSettings_ostc (v : Tab (Option Int)) (s : Device) : (putSettings v s).ostc = s.ostc := rfl
@[simp] theorem putSettings_timing (v : Tab (Option Int)) (s : Device) : (putSettings v s).timing = s.timing := rfl
@[simp] theorem putSettings_ttx (v : Tab (Option Int)) (s : Device) : (putSettings v s).ttx = s.ttx := rfl
@[simp] theorem putSettings_sense (v : Tab (Option Int)) (s : Device) : (putSettings v s).sense = s.sense := rfl
@[simp] theorem putSettings_ramp (v : Tab (Option Int)) (s : Device) : (putSettings v s).ramp = s.ramp := rfl
@[simp] theorem putSettings_mem (v : Tab (Option Int)) (s : Device) : (putSettings v s).mem = s.mem := rfl
@[simp] theorem putSettings_lanes (v : Tab (Option Int)) (s : Device) : (putSettings v s).lanes = s.lanes := rfl
@[simp] theorem putSettings_stack (v : Tab (Option Int)) (s : Device) : (putSettings v s).stack = s.stack := rfl
@[simp] theorem putSettings_clock (v : Tab (Option Int)) (s : Device) : (putSettings v s).clock = s.clock := rfl
@[simp] theorem putSettings_fault (v : Tab (Option Int)) (s : Device) : (putSettings v s).fault = s.fault := rfl
@[simp] theorem putSettings_boot (v : Tab (Option Int)) (s : Device) : (putSettings v s).boot = s.boot := rfl
@[simp] theorem putSettings_host (v : Tab (Option Int)) (s : Device) : (putSettings v s).host = s.host := rfl
@[simp] theorem putSettings_elec (v : Tab (Option Int)) (s : Device) : (putSettings v s).elec = s.elec := rfl
@[simp] theorem putSettings_settings (v : Tab (Option Int)) (s : Device) : (putSettings v s).settings = v := rfl
@[simp] theorem putSettings_pendSet (v : Tab (Option Int)) (s : Device) : (putSettings v s).pendSet = s.pendSet := rfl
@[simp] theorem putSettings_evq (v : Tab (Option Int)) (s : Device) : (putSettings v s).evq = s.evq := rfl
@[simp] theorem putSettings_out (v : Tab (Option Int)) (s : Device) : (putSettings v s).out = s.out := rfl
@[simp] theorem putSettings_fresh (v : Tab (Option Int)) (s : Device) : (putSettings v s).fresh = s.fresh := rfl
@[simp] theorem putPool_accord (v : PoolSt) (s : Device) : (putPool v s).accord = s.accord := rfl
@[simp] theorem putPool_engines (v : PoolSt) (s : Device) : (putPool v s).engines = s.engines := rfl
@[simp] theorem putPool_conv (v : PoolSt) (s : Device) : (putPool v s).conv = s.conv := rfl
@[simp] theorem putPool_tx (v : PoolSt) (s : Device) : (putPool v s).tx = s.tx := rfl
@[simp] theorem putPool_rx (v : PoolSt) (s : Device) : (putPool v s).rx = s.rx := rfl
@[simp] theorem putPool_fec (v : PoolSt) (s : Device) : (putPool v s).fec = s.fec := rfl
@[simp] theorem putPool_pool (v : PoolSt) (s : Device) : (putPool v s).pool = v := rfl
@[simp] theorem putPool_line (v : PoolSt) (s : Device) : (putPool v s).line = s.line := rfl
@[simp] theorem putPool_ohpFs (v : PoolSt) (s : Device) : (putPool v s).ohpFs = s.ohpFs := rfl
@[simp] theorem putPool_tribs (v : PoolSt) (s : Device) : (putPool v s).tribs = s.tribs := rfl
@[simp] theorem putPool_crypto (v : PoolSt) (s : Device) : (putPool v s).crypto = s.crypto := rfl
@[simp] theorem putPool_kme (v : PoolSt) (s : Device) : (putPool v s).kme = s.kme := rfl
@[simp] theorem putPool_ostc (v : PoolSt) (s : Device) : (putPool v s).ostc = s.ostc := rfl
@[simp] theorem putPool_timing (v : PoolSt) (s : Device) : (putPool v s).timing = s.timing := rfl
@[simp] theorem putPool_ttx (v : PoolSt) (s : Device) : (putPool v s).ttx = s.ttx := rfl
@[simp] theorem putPool_sense (v : PoolSt) (s : Device) : (putPool v s).sense = s.sense := rfl
@[simp] theorem putPool_ramp (v : PoolSt) (s : Device) : (putPool v s).ramp = s.ramp := rfl
@[simp] theorem putPool_mem (v : PoolSt) (s : Device) : (putPool v s).mem = s.mem := rfl
@[simp] theorem putPool_lanes (v : PoolSt) (s : Device) : (putPool v s).lanes = s.lanes := rfl
@[simp] theorem putPool_stack (v : PoolSt) (s : Device) : (putPool v s).stack = s.stack := rfl
@[simp] theorem putPool_clock (v : PoolSt) (s : Device) : (putPool v s).clock = s.clock := rfl
@[simp] theorem putPool_fault (v : PoolSt) (s : Device) : (putPool v s).fault = s.fault := rfl
@[simp] theorem putPool_boot (v : PoolSt) (s : Device) : (putPool v s).boot = s.boot := rfl
@[simp] theorem putPool_host (v : PoolSt) (s : Device) : (putPool v s).host = s.host := rfl
@[simp] theorem putPool_elec (v : PoolSt) (s : Device) : (putPool v s).elec = s.elec := rfl
@[simp] theorem putPool_settings (v : PoolSt) (s : Device) : (putPool v s).settings = s.settings := rfl
@[simp] theorem putPool_pendSet (v : PoolSt) (s : Device) : (putPool v s).pendSet = s.pendSet := rfl
@[simp] theorem putPool_evq (v : PoolSt) (s : Device) : (putPool v s).evq = s.evq := rfl
@[simp] theorem putPool_out (v : PoolSt) (s : Device) : (putPool v s).out = s.out := rfl
@[simp] theorem putPool_fresh (v : PoolSt) (s : Device) : (putPool v s).fresh = s.fresh := rfl
@[simp] theorem putFault_accord (v : FaultSt) (s : Device) : (putFault v s).accord = s.accord := rfl
@[simp] theorem putFault_engines (v : FaultSt) (s : Device) : (putFault v s).engines = s.engines := rfl
@[simp] theorem putFault_conv (v : FaultSt) (s : Device) : (putFault v s).conv = s.conv := rfl
@[simp] theorem putFault_tx (v : FaultSt) (s : Device) : (putFault v s).tx = s.tx := rfl
@[simp] theorem putFault_rx (v : FaultSt) (s : Device) : (putFault v s).rx = s.rx := rfl
@[simp] theorem putFault_fec (v : FaultSt) (s : Device) : (putFault v s).fec = s.fec := rfl
@[simp] theorem putFault_pool (v : FaultSt) (s : Device) : (putFault v s).pool = s.pool := rfl
@[simp] theorem putFault_line (v : FaultSt) (s : Device) : (putFault v s).line = s.line := rfl
@[simp] theorem putFault_ohpFs (v : FaultSt) (s : Device) : (putFault v s).ohpFs = s.ohpFs := rfl
@[simp] theorem putFault_tribs (v : FaultSt) (s : Device) : (putFault v s).tribs = s.tribs := rfl
@[simp] theorem putFault_crypto (v : FaultSt) (s : Device) : (putFault v s).crypto = s.crypto := rfl
@[simp] theorem putFault_kme (v : FaultSt) (s : Device) : (putFault v s).kme = s.kme := rfl
@[simp] theorem putFault_ostc (v : FaultSt) (s : Device) : (putFault v s).ostc = s.ostc := rfl
@[simp] theorem putFault_timing (v : FaultSt) (s : Device) : (putFault v s).timing = s.timing := rfl
@[simp] theorem putFault_ttx (v : FaultSt) (s : Device) : (putFault v s).ttx = s.ttx := rfl
@[simp] theorem putFault_sense (v : FaultSt) (s : Device) : (putFault v s).sense = s.sense := rfl
@[simp] theorem putFault_ramp (v : FaultSt) (s : Device) : (putFault v s).ramp = s.ramp := rfl
@[simp] theorem putFault_mem (v : FaultSt) (s : Device) : (putFault v s).mem = s.mem := rfl
@[simp] theorem putFault_lanes (v : FaultSt) (s : Device) : (putFault v s).lanes = s.lanes := rfl
@[simp] theorem putFault_stack (v : FaultSt) (s : Device) : (putFault v s).stack = s.stack := rfl
@[simp] theorem putFault_clock (v : FaultSt) (s : Device) : (putFault v s).clock = s.clock := rfl
@[simp] theorem putFault_fault (v : FaultSt) (s : Device) : (putFault v s).fault = v := rfl
@[simp] theorem putFault_boot (v : FaultSt) (s : Device) : (putFault v s).boot = s.boot := rfl
@[simp] theorem putFault_host (v : FaultSt) (s : Device) : (putFault v s).host = s.host := rfl
@[simp] theorem putFault_elec (v : FaultSt) (s : Device) : (putFault v s).elec = s.elec := rfl
@[simp] theorem putFault_settings (v : FaultSt) (s : Device) : (putFault v s).settings = s.settings := rfl
@[simp] theorem putFault_pendSet (v : FaultSt) (s : Device) : (putFault v s).pendSet = s.pendSet := rfl
@[simp] theorem putFault_evq (v : FaultSt) (s : Device) : (putFault v s).evq = s.evq := rfl
@[simp] theorem putFault_out (v : FaultSt) (s : Device) : (putFault v s).out = s.out := rfl
@[simp] theorem putFault_fresh (v : FaultSt) (s : Device) : (putFault v s).fresh = s.fresh := rfl
@[simp] theorem putSense_accord (v : Tab SenseSt) (s : Device) : (putSense v s).accord = s.accord := rfl
@[simp] theorem putSense_engines (v : Tab SenseSt) (s : Device) : (putSense v s).engines = s.engines := rfl
@[simp] theorem putSense_conv (v : Tab SenseSt) (s : Device) : (putSense v s).conv = s.conv := rfl
@[simp] theorem putSense_tx (v : Tab SenseSt) (s : Device) : (putSense v s).tx = s.tx := rfl
@[simp] theorem putSense_rx (v : Tab SenseSt) (s : Device) : (putSense v s).rx = s.rx := rfl
@[simp] theorem putSense_fec (v : Tab SenseSt) (s : Device) : (putSense v s).fec = s.fec := rfl
@[simp] theorem putSense_pool (v : Tab SenseSt) (s : Device) : (putSense v s).pool = s.pool := rfl
@[simp] theorem putSense_line (v : Tab SenseSt) (s : Device) : (putSense v s).line = s.line := rfl
@[simp] theorem putSense_ohpFs (v : Tab SenseSt) (s : Device) : (putSense v s).ohpFs = s.ohpFs := rfl
@[simp] theorem putSense_tribs (v : Tab SenseSt) (s : Device) : (putSense v s).tribs = s.tribs := rfl
@[simp] theorem putSense_crypto (v : Tab SenseSt) (s : Device) : (putSense v s).crypto = s.crypto := rfl
@[simp] theorem putSense_kme (v : Tab SenseSt) (s : Device) : (putSense v s).kme = s.kme := rfl
@[simp] theorem putSense_ostc (v : Tab SenseSt) (s : Device) : (putSense v s).ostc = s.ostc := rfl
@[simp] theorem putSense_timing (v : Tab SenseSt) (s : Device) : (putSense v s).timing = s.timing := rfl
@[simp] theorem putSense_ttx (v : Tab SenseSt) (s : Device) : (putSense v s).ttx = s.ttx := rfl
@[simp] theorem putSense_sense (v : Tab SenseSt) (s : Device) : (putSense v s).sense = v := rfl
@[simp] theorem putSense_ramp (v : Tab SenseSt) (s : Device) : (putSense v s).ramp = s.ramp := rfl
@[simp] theorem putSense_mem (v : Tab SenseSt) (s : Device) : (putSense v s).mem = s.mem := rfl
@[simp] theorem putSense_lanes (v : Tab SenseSt) (s : Device) : (putSense v s).lanes = s.lanes := rfl
@[simp] theorem putSense_stack (v : Tab SenseSt) (s : Device) : (putSense v s).stack = s.stack := rfl
@[simp] theorem putSense_clock (v : Tab SenseSt) (s : Device) : (putSense v s).clock = s.clock := rfl
@[simp] theorem putSense_fault (v : Tab SenseSt) (s : Device) : (putSense v s).fault = s.fault := rfl
@[simp] theorem putSense_boot (v : Tab SenseSt) (s : Device) : (putSense v s).boot = s.boot := rfl
@[simp] theorem putSense_host (v : Tab SenseSt) (s : Device) : (putSense v s).host = s.host := rfl
@[simp] theorem putSense_elec (v : Tab SenseSt) (s : Device) : (putSense v s).elec = s.elec := rfl
@[simp] theorem putSense_settings (v : Tab SenseSt) (s : Device) : (putSense v s).settings = s.settings := rfl
@[simp] theorem putSense_pendSet (v : Tab SenseSt) (s : Device) : (putSense v s).pendSet = s.pendSet := rfl
@[simp] theorem putSense_evq (v : Tab SenseSt) (s : Device) : (putSense v s).evq = s.evq := rfl
@[simp] theorem putSense_out (v : Tab SenseSt) (s : Device) : (putSense v s).out = s.out := rfl
@[simp] theorem putSense_fresh (v : Tab SenseSt) (s : Device) : (putSense v s).fresh = s.fresh := rfl
@[simp] theorem putOhpFs_accord (v : Bool) (s : Device) : (putOhpFs v s).accord = s.accord := rfl
@[simp] theorem putOhpFs_engines (v : Bool) (s : Device) : (putOhpFs v s).engines = s.engines := rfl
@[simp] theorem putOhpFs_conv (v : Bool) (s : Device) : (putOhpFs v s).conv = s.conv := rfl
@[simp] theorem putOhpFs_tx (v : Bool) (s : Device) : (putOhpFs v s).tx = s.tx := rfl
@[simp] theorem putOhpFs_rx (v : Bool) (s : Device) : (putOhpFs v s).rx = s.rx := rfl
@[simp] theorem putOhpFs_fec (v : Bool) (s : Device) : (putOhpFs v s).fec = s.fec := rfl
@[simp] theorem putOhpFs_pool (v : Bool) (s : Device) : (putOhpFs v s).pool = s.pool := rfl
@[simp] theorem putOhpFs_line (v : Bool) (s : Device) : (putOhpFs v s).line = s.line := rfl
@[simp] theorem putOhpFs_ohpFs (v : Bool) (s : Device) : (putOhpFs v s).ohpFs = v := rfl
@[simp] theorem putOhpFs_tribs (v : Bool) (s : Device) : (putOhpFs v s).tribs = s.tribs := rfl
@[simp] theorem putOhpFs_crypto (v : Bool) (s : Device) : (putOhpFs v s).crypto = s.crypto := rfl
@[simp] theorem putOhpFs_kme (v : Bool) (s : Device) : (putOhpFs v s).kme = s.kme := rfl
@[simp] theorem putOhpFs_ostc (v : Bool) (s : Device) : (putOhpFs v s).ostc = s.ostc := rfl
@[simp] theorem putOhpFs_timing (v : Bool) (s : Device) : (putOhpFs v s).timing = s.timing := rfl
@[simp] theorem putOhpFs_ttx (v : Bool) (s : Device) : (putOhpFs v s).ttx = s.ttx := rfl
@[simp] theorem putOhpFs_sense (v : Bool) (s : Device) : (putOhpFs v s).sense = s.sense := rfl
@[simp] theorem putOhpFs_ramp (v : Bool) (s : Device) : (putOhpFs v s).ramp = s.ramp := rfl
@[simp] theorem putOhpFs_mem (v : Bool) (s : Device) : (putOhpFs v s).mem = s.mem := rfl
@[simp] theorem putOhpFs_lanes (v : Bool) (s : Device) : (putOhpFs v s).lanes = s.lanes := rfl
@[simp] theorem putOhpFs_stack (v : Bool) (s : Device) : (putOhpFs v s).stack = s.stack := rfl
@[simp] theorem putOhpFs_clock (v : Bool) (s : Device) : (putOhpFs v s).clock = s.clock := rfl
@[simp] theorem putOhpFs_fault (v : Bool) (s : Device) : (putOhpFs v s).fault = s.fault := rfl
@[simp] theorem putOhpFs_boot (v : Bool) (s : Device) : (putOhpFs v s).boot = s.boot := rfl
@[simp] theorem putOhpFs_host (v : Bool) (s : Device) : (putOhpFs v s).host = s.host := rfl
@[simp] theorem putOhpFs_elec (v : Bool) (s : Device) : (putOhpFs v s).elec = s.elec := rfl
@[simp] theorem putOhpFs_settings (v : Bool) (s : Device) : (putOhpFs v s).settings = s.settings := rfl
@[simp] theorem putOhpFs_pendSet (v : Bool) (s : Device) : (putOhpFs v s).pendSet = s.pendSet := rfl
@[simp] theorem putOhpFs_evq (v : Bool) (s : Device) : (putOhpFs v s).evq = s.evq := rfl
@[simp] theorem putOhpFs_out (v : Bool) (s : Device) : (putOhpFs v s).out = s.out := rfl
@[simp] theorem putOhpFs_fresh (v : Bool) (s : Device) : (putOhpFs v s).fresh = s.fresh := rfl
@[simp] theorem putFresh_accord (v : Nat) (s : Device) : (putFresh v s).accord = s.accord := rfl
@[simp] theorem putFresh_engines (v : Nat) (s : Device) : (putFresh v s).engines = s.engines := rfl
@[simp] theorem putFresh_conv (v : Nat) (s : Device) : (putFresh v s).conv = s.conv := rfl
@[simp] theorem putFresh_tx (v : Nat) (s : Device) : (putFresh v s).tx = s.tx := rfl
@[simp] theorem putFresh_rx (v : Nat) (s : Device) : (putFresh v s).rx = s.rx := rfl
@[simp] theorem putFresh_fec (v : Nat) (s : Device) : (putFresh v s).fec = s.fec := rfl
@[simp] theorem putFresh_pool (v : Nat) (s : Device) : (putFresh v s).pool = s.pool := rfl
@[simp] theorem putFresh_line (v : Nat) (s : Device) : (putFresh v s).line = s.line := rfl
@[simp] theorem putFresh_ohpFs (v : Nat) (s : Device) : (putFresh v s).ohpFs = s.ohpFs := rfl
@[simp] theorem putFresh_tribs (v : Nat) (s : Device) : (putFresh v s).tribs = s.tribs := rfl
@[simp] theorem putFresh_crypto (v : Nat) (s : Device) : (putFresh v s).crypto = s.crypto := rfl
@[simp] theorem putFresh_kme (v : Nat) (s : Device) : (putFresh v s).kme = s.kme := rfl
@[simp] theorem putFresh_ostc (v : Nat) (s : Device) : (putFresh v s).ostc = s.ostc := rfl
@[simp] theorem putFresh_timing (v : Nat) (s : Device) : (putFresh v s).timing = s.timing := rfl
@[simp] theorem putFresh_ttx (v : Nat) (s : Device) : (putFresh v s).ttx = s.ttx := rfl
@[simp] theorem putFresh_sense (v : Nat) (s : Device) : (putFresh v s).sense = s.sense := rfl
@[simp] theorem putFresh_ramp (v : Nat) (s : Device) : (putFresh v s).ramp = s.ramp := rfl
@[simp] theorem putFresh_mem (v : Nat) (s : Device) : (putFresh v s).mem = s.mem := rfl
@[simp] theorem putFresh_lanes (v : Nat) (s : Device) : (putFresh v s).lanes = s.lanes := rfl
@[simp] theorem putFresh_stack (v : Nat) (s : Device) : (putFresh v s).stack = s.stack := rfl
@[simp] theorem putFresh_clock (v : Nat) (s : Device) : (putFresh v s).clock = s.clock := rfl
@[simp] theorem putFresh_fault (v : Nat) (s : Device) : (putFresh v s).fault = s.fault := rfl
@[simp] theorem putFresh_boot (v : Nat) (s : Device) : (putFresh v s).boot = s.boot := rfl
@[simp] theorem putFresh_host (v : Nat) (s : Device) : (putFresh v s).host = s.host := rfl
@[simp] theorem putFresh_elec (v : Nat) (s : Device) : (putFresh v s).elec = s.elec := rfl
@[simp] theorem putFresh_settings (v : Nat) (s : Device) : (putFresh v s).settings = s.settings := rfl
@[simp] theorem putFresh_pendSet (v : Nat) (s : Device) : (putFresh v s).pendSet = s.pendSet := rfl
@[simp] theorem putFresh_evq (v : Nat) (s : Device) : (putFresh v s).evq = s.evq := rfl
@[simp] theorem putFresh_out (v : Nat) (s : Device) : (putFresh v s).out = s.out := rfl
@[simp] theorem putFresh_fresh (v : Nat) (s : Device) : (putFresh v s).fresh = v := rfl
@[simp] theorem putLanes_accord (v : LanesSt) (s : Device) : (putLanes v s).accord = s.accord := rfl
@[simp] theorem putLanes_engines (v : LanesSt) (s : Device) : (putLanes v s).engines = s.engines := rfl
@[simp] theorem putLanes_conv (v : LanesSt) (s : Device) : (putLanes v s).conv = s.conv := rfl
@[simp] theorem putLanes_tx (v : LanesSt) (s : Device) : (putLanes v s).tx = s.tx := rfl
@[simp] theorem putLanes_rx (v : LanesSt) (s : Device) : (putLanes v s).rx = s.rx := rfl
@[simp] theorem putLanes_fec (v : LanesSt) (s : Device) : (putLanes v s).fec = s.fec := rfl
@[simp] theorem putLanes_pool (v : LanesSt) (s : Device) : (putLanes v s).pool = s.pool := rfl
@[simp] theorem putLanes_line (v : LanesSt) (s : Device) : (putLanes v s).line = s.line := rfl
@[simp] theorem putLanes_ohpFs (v : LanesSt) (s : Device) : (putLanes v s).ohpFs = s.ohpFs := rfl
@[simp] theorem putLanes_tribs (v : LanesSt) (s : Device) : (putLanes v s).tribs = s.tribs := rfl
@[simp] theorem putLanes_crypto (v : LanesSt) (s : Device) : (putLanes v s).crypto = s.crypto := rfl
@[simp] theorem putLanes_kme (v : LanesSt) (s : Device) : (putLanes v s).kme = s.kme := rfl
@[simp] theorem putLanes_ostc (v : LanesSt) (s : Device) : (putLanes v s).ostc = s.ostc := rfl
@[simp] theorem putLanes_timing (v : LanesSt) (s : Device) : (putLanes v s).timing = s.timing := rfl
@[simp] theorem putLanes_ttx (v : LanesSt) (s : Device) : (putLanes v s).ttx = s.ttx := rfl
@[simp] theorem putLanes_sense (v : LanesSt) (s : Device) : (putLanes v s).sense = s.sense := rfl
@[simp] theorem putLanes_ramp (v : LanesSt) (s : Device) : (putLanes v s).ramp = s.ramp := rfl
@[simp] theorem putLanes_mem (v : LanesSt) (s : Device) : (putLanes v s).mem = s.mem := rfl
@[simp] theorem putLanes_lanes (v : LanesSt) (s : Device) : (putLanes v s).lanes = v := rfl
@[simp] theorem putLanes_stack (v : LanesSt) (s : Device) : (putLanes v s).stack = s.stack := rfl
@[simp] theorem putLanes_clock (v : LanesSt) (s : Device) : (putLanes v s).clock = s.clock := rfl
@[simp] theorem putLanes_fault (v : LanesSt) (s : Device) : (putLanes v s).fault = s.fault := rfl
@[simp] theorem putLanes_boot (v : LanesSt) (s : Device) : (putLanes v s).boot = s.boot := rfl
@[simp] theorem putLanes_host (v : LanesSt) (s : Device) : (putLanes v s).host = s.host := rfl
@[simp] theorem putLanes_elec (v : LanesSt) (s : Device) : (putLanes v s).elec = s.elec := rfl
@[simp] theorem putLanes_settings (v : LanesSt) (s : Device) : (putLanes v s).settings = s.settings := rfl
@[simp] theorem putLanes_pendSet (v : LanesSt) (s : Device) : (putLanes v s).pendSet = s.pendSet := rfl
@[simp] theorem putLanes_evq (v : LanesSt) (s : Device) : (putLanes v s).evq = s.evq := rfl
@[simp] theorem putLanes_out (v : LanesSt) (s : Device) : (putLanes v s).out = s.out := rfl
@[simp] theorem putLanes_fresh (v : LanesSt) (s : Device) : (putLanes v s).fresh = s.fresh := rfl
@[simp] theorem putTribs_accord (v : TribsSt) (s : Device) : (putTribs v s).accord = s.accord := rfl
@[simp] theorem putTribs_engines (v : TribsSt) (s : Device) : (putTribs v s).engines = s.engines := rfl
@[simp] theorem putTribs_conv (v : TribsSt) (s : Device) : (putTribs v s).conv = s.conv := rfl
@[simp] theorem putTribs_tx (v : TribsSt) (s : Device) : (putTribs v s).tx = s.tx := rfl
@[simp] theorem putTribs_rx (v : TribsSt) (s : Device) : (putTribs v s).rx = s.rx := rfl
@[simp] theorem putTribs_fec (v : TribsSt) (s : Device) : (putTribs v s).fec = s.fec := rfl
@[simp] theorem putTribs_pool (v : TribsSt) (s : Device) : (putTribs v s).pool = s.pool := rfl
@[simp] theorem putTribs_line (v : TribsSt) (s : Device) : (putTribs v s).line = s.line := rfl
@[simp] theorem putTribs_ohpFs (v : TribsSt) (s : Device) : (putTribs v s).ohpFs = s.ohpFs := rfl
@[simp] theorem putTribs_tribs (v : TribsSt) (s : Device) : (putTribs v s).tribs = v := rfl
@[simp] theorem putTribs_crypto (v : TribsSt) (s : Device) : (putTribs v s).crypto = s.crypto := rfl
@[simp] theorem putTribs_kme (v : TribsSt) (s : Device) : (putTribs v s).kme = s.kme := rfl
@[simp] theorem putTribs_ostc (v : TribsSt) (s : Device) : (putTribs v s).ostc = s.ostc := rfl
@[simp] theorem putTribs_timing (v : TribsSt) (s : Device) : (putTribs v s).timing = s.timing := rfl
@[simp] theorem putTribs_ttx (v : TribsSt) (s : Device) : (putTribs v s).ttx = s.ttx := rfl
@[simp] theorem putTribs_sense (v : TribsSt) (s : Device) : (putTribs v s).sense = s.sense := rfl
@[simp] theorem putTribs_ramp (v : TribsSt) (s : Device) : (putTribs v s).ramp = s.ramp := rfl
@[simp] theorem putTribs_mem (v : TribsSt) (s : Device) : (putTribs v s).mem = s.mem := rfl
@[simp] theorem putTribs_lanes (v : TribsSt) (s : Device) : (putTribs v s).lanes = s.lanes := rfl
@[simp] theorem putTribs_stack (v : TribsSt) (s : Device) : (putTribs v s).stack = s.stack := rfl
@[simp] theorem putTribs_clock (v : TribsSt) (s : Device) : (putTribs v s).clock = s.clock := rfl
@[simp] theorem putTribs_fault (v : TribsSt) (s : Device) : (putTribs v s).fault = s.fault := rfl
@[simp] theorem putTribs_boot (v : TribsSt) (s : Device) : (putTribs v s).boot = s.boot := rfl
@[simp] theorem putTribs_host (v : TribsSt) (s : Device) : (putTribs v s).host = s.host := rfl
@[simp] theorem putTribs_elec (v : TribsSt) (s : Device) : (putTribs v s).elec = s.elec := rfl
@[simp] theorem putTribs_settings (v : TribsSt) (s : Device) : (putTribs v s).settings = s.settings := rfl
@[simp] theorem putTribs_pendSet (v : TribsSt) (s : Device) : (putTribs v s).pendSet = s.pendSet := rfl
@[simp] theorem putTribs_evq (v : TribsSt) (s : Device) : (putTribs v s).evq = s.evq := rfl
@[simp] theorem putTribs_out (v : TribsSt) (s : Device) : (putTribs v s).out = s.out := rfl
@[simp] theorem putTribs_fresh (v : TribsSt) (s : Device) : (putTribs v s).fresh = s.fresh := rfl
@[simp] theorem putEngines_accord (v : EnginesSt) (s : Device) : (putEngines v s).accord = s.accord := rfl
@[simp] theorem putEngines_engines (v : EnginesSt) (s : Device) : (putEngines v s).engines = v := rfl
@[simp] theorem putEngines_conv (v : EnginesSt) (s : Device) : (putEngines v s).conv = s.conv := rfl
@[simp] theorem putEngines_tx (v : EnginesSt) (s : Device) : (putEngines v s).tx = s.tx := rfl
@[simp] theorem putEngines_rx (v : EnginesSt) (s : Device) : (putEngines v s).rx = s.rx := rfl
@[simp] theorem putEngines_fec (v : EnginesSt) (s : Device) : (putEngines v s).fec = s.fec := rfl
@[simp] theorem putEngines_pool (v : EnginesSt) (s : Device) : (putEngines v s).pool = s.pool := rfl
@[simp] theorem putEngines_line (v : EnginesSt) (s : Device) : (putEngines v s).line = s.line := rfl
@[simp] theorem putEngines_ohpFs (v : EnginesSt) (s : Device) : (putEngines v s).ohpFs = s.ohpFs := rfl
@[simp] theorem putEngines_tribs (v : EnginesSt) (s : Device) : (putEngines v s).tribs = s.tribs := rfl
@[simp] theorem putEngines_crypto (v : EnginesSt) (s : Device) : (putEngines v s).crypto = s.crypto := rfl
@[simp] theorem putEngines_kme (v : EnginesSt) (s : Device) : (putEngines v s).kme = s.kme := rfl
@[simp] theorem putEngines_ostc (v : EnginesSt) (s : Device) : (putEngines v s).ostc = s.ostc := rfl
@[simp] theorem putEngines_timing (v : EnginesSt) (s : Device) : (putEngines v s).timing = s.timing := rfl
@[simp] theorem putEngines_ttx (v : EnginesSt) (s : Device) : (putEngines v s).ttx = s.ttx := rfl
@[simp] theorem putEngines_sense (v : EnginesSt) (s : Device) : (putEngines v s).sense = s.sense := rfl
@[simp] theorem putEngines_ramp (v : EnginesSt) (s : Device) : (putEngines v s).ramp = s.ramp := rfl
@[simp] theorem putEngines_mem (v : EnginesSt) (s : Device) : (putEngines v s).mem = s.mem := rfl
@[simp] theorem putEngines_lanes (v : EnginesSt) (s : Device) : (putEngines v s).lanes = s.lanes := rfl
@[simp] theorem putEngines_stack (v : EnginesSt) (s : Device) : (putEngines v s).stack = s.stack := rfl
@[simp] theorem putEngines_clock (v : EnginesSt) (s : Device) : (putEngines v s).clock = s.clock := rfl
@[simp] theorem putEngines_fault (v : EnginesSt) (s : Device) : (putEngines v s).fault = s.fault := rfl
@[simp] theorem putEngines_boot (v : EnginesSt) (s : Device) : (putEngines v s).boot = s.boot := rfl
@[simp] theorem putEngines_host (v : EnginesSt) (s : Device) : (putEngines v s).host = s.host := rfl
@[simp] theorem putEngines_elec (v : EnginesSt) (s : Device) : (putEngines v s).elec = s.elec := rfl
@[simp] theorem putEngines_settings (v : EnginesSt) (s : Device) : (putEngines v s).settings = s.settings := rfl
@[simp] theorem putEngines_pendSet (v : EnginesSt) (s : Device) : (putEngines v s).pendSet = s.pendSet := rfl
@[simp] theorem putEngines_evq (v : EnginesSt) (s : Device) : (putEngines v s).evq = s.evq := rfl
@[simp] theorem putEngines_out (v : EnginesSt) (s : Device) : (putEngines v s).out = s.out := rfl
@[simp] theorem putEngines_fresh (v : EnginesSt) (s : Device) : (putEngines v s).fresh = s.fresh := rfl
@[simp] theorem putTtx_accord (v : Two TtxSt) (s : Device) : (putTtx v s).accord = s.accord := rfl
@[simp] theorem putTtx_engines (v : Two TtxSt) (s : Device) : (putTtx v s).engines = s.engines := rfl
@[simp] theorem putTtx_conv (v : Two TtxSt) (s : Device) : (putTtx v s).conv = s.conv := rfl
@[simp] theorem putTtx_tx (v : Two TtxSt) (s : Device) : (putTtx v s).tx = s.tx := rfl
@[simp] theorem putTtx_rx (v : Two TtxSt) (s : Device) : (putTtx v s).rx = s.rx := rfl
@[simp] theorem putTtx_fec (v : Two TtxSt) (s : Device) : (putTtx v s).fec = s.fec := rfl
@[simp] theorem putTtx_pool (v : Two TtxSt) (s : Device) : (putTtx v s).pool = s.pool := rfl
@[simp] theorem putTtx_line (v : Two TtxSt) (s : Device) : (putTtx v s).line = s.line := rfl
@[simp] theorem putTtx_ohpFs (v : Two TtxSt) (s : Device) : (putTtx v s).ohpFs = s.ohpFs := rfl
@[simp] theorem putTtx_tribs (v : Two TtxSt) (s : Device) : (putTtx v s).tribs = s.tribs := rfl
@[simp] theorem putTtx_crypto (v : Two TtxSt) (s : Device) : (putTtx v s).crypto = s.crypto := rfl
@[simp] theorem putTtx_kme (v : Two TtxSt) (s : Device) : (putTtx v s).kme = s.kme := rfl
@[simp] theorem putTtx_ostc (v : Two TtxSt) (s : Device) : (putTtx v s).ostc = s.ostc := rfl
@[simp] theorem putTtx_timing (v : Two TtxSt) (s : Device) : (putTtx v s).timing = s.timing := rfl
@[simp] theorem putTtx_ttx (v : Two TtxSt) (s : Device) : (putTtx v s).ttx = v := rfl
@[simp] theorem putTtx_sense (v : Two TtxSt) (s : Device) : (putTtx v s).sense = s.sense := rfl
@[simp] theorem putTtx_ramp (v : Two TtxSt) (s : Device) : (putTtx v s).ramp = s.ramp := rfl
@[simp] theorem putTtx_mem (v : Two TtxSt) (s : Device) : (putTtx v s).mem = s.mem := rfl
@[simp] theorem putTtx_lanes (v : Two TtxSt) (s : Device) : (putTtx v s).lanes = s.lanes := rfl
@[simp] theorem putTtx_stack (v : Two TtxSt) (s : Device) : (putTtx v s).stack = s.stack := rfl
@[simp] theorem putTtx_clock (v : Two TtxSt) (s : Device) : (putTtx v s).clock = s.clock := rfl
@[simp] theorem putTtx_fault (v : Two TtxSt) (s : Device) : (putTtx v s).fault = s.fault := rfl
@[simp] theorem putTtx_boot (v : Two TtxSt) (s : Device) : (putTtx v s).boot = s.boot := rfl
@[simp] theorem putTtx_host (v : Two TtxSt) (s : Device) : (putTtx v s).host = s.host := rfl
@[simp] theorem putTtx_elec (v : Two TtxSt) (s : Device) : (putTtx v s).elec = s.elec := rfl
@[simp] theorem putTtx_settings (v : Two TtxSt) (s : Device) : (putTtx v s).settings = s.settings := rfl
@[simp] theorem putTtx_pendSet (v : Two TtxSt) (s : Device) : (putTtx v s).pendSet = s.pendSet := rfl
@[simp] theorem putTtx_evq (v : Two TtxSt) (s : Device) : (putTtx v s).evq = s.evq := rfl
@[simp] theorem putTtx_out (v : Two TtxSt) (s : Device) : (putTtx v s).out = s.out := rfl
@[simp] theorem putTtx_fresh (v : Two TtxSt) (s : Device) : (putTtx v s).fresh = s.fresh := rfl
@[simp] theorem putHost_accord (v : HostSt) (s : Device) : (putHost v s).accord = s.accord := rfl
@[simp] theorem putHost_engines (v : HostSt) (s : Device) : (putHost v s).engines = s.engines := rfl
@[simp] theorem putHost_conv (v : HostSt) (s : Device) : (putHost v s).conv = s.conv := rfl
@[simp] theorem putHost_tx (v : HostSt) (s : Device) : (putHost v s).tx = s.tx := rfl
@[simp] theorem putHost_rx (v : HostSt) (s : Device) : (putHost v s).rx = s.rx := rfl
@[simp] theorem putHost_fec (v : HostSt) (s : Device) : (putHost v s).fec = s.fec := rfl
@[simp] theorem putHost_pool (v : HostSt) (s : Device) : (putHost v s).pool = s.pool := rfl
@[simp] theorem putHost_line (v : HostSt) (s : Device) : (putHost v s).line = s.line := rfl
@[simp] theorem putHost_ohpFs (v : HostSt) (s : Device) : (putHost v s).ohpFs = s.ohpFs := rfl
@[simp] theorem putHost_tribs (v : HostSt) (s : Device) : (putHost v s).tribs = s.tribs := rfl
@[simp] theorem putHost_crypto (v : HostSt) (s : Device) : (putHost v s).crypto = s.crypto := rfl
@[simp] theorem putHost_kme (v : HostSt) (s : Device) : (putHost v s).kme = s.kme := rfl
@[simp] theorem putHost_ostc (v : HostSt) (s : Device) : (putHost v s).ostc = s.ostc := rfl
@[simp] theorem putHost_timing (v : HostSt) (s : Device) : (putHost v s).timing = s.timing := rfl
@[simp] theorem putHost_ttx (v : HostSt) (s : Device) : (putHost v s).ttx = s.ttx := rfl
@[simp] theorem putHost_sense (v : HostSt) (s : Device) : (putHost v s).sense = s.sense := rfl
@[simp] theorem putHost_ramp (v : HostSt) (s : Device) : (putHost v s).ramp = s.ramp := rfl
@[simp] theorem putHost_mem (v : HostSt) (s : Device) : (putHost v s).mem = s.mem := rfl
@[simp] theorem putHost_lanes (v : HostSt) (s : Device) : (putHost v s).lanes = s.lanes := rfl
@[simp] theorem putHost_stack (v : HostSt) (s : Device) : (putHost v s).stack = s.stack := rfl
@[simp] theorem putHost_clock (v : HostSt) (s : Device) : (putHost v s).clock = s.clock := rfl
@[simp] theorem putHost_fault (v : HostSt) (s : Device) : (putHost v s).fault = s.fault := rfl
@[simp] theorem putHost_boot (v : HostSt) (s : Device) : (putHost v s).boot = s.boot := rfl
@[simp] theorem putHost_host (v : HostSt) (s : Device) : (putHost v s).host = v := rfl
@[simp] theorem putHost_elec (v : HostSt) (s : Device) : (putHost v s).elec = s.elec := rfl
@[simp] theorem putHost_settings (v : HostSt) (s : Device) : (putHost v s).settings = s.settings := rfl
@[simp] theorem putHost_pendSet (v : HostSt) (s : Device) : (putHost v s).pendSet = s.pendSet := rfl
@[simp] theorem putHost_evq (v : HostSt) (s : Device) : (putHost v s).evq = s.evq := rfl
@[simp] theorem putHost_out (v : HostSt) (s : Device) : (putHost v s).out = s.out := rfl
@[simp] theorem putHost_fresh (v : HostSt) (s : Device) : (putHost v s).fresh = s.fresh := rfl

/-! ### An event raised, an output -/

@[simp] theorem raise_accord (ty src sev : Nat) (p : List Byte) (s : Device) : (raise ty src sev p s).accord = s.accord := rfl
@[simp] theorem raise_engines (ty src sev : Nat) (p : List Byte) (s : Device) : (raise ty src sev p s).engines = s.engines := rfl
@[simp] theorem raise_conv (ty src sev : Nat) (p : List Byte) (s : Device) : (raise ty src sev p s).conv = s.conv := rfl
@[simp] theorem raise_tx (ty src sev : Nat) (p : List Byte) (s : Device) : (raise ty src sev p s).tx = s.tx := rfl
@[simp] theorem raise_rx (ty src sev : Nat) (p : List Byte) (s : Device) : (raise ty src sev p s).rx = s.rx := rfl
@[simp] theorem raise_fec (ty src sev : Nat) (p : List Byte) (s : Device) : (raise ty src sev p s).fec = s.fec := rfl
@[simp] theorem raise_pool (ty src sev : Nat) (p : List Byte) (s : Device) : (raise ty src sev p s).pool = s.pool := rfl
@[simp] theorem raise_line (ty src sev : Nat) (p : List Byte) (s : Device) : (raise ty src sev p s).line = s.line := rfl
@[simp] theorem raise_ohpFs (ty src sev : Nat) (p : List Byte) (s : Device) : (raise ty src sev p s).ohpFs = s.ohpFs := rfl
@[simp] theorem raise_tribs (ty src sev : Nat) (p : List Byte) (s : Device) : (raise ty src sev p s).tribs = s.tribs := rfl
@[simp] theorem raise_crypto (ty src sev : Nat) (p : List Byte) (s : Device) : (raise ty src sev p s).crypto = s.crypto := rfl
@[simp] theorem raise_kme (ty src sev : Nat) (p : List Byte) (s : Device) : (raise ty src sev p s).kme = s.kme := rfl
@[simp] theorem raise_ostc (ty src sev : Nat) (p : List Byte) (s : Device) : (raise ty src sev p s).ostc = s.ostc := rfl
@[simp] theorem raise_timing (ty src sev : Nat) (p : List Byte) (s : Device) : (raise ty src sev p s).timing = s.timing := rfl
@[simp] theorem raise_ttx (ty src sev : Nat) (p : List Byte) (s : Device) : (raise ty src sev p s).ttx = s.ttx := rfl
@[simp] theorem raise_sense (ty src sev : Nat) (p : List Byte) (s : Device) : (raise ty src sev p s).sense = s.sense := rfl
@[simp] theorem raise_ramp (ty src sev : Nat) (p : List Byte) (s : Device) : (raise ty src sev p s).ramp = s.ramp := rfl
@[simp] theorem raise_mem (ty src sev : Nat) (p : List Byte) (s : Device) : (raise ty src sev p s).mem = s.mem := rfl
@[simp] theorem raise_lanes (ty src sev : Nat) (p : List Byte) (s : Device) : (raise ty src sev p s).lanes = s.lanes := rfl
@[simp] theorem raise_stack (ty src sev : Nat) (p : List Byte) (s : Device) : (raise ty src sev p s).stack = s.stack := rfl
@[simp] theorem raise_clock (ty src sev : Nat) (p : List Byte) (s : Device) : (raise ty src sev p s).clock = s.clock := rfl
@[simp] theorem raise_fault (ty src sev : Nat) (p : List Byte) (s : Device) : (raise ty src sev p s).fault = s.fault := rfl
@[simp] theorem raise_boot (ty src sev : Nat) (p : List Byte) (s : Device) : (raise ty src sev p s).boot = s.boot := rfl
@[simp] theorem raise_host (ty src sev : Nat) (p : List Byte) (s : Device) : (raise ty src sev p s).host = s.host := rfl
@[simp] theorem raise_elec (ty src sev : Nat) (p : List Byte) (s : Device) : (raise ty src sev p s).elec = s.elec := rfl
@[simp] theorem raise_settings (ty src sev : Nat) (p : List Byte) (s : Device) : (raise ty src sev p s).settings = s.settings := rfl
@[simp] theorem raise_pendSet (ty src sev : Nat) (p : List Byte) (s : Device) : (raise ty src sev p s).pendSet = s.pendSet := rfl
theorem raiseAt_evq (t : Time) (ty src sev : Nat) (p : List Byte) (s : Device) :
    (raiseAt t ty src sev p s).evq = s.evq ++ [⟨ty, src, sev, s.stack.stackId, t, fit 12 p⟩] := rfl
theorem raise_evq (ty src sev : Nat) (p : List Byte) (s : Device) :
    (raise ty src sev p s).evq = s.evq ++ [⟨ty, src, sev, s.stack.stackId, s.timing.now, fit 12 p⟩] := rfl
@[simp] theorem raise_out (ty src sev : Nat) (p : List Byte) (s : Device) : (raise ty src sev p s).out = s.out := rfl
@[simp] theorem raise_fresh (ty src sev : Nat) (p : List Byte) (s : Device) : (raise ty src sev p s).fresh = s.fresh := rfl
@[simp] theorem emit_accord (o : Output) (s : Device) : (emit o s).accord = s.accord := rfl
@[simp] theorem emit_engines (o : Output) (s : Device) : (emit o s).engines = s.engines := rfl
@[simp] theorem emit_conv (o : Output) (s : Device) : (emit o s).conv = s.conv := rfl
@[simp] theorem emit_tx (o : Output) (s : Device) : (emit o s).tx = s.tx := rfl
@[simp] theorem emit_rx (o : Output) (s : Device) : (emit o s).rx = s.rx := rfl
@[simp] theorem emit_fec (o : Output) (s : Device) : (emit o s).fec = s.fec := rfl
@[simp] theorem emit_pool (o : Output) (s : Device) : (emit o s).pool = s.pool := rfl
@[simp] theorem emit_line (o : Output) (s : Device) : (emit o s).line = s.line := rfl
@[simp] theorem emit_ohpFs (o : Output) (s : Device) : (emit o s).ohpFs = s.ohpFs := rfl
@[simp] theorem emit_tribs (o : Output) (s : Device) : (emit o s).tribs = s.tribs := rfl
@[simp] theorem emit_crypto (o : Output) (s : Device) : (emit o s).crypto = s.crypto := rfl
@[simp] theorem emit_kme (o : Output) (s : Device) : (emit o s).kme = s.kme := rfl
@[simp] theorem emit_ostc (o : Output) (s : Device) : (emit o s).ostc = s.ostc := rfl
@[simp] theorem emit_timing (o : Output) (s : Device) : (emit o s).timing = s.timing := rfl
@[simp] theorem emit_ttx (o : Output) (s : Device) : (emit o s).ttx = s.ttx := rfl
@[simp] theorem emit_sense (o : Output) (s : Device) : (emit o s).sense = s.sense := rfl
@[simp] theorem emit_ramp (o : Output) (s : Device) : (emit o s).ramp = s.ramp := rfl
@[simp] theorem emit_mem (o : Output) (s : Device) : (emit o s).mem = s.mem := rfl
@[simp] theorem emit_lanes (o : Output) (s : Device) : (emit o s).lanes = s.lanes := rfl
@[simp] theorem emit_stack (o : Output) (s : Device) : (emit o s).stack = s.stack := rfl
@[simp] theorem emit_clock (o : Output) (s : Device) : (emit o s).clock = s.clock := rfl
@[simp] theorem emit_fault (o : Output) (s : Device) : (emit o s).fault = s.fault := rfl
@[simp] theorem emit_boot (o : Output) (s : Device) : (emit o s).boot = s.boot := rfl
@[simp] theorem emit_host (o : Output) (s : Device) : (emit o s).host = s.host := rfl
@[simp] theorem emit_elec (o : Output) (s : Device) : (emit o s).elec = s.elec := rfl
@[simp] theorem emit_settings (o : Output) (s : Device) : (emit o s).settings = s.settings := rfl
@[simp] theorem emit_pendSet (o : Output) (s : Device) : (emit o s).pendSet = s.pendSet := rfl
@[simp] theorem emit_evq (o : Output) (s : Device) : (emit o s).evq = s.evq := rfl
@[simp] theorem emit_out (o : Output) (s : Device) : (emit o s).out = s.out ++ [o] := rfl
@[simp] theorem emit_fresh (o : Output) (s : Device) : (emit o s).fresh = s.fresh := rfl

/-! ### The pins that follow the state -/

/-- The level that pinLevel drives (19_fault_handling R757). -/
theorem drivePins_eq (s : Device) :
    drivePins s = { s with
      host := { s.host with irqLow := (s.host.irqStatus &&& s.host.irqEnable) ≠ 0 }
      fault := { s.fault with pinLow := (pinLevel s).fault.pinLow }
      elec := { s.elec with txon := ⟨s.tx.a.state ≠ .off, s.tx.b.state ≠ .off⟩ } } := by
  delta drivePins pinLevel irqLevel; exact rfl

@[simp] theorem drivePins_accord (s : Device) : (drivePins s).accord = s.accord := by rw [drivePins_eq]
@[simp] theorem drivePins_engines (s : Device) : (drivePins s).engines = s.engines := by rw [drivePins_eq]
@[simp] theorem drivePins_conv (s : Device) : (drivePins s).conv = s.conv := by rw [drivePins_eq]
@[simp] theorem drivePins_tx (s : Device) : (drivePins s).tx = s.tx := by rw [drivePins_eq]
@[simp] theorem drivePins_rx (s : Device) : (drivePins s).rx = s.rx := by rw [drivePins_eq]
@[simp] theorem drivePins_fec (s : Device) : (drivePins s).fec = s.fec := by rw [drivePins_eq]
@[simp] theorem drivePins_pool (s : Device) : (drivePins s).pool = s.pool := by rw [drivePins_eq]
@[simp] theorem drivePins_line (s : Device) : (drivePins s).line = s.line := by rw [drivePins_eq]
@[simp] theorem drivePins_ohpFs (s : Device) : (drivePins s).ohpFs = s.ohpFs := by rw [drivePins_eq]
@[simp] theorem drivePins_tribs (s : Device) : (drivePins s).tribs = s.tribs := by rw [drivePins_eq]
@[simp] theorem drivePins_crypto (s : Device) : (drivePins s).crypto = s.crypto := by rw [drivePins_eq]
@[simp] theorem drivePins_kme (s : Device) : (drivePins s).kme = s.kme := by rw [drivePins_eq]
@[simp] theorem drivePins_ostc (s : Device) : (drivePins s).ostc = s.ostc := by rw [drivePins_eq]
@[simp] theorem drivePins_timing (s : Device) : (drivePins s).timing = s.timing := by rw [drivePins_eq]
@[simp] theorem drivePins_ttx (s : Device) : (drivePins s).ttx = s.ttx := by rw [drivePins_eq]
@[simp] theorem drivePins_sense (s : Device) : (drivePins s).sense = s.sense := by rw [drivePins_eq]
@[simp] theorem drivePins_ramp (s : Device) : (drivePins s).ramp = s.ramp := by rw [drivePins_eq]
@[simp] theorem drivePins_mem (s : Device) : (drivePins s).mem = s.mem := by rw [drivePins_eq]
@[simp] theorem drivePins_lanes (s : Device) : (drivePins s).lanes = s.lanes := by rw [drivePins_eq]
@[simp] theorem drivePins_stack (s : Device) : (drivePins s).stack = s.stack := by rw [drivePins_eq]
@[simp] theorem drivePins_clock (s : Device) : (drivePins s).clock = s.clock := by rw [drivePins_eq]
@[simp] theorem drivePins_boot (s : Device) : (drivePins s).boot = s.boot := by rw [drivePins_eq]
@[simp] theorem drivePins_settings (s : Device) : (drivePins s).settings = s.settings := by rw [drivePins_eq]
@[simp] theorem drivePins_pendSet (s : Device) : (drivePins s).pendSet = s.pendSet := by rw [drivePins_eq]
@[simp] theorem drivePins_evq (s : Device) : (drivePins s).evq = s.evq := by rw [drivePins_eq]
@[simp] theorem drivePins_out (s : Device) : (drivePins s).out = s.out := by rw [drivePins_eq]
@[simp] theorem drivePins_fresh (s : Device) : (drivePins s).fresh = s.fresh := by rw [drivePins_eq]
@[simp] theorem drivePins_host_variant (s : Device) : (drivePins s).host.variant = s.host.variant := by rw [drivePins_eq]
@[simp] theorem drivePins_host_step (s : Device) : (drivePins s).host.step = s.host.step := by rw [drivePins_eq]
@[simp] theorem drivePins_host_vendor (s : Device) : (drivePins s).host.vendor = s.host.vendor := by rw [drivePins_eq]
@[simp] theorem drivePins_host_heartbeat (s : Device) : (drivePins s).host.heartbeat = s.host.heartbeat := by rw [drivePins_eq]
@[simp] theorem drivePins_host_scratch (s : Device) : (drivePins s).host.scratch = s.host.scratch := by rw [drivePins_eq]
@[simp] theorem drivePins_host_irqStatus (s : Device) : (drivePins s).host.irqStatus = s.host.irqStatus := by rw [drivePins_eq]
@[simp] theorem drivePins_host_irqEnable (s : Device) : (drivePins s).host.irqEnable = s.host.irqEnable := by rw [drivePins_eq]
@[simp] theorem drivePins_host_msixTable (s : Device) : (drivePins s).host.msixTable = s.host.msixTable := by rw [drivePins_eq]
@[simp] theorem drivePins_host_msixPend (s : Device) : (drivePins s).host.msixPend = s.host.msixPend := by rw [drivePins_eq]
@[simp] theorem drivePins_host_dbgPage (s : Device) : (drivePins s).host.dbgPage = s.host.dbgPage := by rw [drivePins_eq]
@[simp] theorem drivePins_host_dbgWrite (s : Device) : (drivePins s).host.dbgWrite = s.host.dbgWrite := by rw [drivePins_eq]
@[simp] theorem drivePins_host_dbgRegs (s : Device) : (drivePins s).host.dbgRegs = s.host.dbgRegs := by rw [drivePins_eq]
@[simp] theorem drivePins_host_bootBell (s : Device) : (drivePins s).host.bootBell = s.host.bootBell := by rw [drivePins_eq]
@[simp] theorem drivePins_host_bootBuf (s : Device) : (drivePins s).host.bootBuf = s.host.bootBuf := by rw [drivePins_eq]
@[simp] theorem drivePins_host_mbs (s : Device) : (drivePins s).host.mbs = s.host.mbs := by rw [drivePins_eq]
@[simp] theorem drivePins_host_fifo (s : Device) : (drivePins s).host.fifo = s.host.fifo := by rw [drivePins_eq]
@[simp] theorem drivePins_host_fifoMask (s : Device) : (drivePins s).host.fifoMask = s.host.fifoMask := by rw [drivePins_eq]
@[simp] theorem drivePins_host_fifoSev (s : Device) : (drivePins s).host.fifoSev = s.host.fifoSev := by rw [drivePins_eq]
@[simp] theorem drivePins_host_fifoDrop (s : Device) : (drivePins s).host.fifoDrop = s.host.fifoDrop := by rw [drivePins_eq]
@[simp] theorem drivePins_host_fifoLoss (s : Device) : (drivePins s).host.fifoLoss = s.host.fifoLoss := by rw [drivePins_eq]
@[simp] theorem drivePins_host_rings (s : Device) : (drivePins s).host.rings = s.host.rings := by rw [drivePins_eq]
@[simp] theorem drivePins_host_pendCmds (s : Device) : (drivePins s).host.pendCmds = s.host.pendCmds := by rw [drivePins_eq]
@[simp] theorem drivePins_host_cancelled (s : Device) : (drivePins s).host.cancelled = s.host.cancelled := by rw [drivePins_eq]
@[simp] theorem drivePins_host_transfers (s : Device) : (drivePins s).host.transfers = s.host.transfers := by rw [drivePins_eq]
@[simp] theorem drivePins_host_waiting (s : Device) : (drivePins s).host.waiting = s.host.waiting := by rw [drivePins_eq]
@[simp] theorem drivePins_host_uptime (s : Device) : (drivePins s).host.uptime = s.host.uptime := by rw [drivePins_eq]
@[simp] theorem drivePins_fault_sources (s : Device) : (drivePins s).fault.sources = s.fault.sources := by rw [drivePins_eq]
@[simp] theorem drivePins_fault_log (s : Device) : (drivePins s).fault.log = s.fault.log := by rw [drivePins_eq]
@[simp] theorem drivePins_fault_overwrite (s : Device) : (drivePins s).fault.overwrite = s.fault.overwrite := by rw [drivePins_eq]
@[simp] theorem drivePins_fault_mirror (s : Device) : (drivePins s).fault.mirror = s.fault.mirror := by rw [drivePins_eq]
@[simp] theorem drivePins_fault_first (s : Device) : (drivePins s).fault.first = s.fault.first := by rw [drivePins_eq]
@[simp] theorem drivePins_fault_startup (s : Device) : (drivePins s).fault.startup = s.fault.startup := by rw [drivePins_eq]
@[simp] theorem drivePins_fault_test (s : Device) : (drivePins s).fault.test = s.fault.test := by rw [drivePins_eq]
@[simp] theorem drivePins_fault_recoveryS (s : Device) : (drivePins s).fault.recoveryS = s.fault.recoveryS := by rw [drivePins_eq]
@[simp] theorem drivePins_fault_recovery (s : Device) : (drivePins s).fault.recovery = s.fault.recovery := by rw [drivePins_eq]
@[simp] theorem drivePins_fault_dueRaised (s : Device) : (drivePins s).fault.dueRaised = s.fault.dueRaised := by rw [drivePins_eq]
@[simp] theorem drivePins_fault_armed (s : Device) : (drivePins s).fault.armed = s.fault.armed := by rw [drivePins_eq]
@[simp] theorem drivePins_fault_toBlackBox (s : Device) : (drivePins s).fault.toBlackBox = s.fault.toBlackBox := by rw [drivePins_eq]
@[simp] theorem drivePins_elec_porReleased (s : Device) : (drivePins s).elec.porReleased = s.elec.porReleased := by rw [drivePins_eq]
@[simp] theorem drivePins_elec_vppOk (s : Device) : (drivePins s).elec.vppOk = s.elec.vppOk := by rw [drivePins_eq]
@[simp] theorem drivePins_elec_supplies (s : Device) : (drivePins s).elec.supplies = s.elec.supplies := by rw [drivePins_eq]
@[simp] theorem drivePins_elec_temps (s : Device) : (drivePins s).elec.temps = s.elec.temps := by rw [drivePins_eq]
@[simp] theorem drivePins_elec_hotRun (s : Device) : (drivePins s).elec.hotRun = s.elec.hotRun := by rw [drivePins_eq]
@[simp] theorem drivePins_elec_coolRun (s : Device) : (drivePins s).elec.coolRun = s.elec.coolRun := by rw [drivePins_eq]
@[simp] theorem drivePins_elec_avsTarget (s : Device) : (drivePins s).elec.avsTarget = s.elec.avsTarget := by rw [drivePins_eq]
@[simp] theorem drivePins_elec_avsSent (s : Device) : (drivePins s).elec.avsSent = s.elec.avsSent := by rw [drivePins_eq]
@[simp] theorem drivePins_elec_avsNak (s : Device) : (drivePins s).elec.avsNak = s.elec.avsNak := by rw [drivePins_eq]
@[simp] theorem drivePins_elec_avsOff (s : Device) : (drivePins s).elec.avsOff = s.elec.avsOff := by rw [drivePins_eq]

/-! ### The act of a command and the step -/

@[simp] theorem State.act_dev (f : Device → Device) (s : State) :
    (s.act f).dev = drivePins (f (putOut [] s.dev)) := rfl

@[simp] theorem State.act_pending (f : Device → Device) (s : State) : (s.act f).pending = s.pending := rfl

/-- Every step answers a next state: the queue idles when empty, and otherwise its front acts. -/
theorem step_front (c : Instr) (rest : List Instr) (s : State) (h : s.pending = c :: rest) :
    step s = exec c { s with pending := rest } := by
  simp [step, h]

theorem step_idle (s : State) (h : s.pending = []) : step s = .next s := by
  simp [step, h]

end Sys2Proof.Machine
end

