-- ==== Sys2Proof/Laws/Mailbox.lean ====
section
/-!
SUPPORT. The mailbox: what an interrupt bit, a response and the answer to a command change, once each; a command that
runs is its effect and then its answer; a command that is refused is its answer alone.
-/
namespace Sys2Proof.Machine
open Sys2Proof

/-! ### Interrupt bits -/

theorem sendMsix_form (v : Nat) (s : Device) :
    ∃ p o, sendMsix v s = { s with host := { s.host with msixPend := p }, out := o } := by
  unfold sendMsix
  split
  · exact ⟨_, s.out, rfl⟩
  · exact ⟨s.host.msixPend, _, rfl⟩

theorem setIrq_form (b : Nat) (s : Device) :
    ∃ p l o, setIrq b s = { s with
      host := { s.host with irqStatus := s.host.irqStatus ||| (1#32 <<< b), irqLow := l, msixPend := p }
      out := o } := by
  unfold setIrq
  dsimp only
  generalize hc : (!s.host.irqStatus.getLsbD b && _) = c
  cases c
  · exact ⟨s.host.msixPend, _, s.out, rfl⟩
  · obtain ⟨p, o, h⟩ := sendMsix_form (irqVector b)
      (irqLevel { s with host := { s.host with irqStatus := s.host.irqStatus ||| (1#32 <<< b) } })
    exact ⟨p, _, o, h⟩

/-- Setting a bit of `IRQ_STATUS` changes that register, what follows it, and the outputs. -/
theorem setIrq_eq (b : Nat) (s : Device) :
    setIrq b s = { s with
      host := { s.host with irqStatus := s.host.irqStatus ||| (1#32 <<< b), irqLow := (setIrq b s).host.irqLow,
                            msixPend := (setIrq b s).host.msixPend }
      out := (setIrq b s).out } := by
  obtain ⟨p, l, o, h⟩ := setIrq_form b s
  rw [h]

@[simp] theorem setIrq_accord (b : Nat) (s : Device) : (setIrq b s).accord = s.accord := by rw [setIrq_eq]
@[simp] theorem setIrq_engines (b : Nat) (s : Device) : (setIrq b s).engines = s.engines := by rw [setIrq_eq]
@[simp] theorem setIrq_conv (b : Nat) (s : Device) : (setIrq b s).conv = s.conv := by rw [setIrq_eq]
@[simp] theorem setIrq_tx (b : Nat) (s : Device) : (setIrq b s).tx = s.tx := by rw [setIrq_eq]
@[simp] theorem setIrq_rx (b : Nat) (s : Device) : (setIrq b s).rx = s.rx := by rw [setIrq_eq]
@[simp] theorem setIrq_fec (b : Nat) (s : Device) : (setIrq b s).fec = s.fec := by rw [setIrq_eq]
@[simp] theorem setIrq_pool (b : Nat) (s : Device) : (setIrq b s).pool = s.pool := by rw [setIrq_eq]
@[simp] theorem setIrq_line (b : Nat) (s : Device) : (setIrq b s).line = s.line := by rw [setIrq_eq]
@[simp] theorem setIrq_ohpFs (b : Nat) (s : Device) : (setIrq b s).ohpFs = s.ohpFs := by rw [setIrq_eq]
@[simp] theorem setIrq_tribs (b : Nat) (s : Device) : (setIrq b s).tribs = s.tribs := by rw [setIrq_eq]
@[simp] theorem setIrq_crypto (b : Nat) (s : Device) : (setIrq b s).crypto = s.crypto := by rw [setIrq_eq]
@[simp] theorem setIrq_kme (b : Nat) (s : Device) : (setIrq b s).kme = s.kme := by rw [setIrq_eq]
@[simp] theorem setIrq_ostc (b : Nat) (s : Device) : (setIrq b s).ostc = s.ostc := by rw [setIrq_eq]
@[simp] theorem setIrq_timing (b : Nat) (s : Device) : (setIrq b s).timing = s.timing := by rw [setIrq_eq]
@[simp] theorem setIrq_ttx (b : Nat) (s : Device) : (setIrq b s).ttx = s.ttx := by rw [setIrq_eq]
@[simp] theorem setIrq_sense (b : Nat) (s : Device) : (setIrq b s).sense = s.sense := by rw [setIrq_eq]
@[simp] theorem setIrq_ramp (b : Nat) (s : Device) : (setIrq b s).ramp = s.ramp := by rw [setIrq_eq]
@[simp] theorem setIrq_mem (b : Nat) (s : Device) : (setIrq b s).mem = s.mem := by rw [setIrq_eq]
@[simp] theorem setIrq_lanes (b : Nat) (s : Device) : (setIrq b s).lanes = s.lanes := by rw [setIrq_eq]
@[simp] theorem setIrq_stack (b : Nat) (s : Device) : (setIrq b s).stack = s.stack := by rw [setIrq_eq]
@[simp] theorem setIrq_clock (b : Nat) (s : Device) : (setIrq b s).clock = s.clock := by rw [setIrq_eq]
@[simp] theorem setIrq_fault (b : Nat) (s : Device) : (setIrq b s).fault = s.fault := by rw [setIrq_eq]
@[simp] theorem setIrq_boot (b : Nat) (s : Device) : (setIrq b s).boot = s.boot := by rw [setIrq_eq]
@[simp] theorem setIrq_elec (b : Nat) (s : Device) : (setIrq b s).elec = s.elec := by rw [setIrq_eq]
@[simp] theorem setIrq_settings (b : Nat) (s : Device) : (setIrq b s).settings = s.settings := by rw [setIrq_eq]
@[simp] theorem setIrq_pendSet (b : Nat) (s : Device) : (setIrq b s).pendSet = s.pendSet := by rw [setIrq_eq]
@[simp] theorem setIrq_evq (b : Nat) (s : Device) : (setIrq b s).evq = s.evq := by rw [setIrq_eq]
@[simp] theorem setIrq_fresh (b : Nat) (s : Device) : (setIrq b s).fresh = s.fresh := by rw [setIrq_eq]
@[simp] theorem setIrq_host_variant (b : Nat) (s : Device) : (setIrq b s).host.variant = s.host.variant := by rw [setIrq_eq]
@[simp] theorem setIrq_host_step (b : Nat) (s : Device) : (setIrq b s).host.step = s.host.step := by rw [setIrq_eq]
@[simp] theorem setIrq_host_vendor (b : Nat) (s : Device) : (setIrq b s).host.vendor = s.host.vendor := by rw [setIrq_eq]
@[simp] theorem setIrq_host_heartbeat (b : Nat) (s : Device) : (setIrq b s).host.heartbeat = s.host.heartbeat := by rw [setIrq_eq]
@[simp] theorem setIrq_host_scratch (b : Nat) (s : Device) : (setIrq b s).host.scratch = s.host.scratch := by rw [setIrq_eq]
@[simp] theorem setIrq_host_irqEnable (b : Nat) (s : Device) : (setIrq b s).host.irqEnable = s.host.irqEnable := by rw [setIrq_eq]
@[simp] theorem setIrq_host_msixTable (b : Nat) (s : Device) : (setIrq b s).host.msixTable = s.host.msixTable := by rw [setIrq_eq]
@[simp] theorem setIrq_host_dbgPage (b : Nat) (s : Device) : (setIrq b s).host.dbgPage = s.host.dbgPage := by rw [setIrq_eq]
@[simp] theorem setIrq_host_dbgWrite (b : Nat) (s : Device) : (setIrq b s).host.dbgWrite = s.host.dbgWrite := by rw [setIrq_eq]
@[simp] theorem setIrq_host_dbgRegs (b : Nat) (s : Device) : (setIrq b s).host.dbgRegs = s.host.dbgRegs := by rw [setIrq_eq]
@[simp] theorem setIrq_host_bootBell (b : Nat) (s : Device) : (setIrq b s).host.bootBell = s.host.bootBell := by rw [setIrq_eq]
@[simp] theorem setIrq_host_bootBuf (b : Nat) (s : Device) : (setIrq b s).host.bootBuf = s.host.bootBuf := by rw [setIrq_eq]
@[simp] theorem setIrq_host_mbs (b : Nat) (s : Device) : (setIrq b s).host.mbs = s.host.mbs := by rw [setIrq_eq]
@[simp] theorem setIrq_host_fifo (b : Nat) (s : Device) : (setIrq b s).host.fifo = s.host.fifo := by rw [setIrq_eq]
@[simp] theorem setIrq_host_fifoMask (b : Nat) (s : Device) : (setIrq b s).host.fifoMask = s.host.fifoMask := by rw [setIrq_eq]
@[simp] theorem setIrq_host_fifoSev (b : Nat) (s : Device) : (setIrq b s).host.fifoSev = s.host.fifoSev := by rw [setIrq_eq]
@[simp] theorem setIrq_host_fifoDrop (b : Nat) (s : Device) : (setIrq b s).host.fifoDrop = s.host.fifoDrop := by rw [setIrq_eq]
@[simp] theorem setIrq_host_fifoLoss (b : Nat) (s : Device) : (setIrq b s).host.fifoLoss = s.host.fifoLoss := by rw [setIrq_eq]
@[simp] theorem setIrq_host_rings (b : Nat) (s : Device) : (setIrq b s).host.rings = s.host.rings := by rw [setIrq_eq]
@[simp] theorem setIrq_host_pendCmds (b : Nat) (s : Device) : (setIrq b s).host.pendCmds = s.host.pendCmds := by rw [setIrq_eq]
@[simp] theorem setIrq_host_cancelled (b : Nat) (s : Device) : (setIrq b s).host.cancelled = s.host.cancelled := by rw [setIrq_eq]
@[simp] theorem setIrq_host_transfers (b : Nat) (s : Device) : (setIrq b s).host.transfers = s.host.transfers := by rw [setIrq_eq]
@[simp] theorem setIrq_host_waiting (b : Nat) (s : Device) : (setIrq b s).host.waiting = s.host.waiting := by rw [setIrq_eq]
@[simp] theorem setIrq_host_uptime (b : Nat) (s : Device) : (setIrq b s).host.uptime = s.host.uptime := by rw [setIrq_eq]
@[simp] theorem setIrq_host_irqStatus (b : Nat) (s : Device) :
    (setIrq b s).host.irqStatus = s.host.irqStatus ||| (1#32 <<< b) := by rw [setIrq_eq]

@[simp] theorem setIrq_bit (b : Nat) (s : Device) (h : b < 32) : (setIrq b s).host.irqStatus.getLsbD b = true := by
  simp [h]

/-! ### A mailbox changed -/

theorem mailbox_modMb (n m : Nat) (f : Mailbox → Mailbox) (s : Device) :
    mailbox (modMb n f s) m = if m = n then f (mailbox s n) else mailbox s m := by
  simp [mailbox, modMb, Tab.get_modify]

@[simp] theorem mailbox_modMb_self (n : Nat) (f : Mailbox → Mailbox) (s : Device) :
    mailbox (modMb n f s) n = f (mailbox s n) := by
  simp [mailbox_modMb]

@[simp] theorem mailbox_drivePins (n : Nat) (s : Device) : mailbox (drivePins s) n = mailbox s n := by
  simp [mailbox]

@[simp] theorem mailbox_setIrq (b n : Nat) (s : Device) : mailbox (setIrq b s) n = mailbox s n := by
  simp [mailbox]

@[simp] theorem modMb_accord (n : Nat) (f : Mailbox → Mailbox) (s : Device) : (modMb n f s).accord = s.accord := rfl
@[simp] theorem modMb_engines (n : Nat) (f : Mailbox → Mailbox) (s : Device) : (modMb n f s).engines = s.engines := rfl
@[simp] theorem modMb_conv (n : Nat) (f : Mailbox → Mailbox) (s : Device) : (modMb n f s).conv = s.conv := rfl
@[simp] theorem modMb_tx (n : Nat) (f : Mailbox → Mailbox) (s : Device) : (modMb n f s).tx = s.tx := rfl
@[simp] theorem modMb_rx (n : Nat) (f : Mailbox → Mailbox) (s : Device) : (modMb n f s).rx = s.rx := rfl
@[simp] theorem modMb_fec (n : Nat) (f : Mailbox → Mailbox) (s : Device) : (modMb n f s).fec = s.fec := rfl
@[simp] theorem modMb_pool (n : Nat) (f : Mailbox → Mailbox) (s : Device) : (modMb n f s).pool = s.pool := rfl
@[simp] theorem modMb_line (n : Nat) (f : Mailbox → Mailbox) (s : Device) : (modMb n f s).line = s.line := rfl
@[simp] theorem modMb_ohpFs (n : Nat) (f : Mailbox → Mailbox) (s : Device) : (modMb n f s).ohpFs = s.ohpFs := rfl
@[simp] theorem modMb_tribs (n : Nat) (f : Mailbox → Mailbox) (s : Device) : (modMb n f s).tribs = s.tribs := rfl
@[simp] theorem modMb_crypto (n : Nat) (f : Mailbox → Mailbox) (s : Device) : (modMb n f s).crypto = s.crypto := rfl
@[simp] theorem modMb_kme (n : Nat) (f : Mailbox → Mailbox) (s : Device) : (modMb n f s).kme = s.kme := rfl
@[simp] theorem modMb_ostc (n : Nat) (f : Mailbox → Mailbox) (s : Device) : (modMb n f s).ostc = s.ostc := rfl
@[simp] theorem modMb_timing (n : Nat) (f : Mailbox → Mailbox) (s : Device) : (modMb n f s).timing = s.timing := rfl
@[simp] theorem modMb_ttx (n : Nat) (f : Mailbox → Mailbox) (s : Device) : (modMb n f s).ttx = s.ttx := rfl
@[simp] theorem modMb_sense (n : Nat) (f : Mailbox → Mailbox) (s : Device) : (modMb n f s).sense = s.sense := rfl
@[simp] theorem modMb_ramp (n : Nat) (f : Mailbox → Mailbox) (s : Device) : (modMb n f s).ramp = s.ramp := rfl
@[simp] theorem modMb_mem (n : Nat) (f : Mailbox → Mailbox) (s : Device) : (modMb n f s).mem = s.mem := rfl
@[simp] theorem modMb_lanes (n : Nat) (f : Mailbox → Mailbox) (s : Device) : (modMb n f s).lanes = s.lanes := rfl
@[simp] theorem modMb_stack (n : Nat) (f : Mailbox → Mailbox) (s : Device) : (modMb n f s).stack = s.stack := rfl
@[simp] theorem modMb_clock (n : Nat) (f : Mailbox → Mailbox) (s : Device) : (modMb n f s).clock = s.clock := rfl
@[simp] theorem modMb_fault (n : Nat) (f : Mailbox → Mailbox) (s : Device) : (modMb n f s).fault = s.fault := rfl
@[simp] theorem modMb_boot (n : Nat) (f : Mailbox → Mailbox) (s : Device) : (modMb n f s).boot = s.boot := rfl
@[simp] theorem modMb_elec (n : Nat) (f : Mailbox → Mailbox) (s : Device) : (modMb n f s).elec = s.elec := rfl
@[simp] theorem modMb_settings (n : Nat) (f : Mailbox → Mailbox) (s : Device) : (modMb n f s).settings = s.settings := rfl
@[simp] theorem modMb_pendSet (n : Nat) (f : Mailbox → Mailbox) (s : Device) : (modMb n f s).pendSet = s.pendSet := rfl
@[simp] theorem modMb_evq (n : Nat) (f : Mailbox → Mailbox) (s : Device) : (modMb n f s).evq = s.evq := rfl
@[simp] theorem modMb_out (n : Nat) (f : Mailbox → Mailbox) (s : Device) : (modMb n f s).out = s.out := rfl
@[simp] theorem modMb_fresh (n : Nat) (f : Mailbox → Mailbox) (s : Device) : (modMb n f s).fresh = s.fresh := rfl
@[simp] theorem modMb_host_variant (n : Nat) (f : Mailbox → Mailbox) (s : Device) : (modMb n f s).host.variant = s.host.variant := rfl
@[simp] theorem modMb_host_step (n : Nat) (f : Mailbox → Mailbox) (s : Device) : (modMb n f s).host.step = s.host.step := rfl
@[simp] theorem modMb_host_vendor (n : Nat) (f : Mailbox → Mailbox) (s : Device) : (modMb n f s).host.vendor = s.host.vendor := rfl
@[simp] theorem modMb_host_heartbeat (n : Nat) (f : Mailbox → Mailbox) (s : Device) : (modMb n f s).host.heartbeat = s.host.heartbeat := rfl
@[simp] theorem modMb_host_scratch (n : Nat) (f : Mailbox → Mailbox) (s : Device) : (modMb n f s).host.scratch = s.host.scratch := rfl
@[simp] theorem modMb_host_irqStatus (n : Nat) (f : Mailbox → Mailbox) (s : Device) : (modMb n f s).host.irqStatus = s.host.irqStatus := rfl
@[simp] theorem modMb_host_irqEnable (n : Nat) (f : Mailbox → Mailbox) (s : Device) : (modMb n f s).host.irqEnable = s.host.irqEnable := rfl
@[simp] theorem modMb_host_msixTable (n : Nat) (f : Mailbox → Mailbox) (s : Device) : (modMb n f s).host.msixTable = s.host.msixTable := rfl
@[simp] theorem modMb_host_msixPend (n : Nat) (f : Mailbox → Mailbox) (s : Device) : (modMb n f s).host.msixPend = s.host.msixPend := rfl
@[simp] theorem modMb_host_irqLow (n : Nat) (f : Mailbox → Mailbox) (s : Device) : (modMb n f s).host.irqLow = s.host.irqLow := rfl
@[simp] theorem modMb_host_dbgPage (n : Nat) (f : Mailbox → Mailbox) (s : Device) : (modMb n f s).host.dbgPage = s.host.dbgPage := rfl
@[simp] theorem modMb_host_dbgWrite (n : Nat) (f : Mailbox → Mailbox) (s : Device) : (modMb n f s).host.dbgWrite = s.host.dbgWrite := rfl
@[simp] theorem modMb_host_dbgRegs (n : Nat) (f : Mailbox → Mailbox) (s : Device) : (modMb n f s).host.dbgRegs = s.host.dbgRegs := rfl
@[simp] theorem modMb_host_bootBell (n : Nat) (f : Mailbox → Mailbox) (s : Device) : (modMb n f s).host.bootBell = s.host.bootBell := rfl
@[simp] theorem modMb_host_bootBuf (n : Nat) (f : Mailbox → Mailbox) (s : Device) : (modMb n f s).host.bootBuf = s.host.bootBuf := rfl
@[simp] theorem modMb_host_fifo (n : Nat) (f : Mailbox → Mailbox) (s : Device) : (modMb n f s).host.fifo = s.host.fifo := rfl
@[simp] theorem modMb_host_fifoMask (n : Nat) (f : Mailbox → Mailbox) (s : Device) : (modMb n f s).host.fifoMask = s.host.fifoMask := rfl
@[simp] theorem modMb_host_fifoSev (n : Nat) (f : Mailbox → Mailbox) (s : Device) : (modMb n f s).host.fifoSev = s.host.fifoSev := rfl
@[simp] theorem modMb_host_fifoDrop (n : Nat) (f : Mailbox → Mailbox) (s : Device) : (modMb n f s).host.fifoDrop = s.host.fifoDrop := rfl
@[simp] theorem modMb_host_fifoLoss (n : Nat) (f : Mailbox → Mailbox) (s : Device) : (modMb n f s).host.fifoLoss = s.host.fifoLoss := rfl
@[simp] theorem modMb_host_rings (n : Nat) (f : Mailbox → Mailbox) (s : Device) : (modMb n f s).host.rings = s.host.rings := rfl
@[simp] theorem modMb_host_pendCmds (n : Nat) (f : Mailbox → Mailbox) (s : Device) : (modMb n f s).host.pendCmds = s.host.pendCmds := rfl
@[simp] theorem modMb_host_cancelled (n : Nat) (f : Mailbox → Mailbox) (s : Device) : (modMb n f s).host.cancelled = s.host.cancelled := rfl
@[simp] theorem modMb_host_transfers (n : Nat) (f : Mailbox → Mailbox) (s : Device) : (modMb n f s).host.transfers = s.host.transfers := rfl
@[simp] theorem modMb_host_waiting (n : Nat) (f : Mailbox → Mailbox) (s : Device) : (modMb n f s).host.waiting = s.host.waiting := rfl
@[simp] theorem modMb_host_uptime (n : Nat) (f : Mailbox → Mailbox) (s : Device) : (modMb n f s).host.uptime = s.host.uptime := rfl

/-! ### Responses -/

theorem respond_eq (n seq st : Nat) (bytes : List Byte) (s : Device) (h : n < 4) :
    respond n seq st bytes s = setIrq n (modMb n (fun m =>
      { m with resp := bytes, lastSeq := seq, lastStatus := st, busy := false, respReady := true }) s) := by
  simp [respond, h]

theorem answer_eq (op : Nat) (r : Req) (q : Resp) (s : Device) (h : r.mb.val < 4) :
    answer op r q s = setIrq r.mb.val (modMb r.mb.val (fun m =>
      { m with resp := respBytes op r q false, lastSeq := r.seq.toNat, lastStatus := q.status.code, busy := false,
               respReady := true }) s) := by
  simp [answer, h, respond_eq]

/-- The answer to a command stands in its mailbox. -/
theorem answered_answer (op : Nat) (r : Req) (q : Resp) (s : Device) (h : r.mb.val < 4) :
    Answered op r q (drivePins (answer op r q s)) := by
  have hb : r.mb.val < 32 := by omega
  rw [answer_eq op r q s h]
  refine ⟨?_, ?_, ?_, ?_, ?_, ?_⟩ <;> simp [hb]

theorem answer_accord (op : Nat) (r : Req) (q : Resp) (s : Device) (h : r.mb.val < 4) :
    (answer op r q s).accord = s.accord := by rw [answer_eq op r q s h]; simp
theorem answer_engines (op : Nat) (r : Req) (q : Resp) (s : Device) (h : r.mb.val < 4) :
    (answer op r q s).engines = s.engines := by rw [answer_eq op r q s h]; simp
theorem answer_conv (op : Nat) (r : Req) (q : Resp) (s : Device) (h : r.mb.val < 4) :
    (answer op r q s).conv = s.conv := by rw [answer_eq op r q s h]; simp
theorem answer_tx (op : Nat) (r : Req) (q : Resp) (s : Device) (h : r.mb.val < 4) :
    (answer op r q s).tx = s.tx := by rw [answer_eq op r q s h]; simp
theorem answer_rx (op : Nat) (r : Req) (q : Resp) (s : Device) (h : r.mb.val < 4) :
    (answer op r q s).rx = s.rx := by rw [answer_eq op r q s h]; simp
theorem answer_fec (op : Nat) (r : Req) (q : Resp) (s : Device) (h : r.mb.val < 4) :
    (answer op r q s).fec = s.fec := by rw [answer_eq op r q s h]; simp
theorem answer_pool (op : Nat) (r : Req) (q : Resp) (s : Device) (h : r.mb.val < 4) :
    (answer op r q s).pool = s.pool := by rw [answer_eq op r q s h]; simp
theorem answer_line (op : Nat) (r : Req) (q : Resp) (s : Device) (h : r.mb.val < 4) :
    (answer op r q s).line = s.line := by rw [answer_eq op r q s h]; simp
theorem answer_ohpFs (op : Nat) (r : Req) (q : Resp) (s : Device) (h : r.mb.val < 4) :
    (answer op r q s).ohpFs = s.ohpFs := by rw [answer_eq op r q s h]; simp
theorem answer_tribs (op : Nat) (r : Req) (q : Resp) (s : Device) (h : r.mb.val < 4) :
    (answer op r q s).tribs = s.tribs := by rw [answer_eq op r q s h]; simp
theorem answer_crypto (op : Nat) (r : Req) (q : Resp) (s : Device) (h : r.mb.val < 4) :
    (answer op r q s).crypto = s.crypto := by rw [answer_eq op r q s h]; simp
theorem answer_kme (op : Nat) (r : Req) (q : Resp) (s : Device) (h : r.mb.val < 4) :
    (answer op r q s).kme = s.kme := by rw [answer_eq op r q s h]; simp
theorem answer_ostc (op : Nat) (r : Req) (q : Resp) (s : Device) (h : r.mb.val < 4) :
    (answer op r q s).ostc = s.ostc := by rw [answer_eq op r q s h]; simp
theorem answer_timing (op : Nat) (r : Req) (q : Resp) (s : Device) (h : r.mb.val < 4) :
    (answer op r q s).timing = s.timing := by rw [answer_eq op r q s h]; simp
theorem answer_ttx (op : Nat) (r : Req) (q : Resp) (s : Device) (h : r.mb.val < 4) :
    (answer op r q s).ttx = s.ttx := by rw [answer_eq op r q s h]; simp
theorem answer_sense (op : Nat) (r : Req) (q : Resp) (s : Device) (h : r.mb.val < 4) :
    (answer op r q s).sense = s.sense := by rw [answer_eq op r q s h]; simp
theorem answer_ramp (op : Nat) (r : Req) (q : Resp) (s : Device) (h : r.mb.val < 4) :
    (answer op r q s).ramp = s.ramp := by rw [answer_eq op r q s h]; simp
theorem answer_mem (op : Nat) (r : Req) (q : Resp) (s : Device) (h : r.mb.val < 4) :
    (answer op r q s).mem = s.mem := by rw [answer_eq op r q s h]; simp
theorem answer_lanes (op : Nat) (r : Req) (q : Resp) (s : Device) (h : r.mb.val < 4) :
    (answer op r q s).lanes = s.lanes := by rw [answer_eq op r q s h]; simp
theorem answer_stack (op : Nat) (r : Req) (q : Resp) (s : Device) (h : r.mb.val < 4) :
    (answer op r q s).stack = s.stack := by rw [answer_eq op r q s h]; simp
theorem answer_clock (op : Nat) (r : Req) (q : Resp) (s : Device) (h : r.mb.val < 4) :
    (answer op r q s).clock = s.clock := by rw [answer_eq op r q s h]; simp
theorem answer_fault (op : Nat) (r : Req) (q : Resp) (s : Device) (h : r.mb.val < 4) :
    (answer op r q s).fault = s.fault := by rw [answer_eq op r q s h]; simp
theorem answer_boot (op : Nat) (r : Req) (q : Resp) (s : Device) (h : r.mb.val < 4) :
    (answer op r q s).boot = s.boot := by rw [answer_eq op r q s h]; simp
theorem answer_elec (op : Nat) (r : Req) (q : Resp) (s : Device) (h : r.mb.val < 4) :
    (answer op r q s).elec = s.elec := by rw [answer_eq op r q s h]; simp
theorem answer_settings (op : Nat) (r : Req) (q : Resp) (s : Device) (h : r.mb.val < 4) :
    (answer op r q s).settings = s.settings := by rw [answer_eq op r q s h]; simp
theorem answer_pendSet (op : Nat) (r : Req) (q : Resp) (s : Device) (h : r.mb.val < 4) :
    (answer op r q s).pendSet = s.pendSet := by rw [answer_eq op r q s h]; simp
theorem answer_evq (op : Nat) (r : Req) (q : Resp) (s : Device) (h : r.mb.val < 4) :
    (answer op r q s).evq = s.evq := by rw [answer_eq op r q s h]; simp
theorem answer_fresh (op : Nat) (r : Req) (q : Resp) (s : Device) (h : r.mb.val < 4) :
    (answer op r q s).fresh = s.fresh := by rw [answer_eq op r q s h]; simp
theorem answer_host_variant (op : Nat) (r : Req) (q : Resp) (s : Device) (h : r.mb.val < 4) :
    (answer op r q s).host.variant = s.host.variant := by rw [answer_eq op r q s h]; simp
theorem answer_host_step (op : Nat) (r : Req) (q : Resp) (s : Device) (h : r.mb.val < 4) :
    (answer op r q s).host.step = s.host.step := by rw [answer_eq op r q s h]; simp
theorem answer_host_vendor (op : Nat) (r : Req) (q : Resp) (s : Device) (h : r.mb.val < 4) :
    (answer op r q s).host.vendor = s.host.vendor := by rw [answer_eq op r q s h]; simp
theorem answer_host_heartbeat (op : Nat) (r : Req) (q : Resp) (s : Device) (h : r.mb.val < 4) :
    (answer op r q s).host.heartbeat = s.host.heartbeat := by rw [answer_eq op r q s h]; simp
theorem answer_host_scratch (op : Nat) (r : Req) (q : Resp) (s : Device) (h : r.mb.val < 4) :
    (answer op r q s).host.scratch = s.host.scratch := by rw [answer_eq op r q s h]; simp
theorem answer_host_irqEnable (op : Nat) (r : Req) (q : Resp) (s : Device) (h : r.mb.val < 4) :
    (answer op r q s).host.irqEnable = s.host.irqEnable := by rw [answer_eq op r q s h]; simp
theorem answer_host_msixTable (op : Nat) (r : Req) (q : Resp) (s : Device) (h : r.mb.val < 4) :
    (answer op r q s).host.msixTable = s.host.msixTable := by rw [answer_eq op r q s h]; simp
theorem answer_host_dbgPage (op : Nat) (r : Req) (q : Resp) (s : Device) (h : r.mb.val < 4) :
    (answer op r q s).host.dbgPage = s.host.dbgPage := by rw [answer_eq op r q s h]; simp
theorem answer_host_dbgWrite (op : Nat) (r : Req) (q : Resp) (s : Device) (h : r.mb.val < 4) :
    (answer op r q s).host.dbgWrite = s.host.dbgWrite := by rw [answer_eq op r q s h]; simp
theorem answer_host_dbgRegs (op : Nat) (r : Req) (q : Resp) (s : Device) (h : r.mb.val < 4) :
    (answer op r q s).host.dbgRegs = s.host.dbgRegs := by rw [answer_eq op r q s h]; simp
theorem answer_host_bootBell (op : Nat) (r : Req) (q : Resp) (s : Device) (h : r.mb.val < 4) :
    (answer op r q s).host.bootBell = s.host.bootBell := by rw [answer_eq op r q s h]; simp
theorem answer_host_bootBuf (op : Nat) (r : Req) (q : Resp) (s : Device) (h : r.mb.val < 4) :
    (answer op r q s).host.bootBuf = s.host.bootBuf := by rw [answer_eq op r q s h]; simp
theorem answer_host_fifo (op : Nat) (r : Req) (q : Resp) (s : Device) (h : r.mb.val < 4) :
    (answer op r q s).host.fifo = s.host.fifo := by rw [answer_eq op r q s h]; simp
theorem answer_host_fifoMask (op : Nat) (r : Req) (q : Resp) (s : Device) (h : r.mb.val < 4) :
    (answer op r q s).host.fifoMask = s.host.fifoMask := by rw [answer_eq op r q s h]; simp
theorem answer_host_fifoSev (op : Nat) (r : Req) (q : Resp) (s : Device) (h : r.mb.val < 4) :
    (answer op r q s).host.fifoSev = s.host.fifoSev := by rw [answer_eq op r q s h]; simp
theorem answer_host_fifoDrop (op : Nat) (r : Req) (q : Resp) (s : Device) (h : r.mb.val < 4) :
    (answer op r q s).host.fifoDrop = s.host.fifoDrop := by rw [answer_eq op r q s h]; simp
theorem answer_host_fifoLoss (op : Nat) (r : Req) (q : Resp) (s : Device) (h : r.mb.val < 4) :
    (answer op r q s).host.fifoLoss = s.host.fifoLoss := by rw [answer_eq op r q s h]; simp
theorem answer_host_rings (op : Nat) (r : Req) (q : Resp) (s : Device) (h : r.mb.val < 4) :
    (answer op r q s).host.rings = s.host.rings := by rw [answer_eq op r q s h]; simp
theorem answer_host_pendCmds (op : Nat) (r : Req) (q : Resp) (s : Device) (h : r.mb.val < 4) :
    (answer op r q s).host.pendCmds = s.host.pendCmds := by rw [answer_eq op r q s h]; simp
theorem answer_host_cancelled (op : Nat) (r : Req) (q : Resp) (s : Device) (h : r.mb.val < 4) :
    (answer op r q s).host.cancelled = s.host.cancelled := by rw [answer_eq op r q s h]; simp
theorem answer_host_transfers (op : Nat) (r : Req) (q : Resp) (s : Device) (h : r.mb.val < 4) :
    (answer op r q s).host.transfers = s.host.transfers := by rw [answer_eq op r q s h]; simp
theorem answer_host_waiting (op : Nat) (r : Req) (q : Resp) (s : Device) (h : r.mb.val < 4) :
    (answer op r q s).host.waiting = s.host.waiting := by rw [answer_eq op r q s h]; simp
theorem answer_host_uptime (op : Nat) (r : Req) (q : Resp) (s : Device) (h : r.mb.val < 4) :
    (answer op r q s).host.uptime = s.host.uptime := by rw [answer_eq op r q s h]; simp

/-- An answer changes nothing but its mailbox and the interrupt bits. -/
theorem onlyMailbox_answer (op : Nat) (r : Req) (q : Resp) (s : Device) (h : r.mb.val < 4) :
    OnlyMailbox r.mb.val s (drivePins (answer op r q (arrive op r s))) := by
  refine ⟨?_, ?_⟩
  · rw [answer_eq op r q _ h, setIrq_eq]
    simp only [drivePins_eq, arrive, modMb, modHost, putOut]
  · intro m hm
    rw [answer_eq op r q _ h]
    simp [mailbox_modMb, hm, arrive]
    rfl

/-! ### Commands that run, commands that are refused -/

/-- A command that is taken and no read-back, and that waits for nothing, is its effect and then its answer. -/
theorem mailboxRun_runs (op : Nat) (c : Cmd) (r : Req) (s : Device) (h : runs op c r s = true) :
    mailboxRun op c r (putOut [] s) = answer op r (c.act r (arrive op r s)).1
      (if (c.act r (arrive op r s)).1.status = .pending then addPending op r (c.act r (arrive op r s)).2
       else (c.act r (arrive op r s)).2) := by
  simp only [runs, takes, Bool.and_eq_true, Bool.not_eq_true', decide_eq_true_eq, Option.isNone_iff_eq_none] at h
  obtain ⟨⟨⟨⟨⟨⟨⟨h1, h2⟩, h3⟩, h4⟩, h5⟩, h6⟩, h7⟩, h8⟩ := h
  have hb : (mailbox (putOut [] s) r.mb.val).busy = false := h3
  have h14 : decide (4 ≤ r.mb.val) = false := by simp; omega
  have e : modMb r.mb.val (fun m => { m with req := memWrite m.req 0 (reqBytes op r), respReady := false })
      (putOut [] s) = arrive op r s := rfl
  simp only [mailboxRun, h14, h2, hb, e, h4, h5, runLocal, runCmd, h6, h7, h8, Bool.not_true, Bool.not_false, Bool.or_self,
    Bool.false_eq_true, if_false, Option.isNone_none, Bool.and_self, Bool.and_false]

/-- A command that is taken and refused answers its refusal and does nothing else. -/
theorem mailboxRun_refused (op : Nat) (c : Cmd) (r : Req) (s : Device) (q : Resp) (h : takes op r s = true)
    (hq : refusal op c r false (arrive op r s) = some q) :
    mailboxRun op c r (putOut [] s) = answer op r q (arrive op r s) := by
  simp only [takes, Bool.and_eq_true, Bool.not_eq_true', decide_eq_true_eq] at h
  obtain ⟨⟨⟨⟨h1, h2⟩, h3⟩, h4⟩, h5⟩ := h
  have hb : (mailbox (putOut [] s) r.mb.val).busy = false := h3
  have h14 : decide (4 ≤ r.mb.val) = false := by simp; omega
  have e : modMb r.mb.val (fun m => { m with req := memWrite m.req 0 (reqBytes op r), respReady := false })
      (putOut [] s) = arrive op r s := rfl
  simp only [mailboxRun, h14, h2, hb, e, h4, h5, runLocal, runCmd, hq, Bool.not_true, Bool.or_self,
    Bool.false_eq_true, if_false, Option.isNone_some, Bool.false_and]

theorem runs_mb (op : Nat) (c : Cmd) (r : Req) (s : Device) (h : runs op c r s = true) : r.mb.val < 4 := by
  simp only [runs, takes, Bool.and_eq_true, decide_eq_true_eq] at h
  exact h.1.1.1.1.1.1.1

theorem takes_mb (op : Nat) (r : Req) (s : Device) (h : takes op r s = true) : r.mb.val < 4 := by
  simp only [takes, Bool.and_eq_true, decide_eq_true_eq] at h
  exact h.1.1.1.1

/-- What a request that arrives leaves of every part. -/
@[simp] theorem arrive_out (op : Nat) (r : Req) (s : Device) : (arrive op r s).out = [] := by rw [arrive, modMb_out, putOut_out]

@[simp] theorem arrive_accord (op : Nat) (r : Req) (s : Device) : (arrive op r s).accord = s.accord := by rw [arrive, modMb_accord, putOut_accord]
@[simp] theorem arrive_engines (op : Nat) (r : Req) (s : Device) : (arrive op r s).engines = s.engines := by rw [arrive, modMb_engines, putOut_engines]
@[simp] theorem arrive_conv (op : Nat) (r : Req) (s : Device) : (arrive op r s).conv = s.conv := by rw [arrive, modMb_conv, putOut_conv]
@[simp] theorem arrive_tx (op : Nat) (r : Req) (s : Device) : (arrive op r s).tx = s.tx := by rw [arrive, modMb_tx, putOut_tx]
@[simp] theorem arrive_rx (op : Nat) (r : Req) (s : Device) : (arrive op r s).rx = s.rx := by rw [arrive, modMb_rx, putOut_rx]
@[simp] theorem arrive_fec (op : Nat) (r : Req) (s : Device) : (arrive op r s).fec = s.fec := by rw [arrive, modMb_fec, putOut_fec]
@[simp] theorem arrive_pool (op : Nat) (r : Req) (s : Device) : (arrive op r s).pool = s.pool := by rw [arrive, modMb_pool, putOut_pool]
@[simp] theorem arrive_line (op : Nat) (r : Req) (s : Device) : (arrive op r s).line = s.line := by rw [arrive, modMb_line, putOut_line]
@[simp] theorem arrive_ohpFs (op : Nat) (r : Req) (s : Device) : (arrive op r s).ohpFs = s.ohpFs := by rw [arrive, modMb_ohpFs, putOut_ohpFs]
@[simp] theorem arrive_tribs (op : Nat) (r : Req) (s : Device) : (arrive op r s).tribs = s.tribs := by rw [arrive, modMb_tribs, putOut_tribs]
@[simp] theorem arrive_crypto (op : Nat) (r : Req) (s : Device) : (arrive op r s).crypto = s.crypto := by rw [arrive, modMb_crypto, putOut_crypto]
@[simp] theorem arrive_kme (op : Nat) (r : Req) (s : Device) : (arrive op r s).kme = s.kme := by rw [arrive, modMb_kme, putOut_kme]
@[simp] theorem arrive_ostc (op : Nat) (r : Req) (s : Device) : (arrive op r s).ostc = s.ostc := by rw [arrive, modMb_ostc, putOut_ostc]
@[simp] theorem arrive_timing (op : Nat) (r : Req) (s : Device) : (arrive op r s).timing = s.timing := by rw [arrive, modMb_timing, putOut_timing]
@[simp] theorem arrive_ttx (op : Nat) (r : Req) (s : Device) : (arrive op r s).ttx = s.ttx := by rw [arrive, modMb_ttx, putOut_ttx]
@[simp] theorem arrive_sense (op : Nat) (r : Req) (s : Device) : (arrive op r s).sense = s.sense := by rw [arrive, modMb_sense, putOut_sense]
@[simp] theorem arrive_ramp (op : Nat) (r : Req) (s : Device) : (arrive op r s).ramp = s.ramp := by rw [arrive, modMb_ramp, putOut_ramp]
@[simp] theorem arrive_mem (op : Nat) (r : Req) (s : Device) : (arrive op r s).mem = s.mem := by rw [arrive, modMb_mem, putOut_mem]
@[simp] theorem arrive_lanes (op : Nat) (r : Req) (s : Device) : (arrive op r s).lanes = s.lanes := by rw [arrive, modMb_lanes, putOut_lanes]
@[simp] theorem arrive_stack (op : Nat) (r : Req) (s : Device) : (arrive op r s).stack = s.stack := by rw [arrive, modMb_stack, putOut_stack]
@[simp] theorem arrive_clock (op : Nat) (r : Req) (s : Device) : (arrive op r s).clock = s.clock := by rw [arrive, modMb_clock, putOut_clock]
@[simp] theorem arrive_fault (op : Nat) (r : Req) (s : Device) : (arrive op r s).fault = s.fault := by rw [arrive, modMb_fault, putOut_fault]
@[simp] theorem arrive_boot (op : Nat) (r : Req) (s : Device) : (arrive op r s).boot = s.boot := by rw [arrive, modMb_boot, putOut_boot]
@[simp] theorem arrive_elec (op : Nat) (r : Req) (s : Device) : (arrive op r s).elec = s.elec := by rw [arrive, modMb_elec, putOut_elec]
@[simp] theorem arrive_settings (op : Nat) (r : Req) (s : Device) : (arrive op r s).settings = s.settings := by rw [arrive, modMb_settings, putOut_settings]
@[simp] theorem arrive_pendSet (op : Nat) (r : Req) (s : Device) : (arrive op r s).pendSet = s.pendSet := by rw [arrive, modMb_pendSet, putOut_pendSet]
@[simp] theorem arrive_evq (op : Nat) (r : Req) (s : Device) : (arrive op r s).evq = s.evq := by rw [arrive, modMb_evq, putOut_evq]
@[simp] theorem arrive_fresh (op : Nat) (r : Req) (s : Device) : (arrive op r s).fresh = s.fresh := by rw [arrive, modMb_fresh, putOut_fresh]
@[simp] theorem arrive_host_variant (op : Nat) (r : Req) (s : Device) : (arrive op r s).host.variant = s.host.variant := by rw [arrive, modMb_host_variant, putOut_host]
@[simp] theorem arrive_host_step (op : Nat) (r : Req) (s : Device) : (arrive op r s).host.step = s.host.step := by rw [arrive, modMb_host_step, putOut_host]
@[simp] theorem arrive_host_vendor (op : Nat) (r : Req) (s : Device) : (arrive op r s).host.vendor = s.host.vendor := by rw [arrive, modMb_host_vendor, putOut_host]
@[simp] theorem arrive_host_heartbeat (op : Nat) (r : Req) (s : Device) : (arrive op r s).host.heartbeat = s.host.heartbeat := by rw [arrive, modMb_host_heartbeat, putOut_host]
@[simp] theorem arrive_host_scratch (op : Nat) (r : Req) (s : Device) : (arrive op r s).host.scratch = s.host.scratch := by rw [arrive, modMb_host_scratch, putOut_host]
@[simp] theorem arrive_host_irqStatus (op : Nat) (r : Req) (s : Device) : (arrive op r s).host.irqStatus = s.host.irqStatus := by rw [arrive, modMb_host_irqStatus, putOut_host]
@[simp] theorem arrive_host_irqEnable (op : Nat) (r : Req) (s : Device) : (arrive op r s).host.irqEnable = s.host.irqEnable := by rw [arrive, modMb_host_irqEnable, putOut_host]
@[simp] theorem arrive_host_msixTable (op : Nat) (r : Req) (s : Device) : (arrive op r s).host.msixTable = s.host.msixTable := by rw [arrive, modMb_host_msixTable, putOut_host]
@[simp] theorem arrive_host_msixPend (op : Nat) (r : Req) (s : Device) : (arrive op r s).host.msixPend = s.host.msixPend := by rw [arrive, modMb_host_msixPend, putOut_host]
@[simp] theorem arrive_host_irqLow (op : Nat) (r : Req) (s : Device) : (arrive op r s).host.irqLow = s.host.irqLow := by rw [arrive, modMb_host_irqLow, putOut_host]
@[simp] theorem arrive_host_dbgPage (op : Nat) (r : Req) (s : Device) : (arrive op r s).host.dbgPage = s.host.dbgPage := by rw [arrive, modMb_host_dbgPage, putOut_host]
@[simp] theorem arrive_host_dbgWrite (op : Nat) (r : Req) (s : Device) : (arrive op r s).host.dbgWrite = s.host.dbgWrite := by rw [arrive, modMb_host_dbgWrite, putOut_host]
@[simp] theorem arrive_host_dbgRegs (op : Nat) (r : Req) (s : Device) : (arrive op r s).host.dbgRegs = s.host.dbgRegs := by rw [arrive, modMb_host_dbgRegs, putOut_host]
@[simp] theorem arrive_host_bootBell (op : Nat) (r : Req) (s : Device) : (arrive op r s).host.bootBell = s.host.bootBell := by rw [arrive, modMb_host_bootBell, putOut_host]
@[simp] theorem arrive_host_bootBuf (op : Nat) (r : Req) (s : Device) : (arrive op r s).host.bootBuf = s.host.bootBuf := by rw [arrive, modMb_host_bootBuf, putOut_host]
@[simp] theorem arrive_host_fifo (op : Nat) (r : Req) (s : Device) : (arrive op r s).host.fifo = s.host.fifo := by rw [arrive, modMb_host_fifo, putOut_host]
@[simp] theorem arrive_host_fifoMask (op : Nat) (r : Req) (s : Device) : (arrive op r s).host.fifoMask = s.host.fifoMask := by rw [arrive, modMb_host_fifoMask, putOut_host]
@[simp] theorem arrive_host_fifoSev (op : Nat) (r : Req) (s : Device) : (arrive op r s).host.fifoSev = s.host.fifoSev := by rw [arrive, modMb_host_fifoSev, putOut_host]
@[simp] theorem arrive_host_fifoDrop (op : Nat) (r : Req) (s : Device) : (arrive op r s).host.fifoDrop = s.host.fifoDrop := by rw [arrive, modMb_host_fifoDrop, putOut_host]
@[simp] theorem arrive_host_fifoLoss (op : Nat) (r : Req) (s : Device) : (arrive op r s).host.fifoLoss = s.host.fifoLoss := by rw [arrive, modMb_host_fifoLoss, putOut_host]
@[simp] theorem arrive_host_rings (op : Nat) (r : Req) (s : Device) : (arrive op r s).host.rings = s.host.rings := by rw [arrive, modMb_host_rings, putOut_host]
@[simp] theorem arrive_host_pendCmds (op : Nat) (r : Req) (s : Device) : (arrive op r s).host.pendCmds = s.host.pendCmds := by rw [arrive, modMb_host_pendCmds, putOut_host]
@[simp] theorem arrive_host_cancelled (op : Nat) (r : Req) (s : Device) : (arrive op r s).host.cancelled = s.host.cancelled := by rw [arrive, modMb_host_cancelled, putOut_host]
@[simp] theorem arrive_host_transfers (op : Nat) (r : Req) (s : Device) : (arrive op r s).host.transfers = s.host.transfers := by rw [arrive, modMb_host_transfers, putOut_host]
@[simp] theorem arrive_host_waiting (op : Nat) (r : Req) (s : Device) : (arrive op r s).host.waiting = s.host.waiting := by rw [arrive, modMb_host_waiting, putOut_host]
@[simp] theorem arrive_host_uptime (op : Nat) (r : Req) (s : Device) : (arrive op r s).host.uptime = s.host.uptime := by rw [arrive, modMb_host_uptime, putOut_host]

end Sys2Proof.Machine
end

