-- ==== Sys2Proof/Laws/Faults.lean ====
section
/-!
SUPPORT. The fault collector: which parts of the device an event of a source can change, said once, and what it leaves in
the record of its source.
-/
namespace Sys2Proof.Machine
open Sys2Proof

/-- `t` is `s` but for the collector, keys and their domain's reset, captures, and the stack's queues: the parts that an
event of a fault source can change. -/
def Aside (s t : Device) : Prop :=
  ∃ fault crypto kme rst caps stack, t = { s with
    fault := fault, crypto := crypto, kme := kme
    clock := { s.clock with inReset := rst }
    mem := { s.mem with caps := caps }
    stack := stack }

theorem Aside.refl (s : Device) : Aside s s := ⟨s.fault, s.crypto, s.kme, s.clock.inReset, s.mem.caps, s.stack, rfl⟩

theorem Aside.trans {s t u : Device} (h : Aside s t) (k : Aside t u) : Aside s u := by
  obtain ⟨a, b, c, d, e, f, rfl⟩ := h
  obtain ⟨a', b', c', d', e', f', rfl⟩ := k
  exact ⟨a', b', c', d', e', f', rfl⟩

theorem Aside.each {α : Type} (l : List α) (f : α → Device → Device) (h : ∀ x s, Aside s (f x s)) (s : Device) :
    Aside s (Machine.each l f s) := by
  unfold Machine.each
  induction l generalizing s with
  | nil => exact .refl s
  | cons a r ih => exact (h a s).trans (ih (f a s))

theorem Aside.ite {s t u : Device} (c : Prop) [Decidable c] (h : Aside s t) (k : Aside s u) : Aside s (if c then t else u) := by
  split <;> assumption

/-- A conditional change after others. -/
theorem Aside.andIte {s t u : Device} (c : Prop) [Decidable c] (h : Aside s t) (k : Aside t u) :
    Aside s (if c then u else t) := by
  split
  · exact h.trans k
  · exact h

theorem aside_modFault (f : FaultSt → FaultSt) (s : Device) : Aside s (modFault f s) :=
  ⟨f s.fault, s.crypto, s.kme, s.clock.inReset, s.mem.caps, s.stack, rfl⟩

theorem aside_modCrypto (c : Carrier) (f : CryptoSt → CryptoSt) (s : Device) : Aside s (modCrypto c f s) :=
  ⟨s.fault, s.crypto.mod c f, s.kme, s.clock.inReset, s.mem.caps, s.stack, rfl⟩

theorem aside_kme (k : KmeSt) (s : Device) : Aside s { s with kme := k } :=
  ⟨s.fault, s.crypto, k, s.clock.inReset, s.mem.caps, s.stack, rfl⟩

theorem aside_modStack (f : StackSt → StackSt) (s : Device) : Aside s (modStack f s) :=
  ⟨s.fault, s.crypto, s.kme, s.clock.inReset, s.mem.caps, f s.stack, rfl⟩

theorem aside_modPort (p : Nat) (f : SbPort → SbPort) (s : Device) : Aside s (modPort p f s) := aside_modStack _ s

theorem aside_modCap (i : Nat) (f : CapSlot → CapSlot) (s : Device) : Aside s (modCap i f s) :=
  ⟨s.fault, s.crypto, s.kme, s.clock.inReset, _, s.stack, rfl⟩

theorem aside_modSource (id inst : Nat) (f : SourceSt → SourceSt) (s : Device) : Aside s (modSource id inst f s) :=
  ⟨_, s.crypto, s.kme, s.clock.inReset, s.mem.caps, s.stack, rfl⟩

theorem aside_pinLevel (s : Device) : Aside s (pinLevel s) :=
  ⟨(pinLevel s).fault, s.crypto, s.kme, s.clock.inReset, s.mem.caps, s.stack, rfl⟩

theorem aside_enterReset (d : Domain) (cause : Nat) (s : Device) : Aside s (enterReset d cause s) := by
  unfold enterReset
  split
  · exact .refl s
  · exact ⟨s.fault, s.crypto, s.kme, _, s.mem.caps, s.stack, rfl⟩

theorem aside_eraseKeys (s : Device) : Aside s (eraseKeys s) :=
  (((aside_modCrypto .a eraseSlots s).trans (aside_modCrypto .b eraseSlots _)).trans (aside_kme _ _)).trans
    (aside_enterReset .crypto 6 _)

theorem aside_trigSlot (k i : Nat) (t point : Time) (s : Device) : Aside s (trigSlot k i t point s) := by
  unfold trigSlot
  dsimp only
  repeat' split
  all_goals first
    | exact .refl s
    | exact aside_modCap _ _ s

theorem aside_stackTrigHere (t : Time) (s : Device) : Aside s (stackTrigHere t s) :=
  Aside.each _ _ (fun i s => aside_trigSlot 4 i _ _ s) s

theorem aside_sendTrig (t : Time) (s : Device) : Aside s (sendTrig t s) := by
  unfold sendTrig
  exact ((aside_modStack _ s).trans (Aside.each _ _ (fun p s => aside_modPort p _ s) _)).trans
    (aside_stackTrigHere _ _)

theorem aside_localTrig (k : Nat) (t : Time) (f : Nat → CapSlot → Bool) (s : Device) : Aside s (localTrig k t f s) := by
  unfold localTrig
  dsimp only
  have h : ∀ (b : Bool), Aside s (Machine.each [0, 1, 2, 3] (fun i s =>
      if f i (cap s i) then trigSlot k i t (if b && (cap s i).trigMask.getLsbD 4 then t + 8 * US else t) s
      else s) s) := by
    intro b
    refine Aside.each _ _ (fun i s => ?_) s
    split
    · exact aside_trigSlot _ _ _ _ s
    · exact .refl s
  split
  · exact (h _).trans (aside_sendTrig t _)
  · exact h _

theorem aside_logFault (r : FaultRec) (s : Device) : Aside s (logFault r s) := aside_modFault _ s

theorem aside_dueRaised (r : FaultRec) (s : Device) : Aside s (dueRaised r s) := by
  unfold dueRaised; exact aside_modFault _ s

theorem aside_faultOne (others : Nat) (t : Time) (e : FaultIn) (s : Device) : Aside s (faultOne others t e s) := by
  unfold faultOne
  split
  · exact .refl s
  · dsimp only
    refine Aside.trans ?_ (aside_pinLevel _)
    refine Aside.trans ?_ (aside_localTrig _ _ _ _)
    refine Aside.andIte _ ?_ (aside_kme _ _)
    refine Aside.andIte _ ?_ (aside_eraseKeys _)
    refine Aside.andIte _ ?_ (aside_dueRaised _ _)
    refine Aside.andIte _ ?_ (aside_modFault _ _)
    refine Aside.andIte _ ?_ (aside_logFault _ _)
    exact aside_modSource _ _ _ s

theorem aside_faultGroup (t : Time) (l : List FaultIn) (s : Device) : Aside s (faultGroup t l s) :=
  Aside.each _ _ (fun e s => aside_faultOne _ t e s) s

theorem aside_fault (id inst : Nat) (detail : List Byte) (s : Device) : Aside s (fault id inst detail s) :=
  aside_faultGroup _ _ s

theorem aside_faultOn (id inst : Nat) (detail : List Byte) (s : Device) : Aside s (faultOn id inst detail s) := by
  unfold faultOn
  split
  · exact .refl s
  · exact aside_faultGroup _ _ s

theorem aside_faultOff (id inst : Nat) (s : Device) : Aside s (faultOff id inst s) := by
  unfold faultOff
  dsimp only
  split
  · exact .refl s
  · exact aside_modSource _ _ _ s

theorem aside_faultCond (id inst : Nat) (holds : Bool) (detail : List Byte) (s : Device) :
    Aside s (faultCond id inst holds detail s) := by
  unfold faultCond
  split
  · exact aside_faultOn _ _ _ s
  · exact aside_faultOff _ _ s

theorem Aside.accord {s t : Device} (h : Aside s t) : t.accord = s.accord := by obtain ⟨_, _, _, _, _, _, rfl⟩ := h; rfl
theorem Aside.engines {s t : Device} (h : Aside s t) : t.engines = s.engines := by obtain ⟨_, _, _, _, _, _, rfl⟩ := h; rfl
theorem Aside.conv {s t : Device} (h : Aside s t) : t.conv = s.conv := by obtain ⟨_, _, _, _, _, _, rfl⟩ := h; rfl
theorem Aside.tx {s t : Device} (h : Aside s t) : t.tx = s.tx := by obtain ⟨_, _, _, _, _, _, rfl⟩ := h; rfl
theorem Aside.rx {s t : Device} (h : Aside s t) : t.rx = s.rx := by obtain ⟨_, _, _, _, _, _, rfl⟩ := h; rfl
theorem Aside.fec {s t : Device} (h : Aside s t) : t.fec = s.fec := by obtain ⟨_, _, _, _, _, _, rfl⟩ := h; rfl
theorem Aside.pool {s t : Device} (h : Aside s t) : t.pool = s.pool := by obtain ⟨_, _, _, _, _, _, rfl⟩ := h; rfl
theorem Aside.line {s t : Device} (h : Aside s t) : t.line = s.line := by obtain ⟨_, _, _, _, _, _, rfl⟩ := h; rfl
theorem Aside.ohpFs {s t : Device} (h : Aside s t) : t.ohpFs = s.ohpFs := by obtain ⟨_, _, _, _, _, _, rfl⟩ := h; rfl
theorem Aside.tribs {s t : Device} (h : Aside s t) : t.tribs = s.tribs := by obtain ⟨_, _, _, _, _, _, rfl⟩ := h; rfl
theorem Aside.ostc {s t : Device} (h : Aside s t) : t.ostc = s.ostc := by obtain ⟨_, _, _, _, _, _, rfl⟩ := h; rfl
theorem Aside.timing {s t : Device} (h : Aside s t) : t.timing = s.timing := by obtain ⟨_, _, _, _, _, _, rfl⟩ := h; rfl
theorem Aside.ttx {s t : Device} (h : Aside s t) : t.ttx = s.ttx := by obtain ⟨_, _, _, _, _, _, rfl⟩ := h; rfl
theorem Aside.sense {s t : Device} (h : Aside s t) : t.sense = s.sense := by obtain ⟨_, _, _, _, _, _, rfl⟩ := h; rfl
theorem Aside.ramp {s t : Device} (h : Aside s t) : t.ramp = s.ramp := by obtain ⟨_, _, _, _, _, _, rfl⟩ := h; rfl
theorem Aside.lanes {s t : Device} (h : Aside s t) : t.lanes = s.lanes := by obtain ⟨_, _, _, _, _, _, rfl⟩ := h; rfl
theorem Aside.boot {s t : Device} (h : Aside s t) : t.boot = s.boot := by obtain ⟨_, _, _, _, _, _, rfl⟩ := h; rfl
theorem Aside.host {s t : Device} (h : Aside s t) : t.host = s.host := by obtain ⟨_, _, _, _, _, _, rfl⟩ := h; rfl
theorem Aside.elec {s t : Device} (h : Aside s t) : t.elec = s.elec := by obtain ⟨_, _, _, _, _, _, rfl⟩ := h; rfl
theorem Aside.settings {s t : Device} (h : Aside s t) : t.settings = s.settings := by obtain ⟨_, _, _, _, _, _, rfl⟩ := h; rfl
theorem Aside.pendSet {s t : Device} (h : Aside s t) : t.pendSet = s.pendSet := by obtain ⟨_, _, _, _, _, _, rfl⟩ := h; rfl
theorem Aside.evq {s t : Device} (h : Aside s t) : t.evq = s.evq := by obtain ⟨_, _, _, _, _, _, rfl⟩ := h; rfl
theorem Aside.out {s t : Device} (h : Aside s t) : t.out = s.out := by obtain ⟨_, _, _, _, _, _, rfl⟩ := h; rfl
theorem Aside.fresh {s t : Device} (h : Aside s t) : t.fresh = s.fresh := by obtain ⟨_, _, _, _, _, _, rfl⟩ := h; rfl
@[simp] theorem fault_accord (id inst : Nat) (detail : List Byte) (s : Device) :
    (fault id inst detail s).accord = s.accord := (aside_fault id inst detail s).accord
@[simp] theorem fault_engines (id inst : Nat) (detail : List Byte) (s : Device) :
    (fault id inst detail s).engines = s.engines := (aside_fault id inst detail s).engines
@[simp] theorem fault_conv (id inst : Nat) (detail : List Byte) (s : Device) :
    (fault id inst detail s).conv = s.conv := (aside_fault id inst detail s).conv
@[simp] theorem fault_tx (id inst : Nat) (detail : List Byte) (s : Device) :
    (fault id inst detail s).tx = s.tx := (aside_fault id inst detail s).tx
@[simp] theorem fault_rx (id inst : Nat) (detail : List Byte) (s : Device) :
    (fault id inst detail s).rx = s.rx := (aside_fault id inst detail s).rx
@[simp] theorem fault_fec (id inst : Nat) (detail : List Byte) (s : Device) :
    (fault id inst detail s).fec = s.fec := (aside_fault id inst detail s).fec
@[simp] theorem fault_pool (id inst : Nat) (detail : List Byte) (s : Device) :
    (fault id inst detail s).pool = s.pool := (aside_fault id inst detail s).pool
@[simp] theorem fault_line (id inst : Nat) (detail : List Byte) (s : Device) :
    (fault id inst detail s).line = s.line := (aside_fault id inst detail s).line
@[simp] theorem fault_ohpFs (id inst : Nat) (detail : List Byte) (s : Device) :
    (fault id inst detail s).ohpFs = s.ohpFs := (aside_fault id inst detail s).ohpFs
@[simp] theorem fault_tribs (id inst : Nat) (detail : List Byte) (s : Device) :
    (fault id inst detail s).tribs = s.tribs := (aside_fault id inst detail s).tribs
@[simp] theorem fault_ostc (id inst : Nat) (detail : List Byte) (s : Device) :
    (fault id inst detail s).ostc = s.ostc := (aside_fault id inst detail s).ostc
@[simp] theorem fault_timing (id inst : Nat) (detail : List Byte) (s : Device) :
    (fault id inst detail s).timing = s.timing := (aside_fault id inst detail s).timing
@[simp] theorem fault_ttx (id inst : Nat) (detail : List Byte) (s : Device) :
    (fault id inst detail s).ttx = s.ttx := (aside_fault id inst detail s).ttx
@[simp] theorem fault_sense (id inst : Nat) (detail : List Byte) (s : Device) :
    (fault id inst detail s).sense = s.sense := (aside_fault id inst detail s).sense
@[simp] theorem fault_ramp (id inst : Nat) (detail : List Byte) (s : Device) :
    (fault id inst detail s).ramp = s.ramp := (aside_fault id inst detail s).ramp
@[simp] theorem fault_lanes (id inst : Nat) (detail : List Byte) (s : Device) :
    (fault id inst detail s).lanes = s.lanes := (aside_fault id inst detail s).lanes
@[simp] theorem fault_boot (id inst : Nat) (detail : List Byte) (s : Device) :
    (fault id inst detail s).boot = s.boot := (aside_fault id inst detail s).boot
@[simp] theorem fault_host (id inst : Nat) (detail : List Byte) (s : Device) :
    (fault id inst detail s).host = s.host := (aside_fault id inst detail s).host
@[simp] theorem fault_elec (id inst : Nat) (detail : List Byte) (s : Device) :
    (fault id inst detail s).elec = s.elec := (aside_fault id inst detail s).elec
@[simp] theorem fault_settings (id inst : Nat) (detail : List Byte) (s : Device) :
    (fault id inst detail s).settings = s.settings := (aside_fault id inst detail s).settings
@[simp] theorem fault_pendSet (id inst : Nat) (detail : List Byte) (s : Device) :
    (fault id inst detail s).pendSet = s.pendSet := (aside_fault id inst detail s).pendSet
@[simp] theorem fault_evq (id inst : Nat) (detail : List Byte) (s : Device) :
    (fault id inst detail s).evq = s.evq := (aside_fault id inst detail s).evq
@[simp] theorem fault_out (id inst : Nat) (detail : List Byte) (s : Device) :
    (fault id inst detail s).out = s.out := (aside_fault id inst detail s).out
@[simp] theorem fault_fresh (id inst : Nat) (detail : List Byte) (s : Device) :
    (fault id inst detail s).fresh = s.fresh := (aside_fault id inst detail s).fresh
@[simp] theorem faultOn_accord (id inst : Nat) (detail : List Byte) (s : Device) :
    (faultOn id inst detail s).accord = s.accord := (aside_faultOn id inst detail s).accord
@[simp] theorem faultOn_engines (id inst : Nat) (detail : List Byte) (s : Device) :
    (faultOn id inst detail s).engines = s.engines := (aside_faultOn id inst detail s).engines
@[simp] theorem faultOn_conv (id inst : Nat) (detail : List Byte) (s : Device) :
    (faultOn id inst detail s).conv = s.conv := (aside_faultOn id inst detail s).conv
@[simp] theorem faultOn_tx (id inst : Nat) (detail : List Byte) (s : Device) :
    (faultOn id inst detail s).tx = s.tx := (aside_faultOn id inst detail s).tx
@[simp] theorem faultOn_rx (id inst : Nat) (detail : List Byte) (s : Device) :
    (faultOn id inst detail s).rx = s.rx := (aside_faultOn id inst detail s).rx
@[simp] theorem faultOn_fec (id inst : Nat) (detail : List Byte) (s : Device) :
    (faultOn id inst detail s).fec = s.fec := (aside_faultOn id inst detail s).fec
@[simp] theorem faultOn_pool (id inst : Nat) (detail : List Byte) (s : Device) :
    (faultOn id inst detail s).pool = s.pool := (aside_faultOn id inst detail s).pool
@[simp] theorem faultOn_line (id inst : Nat) (detail : List Byte) (s : Device) :
    (faultOn id inst detail s).line = s.line := (aside_faultOn id inst detail s).line
@[simp] theorem faultOn_ohpFs (id inst : Nat) (detail : List Byte) (s : Device) :
    (faultOn id inst detail s).ohpFs = s.ohpFs := (aside_faultOn id inst detail s).ohpFs
@[simp] theorem faultOn_tribs (id inst : Nat) (detail : List Byte) (s : Device) :
    (faultOn id inst detail s).tribs = s.tribs := (aside_faultOn id inst detail s).tribs
@[simp] theorem faultOn_ostc (id inst : Nat) (detail : List Byte) (s : Device) :
    (faultOn id inst detail s).ostc = s.ostc := (aside_faultOn id inst detail s).ostc
@[simp] theorem faultOn_timing (id inst : Nat) (detail : List Byte) (s : Device) :
    (faultOn id inst detail s).timing = s.timing := (aside_faultOn id inst detail s).timing
@[simp] theorem faultOn_ttx (id inst : Nat) (detail : List Byte) (s : Device) :
    (faultOn id inst detail s).ttx = s.ttx := (aside_faultOn id inst detail s).ttx
@[simp] theorem faultOn_sense (id inst : Nat) (detail : List Byte) (s : Device) :
    (faultOn id inst detail s).sense = s.sense := (aside_faultOn id inst detail s).sense
@[simp] theorem faultOn_ramp (id inst : Nat) (detail : List Byte) (s : Device) :
    (faultOn id inst detail s).ramp = s.ramp := (aside_faultOn id inst detail s).ramp
@[simp] theorem faultOn_lanes (id inst : Nat) (detail : List Byte) (s : Device) :
    (faultOn id inst detail s).lanes = s.lanes := (aside_faultOn id inst detail s).lanes
@[simp] theorem faultOn_boot (id inst : Nat) (detail : List Byte) (s : Device) :
    (faultOn id inst detail s).boot = s.boot := (aside_faultOn id inst detail s).boot
@[simp] theorem faultOn_host (id inst : Nat) (detail : List Byte) (s : Device) :
    (faultOn id inst detail s).host = s.host := (aside_faultOn id inst detail s).host
@[simp] theorem faultOn_elec (id inst : Nat) (detail : List Byte) (s : Device) :
    (faultOn id inst detail s).elec = s.elec := (aside_faultOn id inst detail s).elec
@[simp] theorem faultOn_settings (id inst : Nat) (detail : List Byte) (s : Device) :
    (faultOn id inst detail s).settings = s.settings := (aside_faultOn id inst detail s).settings
@[simp] theorem faultOn_pendSet (id inst : Nat) (detail : List Byte) (s : Device) :
    (faultOn id inst detail s).pendSet = s.pendSet := (aside_faultOn id inst detail s).pendSet
@[simp] theorem faultOn_evq (id inst : Nat) (detail : List Byte) (s : Device) :
    (faultOn id inst detail s).evq = s.evq := (aside_faultOn id inst detail s).evq
@[simp] theorem faultOn_out (id inst : Nat) (detail : List Byte) (s : Device) :
    (faultOn id inst detail s).out = s.out := (aside_faultOn id inst detail s).out
@[simp] theorem faultOn_fresh (id inst : Nat) (detail : List Byte) (s : Device) :
    (faultOn id inst detail s).fresh = s.fresh := (aside_faultOn id inst detail s).fresh
@[simp] theorem faultOff_accord (id inst : Nat) (s : Device) :
    (faultOff id inst s).accord = s.accord := (aside_faultOff id inst s).accord
@[simp] theorem faultOff_engines (id inst : Nat) (s : Device) :
    (faultOff id inst s).engines = s.engines := (aside_faultOff id inst s).engines
@[simp] theorem faultOff_conv (id inst : Nat) (s : Device) :
    (faultOff id inst s).conv = s.conv := (aside_faultOff id inst s).conv
@[simp] theorem faultOff_tx (id inst : Nat) (s : Device) :
    (faultOff id inst s).tx = s.tx := (aside_faultOff id inst s).tx
@[simp] theorem faultOff_rx (id inst : Nat) (s : Device) :
    (faultOff id inst s).rx = s.rx := (aside_faultOff id inst s).rx
@[simp] theorem faultOff_fec (id inst : Nat) (s : Device) :
    (faultOff id inst s).fec = s.fec := (aside_faultOff id inst s).fec
@[simp] theorem faultOff_pool (id inst : Nat) (s : Device) :
    (faultOff id inst s).pool = s.pool := (aside_faultOff id inst s).pool
@[simp] theorem faultOff_line (id inst : Nat) (s : Device) :
    (faultOff id inst s).line = s.line := (aside_faultOff id inst s).line
@[simp] theorem faultOff_ohpFs (id inst : Nat) (s : Device) :
    (faultOff id inst s).ohpFs = s.ohpFs := (aside_faultOff id inst s).ohpFs
@[simp] theorem faultOff_tribs (id inst : Nat) (s : Device) :
    (faultOff id inst s).tribs = s.tribs := (aside_faultOff id inst s).tribs
@[simp] theorem faultOff_ostc (id inst : Nat) (s : Device) :
    (faultOff id inst s).ostc = s.ostc := (aside_faultOff id inst s).ostc
@[simp] theorem faultOff_timing (id inst : Nat) (s : Device) :
    (faultOff id inst s).timing = s.timing := (aside_faultOff id inst s).timing
@[simp] theorem faultOff_ttx (id inst : Nat) (s : Device) :
    (faultOff id inst s).ttx = s.ttx := (aside_faultOff id inst s).ttx
@[simp] theorem faultOff_sense (id inst : Nat) (s : Device) :
    (faultOff id inst s).sense = s.sense := (aside_faultOff id inst s).sense
@[simp] theorem faultOff_ramp (id inst : Nat) (s : Device) :
    (faultOff id inst s).ramp = s.ramp := (aside_faultOff id inst s).ramp
@[simp] theorem faultOff_lanes (id inst : Nat) (s : Device) :
    (faultOff id inst s).lanes = s.lanes := (aside_faultOff id inst s).lanes
@[simp] theorem faultOff_boot (id inst : Nat) (s : Device) :
    (faultOff id inst s).boot = s.boot := (aside_faultOff id inst s).boot
@[simp] theorem faultOff_host (id inst : Nat) (s : Device) :
    (faultOff id inst s).host = s.host := (aside_faultOff id inst s).host
@[simp] theorem faultOff_elec (id inst : Nat) (s : Device) :
    (faultOff id inst s).elec = s.elec := (aside_faultOff id inst s).elec
@[simp] theorem faultOff_settings (id inst : Nat) (s : Device) :
    (faultOff id inst s).settings = s.settings := (aside_faultOff id inst s).settings
@[simp] theorem faultOff_pendSet (id inst : Nat) (s : Device) :
    (faultOff id inst s).pendSet = s.pendSet := (aside_faultOff id inst s).pendSet
@[simp] theorem faultOff_evq (id inst : Nat) (s : Device) :
    (faultOff id inst s).evq = s.evq := (aside_faultOff id inst s).evq
@[simp] theorem faultOff_out (id inst : Nat) (s : Device) :
    (faultOff id inst s).out = s.out := (aside_faultOff id inst s).out
@[simp] theorem faultOff_fresh (id inst : Nat) (s : Device) :
    (faultOff id inst s).fresh = s.fresh := (aside_faultOff id inst s).fresh
@[simp] theorem faultCond_accord (id inst : Nat) (holds : Bool) (detail : List Byte) (s : Device) :
    (faultCond id inst holds detail s).accord = s.accord := (aside_faultCond id inst holds detail s).accord
@[simp] theorem faultCond_engines (id inst : Nat) (holds : Bool) (detail : List Byte) (s : Device) :
    (faultCond id inst holds detail s).engines = s.engines := (aside_faultCond id inst holds detail s).engines
@[simp] theorem faultCond_conv (id inst : Nat) (holds : Bool) (detail : List Byte) (s : Device) :
    (faultCond id inst holds detail s).conv = s.conv := (aside_faultCond id inst holds detail s).conv
@[simp] theorem faultCond_tx (id inst : Nat) (holds : Bool) (detail : List Byte) (s : Device) :
    (faultCond id inst holds detail s).tx = s.tx := (aside_faultCond id inst holds detail s).tx
@[simp] theorem faultCond_rx (id inst : Nat) (holds : Bool) (detail : List Byte) (s : Device) :
    (faultCond id inst holds detail s).rx = s.rx := (aside_faultCond id inst holds detail s).rx
@[simp] theorem faultCond_fec (id inst : Nat) (holds : Bool) (detail : List Byte) (s : Device) :
    (faultCond id inst holds detail s).fec = s.fec := (aside_faultCond id inst holds detail s).fec
@[simp] theorem faultCond_pool (id inst : Nat) (holds : Bool) (detail : List Byte) (s : Device) :
    (faultCond id inst holds detail s).pool = s.pool := (aside_faultCond id inst holds detail s).pool
@[simp] theorem faultCond_line (id inst : Nat) (holds : Bool) (detail : List Byte) (s : Device) :
    (faultCond id inst holds detail s).line = s.line := (aside_faultCond id inst holds detail s).line
@[simp] theorem faultCond_ohpFs (id inst : Nat) (holds : Bool) (detail : List Byte) (s : Device) :
    (faultCond id inst holds detail s).ohpFs = s.ohpFs := (aside_faultCond id inst holds detail s).ohpFs
@[simp] theorem faultCond_tribs (id inst : Nat) (holds : Bool) (detail : List Byte) (s : Device) :
    (faultCond id inst holds detail s).tribs = s.tribs := (aside_faultCond id inst holds detail s).tribs
@[simp] theorem faultCond_ostc (id inst : Nat) (holds : Bool) (detail : List Byte) (s : Device) :
    (faultCond id inst holds detail s).ostc = s.ostc := (aside_faultCond id inst holds detail s).ostc
@[simp] theorem faultCond_timing (id inst : Nat) (holds : Bool) (detail : List Byte) (s : Device) :
    (faultCond id inst holds detail s).timing = s.timing := (aside_faultCond id inst holds detail s).timing
@[simp] theorem faultCond_ttx (id inst : Nat) (holds : Bool) (detail : List Byte) (s : Device) :
    (faultCond id inst holds detail s).ttx = s.ttx := (aside_faultCond id inst holds detail s).ttx
@[simp] theorem faultCond_sense (id inst : Nat) (holds : Bool) (detail : List Byte) (s : Device) :
    (faultCond id inst holds detail s).sense = s.sense := (aside_faultCond id inst holds detail s).sense
@[simp] theorem faultCond_ramp (id inst : Nat) (holds : Bool) (detail : List Byte) (s : Device) :
    (faultCond id inst holds detail s).ramp = s.ramp := (aside_faultCond id inst holds detail s).ramp
@[simp] theorem faultCond_lanes (id inst : Nat) (holds : Bool) (detail : List Byte) (s : Device) :
    (faultCond id inst holds detail s).lanes = s.lanes := (aside_faultCond id inst holds detail s).lanes
@[simp] theorem faultCond_boot (id inst : Nat) (holds : Bool) (detail : List Byte) (s : Device) :
    (faultCond id inst holds detail s).boot = s.boot := (aside_faultCond id inst holds detail s).boot
@[simp] theorem faultCond_host (id inst : Nat) (holds : Bool) (detail : List Byte) (s : Device) :
    (faultCond id inst holds detail s).host = s.host := (aside_faultCond id inst holds detail s).host
@[simp] theorem faultCond_elec (id inst : Nat) (holds : Bool) (detail : List Byte) (s : Device) :
    (faultCond id inst holds detail s).elec = s.elec := (aside_faultCond id inst holds detail s).elec
@[simp] theorem faultCond_settings (id inst : Nat) (holds : Bool) (detail : List Byte) (s : Device) :
    (faultCond id inst holds detail s).settings = s.settings := (aside_faultCond id inst holds detail s).settings
@[simp] theorem faultCond_pendSet (id inst : Nat) (holds : Bool) (detail : List Byte) (s : Device) :
    (faultCond id inst holds detail s).pendSet = s.pendSet := (aside_faultCond id inst holds detail s).pendSet
@[simp] theorem faultCond_evq (id inst : Nat) (holds : Bool) (detail : List Byte) (s : Device) :
    (faultCond id inst holds detail s).evq = s.evq := (aside_faultCond id inst holds detail s).evq
@[simp] theorem faultCond_out (id inst : Nat) (holds : Bool) (detail : List Byte) (s : Device) :
    (faultCond id inst holds detail s).out = s.out := (aside_faultCond id inst holds detail s).out
@[simp] theorem faultCond_fresh (id inst : Nat) (holds : Bool) (detail : List Byte) (s : Device) :
    (faultCond id inst holds detail s).fresh = s.fresh := (aside_faultCond id inst holds detail s).fresh
@[simp] theorem eraseKeys_accord (s : Device) :
    (eraseKeys s).accord = s.accord := (aside_eraseKeys s).accord
@[simp] theorem eraseKeys_engines (s : Device) :
    (eraseKeys s).engines = s.engines := (aside_eraseKeys s).engines
@[simp] theorem eraseKeys_conv (s : Device) :
    (eraseKeys s).conv = s.conv := (aside_eraseKeys s).conv
@[simp] theorem eraseKeys_tx (s : Device) :
    (eraseKeys s).tx = s.tx := (aside_eraseKeys s).tx
@[simp] theorem eraseKeys_rx (s : Device) :
    (eraseKeys s).rx = s.rx := (aside_eraseKeys s).rx
@[simp] theorem eraseKeys_fec (s : Device) :
    (eraseKeys s).fec = s.fec := (aside_eraseKeys s).fec
@[simp] theorem eraseKeys_pool (s : Device) :
    (eraseKeys s).pool = s.pool := (aside_eraseKeys s).pool
@[simp] theorem eraseKeys_line (s : Device) :
    (eraseKeys s).line = s.line := (aside_eraseKeys s).line
@[simp] theorem eraseKeys_ohpFs (s : Device) :
    (eraseKeys s).ohpFs = s.ohpFs := (aside_eraseKeys s).ohpFs
@[simp] theorem eraseKeys_tribs (s : Device) :
    (eraseKeys s).tribs = s.tribs := (aside_eraseKeys s).tribs
@[simp] theorem eraseKeys_ostc (s : Device) :
    (eraseKeys s).ostc = s.ostc := (aside_eraseKeys s).ostc
@[simp] theorem eraseKeys_timing (s : Device) :
    (eraseKeys s).timing = s.timing := (aside_eraseKeys s).timing
@[simp] theorem eraseKeys_ttx (s : Device) :
    (eraseKeys s).ttx = s.ttx := (aside_eraseKeys s).ttx
@[simp] theorem eraseKeys_sense (s : Device) :
    (eraseKeys s).sense = s.sense := (aside_eraseKeys s).sense
@[simp] theorem eraseKeys_ramp (s : Device) :
    (eraseKeys s).ramp = s.ramp := (aside_eraseKeys s).ramp
@[simp] theorem eraseKeys_lanes (s : Device) :
    (eraseKeys s).lanes = s.lanes := (aside_eraseKeys s).lanes
@[simp] theorem eraseKeys_boot (s : Device) :
    (eraseKeys s).boot = s.boot := (aside_eraseKeys s).boot
@[simp] theorem eraseKeys_host (s : Device) :
    (eraseKeys s).host = s.host := (aside_eraseKeys s).host
@[simp] theorem eraseKeys_elec (s : Device) :
    (eraseKeys s).elec = s.elec := (aside_eraseKeys s).elec
@[simp] theorem eraseKeys_settings (s : Device) :
    (eraseKeys s).settings = s.settings := (aside_eraseKeys s).settings
@[simp] theorem eraseKeys_pendSet (s : Device) :
    (eraseKeys s).pendSet = s.pendSet := (aside_eraseKeys s).pendSet
@[simp] theorem eraseKeys_evq (s : Device) :
    (eraseKeys s).evq = s.evq := (aside_eraseKeys s).evq
@[simp] theorem eraseKeys_out (s : Device) :
    (eraseKeys s).out = s.out := (aside_eraseKeys s).out
@[simp] theorem eraseKeys_fresh (s : Device) :
    (eraseKeys s).fresh = s.fresh := (aside_eraseKeys s).fresh
@[simp] theorem localTrig_accord (k : Nat) (t : Time) (f : Nat → CapSlot → Bool) (s : Device) :
    (localTrig k t f s).accord = s.accord := (aside_localTrig k t f s).accord
@[simp] theorem localTrig_engines (k : Nat) (t : Time) (f : Nat → CapSlot → Bool) (s : Device) :
    (localTrig k t f s).engines = s.engines := (aside_localTrig k t f s).engines
@[simp] theorem localTrig_conv (k : Nat) (t : Time) (f : Nat → CapSlot → Bool) (s : Device) :
    (localTrig k t f s).conv = s.conv := (aside_localTrig k t f s).conv
@[simp] theorem localTrig_tx (k : Nat) (t : Time) (f : Nat → CapSlot → Bool) (s : Device) :
    (localTrig k t f s).tx = s.tx := (aside_localTrig k t f s).tx
@[simp] theorem localTrig_rx (k : Nat) (t : Time) (f : Nat → CapSlot → Bool) (s : Device) :
    (localTrig k t f s).rx = s.rx := (aside_localTrig k t f s).rx
@[simp] theorem localTrig_fec (k : Nat) (t : Time) (f : Nat → CapSlot → Bool) (s : Device) :
    (localTrig k t f s).fec = s.fec := (aside_localTrig k t f s).fec
@[simp] theorem localTrig_pool (k : Nat) (t : Time) (f : Nat → CapSlot → Bool) (s : Device) :
    (localTrig k t f s).pool = s.pool := (aside_localTrig k t f s).pool
@[simp] theorem localTrig_line (k : Nat) (t : Time) (f : Nat → CapSlot → Bool) (s : Device) :
    (localTrig k t f s).line = s.line := (aside_localTrig k t f s).line
@[simp] theorem localTrig_ohpFs (k : Nat) (t : Time) (f : Nat → CapSlot → Bool) (s : Device) :
    (localTrig k t f s).ohpFs = s.ohpFs := (aside_localTrig k t f s).ohpFs
@[simp] theorem localTrig_tribs (k : Nat) (t : Time) (f : Nat → CapSlot → Bool) (s : Device) :
    (localTrig k t f s).tribs = s.tribs := (aside_localTrig k t f s).tribs
@[simp] theorem localTrig_ostc (k : Nat) (t : Time) (f : Nat → CapSlot → Bool) (s : Device) :
    (localTrig k t f s).ostc = s.ostc := (aside_localTrig k t f s).ostc
@[simp] theorem localTrig_timing (k : Nat) (t : Time) (f : Nat → CapSlot → Bool) (s : Device) :
    (localTrig k t f s).timing = s.timing := (aside_localTrig k t f s).timing
@[simp] theorem localTrig_ttx (k : Nat) (t : Time) (f : Nat → CapSlot → Bool) (s : Device) :
    (localTrig k t f s).ttx = s.ttx := (aside_localTrig k t f s).ttx
@[simp] theorem localTrig_sense (k : Nat) (t : Time) (f : Nat → CapSlot → Bool) (s : Device) :
    (localTrig k t f s).sense = s.sense := (aside_localTrig k t f s).sense
@[simp] theorem localTrig_ramp (k : Nat) (t : Time) (f : Nat → CapSlot → Bool) (s : Device) :
    (localTrig k t f s).ramp = s.ramp := (aside_localTrig k t f s).ramp
@[simp] theorem localTrig_lanes (k : Nat) (t : Time) (f : Nat → CapSlot → Bool) (s : Device) :
    (localTrig k t f s).lanes = s.lanes := (aside_localTrig k t f s).lanes
@[simp] theorem localTrig_boot (k : Nat) (t : Time) (f : Nat → CapSlot → Bool) (s : Device) :
    (localTrig k t f s).boot = s.boot := (aside_localTrig k t f s).boot
@[simp] theorem localTrig_host (k : Nat) (t : Time) (f : Nat → CapSlot → Bool) (s : Device) :
    (localTrig k t f s).host = s.host := (aside_localTrig k t f s).host
@[simp] theorem localTrig_elec (k : Nat) (t : Time) (f : Nat → CapSlot → Bool) (s : Device) :
    (localTrig k t f s).elec = s.elec := (aside_localTrig k t f s).elec
@[simp] theorem localTrig_settings (k : Nat) (t : Time) (f : Nat → CapSlot → Bool) (s : Device) :
    (localTrig k t f s).settings = s.settings := (aside_localTrig k t f s).settings
@[simp] theorem localTrig_pendSet (k : Nat) (t : Time) (f : Nat → CapSlot → Bool) (s : Device) :
    (localTrig k t f s).pendSet = s.pendSet := (aside_localTrig k t f s).pendSet
@[simp] theorem localTrig_evq (k : Nat) (t : Time) (f : Nat → CapSlot → Bool) (s : Device) :
    (localTrig k t f s).evq = s.evq := (aside_localTrig k t f s).evq
@[simp] theorem localTrig_out (k : Nat) (t : Time) (f : Nat → CapSlot → Bool) (s : Device) :
    (localTrig k t f s).out = s.out := (aside_localTrig k t f s).out
@[simp] theorem localTrig_fresh (k : Nat) (t : Time) (f : Nat → CapSlot → Bool) (s : Device) :
    (localTrig k t f s).fresh = s.fresh := (aside_localTrig k t f s).fresh

/-! ### The record of the source -/

theorem source_modSource (id inst : Nat) (f : SourceSt → SourceSt) (s : Device) :
    source (modSource id inst f s) id inst = f (source s id inst) := by
  simp [source, modSource]

/-- `t` has the fault sources of `s`. -/
def SameSources (s t : Device) : Prop := t.fault.sources = s.fault.sources

theorem SameSources.refl (s : Device) : SameSources s s := rfl

theorem SameSources.trans {s t u : Device} (h : SameSources s t) (k : SameSources t u) : SameSources s u :=
  Eq.trans k h

theorem SameSources.each {α : Type} (l : List α) (f : α → Device → Device) (h : ∀ x s, SameSources s (f x s)) (s : Device) :
    SameSources s (Machine.each l f s) := by
  unfold Machine.each
  induction l generalizing s with
  | nil => exact rfl
  | cons a r ih => exact (h a s).trans (ih (f a s))

theorem SameSources.ite {s t u : Device} (c : Prop) [Decidable c] (h : SameSources s t) (k : SameSources s u) :
    SameSources s (if c then t else u) := by
  split <;> assumption

theorem SameSources.andIte {s t u : Device} (c : Prop) [Decidable c] (h : SameSources s t) (k : SameSources t u) :
    SameSources s (if c then u else t) := by
  split
  · exact h.trans k
  · exact h

theorem sameSources_trigSlot (k i : Nat) (t point : Time) (s : Device) : SameSources s (trigSlot k i t point s) := by
  unfold trigSlot
  dsimp only
  repeat' split
  all_goals exact rfl

theorem sameSources_modStack (f : StackSt → StackSt) (s : Device) : SameSources s (modStack f s) := rfl

theorem sameSources_modPort (p : Nat) (f : SbPort → SbPort) (s : Device) : SameSources s (modPort p f s) := rfl

theorem sameSources_stackTrigHere (t : Time) (s : Device) : SameSources s (stackTrigHere t s) :=
  SameSources.each _ _ (fun i s => sameSources_trigSlot 4 i _ _ s) s

theorem sameSources_sendTrig (t : Time) (s : Device) : SameSources s (sendTrig t s) := by
  unfold sendTrig
  exact ((sameSources_modStack _ s).trans (SameSources.each _ _ (fun p s => sameSources_modPort p _ s) _)).trans
    (sameSources_stackTrigHere _ _)

theorem sameSources_localTrig (k : Nat) (t : Time) (f : Nat → CapSlot → Bool) (s : Device) :
    SameSources s (localTrig k t f s) := by
  unfold localTrig
  dsimp only
  have h : ∀ (b : Bool), SameSources s (Machine.each [0, 1, 2, 3] (fun i s =>
      if f i (cap s i) then trigSlot k i t (if b && (cap s i).trigMask.getLsbD 4 then t + 8 * US else t) s
      else s) s) := by
    intro b
    refine SameSources.each _ _ (fun i s => ?_) s
    split
    · exact sameSources_trigSlot _ _ _ _ s
    · exact rfl
  split
  · exact (h _).trans (sameSources_sendTrig t _)
  · exact h _

theorem sameSources_pinLevel (s : Device) : SameSources s (pinLevel s) := rfl

theorem sameSources_dueRaised (r : FaultRec) (s : Device) : SameSources s (dueRaised r s) := by
  unfold dueRaised; exact rfl

theorem sameSources_first (r : FaultRec) (s : Device) :
    SameSources s (modFault (fun f => { f with first := some r }) s) := rfl

theorem sameSources_logFault (r : FaultRec) (s : Device) : SameSources s (logFault r s) := rfl

theorem sameSources_eraseKeys (s : Device) : SameSources s (eraseKeys s) := by
  unfold eraseKeys enterReset
  dsimp only
  split <;> exact rfl

/-- What one event leaves in the record of its source. -/
theorem source_faultOne (others : Nat) (t : Time) (e : FaultIn) (s : Device) (h : isSource e.id e.inst = true) :
    (source (faultOne others t e s) e.id e.inst).cond = (if e.inert s then (source s e.id e.inst).cond
      else (source s e.id e.inst).cond || e.begins) ∧
    (source (faultOne others t e s) e.id e.inst).pulse = (if e.inert s then (source s e.id e.inst).pulse
      else (source s e.id e.inst).pulse || !e.begins) ∧
    (source (faultOne others t e s) e.id e.inst).st = nextPhase s e ∧
    (source (faultOne others t e s) e.id e.inst).events = sat 32 ((source s e.id e.inst).events + 1) ∧
    (source (faultOne others t e s) e.id e.inst).lastEvent = t := by
  have c : SameSources (modSource e.id e.inst (fun _ => recordAfter t e s) s) (faultOne others t e s) := by
    unfold faultOne
    simp only [h, Bool.not_true, Bool.false_eq_true, if_false]
    refine SameSources.trans ?_ (sameSources_pinLevel _)
    refine SameSources.trans ?_ (sameSources_localTrig _ _ _ _)
    refine SameSources.andIte _ ?_ rfl
    refine SameSources.andIte _ ?_ (sameSources_eraseKeys _)
    refine SameSources.andIte _ ?_ (sameSources_dueRaised _ _)
    refine SameSources.andIte _ ?_ (sameSources_first _ _)
    exact SameSources.andIte _ (SameSources.refl _) (sameSources_logFault _ _)
  have : source (faultOne others t e s) e.id e.inst = recordAfter t e s := by
    rw [← source_modSource e.id e.inst (fun _ => recordAfter t e s) s]
    unfold source; rw [c]
  rw [this]
  exact ⟨rfl, rfl, rfl, rfl, rfl⟩

theorem faultGroup_one (t : Time) (e : FaultIn) (s : Device) (h : isSource e.id e.inst = true) :
    faultGroup t [e] s = faultOne 0 t e s := by
  simp [faultGroup, h, insertIn, each]

/-- A fault that its chapter defines as an event: its source is raw in this control tick, counts the event, and is in
the phase that R744 to R751 give it. -/
theorem source_fault (id inst : Nat) (detail : List Byte) (s : Device) (h : isSource id inst = true) :
    (source (fault id inst detail s) id inst).pulse = true ∧
    (source (fault id inst detail s) id inst).st = nextPhase s { id, inst, detail } ∧
    (source (fault id inst detail s) id inst).events = sat 32 ((source s id inst).events + 1) ∧
    (source (fault id inst detail s) id inst).lastEvent = s.timing.now := by
  have g := source_faultOne 0 s.timing.now { id, inst, detail } s h
  have e : fault id inst detail s = faultOne 0 s.timing.now { id, inst, detail } s := faultGroup_one _ _ _ h
  rw [e]
  obtain ⟨_, h2, h3, h4, h5⟩ := g
  refine ⟨?_, h3, h4, h5⟩
  rw [h2]
  simp [FaultIn.inert]

/-- After the condition of a fault begins, its source's condition holds. -/
theorem source_faultOn (id inst : Nat) (detail : List Byte) (s : Device) (h : isSource id inst = true) :
    (source (faultOn id inst detail s) id inst).cond = true := by
  unfold faultOn
  split
  · assumption
  · rw [faultGroup_one _ _ _ h]
    rw [(source_faultOne 0 s.timing.now { id, inst, detail, begins := true } s h).1]
    simp [FaultIn.inert]

/-- After the condition of a fault ends, its source's condition does not hold. -/
theorem source_faultOff (id inst : Nat) (s : Device) : (source (faultOff id inst s) id inst).cond = false := by
  unfold faultOff
  dsimp only
  split
  · rename_i h; simpa using h
  · rw [source_modSource]
    split
    · rfl
    · unfold startQuiet; split <;> rfl

@[simp] theorem source_drivePins (s : Device) (id inst : Nat) : source (drivePins s) id inst = source s id inst := by
  simp [source]

end Sys2Proof.Machine
end

