-- ==== Sys2Proof/Laws/Memory.lean ====
section
/-!
SUPPORT. Memories of bytes: the canonical form is kept by every memory operation, a byte reads what was written there
and every other byte what it read before.
-/
namespace Sys2Proof.Machine
open Sys2Proof

/-- Every address of the memory is above `a`. -/
def above (a : Nat) (m : List Host.Cell) : Prop := ∀ p ∈ m, a < p.1

theorem Memory.wf_cons {z : Byte} {a : Nat} {v : Byte} {m : List Host.Cell} :
    Memory.wf z ((a, v) :: m) = true ↔ v ≠ z ∧ above a m ∧ Memory.wf z m = true := by
  induction m generalizing a v with
  | nil => simp [Memory.wf, above]
  | cons q r ih =>
    obtain ⟨k, w⟩ := q
    simp only [Memory.wf, Bool.and_eq_true, decide_eq_true_eq, ne_eq]
    constructor
    · rintro ⟨⟨h1, h2⟩, h3⟩
      refine ⟨h1, ?_, h3⟩
      intro p hp
      rcases List.mem_cons.1 hp with rfl | hp
      · exact h2
      · exact Nat.lt_trans h2 ((ih.1 h3).2.1 p hp)
    · rintro ⟨h1, h2, h3⟩
      exact ⟨⟨h1, h2 (k, w) (by simp)⟩, h3⟩

/-- A part of a memory taken by a test of its entries is in canonical form. -/
theorem Memory.wf_filter {z : Byte} (f : Host.Cell → Bool) {m : List Host.Cell} (h : Memory.wf z m = true) :
    Memory.wf z (m.filter f) = true := by
  induction m with
  | nil => exact h
  | cons q r ih =>
    obtain ⟨k, w⟩ := q
    obtain ⟨h1, h2, h3⟩ := Memory.wf_cons.1 h
    by_cases hf : f (k, w) = true
    · rw [List.filter_cons_of_pos hf]
      exact Memory.wf_cons.2 ⟨h1, fun p hp => h2 p (List.mem_filter.1 hp).1, ih h3⟩
    · rw [List.filter_cons_of_neg hf]
      exact ih h3

theorem above_insert {a i : Nat} {v : Byte} {m : List Host.Cell} (ha : a < i) (h : above a m) :
    above a (Tab.insert m i v) := by
  induction m with
  | nil => intro p hp; rw [List.mem_singleton.1 hp]; exact ha
  | cons q r ih =>
    obtain ⟨k, w⟩ := q
    simp only [Tab.insert]
    split
    · intro p hp
      rcases List.mem_cons.1 hp with rfl | hp
      · exact ha
      · exact h p hp
    · intro p hp
      rcases List.mem_cons.1 hp with rfl | hp
      · exact h (k, w) (by simp)
      · exact ih (fun p hp => h p (by simp [hp])) p hp

theorem Memory.wf_insert {z : Byte} {i : Nat} {v : Byte} {m : List Host.Cell} (hv : v ≠ z)
    (hi : ∀ p ∈ m, p.1 ≠ i) (h : Memory.wf z m = true) : Memory.wf z (Tab.insert m i v) = true := by
  induction m with
  | nil => simp [Tab.insert, Memory.wf, hv]
  | cons q r ih =>
    obtain ⟨k, w⟩ := q
    obtain ⟨h1, h2, h3⟩ := Memory.wf_cons.1 h
    have hk : k ≠ i := hi (k, w) (by simp)
    simp only [Tab.insert]
    split
    · rename_i hlt
      refine Memory.wf_cons.2 ⟨hv, ?_, h⟩
      intro p hp
      rcases List.mem_cons.1 hp with rfl | hp
      · exact hlt
      · exact Nat.lt_trans hlt (h2 p hp)
    · refine Memory.wf_cons.2 ⟨h1, above_insert (by omega) h2, ih (fun p hp => hi p (by simp [hp])) h3⟩

/-- A byte written keeps the canonical form. -/
theorem Memory.wf_set {z : Byte} (i : Nat) (v : Byte) {m : List Host.Cell} (h : Memory.wf z m = true) :
    Memory.wf z (Tab.set (fun _ => z) m i v) = true := by
  unfold Tab.set
  split
  · exact Memory.wf_filter _ h
  · rename_i hv
    exact Memory.wf_insert hv (fun p hp => by simpa [Tab.erase] using (List.mem_filter.1 hp).2) (Memory.wf_filter _ h)

/-- Bytes written keep the canonical form. -/
theorem Memory.wf_memWrite (bs : List Byte) {m : List Host.Cell} (a : Nat) (h : Memory.wf 0 m = true) :
    Memory.wf 0 (memWrite m a bs) = true := by
  induction bs generalizing m a with
  | nil => exact h
  | cons b r ih => exact ih (a + 1) (Memory.wf_set a b h)

/-- Programming flash keeps the canonical form of a slot. -/
theorem Memory.wf_norProgram (bs : List Byte) {m : List Host.Cell} (a : Nat) (h : Memory.wf 0xFF m = true) :
    Memory.wf 0xFF (norProgram m a bs) = true := by
  induction bs generalizing m a with
  | nil => exact h
  | cons b r ih => exact ih (a + 1) (Memory.wf_set a _ h)

/-- Erasing a sector keeps the canonical form of a slot. -/
theorem Memory.wf_eraseIn (base sector : Nat) {m : List Host.Cell} (h : Memory.wf 0xFF m = true) :
    Memory.wf 0xFF (eraseIn base sector m) = true :=
  Memory.wf_filter _ h

/-- Engine writes keep the canonical form. -/
theorem Memory.wf_engineWrite (base size : Nat) (l : List (Nat × List Byte)) {m : List Host.Cell}
    (h : Memory.wf 0 m = true) : Memory.wf 0 (engineWrite base size l m) = true := by
  unfold engineWrite
  induction l generalizing m with
  | nil => exact h
  | cons w r ih => exact ih (Memory.wf_memWrite _ _ h)

/-! ### Reading back -/

theorem memGet_set (m : List Host.Cell) (i j : Nat) (v : Byte) :
    memGet (Tab.set (fun _ => (0 : Byte)) m i v) j = if j = i then v else memGet m j :=
  Tab.get_set _ _ _ _ _

/-- A byte outside the bytes written reads as before. -/
theorem memGet_memWrite_outside (bs : List Byte) (m : List Host.Cell) (a j : Nat) (h : j < a ∨ a + bs.length ≤ j) :
    memGet (memWrite m a bs) j = memGet m j := by
  induction bs generalizing m a with
  | nil => rfl
  | cons b r ih =>
    simp only [List.length_cons] at h
    rw [memWrite, ih _ _ (by omega), memGet_set, if_neg (by omega)]

/-- The byte `k` of the bytes written. -/
theorem memGet_memWrite (bs : List Byte) (m : List Host.Cell) (a k : Nat) (h : k < bs.length) :
    memGet (memWrite m a bs) (a + k) = bs[k] := by
  induction bs generalizing m a k with
  | nil => exact absurd h (Nat.not_lt_zero k)
  | cons b r ih =>
    rw [memWrite]
    cases k with
    | zero => rw [memGet_memWrite_outside _ _ _ _ (by omega), memGet_set, if_pos (by omega)]; rfl
    | succ k =>
      have := ih (Tab.set (fun _ => (0 : Byte)) m a b) (a + 1) k (by simpa using h)
      rw [show a + (k + 1) = a + 1 + k by omega, this]
      rfl

/-- At reset every memory is in canonical form. -/
theorem memoriesOk_reset : MemoriesOk State.reset.dev :=
  ⟨rfl, fun _ => rfl, fun _ => rfl, rfl, rfl, rfl, rfl⟩

end Sys2Proof.Machine
end

