-- ==== Sys2Proof/Laws/Exec.lean ====
section
/-!
SUPPORT. The meaning of every row as one act of the device: what every step is, and what a mailbox command is.
-/
namespace Sys2Proof.Machine
open Sys2Proof

/-- A mailbox command is its request run under its particulars. -/
theorem exec_command (i : Instr) (s : State) (op : Nat) (c : Cmd) (r : Req) (h : commandOf i = some (op, c, r)) :
    exec i s = .next (s.act (mailboxRun op c r)) := by
  cases i <;> simp only [commandOf, Option.some.injEq, Prod.mk.injEq, reduceCtorEq] at h <;>
    (obtain ⟨rfl, rfl, rfl⟩ := h; rfl)

theorem exec_act (i : Instr) (s : State) : ∃ f, exec i s = .next (s.act f) := by
  cases i <;> exact ⟨_, rfl⟩

theorem yields_act {i : Instr} {s : State} {f : Device → Device} {p : Device → Prop} (h : exec i s = .next (s.act f))
    (k : p (drivePins (f (putOut [] s.dev)))) : Yields i s p :=
  ⟨_, h, rfl, k⟩

end Sys2Proof.Machine
end

