-- ==== Sys2Proof/Laws/Frames.lean ====
section
/-!
SUPPORT. Frames: what `Only` says of a composition, of the pins that follow, and of one change of one part.
-/
namespace Sys2Proof.Machine
open Sys2Proof

theorem Part.same_refl (s : Device) (p : Part) : p.same s s := by cases p <;> exact rfl

theorem Part.same_trans {s t u : Device} {p : Part} (h : p.same s t) (k : p.same t u) : p.same s u := by
  cases p <;> simp only [Part.same] at * <;> first | exact k.trans h | (rw [k, h])

theorem Only.refl (l : List Part) (s : Device) : Only l s s := fun p _ => p.same_refl s

theorem Only.trans {l : List Part} {s t u : Device} (h : Only l s t) (k : Only l t u) : Only l s u :=
  fun p hp => Part.same_trans (h p hp) (k p hp)

theorem Only.mono {l m : List Part} {s t : Device} (h : Only l s t) (k : ∀ p ∈ l, p ∈ m) : Only m s t :=
  fun p hp => h p fun x => hp (k p x)

theorem Only.ite {l : List Part} {s t u : Device} (c : Prop) [Decidable c] (h : Only l s t) (k : Only l s u) :
    Only l s (if c then t else u) := by split <;> assumption

theorem Only.each {α : Type} {l : List Part} (xs : List α) (f : α → Device → Device) (h : ∀ x s, Only l s (f x s))
    (s : Device) : Only l s (Machine.each xs f s) := by
  unfold Machine.each
  induction xs generalizing s with
  | nil => exact .refl l s
  | cons a r ih => exact (h a s).trans (ih (f a s))

theorem only_drivePins (l : List Part) (s : Device) : Only l s (drivePins s) := by
  intro p _
  rw [drivePins_eq]
  cases p <;> simp [Part.same]

theorem only_putOut (l : List Part) (o : List Output) (s : Device) : Only l s (putOut o s) := by
  intro p _; cases p <;> rfl

/-- The frame of an act of the device is that of its effect. -/
theorem only_act {l : List Part} {f : Device → Device} {s : Device} (h : Only l (putOut [] s) (f (putOut [] s))) :
    Only l s (drivePins (f (putOut [] s))) :=
  ((only_putOut l [] s).trans h).trans (only_drivePins l _)

theorem Aside.only {s t : Device} (h : Aside s t) : Only Part.ofFault s t := by
  obtain ⟨_, _, _, _, _, _, rfl⟩ := h
  intro p hp
  cases p <;> first | rfl | exact absurd (by decide) hp

/-- The clocks after an event of a fault source, but for the domains in reset. -/
theorem Aside.clock {s t : Device} (h : Aside s t) : t.clock = { s.clock with inReset := t.clock.inReset } := by
  obtain ⟨_, _, _, _, _, _, rfl⟩ := h; rfl

/-- The memory after an event of a fault source, but for the captures. -/
theorem Aside.mem {s t : Device} (h : Aside s t) : t.mem = { s.mem with caps := t.mem.caps } := by
  obtain ⟨_, _, _, _, _, _, rfl⟩ := h; rfl

@[simp] theorem fault_clock_pll (id inst : Nat) (detail : List Byte) (s : Device) :
    (fault id inst detail s).clock.pll = s.clock.pll := by
  rw [(aside_fault id inst detail s).clock]
@[simp] theorem fault_clock_aligned (id inst : Nat) (detail : List Byte) (s : Device) :
    (fault id inst detail s).clock.aligned = s.clock.aligned := by
  rw [(aside_fault id inst detail s).clock]
@[simp] theorem fault_clock_xi (id inst : Nat) (detail : List Byte) (s : Device) :
    (fault id inst detail s).clock.xi = s.clock.xi := by
  rw [(aside_fault id inst detail s).clock]
@[simp] theorem fault_clock_sels (id inst : Nat) (detail : List Byte) (s : Device) :
    (fault id inst detail s).clock.sels = s.clock.sels := by
  rw [(aside_fault id inst detail s).clock]
@[simp] theorem fault_clock_reselect (id inst : Nat) (detail : List Byte) (s : Device) :
    (fault id inst detail s).clock.reselect = s.clock.reselect := by
  rw [(aside_fault id inst detail s).clock]
@[simp] theorem fault_clock_timingWaits (id inst : Nat) (detail : List Byte) (s : Device) :
    (fault id inst detail s).clock.timingWaits = s.clock.timingWaits := by
  rw [(aside_fault id inst detail s).clock]
@[simp] theorem fault_clock_coasts (id inst : Nat) (detail : List Byte) (s : Device) :
    (fault id inst detail s).clock.coasts = s.clock.coasts := by
  rw [(aside_fault id inst detail s).clock]
@[simp] theorem fault_clock_foscTrim (id inst : Nat) (detail : List Byte) (s : Device) :
    (fault id inst detail s).clock.foscTrim = s.clock.foscTrim := by
  rw [(aside_fault id inst detail s).clock]
@[simp] theorem fault_clock_soscTrim (id inst : Nat) (detail : List Byte) (s : Device) :
    (fault id inst detail s).clock.soscTrim = s.clock.soscTrim := by
  rw [(aside_fault id inst detail s).clock]
@[simp] theorem fault_clock_trimAge (id inst : Nat) (detail : List Byte) (s : Device) :
    (fault id inst detail s).clock.trimAge = s.clock.trimAge := by
  rw [(aside_fault id inst detail s).clock]
@[simp] theorem fault_clock_clkEn (id inst : Nat) (detail : List Byte) (s : Device) :
    (fault id inst detail s).clock.clkEn = s.clock.clkEn := by
  rw [(aside_fault id inst detail s).clock]
@[simp] theorem fault_clock_refused (id inst : Nat) (detail : List Byte) (s : Device) :
    (fault id inst detail s).clock.refused = s.clock.refused := by
  rw [(aside_fault id inst detail s).clock]
@[simp] theorem fault_clock_holds (id inst : Nat) (detail : List Byte) (s : Device) :
    (fault id inst detail s).clock.holds = s.clock.holds := by
  rw [(aside_fault id inst detail s).clock]
@[simp] theorem fault_clock_delayed (id inst : Nat) (detail : List Byte) (s : Device) :
    (fault id inst detail s).clock.delayed = s.clock.delayed := by
  rw [(aside_fault id inst detail s).clock]
@[simp] theorem fault_clock_lastCause (id inst : Nat) (detail : List Byte) (s : Device) :
    (fault id inst detail s).clock.lastCause = s.clock.lastCause := by
  rw [(aside_fault id inst detail s).clock]
@[simp] theorem fault_clock_timingHold (id inst : Nat) (detail : List Byte) (s : Device) :
    (fault id inst detail s).clock.timingHold = s.clock.timingHold := by
  rw [(aside_fault id inst detail s).clock]
@[simp] theorem fault_clock_xingDiscard (id inst : Nat) (detail : List Byte) (s : Device) :
    (fault id inst detail s).clock.xingDiscard = s.clock.xingDiscard := by
  rw [(aside_fault id inst detail s).clock]
@[simp] theorem fault_clock_power (id inst : Nat) (detail : List Byte) (s : Device) :
    (fault id inst detail s).clock.power = s.clock.power := by
  rw [(aside_fault id inst detail s).clock]
@[simp] theorem fault_clock_resetN (id inst : Nat) (detail : List Byte) (s : Device) :
    (fault id inst detail s).clock.resetN = s.clock.resetN := by
  rw [(aside_fault id inst detail s).clock]
@[simp] theorem fault_clock_alignTicks (id inst : Nat) (detail : List Byte) (s : Device) :
    (fault id inst detail s).clock.alignTicks = s.clock.alignTicks := by
  rw [(aside_fault id inst detail s).clock]
@[simp] theorem fault_clock_orderSeen (id inst : Nat) (detail : List Byte) (s : Device) :
    (fault id inst detail s).clock.orderSeen = s.clock.orderSeen := by
  rw [(aside_fault id inst detail s).clock]
@[simp] theorem fault_clock_heartbeatAge (id inst : Nat) (detail : List Byte) (s : Device) :
    (fault id inst detail s).clock.heartbeatAge = s.clock.heartbeatAge := by
  rw [(aside_fault id inst detail s).clock]
@[simp] theorem fault_clock_snapAge (id inst : Nat) (detail : List Byte) (s : Device) :
    (fault id inst detail s).clock.snapAge = s.clock.snapAge := by
  rw [(aside_fault id inst detail s).clock]
@[simp] theorem faultOn_clock_pll (id inst : Nat) (detail : List Byte) (s : Device) :
    (faultOn id inst detail s).clock.pll = s.clock.pll := by
  rw [(aside_faultOn id inst detail s).clock]
@[simp] theorem faultOn_clock_aligned (id inst : Nat) (detail : List Byte) (s : Device) :
    (faultOn id inst detail s).clock.aligned = s.clock.aligned := by
  rw [(aside_faultOn id inst detail s).clock]
@[simp] theorem faultOn_clock_xi (id inst : Nat) (detail : List Byte) (s : Device) :
    (faultOn id inst detail s).clock.xi = s.clock.xi := by
  rw [(aside_faultOn id inst detail s).clock]
@[simp] theorem faultOn_clock_sels (id inst : Nat) (detail : List Byte) (s : Device) :
    (faultOn id inst detail s).clock.sels = s.clock.sels := by
  rw [(aside_faultOn id inst detail s).clock]
@[simp] theorem faultOn_clock_reselect (id inst : Nat) (detail : List Byte) (s : Device) :
    (faultOn id inst detail s).clock.reselect = s.clock.reselect := by
  rw [(aside_faultOn id inst detail s).clock]
@[simp] theorem faultOn_clock_timingWaits (id inst : Nat) (detail : List Byte) (s : Device) :
    (faultOn id inst detail s).clock.timingWaits = s.clock.timingWaits := by
  rw [(aside_faultOn id inst detail s).clock]
@[simp] theorem faultOn_clock_coasts (id inst : Nat) (detail : List Byte) (s : Device) :
    (faultOn id inst detail s).clock.coasts = s.clock.coasts := by
  rw [(aside_faultOn id inst detail s).clock]
@[simp] theorem faultOn_clock_foscTrim (id inst : Nat) (detail : List Byte) (s : Device) :
    (faultOn id inst detail s).clock.foscTrim = s.clock.foscTrim := by
  rw [(aside_faultOn id inst detail s).clock]
@[simp] theorem faultOn_clock_soscTrim (id inst : Nat) (detail : List Byte) (s : Device) :
    (faultOn id inst detail s).clock.soscTrim = s.clock.soscTrim := by
  rw [(aside_faultOn id inst detail s).clock]
@[simp] theorem faultOn_clock_trimAge (id inst : Nat) (detail : List Byte) (s : Device) :
    (faultOn id inst detail s).clock.trimAge = s.clock.trimAge := by
  rw [(aside_faultOn id inst detail s).clock]
@[simp] theorem faultOn_clock_clkEn (id inst : Nat) (detail : List Byte) (s : Device) :
    (faultOn id inst detail s).clock.clkEn = s.clock.clkEn := by
  rw [(aside_faultOn id inst detail s).clock]
@[simp] theorem faultOn_clock_refused (id inst : Nat) (detail : List Byte) (s : Device) :
    (faultOn id inst detail s).clock.refused = s.clock.refused := by
  rw [(aside_faultOn id inst detail s).clock]
@[simp] theorem faultOn_clock_holds (id inst : Nat) (detail : List Byte) (s : Device) :
    (faultOn id inst detail s).clock.holds = s.clock.holds := by
  rw [(aside_faultOn id inst detail s).clock]
@[simp] theorem faultOn_clock_delayed (id inst : Nat) (detail : List Byte) (s : Device) :
    (faultOn id inst detail s).clock.delayed = s.clock.delayed := by
  rw [(aside_faultOn id inst detail s).clock]
@[simp] theorem faultOn_clock_lastCause (id inst : Nat) (detail : List Byte) (s : Device) :
    (faultOn id inst detail s).clock.lastCause = s.clock.lastCause := by
  rw [(aside_faultOn id inst detail s).clock]
@[simp] theorem faultOn_clock_timingHold (id inst : Nat) (detail : List Byte) (s : Device) :
    (faultOn id inst detail s).clock.timingHold = s.clock.timingHold := by
  rw [(aside_faultOn id inst detail s).clock]
@[simp] theorem faultOn_clock_xingDiscard (id inst : Nat) (detail : List Byte) (s : Device) :
    (faultOn id inst detail s).clock.xingDiscard = s.clock.xingDiscard := by
  rw [(aside_faultOn id inst detail s).clock]
@[simp] theorem faultOn_clock_power (id inst : Nat) (detail : List Byte) (s : Device) :
    (faultOn id inst detail s).clock.power = s.clock.power := by
  rw [(aside_faultOn id inst detail s).clock]
@[simp] theorem faultOn_clock_resetN (id inst : Nat) (detail : List Byte) (s : Device) :
    (faultOn id inst detail s).clock.resetN = s.clock.resetN := by
  rw [(aside_faultOn id inst detail s).clock]
@[simp] theorem faultOn_clock_alignTicks (id inst : Nat) (detail : List Byte) (s : Device) :
    (faultOn id inst detail s).clock.alignTicks = s.clock.alignTicks := by
  rw [(aside_faultOn id inst detail s).clock]
@[simp] theorem faultOn_clock_orderSeen (id inst : Nat) (detail : List Byte) (s : Device) :
    (faultOn id inst detail s).clock.orderSeen = s.clock.orderSeen := by
  rw [(aside_faultOn id inst detail s).clock]
@[simp] theorem faultOn_clock_heartbeatAge (id inst : Nat) (detail : List Byte) (s : Device) :
    (faultOn id inst detail s).clock.heartbeatAge = s.clock.heartbeatAge := by
  rw [(aside_faultOn id inst detail s).clock]
@[simp] theorem faultOn_clock_snapAge (id inst : Nat) (detail : List Byte) (s : Device) :
    (faultOn id inst detail s).clock.snapAge = s.clock.snapAge := by
  rw [(aside_faultOn id inst detail s).clock]
@[simp] theorem faultOff_clock_pll (id inst : Nat) (s : Device) :
    (faultOff id inst s).clock.pll = s.clock.pll := by
  rw [(aside_faultOff id inst s).clock]
@[simp] theorem faultOff_clock_aligned (id inst : Nat) (s : Device) :
    (faultOff id inst s).clock.aligned = s.clock.aligned := by
  rw [(aside_faultOff id inst s).clock]
@[simp] theorem faultOff_clock_xi (id inst : Nat) (s : Device) :
    (faultOff id inst s).clock.xi = s.clock.xi := by
  rw [(aside_faultOff id inst s).clock]
@[simp] theorem faultOff_clock_sels (id inst : Nat) (s : Device) :
    (faultOff id inst s).clock.sels = s.clock.sels := by
  rw [(aside_faultOff id inst s).clock]
@[simp] theorem faultOff_clock_reselect (id inst : Nat) (s : Device) :
    (faultOff id inst s).clock.reselect = s.clock.reselect := by
  rw [(aside_faultOff id inst s).clock]
@[simp] theorem faultOff_clock_timingWaits (id inst : Nat) (s : Device) :
    (faultOff id inst s).clock.timingWaits = s.clock.timingWaits := by
  rw [(aside_faultOff id inst s).clock]
@[simp] theorem faultOff_clock_coasts (id inst : Nat) (s : Device) :
    (faultOff id inst s).clock.coasts = s.clock.coasts := by
  rw [(aside_faultOff id inst s).clock]
@[simp] theorem faultOff_clock_foscTrim (id inst : Nat) (s : Device) :
    (faultOff id inst s).clock.foscTrim = s.clock.foscTrim := by
  rw [(aside_faultOff id inst s).clock]
@[simp] theorem faultOff_clock_soscTrim (id inst : Nat) (s : Device) :
    (faultOff id inst s).clock.soscTrim = s.clock.soscTrim := by
  rw [(aside_faultOff id inst s).clock]
@[simp] theorem faultOff_clock_trimAge (id inst : Nat) (s : Device) :
    (faultOff id inst s).clock.trimAge = s.clock.trimAge := by
  rw [(aside_faultOff id inst s).clock]
@[simp] theorem faultOff_clock_clkEn (id inst : Nat) (s : Device) :
    (faultOff id inst s).clock.clkEn = s.clock.clkEn := by
  rw [(aside_faultOff id inst s).clock]
@[simp] theorem faultOff_clock_refused (id inst : Nat) (s : Device) :
    (faultOff id inst s).clock.refused = s.clock.refused := by
  rw [(aside_faultOff id inst s).clock]
@[simp] theorem faultOff_clock_holds (id inst : Nat) (s : Device) :
    (faultOff id inst s).clock.holds = s.clock.holds := by
  rw [(aside_faultOff id inst s).clock]
@[simp] theorem faultOff_clock_delayed (id inst : Nat) (s : Device) :
    (faultOff id inst s).clock.delayed = s.clock.delayed := by
  rw [(aside_faultOff id inst s).clock]
@[simp] theorem faultOff_clock_lastCause (id inst : Nat) (s : Device) :
    (faultOff id inst s).clock.lastCause = s.clock.lastCause := by
  rw [(aside_faultOff id inst s).clock]
@[simp] theorem faultOff_clock_timingHold (id inst : Nat) (s : Device) :
    (faultOff id inst s).clock.timingHold = s.clock.timingHold := by
  rw [(aside_faultOff id inst s).clock]
@[simp] theorem faultOff_clock_xingDiscard (id inst : Nat) (s : Device) :
    (faultOff id inst s).clock.xingDiscard = s.clock.xingDiscard := by
  rw [(aside_faultOff id inst s).clock]
@[simp] theorem faultOff_clock_power (id inst : Nat) (s : Device) :
    (faultOff id inst s).clock.power = s.clock.power := by
  rw [(aside_faultOff id inst s).clock]
@[simp] theorem faultOff_clock_resetN (id inst : Nat) (s : Device) :
    (faultOff id inst s).clock.resetN = s.clock.resetN := by
  rw [(aside_faultOff id inst s).clock]
@[simp] theorem faultOff_clock_alignTicks (id inst : Nat) (s : Device) :
    (faultOff id inst s).clock.alignTicks = s.clock.alignTicks := by
  rw [(aside_faultOff id inst s).clock]
@[simp] theorem faultOff_clock_orderSeen (id inst : Nat) (s : Device) :
    (faultOff id inst s).clock.orderSeen = s.clock.orderSeen := by
  rw [(aside_faultOff id inst s).clock]
@[simp] theorem faultOff_clock_heartbeatAge (id inst : Nat) (s : Device) :
    (faultOff id inst s).clock.heartbeatAge = s.clock.heartbeatAge := by
  rw [(aside_faultOff id inst s).clock]
@[simp] theorem faultOff_clock_snapAge (id inst : Nat) (s : Device) :
    (faultOff id inst s).clock.snapAge = s.clock.snapAge := by
  rw [(aside_faultOff id inst s).clock]
@[simp] theorem faultCond_clock_pll (id inst : Nat) (holds : Bool) (detail : List Byte) (s : Device) :
    (faultCond id inst holds detail s).clock.pll = s.clock.pll := by
  rw [(aside_faultCond id inst holds detail s).clock]
@[simp] theorem faultCond_clock_aligned (id inst : Nat) (holds : Bool) (detail : List Byte) (s : Device) :
    (faultCond id inst holds detail s).clock.aligned = s.clock.aligned := by
  rw [(aside_faultCond id inst holds detail s).clock]
@[simp] theorem faultCond_clock_xi (id inst : Nat) (holds : Bool) (detail : List Byte) (s : Device) :
    (faultCond id inst holds detail s).clock.xi = s.clock.xi := by
  rw [(aside_faultCond id inst holds detail s).clock]
@[simp] theorem faultCond_clock_sels (id inst : Nat) (holds : Bool) (detail : List Byte) (s : Device) :
    (faultCond id inst holds detail s).clock.sels = s.clock.sels := by
  rw [(aside_faultCond id inst holds detail s).clock]
@[simp] theorem faultCond_clock_reselect (id inst : Nat) (holds : Bool) (detail : List Byte) (s : Device) :
    (faultCond id inst holds detail s).clock.reselect = s.clock.reselect := by
  rw [(aside_faultCond id inst holds detail s).clock]
@[simp] theorem faultCond_clock_timingWaits (id inst : Nat) (holds : Bool) (detail : List Byte) (s : Device) :
    (faultCond id inst holds detail s).clock.timingWaits = s.clock.timingWaits := by
  rw [(aside_faultCond id inst holds detail s).clock]
@[simp] theorem faultCond_clock_coasts (id inst : Nat) (holds : Bool) (detail : List Byte) (s : Device) :
    (faultCond id inst holds detail s).clock.coasts = s.clock.coasts := by
  rw [(aside_faultCond id inst holds detail s).clock]
@[simp] theorem faultCond_clock_foscTrim (id inst : Nat) (holds : Bool) (detail : List Byte) (s : Device) :
    (faultCond id inst holds detail s).clock.foscTrim = s.clock.foscTrim := by
  rw [(aside_faultCond id inst holds detail s).clock]
@[simp] theorem faultCond_clock_soscTrim (id inst : Nat) (holds : Bool) (detail : List Byte) (s : Device) :
    (faultCond id inst holds detail s).clock.soscTrim = s.clock.soscTrim := by
  rw [(aside_faultCond id inst holds detail s).clock]
@[simp] theorem faultCond_clock_trimAge (id inst : Nat) (holds : Bool) (detail : List Byte) (s : Device) :
    (faultCond id inst holds detail s).clock.trimAge = s.clock.trimAge := by
  rw [(aside_faultCond id inst holds detail s).clock]
@[simp] theorem faultCond_clock_clkEn (id inst : Nat) (holds : Bool) (detail : List Byte) (s : Device) :
    (faultCond id inst holds detail s).clock.clkEn = s.clock.clkEn := by
  rw [(aside_faultCond id inst holds detail s).clock]
@[simp] theorem faultCond_clock_refused (id inst : Nat) (holds : Bool) (detail : List Byte) (s : Device) :
    (faultCond id inst holds detail s).clock.refused = s.clock.refused := by
  rw [(aside_faultCond id inst holds detail s).clock]
@[simp] theorem faultCond_clock_holds (id inst : Nat) (holds : Bool) (detail : List Byte) (s : Device) :
    (faultCond id inst holds detail s).clock.holds = s.clock.holds := by
  rw [(aside_faultCond id inst holds detail s).clock]
@[simp] theorem faultCond_clock_delayed (id inst : Nat) (holds : Bool) (detail : List Byte) (s : Device) :
    (faultCond id inst holds detail s).clock.delayed = s.clock.delayed := by
  rw [(aside_faultCond id inst holds detail s).clock]
@[simp] theorem faultCond_clock_lastCause (id inst : Nat) (holds : Bool) (detail : List Byte) (s : Device) :
    (faultCond id inst holds detail s).clock.lastCause = s.clock.lastCause := by
  rw [(aside_faultCond id inst holds detail s).clock]
@[simp] theorem faultCond_clock_timingHold (id inst : Nat) (holds : Bool) (detail : List Byte) (s : Device) :
    (faultCond id inst holds detail s).clock.timingHold = s.clock.timingHold := by
  rw [(aside_faultCond id inst holds detail s).clock]
@[simp] theorem faultCond_clock_xingDiscard (id inst : Nat) (holds : Bool) (detail : List Byte) (s : Device) :
    (faultCond id inst holds detail s).clock.xingDiscard = s.clock.xingDiscard := by
  rw [(aside_faultCond id inst holds detail s).clock]
@[simp] theorem faultCond_clock_power (id inst : Nat) (holds : Bool) (detail : List Byte) (s : Device) :
    (faultCond id inst holds detail s).clock.power = s.clock.power := by
  rw [(aside_faultCond id inst holds detail s).clock]
@[simp] theorem faultCond_clock_resetN (id inst : Nat) (holds : Bool) (detail : List Byte) (s : Device) :
    (faultCond id inst holds detail s).clock.resetN = s.clock.resetN := by
  rw [(aside_faultCond id inst holds detail s).clock]
@[simp] theorem faultCond_clock_alignTicks (id inst : Nat) (holds : Bool) (detail : List Byte) (s : Device) :
    (faultCond id inst holds detail s).clock.alignTicks = s.clock.alignTicks := by
  rw [(aside_faultCond id inst holds detail s).clock]
@[simp] theorem faultCond_clock_orderSeen (id inst : Nat) (holds : Bool) (detail : List Byte) (s : Device) :
    (faultCond id inst holds detail s).clock.orderSeen = s.clock.orderSeen := by
  rw [(aside_faultCond id inst holds detail s).clock]
@[simp] theorem faultCond_clock_heartbeatAge (id inst : Nat) (holds : Bool) (detail : List Byte) (s : Device) :
    (faultCond id inst holds detail s).clock.heartbeatAge = s.clock.heartbeatAge := by
  rw [(aside_faultCond id inst holds detail s).clock]
@[simp] theorem faultCond_clock_snapAge (id inst : Nat) (holds : Bool) (detail : List Byte) (s : Device) :
    (faultCond id inst holds detail s).clock.snapAge = s.clock.snapAge := by
  rw [(aside_faultCond id inst holds detail s).clock]

@[simp] theorem faultOff_clock (id inst : Nat) (s : Device) : (faultOff id inst s).clock = s.clock := by
  simp only [faultOff]; split <;> rfl
@[simp] theorem faultOff_crypto (id inst : Nat) (s : Device) : (faultOff id inst s).crypto = s.crypto := by
  simp only [faultOff]; split <;> rfl
@[simp] theorem faultOff_kme (id inst : Nat) (s : Device) : (faultOff id inst s).kme = s.kme := by
  simp only [faultOff]; split <;> rfl
@[simp] theorem faultOff_mem (id inst : Nat) (s : Device) : (faultOff id inst s).mem = s.mem := by
  simp only [faultOff]; split <;> rfl
@[simp] theorem faultOff_stack (id inst : Nat) (s : Device) : (faultOff id inst s).stack = s.stack := by
  simp only [faultOff]; split <;> rfl

theorem only_faultOff (id inst : Nat) (s : Device) : Only [.fault] s (faultOff id inst s) := by
  intro p hp
  cases p <;> simp_all [Part.same]

end Sys2Proof.Machine
end

