-- ==== Sys2Proof/Laws/Resets.lean ====
section
/-!
SUPPORT. Domains in reset: what entering reset, and entering it with every contained domain, changes and leaves.
-/
namespace Sys2Proof.Machine
open Sys2Proof
theorem inReset_enterReset (d : Domain) (c : Nat) (s : Device) : inReset (enterReset d c s) d = true := by
  unfold enterReset
  split
  · rename_i h; simp only [inReset, List.any_eq_true, decide_eq_true_eq]; exact ⟨_, h, rfl⟩
  · simp [inReset, modClock]
theorem inReset_mono (d e : Domain) (c : Nat) (s : Device) (h : inReset s e = true) : inReset (enterReset d c s) e = true := by
  unfold enterReset
  split
  · exact h
  · simp_all [inReset, modClock]
theorem inReset_each_mono (l : List Domain) (c : Nat) (s : Device) (e : Domain) (h : inReset s e = true) :
    inReset (each l (fun x s => enterReset x c s) s) e = true := by
  unfold each
  induction l generalizing s with
  | nil => exact h
  | cons a r ih => exact ih _ (inReset_mono _ _ _ _ h)
theorem inReset_each (l : List Domain) (c : Nat) (s : Device) (e : Domain) (h : e ∈ l) :
    inReset (each l (fun x s => enterReset x c s) s) e = true := by
  induction l generalizing s with
  | nil => cases h
  | cons a r ih =>
    rcases List.mem_cons.mp h with rfl | h
    · exact inReset_each_mono r c _ _ (inReset_enterReset _ _ _)
    · exact ih _ h
theorem enterReset_form (d : Domain) (c : Nat) (s : Device) :
    ∃ l, enterReset d c s = { s with clock := { s.clock with inReset := l } } := by
  unfold enterReset; split
  · exact ⟨s.clock.inReset, rfl⟩
  · exact ⟨_, rfl⟩
theorem each_enterReset_form (l : List Domain) (c : Nat) (s : Device) :
    ∃ r, each l (fun x s => enterReset x c s) s = { s with clock := { s.clock with inReset := r } } := by
  induction l generalizing s with
  | nil => exact ⟨s.clock.inReset, rfl⟩
  | cons a r ih =>
    obtain ⟨x, h⟩ := enterReset_form a c s
    obtain ⟨y, k⟩ := ih (enterReset a c s)
    refine ⟨y, ?_⟩
    show each r _ (enterReset a c s) = _
    rw [k, h]
@[simp] theorem inReset_drivePins (s : Device) (d : Domain) : inReset (drivePins s) d = inReset s d := by
  simp [inReset]
theorem inReset_modClock (f : ClockSt → ClockSt) (s : Device) (d : Domain) (h : (f s.clock).inReset = s.clock.inReset) :
    inReset (modClock f s) d = inReset s d := by
  simp only [inReset, modClock_clock, h]

theorem enterDomain_device_eq (c : Nat) (s : Device) (h : inReset s .device = false) :
    enterDomain .device c s =
      let t := each (containedIn s) (fun x s => enterReset x 4 s)
        (enterReset .device c (modClock (fun k => { k with lastCause := c }) (deviceReset s)))
      if c = 2 || c = 3 || c = 5 then
        modClock (fun k => { k with holds := (k.holds.filter fun h => h.1 ≠ .device) ++ [(.device, 2)] }) t
      else t := by
  have hc : containedIn (enterReset .device c (modClock (fun k => { k with lastCause := c }) (deviceReset s))) =
      containedIn s := by
    obtain ⟨l, hl⟩ := enterReset_form .device c (modClock (fun k => { k with lastCause := c }) (deviceReset s))
    rw [hl]
    rfl
  rw [← hc]
  simp only [enterDomain, h, Bool.not_false, Bool.not_true, Bool.false_eq_true, if_false, if_true, reduceCtorEq,
    decide_true, decide_false, Bool.and_true, Bool.true_or, Bool.and_false, resetContents]

/-- DEVICE enters reset from without: every part but the clocks is as its reset leaves it. -/
theorem enterDomain_device (c : Nat) (s : Device) (h : inReset s .device = false) :
    ∃ k : ClockSt, enterDomain .device c s = { deviceReset s with clock := k } ∧ k.lastCause = c ∧
      k.resetN = s.clock.resetN ∧ k.timingHold = s.clock.timingHold := by
  obtain ⟨l, hl⟩ := enterReset_form .device c (modClock (fun k => { k with lastCause := c }) (deviceReset s))
  obtain ⟨r, hr⟩ := each_enterReset_form (containedIn s) 4
    (enterReset .device c (modClock (fun k => { k with lastCause := c }) (deviceReset s)))
  rw [enterDomain_device_eq c s h, hr, hl]
  dsimp only
  split <;> exact ⟨_, rfl, rfl, rfl, rfl⟩

/-- DEVICE and every domain that it contains are then in reset. -/
theorem inReset_enterDomain_device (c : Nat) (s : Device) (h : inReset s .device = false) (d : Domain)
    (k : d = .device ∨ d ∈ containedIn s) : inReset (enterDomain .device c s) d = true := by
  have i1 := inReset_each_mono (containedIn s) 4 _ _
    (inReset_enterReset .device c (modClock (fun k => { k with lastCause := c }) (deviceReset s)))
  have i2 := inReset_each (containedIn s) 4
    (enterReset .device c (modClock (fun k => { k with lastCause := c }) (deviceReset s)))
  rw [enterDomain_device_eq c s h]
  dsimp only
  split
  · rw [inReset_modClock _ _ _ rfl]
    rcases k with rfl | k
    · exact i1
    · exact i2 d k
  · rcases k with rfl | k
    · exact i1
    · exact i2 d k

end Sys2Proof.Machine
end

