-- ==== Sys2Proof/Laws/Getters.lean ====
section
/-!
SUPPORT. What a part of the device reads as does not depend on the outputs of the last step nor on the pins that
follow the state.
-/
namespace Sys2Proof.Machine
open Sys2Proof
@[simp] theorem msixWord_putOut (i : Nat) (o : List Output) (s : Device) :
    msixWord (putOut o s) i = msixWord s i := by simp [msixWord] <;> rfl
@[simp] theorem msixWord_drivePins (i : Nat) (s : Device) :
    msixWord (drivePins s) i = msixWord s i := by simp [msixWord]
@[simp] theorem msixMasked_putOut (v : Nat) (o : List Output) (s : Device) :
    msixMasked (putOut o s) v = msixMasked s v := by simp [msixMasked] <;> rfl
@[simp] theorem msixMasked_drivePins (v : Nat) (s : Device) :
    msixMasked (drivePins s) v = msixMasked s v := by simp [msixMasked]
@[simp] theorem plan_putOut (o : List Output) (s : Device) : plan (putOut o s) = plan s := by simp [plan] <;> rfl
@[simp] theorem plan_drivePins (s : Device) : plan (drivePins s) = plan s := by simp [plan]
@[simp] theorem modeOf_putOut (c : Carrier) (o : List Output) (s : Device) :
    modeOf (putOut o s) c = modeOf s c := by simp [modeOf] <;> rfl
@[simp] theorem modeOf_drivePins (c : Carrier) (s : Device) : modeOf (drivePins s) c = modeOf s c := by simp [modeOf]
@[simp] theorem native_putOut (c : Carrier) (o : List Output) (s : Device) :
    native (putOut o s) c = native s c := by simp [native] <;> rfl
@[simp] theorem native_drivePins (c : Carrier) (s : Device) : native (drivePins s) c = native s c := by simp [native]
@[simp] theorem zr_putOut (c : Carrier) (o : List Output) (s : Device) :
    zr (putOut o s) c = zr s c := by simp [zr] <;> rfl
@[simp] theorem zr_drivePins (c : Carrier) (s : Device) : zr (drivePins s) c = zr s c := by simp [zr]
@[simp] theorem accepted_putOut (key : Nat) (o : List Output) (s : Device) :
    accepted (putOut o s) key = accepted s key := by simp [accepted] <;> rfl
@[simp] theorem accepted_drivePins (key : Nat) (s : Device) :
    accepted (drivePins s) key = accepted s key := by simp [accepted]
@[simp] theorem inForce_putOut (key : Nat) (o : List Output) (s : Device) :
    inForce (putOut o s) key = inForce s key := by simp [inForce] <;> rfl
@[simp] theorem inForce_drivePins (key : Nat) (s : Device) :
    inForce (drivePins s) key = inForce s key := by simp [inForce]
@[simp] theorem cset_putOut (c : Carrier) (op : Nat) (off : Nat) (o : List Output) (s : Device) :
    cset (putOut o s) c op off = cset s c op off := by simp [cset] <;> rfl
@[simp] theorem cset_drivePins (c : Carrier) (op : Nat) (off : Nat) (s : Device) :
    cset (drivePins s) c op off = cset s c op off := by simp [cset]
@[simp] theorem csetN_putOut (c : Carrier) (op : Nat) (off : Nat) (o : List Output) (s : Device) :
    csetN (putOut o s) c op off = csetN s c op off := by simp [csetN] <;> rfl
@[simp] theorem csetN_drivePins (c : Carrier) (op : Nat) (off : Nat) (s : Device) :
    csetN (drivePins s) c op off = csetN s c op off := by simp [csetN]
@[simp] theorem dset_putOut (op : Nat) (sel : Nat) (off : Nat) (o : List Output) (s : Device) :
    dset (putOut o s) op sel off = dset s op sel off := by simp [dset] <;> rfl
@[simp] theorem dset_drivePins (op : Nat) (sel : Nat) (off : Nat) (s : Device) :
    dset (drivePins s) op sel off = dset s op sel off := by simp [dset]
@[simp] theorem dsetN_putOut (op : Nat) (sel : Nat) (off : Nat) (o : List Output) (s : Device) :
    dsetN (putOut o s) op sel off = dsetN s op sel off := by simp [dsetN] <;> rfl
@[simp] theorem dsetN_drivePins (op : Nat) (sel : Nat) (off : Nat) (s : Device) :
    dsetN (drivePins s) op sel off = dsetN s op sel off := by simp [dsetN]
@[simp] theorem source_putOut (id : Nat) (inst : Nat) (o : List Output) (s : Device) :
    source (putOut o s) id inst = source s id inst := by simp [source] <;> rfl
@[simp] theorem faultSet_putOut (id : Nat) (inst : Nat) (off : Nat) (o : List Output) (s : Device) :
    faultSet (putOut o s) id inst off = faultSet s id inst off := by simp [faultSet] <;> rfl
@[simp] theorem faultSet_drivePins (id : Nat) (inst : Nat) (off : Nat) (s : Device) :
    faultSet (drivePins s) id inst off = faultSet s id inst off := by simp [faultSet]
@[simp] theorem holding_putOut (b : Nat) (p : Nat → Nat → Bool) (o : List Output) (s : Device) :
    holding (putOut o s) b p = holding s b p := by simp [holding] <;> rfl
@[simp] theorem holding_drivePins (b : Nat) (p : Nat → Nat → Bool) (s : Device) :
    holding (drivePins s) b p = holding s b p := by simp [holding]
@[simp] theorem safeState_putOut (o : List Output) (s : Device) :
    safeState (putOut o s) = safeState s := by simp [safeState] <;> rfl
@[simp] theorem safeState_drivePins (s : Device) : safeState (drivePins s) = safeState s := by simp [safeState]
@[simp] theorem squelched_putOut (c : Carrier) (o : List Output) (s : Device) :
    squelched (putOut o s) c = squelched s c := by simp [squelched] <;> rfl
@[simp] theorem squelched_drivePins (c : Carrier) (s : Device) :
    squelched (drivePins s) c = squelched s c := by simp [squelched]
@[simp] theorem coefHeld_putOut (c : Carrier) (o : List Output) (s : Device) :
    coefHeld (putOut o s) c = coefHeld s c := by simp [coefHeld] <;> rfl
@[simp] theorem coefHeld_drivePins (c : Carrier) (s : Device) :
    coefHeld (drivePins s) c = coefHeld s c := by simp [coefHeld]
@[simp] theorem dpllHeld_putOut (o : List Output) (s : Device) :
    dpllHeld (putOut o s) = dpllHeld s := by simp [dpllHeld] <;> rfl
@[simp] theorem dpllHeld_drivePins (s : Device) : dpllHeld (drivePins s) = dpllHeld s := by simp [dpllHeld]
@[simp] theorem cap_putOut (i : Nat) (o : List Output) (s : Device) :
    cap (putOut o s) i = cap s i := by simp [cap] <;> rfl
@[simp] theorem cap_drivePins (i : Nat) (s : Device) : cap (drivePins s) i = cap s i := by simp [cap]
@[simp] theorem sbPort_putOut (i : Nat) (o : List Output) (s : Device) :
    sbPort (putOut o s) i = sbPort s i := by simp [sbPort] <;> rfl
@[simp] theorem sbPort_drivePins (i : Nat) (s : Device) : sbPort (drivePins s) i = sbPort s i := by simp [sbPort]
@[simp] theorem sense_putOut (ch : Nat) (o : List Output) (s : Device) :
    sense (putOut o s) ch = sense s ch := by simp [sense] <;> rfl
@[simp] theorem sense_drivePins (ch : Nat) (s : Device) : sense (drivePins s) ch = sense s ch := by simp [sense]
@[simp] theorem lane_putOut (i : Nat) (o : List Output) (s : Device) :
    lane (putOut o s) i = lane s i := by simp [lane] <;> rfl
@[simp] theorem lane_drivePins (i : Nat) (s : Device) : lane (drivePins s) i = lane s i := by simp [lane]
@[simp] theorem engine_putOut (e : Nat) (o : List Output) (s : Device) :
    engine (putOut o s) e = engine s e := by simp [engine] <;> rfl
@[simp] theorem engine_drivePins (e : Nat) (s : Device) : engine (drivePins s) e = engine s e := by simp [engine]
@[simp] theorem poolSize_putOut (k : Nat) (o : List Output) (s : Device) :
    poolSize (putOut o s) k = poolSize s k := by simp [poolSize] <;> rfl
@[simp] theorem poolSize_drivePins (k : Nat) (s : Device) :
    poolSize (drivePins s) k = poolSize s k := by simp [poolSize]
@[simp] theorem rxModeOf_putOut (c : Carrier) (o : List Output) (s : Device) :
    rxModeOf (putOut o s) c = rxModeOf s c := by simp [rxModeOf] <;> rfl
@[simp] theorem rxModeOf_drivePins (c : Carrier) (s : Device) :
    rxModeOf (drivePins s) c = rxModeOf s c := by simp [rxModeOf]
@[simp] theorem toStack_putOut (t : Time) (o : List Output) (s : Device) :
    toStack (putOut o s) t = toStack s t := by simp [toStack] <;> rfl
@[simp] theorem toStack_drivePins (t : Time) (s : Device) : toStack (drivePins s) t = toStack s t := by simp [toStack]
@[simp] theorem ofStack_putOut (t : Time) (o : List Output) (s : Device) :
    ofStack (putOut o s) t = ofStack s t := by simp [ofStack] <;> rfl
@[simp] theorem ofStack_drivePins (t : Time) (s : Device) : ofStack (drivePins s) t = ofStack s t := by simp [ofStack]
@[simp] theorem upPorts_putOut (except : Option Nat) (o : List Output) (s : Device) :
    upPorts (putOut o s) except = upPorts s except := by simp [upPorts] <;> rfl
@[simp] theorem upPorts_drivePins (except : Option Nat) (s : Device) :
    upPorts (drivePins s) except = upPorts s except := by simp [upPorts]
@[simp] theorem inReset_putOut (d : Domain) (o : List Output) (s : Device) :
    inReset (putOut o s) d = inReset s d := by simp [inReset] <;> rfl
@[simp] theorem groupHere_putOut (g : Nat) (o : List Output) (s : Device) :
    groupHere (putOut o s) g = groupHere s g := by simp [groupHere] <;> rfl
@[simp] theorem groupHere_drivePins (g : Nat) (s : Device) :
    groupHere (drivePins s) g = groupHere s g := by simp [groupHere]
@[simp] theorem clkOn_putOut (b : Nat) (o : List Output) (s : Device) :
    clkOn (putOut o s) b = clkOn s b := by simp [clkOn] <;> rfl
@[simp] theorem clkOn_drivePins (b : Nat) (s : Device) : clkOn (drivePins s) b = clkOn s b := by simp [clkOn]
@[simp] theorem served_putOut (o : List Output) (s : Device) :
    served (putOut o s) = served s := by simp [served] <;> rfl
@[simp] theorem served_drivePins (s : Device) : served (drivePins s) = served s := by simp [served]
@[simp] theorem mailbox_putOut (n : Nat) (o : List Output) (s : Device) :
    mailbox (putOut o s) n = mailbox s n := by simp [mailbox] <;> rfl
@[simp] theorem accSlot_putOut (i : Nat) (o : List Output) (s : Device) :
    accSlot (putOut o s) i = accSlot s i := by simp [accSlot] <;> rfl
@[simp] theorem accSlot_drivePins (i : Nat) (s : Device) : accSlot (drivePins s) i = accSlot s i := by simp [accSlot]
@[simp] theorem freeSlot_putOut (o : List Output) (s : Device) :
    freeSlot (putOut o s) = freeSlot s := by simp [freeSlot] <;> rfl
@[simp] theorem freeSlot_drivePins (s : Device) : freeSlot (drivePins s) = freeSlot s := by simp [freeSlot]
@[simp] theorem storeFree_putOut (o : List Output) (s : Device) :
    storeFree (putOut o s) = storeFree s := by simp [storeFree] <;> rfl
@[simp] theorem storeFree_drivePins (s : Device) : storeFree (drivePins s) = storeFree s := by simp [storeFree]
@[simp] theorem loadRoom_putOut (len : Nat) (o : List Output) (s : Device) :
    loadRoom (putOut o s) len = loadRoom s len := by simp [loadRoom] <;> rfl
@[simp] theorem loadRoom_drivePins (len : Nat) (s : Device) :
    loadRoom (drivePins s) len = loadRoom s len := by simp [loadRoom]
@[simp] theorem enginePlan_putOut (e : Nat) (o : List Output) (s : Device) :
    enginePlan (putOut o s) e = enginePlan s e := by simp [enginePlan] <;> rfl
@[simp] theorem enginePlan_drivePins (e : Nat) (s : Device) :
    enginePlan (drivePins s) e = enginePlan s e := by simp [enginePlan]
@[simp] theorem engineRuns_putOut (e : Nat) (o : List Output) (s : Device) :
    engineRuns (putOut o s) e = engineRuns s e := by simp [engineRuns] <;> rfl
@[simp] theorem engineRuns_drivePins (e : Nat) (s : Device) :
    engineRuns (drivePins s) e = engineRuns s e := by simp [engineRuns]
@[simp] theorem cryptEnable_putOut (c : Carrier) (o : List Output) (s : Device) :
    cryptEnable (putOut o s) c = cryptEnable s c := by simp [cryptEnable] <;> rfl
@[simp] theorem cryptEnable_drivePins (c : Carrier) (s : Device) :
    cryptEnable (drivePins s) c = cryptEnable s c := by simp [cryptEnable]
@[simp] theorem isN1_putOut (o : List Output) (s : Device) : isN1 (putOut o s) = isN1 s := by simp [isN1] <;> rfl
@[simp] theorem isN1_drivePins (s : Device) : isN1 (drivePins s) = isN1 s := by simp [isN1]
@[simp] theorem cipherField_putOut (c : Carrier) (tags : List Byte) (o : List Output) (s : Device) :
    cipherField (putOut o s) c tags = cipherField s c tags := by simp [cipherField] <;> rfl
@[simp] theorem cipherField_drivePins (c : Carrier) (tags : List Byte) (s : Device) :
    cipherField (drivePins s) c tags = cipherField s c tags := by simp [cipherField]
@[simp] theorem eraseBusy_putOut (r : Req) (o : List Output) (s : Device) :
    eraseBusy (putOut o s) r = eraseBusy s r := by simp [eraseBusy] <;> rfl
@[simp] theorem eraseBusy_drivePins (r : Req) (s : Device) :
    eraseBusy (drivePins s) r = eraseBusy s r := by simp [eraseBusy]
@[simp] theorem ctxKeyed_putOut (ctx : Nat) (o : List Output) (s : Device) :
    ctxKeyed (putOut o s) ctx = ctxKeyed s ctx := by simp [ctxKeyed] <;> rfl
@[simp] theorem ctxKeyed_drivePins (ctx : Nat) (s : Device) :
    ctxKeyed (drivePins s) ctx = ctxKeyed s ctx := by simp [ctxKeyed]
@[simp] theorem carrierId_putOut (c : Carrier) (o : List Output) (s : Device) :
    carrierId (putOut o s) c = carrierId s c := by simp [carrierId] <;> rfl
@[simp] theorem carrierId_drivePins (c : Carrier) (s : Device) :
    carrierId (drivePins s) c = carrierId s c := by simp [carrierId]
@[simp] theorem losP_putOut (c : Carrier) (o : List Output) (s : Device) :
    losP (putOut o s) c = losP s c := by simp [losP] <;> rfl
@[simp] theorem losP_drivePins (c : Carrier) (s : Device) : losP (drivePins s) c = losP s c := by simp [losP]
@[simp] theorem cand_putOut (i : Nat) (o : List Output) (s : Device) :
    cand (putOut o s) i = cand s i := by simp [cand] <;> rfl
@[simp] theorem cand_drivePins (i : Nat) (s : Device) : cand (drivePins s) i = cand s i := by simp [cand]
@[simp] theorem refSet_putOut (i : Nat) (off : Nat) (o : List Output) (s : Device) :
    refSet (putOut o s) i off = refSet s i off := by simp [refSet] <;> rfl
@[simp] theorem refSet_drivePins (i : Nat) (off : Nat) (s : Device) :
    refSet (drivePins s) i off = refSet s i off := by simp [refSet]
@[simp] theorem selSet_putOut (off : Nat) (o : List Output) (s : Device) :
    selSet (putOut o s) off = selSet s off := by simp [selSet] <;> rfl
@[simp] theorem selSet_drivePins (off : Nat) (s : Device) :
    selSet (drivePins s) off = selSet s off := by simp [selSet]
@[simp] theorem outSt_putOut (i : Nat) (o : List Output) (s : Device) :
    outSt (putOut o s) i = outSt s i := by simp [outSt] <;> rfl
@[simp] theorem outSt_drivePins (i : Nat) (s : Device) : outSt (drivePins s) i = outSt s i := by simp [outSt]
@[simp] theorem dTx_putOut (c : Carrier) (o : List Output) (s : Device) :
    dTx (putOut o s) c = dTx s c := by simp [dTx] <;> rfl
@[simp] theorem dTx_drivePins (c : Carrier) (s : Device) : dTx (drivePins s) c = dTx s c := by simp [dTx]
@[simp] theorem dRx_putOut (c : Carrier) (o : List Output) (s : Device) :
    dRx (putOut o s) c = dRx s c := by simp [dRx] <;> rfl
@[simp] theorem dRx_drivePins (c : Carrier) (s : Device) : dRx (drivePins s) c = dRx s c := by simp [dRx]
@[simp] theorem calSet_putOut (c : Carrier) (off : Nat) (o : List Output) (s : Device) :
    calSet (putOut o s) c off = calSet s c off := by simp [calSet] <;> rfl
@[simp] theorem calSet_drivePins (c : Carrier) (off : Nat) (s : Device) :
    calSet (drivePins s) c off = calSet s c off := by simp [calSet]
@[simp] theorem sbEnabled_putOut (p : Nat) (o : List Output) (s : Device) :
    sbEnabled (putOut o s) p = sbEnabled s p := rfl
@[simp] theorem sbEnabled_drivePins (p : Nat) (s : Device) :
    sbEnabled (drivePins s) p = sbEnabled s p := by simp [sbEnabled]
@[simp] theorem restRole_putOut (o : List Output) (s : Device) : restRole (putOut o s) = restRole s := rfl
@[simp] theorem restRole_drivePins (s : Device) : restRole (drivePins s) = restRole s := by simp [restRole]
@[simp] theorem grpState_putOut (grp : Nat) (origin : Nat) (o : List Output) (s : Device) :
    grpState (putOut o s) grp origin = grpState s grp origin := by simp [grpState] <;> rfl
@[simp] theorem grpState_drivePins (grp : Nat) (origin : Nat) (s : Device) :
    grpState (drivePins s) grp origin = grpState s grp origin := by simp [grpState]
@[simp] theorem ring_putOut (k : Nat) (o : List Output) (s : Device) :
    ring (putOut o s) k = ring s k := by simp [ring] <;> rfl
@[simp] theorem ring_drivePins (k : Nat) (s : Device) : ring (drivePins s) k = ring s k := by simp [ring]
@[simp] theorem eventsRun_putOut (o : List Output) (s : Device) :
    eventsRun (putOut o s) = eventsRun s := by simp [eventsRun] <;> rfl
@[simp] theorem eventsRun_drivePins (s : Device) : eventsRun (drivePins s) = eventsRun s := by simp [eventsRun]
@[simp] theorem mayDeliver_putOut (e : EventRec) (o : List Output) (s : Device) :
    mayDeliver (putOut o s) e = mayDeliver s e := by simp [mayDeliver] <;> rfl
@[simp] theorem mayDeliver_drivePins (e : EventRec) (s : Device) :
    mayDeliver (drivePins s) e = mayDeliver s e := by simp [mayDeliver]
@[simp] theorem sel_putOut (k : Nat) (o : List Output) (s : Device) :
    sel (putOut o s) k = sel s k := by simp [sel] <;> rfl
@[simp] theorem sel_drivePins (k : Nat) (s : Device) : sel (drivePins s) k = sel s k := by simp [sel]
@[simp] theorem xi_putOut (n : Nat) (o : List Output) (s : Device) :
    xi (putOut o s) n = xi s n := by simp [xi] <;> rfl
@[simp] theorem xi_drivePins (n : Nat) (s : Device) : xi (drivePins s) n = xi s n := by simp [xi]
@[simp] theorem rootOrder_putOut (o : List Output) (s : Device) :
    rootOrder (putOut o s) = rootOrder s := by simp [rootOrder] <;> rfl
@[simp] theorem rootOrder_drivePins (s : Device) : rootOrder (drivePins s) = rootOrder s := by simp [rootOrder]
@[simp] theorem pllRuns_putOut (o : List Output) (s : Device) :
    pllRuns (putOut o s) = pllRuns s := by simp [pllRuns] <;> rfl
@[simp] theorem pllRuns_drivePins (s : Device) : pllRuns (drivePins s) = pllRuns s := by simp [pllRuns]
@[simp] theorem containedIn_putOut (o : List Output) (s : Device) :
    containedIn (putOut o s) = containedIn s := by simp [containedIn] <;> rfl
@[simp] theorem containedIn_drivePins (s : Device) :
    containedIn (drivePins s) = containedIn s := by simp [containedIn]
@[simp] theorem causeGone_putOut (d : Domain) (cause : Nat) (o : List Output) (s : Device) :
    causeGone (putOut o s) d cause = causeGone s d cause := by simp [causeGone] <;> rfl
@[simp] theorem causeGone_drivePins (d : Domain) (cause : Nat) (s : Device) :
    causeGone (drivePins s) d cause = causeGone s d cause := by simp [causeGone]
@[simp] theorem powered_putOut (c : Carrier) (o : List Output) (s : Device) :
    powered (putOut o s) c = powered s c := by simp [powered] <;> rfl
@[simp] theorem powered_drivePins (c : Carrier) (s : Device) :
    powered (drivePins s) c = powered s c := by simp [powered]
@[simp] theorem carrierBusy_putOut (c : Carrier) (o : List Output) (s : Device) :
    carrierBusy (putOut o s) c = carrierBusy s c := rfl
@[simp] theorem carrierBusy_drivePins (c : Carrier) (s : Device) :
    carrierBusy (drivePins s) c = carrierBusy s c := by simp [carrierBusy]
@[simp] theorem convOf_putOut (c : Carrier) (k : Nat) (o : List Output) (s : Device) :
    convOf (putOut o s) c k = convOf s c k := by simp [convOf] <;> rfl
@[simp] theorem convOf_drivePins (c : Carrier) (k : Nat) (s : Device) :
    convOf (drivePins s) c k = convOf s c k := by simp [convOf]
@[simp] theorem txWanted_putOut (c : Carrier) (o : List Output) (s : Device) :
    txWanted (putOut o s) c = txWanted s c := by simp [txWanted] <;> rfl
@[simp] theorem txWanted_drivePins (c : Carrier) (s : Device) :
    txWanted (drivePins s) c = txWanted s c := by simp [txWanted]
@[simp] theorem rampTicks_putOut (c : Carrier) (o : List Output) (s : Device) :
    rampTicks (putOut o s) c = rampTicks s c := by simp [rampTicks] <;> rfl
@[simp] theorem rampTicks_drivePins (c : Carrier) (s : Device) :
    rampTicks (drivePins s) c = rampTicks s c := by simp [rampTicks]
@[simp] theorem rxSet_putOut (c : Carrier) (off : Nat) (o : List Output) (s : Device) :
    rxSet (putOut o s) c off = rxSet s c off := by simp [rxSet] <;> rfl
@[simp] theorem rxSet_drivePins (c : Carrier) (off : Nat) (s : Device) :
    rxSet (drivePins s) c off = rxSet s c off := by simp [rxSet]
@[simp] theorem bothStaged_putOut (c : Carrier) (o : List Output) (s : Device) :
    bothStaged (putOut o s) c = bothStaged s c := by simp [bothStaged] <;> rfl
@[simp] theorem bothStaged_drivePins (c : Carrier) (s : Device) :
    bothStaged (drivePins s) c = bothStaged s c := by simp [bothStaged]
@[simp] theorem zrSquelched_putOut (c : Carrier) (o : List Output) (s : Device) :
    zrSquelched (putOut o s) c = zrSquelched s c := by simp [zrSquelched] <;> rfl
@[simp] theorem zrSquelched_drivePins (c : Carrier) (s : Device) :
    zrSquelched (drivePins s) c = zrSquelched s c := by simp [zrSquelched]
@[simp] theorem core_putOut (k : Nat) (o : List Output) (s : Device) :
    core (putOut o s) k = core s k := by simp [core] <;> rfl
@[simp] theorem core_drivePins (k : Nat) (s : Device) : core (drivePins s) k = core s k := by simp [core]
@[simp] theorem sideOf_putOut (c : Carrier) (host : Bool) (o : List Output) (s : Device) :
    sideOf (putOut o s) c host = sideOf s c host := by simp [sideOf] <;> rfl
@[simp] theorem sideOf_drivePins (c : Carrier) (host : Bool) (s : Device) :
    sideOf (drivePins s) c host = sideOf s c host := by simp [sideOf]
@[simp] theorem grp_putOut (g : Nat) (o : List Output) (s : Device) :
    grp (putOut o s) g = grp s g := by simp [grp] <;> rfl
@[simp] theorem grp_drivePins (g : Nat) (s : Device) : grp (drivePins s) g = grp s g := by simp [grp]
@[simp] theorem schemeType_putOut (k : Nat) (o : List Output) (s : Device) :
    schemeType (putOut o s) k = schemeType s k := by simp [schemeType] <;> rfl
@[simp] theorem schemeType_drivePins (k : Nat) (s : Device) :
    schemeType (drivePins s) k = schemeType s k := by simp [schemeType]
@[simp] theorem lineSet_putOut (c : Carrier) (off : Nat) (o : List Output) (s : Device) :
    lineSet (putOut o s) c off = lineSet s c off := by simp [lineSet] <;> rfl
@[simp] theorem lineSet_drivePins (c : Carrier) (off : Nat) (s : Device) :
    lineSet (drivePins s) c off = lineSet s c off := by simp [lineSet]
@[simp] theorem capBw_putOut (o : List Output) (s : Device) : capBw (putOut o s) = capBw s := by simp [capBw] <;> rfl
@[simp] theorem capBw_drivePins (s : Device) : capBw (drivePins s) = capBw s := by simp [capBw]
@[simp] theorem pagesRetired_putOut (o : List Output) (s : Device) :
    pagesRetired (putOut o s) = pagesRetired s := by simp [pagesRetired] <;> rfl
@[simp] theorem pagesRetired_drivePins (s : Device) :
    pagesRetired (drivePins s) = pagesRetired s := by simp [pagesRetired]
@[simp] theorem leqPort_putOut (p : Nat) (o : List Output) (s : Device) :
    leqPort (putOut o s) p = leqPort s p := by simp [leqPort] <;> rfl
@[simp] theorem leqPort_drivePins (p : Nat) (s : Device) : leqPort (drivePins s) p = leqPort s p := by simp [leqPort]
@[simp] theorem queue_putOut (q : Nat) (o : List Output) (s : Device) :
    queue (putOut o s) q = queue s q := by simp [queue] <;> rfl
@[simp] theorem queue_drivePins (q : Nat) (s : Device) : queue (drivePins s) q = queue s q := by simp [queue]
@[simp] theorem qset_putOut (q : Nat) (off : Nat) (o : List Output) (s : Device) :
    qset (putOut o s) q off = qset s q off := by simp [qset] <;> rfl
@[simp] theorem qset_drivePins (q : Nat) (off : Nat) (s : Device) :
    qset (drivePins s) q off = qset s q off := by simp [qset]
@[simp] theorem leqPortDown_putOut (k : ClientPlan) (o : List Output) (s : Device) :
    leqPortDown (putOut o s) k = leqPortDown s k := by simp [leqPortDown] <;> rfl
@[simp] theorem leqPortDown_drivePins (k : ClientPlan) (s : Device) :
    leqPortDown (drivePins s) k = leqPortDown s k := by simp [leqPortDown]
@[simp] theorem tower_putOut (t : Nat) (o : List Output) (s : Device) :
    tower (putOut o s) t = tower s t := by simp [tower] <;> rfl
@[simp] theorem tower_drivePins (t : Nat) (s : Device) : tower (drivePins s) t = tower s t := by simp [tower]
@[simp] theorem dramUp_putOut (o : List Output) (s : Device) :
    dramUp (putOut o s) = dramUp s := by simp [dramUp] <;> rfl
@[simp] theorem dramUp_drivePins (s : Device) : dramUp (drivePins s) = dramUp s := by simp [dramUp]
@[simp] theorem romAt_putOut (st : Stage) (o : List Output) (s : Device) :
    romAt (putOut o s) st = romAt s st := by simp [romAt] <;> rfl
@[simp] theorem romAt_drivePins (st : Stage) (s : Device) : romAt (drivePins s) st = romAt s st := by simp [romAt]
@[simp] theorem afterHdr_putOut (o : List Output) (s : Device) :
    afterHdr (putOut o s) = afterHdr s := by simp [afterHdr] <;> rfl
@[simp] theorem afterHdr_drivePins (s : Device) : afterHdr (drivePins s) = afterHdr s := by simp [afterHdr]
@[simp] theorem slotAddr_putOut (k : Nat) (o : List Output) (s : Device) :
    slotAddr (putOut o s) k = slotAddr s k := by simp [slotAddr] <;> rfl
@[simp] theorem slotAddr_drivePins (k : Nat) (s : Device) :
    slotAddr (drivePins s) k = slotAddr s k := by simp [slotAddr]
@[simp] theorem nandErasing_putOut (area : Nat) (id : Nat) (o : List Output) (s : Device) :
    nandErasing (putOut o s) area id = nandErasing s area id := by simp [nandErasing] <;> rfl
@[simp] theorem nandErasing_drivePins (area : Nat) (id : Nat) (s : Device) :
    nandErasing (drivePins s) area id = nandErasing s area id := by simp [nandErasing]
@[simp] theorem bootStatus_putOut (o : List Output) (s : Device) :
    bootStatus (putOut o s) = bootStatus s := by simp [bootStatus] <;> rfl
@[simp] theorem bootStatus_drivePins (s : Device) : bootStatus (drivePins s) = bootStatus s := by simp [bootStatus]
@[simp] theorem armedAt_putOut (id : Nat) (inst : Nat) (o : List Output) (s : Device) :
    armedAt (putOut o s) id inst = armedAt s id inst := by simp [armedAt] <;> rfl
@[simp] theorem armedAt_drivePins (id : Nat) (inst : Nat) (s : Device) :
    armedAt (drivePins s) id inst = armedAt s id inst := by simp [armedAt]
@[simp] theorem countPhase_putOut (f : SrcPhase → Bool) (o : List Output) (s : Device) :
    countPhase (putOut o s) f = countPhase s f := by simp [countPhase] <;> rfl
@[simp] theorem countPhase_drivePins (f : SrcPhase → Bool) (s : Device) :
    countPhase (drivePins s) f = countPhase s f := by simp [countPhase]
@[simp] theorem trib_putOut (line : Nat) (t : Nat) (o : List Output) (s : Device) :
    trib (putOut o s) line t = trib s line t := by simp [trib] <;> rfl
@[simp] theorem trib_drivePins (line : Nat) (t : Nat) (s : Device) :
    trib (drivePins s) line t = trib s line t := by simp [trib]
@[simp] theorem tribSet_putOut (line : Nat) (t : Nat) (off : Nat) (o : List Output) (s : Device) :
    tribSet (putOut o s) line t off = tribSet s line t off := by simp [tribSet] <;> rfl
@[simp] theorem tribSet_drivePins (line : Nat) (t : Nat) (off : Nat) (s : Device) :
    tribSet (drivePins s) line t off = tribSet s line t off := by simp [tribSet]
@[simp] theorem scheme_putOut (k : Nat) (o : List Output) (s : Device) :
    scheme (putOut o s) k = scheme s k := by simp [scheme] <;> rfl
@[simp] theorem scheme_drivePins (k : Nat) (s : Device) : scheme (drivePins s) k = scheme s k := by simp [scheme]
@[simp] theorem protSet_putOut (k : Nat) (off : Nat) (o : List Output) (s : Device) :
    protSet (putOut o s) k off = protSet s k off := by simp [protSet] <;> rfl
@[simp] theorem protSet_drivePins (k : Nat) (off : Nat) (s : Device) :
    protSet (drivePins s) k off = protSet s k off := by simp [protSet]
@[simp] theorem senseDef_putOut (ch : Nat) (o : List Output) (s : Device) :
    senseDef (putOut o s) ch = senseDef s ch := by simp [senseDef] <;> rfl
@[simp] theorem senseDef_drivePins (ch : Nat) (s : Device) :
    senseDef (drivePins s) ch = senseDef s ch := by simp [senseDef]
@[simp] theorem senseSet_putOut (ch : Nat) (off : Nat) (o : List Output) (s : Device) :
    senseSet (putOut o s) ch off = senseSet s ch off := by simp [senseSet] <;> rfl
@[simp] theorem senseSet_drivePins (ch : Nat) (off : Nat) (s : Device) :
    senseSet (drivePins s) ch off = senseSet s ch off := by simp [senseSet]
@[simp] theorem lineClockRuns_putOut (c : Carrier) (o : List Output) (s : Device) :
    lineClockRuns (putOut o s) c = lineClockRuns s c := by simp [lineClockRuns] <;> rfl
@[simp] theorem lineClockRuns_drivePins (c : Carrier) (s : Device) :
    lineClockRuns (drivePins s) c = lineClockRuns s c := by simp [lineClockRuns]
@[simp] theorem agreedWait_putOut (c : Carrier) (o : List Output) (s : Device) :
    agreedWait (putOut o s) c = agreedWait s c := by simp [agreedWait] <;> rfl
@[simp] theorem agreedWait_drivePins (c : Carrier) (s : Device) :
    agreedWait (drivePins s) c = agreedWait s c := by simp [agreedWait]
@[simp] theorem switchDone_putOut (o : List Output) (s : Device) :
    switchDone (putOut o s) = switchDone s := by simp [switchDone] <;> rfl
@[simp] theorem switchDone_drivePins (s : Device) : switchDone (drivePins s) = switchDone s := by simp [switchDone]
@[simp] theorem hlSet_putOut (i : Nat) (off : Nat) (o : List Output) (s : Device) :
    hlSet (putOut o s) i off = hlSet s i off := by simp [hlSet] <;> rfl
@[simp] theorem hlSet_drivePins (i : Nat) (off : Nat) (s : Device) :
    hlSet (drivePins s) i off = hlSet s i off := by simp [hlSet]
@[simp] theorem candKind_putOut (i : Nat) (o : List Output) (s : Device) :
    candKind (putOut o s) i = candKind s i := rfl
@[simp] theorem candKind_drivePins (i : Nat) (s : Device) :
    candKind (drivePins s) i = candKind s i := by simp [candKind]
@[simp] theorem bestCand_putOut (l : List Nat) (o : List Output) (s : Device) :
    bestCand (putOut o s) l = bestCand s l := rfl
@[simp] theorem lossOf_putOut (d : Dest) (o : List Output) (s : Device) : lossOf (putOut o s) d = lossOf s d := rfl
@[simp] theorem lossOf_drivePins (d : Dest) (s : Device) : lossOf (drivePins s) d = lossOf s d := by simp [lossOf]
@[simp] theorem hasRoom_putOut (d : Dest) (o : List Output) (s : Device) : hasRoom (putOut o s) d = hasRoom s d := rfl
@[simp] theorem hasRoom_drivePins (d : Dest) (s : Device) : hasRoom (drivePins s) d = hasRoom s d := by simp [hasRoom]
@[simp] theorem rootValid_putOut (i : Nat) (o : List Output) (s : Device) :
    rootValid (putOut o s) i = rootValid s i := rfl
@[simp] theorem rootPick_putOut (f : Nat → Bool) (o : List Output) (s : Device) :
    rootPick (putOut o s) f = rootPick s f := rfl
@[simp] theorem blockInUse_putOut (b : Nat) (o : List Output) (s : Device) :
    blockInUse (putOut o s) b = blockInUse s b := rfl
@[simp] theorem blockInUse_drivePins (b : Nat) (s : Device) :
    blockInUse (drivePins s) b = blockInUse s b := by simp [blockInUse]
@[simp] theorem sliceAt_putOut (c : Carrier) (k : Nat) (n : Nat) (o : List Output) (s : Device) :
    sliceAt (putOut o s) c k n = sliceAt s c k n := rfl
@[simp] theorem sliceAt_drivePins (c : Carrier) (k : Nat) (n : Nat) (s : Device) :
    sliceAt (drivePins s) c k n = sliceAt s c k n := by simp [sliceAt]
@[simp] theorem segAt_putOut (c : Carrier) (k : Nat) (g : Nat) (o : List Output) (s : Device) :
    segAt (putOut o s) c k g = segAt s c k g := rfl
@[simp] theorem sliceIn_putOut (c : Carrier) (k : Nat) (p : Nat) (o : List Output) (s : Device) :
    sliceIn (putOut o s) c k p = sliceIn s c k p := rfl
@[simp] theorem dacMuted_putOut (c : Carrier) (k : Nat) (o : List Output) (s : Device) :
    dacMuted (putOut o s) c k = dacMuted s c k := rfl
@[simp] theorem feAuto_putOut (c : Carrier) (o : List Output) (s : Device) :
    feAuto (putOut o s) c = feAuto s c := by simp [feAuto]
@[simp] theorem feAuto_drivePins (c : Carrier) (s : Device) : feAuto (drivePins s) c = feAuto s c := by simp [feAuto]
@[simp] theorem otucOk_putOut (c : Carrier) (o : List Output) (s : Device) : otucOk (putOut o s) c = otucOk s c := rfl
@[simp] theorem capRate_putOut (source : Nat) (target : Nat) (decim : Nat) (mask : Nat) (o : List Output) (s : Device) :
    capRate (putOut o s) source target decim mask = capRate s source target decim mask := rfl
@[simp] theorem fwStatus_putOut (x : FwImageIn) (o : List Output) (s : Device) :
    fwStatus (putOut o s) x = fwStatus s x := rfl
@[simp] theorem bootImage_putOut (x : BootAccordIn) (o : List Output) (s : Device) :
    bootImage (putOut o s) x = bootImage s x := rfl
@[simp] theorem tribRaw_putOut (line : Nat) (t : Nat) (o : List Output) (s : Device) :
    tribRaw (putOut o s) line t = tribRaw s line t := rfl
@[simp] theorem senseInstant_putOut (code : Nat) (o : List Output) (s : Device) :
    senseInstant (putOut o s) code = senseInstant s code := rfl
@[simp] theorem senseInstant_drivePins (code : Nat) (s : Device) :
    senseInstant (drivePins s) code = senseInstant s code := by simp [senseInstant]
@[simp] theorem senseRing_putOut (ch : Nat) (o : List Output) (s : Device) :
    senseRing (putOut o s) ch = senseRing s ch := rfl
@[simp] theorem senseRing_drivePins (ch : Nat) (s : Device) :
    senseRing (drivePins s) ch = senseRing s ch := by simp [senseRing]
@[simp] theorem rxWaits_putOut (old : Plan) (new : Plan) (c : Carrier) (o : List Output) (s : Device) :
    rxWaits (putOut o s) old new c = rxWaits s old new c := rfl
@[simp] theorem rxWaits_drivePins (old : Plan) (new : Plan) (c : Carrier) (s : Device) :
    rxWaits (drivePins s) old new c = rxWaits s old new c := by simp [rxWaits]

end Sys2Proof.Machine
end

