-- ==== Sys2Proof/WellFormed.lean ====
section
/-!
DEFINITION. Which terms of `Instr` stand for a command that can be given: a mailbox command comes on mailbox 0 to 3 and
carries the code of its row, writes are in whole words, an overhead has its 512 bytes. The meanings are total: an
ill-formed term changes nothing, or is refused with a status.
-/
namespace Sys2Proof

/-- A request that a host can post: its mailbox is 0 to 3 (21_mailbox_interface Table 21-1) and it fits the window
(22_command_reference R838). -/
def Req.wf (r : Req) : Bool := r.mb.val < 4 && r.params.length ≤ 4080

/-- Such a request whose parameter byte `off` holds the code of its row. -/
def Req.wfCode (off k : Nat) (r : Req) : Bool := r.wf && (r.params.getD off 0).toNat == k

/-- The command is well formed. -/
def Instr.wf (i : Instr) : Bool :=
  match i with
  | .powerOnReset _ _ => true
  | .resetN _ => true
  | .zeroizeN _ => true
  | .tamperCondition _ _ => true
  | .oscReadyRise => true
  | .oscReadyFall => true
  | .trigInEdge _ _ => true
  | .ohpFsLoss => true
  | .ohpFsReturn => true
  | .ohpFrame _ _ => true
  | .xiInputJudged _ _ _ => true
  | .rootInputLoss => true
  | .pllRLocked => true
  | .selectorSwitch _ => true
  | .clkForcedSwitch _ => true
  | .selectorNewClockAbsent _ => true
  | .tickAligned => true
  | .oscTrimStale => true
  | .mgmtWatchdog => true
  | .domainResetRelease _ _ => true
  | .dramRetrainComplete => true
  | .carrierLoopStart _ => true
  | .controlTick _ => true
  | .slowTick _ => true
  | .epoch _ => true
  | .timeSetApply => true
  | .sillageFit _ => true
  | .sillageSnapshot _ => true
  | .sillageRestore => true
  | .blockBoundary _ _ _ => true
  | .swapDeferExpiry _ _ => true
  | .spareCalibrated _ _ _ _ _ _ => true
  | .foregroundCalComplete _ _ _ => true
  | .selftestComplete _ _ => true
  | .txSuperframe _ _ => true
  | .keyIvLimit _ _ => true
  | .nsoReceived _ b _ _ => b.length == 512
  | .rxSuperframe _ _ => true
  | .keySlotErased _ _ _ => true
  | .cryptoEraseComplete _ => true
  | .otucFrame _ _ _ => true
  | .rxAcqProgress _ _ => true
  | .rxAcqTimeout _ => true
  | .cdSearchHintMiss _ => true
  | .lockHoldLoss _ => true
  | .agreementReceived _ => true
  | .agreeFail _ => true
  | .stageRetry _ => true
  | .stagePropose _ => true
  | .rxStageFail _ => true
  | .txLeadElapsed _ => true
  | .txRampComplete _ => true
  | .accordSwitchT => true
  | .accordRxSwitch _ => true
  | .accordSwitchComplete => true
  | .accordVerifyComplete _ _ => true
  | .accordLoadTimeout _ => true
  | .accordDmaComplete _ _ => true
  | .stagingComplete _ => true
  | .poolReconfigComplete => true
  | .scrubSegment _ => true
  | .scrubLate => true
  | .dramLineError _ => true
  | .rowRetireComplete _ => true
  | .dramRefreshRate _ _ => true
  | .leqFrameArrival _ => true
  | .leqFrameRelease _ => true
  | .leqDrainComplete _ => true
  | .blotterTriggerPoint _ => true
  | .captureComplete _ _ => true
  | .spillComplete _ => true
  | .captureReadoutEntry _ => true
  | .senseOutputSample _ _ _ => true
  | .senseRecordEmit _ => true
  | .ostcBurstStart _ => true
  | .ostcBurstEnd _ => true
  | .ostcBurstTruncated _ => true
  | .ostcTrigger _ => true
  | .ostcQualify _ _ _ => true
  | .ostcQualTimeout _ => true
  | .ostcFalseStart _ => true
  | .ostcSyncFound _ _ => true
  | .ostcBurstReceived _ _ => true
  | .apsReceived _ b => b.length == 4
  | .protApsMismatch _ => true
  | .protHoldOffExpiry _ => true
  | .protWtrExpiry _ => true
  | .mergeFrameRelease _ => true
  | .mergeCopy _ _ _ => true
  | .groupRecordReceived _ _ => true
  | .groupRelease _ _ => true
  | .groupLoaChange _ => true
  | .ttxRecordReceived _ _ => true
  | .ttxExchange _ => true
  | .ttxCandidateStale _ => true
  | .ptpEventFrame _ => true
  | .candidateActivityLoss _ => true
  | .candidateQualified _ => true
  | .candidateReentry _ => true
  | .dpllLockTime => true
  | .fastLockDwell => true
  | .oscTempStale => true
  | .receivedQlStale _ => true
  | .stackFrameReceived _ => true
  | .stackPortUp _ _ => true
  | .stackAdaptRestart _ => true
  | .stackTimeValid => true
  | .stackMasterLost => true
  | .stackTakeover => true
  | .stackMasterListenEnd => true
  | .stackHandoverInstant => true
  | .stackUpstreamChange => true
  | .helloSend => true
  | .helloReceived _ _ => true
  | .memberHelloTimeout _ => true
  | .proxyRequestReceived _ _ => true
  | .proxyResponseReceived _ _ => true
  | .proxyTimeout _ => true
  | .forwardedEventReceived _ _ => true
  | .hlSignalDetect _ _ => true
  | .hlLockChange _ _ _ => true
  | .hlAdaptTimeout _ => true
  | .hlPolarity _ _ => true
  | .hlDeskewFail _ _ => true
  | .hlRefclkLoss _ => true
  | .hlResetRelease _ => true
  | .eyeScanComplete _ _ => true
  | .faultEvent _ => true
  | .faultReaction => true
  | .faultQuietExpiry id inst => decide (id < 65536 ∧ inst < 256)
  | .recoveryPhaseEnd _ => true
  | .faultInjectDone id inst _ => decide (id < 65536 ∧ inst < 256)
  | .blackboxCopy => true
  | .bootHeaderRead => true
  | .firmwareVerified _ _ _ => true
  | .sramSelfTestComplete _ _ => true
  | .dramTrainingComplete _ _ => true
  | .bootAccord _ => true
  | .startupScript => true
  | .fwReady => true
  | .avsFail => true
  | .tjHigh => true
  | .nandPatrol _ _ => true
  | .nandBlockGrown => true
  | .flashEraseComplete _ _ => true
  | .otpBurnComplete _ => true
  | .fwActivateComplete _ => true
  | .dmaTransferComplete _ _ => true
  | .eventDelivery => true
  | .eventLoss _ => true
  | .msixCoalesceExpiry _ => true
  | .bootDoorbell _ => true
  | .irqStatusClear _ => true
  | .clkEnWrite _ => true
  | .evtFifoPop _ => true
  | .evtFifoDropRead => true
  | .ringTailWrite _ _ => true
  | .ringDropRead _ => true
  | .debugWindowWrite off _ _ => off.toNat % 4 == 0
  | .registerWrite _ off _ => off.toNat % 4 == 0
  | .proxiedCommand _ r => r.wf
  | .deviceInfo r => r.wf
  | .ringConfig r => r.wf
  | .otpProgram r => r.wf
  | .accordList r => r.wf
  | .accordLoad r => r.wf
  | .accordInfo r => r.wf
  | .accordReport r => r.wf
  | .accordStage r => r.wf
  | .accordSwitch r => r.wf
  | .accordCancel r => r.wf
  | .accordDelete r => r.wf
  | .accordVersionCommit r => r.wf
  | .accordLimits r => r.wf
  | .engineStatus r => r.wf
  | .engineRead r => r.wf
  | .txConfig r => r.wf
  | .txEnable r => r.wf
  | .txStatus r => r.wf
  | .txPreemph r => r.wf
  | .rxConfig r => r.wf
  | .rxEnable r => r.wf
  | .rxStatus r => r.wf
  | .rxMonitor r => r.wf
  | .rxReacquire r => r.wf
  | .lineAgree r => r.wf
  | .calRead r => r.wf
  | .calConfig r => r.wf
  | .calSwap r => r.wf
  | .convPortStatus r => r.wf
  | .convSelftest r => r.wf
  | .carrierLoopback r => r.wf
  | .fecConfig r => r.wf
  | .fecStatus r => r.wf
  | .fecCounters r => r.wf
  | .fecClear r => r.wf
  | .fecPoolStatus r => r.wf
  | .fecInject r => r.wf
  | .lineConfig r => r.wf
  | .lineDefects r => r.wf
  | .lineTti r => r.wf
  | .lineTtiRead r => r.wf
  | .ohpConfig r => r.wf
  | .ohpStatus r => r.wf
  | .lineClear r => r.wf
  | .tribConfig r => r.wf
  | .tribStatus r => r.wf
  | .tribTti r => r.wf
  | .groupConfig r => r.wf
  | .groupStatus r => r.wf
  | .protConfig r => r.wf
  | .protClear r => r.wfCode 1 0
  | .protLockout r => r.wfCode 1 1
  | .protForced r => r.wfCode 1 2
  | .protManualP r => r.wfCode 1 3
  | .protManualW r => r.wfCode 1 4
  | .protRealign r => r.wfCode 1 5
  | .protStatus r => r.wf
  | .cryptoConfig r => r.wf
  | .cryptoKeyLoad r => r.wf
  | .cryptoRoll r => r.wf
  | .cryptoStatus r => r.wf
  | .cryptoZeroize r => r.wf
  | .cryptoAlarmClear r => r.wf
  | .ostcConfig r => r.wf
  | .ostcSend r => r.wf
  | .ostcRecv r => r.wf
  | .ostcStatus r => r.wf
  | .ostcClear r => r.wf
  | .timingRefConfig r => r.wf
  | .timingSelConfig r => r.wf
  | .timingDpllConfig r => r.wf
  | .timingClear r => r.wfCode 0 0
  | .timingForce r => r.wfCode 0 1
  | .timingHoldover r => r.wfCode 0 2
  | .clearWtr r => r.wfCode 0 3
  | .sillageSave r => r.wfCode 0 4
  | .sillageReset r => r.wfCode 0 5
  | .oscTemp r => r.wfCode 0 6
  | .timingStatus r => r.wf
  | .timingRefStatus r => r.wf
  | .timingOutConfig r => r.wf
  | .sillageRead r => r.wf
  | .ttxConfig r => r.wf
  | .ttxCalSet r => r.wf
  | .ttxStatus r => r.wf
  | .ttxDelayRead r => r.wf
  | .ttxTimeSet r => r.wf
  | .ptpPortConfig r => r.wf
  | .senseConfig r => r.wf
  | .senseInfo r => r.wf
  | .senseStatus r => r.wf
  | .senseRead r => r.wf
  | .senseClear r => r.wf
  | .memPoolSet r => r.wf
  | .memStatus r => r.wf
  | .memScrubConfig r => r.wf
  | .memRepairStatus r => r.wf
  | .memClear r => r.wf
  | .leqPortConfig r => r.wf
  | .leqKeyProfile r => r.wf
  | .leqTsProfile r => r.wf
  | .leqQueueConfig r => r.wf
  | .leqQueueStatus r => r.wf
  | .blotterArm r => r.wf
  | .blotterTrigger r => r.wf
  | .blotterStatus r => r.wf
  | .blotterRead r => r.wf
  | .blotterSpill r => r.wf
  | .blotterFree r => r.wf
  | .hlConfig r => r.wf
  | .hlStatus r => r.wf
  | .hlEyeScan r => r.wf
  | .hlEyeRead r => r.wf
  | .hlReset r => r.wf
  | .hlClear r => r.wf
  | .stackConfig r => r.wf
  | .stackStatus r => r.wf
  | .stackPortStatus r => r.wf
  | .stackHandover r => r.wf
  | .stackClear r => r.wf
  | .clockConfig r => r.wf
  | .clockStatus r => r.wf
  | .resetDomain r => r.wf
  | .resetStatus r => r.wf
  | .faultList r => r.wf
  | .faultConfig r => r.wf
  | .faultStatus r => r.wf
  | .faultLogRead r => r.wf
  | .faultClearLatch r => r.wfCode 3 0
  | .faultClearCounters r => r.wfCode 3 1
  | .faultClearFirstFault r => r.wfCode 3 2
  | .faultClearLog r => r.wfCode 3 3
  | .faultInjectArm r => r.wfCode 3 1
  | .faultInjectDisarm r => r.wfCode 3 0
  | .faultPhase r => r.wf
  | .faultBlackboxRead r => r.wf
  | .nvStatus r => r.wf
  | .nvHeaderRead r => r.wf
  | .nvHeaderWrite r => r.wf
  | .nvFwWrite r => r.wf
  | .nvFwActivate r => r.wf
  | .nvFwCommit r => r.wf
  | .nvFwVersionCommit r => r.wf
  | .nvScriptWrite r => r.wf
  | .nandInfo r => r.wf
  | .archiveList r => r.wf
  | .archiveRead r => r.wf
  | .archiveWrite r => r.wf
  | .archiveDelete r => r.wf
  | .nandFormat r => r.wf
  | .diagEcho r => r.wf
  | .diagSensors r => r.wf
  | .zrFrameAlignment _ _ _ => true
  | .alignmentMarkerLock _ _ _ => true
  | .stackPortAlign _ => true
  | .hlRefclkReturn _ => true
  | .mailboxRequestRefused _ _ bytes => decide (bytes.length ≤ 4096)
  | .requestBufferWrite _ off bytes => off.toNat % 4 == 0 && bytes.length % 4 == 0
  | .nandFormatComplete _ => true
  | .accordNandReadComplete _ _ => true

end Sys2Proof
end

