-- ==== Sys2Proof/Tests/Slice0.lean ====
section
/-!
SUPPORT. Small tests of one step each, a term for every check of WellFormed that the check refuses, and for every
statement with hypotheses a theorem `test_<statement>_met` that shows a state and operands that meet them, one group for
each clause.
-/
namespace Sys2Proof.Tests
open Sys2Proof Sys2Proof.Machine

set_option Elab.async false

/-- A native mode for the witnesses. -/
def mNat : ModePlan := { rs := 100000000000, symbols := 1000 }

/-- A ZR mode for the witnesses. -/
def mZr : ModePlan := { native := false, rs := 60000000000, nBringUp := 0 }

/-- A device that has started: firmware serves the mailboxes, no domain is in reset, both carriers are powered and
native. -/
def base : Device :=
  { boot := { stage := .ready, fwRuns := true }
    elec := { porReleased := true, vppOk := true }
    clock := { resetN := false, power := ⟨true, true⟩, pll := .locked }
    accord := { active := { slot := some 1, plan := { modes := ⟨some mNat, some mNat⟩ } } } }

/-- `base` with other contents of the active Accord. -/
def withPlan (f : Plan → Plan) (d : Device) : Device :=
  modAccord (fun a => { a with active := { a.active with plan := f a.active.plan } }) d

/-- `base` with both carriers in a ZR mode. -/
def baseZr : Device := withPlan (fun p => { p with modes := ⟨some mZr, some mZr⟩ }) base

/-- A device without commands that wait. -/
def st (d : Device) : State := ⟨d, []⟩

/-- A request of mailbox 0 to this device. -/
def rq (kind index : Nat) (p : List Byte) : Req :=
  { mb := 0, seq := 1, flags := 0, rsv7 := 0, member := 0xFF, kind := BitVec.ofNat 8 kind, index := BitVec.ofNat 8 index,
    rsv11 := 0, params := p }

/-- A setting with a value in force. -/
def cfg (op tgt sel off : Nat) (v : Int) (d : Device) : Device := putSetting (skey op tgt sel off) v .now d

/-- An NSO of 512 bytes with a count and its CRC. -/
def nsoOf (n : Nat) : List Byte := be 4 n ++ zeros 504 ++ be 4 (crc32c (be 4 n ++ zeros 504)).toNat

/-- A boot header of 256 bytes with its CRC. -/
def hdrOf (l : List Byte) : List Byte :=
  fit 252 (le 4 0x44484254 ++ le 2 1 ++ l) ++ le 4 (crc32c (fit 252 (le 4 0x44484254 ++ le 2 1 ++ l))).toNat

/-- A firmware image that passes every check. -/
def fwGood : FwImageIn := { header := fit 160 (le 4 0x465A4C42 ++ le 2 1), sigOk := true }

/-- Parameters of a command: every field at its reset value, or its least value where that is none; some fields
replaced. -/
def pars (op : Nat) (l : List (Nat × List Byte)) : List Byte :=
  l.foldl (fun p f => put p f.1 f.2)
    (match reqSize op with
     | none => []
     | some (lo, _) => (layout op).foldl (fun p r => if r.kind = .bulk then p
         else put p r.off (leInt r.size (if r.lo ≤ r.reset ∧ r.reset ≤ r.hi then r.reset else r.lo))) (zeros lo))

/-- The device after one command. -/
def after (i : Instr) (d : Device) : Device :=
  match step ⟨d, [i]⟩ with
  | .next t => t.dev
  | _ => d

theorem fromLe_le4 (n : Nat) (h : n < 2 ^ 32) : fromLe (le 4 n) = n := by
  simp [le, fromLe]
  omega

/-- Bytes followed by their CRC pass the checks of a native superframe overhead. -/
theorem nsoValid_append (l : List Byte) (h : l.length = 508) : nsoValid (l ++ be 4 (crc32c l).toNat) = true := by
  have hl : (le 4 (crc32c l).toNat).length = 4 := by simp [le]
  simp only [nsoValid, slice, List.drop_zero, List.take_left' h, List.drop_left' h, List.length_append, h,
    fromBe, be, List.take_of_length_le (show (le 4 (crc32c l).toNat).reverse.length ≤ 4 by simp [hl]),
    List.reverse_reverse, fromLe_le4 _ (crc32c l).isLt]
  simp [hl]

/-- Bytes read back as they stand in memory. -/
theorem memRead_eq (l : List Byte) (m : List Host.Cell) (a : Nat) (h : ∀ k, k < l.length → memGet m (a + k) = l.getD k 0) :
    memRead m a l.length = l := by
  induction l generalizing a with
  | nil => rfl
  | cons b r ih =>
    have h0 := h 0 (by simp)
    simp only [List.length_cons, memRead]
    rw [ih (a + 1) fun k hk => by have := h (k + 1) (by simpa using hk); simpa [Nat.add_assoc, Nat.add_comm 1] using this]
    simpa using h0

/-- A header followed by its CRC is valid. -/
theorem bootHdrOk_append (l : List Byte) (h : l.length = 252) (hm : rd l 0 4 = 0x44484254) (hf : rd l 4 2 = 1) :
    bootHdrOk (l ++ le 4 (crc32c l).toNat) = true := by
  have hl : (le 4 (crc32c l).toNat).length = 4 := by simp [le]
  have hr : ∀ o k, o + k ≤ 252 → slice (l ++ le 4 (crc32c l).toNat) o k = slice l o k := fun o k ho => by
    rw [slice, slice, List.drop_append_of_le_length (by omega), List.take_append_of_le_length (by simp; omega)]
  have h4 : slice (l ++ le 4 (crc32c l).toNat) 252 4 = le 4 (crc32c l).toNat := by
    rw [slice, List.drop_left' h, List.take_of_length_le (by omega)]
  simp only [rd] at hm hf
  simp only [bootHdrOk, rd, hr 0 4 (by omega), hr 4 2 (by omega), h4, hm, hf, fromLe_le4 _ (crc32c l).isLt, List.take_left' h,
    List.length_append, h, hl]
  rfl
/-! ### Ill-formed terms are refused -/

theorem test_wf_overhead_length : (Instr.nsoReceived .a [] true true).wf = false := by decide +kernel
theorem test_wf_aps_length : (Instr.apsReceived 0 [1, 2, 3]).wf = false := by decide +kernel
theorem test_wf_fault_source : (Instr.faultQuietExpiry 0x10000 0).wf = false ∧ (Instr.faultInjectDone 0 256 0).wf = false := by
  decide +kernel
theorem test_wf_whole_words : (Instr.registerWrite .pcie 0x12 0).wf = false ∧
    (Instr.debugWindowWrite 2 0 none).wf = false ∧ (Instr.requestBufferWrite .spi 0x4001 [0, 0, 0, 0]).wf = false ∧
    (Instr.requestBufferWrite .spi 0x4000 [0, 0, 0]).wf = false := by decide +kernel
theorem test_wf_refused_request : (Instr.mailboxRequestRefused 0 16 (zeros 4097)).wf = false := by decide +kernel
theorem test_wf_mailbox : (Instr.txStatus { rq 1 0 [] with mb := 4 }).wf = false ∧
    (Instr.diagEcho (rq 0 0 (zeros 4081))).wf = false := by decide +kernel
theorem test_wf_codes : (Instr.protClear (rq 0 0 [0, 1, 0, 0])).wf = false ∧
    (Instr.protForced (rq 0 0 [0, 1, 0, 0])).wf = false ∧ (Instr.protLockout (rq 0 0 [0, 0, 0, 0])).wf = false ∧
    (Instr.protManualP (rq 0 0 [0, 4, 0, 0])).wf = false ∧ (Instr.protManualW (rq 0 0 [0, 3, 0, 0])).wf = false ∧
    (Instr.protRealign (rq 0 0 [0, 6, 0, 0])).wf = false ∧ (Instr.timingClear (rq 0 0 [1])).wf = false ∧
    (Instr.timingForce (rq 0 0 [0])).wf = false ∧ (Instr.timingHoldover (rq 0 0 [3])).wf = false ∧
    (Instr.clearWtr (rq 0 0 [2])).wf = false ∧ (Instr.sillageSave (rq 0 0 [5])).wf = false ∧
    (Instr.sillageReset (rq 0 0 [4])).wf = false ∧ (Instr.oscTemp (rq 0 0 [5])).wf = false ∧
    (Instr.faultClearLatch (rq 0 0 [0, 0, 0, 1])).wf = false ∧ (Instr.faultClearCounters (rq 0 0 [0, 0, 0, 0])).wf = false ∧
    (Instr.faultClearFirstFault (rq 0 0 [0, 0, 0, 3])).wf = false ∧ (Instr.faultClearLog (rq 0 0 [0, 0, 0, 2])).wf = false ∧
    (Instr.faultInjectArm (rq 0 0 [0, 0, 0, 0])).wf = false ∧ (Instr.faultInjectDisarm (rq 0 0 [0, 0, 0, 1])).wf = false := by
  decide +kernel

/-! ### One step -/

/-- The check value of 22_command_reference R835. -/
theorem test_crc_check_value : crc32c [0x31, 0x32, 0x33, 0x34, 0x35, 0x36, 0x37, 0x38, 0x39] = 0xE3069283 := by
  decide +kernel
/-- 21_mailbox_interface Table 21-1: IRQ_STATUS is write-1-to-clear. -/
theorem test_irq_status_w1c :
    (after (.irqStatusClear 4) (modHost ({ · with irqStatus := 0x1D }) base)).host.irqStatus = 0x19 := by decide +kernel
/-- 21_mailbox_interface R828: IRQ_N is low while an enabled bit is set. -/
theorem test_irq_line : (after (.registerWrite .spi 0x34 0x20) (modHost ({ · with irqStatus := 0x20 }) base)).host.irqLow = true ∧
    (after (.registerWrite .spi 0x34 0x0F) (modHost ({ · with irqStatus := 0x20 }) base)).host.irqLow = false := by
  decide +kernel
/-- 21_mailbox_interface R808: a doorbell from another interface is ignored. -/
theorem test_doorbell_other_interface :
    (mailbox (after (.registerWrite .pcie 0x60 16) (modMb 2 ({ · with busy := true }) base)) 2).dbIgnored = false ∧
    (mailbox (after (.registerWrite .spi 0x60 16) (modMb 2 ({ · with busy := true }) base)) 2).dbIgnored = true := by
  decide +kernel
/-- 22_command_reference R856: DIAG_ECHO answers with its parameters. -/
theorem test_diag_echo : let d := after (.diagEcho (rq 0 0 [7, 8, 9])) base
    slice (mailbox d 0).resp 16 3 = [7, 8, 9] ∧ (mailbox d 0).lastStatus = 0 ∧ (mailbox d 0).busy = false := by
  decide +kernel
/-- 04_transmit_path R177: TX_STATUS answers the state of the carrier it names. -/
theorem test_tx_status : let d := after (.txStatus (rq 1 1 [])) (modTx .b ({ · with state := .on }) base)
    (mailbox d 0).resp.getD 16 0 = 3 ∧ (mailbox d 0).lastSeq = 1 := by decide +kernel
/-- 22_command_reference R842: a parameter size of no command is BAD_LENGTH. -/
theorem test_bad_size : (mailbox (after (.txStatus (rq 1 1 [0])) base) 0).lastStatus = Status.badLength.code := by
  decide +kernel
/-- 22_command_reference R842 step 2: a carrier command to the device is BAD_PARAM at no field. -/
theorem test_bad_target : let d := after (.txStatus (rq 0 0 [])) base
    (mailbox d 0).lastStatus = Status.badParam.code ∧ slice (mailbox d 0).resp 16 2 = [0xFF, 0xFF] := by decide +kernel
/-- 09_line_encryption R420: an alarm erases the keys and keeps OTP. -/
theorem test_zeroize : let d := after (.zeroizeN true) (modCrypto .b ({ · with rx := ⟨{ state := .active, key := some 5 }, {}⟩ }) base)
    d.crypto.b.rx = ⟨{}, {}⟩ ∧ d.kme.alarm = true ∧ d.boot.otp = base.boot.otp := by decide +kernel
/-- 19_fault_handling R747, R757: an event of class F latches its source, is logged, and pulls FAULT_N low. -/
theorem test_class_f_latches : let d := after (.faultEvent [{ id := 0x0101, inst := 9, kind := 1 }]) (modFault ({ · with startup := false }) base)
    (source d 0x0101 9).st = .latched ∧ d.fault.log.length = 1 ∧ d.fault.pinLow = true := by decide +kernel
/-- 01_talnis_3200_at_a_glance R27: a control tick is 1 µs of device time. -/
theorem test_control_tick : (after (.controlTick { dt := US }) base).timing.now = US := by decide +kernel
/-- 20_startup_and_nonvolatile_store Table 20-3: an unrepairable memory stops boot with cause 3. -/
theorem test_boot_stop : let d := after (.sramSelfTestComplete ⟨false, false⟩ (some 7)) (modBoot ({ · with stage := .selfTest }) base)
    d.boot.stage = .stopped ∧ d.boot.cause = 3 ∧ d.boot.detail = 7 := by decide +kernel
/-- 22_command_reference Table 22-5 has no opcode 0x02FF. -/
theorem test_bad_opcode : (cmdOf 0x02FF []).isNone = true ∧ (cmdOf 0x0222 []).isSome = true := by decide +kernel
/-- An empty queue idles (log 28). -/
theorem test_idle : step State.reset = .next State.reset := rfl

/-! ### The hypotheses of the statements are met -/

theorem test_ResetInputs_met :
    (let s : State := st (modClock ({ · with resetN := true, inReset := [(.por, 0), (.device, 1)] }) base);
      inReset s.dev .por = true ∧ s.dev.clock.resetN = true ∧ (.device, 1) ∈ s.dev.clock.inReset) ∧
    (let s : State := st (modTx .a ({ · with state := .on }) base); inReset s.dev .por = false ∧
      inReset s.dev .device = false) := by
  decide +kernel

theorem test_ClockSourcesFollow_met :
    (let s : State := st (base); pllRuns s.dev = true) ∧
    (let s : State := st (modXi 1 ({ · with stable := true }) (modClock ({ · with pll := .unlocked }) (modBoot ({ · with stage := .clocks }) base)));
      let i : Nat := 1; s.dev.clock.pll = .unlocked ∧ s.dev.boot.stage = .clocks ∧
      [0, 1].find? (rootValid s.dev) = some i) ∧
    (let s : State := st (modXi 0 ({ · with stable := true }) (modClock ({ · with pll := .coasting }) base));
      s.dev.clock.pll = .coasting ∧ rootValid s.dev (sel s.dev 0).source = true) ∧
    (let s : State := st (modClock ({ · with pll := .aligning, alignTicks := 9 }) base);
      s.dev.clock.pll = .aligning) ∧
    (let s : State := st (modClock ({ · with trimAge := 10000, foscTrim := 3 }) base); 10000 ≤ s.dev.clock.trimAge ∧
      dset s.dev 0x0E00 0 3 ≠ 0xFF) := by
  decide +kernel

theorem test_SelectorsSwitch_met :
    (let s : State := st (modSel 10 ({ · with target := some 2, switches := 0xFFFFFFFF }) base);
      let k : Fin 11 := 10; let i : Nat := 2; (sel s.dev k.val).target = some i ∧ s.dev.clock.timingWaits = false) ∧
    (let s : State := st (modSel 10 ({ · with target := some 2 }) base); let k : Fin 11 := 10; let i : Nat := 2;
      (sel s.dev k.val).target = some i ∧ s.dev.clock.timingWaits = false) ∧
    (let s : State := st (modSel 0 ({ · with target := some 1 }) base); let k : Fin 11 := 0; let i : Nat := 1;
      (sel s.dev k.val).target = some i) := by
  decide +kernel

theorem test_DomainsEnterAndLeaveReset_met :
    (let s : State := st (modMb 2 ({ · with busy := true }) (modClock ({ · with heartbeatAge := 100 }) base));
      100 ≤ s.dev.clock.heartbeatAge ∧ inReset s.dev .mgmt = false) ∧
    (let s : State := st (modClock ({ · with inReset := [(.mgmt, 2), (.carrierA, 4), (.lg 3, 2)] }) base);
      let d : Domain := .mgmt; d ≠ .por ∧ d ≠ .dram ∧ d ≠ .device ∧ inReset s.dev d = true ∧
      (∀ e ∈ s.dev.clock.inReset, e.1 = d → causeGone s.dev d e.2 = true)) ∧
    (let s : State := st (modClock ({ · with inReset := [(.device, 1), (.mgmt, 4)] }) base);
      inReset s.dev .por = false ∧ (.device, 1) ∈ s.dev.clock.inReset ∧
      (∀ e ∈ s.dev.clock.inReset, e.1 = .device → e.2 = 4 ∨ causeGone s.dev .device e.2 = true)) ∧
    (let s : State := st (modClock ({ · with inReset := [(.dram, 2)] }) base); inReset s.dev .dram = true ∧
      inReset s.dev .device = false ∧ (∀ e ∈ s.dev.clock.inReset, e.1 = .dram → causeGone s.dev .dram e.2 = true)) := by
  decide +kernel

theorem test_TransmitterAndConverterEvents_met :
    (let s : State := st (modConv .a ({ · with fgDone := true }) (modTx .a ({ · with state := .lead, commanded := true }) base));
      let c : Carrier := .a; (s.dev.tx.get c).state = .lead ∧ (s.dev.tx.get c).leadLeft = 0 ∧
      (s.dev.conv.get c).fgDone = true ∧ txWanted s.dev c = true) ∧
    (let s : State := st (modTx .b ({ · with state := .rampUp, rampDone := 5, rampLen := 5 }) base);
      let c : Carrier := .b; (s.dev.tx.get c).state = .rampUp ∧ (s.dev.tx.get c).rampLen ≤ (s.dev.tx.get c).rampDone) ∧
    (let s : State := st (modTx .b ({ · with state := .rampDown, rampDone := 5, rampLen := 5 }) base);
      let c : Carrier := .b; (s.dev.tx.get c).state = .rampDown ∧
      (s.dev.tx.get c).rampLen ≤ (s.dev.tx.get c).rampDone) ∧
    (let s : State := st (base); let c : Carrier := .a; s.dev.clock.power.get c = true ∧
      (s.dev.conv.get c).loopRunning = false) ∧
    (let s : State := st (modConvK .b 4 ({ · with pending := [{ age := 601 }, { age := 2 }] }) (modConv .b ({ · with loopRunning := true }) baseZr));
      let c : Carrier := .b; let k : Fin 8 := 4; let e : ElemChange := { age := 601 }; zr s.dev c = true ∧
      (s.dev.conv.get c).loopRunning = true ∧ tb (csetN s.dev c 0x0241 1) k.val = false ∧
      e ∈ (convOf s.dev c k.val).pending ∧ csetN s.dev c 0x0241 4 < e.age) ∧
    (let s : State := st (putSetting (skey 0x0220 1 0 0) 1 .block base); let c : Carrier := .a;
      let txw : Bool := true; s.dev.clock.power.get c = true ∧
      (native s.dev c = false ∨ (s.dev.tx.get c).state = .off ∨ txw = true)) := by
  decide +kernel

theorem test_AcquisitionProgress_met :
    (let s : State := st (modConv .a ({ · with loopRunning := true, fgDone := true }) (modRx .a ({ · with enabled := true }) base));
      let c : Carrier := .a; (s.dev.rx.get c).state = .off ∧ (s.dev.rx.get c).enabled = true ∧
      (s.dev.conv.get c).loopRunning = true ∧ (s.dev.conv.get c).fgDone = true ∧ losP s.dev c = false) ∧
    (let s : State := st (modRx .a ({ · with state := .powerSeen, exitCount := 8 }) base); let c : Carrier := .a;
      (s.dev.rx.get c).state = .powerSeen ∧ 8 ≤ (s.dev.rx.get c).exitCount) ∧
    (let s : State := st (modRx .a ({ · with state := .cdSearch }) base); let c : Carrier := .a;
      let m : ModePlan := mNat; (s.dev.rx.get c).state = .cdSearch ∧ modeOf s.dev c = some m ∧
      (s.dev.rx.get c).cdOutOfRange = false) ∧
    (let s : State := st (modRx .b ({ · with state := .clockLock, exitCount := 1000 }) base); let c : Carrier := .b;
      (s.dev.rx.get c).state = .clockLock ∧ 1000 ≤ (s.dev.rx.get c).exitCount) ∧
    (let s : State := st (modRx .b ({ · with state := .eqConverge, exitCount := 1000 }) base);
      let c : Carrier := .b; (s.dev.rx.get c).state = .eqConverge ∧ 1000 ≤ (s.dev.rx.get c).exitCount) ∧
    (let s : State := st (modRx .b ({ · with state := .carrierLock, exitCount := 3, mapReported := 7 }) base);
      let c : Carrier := .b; let u : AcqIn := {}; (s.dev.rx.get c).state = .carrierLock ∧ native s.dev c = true ∧
      3 ≤ (s.dev.rx.get c).exitCount ∧ u.map = 0x03020100) ∧
    (let s : State := st (modRx .b ({ · with state := .carrierLock, exitCount := 3, mapReported := 7 }) base);
      let c : Carrier := .b; let u : AcqIn := { map := 5 }; (s.dev.rx.get c).state = .carrierLock ∧
      native s.dev c = true ∧ 3 ≤ (s.dev.rx.get c).exitCount ∧ feAuto s.dev c = true ∧ u.map ≠ 0x03020100) ∧
    (let s : State := st (modRx .b ({ · with state := .superframeLock, exitCount := 128, bringUp := true }) base);
      let c : Carrier := .b; (s.dev.rx.get c).state = .superframeLock ∧
      (if native s.dev c then 128 else 38093) ≤ (s.dev.rx.get c).exitCount) ∧
    (let s : State := st (modRx .a ({ · with state := .staged, exitCount := 8, stageSf := some 3 }) base);
      let c : Carrier := .a; (s.dev.rx.get c).state = .staged ∧ (s.dev.rx.get c).stageSf.isSome = true ∧
      8 ≤ (s.dev.rx.get c).exitCount) := by
  decide +kernel

theorem test_AcquisitionFalls_met :
    (let s : State := st (modRx .a ({ · with state := .powerSeen, ticks := 20000 }) base); let c : Carrier := .a;
      (s.dev.rx.get c).state = .powerSeen ∧ 20000 ≤ (s.dev.rx.get c).ticks) ∧
    (let s : State := st (modRx .a ({ · with state := .cdSearch, ticks := 1650000 }) base); let c : Carrier := .a;
      (s.dev.rx.get c).state = .cdSearch ∧
      (if (s.dev.rx.get c).hint = .blind || (s.dev.rx.get c).hintMissed then 1650000 else 50000) ≤ (s.dev.rx.get c).ticks) ∧
    (let s : State := st (modRx .a ({ · with state := .clockLock, ticks := 30000 }) base); let c : Carrier := .a;
      (s.dev.rx.get c).state = .clockLock ∧ 30000 ≤ (s.dev.rx.get c).ticks) ∧
    (let s : State := st (modRx .a ({ · with state := .eqConverge, ticks := 80000 }) base); let c : Carrier := .a;
      (s.dev.rx.get c).state = .eqConverge ∧ 80000 ≤ (s.dev.rx.get c).ticks) ∧
    (let s : State := st (modRx .b ({ · with state := .carrierLock, ticks := 40000, acqRetries := 65535 }) base);
      let c : Carrier := .b; (s.dev.rx.get c).state = .carrierLock ∧ 40000 ≤ (s.dev.rx.get c).ticks) ∧
    (let s : State := st (modRx .b ({ · with state := .superframeLock, ticks := 60000 }) base);
      let c : Carrier := .b; (s.dev.rx.get c).state = .superframeLock ∧ 60000 ≤ (s.dev.rx.get c).ticks) ∧
    (let s : State := st (modRx .b ({ · with state := .eqConverge, clockBad := 10000 }) base);
      let c : Carrier := .b; (s.dev.rx.get c).state.atLeast .eqConverge = true ∧
      rxSet s.dev c 24 ≤ (s.dev.rx.get c).clockBad) ∧
    (let s : State := st (modRx .b ({ · with state := .inService, errBad := 10000 }) base); let c : Carrier := .b;
      (s.dev.rx.get c).state.atLeast .carrierLock = true ∧ (s.dev.rx.get c).clockBad < rxSet s.dev c 24 ∧
      rxSet s.dev c 24 ≤ (s.dev.rx.get c).errBad) ∧
    (let s : State := st (modRx .b ({ · with state := .cdSearch, hint := .last }) base); let c : Carrier := .b;
      (s.dev.rx.get c).state = .cdSearch ∧ (s.dev.rx.get c).hint ≠ .blind ∧ (s.dev.rx.get c).hintMissed = false) := by
  decide +kernel

theorem test_Agreements_met :
    (let s : State := st (modRx .a ({ · with farRec := { kind := 1, nonce := 5, countBack := 10 }, ownRec := { verb := 1 } }) base);
      let c : Carrier := .a; (s.dev.rx.get c).farRec.kind = 1 ∧ (s.dev.rx.get c).farRec.verb = 0 ∧
      (s.dev.rx.get c).ownRec.verb ≠ 0 ∧ (s.dev.rx.get c).ownRec.nonce ≠ (s.dev.rx.get c).farRec.nonce ∧
      countGe (s.dev.rx.get c).farRec.countBack ((s.dev.tx.get c).xsf + 4) = true) ∧
    (let s : State := st (modRx .a ({ · with farRec := { kind := 1, nonce := 5, countBack := 3 }, ownRec := { verb := 1 } }) base);
      let c : Carrier := .a; (s.dev.rx.get c).farRec.kind ≠ 0 ∧ (s.dev.rx.get c).farRec.verb = 0 ∧
      (s.dev.rx.get c).ownRec.verb ≠ 0 ∧ (s.dev.rx.get c).ownRec.nonce ≠ (s.dev.rx.get c).farRec.nonce ∧
      countGe (s.dev.rx.get c).farRec.countBack ((s.dev.tx.get c).xsf + 4) = false) ∧
    (let s : State := st (modRx .a ({ · with agree := .proposed, proposalAge := 257, ownRec := { kind := 1 } }) base);
      let c : Carrier := .a; (s.dev.rx.get c).agree = .proposed ∧ 256 < (s.dev.rx.get c).proposalAge) ∧
    (let s : State := st (modRx .a ({ · with state := .staged, farRec := { rxState := 7 } }) base);
      let c : Carrier := .a; bothStaged s.dev c = true ∧ (s.dev.rx.get c).retryEpochs = none) ∧
    (let s : State := st (modRx .a ({ · with state := .staged, farRec := { rxState := 7 }, retryEpochs := some 0 }) base);
      let c : Carrier := .a; bothStaged s.dev c = true ∧ (s.dev.rx.get c).retryEpochs = some 0) ∧
    (let s : State := st (modRx .a ({ · with state := .staged, exitCount := 7, stageSf := some 8 }) base);
      let c : Carrier := .a; let n : Nat := 8; (s.dev.rx.get c).state = .staged ∧ (s.dev.rx.get c).stageSf = some n ∧
      8 ≤ n ∧ (s.dev.rx.get c).exitCount < 8) := by
  decide +kernel

theorem test_AccordLoads_met :
    (let s : State := st (modSlot 3 ({ · with state := .verifying }) base); let i : Fin 16 := 3;
      (accSlot s.dev i.val).state = .verifying) ∧
    (let s : State := st (modSlot 3 ({ · with state := .loading, idle := 11 }) base); let i : Fin 16 := 3;
      (accSlot s.dev i.val).state = .loading ∧ (accSlot s.dev i.val).source = 0 ∧ 10 < (accSlot s.dev i.val).idle) ∧
    (let s : State := st (modSlot 3 ({ · with state := .loading, source := 1, lastAt := 7 }) (modTiming ({ · with now := SEC + 7 }) base));
      let i : Fin 16 := 3; (accSlot s.dev i.val).state = .loading ∧ (accSlot s.dev i.val).source = 1 ∧
      (accSlot s.dev i.val).lastAt + SEC ≤ s.dev.timing.now) ∧
    (let s : State := st (modSlot 3 ({ · with state := .loading, source := 1, imageLen := 2 }) base);
      let i : Fin 16 := 3; let image : List Byte := [1, 2]; (accSlot s.dev i.val).state = .loading ∧
      (accSlot s.dev i.val).source = 1 ∧ image.length = (accSlot s.dev i.val).imageLen) ∧
    (let s : State := st (modSlot 3 ({ · with state := .loading, source := 2, libEntry := 9 }) (modNand ({ · with entries := [(0, [{ id := 9, data := [1] }])] }) base));
      let i : Fin 16 := 3; let e : NandEntry := { id := 9, data := [1] }; (accSlot s.dev i.val).state = .loading ∧
      (accSlot s.dev i.val).source = 2 ∧ libEntry s.dev (accSlot s.dev i.val).libEntry = some e ∧ e.invalid = false) ∧
    (let s : State := st (modSlot 3 ({ · with state := .loading, source := 2, libEntry := 9 }) (modNand ({ · with entries := [(0, [{ id := 9, data := [1] }])] }) base));
      let i : Fin 16 := 3; let e : NandEntry := { id := 9, data := [1] }; (accSlot s.dev i.val).state = .loading ∧
      (accSlot s.dev i.val).source = 2 ∧ libEntry s.dev (accSlot s.dev i.val).libEntry = some e) := by
  decide +kernel

theorem test_AccordStagingAndSwitch_met :
    (let s : State := st (modSlot 3 ({ · with state := .valid }) (modAccord (fun a => { a with standby := .staging, standbySet := { a.standbySet with slot := some 3 } }) base));
      let i : Nat := 3; s.dev.accord.standby = .staging ∧ s.dev.accord.standbySet.slot = some i ∧
      (accSlot s.dev i).state = .valid ∧ ((accSlot s.dev i).plan.cores.any fun k => coreRetired s.dev k.1) = false) ∧
    (let s : State := st (modSlot 3 ({ · with state := .valid }) (modAccord (fun a => { a with standby := .staging, standbySet := { a.standbySet with slot := some 3 } }) base));
      let i : Nat := 3; s.dev.accord.standby = .staging ∧ s.dev.accord.standbySet.slot = some i ∧
      (accSlot s.dev i).state = .valid) ∧
    (let s : State := st (modAccord ({ · with standby := .scheduled, sinceAccept := 2, standbySet := { slot := some 3 } }) baseZr);
      switchDue s.dev = true) ∧
    (let s : State := st (modAccord ({ · with standby := .switching, rxWait := ⟨true, true⟩ }) base);
      let c : Carrier := .b; s.dev.accord.standby = .switching ∧ s.dev.accord.rxWait.get c = true ∧
      (agreedWait s.dev c && (s.dev.rx.get c).state.atLeast .superframeLock) = false) ∧
    (let s : State := st (modAccord ({ · with standby := .switching }) base); switchDone s.dev = true ∧
      s.dev.accord.held = []) := by
  decide +kernel

theorem test_KeysEraseAndAge_met :
    (let s : State := st (modCrypto .a ({ · with tx := ⟨{ state := .active, key := some 1 }, {}⟩ }) base);
      (source s.dev 0x0607 0).cond = false) ∧
    (let s : State := st (modCrypto .a ({ · with tx := ⟨{ state := .active, key := some 1 }, {}⟩ }) base);
      let k : Fin 3 := 2; (source s.dev (0x0601 + k.val) 0).cond = false) ∧
    (let s : State := st (modCrypto .a ({ · with tx := ⟨{ state := .active, key := some 1, age := 0xFFFF0000 }, {}⟩ }) base);
      let c : Carrier := .a; let rx : Bool := false; let k : Nat := 0;
      activeSlot (if rx then (s.dev.crypto.get c).rx else (s.dev.crypto.get c).tx) = some k ∧
      2 ^ 32 - 2 ^ 16 ≤ (slotAt (if rx then (s.dev.crypto.get c).rx else (s.dev.crypto.get c).tx) k).age) ∧
    (let s : State := st (modCrypto .a ({ · with rx := ⟨{}, { state := .retiring, key := some 1 }⟩ }) base);
      let c : Carrier := .a; let rx : Bool := true; let k : Fin 2 := 1;
      (slotAt (if rx then (s.dev.crypto.get c).rx else (s.dev.crypto.get c).tx) k.val).state = .retiring) ∧
    (let s : State := st (modCrypto .b ({ · with erasing := true, tx := ⟨{ state := .retiring, key := some 1 }, {}⟩ }) base);
      let c : Carrier := .b; (s.dev.crypto.get c).erasing = true ∧ (s.dev.crypto.get c).heldEnable = none) := by
  decide +kernel

theorem test_CapturesTrigger_met :
    (let s : State := st (modCap 2 ({ · with state := .armed, trigMask := 8, trigEdge := 1 }) base);
      let falling : Bool := true; let n : Fin 4 := 2; (cap s.dev n.val).state = .armed ∧
      (cap s.dev n.val).trig = none ∧ (cap s.dev n.val).trigMask.getLsbD 3 = true ∧
      (cap s.dev n.val).trigMask.getLsbD 4 = false ∧ (cap s.dev n.val).trigEdge = bit falling) ∧
    (let s : State := st (modCap 2 ({ · with state := .armed, trig := some (3, 5, 6) }) (modTiming ({ · with now := 6 }) base));
      let n : Fin 4 := 2; let k : Nat := 3; let at_ : Time := 5; let point : Time := 6;
      (cap s.dev n.val).state = .armed ∧ (cap s.dev n.val).trig = some (k, at_, point) ∧ point ≤ s.dev.timing.now) ∧
    (let s : State := st (modCap 2 ({ · with state := .triggered, trigOffset := 1, postBytes := 2 }) base);
      let n : Fin 4 := 2; let x : CaptureIn := { data := [1, 2, 3] }; (cap s.dev n.val).state = .triggered ∧
      x.data.length = (cap s.dev n.val).trigOffset + (cap s.dev n.val).postBytes) ∧
    (let s : State := st (modCap 2 ({ · with state := .spilling, data := [4] }) (modNand ({ · with present := true, spillMiB := 64 }) base));
      let n : Fin 4 := 2; (cap s.dev n.val).state = .spilling ∧ s.dev.boot.nand.present = true) ∧
    (let s : State := st (modCap 2 ({ · with state := .done, readout := some (1, 0, 65), data := [4] }) (modRing 1 ({ · with enable := true, kind := 2 }) base));
      let n : Fin 4 := 2; let k : Nat := 1; let a : Nat := 0; let e : Nat := 65;
      (cap s.dev n.val).readout = some (k, a, e) ∧ (ring s.dev k).enable = true ∧ (ring s.dev k).kind = 2 ∧
      ringFull (ring s.dev k) = false) := by
  decide +kernel

theorem test_OverheadPorts_met :
    (let s : State := st (base); s.dev.ohpFs = true) ∧
    (let s : State := st (putOhpFs false base); s.dev.ohpFs = false) ∧
    (let s : State := st (cfg 0x0404 1 0 0 1 (modLine .a (fun l => { l with ohp := { l.ohp with ext := true } }) base));
      let c : Carrier := .a; s.dev.ohpFs = true ∧ accepted s.dev (skey 0x0404 (carCode c) 0 0) = 1 ∧
      (s.dev.line.get c).ohp.ext = true) ∧
    (let s : State := st (modRx .b ({ · with state := .carrierLock }) baseZr); let c : Carrier := .b;
      zr s.dev c = true ∧ (s.dev.rx.get c).state = .carrierLock) ∧
    (let s : State := st (modRx .b ({ · with state := .inService }) baseZr); let c : Carrier := .b;
      zr s.dev c = true ∧ (s.dev.rx.get c).state = .inService) := by
  decide +kernel

theorem test_OstcBursts_met :
    (let s : State := st (cfg 0x0700 1 0 0 1 (cfg 0x0700 1 0 8 0 (modTx .a ({ · with state := .on }) (modOstc .a ({ · with txq := [{ payload := [5] }] }) base))));
      let c : Carrier := .a; let m : Msg := { payload := [5] }; (s.dev.ostc.get c).kept = false ∧
      pick s.dev c false (s.dev.ostc.get c).txq = some m ∧ (s.dev.ostc.get c).burst = none ∧
      (s.dev.ostc.get c).gap = 0 ∧ cset s.dev c 0x0700 0 = 1 ∧ (s.dev.tx.get c).state = .on ∧
      s.dev.clock.pll ≠ .coasting) ∧
    (let s : State := st (modOstc .b ({ · with burst := some { total := 9, sent := 9 } }) base);
      let c : Carrier := .b; let b : Burst := { total := 9, sent := 9 }; (s.dev.ostc.get c).burst = some b ∧
      b.total ≤ b.sent ∧ b.truncated = false) ∧
    (let s : State := st (modOstc .b ({ · with burst := some { total := 9, sent := 9, truncated := true } }) base);
      let c : Carrier := .b; let b : Burst := { total := 9, sent := 9, truncated := true };
      (s.dev.ostc.get c).burst = some b ∧ b.total ≤ b.sent ∧ b.truncated = true) ∧
    (let s : State := st (modOstc .b ({ · with burst := some { total := 90, sent := 9 } }) base);
      let c : Carrier := .b; let b : Burst := { total := 90, sent := 9 }; (s.dev.ostc.get c).burst = some b ∧
      b.truncated = false ∧ b.sent + 8 < b.total ∧ (s.dev.tx.get c).state ≠ .on) := by
  decide +kernel

theorem test_OstcReception_met :
    (let s : State := st (cfg 0x0700 1 0 1 1 (modConv .a ({ · with loopRunning := true }) base));
      let c : Carrier := .a; ostcRuns s.dev c = true ∧ (s.dev.ostc.get c).rx = .search) ∧
    (let s : State := st (cfg 0x0700 1 0 1 1 (modOstc .a ({ · with rx := .triggered }) (modConv .a ({ · with loopRunning := true }) base)));
      let c : Carrier := .a; ostcRuns s.dev c = true ∧ (s.dev.ostc.get c).rx = .triggered) ∧
    (let s : State := st (cfg 0x0700 1 0 1 1 (modOstc .a ({ · with rx := .triggered }) (modConv .a ({ · with loopRunning := true }) base)));
      let c : Carrier := .a; (s.dev.ostc.get c).rx = .triggered) ∧
    (let s : State := st (cfg 0x0700 1 0 1 1 (modOstc .a ({ · with rx := .qualified }) (modConv .a ({ · with loopRunning := true }) base)));
      let c : Carrier := .a; (s.dev.ostc.get c).rx = .qualified) ∧
    (let s : State := st (cfg 0x0700 1 0 1 1 (modOstc .a ({ · with rx := .qualified }) (modConv .a ({ · with loopRunning := true }) base)));
      let c : Carrier := .a; ostcRuns s.dev c = true ∧
      ((s.dev.ostc.get c).rx = .qualified ∨ (s.dev.ostc.get c).rx = .receiving)) ∧
    (let s : State := st (cfg 0x0700 1 0 1 1 (modOstc .a ({ · with rx := .qualified }) (modConv .a ({ · with loopRunning := true }) base)));
      let c : Carrier := .a; ostcRuns s.dev c = true ∧ (s.dev.ostc.get c).rx = .qualified) ∧
    (let s : State := st (cfg 0x0700 1 0 1 1 (modOstc .a ({ · with rx := .receiving }) (modConv .a ({ · with loopRunning := true }) base)));
      let c : Carrier := .a; ostcRuns s.dev c = true ∧ (s.dev.ostc.get c).rx = .receiving) ∧
    (let s : State := st (cfg 0x0700 1 0 1 1 (modOstc .a ({ · with rx := .receiving }) (modConv .a ({ · with loopRunning := true }) base)));
      let c : Carrier := .a; ostcRuns s.dev c = true ∧ (s.dev.ostc.get c).rx = .receiving) ∧
    (let s : State := st (cfg 0x0700 1 0 8 0 (cfg 0x0700 1 0 1 1 (modOstc .a ({ · with rx := .receiving, mark := some 5 }) (modConv .a ({ · with loopRunning := true }) base))));
      let c : Carrier := .a; let m : Msg := { sender := 1, payload := [5] }; ostcRuns s.dev c = true ∧
      (s.dev.ostc.get c).rx = .receiving ∧ m.tagged = false ∧ m.type = 0 ∧ m.dest = 0xFF ∧ cset s.dev c 0x0700 8 = 0 ∧
      (s.dev.ostc.get c).rxq.length < 16) := by
  decide +kernel

theorem test_ReferencesMove_met :
    (let s : State := st (modTtx .b ({ · with lastAt := some 5 }) (modCand 12 ({ · with valid := true, state := .available }) (modTiming ({ · with now := 5 * SEC + 5 }) base)));
      let c : Carrier := .b; let at_ : Time := 5; (s.dev.ttx.get c).lastAt = some at_ ∧
      at_ + 5 * SEC ≤ s.dev.timing.now) ∧
    (let s : State := st (modCand 0 ({ · with valid := true, state := .qualifying, left := 1 }) base);
      let n : Fin 13 := 0; (cand s.dev n.val).valid = true ∧ (cand s.dev n.val).state = .qualifying ∧
      (cand s.dev n.val).left ≤ 1) ∧
    (let s : State := st (modCand 0 ({ · with valid := true, state := .waitRestore, left := 0 }) base);
      let n : Fin 13 := 0; (cand s.dev n.val).valid = true ∧ (cand s.dev n.val).state = .waitRestore ∧
      (cand s.dev n.val).left = 0) ∧
    (let s : State := st (modCand 3 ({ · with valid := true, state := .excluded, agree := 10 }) base);
      let n : Fin 13 := 3; (cand s.dev n.val).state = .excluded ∧ 10 ≤ (cand s.dev n.val).agree) ∧
    (let s : State := st (modCand 3 ({ · with qlAt := some 1, qlRx := 2 }) (modTiming ({ · with now := 5 * SEC + 1 }) base));
      let n : Fin 13 := 3; let at_ : Time := 1; (cand s.dev n.val).qlAt = some at_ ∧ at_ + 5 * SEC ≤ s.dev.timing.now) := by
  decide +kernel

theorem test_DpllAndOscillator_met :
    (let s : State := st (modTiming ({ · with dpll := .acquiring, lockRun := 10001 }) base);
      s.dev.timing.dpll = .acquiring ∧ belowLock s.dev = true ∧ dpllSet s.dev 8 < s.dev.timing.lockRun) ∧
    (let s : State := st (modTiming ({ · with dpll := .locked, dwell := some 0, bwUsed := 13 }) base);
      s.dev.timing.dwell = some 0 ∧ belowLock s.dev = true ∧ bwInUse s.dev < s.dev.timing.bwUsed - 1) ∧
    (let s : State := st (modTiming ({ · with oscReady := true }) base); s.dev.timing.oscReady = true ∧
      s.dev.timing.dpll ≠ .holdover) ∧
    (let s : State := st (modTiming ({ · with oscReady := true, dpll := .holdover }) base);
      s.dev.timing.oscReady = true ∧ s.dev.timing.dpll = .holdover) ∧
    (let s : State := st (modTiming ({ · with oscTemp := some 5, oscTempAt := 1, now := 10 * SEC + 1 }) base);
      s.dev.timing.oscTemp.isSome = true ∧ s.dev.timing.oscTempAt + 10 * SEC ≤ s.dev.timing.now) := by
  decide +kernel

theorem test_TimeAndSillage_met :
    (let s : State := st (modTiming ({ · with timeSet := some (1000, 2), now := 5 * SEC + 9 }) base);
      let sec : Nat := 1000; let n : Nat := 2; s.dev.timing.timeSet = some (sec, n) ∧ 2 ≤ n ∧
      s.dev.timing.heldSnap = none) ∧
    (let s : State := st (modTiming ({ · with fitDue := true, fitAge := 9 }) base); s.dev.timing.fitDue = true) ∧
    (let s : State := st (modTiming ({ · with snapDue := true, sillage := [{ tS := 4 }] }) (modNand ({ · with present := true }) base));
      s.dev.timing.snapDue = true ∧ s.dev.boot.nand.present = true) ∧
    (let s : State := st (modTiming ({ · with snapDue := true, sillage := [{ tS := 4 }] }) (modNand ({ · with present := true }) base));
      s.dev.timing.snapDue = true) ∧
    (let s : State := st (modTiming ({ · with sillage := [{ tS := 4 }] }) (modClock ({ · with snapAge := some 86400 }) (modNand ({ · with present := true, snaps := [{ recs := [{ tS := 3 }] }] }) base)));
      let x : SillageSnap := { recs := [{ tS := 3 }] }; let r : List SillageSnap := []; let a : Nat := 86400;
      s.dev.timing.restoreDue = true ∧ s.dev.boot.nand.snaps = x :: r ∧ s.dev.clock.snapAge = some a ∧ a ≤ 86400) ∧
    (let s : State := st (modTiming ({ · with sillage := [{ tS := 4 }] }) (modClock ({ · with snapAge := some 86401 }) (modNand ({ · with present := true, snaps := [{ recs := [{ tS := 3 }] }] }) base)));
      let x : SillageSnap := { recs := [{ tS := 3 }] }; let r : List SillageSnap := []; let a : Nat := 86401;
      s.dev.timing.restoreDue = true ∧ s.dev.boot.nand.snaps = x :: r ∧ s.dev.clock.snapAge = some a ∧ 86400 < a) := by
  decide +kernel

theorem test_TimeTransferRecords_met :
    (let s : State := st (cfg 0x0900 1 0 4 0 (modRx .a ({ · with inStep := true }) base)); let c : Carrier := .a;
      let x : TtxIn := { record := { seq := 4 } }; x.ostc = false ∧ x.nsoValid = true ∧
      (s.dev.rx.get c).inStep = true ∧ x.record.tagged = false ∧ cset s.dev c 0x0900 4 = 0) ∧
    (let x : TtxIn := { nsoValid := false }; x.ostc = false ∧ x.nsoValid = false) ∧
    (let s : State := st (cfg 0x0905 0 5 2 1 (withPlan (fun p => { p with clients := [{ lane := 5 }] }) base));
      let x : PtpIn := { port := 5, egress := true, sequence := 7, at_ := 10 }; ethFirst s.dev x.port = true ∧
      x.messageType ≤ 3 ∧ tb (dsetN s.dev 0x0905 x.port 3) x.encap = true ∧ dset s.dev 0x0905 x.port 4 = 0 ∧
      dsetN s.dev 0x0905 x.port (if x.egress then 2 else 1) = 1) ∧
    (let s : State := st (cfg 0x0905 0 5 2 3 (withPlan (fun p => { p with clients := [{ lane := 5 }] }) base));
      let x : PtpIn := { port := 5, egress := true, sequence := 7, at_ := 10 }; ethFirst s.dev x.port = true ∧
      x.messageType ≤ 3 ∧ tb (dsetN s.dev 0x0905 x.port 3) x.encap = true ∧ dset s.dev 0x0905 x.port 4 = 0 ∧
      x.egress = true ∧ dsetN s.dev 0x0905 x.port 2 = 3) := by
  decide +kernel

theorem test_BufferMemoryUpkeep_met :
    (let s : State := st (modMem ({ · with reconfig := some { sizes := [4096, 8192, 4096, 0, 0] } }) base);
      let x : Reconfig := { sizes := [4096, 8192, 4096, 0, 0] }; s.dev.mem.reconfig = some x ∧
      s.dev.accord.loadHeld = none ∧ (∀ q, q ∈ s.dev.mem.queues → q.2.held = none) ∧
      (∀ i, i < 4 → (cap s.dev i).held = none)) ∧
    (let s : State := st (modMem ({ · with scrubOn := true }) base); dramUp s.dev = true ∧
      s.dev.mem.scrubOn = true ∧ s.dev.mem.scrubOff = false ∧ s.dev.mem.scrubBusy = false) ∧
    (let s : State := st (modMem ({ · with scrubBusy := true, scrubNext := 3, scrubStart := some 0 }) base);
      s.dev.mem.scrubBusy = true ∧ s.dev.mem.scrubOff = false) ∧
    (let s : State := st (modMem ({ · with scrubStart := some 1 }) (modTiming ({ · with now := 72 * 3600 * SEC + 1 }) base));
      let b : Time := 1; s.dev.mem.scrubStart = some b ∧ s.dev.mem.scrubLate = false ∧
      b + 72 * 3600 * SEC ≤ s.dev.timing.now) ∧
    (let x : DramIn := { tower := 2, ue := true }; x.ue = true ∧ x.holder = .none) ∧
    (let x : DramIn := { tower := 2, bank := 3 }; x.ue = false ∧ x.scrub = false) ∧
    (let s : State := st (modTower 1 ({ · with copying := [(3, 4), (5, 6)] }) base); let w : Fin 4 := 1;
      let bank : Nat := 3; let row : Nat := 4; let rest : List (Nat × Nat) := [(5, 6)];
      (tower s.dev w.val).copying = (bank, row) :: rest) ∧
    (let s : State := st (base); let w : Fin 4 := 3; let fast : Bool := true;
      (tower s.dev w.val).fastRefresh ≠ fast) := by
  decide +kernel

theorem test_LatencyEqualiserFrames_met :
    (let s : State := st (modQueue 0 ({ · with state := .draining }) (withPlan (fun p => { p with clients := [{ lane := 5, rate := 10000 }] }) base));
      let x : LeqIn := { port := 5, bytes := zeros 64 }; let k : ClientPlan := { lane := 5, rate := 10000 };
      leqClient s.dev x.port = some k ∧ (queue s.dev (leqQueueOf s.dev x.port x.bytes)).state = .draining) ∧
    (let s : State := st (cfg 0x0B08 0 0 3 1 (cfg 0x0B07 0 1 1 4 (modQueue 0 ({ · with state := .enabled }) (withPlan (fun p => { p with clients := [{ lane := 5, rate := 10000 }], fixed := [(skey 0x0B05 0 5 6, 1500)] }) base))));
      let x : LeqIn := { port := 5, arrival := 700, bytes := zeros 64 };
      let k : ClientPlan := { lane := 5, rate := 10000 }; let n : Nat := 0; let at_ : Int := 700;
      leqClient s.dev x.port = some k ∧ n = leqQueueOf s.dev x.port x.bytes ∧ (queue s.dev n).state = .enabled ∧
      (embedded (qset s.dev n 3) x s.dev).1 = some at_ ∧ at_ ≤ (x.arrival : Int) + (qset s.dev n 16 * NS : Nat) ∧
      (x.arrival : Int) ≤ at_ + (qset s.dev n 4 * NS : Nat) + (2 * NS : Nat) ∧
      (leqPort s.dev k.lane).tickBytes + bytesInTick s.dev k x ≤ leqAllowed s.dev k ∧
      pagesFrom none ((queue s.dev n).frames ++ [{ arrival := x.arrival, release := at_ + (qset s.dev n 4 * NS : Nat), bytes := x.bytes, port := k.lane, pos := (queue s.dev n).wr }]) ≤ qset s.dev n 8) ∧
    (let s : State := st (cfg 0x0B08 0 0 3 1 (cfg 0x0B07 0 1 1 4 (cfg 0x0B07 0 1 4 5000 (cfg 0x0B07 0 1 1 4 (modQueue 0 ({ · with state := .enabled }) (withPlan (fun p => { p with clients := [{ lane := 5, rate := 10000 }] }) base))))));
      let x : LeqIn := { port := 5, arrival := 700, bytes := zeros 64 };
      let k : ClientPlan := { lane := 5, rate := 10000 }; let n : Nat := 0; let at_ : Int := 327680700;
      leqClient s.dev x.port = some k ∧ n = leqQueueOf s.dev x.port x.bytes ∧ (queue s.dev n).state = .enabled ∧
      (embedded (qset s.dev n 3) x s.dev).1 = some at_ ∧ (x.arrival : Int) + (qset s.dev n 16 * NS : Nat) < at_) ∧
    (let s : State := st (modLane 5 ({ · with state := .locked }) (modQueue 7 ({ · with state := .enabled, frames := [{ serial := 2, arrival := 5, release := 1000, bytes := [1, 2], port := 5 }] }) (withPlan (fun p => { p with clients := [{ lane := 5, rate := 10000 }] }) base)));
      let p : Fin 32 := 5; let k : ClientPlan := { lane := 5, rate := 10000 }; let n : Nat := 7;
      let f : LeqFrame := { serial := 2, arrival := 5, release := 1000, bytes := [1, 2], port := 5 };
      let start : Time := 1000; leqClient s.dev p.val = some k ∧ leqPortDown s.dev k = false ∧
      (∀ x, x ∈ portHeads s.dev k.lane → qset s.dev x.1 12 ≠ 1) ∧ (leqPort s.dev k.lane).bypass = [] ∧
      (s.dev.mem.queues.map (·.1)).Pairwise (· < ·) ∧ nextFrame s.dev k.lane = some (n, f, start) ∧
      start < s.dev.timing.now + US) ∧
    (let s : State := st (modQueue 7 ({ · with state := .draining }) base); let q : Fin 32768 := 7;
      (queue s.dev q.val).state = .draining ∧ (queue s.dev q.val).frames = []) := by
  decide +kernel

theorem test_SensingEvents_met :
    (let s : State := st (modSense 4 ({ · with running := true }) base); let ch : Fin 64 := 4; let sec : Nat := 2;
      let k : Nat := 0; (sense s.dev ch.val).running = true ∧ k < senseSet s.dev ch.val 12 ∧
      senseSet s.dev ch.val 14 ≠ 0 ∧ sec % senseSet s.dev ch.val 14 = 0 ∧
      (∀ u ∈ (sense s.dev ch.val).lastOut, u < sec * SEC + k * senseSet s.dev ch.val 14 * SEC / senseSet s.dev ch.val 12)) ∧
    (let s : State := st (modSense 4 ({ · with running := true, left := some 0, cur := some { seq := 1 } }) base);
      let ch : Fin 64 := 4; let r : SenseRec := { seq := 1 }; (sense s.dev ch.val).cur = some r ∧
      (48 ≤ r.samples.length ∨ (sense s.dev ch.val).left = some 0) ∧ senseRing s.dev ch.val = none) ∧
    (let s : State := st (cfg 0x0A00 0 4 2 6 (modSense 4 ({ · with running := true, left := some 0, cur := some { seq := 1 } }) base));
      let ch : Fin 64 := 4; let r : SenseRec := { seq := 1 }; let k : Nat := 6; (sense s.dev ch.val).cur = some r ∧
      (48 ≤ r.samples.length ∨ (sense s.dev ch.val).left = some 0) ∧ senseRing s.dev ch.val = some k ∧
      (ring s.dev k).enable = false) := by
  decide +kernel

theorem test_ConverterCalibration_met :
    (let s : State := st (modConvK .a 2 ({ · with calTicks := 1000 }) base); let c : Carrier := .a;
      let k : Fin 4 := 2; let n : Fin 72 := 70; let offset : Int := -64; let gain : Int := 127;
      let skew : Nat := 1023; 1000 ≤ (convOf s.dev c k.val).calTicks ∧
      ((sliceAt s.dev c k.val n.val).state = .spareReady ∨ (sliceAt s.dev c k.val n.val).state = .spareCalibrating) ∧
      -64 ≤ offset ∧ offset ≤ 63 ∧ -128 ≤ gain ∧ gain ≤ 127 ∧ skew ≤ 1023) ∧
    (let s : State := st (modConvK .a 2 ({ · with calTicks := 1000 }) base); let c : Carrier := .a;
      let k : Fin 4 := 2; let n : Fin 72 := 70; let offset : Int := -65; let gain : Int := 127;
      let skew : Nat := 1023; 1000 ≤ (convOf s.dev c k.val).calTicks ∧ (sliceAt s.dev c k.val n.val).failCause = 0 ∧
      ((sliceAt s.dev c k.val n.val).state = .spareReady ∨ (sliceAt s.dev c k.val n.val).state = .spareCalibrating) ∧
      (offset < -64 ∨ 63 < offset ∨ gain < -128 ∨ 127 < gain ∨ 1023 < skew)) ∧
    (let s : State := st (modConv .b ({ · with loopRunning := true }) base); let c : Carrier := .b;
      (s.dev.conv.get c).loopRunning = true ∧ (s.dev.conv.get c).fgDone = false) ∧
    (let s : State := st (modHost ({ · with pendCmds := [⟨0, 0x0244, 1⟩] }) (modConv .b ({ · with loopRunning := true, selftest := some ⟨0x0244, rq 1 1 []⟩ }) base));
      let c : Carrier := .b; let h : Held := ⟨0x0244, rq 1 1 []⟩; (s.dev.conv.get c).selftest = some h ∧
      ⟨h.req.mb.val, h.op, h.req.seq.toNat⟩ ∈ s.dev.host.pendCmds) ∧
    (let s : State := st (modHost ({ · with pendCmds := [⟨0, 0x0244, 1⟩] }) (modConv .b ({ · with loopRunning := true, selftest := some ⟨0x0244, rq 1 1 []⟩ }) base));
      let c : Carrier := .b; let h : Held := ⟨0x0244, rq 1 1 []⟩;
      let found : List (Option (Nat × Bool)) := [some (0, true), none, none, none]; let a : Nat := 1;
      (s.dev.conv.get c).selftest = some h ∧ a < 4 ∧ (∀ x ∈ found.take 4, ∀ q ∈ x, q.1 ≠ a)) := by
  decide +kernel

theorem test_SuperframesAndFrames_met :
    (let s : State := st (base); let c : Carrier := .a; lineClockRuns s.dev c = true ∧
      inReset s.dev .timing = false) ∧
    (let s : State := st (modRx .a ({ · with state := .inService, syncMiss := 2 }) base); let c : Carrier := .a;
      let i : RxSfIn := {}; let m : ModePlan := mNat; rxModeOf s.dev c = some m ∧ m.native = true ∧
      (s.dev.rx.get c).state = .inService ∧ i.sync = true ∧ (s.dev.rx.get c).rxCount = none ∧
      inReset s.dev .timing = false) ∧
    (let s : State := st (modRx .a ({ · with state := .inService, syncMiss := 3 }) base); let c : Carrier := .a;
      let i : RxSfIn := { sync := false }; let m : ModePlan := mNat; rxModeOf s.dev c = some m ∧ m.native = true ∧
      (s.dev.rx.get c).state = .inService ∧ i.sync = false ∧ (s.dev.rx.get c).syncMiss = 3) ∧
    (let s : State := st (modRx .a ({ · with state := .inService, lastXsf := some 4 }) base); let c : Carrier := .a;
      let m : ModePlan := mNat; let b : List Byte := nsoOf 5; rxModeOf s.dev c = some m ∧ m.native = true ∧
      (s.dev.rx.get c).state.atLeast .superframeLock = true ∧ nsoValid b = true ∧ (s.dev.rx.get c).inStep = false ∧
      (s.dev.rx.get c).lastXsf = some (wrap 32 (fromBe (b.take 4) + 2 ^ 32 - 1))) ∧
    (let s : State := st (modRx .a ({ · with state := .inService, lastXsf := some 4 }) base); let c : Carrier := .a;
      let m : ModePlan := mNat; let b : List Byte := []; rxModeOf s.dev c = some m ∧ m.native = true ∧
      (s.dev.rx.get c).state.atLeast .superframeLock = true ∧ nsoValid b = false) ∧
    (let s : State := st (modLine .b (fun l => { l with frame := 255, ohp := { l.ohp with ext := true } }) base);
      let c : Carrier := .b; native s.dev c = true ∧ (s.dev.line.get c).ohp.ext = true) := by
  refine ⟨?_, ?_, ?_, ⟨rfl, rfl, by decide +kernel, nsoValid_append _ (by decide +kernel), rfl, by decide +kernel⟩, ?_, ?_⟩ <;> decide +kernel

theorem test_ProtectionEvents_met :
    (let s : State := st (withPlan (fun p => { p with fixed := [(skey 0x0505 0 5 1, 3)] }) base);
      let k : Fin 33 := 5; let b : List Byte := [0xF0, 1, 2, 3];
      (schemeType s.dev k.val = 3 ∨ schemeType s.dev k.val = 4) ∧ b.length = 4) ∧
    (let s : State := st (modScheme 5 ({ · with apsDiffer := 50 }) (withPlan (fun p => { p with fixed := [(skey 0x0505 0 5 1, 3)] }) base));
      let k : Fin 33 := 5; 2 ≤ schemeType s.dev k.val ∧ 50 ≤ (scheme s.dev k.val).apsDiffer ∧
      (scheme s.dev k.val).uni = false ∧ (source s.dev 0x0384 k.val).cond = false) ∧
    (let s : State := st (modScheme 5 ({ · with holds := [(2, some 0)] }) (withPlan (fun p => { p with fixed := [(skey 0x0505 0 5 1, 2)] }) base));
      let k : Fin 33 := 5; let j : Nat := 2; 2 ≤ schemeType s.dev k.val ∧ j < 4 ∧
      (Tab.get (fun _ => none) (scheme s.dev k.val).holds j : Option Nat) = some 0) ∧
    (let s : State := st (modScheme 5 ({ · with wtr := some 0, request := 8 }) (withPlan (fun p => { p with fixed := [(skey 0x0505 0 5 1, 2)] }) base));
      let k : Fin 33 := 5; 2 ≤ schemeType s.dev k.val ∧ (scheme s.dev k.val).wtr = some 0 ∧
      (scheme s.dev k.val).lo = false ∧ (scheme s.dev k.val).fs = false ∧ (scheme s.dev k.val).ms = none ∧
      (scheme s.dev k.val).due = 0 ∧ (scheme s.dev k.val).wasW = false ∧ (scheme s.dev k.val).dnr = false ∧
      (scheme s.dev k.val).farRequest = none ∧ (scheme s.dev k.val).request = 8 ∧ (scheme s.dev k.val).next = none) ∧
    (let s : State := st (modScheme 5 ({ · with next := some true }) (withPlan (fun p => { p with fixed := [(skey 0x0505 0 5 1, 2)] }) base));
      let k : Fin 33 := 5; let c : Carrier := .b; let sel : Bool := true; 2 ≤ schemeType s.dev k.val ∧
      schemeType s.dev k.val ≠ 5 ∧ (scheme s.dev k.val).next = some sel ∧ c = (if sel then .b else .a)) := by
  decide +kernel

theorem test_HitlessMerge_met :
    (let s : State := st (modScheme 0 ({ · with copies := ⟨{ state := .aligned }, { state := .aligned }⟩ }) (withPlan (fun p => { p with fixed := [(skey 0x0505 0 0 1, 1)] }) base));
      let c : Carrier := .b; merging s.dev = true ∧ copyAbsent s.dev c = true ∧
      ((scheme s.dev 0).copies.get c).state ≠ .absent) ∧
    (let s : State := st (modRx .a ({ · with state := .inService, inStep := true }) (withPlan (fun p => { p with fixed := [(skey 0x0505 0 0 1, 1)] }) base));
      let c : Carrier := .a; merging s.dev = true ∧ copyAbsent s.dev c = false ∧
      ((scheme s.dev 0).copies.get c).state = .absent) ∧
    (let s : State := st (modScheme 0 ({ · with copies := ⟨{ state := .aligned }, { state := .aligned }⟩ }) (modRx .a ({ · with state := .inService, inStep := true }) (withPlan (fun p => { p with fixed := [(skey 0x0505 0 0 1, 1)] }) base)));
      let c : Carrier := .a; let behind : Int := 150 * MS + 1; merging s.dev = true ∧ copyAbsent s.dev c = false ∧
      ((scheme s.dev 0).copies.get c).state = .aligned ∧ (150 * MS : Int) < behind ∧
      ((scheme s.dev 0).copies.get c.other).state ≠ .absent) ∧
    (let s : State := st (modScheme 0 ({ · with copies := ⟨{ state := .aligned }, { state := .aligned }⟩ }) (withPlan (fun p => { p with fixed := [(skey 0x0505 0 0 1, 1)] }) base));
      let i : MergeIn := { present := ⟨true, true⟩ }; let p : Carrier := .a; merging s.dev = true ∧
      (scheme s.dev 0).realign = false ∧ p = mergePref s.dev ∧ (scheme s.dev 0).copies.a.state = .aligned ∧
      (scheme s.dev 0).copies.b.state = .aligned ∧ i.present.a = true ∧ i.present.b = true) ∧
    (let s : State := st (modScheme 0 ({ · with copies := ⟨{ state := .aligned }, { state := .aligned }⟩ }) (withPlan (fun p => { p with fixed := [(skey 0x0505 0 0 1, 1)] }) base));
      let i : MergeIn := {}; merging s.dev = true ∧ (scheme s.dev 0).realign = false ∧ i.present.a = false ∧
      i.present.b = false) := by
  decide +kernel

theorem test_LineGroups_met :
    (let s : State := st (base); let x : GrpRecItem := { hops := 7 };
      (8 ≤ x.hops + 1 ∨ [0, x.origin, x.grp, x.member, x.g] ∈ s.dev.stack.seen)) ∧
    (let s : State := st (withPlan (fun p => { p with groups := [{ group := 3, n := 2, members := [{ index := 0 }, { index := 1, stack := 1 }] }] }) base);
      let x : GrpRecItem := { grp := 3, member := 1, origin := 1, g := 9, state := 8 }; x.hops + 1 < 8 ∧
      [0, x.origin, x.grp, x.member, x.g] ∉ s.dev.stack.seen ∧ membersHere s.dev x.grp ≠ []) ∧
    (let s : State := st (modGrp 3 ({ · with recs := [(0, [{ g := 4 }]), (1, [{ g := 4 }])], released := some 3 }) (withPlan (fun p => { p with groups := [{ group := 3, n := 2, members := [{ index := 0 }, { index := 1, stack := 1 }] }] }) base));
      let k : Fin 16 := 3;
      let g : GroupPlan := { group := 3, n := 2, members := [{ index := 0 }, { index := 1, stack := 1 }] };
      let n : BitVec 32 := 4; ((plan s.dev).groups.find? fun g => g.group = k.val) = some g ∧
      membersHere s.dev g.group ≠ [] ∧ s.dev.pendSet = [] ∧
      (∀ r ∈ (grp s.dev g.group).released, n.toNat = wrap 32 (r + 1)) ∧
      (∀ m, m ∈ g.members → (recOf (grp s.dev g.group) m.index n.toNat).isSome = true)) ∧
    (let s : State := st (modGrp 3 ({ · with recs := [(0, [{ g := 4 }])], released := some 3 }) (withPlan (fun p => { p with groups := [{ group := 3, n := 2, members := [{ index := 0 }, { index := 1, stack := 1 }] }] }) base));
      let k : Fin 16 := 3;
      let g : GroupPlan := { group := 3, n := 2, members := [{ index := 0 }, { index := 1, stack := 1 }] };
      let n : BitVec 32 := 4; let m : GroupMember := { index := 1, stack := 1 };
      ((plan s.dev).groups.find? fun g => g.group = k.val) = some g ∧ membersHere s.dev g.group ≠ [] ∧
      s.dev.pendSet = [] ∧ (∀ r ∈ (grp s.dev g.group).released, n.toNat = wrap 32 (r + 1)) ∧ m ∈ g.members ∧
      recOf (grp s.dev g.group) m.index n.toNat = none) ∧
    (let s : State := st (withPlan (fun p => { p with groups := [{ group := 3, n := 2, members := [{ index := 0 }, { index := 1, stack := 1 }] }] }) base);
      let k : Fin 16 := 3;
      let g : GroupPlan := { group := 3, n := 2, members := [{ index := 0 }, { index := 1, stack := 1 }] };
      ((plan s.dev).groups.find? fun g => g.group = k.val) = some g ∧ membersHere s.dev g.group ≠ [] ∧
      loaCond s.dev g = true ∧ (grp s.dev g.group).loa = false) ∧
    (let s : State := st (modRx .a ({ · with state := .inService, inStep := true }) (modGrp 3 ({ · with loa := true, clean := 8 }) (withPlan (fun p => { p with groups := [{ group := 3, n := 2, members := [{ index := 0 }, { index := 1, stack := 1 }] }] }) base)));
      let k : Fin 16 := 3;
      let g : GroupPlan := { group := 3, n := 2, members := [{ index := 0 }, { index := 1, stack := 1 }] };
      ((plan s.dev).groups.find? fun g => g.group = k.val) = some g ∧ membersHere s.dev g.group ≠ [] ∧
      loaCond s.dev g = false ∧ (grp s.dev g.group).loa = true ∧ 8 ≤ (grp s.dev g.group).clean) := by
  decide +kernel

theorem test_StackPorts_met :
    (let s : State := st (modPort 2 ({ · with state := .adapt }) base); let p : Fin 4 := 2;
      (sbPort s.dev p.val).state = .adapt) ∧
    (let s : State := st (modPort 2 ({ · with state := .align, good := 64 }) base); let p : Fin 4 := 2;
      (sbPort s.dev p.val).state = .align ∧ 64 ≤ (sbPort s.dev p.val).good) ∧
    (let s : State := st (modPort 2 ({ · with state := .adapt, adaptTicks := 50000 }) base); let p : Fin 4 := 2;
      (sbPort s.dev p.val).state = .adapt ∧ 50000 ≤ (sbPort s.dev p.val).adaptTicks) ∧
    (let s : State := st (modPort 2 ({ · with state := .align, good := 63 }) base);
      let f : StackFrame := { port := 2 }; (sbPort s.dev f.port.val).state = .align ∧ f.markOk = true ∧
      f.crcOk = true) ∧
    (let s : State := st (modPort 2 ({ · with state := .up, bad := 3 }) base);
      let f : StackFrame := { port := 2, crcOk := false }; (sbPort s.dev f.port.val).state = .up ∧
      (f.markOk = false ∨ f.crcOk = false) ∧ (sbPort s.dev f.port.val).bad = 3) ∧
    (let s : State := st (modPort 2 ({ · with state := .up, bad := 3 }) base);
      let f : StackFrame := { port := 2, word := { sender := 3, senderPort := 1 } };
      (sbPort s.dev f.port.val).state = .up ∧ f.markOk = true ∧ f.crcOk = true ∧ s.dev.stack.acting ≠ .actingMaster ∧
      f.word.isMaster = false ∧ f.word.masterOk = false ∧ f.recs = [] ∧ f.states = [] ∧ f.trigs = [] ∧
      f.relay = none ∧ f.msgs = []) := by
  decide +kernel

theorem test_StackTimeAndRoles_met :
    (let s : State := st (modStack ({ · with validDue := true, acting := .member }) base);
      s.dev.stack.validDue = true) ∧
    (let s : State := st (modStack ({ · with valid := true, missRun := 4, acting := .member, okRun := 9 }) base);
      s.dev.stack.valid = true ∧ 4 ≤ s.dev.stack.missRun ∧ s.dev.stack.acting ≠ .actingMaster ∧
      s.dev.stack.acting ≠ .standalone ∧ (source s.dev 0x0D02 0).cond = false) ∧
    (let s : State := st (modStack ({ · with acting := .standby, seenUp := true, missAny := 100, stackId := 2 }) base);
      s.dev.stack.acting = .standby ∧ s.dev.stack.seenUp = true ∧ 100 ≤ s.dev.stack.missAny ∧
      s.dev.stack.handover = none) ∧
    (let s : State := st (modStack ({ · with listening := true, listenTicks := 200, stackId := 2 }) base);
      s.dev.stack.listening = true ∧ 200 ≤ s.dev.stack.listenTicks ∧ s.dev.stack.heardMaster = false) ∧
    (let s : State := st (modStack ({ · with listening := true, listenTicks := 200, heardMaster := true, stackId := 2 }) base);
      s.dev.stack.listening = true ∧ 200 ≤ s.dev.stack.listenTicks ∧ s.dev.stack.heardMaster = true) ∧
    (let s : State := st (modStack ({ · with acting := .standby, handover := some (2, 0), stackId := 2 }) base);
      let sec : Nat := 0; s.dev.stack.handover = some (s.dev.stack.stackId, sec) ∧
      sec * SEC ≤ toStack s.dev s.dev.timing.now) ∧
    (let s : State := st (modStack ({ · with acting := .actingMaster, handover := some (2, 0), stackId := 3 }) base);
      let m : Nat := 2; let sec : Nat := 0; s.dev.stack.handover = some (m, sec) ∧ m ≠ s.dev.stack.stackId ∧
      s.dev.stack.acting = .actingMaster ∧ sec * SEC ≤ toStack s.dev s.dev.timing.now) ∧
    (let s : State := st (modPort 1 ({ · with state := .up, peer := some { master := some 5, hops := 1 } }) (modStack ({ · with acting := .member, master := some 5 }) base));
      let p : Nat := 1; s.dev.stack.acting ≠ .actingMaster ∧ s.dev.stack.acting ≠ .standalone ∧
      nextUpstream s.dev = some p) := by
  decide +kernel

theorem test_StackMembersAndProxies_met :
    (let s : State := st (cfg 0x0D00 0 0 1 0 (modPort 1 ({ · with state := .up }) (modStack ({ · with acting := .member, helloAge := 1000 }) base)));
      s.dev.stack.acting ≠ .standalone ∧ 1000 ≤ s.dev.stack.helloAge ∧ dset s.dev 0x0D00 0 1 = 0) ∧
    (let s : State := st (cfg 0x0D00 0 0 1 0 base);
      let m : SbMsg := { type := 3, origin := 5, body := [0, 0, 5, 1, 0, 0, 0, 0] }; let id : Nat := 5;
      dset s.dev 0x0D00 0 1 = 0 ∧ m.type = 3 ∧ id = rd m.body 2 1 % 8 ∧ id ≠ s.dev.stack.stackId) ∧
    (let s : State := st (cfg 0x0D00 0 0 1 0 base);
      let m : SbMsg := { type := 3, origin := 5, body := [0, 0, 0, 1, 0, 0, 0, 0] }; dset s.dev 0x0D00 0 1 = 0 ∧
      m.type = 3 ∧ rd m.body 2 1 % 8 = s.dev.stack.stackId ∧ (source s.dev 0x0D05 0).cond = false) ∧
    (let s : State := st (modStack ({ · with hello := [(5, some 3000)], members := 33#8, roles := [(5, some 1)] }) base);
      let m : Fin 8 := 5; let age : Nat := 3000;
      (Tab.get (fun _ => none) s.dev.stack.hello m.val : Option Nat) = some age ∧ 3000 ≤ age ∧
      m.val ≠ s.dev.stack.stackId ∧ s.dev.stack.proxyPend = [] ∧ s.dev.stack.members.getLsbD m.val = true) ∧
    (let s : State := st (modStack ({ · with members := 33#8 }) base);
      let r : Req := { rq 1 0 [] with member := 6 }; r.mb.val < 4 ∧ served s.dev = true ∧ r.here s.dev = false ∧
      (mailbox s.dev r.mb.val).busy = false ∧
      (8 ≤ r.member.toNat ∨ s.dev.stack.members.getLsbD r.member.toNat = false)) ∧
    (let s : State := st (modStack ({ · with members := 33#8 }) base); let op : BitVec 16 := 0x0222;
      let r : Req := { rq 1 0 [] with member := 5 }; r.mb.val < 4 ∧ served s.dev = true ∧ r.here s.dev = false ∧
      (mailbox s.dev r.mb.val).busy = false ∧ r.member.toNat < 8 ∧ s.dev.stack.members.getLsbD r.member.toNat = true ∧
      namesHost op.toNat r = false ∧ (Tab.get (fun _ => []) s.dev.stack.proxied r.member.toNat : List ProxyCmd) = []) ∧
    (let s : State := st (cfg 0x0D00 0 0 1 0 (modStack ({ · with proxied := [(5, [{ op := 0x0222, req := { rq 1 0 [] with member := 5 }, sent := true }])] }) (modMb 0 ({ · with busy := true }) base)));
      let m : SbMsg := { type := 1, origin := 5, dest := 0, body := respBytes 0x0222 { rq 1 0 [] with member := 5 } ⟨.ok, [7]⟩ false };
      let p : ProxyCmd := { op := 0x0222, req := { rq 1 0 [] with member := 5 }, sent := true };
      dset s.dev 0x0D00 0 1 = 0 ∧ m.type = 1 ∧ m.dest = s.dev.stack.stackId ∧
      (Tab.get (fun _ => []) s.dev.stack.proxied m.origin : List ProxyCmd) = [p] ∧ p.sent = true ∧
      rd m.body 0 2 = p.op ∧ rd m.body 2 2 = p.req.seq.toNat ∧ rd m.body 6 1 ≠ Status.pending.code ∧ p.req.mb.val < 4) ∧
    (let s : State := st (modStack ({ · with proxied := [(5, [{ op := 0x0222, req := { rq 1 0 [] with member := 5 }, sent := true }])] }) (modMb 0 ({ · with busy := true }) base));
      let m : Fin 8 := 5; let p : ProxyCmd := { op := 0x0222, req := { rq 1 0 [] with member := 5 }, sent := true };
      (Tab.get (fun _ => []) s.dev.stack.proxied m.val : List ProxyCmd) = [p] ∧ p.left = 0 ∧ p.req.mb.val < 4) ∧
    (let s : State := st (cfg 0x0D00 0 0 1 0 (modStack ({ · with acting := .actingMaster }) base));
      let m : SbMsg := { type := 2, origin := 5, dest := 0, body := [3, 2] }; dset s.dev 0x0D00 0 1 = 0 ∧ m.type = 2 ∧
      s.dev.stack.acting = .actingMaster ∧ (parseEvent m.body).type ≠ 0x0001) ∧
    (let s : State := st (modPort 1 ({ · with state := .up }) <| cfg 0x0D00 0 0 1 0 (modStack ({ · with members := 33#8 }) base));
      let m : SbMsg := { type := 0, origin := 5, dest := 0, body := reqBytes 0x0FFF (rq 0 0 []) };
      let q : Req := (parseReq 4 (reqBytes 0x0FFF (rq 0 0 []))).2; dset s.dev 0x0D00 0 1 = 0 ∧ m.type = 0 ∧
      m.dest = s.dev.stack.stackId ∧ served s.dev = true ∧ s.dev.stack.idConflict = false ∧
      cmdOf (rd m.body 0 2) q.params = none ∧ q = (parseReq 4 m.body).2 ∧ s.dev.stack.mb4Pend = []) := by
  decide +kernel

theorem test_HostRegisterWrites_met :
    (let off : BitVec 16 := 0x36; off.toNat % 4 ≠ 0) ∧
    (let s : State := st (base); let i : Iface := .pcie; let n : Fin 4 := 3;
      (i ≠ ownIface n.val ∨ served s.dev = false)) := by
  decide +kernel

theorem test_RequestBuffersAndDebugWindow_met :
    (let s : State := st (base); let n : Fin 4 := 3; let o : Nat := 0xFFC; let b : List Byte := [1, 2, 0, 4];
      bootWindow s.dev = false ∧ o < 0x1000 ∧ o % 4 = 0 ∧ b.length = 4 ∧ (mailbox s.dev n.val).busy = false) ∧
    (let s : State := st (modMb 3 ({ · with busy := true }) base); let n : Fin 4 := 3; let o : Nat := 0xFFC;
      let b : List Byte := [1, 2, 0, 4]; bootWindow s.dev = false ∧ o < 0x1000 ∧ o % 4 = 0 ∧ b.length = 4 ∧
      (mailbox s.dev n.val).busy = true) ∧
    (let s : State := st (base); let i : Iface := .pcie; let n : Fin 4 := 1; let o : Nat := 0x1000;
      let b : List Byte := [1, 2, 0, 4]; bootWindow s.dev = false ∧ o < 0x2000 ∧ o % 4 = 0 ∧ b.length = 4 ∧
      (i ≠ ownIface n.val ∨ 0x1000 ≤ o)) ∧
    (let s : State := st (modBoot ({ · with stage := .rom }) base); let o : BitVec 24 := 0xFFFFFC;
      let b : List Byte := [1, 2, 0, 4]; bootWindow s.dev = true ∧ o.toNat % 4 = 0 ∧ b.length = 4) ∧
    (let s : State := st (modHost ({ · with dbgWrite := true, dbgPage := 3 }) base); let o : BitVec 23 := 8;
      let b : Option (Fin 18) := some 4; bootWindow s.dev = false ∧ o.toNat % 4 = 0 ∧ s.dev.host.dbgWrite = true ∧
      (∀ k ∈ b, clkOn s.dev k.val = true)) ∧
    (let s : State := st (base); let b : Option (Fin 18) := none; bootWindow s.dev = false ∧
      (s.dev.host.dbgWrite = false ∨ ∃ k, b = some k ∧ clkOn s.dev k.val = false)) := by
  decide +kernel

theorem test_RequestsAndTransfers_met :
    (let s : State := st (base); let n : Fin 4 := 2; let len : BitVec 16 := 16; let b : List Byte := zeros 16;
      let st : Status := .badLength; served s.dev = true ∧ (mailbox s.dev n.val).busy = false ∧ 16 ≤ len.toNat ∧
      len.toNat ≤ 4096 ∧ requestFault len.toNat (fit len.toNat b) = some st) ∧
    (let s : State := st (modBoot ({ · with stage := .script }) base); s.dev.boot.stage = .script ∧
      s.dev.boot.fwRuns = true ∧ s.dev.boot.scriptDone = false ∧ s.dev.accord.standby ≠ .scheduled ∧
      s.dev.accord.standby ≠ .switching ∧ (mailbox s.dev 1).busy = false ∧
      (s.dev.boot.scriptNext.1 = 0 ∨ (mailbox s.dev 1).lastStatus = Status.ok.code) ∧
      bhScriptLen s.dev.boot.header ≤ s.dev.boot.scriptNext.2) ∧
    (let s : State := st (modMb 1 ({ · with lastStatus := 4 }) (modBoot ({ · with stage := .script, scriptNext := (1, 20) }) base));
      let k : Nat := 0; s.dev.boot.stage = .script ∧ s.dev.boot.fwRuns = true ∧ s.dev.boot.scriptDone = false ∧
      s.dev.accord.standby ≠ .scheduled ∧ s.dev.accord.standby ≠ .switching ∧ (mailbox s.dev 1).busy = false ∧
      s.dev.boot.scriptNext.1 = k + 1 ∧ (mailbox s.dev 1).lastStatus ≠ Status.ok.code ∧
      (mailbox s.dev 1).lastStatus ≠ Status.pending.code) ∧
    (let s : State := st (modBoot ({ · with stage := .rom, bootSrc := 1 }) base); romAt s.dev .rom = true ∧
      s.dev.boot.bootSrc = 1 ∧ bootHdrOk (memRead s.dev.host.bootBuf 0 256) = false) := by
  decide +kernel

theorem test_EventDestinations_met :
    (let s : State := st (putEvq [{ type := 0x0202 }] base); let e : EventRec := { type := 0x0202 };
      eventsRun s.dev = true ∧ s.dev.evq.find? (mayDeliver s.dev) = some e ∧ destsOf s.dev e = [none] ∧
      (lossOf s.dev none).count = 0 ∧ s.dev.host.fifo.length < 256 ∧
      (e.member ≠ s.dev.stack.stackId ∨ (s.dev.stack.acting ≠ .member ∧ s.dev.stack.acting ≠ .standby ∧
      s.dev.stack.mb4Pend = []))) ∧
    (let s : State := st (modHost ({ · with fifo := List.replicate 256 [] }) (putEvq [{ type := 0x0202 }] base));
      let e : EventRec := { type := 0x0202 }; eventsRun s.dev = true ∧ s.dev.evq.find? (mayDeliver s.dev) = some e ∧
      destsOf s.dev e = [none] ∧ 256 ≤ s.dev.host.fifo.length ∧ e.type ≠ 0x0904 ∧
      (e.member ≠ s.dev.stack.stackId ∨ (s.dev.stack.acting ≠ .member ∧ s.dev.stack.acting ≠ .standby ∧
      s.dev.stack.mb4Pend = []))) ∧
    (let s : State := st (modRing 3 ({ · with enable := true, classMask := 4 }) (modHost ({ · with fifoMask := 0 }) (putEvq [{ type := 0x0202 }] base)));
      let e : EventRec := { type := 0x0202 }; let k : Nat := 3; eventsRun s.dev = true ∧
      s.dev.evq.find? (mayDeliver s.dev) = some e ∧ destsOf s.dev e = [some k] ∧ (ring s.dev k).loss.count = 0 ∧
      ringFull (ring s.dev k) = false ∧ (e.member ≠ s.dev.stack.stackId ∨ (s.dev.stack.acting ≠ .member ∧
      s.dev.stack.acting ≠ .standby ∧ s.dev.stack.mb4Pend = []))) ∧
    (let s : State := st (modHost ({ · with fifoLoss := { count := 4 } }) base); eventsRun s.dev = true ∧
      s.dev.host.fifoLoss.count ≠ 0 ∧ s.dev.host.fifo.length < 256) ∧
    (let s : State := st (modRing 3 ({ · with msiWaits := true, vector := 5, lastMsi := some 0, coalesce := 4 }) (modHost ({ · with msixTable := [(23, 0)] }) (modTiming ({ · with now := 4 * US }) base)));
      let k : Fin 64 := 3; (ring s.dev k.val).msiWaits = true ∧
      (∀ u ∈ (ring s.dev k.val).lastMsi, u + (ring s.dev k.val).coalesce * US ≤ s.dev.timing.now) ∧
      msixMasked s.dev (ring s.dev k.val).vector = false) ∧
    (let v : BitVec 32 := 1; v.getLsbD 0 = true) ∧
    (let s : State := st (modRing 3 ({ · with head := 5, tail := 2 }) base); let k : Fin 64 := 3;
      let v : BitVec 32 := 5; tailOk (ring s.dev k.val) v.toNat = true) ∧
    (let s : State := st (modRing 3 ({ · with head := 5, tail := 2 }) base); let k : Fin 64 := 3;
      let v : BitVec 32 := 6; tailOk (ring s.dev k.val) v.toNat = false) := by
  decide +kernel

theorem test_HostLaneReception_met :
    (let s : State := st (modLane 5 ({ · with state := .noSignal }) base); let i : Fin 32 := 5;
      ballsIgnored (lane s.dev i.val) = false ∧ (lane s.dev i.val).state = .noSignal) ∧
    (let s : State := st (modLane 5 ({ · with state := .locked }) base); let i : Fin 32 := 5;
      ballsIgnored (lane s.dev i.val) = false ∧
      ((lane s.dev i.val).state = .locked ∨ (lane s.dev i.val).state = .adapting)) ∧
    (let s : State := st (modLane 5 ({ · with state := .adapting }) base); let i : Fin 32 := 5;
      let ber : Nat := 239999; (lane s.dev i.val).state = .adapting ∧ ber < 240000 ∧
      s.dev.lanes.refLost.getLsbD (i.val / 4) = false) ∧
    (let s : State := st (modLane 5 ({ · with state := .locked }) base); let i : Fin 32 := 5;
      let cdr : Bool := false; let ber : Nat := 0; (lane s.dev i.val).state = .locked ∧ (cdr = false ∨ 1000000 < ber)) ∧
    (let s : State := st (modLane 5 ({ · with state := .adapting, adaptTicks := 50001 }) base); let i : Fin 32 := 5;
      (lane s.dev i.val).state = .adapting ∧ 50001 ≤ (lane s.dev i.val).adaptTicks) ∧
    (let s : State := st (cfg 0x0C00 0 5 10 4 (modLane 5 ({ · with state := .locked }) (modTiming ({ · with now := 10 * MS }) base)));
      let i : Fin 32 := 5; (lane s.dev i.val).state = .locked ∧ (lane s.dev i.val).amLock = false ∧
      (lane s.dev i.val).polFixed = false ∧ tb (hlSet s.dev i.val 10) 2 = true ∧
      (lane s.dev i.val).since + 10 * MS ≤ s.dev.timing.now) ∧
    (let s : State := st (modLane 5 ({ · with state := .locked }) base); let i : Fin 32 := 5;
      (lane s.dev i.val).state = .locked ∧ (lane s.dev i.val).amLock = false) ∧
    (let s : State := st (modLane 5 ({ · with state := .locked, amLock := true }) base); let i : Fin 32 := 5;
      (lane s.dev i.val).amLock = true) ∧
    (let s : State := st (modLane 5 ({ · with state := .locked, amLock := true }) (withPlan (fun p => { p with clients := [{ lane := 5 }] }) base));
      let i : Fin 32 := 5; let k : ClientPlan := { lane := 5 };
      ((plan s.dev).clients.find? fun k => k.lane = i.val) = some k ∧ allMarked s.dev k = true ∧
      (source s.dev 0x0C03 k.lane).cond = false) ∧
    (let s : State := st (modLane 28 ({ · with state := .locked }) base); let k : Fin 8 := 7;
      (source s.dev 0x0C01 k.val).cond = false) ∧
    (let s : State := st (modClock ({ · with inReset := [(.lg 7, 2), (.lg 3, 2)] }) base); let k : Fin 8 := 7;
      inReset s.dev (.lg k) = true ∧
      (∀ e ∈ s.dev.clock.inReset, e.1 = Domain.lg k → causeGone s.dev (.lg k) e.2 = true)) ∧
    (let s : State := st (modHost ({ · with pendCmds := [⟨0, 0x0C02, 1⟩] }) (modLane 5 ({ · with scan := some ⟨0x0C02, rq 0 0 []⟩ }) base));
      let i : Fin 32 := 5; let h : Held := ⟨0x0C02, rq 0 0 []⟩; (lane s.dev i.val).scan = some h ∧
      ⟨h.req.mb.val, h.op, h.req.seq.toNat⟩ ∈ s.dev.host.pendCmds) := by
  decide +kernel

theorem test_FaultCollector_met :
    (let e : FaultEntry := { id := 0x0805 }; isSource e.id e.inst = true ∧ e.kind = 1 ∧ e.inverted = false ∧
      e.id ≠ 0x0341) ∧
    (let s : State := st (base); let e : FaultIn := { id := 0x0601 }; belowCount s.dev e = false ∧
      e.injected = false ∧ clsOf e.id = 2) ∧
    (let s : State := st (cfg 0x0F01 0 0x0805 6 1 base); let e : FaultIn := { id := 0x0805 };
      belowCount s.dev e = false ∧ e.injected = false ∧ clsOf e.id ≠ 2 ∧ (source s.dev e.id e.inst).st = .quiet) ∧
    (let s : State := st (base); let e : FaultIn := { id := 0x0805 }; belowCount s.dev e = true) ∧
    (let e : FaultEntry := { id := 0x0805, kind := 2 }; e.kind = 2) ∧
    (let s : State := st (modFault ({ · with dueRaised := [(5, { type := 0x0F01 })] }) base);
      (∀ p, p ∈ s.dev.fault.sources → p.2.due.getLsbD 7 = false)) ∧
    (let s : State := st (modSource 0x0302 0 ({ · with due := 0x80 }) base); let id : Nat := 0x0302;
      let inst : Nat := 0; (s.dev.fault.sources.filter fun p => p.2.due.getLsbD 7).map (·.1) = [srcKey id inst] ∧
      inst < 256) ∧
    (let s : State := st (modSource 0x0805 0 ({ · with st := .active, quiet := some 0, held := 4, events := 3 }) base);
      let id : Nat := 0x0805; let inst : Nat := 0; (source s.dev id inst).st = .active ∧
      (source s.dev id inst).quiet = some 0 ∧ clsOf id ≠ 1) ∧
    (let s : State := st (modSource 0x0E03 0 ({ · with st := .active, quiet := some 0, held := 4, events := 3 }) base);
      let id : Nat := 0x0E03; let inst : Nat := 0; (source s.dev id inst).st = .active ∧
      (source s.dev id inst).quiet = some 0 ∧ clsOf id = 1 ∧ (source s.dev id inst).recent.length < 15) ∧
    (let s : State := st (modSource 0x0E03 0 ({ · with st := .active, quiet := some 0, held := 4, recent := List.replicate 15 3599 }) base);
      let id : Nat := 0x0E03; let inst : Nat := 0; (source s.dev id inst).st = .active ∧
      (source s.dev id inst).quiet = some 0 ∧ clsOf id = 1 ∧ (source s.dev id inst).recent.length = 15 ∧
      (∀ a, a ∈ (source s.dev id inst).recent → a < 3600)) ∧
    (let s : State := st (modFault ({ · with recovery := [(.dram, 0), (.crypto, 5)] }) base);
      let d : Domain := .dram; (d, 0) ∈ s.dev.fault.recovery) ∧
    (let s : State := st (modFault ({ · with armed := [(srcKey 0x0805 0, some { left := 5, marked := 2 })] }) base);
      let id : Nat := 0x0805; let inst : Nat := 0; let quiet : Nat := 5;
      let a : Injection := { left := 5, marked := 2 }; armedAt s.dev id inst = some a ∧ a.left ≤ quiet) ∧
    (let s : State := st (modFault ({ · with toBlackBox := [{ id := 5 }, { id := 6 }] }) (modNand ({ · with present := true }) base));
      let r : FaultRec := { id := 5 }; let rest : List FaultRec := [{ id := 6 }]; s.dev.fault.toBlackBox = r :: rest ∧
      s.dev.boot.nand.present = true) := by
  decide +kernel

theorem test_StartupStages_met :
    (let s : State := st (modBoot ({ · with stage := .rom, headers := ⟨hdrOf [], hdrOf [0, 0, 7]⟩ }) base);
      romAt s.dev .rom = true ∧ s.dev.boot.bootSrc ≠ 1) ∧
    (let s : State := st (modBoot ({ · with stage := .fwLoad, fwRuns := false }) base); let a : FwImageIn := fwGood;
      romAt s.dev .fwLoad = true ∧ s.dev.boot.pcie = false ∧ s.dev.boot.bootSrc ≠ 1 ∧
      bhTrial s.dev.boot.header % 2 = 0 ∧ bhPref s.dev.boot.header % 2 = 0 ∧ fwStatus s.dev a = 0) ∧
    (let s : State := st (modBoot ({ · with stage := .fwLoad, fwRuns := false }) base); let a : FwImageIn := {};
      let b : FwImageIn := {}; romAt s.dev .fwLoad = true ∧ s.dev.boot.pcie = false ∧ s.dev.boot.bootSrc = 0 ∧
      bhTrial s.dev.boot.header % 2 = 0 ∧ fwStatus s.dev a ≠ 0 ∧ fwStatus s.dev b ≠ 0) ∧
    (let s : State := st (modBoot ({ · with stage := .selfTest }) base); s.dev.boot.stage = .selfTest ∧
      s.dev.boot.fwRuns = true) ∧
    (let s : State := st (modBoot ({ · with stage := .selfTest }) base); s.dev.boot.stage = .selfTest ∧
      s.dev.boot.fwRuns = true) ∧
    (let s : State := st (modBoot ({ · with stage := .dramTrain }) base); s.dev.boot.stage = .dramTrain ∧
      s.dev.boot.fwRuns = true ∧ s.dev.boot.kind ≠ .mgmt) ∧
    (let s : State := st (modBoot ({ · with stage := .dramTrain }) (modClock ({ · with inReset := [(.dram, 4)] }) base));
      s.dev.boot.stage = .dramTrain ∧ s.dev.boot.fwRuns = true ∧ s.dev.boot.kind ≠ .mgmt) ∧
    (let s : State := st (modBoot ({ · with stage := .accord, header := zeros 256 }) base);
      s.dev.boot.stage = .accord ∧ s.dev.boot.fwRuns = true ∧ rd s.dev.boot.header 28 1 = 0) ∧
    (let s : State := st (modBoot ({ · with stage := .accord, header := zeros 28 ++ [1] }) base);
      let x : BootAccordIn := {}; s.dev.boot.stage = .accord ∧ s.dev.boot.fwRuns = true ∧
      rd s.dev.boot.header 28 1 ≠ 0 ∧ bootImage s.dev x = none) ∧
    (let s : State := st (modBoot ({ · with stage := .script, scriptDone := true }) base);
      s.dev.boot.stage = .script ∧ s.dev.boot.fwRuns = true ∧ s.dev.boot.scriptDone = true ∧
      s.dev.host.cancelled = [] ∧ s.dev.boot.headerDefault = false ∧ s.dev.boot.refusedSlot = false ∧
      s.dev.boot.reverted = false) := by
  decide +kernel

theorem test_FlashAndArchive_met :
    (let s : State := st (modNand ({ · with present := true }) base); s.dev.boot.nand.present = true ∧
      s.dev.boot.stage = .ready) ∧
    (let s : State := st (modNand ({ · with present := true, entries := [(3, [{ id := 7 }, { id := 8 }])] }) base);
      let area : Nat := 3; s.dev.boot.nand.present = true ∧ s.dev.boot.stage = .ready ∧ (area = 0 ∨ area = 3)) ∧
    (let s : State := st (modNand ({ · with present := true, reserve := 4 }) base); s.dev.boot.nand.present = true ∧
      0 < s.dev.boot.nand.reserve) ∧
    (let s : State := st (modNand ({ · with present := true, spillMiB := 4, blockMiB := 8 }) base);
      s.dev.boot.nand.present = true ∧ s.dev.boot.nand.reserve = 0 ∧
      s.dev.boot.nand.spillMiB < s.dev.boot.nand.blockMiB) ∧
    (let s : State := st (modBoot ({ · with norErase := [4, 5] }) base); let k : Nat := 4; k ∈ s.dev.boot.norErase ∧
      s.dev.boot.norHeld = []) ∧
    (let s : State := st (modBoot ({ · with norErase := [4, 5] }) base); let k : Nat := 4; k ∈ s.dev.boot.norErase ∧
      s.dev.boot.norHeld = []) ∧
    (let s : State := st (modNand ({ · with present := true, erasing := [(3, 7), (0, 7)] }) base);
      let area : Nat := 3; let id : Nat := 7; (area, id) ∈ s.dev.boot.nand.erasing ∧ s.dev.boot.nand.held = []) ∧
    (let s : State := st (modHost ({ · with pendCmds := [⟨0, 0x1004, 1⟩] }) (modBoot ({ · with header := hdrOf [], activate := some ⟨0x1004, rq 0 0 []⟩ }) base));
      let x : FwImageIn := fwGood; let h : Held := ⟨0x1004, rq 0 0 []⟩; s.dev.boot.activate = some h ∧
      fwStatus s.dev x = 0 ∧ ⟨h.req.mb.val, h.op, h.req.seq.toNat⟩ ∈ s.dev.host.pendCmds) ∧
    (let s : State := st (modHost ({ · with pendCmds := [⟨0, 0x1004, 1⟩] }) (modBoot ({ · with header := hdrOf [], activate := some ⟨0x1004, rq 0 0 []⟩ }) base));
      let x : FwImageIn := {}; let h : Held := ⟨0x1004, rq 0 0 []⟩; s.dev.boot.activate = some h ∧
      fwStatus s.dev x ≠ 0 ∧ ⟨h.req.mb.val, h.op, h.req.seq.toNat⟩ ∈ s.dev.host.pendCmds) ∧
    (let s : State := st (modHost ({ · with pendCmds := [⟨0, 0x100D, 1⟩] }) (modNand ({ · with present := true, format := some ⟨0x100D, rq 0 0 []⟩, entries := [(3, [{ id := 7 }])] }) base));
      let h : Held := ⟨0x100D, rq 0 0 []⟩; s.dev.boot.nand.format = some h ∧ s.dev.boot.nand.held = []) := by
  decide +kernel

theorem test_FusesAndMonitors_met :
    (let s : State := st (modHost ({ · with pendCmds := [⟨0, 0x0002, 1⟩] }) (modBoot (fun b => { b with otp := { b.otp with burn := some ⟨0x0002, rq 0 0 ([4, 0x5A] ++ zeros 50)⟩, fused := 1 } }) base));
      let h : Held := ⟨0x0002, rq 0 0 ([4, 0x5A] ++ zeros 50)⟩; let k : Nat := 4; s.dev.boot.otp.burn = some h ∧
      k = rd h.req.params 0 1 ∧ k < 6 ∧ ⟨h.req.mb.val, h.op, h.req.seq.toNat⟩ ∈ s.dev.host.pendCmds) ∧
    (let s : State := st (modHost ({ · with pendCmds := [⟨0, 0x0002, 1⟩] }) (modBoot (fun b => { b with otp := { b.otp with burn := some ⟨0x0002, rq 0 0 ([4, 0x5A] ++ zeros 50)⟩, fused := 1 } }) base));
      let h : Held := ⟨0x0002, rq 0 0 ([4, 0x5A] ++ zeros 50)⟩; s.dev.boot.otp.burn = some h ∧
      ⟨h.req.mb.val, h.op, h.req.seq.toNat⟩ ∈ s.dev.host.pendCmds) ∧
    (let s : State := st (putElec { base.elec with avsNak := 3 } base);
      (3 ≤ s.dev.elec.avsNak ∨ 10 ≤ s.dev.elec.avsOff) ∧ (source s.dev 0x0E07 0).cond = false) ∧
    (let s : State := st (putElec { base.elec with hotRun := 10 } base); 10 ≤ s.dev.elec.hotRun ∧
      (source s.dev 0x0E06 0).cond = false) ∧
    (let s : State := st (modSource 0x0E06 0 ({ · with cond := true }) (putElec { base.elec with hotRun := 9, coolRun := 10 } base));
      s.dev.elec.hotRun < 10 ∧ 10 ≤ s.dev.elec.coolRun) := by
  decide +kernel

theorem test_Boundaries_met :
    (let s : State := st (base); inReset s.dev .timing = false ∧ s.dev.clock.delayed = []) := by
  decide +kernel

theorem test_SettingsAccepted_met :
    (let s : State := st (base); let r : Req := rq 1 1 (pars 0x0230 [(8, [5])]);
      0x0230 ∈ [0x0230, 0x0250, 0x0300, 0x0400, 0x0404, 0x0500, 0x0503, 0x0505, 0x0700, 0x0900, 0x0B05, 0x0B06, 0x0B07, 0x0D00, 0x0E00] ∧
      runs 0x0230 rxConfigCmd r s.dev = true) ∧
    (let s : State := st (base); let r : Req := rq 0 0 (pars 0x0801 [(2, [9])]); 0x0801 ∈ [0x0801, 0x0802, 0x0905] ∧
      runs 0x0801 timingSelConfigCmd r s.dev = true) ∧
    (let s : State := st (base); let r : Req := rq 1 0 (pars 0x0220 []); runs 0x0220 txConfigCmd r s.dev = true) ∧
    (let s : State := st (base); let r : Req := rq 1 0 (pars 0x0223 []); runs 0x0223 txPreemphCmd r s.dev = true) ∧
    (let s : State := st (modConv .b ({ · with loopRunning := true }) base);
      let r : Req := rq 1 1 (pars 0x0221 [(0, [1])]); runs 0x0221 txEnableCmd r s.dev = true) ∧
    (let s : State := st (base); let r : Req := rq 1 1 (pars 0x0231 [(0, [1])]);
      runs 0x0231 rxEnableCmd r s.dev = true) ∧
    (let s : State := st (base); let r : Req := rq 1 0 (pars 0x0241 []); runs 0x0241 calConfigCmd r s.dev = true) ∧
    (let s : State := st (base); let r : Req := rq 0 0 (pars 0x0800 [(0, [3]), (12, le 4 0)]);
      runs 0x0800 timingRefConfigCmd r s.dev = true) ∧
    (let s : State := st (base); let r : Req := rq 0 0 (pars 0x0806 [(0, [1])]);
      runs 0x0806 timingOutConfigCmd r s.dev = true) ∧
    (let s : State := st (base); let r : Req := rq 1 0 (pars 0x0901 []); runs 0x0901 ttxCalSetCmd r s.dev = true) ∧
    (let s : State := st (withPlan (fun p => { p with sense := [{ ch := 4, code := 3, m := 1000, h := 3, rateMax := 50000 }] }) base);
      let r : Req := rq 0 0 (pars 0x0A00 [(0, [4, 1])]); runs 0x0A00 senseConfigCmd r s.dev = true) ∧
    (let s : State := st (base); let r : Req := rq 0 0 (pars 0x0C00 [(0, [5])]);
      runs 0x0C00 hlConfigCmd r s.dev = true) ∧
    (let s : State := st (base); let r : Req := rq 0 0 (pars 0x0F01 [(0, [5, 8]), (4, [3])]);
      runs 0x0F01 faultConfigCmd r s.dev = true) := by
  decide +kernel

theorem test_AccordCommands_met :
    (let s : State := st (base); let r : Req := rq 0 0 (pars 0x0100 []); runs 0x0100 accordListCmd r s.dev = true) ∧
    (let s : State := st (base); let r : Req := rq 0 0 (pars 0x0102 [(0, [3])]);
      runs 0x0102 accordInfoCmd r s.dev = true) ∧
    (let i : Nat := 3; i < 256) ∧
    (let s : State := st (modSlot 3 (fun q => { q with state := .valid, image := zeros 400, plan := { q.plan with report := zeros 5000 } }) base);
      let r : Req := rq 0 0 (pars 0x0103 [(0, [3])]); runs 0x0103 accordReportCmd r s.dev = true) ∧
    (let s : State := st (base); let r : Req := rq 1 0 (pars 0x0109 [(0, [0x20, 2])]);
      runs 0x0109 accordLimitsCmd r s.dev = true) ∧
    (let s : State := st (base); let r : Req := rq 0 0 (pars 0x010A [(0, [3])]);
      runs 0x010A engineStatusCmd r s.dev = true) ∧
    (let s : State := st (modEngine 3 ({ · with dataMem := [(4, 9)] }) base);
      let r : Req := rq 0 0 (pars 0x010B [(0, [3, 0]), (8, [8])]); rd r.params 1 1 = 0 ∧
      runs 0x010B engineReadCmd r s.dev = true) ∧
    (let s : State := st (base); let r : Req := rq 0 0 (pars 0x010B [(0, [3, 1]), (8, [8])]); rd r.params 1 1 ≠ 0 ∧
      runs 0x010B engineReadCmd r s.dev = true) ∧
    (let s : State := st (base);
      let r : Req := rq 0 0 (pars 0x0101 [(0, [0]), (8, le 4 1000), (12, le 4 8)] ++ zeros 8); let i : Nat := 0;
      s.dev.mem.reconfig = none ∧ rd r.params 0 1 = 0 ∧ rd r.params 4 4 = 0 ∧ chunkLoad s.dev = none ∧
      freeSlot s.dev = some i ∧ runs 0x0101 accordLoadCmd r s.dev = true) ∧
    (let s : State := st (modSlot 2 ({ · with state := .loading, imageLen := 1000, image := zeros 8 }) base);
      let r : Req := rq 0 0 (pars 0x0101 [(0, [0]), (4, le 4 8), (8, le 4 1000), (12, le 4 8)] ++ le 4 1000 ++ zeros 4);
      let i : Nat := 2; s.dev.mem.reconfig = none ∧ rd r.params 0 1 = 0 ∧ rd r.params 4 4 ≠ 0 ∧
      chunkLoad s.dev = some i ∧ runs 0x0101 accordLoadCmd r s.dev = true) ∧
    (let s : State := st (base); let r : Req := rq 0 0 (pars 0x0101 [(0, [1]), (8, le 4 1000), (16, le 8 4096)]);
      let i : Nat := 0; s.dev.mem.reconfig = none ∧ rd r.params 0 1 ≠ 0 ∧ freeSlot s.dev = some i ∧
      runs 0x0101 accordLoadCmd r s.dev = true) ∧
    (let s : State := st (modMem ({ · with reconfig := some {} }) base);
      let r : Req := rq 0 0 (pars 0x0101 [(0, [1]), (8, le 4 1000), (16, le 8 4096)]); s.dev.mem.reconfig ≠ none ∧
      runs 0x0101 accordLoadCmd r s.dev = true) ∧
    (let s : State := st (modSlot 3 ({ · with state := .valid, image := zeros 400 }) base);
      let r : Req := rq 0 0 (pars 0x0104 [(0, [3])]); s.dev.accord.standby ≠ .switching ∧
      runs 0x0104 accordStageCmd r s.dev = true) ∧
    (let s : State := st (modAccord ({ · with standby := .switching }) (modSlot 3 ({ · with state := .valid, image := zeros 400 }) base));
      let r : Req := rq 0 0 (pars 0x0104 [(0, [3])]); s.dev.accord.standby = .switching ∧
      runs 0x0104 accordStageCmd r s.dev = true) ∧
    (let s : State := st (modAccord ({ · with standby := .ready, standbySet := { slot := some 3 } }) base);
      let r : Req := rq 0 0 (pars 0x0105 [(1, [1])]); s.dev.accord.standby ≠ .switching ∧
      runs 0x0105 accordSwitchCmd r s.dev = true) ∧
    (let s : State := st (modAccord ({ · with standby := .switching, standbySet := { slot := some 3 } }) base);
      let r : Req := rq 0 0 (pars 0x0105 [(1, [1])]); s.dev.accord.standby = .switching ∧
      runs 0x0105 accordSwitchCmd r s.dev = true) ∧
    (let s : State := st (modAccord ({ · with standby := .staging, standbySet := { slot := some 3 } }) base);
      let r : Req := rq 0 0 (pars 0x0106 []); s.dev.accord.standby = .staging ∧
      runs 0x0106 accordCancelCmd r s.dev = true) ∧
    (let s : State := st (modAccord ({ · with standby := .scheduled, standbySet := { slot := some 3 } }) base);
      let r : Req := rq 0 0 (pars 0x0106 []); s.dev.accord.standby = .scheduled ∧
      runs 0x0106 accordCancelCmd r s.dev = true) ∧
    (let s : State := st (modSlot 3 ({ · with state := .valid, image := zeros 400 }) base);
      let r : Req := rq 0 0 (pars 0x0107 [(0, [3])]); runs 0x0107 accordDeleteCmd r s.dev = true) ∧
    (let s : State := st (modAccord (fun a => { a with active := { a.active with slot := some 1, header := zeros 16 ++ le 4 9 ++ zeros 300 } }) base);
      let r : Req := rq 0 0 (pars 0x0108 [(0, [0])]); runs 0x0108 accordVersionCommitCmd r s.dev = true) := by
  decide +kernel

theorem test_CarrierCommands_met :
    (let s : State := st (modTx .b ({ · with state := .on }) base); let r : Req := rq 1 1 (pars 0x0222 []);
      runs 0x0222 txStatusCmd r s.dev = true) ∧
    (let s : State := st (base); let r : Req := rq 1 1 (pars 0x0232 []); runs 0x0232 rxStatusCmd r s.dev = true) ∧
    (let s : State := st (base); let r : Req := rq 1 1 (pars 0x0233 []); runs 0x0233 rxMonitorCmd r s.dev = true) ∧
    (let s : State := st (modRx .b ({ · with state := .inService, enabled := true }) base);
      let r : Req := rq 1 1 (pars 0x0234 []); runs 0x0234 rxReacquireCmd r s.dev = true) ∧
    (let s : State := st (modAccord ({ · with standby := .ready }) (modRx .b ({ · with state := .inService }) base));
      let r : Req := rq 1 1 (pars 0x0235 []); runs 0x0235 lineAgreeCmd r s.dev = true) ∧
    (let s : State := st (base); let r : Req := rq 1 1 (pars 0x0240 [(0, [0, 2])]);
      runs 0x0240 calReadCmd r s.dev = true) ∧
    (let s : State := st (modSlice .a 2 70 ({ · with state := .spareReady }) (modConv .a ({ · with loopRunning := true, fgDone := true }) base));
      let r : Req := rq 1 0 (pars 0x0242 [(0, [0, 2]), (4, [70, 0, 1])]); rd r.params 0 1 = 0 ∧
      runs 0x0242 calSwapCmd r s.dev = true) ∧
    (let s : State := st (modSeg .a 6 1 ({ · with measured := [250] }) (modConv .a ({ · with loopRunning := true, fgDone := true }) base));
      let r : Req := rq 1 0 (pars 0x0242 [(0, [1, 2, 1]), (4, [250, 0, 1])]); rd r.params 0 1 ≠ 0 ∧
      runs 0x0242 calSwapCmd r s.dev = true) ∧
    (let s : State := st (base); let r : Req := rq 1 1 (pars 0x0243 []);
      runs 0x0243 convPortStatusCmd r s.dev = true) ∧
    (let s : State := st (base); let r : Req := rq 1 1 (pars 0x0244 []); runs 0x0244 convSelftestCmd r s.dev = true) ∧
    (let s : State := st (base); let r : Req := rq 1 1 (pars 0x0301 []); let m : ModePlan := mNat;
      modeOf s.dev r.car = some m ∧ runs 0x0301 fecStatusCmd r s.dev = true) ∧
    (let s : State := st (base); let r : Req := rq 1 1 (pars 0x0302 []); runs 0x0302 fecCountersCmd r s.dev = true) ∧
    (let s : State := st (base); let r : Req := rq 1 1 (pars 0x0303 []); runs 0x0303 fecClearCmd r s.dev = true) ∧
    (let s : State := st (base); let r : Req := rq 0 0 (pars 0x0304 []);
      runs 0x0304 fecPoolStatusCmd r s.dev = true) ∧
    (let s : State := st (base);
      let r : Req := rq 1 1 (pars 0x0305 [(0, [1, 0]), (4, [0xBD, 0x37, 0x86, 0x35, 9])]);
      runs 0x0305 fecInjectCmd r s.dev = true) := by
  decide +kernel

theorem test_LineAndTributaryCommands_met :
    (let s : State := st (base); let r : Req := rq 1 1 (pars 0x0401 []); runs 0x0401 lineDefectsCmd r s.dev = true) ∧
    (let s : State := st (base); let r : Req := rq 1 1 (pars 0x0402 []); runs 0x0402 lineTtiCmd r s.dev = true) ∧
    (let s : State := st (base); let r : Req := rq 1 1 (pars 0x0403 []); runs 0x0403 lineTtiReadCmd r s.dev = true) ∧
    (let s : State := st (base); let r : Req := rq 1 1 (pars 0x0405 []); runs 0x0405 ohpStatusCmd r s.dev = true) ∧
    (let s : State := st (base); let r : Req := rq 1 1 (pars 0x0406 []); runs 0x0406 lineClearCmd r s.dev = true) ∧
    (let s : State := st (base); let r : Req := rq 1 1 (pars 0x0501 []); runs 0x0501 tribStatusCmd r s.dev = true) ∧
    (let s : State := st (base); let r : Req := rq 1 1 (pars 0x0502 []); runs 0x0502 tribTtiCmd r s.dev = true) ∧
    (let s : State := st (withPlan (fun p => { p with groups := [{ group := 3, n := 2, members := [{ index := 0 }, { index := 1, stack := 1 }] }] }) base);
      let r : Req := rq 2 3 (pars 0x0504 []);
      let g : GroupPlan := { group := 3, n := 2, members := [{ index := 0 }, { index := 1, stack := 1 }] };
      ((plan s.dev).groups.find? fun g => g.group = r.index.toNat) = some g ∧
      runs 0x0504 groupStatusCmd r s.dev = true) ∧
    (let s : State := st (withPlan (fun p => { p with fixed := [(skey 0x0505 0 5 1, 2)] }) (modScheme 5 ({ · with lo := true }) base));
      let r : Req := rq 0 0 (pars 0x0506 [(0, [5, 0])]); runs 0x0506 protClearCmd r s.dev = true) ∧
    (let s : State := st (withPlan (fun p => { p with fixed := [(skey 0x0505 0 5 1, 2)] }) base);
      let r : Req := rq 0 0 (pars 0x0506 [(0, [5, 1])]); runs 0x0506 protLockoutCmd r s.dev = true) ∧
    (let s : State := st (withPlan (fun p => { p with fixed := [(skey 0x0505 0 5 1, 2)] }) base);
      let r : Req := rq 0 0 (pars 0x0506 [(0, [5, 2])]); runs 0x0506 protForcedCmd r s.dev = true) ∧
    (let s : State := st (withPlan (fun p => { p with fixed := [(skey 0x0505 0 5 1, 2)] }) base);
      let r : Req := rq 0 0 (pars 0x0506 [(0, [5, 3])]); runs 0x0506 protManualPCmd r s.dev = true) ∧
    (let s : State := st (withPlan (fun p => { p with fixed := [(skey 0x0505 0 5 1, 2)] }) base);
      let r : Req := rq 0 0 (pars 0x0506 [(0, [5, 4])]); runs 0x0506 protManualWCmd r s.dev = true) ∧
    (let s : State := st (modScheme 0 ({ · with copies := ⟨{ state := .unaligned }, { state := .aligned }⟩ }) (withPlan (fun p => { p with fixed := [(skey 0x0505 0 0 1, 1)] }) base));
      let r : Req := rq 0 0 (pars 0x0506 [(0, [0, 5])]); runs 0x0506 protRealignCmd r s.dev = true) ∧
    (let s : State := st (withPlan (fun p => { p with fixed := [(skey 0x0505 0 5 1, 2)] }) base);
      let r : Req := rq 0 0 (pars 0x0507 [(0, [5])]); schemeType s.dev (rd r.params 0 1) ≠ 0 ∧
      runs 0x0507 protStatusCmd r s.dev = true) := by
  decide +kernel

theorem test_CryptoAndOstcCommands_met :
    (let s : State := st (base); let r : Req := rq 1 1 (pars 0x0600 []); enableDuringErase s.dev r = false ∧
      (s.dev.crypto.get r.car).heldEnable = none ∧ (cryptEnable s.dev r.car = false ∨ rd r.params 0 1 ≠ 0) ∧
      runs 0x0600 cryptoConfigCmd r s.dev = true) ∧
    (let s : State := st (cfg 0x0600 1 0 0 1 (modCrypto .a ({ · with tx := ⟨{ state := .active, key := some 1 }, {}⟩ }) base));
      let r : Req := rq 1 0 (pars 0x0600 [(0, [0])]); (s.dev.crypto.get r.car).heldEnable = none ∧
      cryptEnable s.dev r.car = true ∧ rd r.params 0 1 = 0 ∧ runs 0x0600 cryptoConfigCmd r s.dev = true) ∧
    (let s : State := st (modCrypto .a ({ · with erasing := true, tx := ⟨{ state := .active, key := some 1 }, {}⟩, rx := ⟨{ state := .loaded, key := some 1 }, {}⟩ }) (withPlan (fun p => { p with modes := ⟨some { mNat with crypt := true }, none⟩ }) base));
      let r : Req := rq 1 0 (pars 0x0600 [(0, [1])]); enableDuringErase s.dev r = true ∧
      runs 0x0600 cryptoConfigCmd r s.dev = true) ∧
    (let s : State := st (modBoot (fun b => { b with otp := { b.otp with kek := some 5 } }) base);
      let r : Req := rq 1 0 (pars 0x0601 [(2, [1])]); runs 0x0601 cryptoKeyLoadCmd r s.dev = true) ∧
    (let s : State := st (modCrypto .a ({ · with tx := ⟨{ state := .loaded, key := some 1 }, {}⟩ }) base);
      let r : Req := rq 1 0 (pars 0x0602 []); runs 0x0602 cryptoRollCmd r s.dev = true) ∧
    (let s : State := st (base); let r : Req := rq 1 0 (pars 0x0603 []); runs 0x0603 cryptoStatusCmd r s.dev = true) ∧
    (let s : State := st (modCrypto .a ({ · with tx := ⟨{ state := .active, key := some 1 }, {}⟩ }) base);
      let r : Req := rq 0 0 (pars 0x0604 []); runs 0x0604 cryptoZeroizeCmd r s.dev = true) ∧
    (let s : State := st (base); let r : Req := rq 0 0 (pars 0x0605 []);
      runs 0x0605 cryptoAlarmClearCmd r s.dev = true) ∧
    (let s : State := st (cfg 0x0700 1 0 0 1 (cfg 0x0700 1 0 8 0 base));
      let r : Req := rq 1 0 (pars 0x0701 [(0, [1, 0xFF, 2])] ++ [7, 8]); sendsOstc s.dev r = true ∧
      runs 0x0701 ostcSendCmd r s.dev = true) ∧
    (let s : State := st (cfg 0x0700 1 0 8 0 (modRx .a ({ · with state := .inService, inStep := true, farRec := { rxState := 7 } }) (modTx .a ({ · with state := .on }) base)));
      let r : Req := rq 1 0 (pars 0x0701 [(0, [0, 0xFF, 2])] ++ [7, 8]); sendsOstc s.dev r = false ∧
      runs 0x0701 ostcSendCmd r s.dev = true) ∧
    (let s : State := st (base); let r : Req := rq 1 0 (pars 0x0702 []); (s.dev.ostc.get r.car).rxq = [] ∧
      runs 0x0702 ostcRecvCmd r s.dev = true) ∧
    (let s : State := st (modOstc .a ({ · with rxq := [{ msg := { sender := 1, payload := [5] }, path := 1 }] }) base);
      let r : Req := rq 1 0 (pars 0x0702 []); let x : RxMsg := { msg := { sender := 1, payload := [5] }, path := 1 };
      let rest : List RxMsg := []; (s.dev.ostc.get r.car).rxq = x :: rest ∧ runs 0x0702 ostcRecvCmd r s.dev = true) ∧
    (let s : State := st (base); let r : Req := rq 1 0 (pars 0x0703 []); runs 0x0703 ostcStatusCmd r s.dev = true) ∧
    (let s : State := st (base); let r : Req := rq 1 0 (pars 0x0704 []); runs 0x0704 ostcClearCmd r s.dev = true) := by
  decide +kernel

theorem test_TimingAndSensingCommands_met :
    (let s : State := st (modTiming ({ · with forced := some 3, hoForced := true }) base);
      let r : Req := rq 0 0 (pars 0x0803 []); runs 0x0803 timingClearCmd r s.dev = true) ∧
    (let s : State := st (base); let r : Req := rq 0 0 (pars 0x0803 [(0, [1, 12])]);
      runs 0x0803 timingForceCmd r s.dev = true) ∧
    (let s : State := st (base); let r : Req := rq 0 0 (pars 0x0803 [(0, [2])]);
      runs 0x0803 timingHoldoverCmd r s.dev = true) ∧
    (let s : State := st (base); let r : Req := rq 0 0 (pars 0x0803 [(0, [3, 4])]);
      runs 0x0803 clearWtrCmd r s.dev = true) ∧
    (let s : State := st (modNand ({ · with present := true, snaps := List.replicate 16 {} }) base);
      let r : Req := rq 0 0 (pars 0x0803 [(0, [4])]); s.dev.boot.nand.present = true ∧
      runs 0x0803 sillageSaveCmd r s.dev = true) ∧
    (let s : State := st (base); let r : Req := rq 0 0 (pars 0x0803 [(0, [4])]); s.dev.boot.nand.present = false ∧
      runs 0x0803 sillageSaveCmd r s.dev = true) ∧
    (let s : State := st (modTiming ({ · with sillage := [{}] }) (modNand ({ · with present := true, snaps := [{}] }) base));
      let r : Req := rq 0 0 (pars 0x0803 [(0, [5])]); runs 0x0803 sillageResetCmd r s.dev = true) ∧
    (let s : State := st (cfg 0x0802 0 0 3 1 base); let r : Req := rq 0 0 (pars 0x0803 [(0, [6, 0, 0, 0, 9])]);
      runs 0x0803 oscTempCmd r s.dev = true) ∧
    (let s : State := st (base); let r : Req := rq 0 0 (pars 0x0804 []); runs 0x0804 timingStatusCmd r s.dev = true) ∧
    (let s : State := st (modCand 3 ({ · with state := .available }) base); let r : Req := rq 0 0 (pars 0x0805 []);
      runs 0x0805 timingRefStatusCmd r s.dev = true) ∧
    (let s : State := st (modTiming ({ · with sillage := [{ tS := 4 }, { tS := 5 }] }) base);
      let r : Req := rq 0 0 (pars 0x0807 [(0, [1, 0, 0, 0, 1])]); runs 0x0807 sillageReadCmd r s.dev = true) ∧
    (let s : State := st (base); let r : Req := rq 1 0 (pars 0x0902 []); runs 0x0902 ttxStatusCmd r s.dev = true) ∧
    (let s : State := st (base); let r : Req := rq 1 0 (pars 0x0903 []); runs 0x0903 ttxDelayReadCmd r s.dev = true) ∧
    (let s : State := st (base); let r : Req := rq 0 0 (pars 0x0904 [(0, [5])]);
      runs 0x0904 ttxTimeSetCmd r s.dev = true) ∧
    (let s : State := st (base); let r : Req := rq 0 0 (pars 0x0A01 [(0, [5])]);
      runs 0x0A01 senseInfoCmd r s.dev = true) ∧
    (let s : State := st (base); let r : Req := rq 0 0 (pars 0x0A02 [(0, [5])]);
      runs 0x0A02 senseStatusCmd r s.dev = true) ∧
    (let s : State := st (cfg 0x0A00 0 5 2 7 (modSense 5 ({ · with kept := [{ seq := 9 }] }) base));
      let r : Req := rq 0 0 (pars 0x0A03 [(0, [5])]); senseRing s.dev (rd r.params 0 1) ≠ none ∧
      runs 0x0A03 senseReadCmd r s.dev = true) ∧
    (let s : State := st (modSense 4 ({ · with inSat := 3 }) base); let r : Req := rq 0 0 (pars 0x0A04 [(0, [4])]);
      rd r.params 0 1 ≠ 0xFF ∧ runs 0x0A04 senseClearCmd r s.dev = true) := by
  decide +kernel

theorem test_SenseReadReturnsOldestRecord_met :
    (let s : State := st (modSense 5 ({ · with kept := [{ seq := 9 }, { seq := 10 }] }) base);
      let r : Req := rq 0 0 (pars 0x0A03 [(0, [5])]); let x : SenseRec := { seq := 9 };
      let rest : List SenseRec := [{ seq := 10 }]; senseRing s.dev (rd r.params 0 1) = none ∧
      (sense s.dev (rd r.params 0 1)).kept = x :: rest ∧ runs 0x0A03 senseReadCmd r s.dev = true) ∧
    (let s : State := st (base); let r : Req := rq 0 0 (pars 0x0A03 [(0, [5])]);
      senseRing s.dev (rd r.params 0 1) = none ∧ (sense s.dev (rd r.params 0 1)).kept = [] ∧
      runs 0x0A03 senseReadCmd r s.dev = true) := by
  decide +kernel

theorem test_MemoryAndCaptureCommands_met :
    (let s : State := st (base); let r : Req := rq 0 0 (le 4 0x3000 ++ le 4 0x2000 ++ le 4 0x1000 ++ le 4 0x100);
      runs 0x0B00 memPoolSetCmd r s.dev = true) ∧
    (let s : State := st (base); let r : Req := rq 0 0 (pars 0x0B01 []); runs 0x0B01 memStatusCmd r s.dev = true) ∧
    (let s : State := st (base); let r : Req := rq 0 0 (pars 0x0B02 [(0, [1])]); rd r.params 0 1 = 1 ∧
      s.dev.mem.scrubOff = false ∧ s.dev.mem.scrubHeld = none ∧ runs 0x0B02 memScrubConfigCmd r s.dev = true) ∧
    (let s : State := st (modMem ({ · with scrubBusy := true }) base);
      let r : Req := rq 0 0 (pars 0x0B02 [(0, [0])]); rd r.params 0 1 ≠ 1 ∧ s.dev.mem.scrubBusy = true ∧
      s.dev.mem.scrubHeld = none ∧ runs 0x0B02 memScrubConfigCmd r s.dev = true) ∧
    (let s : State := st (base); let r : Req := rq 0 0 (pars 0x0B02 [(0, [0])]); rd r.params 0 1 ≠ 1 ∧
      s.dev.mem.scrubBusy = false ∧ s.dev.mem.scrubHeld = none ∧ runs 0x0B02 memScrubConfigCmd r s.dev = true) ∧
    (let s : State := st (modMem ({ · with scrubBusy := true, scrubOn := false, scrubOff := true }) base);
      let r : Req := rq 0 0 (pars 0x0B02 [(0, [1])]); rd r.params 0 1 = 1 ∧ s.dev.mem.scrubOff = true ∧
      runs 0x0B02 memScrubConfigCmd r s.dev = true) ∧
    (let s : State := st (base); let r : Req := rq 0 0 (pars 0x0B03 []);
      runs 0x0B03 memRepairStatusCmd r s.dev = true) ∧
    (let s : State := st (base); let r : Req := rq 0 0 (pars 0x0B04 []); runs 0x0B04 memClearCmd r s.dev = true) ∧
    (let s : State := st (modMem ({ · with pools := [(0, some 8)] }) base);
      let r : Req := rq 0 0 (pars 0x0B08 [(0, [7, 0, 1])]); s.dev.mem.reconfig = none ∧ rd r.params 2 1 = 1 ∧
      runs 0x0B08 leqQueueConfigCmd r s.dev = true) ∧
    (let s : State := st (modQueue 7 ({ · with state := .enabled }) (modMem ({ · with pools := [(0, some 8)] }) base));
      let r : Req := rq 0 0 (pars 0x0B08 [(0, [7, 0, 0])]); rd r.params 2 1 ≠ 1 ∧
      (queue s.dev (rd r.params 0 2)).held = none ∧ (queue s.dev (rd r.params 0 2)).state = .enabled ∧
      runs 0x0B08 leqQueueConfigCmd r s.dev = true) ∧
    (let s : State := st (modMem ({ · with reconfig := some {}, pools := [(0, some 8)] }) base);
      let r : Req := rq 0 0 (pars 0x0B08 [(0, [7, 0, 1])]); s.dev.mem.reconfig ≠ none ∧ enablesQueue s.dev r = true ∧
      runs 0x0B08 leqQueueConfigCmd r s.dev = true) ∧
    (let s : State := st (base); let r : Req := rq 0 0 (pars 0x0B09 [(0, [7])]);
      runs 0x0B09 leqQueueStatusCmd r s.dev = true) ∧
    (let s : State := st (modMem ({ · with pools := [(2, some 8)] }) (withPlan (fun p => { p with bw := [0, 0, 0, 0, 999999] }) base));
      let r : Req := rq 0 0 (pars 0x0B0A [(0, [2, 7, 0, 1]), (8, le 8 4096), (16, le 8 8192)]);
      s.dev.mem.reconfig = none ∧ runs 0x0B0A blotterArmCmd r s.dev = true) ∧
    (let s : State := st (modMem ({ · with reconfig := some {} }) base);
      let r : Req := rq 0 0 (pars 0x0B0A [(0, [2, 7, 0, 1]), (8, le 8 4096), (16, le 8 8192)]);
      s.dev.mem.reconfig ≠ none ∧ runs 0x0B0A blotterArmCmd r s.dev = true) ∧
    (let s : State := st (modCap 2 ({ · with state := .armed, trigMask := 1 }) base);
      let r : Req := rq 0 0 (pars 0x0B0B [(0, [2])]); rd r.params 0 1 < 4 ∧
      (cap s.dev (rd r.params 0 1)).state = .armed ∧ (cap s.dev (rd r.params 0 1)).trig = none ∧
      (cap s.dev (rd r.params 0 1)).trigMask.getLsbD 0 = true ∧
      (cap s.dev (rd r.params 0 1)).trigMask.getLsbD 5 = false ∧ runs 0x0B0B blotterTriggerCmd r s.dev = true) ∧
    (let s : State := st (base); let r : Req := rq 0 0 (pars 0x0B0C []);
      runs 0x0B0C blotterStatusCmd r s.dev = true) ∧
    (let s : State := st (modCap 2 ({ · with state := .done, length := 4, data := [1, 2, 3, 4] }) base);
      let r : Req := rq 0 0 (pars 0x0B0D [(0, [2, 1]), (8, le 8 64), (16, le 4 4)]); rd r.params 1 1 = 1 ∧
      runs 0x0B0D blotterReadCmd r s.dev = true) ∧
    (let s : State := st (modRing 1 ({ · with enable := true, kind := 2 }) (modCap 2 ({ · with state := .done, length := 4, data := [1, 2, 3, 4] }) base));
      let r : Req := rq 0 0 (pars 0x0B0D [(0, [2, 0, 1]), (8, le 8 64), (16, le 4 4)]); rd r.params 1 1 ≠ 1 ∧
      rd r.params 8 8 < 64 + (cap s.dev (rd r.params 0 1)).length ∧ 0 < rd r.params 16 4 ∧
      runs 0x0B0D blotterReadCmd r s.dev = true) ∧
    (let s : State := st (modNand ({ · with present := true, spillMiB := 64 }) (modCap 2 ({ · with state := .done, length := 4, data := [1, 2, 3, 4] }) base));
      let r : Req := rq 0 0 (pars 0x0B0E [(0, [2])]); runs 0x0B0E blotterSpillCmd r s.dev = true) ∧
    (let s : State := st (modCap 2 ({ · with state := .done, length := 4, data := [1, 2, 3, 4], trigIgnored := 9 }) base);
      let r : Req := rq 0 0 (pars 0x0B0F [(0, [2])]); (cap s.dev (rd r.params 0 1)).held = none ∧
      runs 0x0B0F blotterFreeCmd r s.dev = true) := by
  decide +kernel

theorem test_LaneStackAndClockCommands_met :
    (let s : State := st (modLane 5 ({ · with state := .locked }) base);
      let r : Req := rq 0 0 (pars 0x0C01 [(0, [5])]); runs 0x0C01 hlStatusCmd r s.dev = true) ∧
    (let s : State := st (modLane 5 ({ · with state := .locked }) base);
      let r : Req := rq 0 0 (pars 0x0C02 [(0, [5, 2]), (4, le 4 0x358637BD)]);
      runs 0x0C02 hlEyeScanCmd r s.dev = true) ∧
    (let s : State := st (modLane 5 ({ · with state := .locked, eye := some { eyes := 2, maps := [1, 2] } }) base);
      let r : Req := rq 0 0 (pars 0x0C03 [(0, [5])]); let e : EyeScan := { eyes := 2, maps := [1, 2] };
      (lane s.dev (rd r.params 0 1)).eye = some e ∧ runs 0x0C03 hlEyeReadCmd r s.dev = true) ∧
    (let s : State := st (base); let r : Req := rq 0 0 (pars 0x0C03 [(0, [5])]);
      (lane s.dev (rd r.params 0 1)).eye = none ∧ runs 0x0C03 hlEyeReadCmd r s.dev = true) ∧
    (let s : State := st (modLane 13 ({ · with state := .locked }) base);
      let r : Req := rq 0 0 (pars 0x0C04 [(0, [3])]); inReset s.dev (lgDomain (rd r.params 0 1)) = false ∧
      runs 0x0C04 hlResetCmd r s.dev = true) ∧
    (let s : State := st (modLane 13 ({ · with state := .locked, lockLoss := 4 }) base);
      let r : Req := rq 0 0 (pars 0x0C05 [(0, [13])]); rd r.params 0 1 < 32 ∧ runs 0x0C05 hlClearCmd r s.dev = true) ∧
    (let s : State := st (modLane 13 ({ · with state := .locked, lockLoss := 4 }) base);
      let r : Req := rq 0 0 (pars 0x0C05 [(0, [255])]); rd r.params 0 1 = 0xFF ∧
      runs 0x0C05 hlClearCmd r s.dev = true) ∧
    (let s : State := st (base); let r : Req := rq 0 0 (pars 0x0D01 []); runs 0x0D01 stackStatusCmd r s.dev = true) ∧
    (let s : State := st (modPort 1 ({ · with state := .up }) base); let r : Req := rq 0 0 (pars 0x0D02 [(0, [1])]);
      runs 0x0D02 stackPortStatusCmd r s.dev = true) ∧
    (let s : State := st (modStack ({ · with acting := .actingMaster, standby := some 3, members := 9#8 }) base);
      let r : Req := rq 0 0 (pars 0x0D03 []); let b : Nat := 3; s.dev.stack.standby = some b ∧
      runs 0x0D03 stackHandoverCmd r s.dev = true) ∧
    (let s : State := st (modStack ({ · with takeovers := 4 }) base); let r : Req := rq 0 0 (pars 0x0D04 []);
      runs 0x0D04 stackClearCmd r s.dev = true) ∧
    (let s : State := st (base); let r : Req := rq 0 0 (pars 0x0E01 []); runs 0x0E01 clockStatusCmd r s.dev = true) ∧
    (let s : State := st (base); let r : Req := rq 0 0 (pars 0x0E02 [(0, [1, 0])]);
      (rd r.params 0 1 = 1 ∨ rd r.params 0 1 = 2) ∧ rd r.params 1 1 = 0 ∧ runs 0x0E02 resetDomainCmd r s.dev = true) ∧
    (let s : State := st (modCrypto .a ({ · with tx := ⟨{ state := .active, key := some 1 }, {}⟩ }) base);
      let r : Req := rq 0 0 (pars 0x0E02 [(0, [7, 0])]); rd r.params 0 1 = 7 ∧ rd r.params 1 1 = 0 ∧
      runs 0x0E02 resetDomainCmd r s.dev = true) ∧
    (let s : State := st (modLane 28 ({ · with state := .locked, scan := some ⟨0x0C02, rq 0 0 []⟩ }) base);
      let r : Req := rq 0 0 (pars 0x0E02 [(0, [4, 7])]); let k : Fin 8 := 7; resetTarget r = some (.lg k) ∧
      runs 0x0E02 resetDomainCmd r s.dev = true) ∧
    (let s : State := st (modPort 3 ({ · with state := .up }) base);
      let r : Req := rq 0 0 (pars 0x0E02 [(0, [5, 3])]); let k : Fin 4 := 3; resetTarget r = some (.sb k) ∧
      runs 0x0E02 resetDomainCmd r s.dev = true) ∧
    (let s : State := st (modSlot 3 ({ · with state := .valid }) base);
      let r : Req := rq 0 0 (pars 0x0E02 [(0, [6, 0])]); resetTarget r = some .dram ∧
      runs 0x0E02 resetDomainCmd r s.dev = true) ∧
    (let s : State := st (modTx .b ({ · with state := .on }) (modCrypto .b ({ · with tx := ⟨{ state := .active, key := some 1 }, {}⟩ }) base));
      let r : Req := rq 0 0 (pars 0x0E02 [(0, [3, 1])]); let c : Carrier := .b; resetTarget r = some (carDomain c) ∧
      runs 0x0E02 resetDomainCmd r s.dev = true) ∧
    (let s : State := st (modTiming ({ · with now := 5 * SEC, dpll := .locked }) base);
      let r : Req := rq 0 0 (pars 0x0E02 [(0, [8, 0])]); resetTarget r = some .timing ∧ rootOnDpll s.dev = false ∧
      runs 0x0E02 resetDomainCmd r s.dev = true) ∧
    (let s : State := st (base); let r : Req := rq 0 0 (pars 0x0E03 []); runs 0x0E03 resetStatusCmd r s.dev = true) := by
  decide +kernel

theorem test_FaultCommands_met :
    (let s : State := st (base); let r : Req := rq 0 0 (pars 0x0F00 []); runs 0x0F00 faultListCmd r s.dev = true) ∧
    (let s : State := st (modSource 0x0805 0 ({ · with events := 4 }) base);
      let r : Req := rq 0 0 (pars 0x0F02 [(0, [5, 8, 0])]); rd r.params 0 2 ≠ 0xFFFF ∧
      runs 0x0F02 faultStatusCmd r s.dev = true) ∧
    (let s : State := st (modSource 0x0805 0 ({ · with st := .active }) base);
      let r : Req := rq 0 0 (pars 0x0F02 [(0, [255, 255, 255])]); rd r.params 0 2 = 0xFFFF ∧
      runs 0x0F02 faultStatusCmd r s.dev = true) ∧
    (let s : State := st (modFault ({ · with log := [{ id := 4 }, { id := 5 }] }) base);
      let r : Req := rq 0 0 (pars 0x0F03 [(0, [1, 0, 1])]); runs 0x0F03 faultLogReadCmd r s.dev = true) ∧
    (let s : State := st (modSource 0x0805 0 ({ · with st := .latched, held := 4 }) base);
      let r : Req := rq 0 0 (pars 0x0F04 [(0, [5, 8, 0, 0])]); rd r.params 2 1 ≠ 0xFF ∧
      (source s.dev (rd r.params 0 2) (rd r.params 2 1)).st = .latched ∧
      SourceRaw (source s.dev (rd r.params 0 2) (rd r.params 2 1)) = false ∧
      runs 0x0F04 faultClearLatchCmd r s.dev = true) ∧
    (let s : State := st (modSource 0x0805 0 ({ · with events := 4 }) base);
      let r : Req := rq 0 0 (pars 0x0F04 [(0, [5, 8, 0, 1])]); runs 0x0F04 faultClearCountersCmd r s.dev = true) ∧
    (let s : State := st (modFault ({ · with first := some { id := 4 } }) base);
      let r : Req := rq 0 0 (pars 0x0F04 [(3, [2])]); runs 0x0F04 faultClearFirstFaultCmd r s.dev = true) ∧
    (let s : State := st (modFault ({ · with log := [{ id := 4 }] }) base);
      let r : Req := rq 0 0 (pars 0x0F04 [(3, [3])]); runs 0x0F04 faultClearLogCmd r s.dev = true) ∧
    (let s : State := st (modFault ({ · with test := true }) base);
      let r : Req := rq 0 0 (pars 0x0F05 [(0, [2, 15, 0, 1]), (4, le 4 1), (8, [1])]);
      runs 0x0F05 faultInjectArmCmd r s.dev = true) ∧
    (let s : State := st (modFault ({ · with test := true, armed := [(srcKey 0x0F02 0, some { left := 3, marked := 1 })] }) base);
      let r : Req := rq 0 0 (pars 0x0F05 [(0, [2, 15, 0, 0])]); let a : Injection := { left := 3, marked := 1 };
      armedAt s.dev (rd r.params 0 2) (rd r.params 2 1) = some a ∧ runs 0x0F05 faultInjectDisarmCmd r s.dev = true) ∧
    (let s : State := st (base); let r : Req := rq 0 0 (pars 0x0F06 [(0, [1])]);
      runs 0x0F06 faultPhaseCmd r s.dev = true) ∧
    (let s : State := st (modNand ({ · with present := true, blackBox := [{ id := 4 }, { id := 5 }] }) base);
      let r : Req := rq 0 0 (pars 0x0F07 [(0, [1, 0, 1])]); runs 0x0F07 faultBlackboxReadCmd r s.dev = true) := by
  decide +kernel

theorem test_DeviceAndStoreCommands_met :
    (let s : State := st (base); let r : Req := rq 0 0 (pars 0x0000 []); runs 0x0000 deviceInfoCmd r s.dev = true) ∧
    (let s : State := st (base); let r : Req := rq 0 0 (pars 0x0001 [(0, [5, 1, 1]), (8, le 8 4096)]);
      (ring s.dev (rd r.params 0 1)).enable = false ∧ rd r.params 2 1 = 1 ∧ runs 0x0001 ringConfigCmd r s.dev = true) ∧
    (let s : State := st (modRing 5 ({ · with enable := true, kind := 1, head := 3, base := 4096 }) base);
      let r : Req := rq 0 0 (pars 0x0001 [(0, [5, 1, 0]), (8, le 8 4096)]);
      (ring s.dev (rd r.params 0 1)).enable = true ∧ runs 0x0001 ringConfigCmd r s.dev = true) ∧
    (let s : State := st (base); let r : Req := rq 0 0 (pars 0x0002 [(0, [5, 0x5A]), (4, List.replicate 32 1)]);
      runs 0x0002 otpProgramCmd r s.dev = true) ∧
    (let s : State := st (base); let r : Req := rq 0 0 (pars 0x1000 []); runs 0x1000 nvStatusCmd r s.dev = true) ∧
    (let s : State := st (modBoot ({ · with header := hdrOf [1] }) base); let r : Req := rq 0 0 (pars 0x1001 []);
      runs 0x1001 nvHeaderReadCmd r s.dev = true) ∧
    (let s : State := st (modBoot ({ · with header := hdrOf [1] }) base); let r : Req := rq 0 0 (hdrOf [0, 1]);
      runs 0x1002 nvHeaderWriteCmd r s.dev = true) ∧
    (let s : State := st (modBoot ({ · with header := zeros 24 ++ le 4 65536 ++ zeros 228 }) base);
      let r : Req := rq 0 0 (pars 0x1003 [(0, le 4 16), (4, [2])] ++ [7, 8]); s.dev.boot.norErase = [] ∧
      needsErase (slotBytes s.dev (idleSlot s.dev)) (rd r.params 0 4) (slice r.params 8 (rd r.params 4 2)) = false ∧
      runs 0x1003 nvFwWriteCmd r s.dev = true) ∧
    (let s : State := st (modBoot ({ · with header := zeros 24 ++ le 4 65536 ++ zeros 228, slots := ⟨{}, { bytes := [(16, 0)] }⟩ }) base);
      let r : Req := rq 0 0 (pars 0x1003 [(0, le 4 16), (4, [2])] ++ [7, 8]);
      needsErase (slotBytes s.dev (idleSlot s.dev)) (rd r.params 0 4) (slice r.params 8 (rd r.params 4 2)) = true ∧
      runs 0x1003 nvFwWriteCmd r s.dev = true) ∧
    (let s : State := st (modBoot ({ · with header := hdrOf [1] }) base); let r : Req := rq 0 0 (pars 0x1004 []);
      runs 0x1004 nvFwActivateCmd r s.dev = true) ∧
    (let s : State := st (modBoot ({ · with header := zeros 15 ++ [1] ++ zeros 240 }) base);
      let r : Req := rq 0 0 (pars 0x1005 []); s.dev.boot.header.length = 256 ∧
      runs 0x1005 nvFwCommitCmd r s.dev = true) ∧
    (let s : State := st (modBoot ({ · with fwSec := 5 }) base); let r : Req := rq 0 0 (pars 0x1006 [(0, [4])]);
      runs 0x1006 nvFwVersionCommitCmd r s.dev = true) ∧
    (let s : State := st (modBoot ({ · with header := zeros 48 ++ le 4 65536 ++ zeros 204 }) base);
      let r : Req := rq 0 0 (pars 0x1007 [(0, le 4 16), (4, [2])] ++ [7, 8]); s.dev.boot.norErase = [] ∧
      needsErase s.dev.boot.script (rd r.params 0 4) (slice r.params 8 (rd r.params 4 2)) = false ∧
      runs 0x1007 nvScriptWriteCmd r s.dev = true) ∧
    (let s : State := st (base); let r : Req := rq 0 0 (pars 0x1008 []); runs 0x1008 nandInfoCmd r s.dev = true) ∧
    (let s : State := st (modNand ({ · with present := true, entries := [(0, [{ id := 9 }])] }) base);
      let r : Req := rq 0 0 (pars 0x1009 []); runs 0x1009 archiveListCmd r s.dev = true) ∧
    (let s : State := st (modNand ({ · with present := true, entries := [(0, [{ id := 9, data := [4, 5] }])] }) base);
      let r : Req := rq 0 0 (pars 0x100A [(2, [2]), (8, [9])]); (0x100A = 0x100A ∨ 0x100A = 0x100B) ∧
      takes 0x100A r s.dev = true ∧ refusal 0x100A archiveReadCmd r false (arrive 0x100A r s.dev) = none ∧
      r.readback = false ∧ archiveReadCmd.waits (arrive 0x100A r s.dev) r = true) ∧
    (let s : State := st (modNand ({ · with present := true, erasing := [(0, 9)], entries := [(0, [{ id := 9, data := [4, 5] }])] }) base);
      let r : Req := rq 0 0 (pars 0x100A [(2, [2]), (8, [9])]); (0x100A = 0x100A ∨ 0x100A = 0x100B) ∧
      runs 0x100A archiveReadCmd r s.dev = true) ∧
    (let s : State := st (modNand ({ · with present := true, entries := [(3, [{ id := 9, data := [4, 5] }, { id := 8 }])] }) base);
      let r : Req := rq 0 0 (pars 0x100C [(0, [3]), (4, [9])]); (rd r.params 0 1 = 0 ∨ rd r.params 0 1 = 3) ∧
      runs 0x100C archiveDeleteCmd r s.dev = true) ∧
    (let s : State := st (modNand ({ · with present := true }) base); let r : Req := rq 0 0 (pars 0x100D []);
      runs 0x100D nandFormatCmd r s.dev = true) ∧
    (let s : State := st (base); let r : Req := rq 0 0 [1, 2, 3]; runs 0x1100 diagEchoCmd r s.dev = true) ∧
    (let s : State := st (base); let r : Req := rq 0 0 (pars 0x1101 []); runs 0x1101 diagSensorsCmd r s.dev = true) := by
  decide +kernel

theorem test_InterruptLineFollowsStatus_met :
    (let v : BitVec 32 := 1; v.getLsbD 0 = true) := by
  decide +kernel

theorem test_BusyMailboxIgnoresDoorbell_met :
    (let s : State := st (modMb 0 ({ · with busy := true }) base); let r : Req := rq 1 0 (pars 0x0222 []);
      r.mb.val < 4 ∧ served (putOut [] s.dev) = true ∧ (mailbox s.dev r.mb.val).busy = true) ∧
    (let s : State := st (modMb 1 ({ · with busy := true }) (modStack ({ · with members := 33#8 }) base));
      let r : Req := { rq 1 0 [] with member := 5, mb := 1 }; r.mb.val < 4 ∧ served s.dev = true ∧
      r.here s.dev = false ∧ (mailbox s.dev r.mb.val).busy = true) ∧
    (let s : State := st (modMb 2 ({ · with busy := true }) base); let n : Fin 4 := 2; let len : BitVec 16 := 16;
      let b : List Byte := zeros 16; served s.dev = true ∧ (mailbox s.dev n.val).busy = true ∧ 16 ≤ len.toNat ∧
      len.toNat ≤ 4096 ∧ (requestFault len.toNat (fit len.toNat b)).isSome = true) ∧
    (let s : State := st (modMb 3 ({ · with busy := true }) base); let n : Fin 4 := 3; served s.dev = true ∧
      (mailbox s.dev n.val).busy = true) := by
  decide +kernel

theorem memRead_memWrite (l : List Byte) (n : Nat) (h : l.length = n) : memRead (memWrite [] 0 l) 0 n = l := by
  subst h
  exact memRead_eq _ _ 0 fun k hk => by rw [memGet_memWrite l [] 0 k hk]; simp [hk]

theorem test_RequestsAndTransfers_boot_met :
    let s := st (modHost ({ · with bootBuf := memWrite [] 0 (hdrOf []) }) (modBoot ({ · with stage := .rom, bootSrc := 1 }) base))
    romAt s.dev .rom = true ∧ s.dev.boot.bootSrc = 1 ∧ bootHdrOk (memRead s.dev.host.bootBuf 0 256) = true := by
  have hl : (hdrOf []).length = 256 := by
    rw [hdrOf, List.length_append, show ∀ x, (le 4 x).length = 4 from fun _ => rfl]
    decide +kernel
  have ok : bootHdrOk (hdrOf []) = true := bootHdrOk_append _ (by decide +kernel) (by decide +kernel) (by decide +kernel)
  revert hl ok
  generalize hdrOf [] = l
  intro hl ok
  exact ⟨rfl, rfl, (congrArg bootHdrOk (memRead_memWrite l 256 hl)).trans ok⟩

theorem test_RequestsAndTransfers_transfer_met :
    ∃ (s : State) (mb : Fin 5) (h : Held) (c : Cmd) (q : Resp × Device),
      (s.dev.host.transfers.find? fun h => h.req.mb = mb) = some h ∧ cmdOf h.op h.req.params = some c ∧ mb.val < 4 ∧
      q = runCmd h.op c h.req false (modHost (fun x => { x with transfers := x.transfers.erase h }) (putOut [] s.dev)) ∧
      q.2.host.waiting = [] :=
  ⟨st (modMb 0 ({ · with busy := true }) (modHost ({ · with transfers := [⟨0x100B, rq 0 0 (zeros 24)⟩] }) base)), 0,
    ⟨0x100B, rq 0 0 (zeros 24)⟩, archiveWriteCmd, _, rfl, rfl, by decide, rfl, by decide +kernel⟩

theorem test_StepRunsTheFrontCommand_met :
    ∃ (c : Instr) (s : State) (q : List Instr), s.pending = c :: q ∧ State.reset.pending = [] :=
  ⟨.resetN true, ⟨base, [.resetN true]⟩, [], rfl, rfl⟩

theorem test_InterruptLineFollowsStatus_step_met : ∃ s t : State,
    (s.dev.host.irqLow = true ↔ (s.dev.host.irqStatus &&& s.dev.host.irqEnable) ≠ 0) ∧ step s = .next t :=
  ⟨⟨base, [.irqStatusClear 1]⟩, _, by decide +kernel, rfl⟩

theorem test_PinsFollowEveryStep_met : ∃ s t : State, PinsFollow s.dev ∧ step s = .next t :=
  ⟨⟨base, [.resetN true]⟩, _, by unfold PinsFollow; decide +kernel, rfl⟩

theorem test_MemoriesKeepTheirForm_met : ∃ s t : State, MemoriesOk s.dev ∧ step s = .next t :=
  ⟨⟨base, [.resetN true]⟩, _, ⟨rfl, fun _ => rfl, fun _ => rfl, rfl, rfl, rfl, rfl⟩, rfl⟩

theorem test_FusesAndCountersOnlyGrow_met : ∃ s t : State, step s = .next t :=
  ⟨⟨base, [.resetN true]⟩, _, rfl⟩

theorem test_RefusedCommandChangesNothing_met : ∃ (s : State) (i : Instr) (op : Nat) (c : Cmd) (r : Req) (q : Resp),
    commandOf i = some (op, c, r) ∧ takes op r s.dev = true ∧ refusal op c r false (arrive op r s.dev) = some q :=
  ⟨st base, .txStatus (rq 1 0 [0]), 0x0222, txStatusCmd, rq 1 0 [0], ⟨.badLength, [0, 0, 0, 0]⟩, rfl, by decide +kernel, by decide +kernel⟩

theorem test_ReadBackShowsPresentValues_met : ∃ (s : State) (i : Instr) (op : Nat) (c : Cmd) (r : Req),
    commandOf i = some (op, c, r) ∧ takes op r s.dev = true ∧ refusal op c r false (arrive op r s.dev) = none ∧
      r.readback = true :=
  ⟨st base, .txConfig { rq 1 0 (pars 0x0220 []) with flags := 1 }, 0x0220, txConfigCmd,
    { rq 1 0 (pars 0x0220 []) with flags := 1 }, rfl, by decide +kernel, by decide +kernel, rfl⟩

end Sys2Proof.Tests
end

/-!
SUPPORT. A mailbox command that answers at once: its act on the request that has arrived fixes its answer, its frame
and every part of the device but the host interface.
-/
namespace Sys2Proof.Machine
open Sys2Proof

/-- A change of the host interface and of the outputs leaves every other part. -/
theorem only_host_out (l : List Part) (s : Device) (h : HostSt) (o : List Output) :
    Only (.host :: l) s { s with host := h, out := o } := by
  intro p hp
  cases p
  case host => exact absurd List.mem_cons_self hp
  all_goals rfl

theorem only_arrive (l : List Part) (op : Nat) (r : Req) (s : Device) : Only (.host :: l) s (arrive op r s) :=
  only_host_out l s _ _

theorem only_answer (l : List Part) (op : Nat) (r : Req) (q : Resp) (s : Device) (h : r.mb.val < 4) :
    Only (.host :: l) s (answer op r q s) := by
  rw [answer_eq op r q s h, setIrq_eq]
  exact only_host_out l s _ _

/-- The frame of a command that runs is that of its effect on the request that has arrived, but for the mailbox that
answers (21_mailbox_interface R811, R814). -/
theorem onlyAnd_answer {l : List Part} {op : Nat} {r : Req} {q : Resp} {s t : Device} (h : r.mb.val < 4)
    (k : Only l (arrive op r s) t) : OnlyAnd l r.mb.val s (drivePins (answer op r q t)) := by
  refine ⟨?_, ?_⟩
  · have effect : Only (.host :: l) (arrive op r s) t := k.mono fun _ => List.mem_cons_of_mem _
    exact (((only_arrive l op r s).trans effect).trans (only_answer l op r q t h)).trans (only_drivePins _ _)
  · by_cases hl : Part.host ∈ l
    · exact .inl hl
    · have host : t.host = { (arrive op r s).host with irqLow := t.host.irqLow } := k .host hl
      refine .inr ⟨?_, fun m hm => ?_⟩
      · rw [answer_eq op r q t h, setIrq_eq]
        simp only [drivePins_eq, modMb, modHost]
        rw [host]
        rfl
      · have mbs : t.host.mbs = (arrive op r s).host.mbs := by rw [host]
        calc mailbox (drivePins (answer op r q t)) m
            = mailbox t m := by simp [answer_eq op r q t h, mailbox_modMb, hm]
          _ = mailbox (arrive op r s) m := by rw [mailbox, mailbox, mbs]
          _ = mailbox s m := by simp [arrive, mailbox_modMb, hm]

/-- What a command answers and changes is read off its act on the request that has arrived. -/
theorem answers_of_act {i : Instr} {s : State} {op : Nat} {c : Cmd} {r : Req} {l : List Part} {st : Status}
    {p : List Byte} {t : Device} {q : List Byte → Device → Prop} (hi : commandOf i = some (op, c, r))
    (hst : st ≠ .pending) (act : c.act r (arrive op r s.dev) = (⟨st, p⟩, t)) (frame : Only l (arrive op r s.dev) t)
    (post : r.mb.val < 4 → q p (drivePins (answer op r ⟨st, p⟩ t))) : Answers i s l st q := by
  intro op' c' r' hi' hruns
  obtain ⟨rfl, rfl, rfl⟩ : op = op' ∧ c = c' ∧ r = r' := by simpa using hi.symm.trans hi'
  have hmb : r.mb.val < 4 := runs_mb op c r s.dev hruns
  have run : mailboxRun op c r (putOut [] s.dev) = answer op r ⟨st, p⟩ t := by
    rw [mailboxRun_runs op c r s.dev hruns, act, if_neg hst]
  refine yields_act (exec_command i s op c r hi) ?_
  rw [run]
  exact ⟨p, answered_answer op r _ t hmb, onlyAnd_answer hmb frame, post hmb⟩

end Sys2Proof.Machine

/-!
SENSE_READ (13_line_sensing_chain R580): its two outcomes for a channel whose records are kept.
-/
namespace Sys2Proof.Machine
open Sys2Proof

/-! ### Sensing channels -/

theorem sense_modSense (i j : Nat) (f : SenseSt → SenseSt) (s : Device) :
    sense (modSense i f s) j = if j = i then f (sense s i) else sense s j := by
  simp [sense, modSense, Tab.get_modify]

theorem only_modSense (ch : Nat) (f : SenseSt → SenseSt) (s : Device) : Only [.sense] s (modSense ch f s) := by
  intro p hp
  cases p
  case sense => exact absurd List.mem_cons_self hp
  all_goals rfl

@[simp] theorem sense_arrive (op : Nat) (r : Req) (ch : Nat) (s : Device) : sense (arrive op r s) ch = sense s ch := rfl

@[simp] theorem senseRing_arrive (op : Nat) (r : Req) (ch : Nat) (s : Device) :
    senseRing (arrive op r s) ch = senseRing s ch := rfl

theorem sense_answer (op : Nat) (r : Req) (q : Resp) (ch : Nat) (s : Device) (h : r.mb.val < 4) :
    sense (answer op r q s) ch = sense s ch := by
  rw [sense, sense, answer_sense op r q s h]

/-! ### Bytes made long with zero bytes -/

theorem fit_length (n : Nat) (l : List Byte) : (fit n l).length = n := by
  rw [fit, zeros, List.length_take, List.length_append, List.length_replicate]
  omega

/-- One byte made longer is followed by a zero byte. -/
theorem slice_one_fit_le_one (n v : Nat) : slice (fit (n + 2) (le 1 v)) 1 1 = [0] := by
  simp [slice, fit, le, zeros, List.replicate_succ]

/-! ### The command -/

/-- A kept record is answered and taken off its channel. -/
theorem senseRead_kept {r : Req} {s : Device} {x : SenseRec} {rest : List SenseRec}
    (hr : senseRing s (rd r.params 0 1) = none) (hk : (sense s (rd r.params 0 1)).kept = x :: rest) :
    senseReadCmd.act r s = (⟨.ok, senseRecBytes (rd r.params 0 1) x⟩,
      modSense (rd r.params 0 1) (fun q => { q with kept := rest }) s) := by
  simp [senseReadCmd, hr, hk]

/-- A channel that keeps no record answers its index and zero bytes. -/
theorem senseRead_empty {r : Req} {s : Device} (hk : (sense s (rd r.params 0 1)).kept = []) :
    senseReadCmd.act r s = (⟨.ok, fit 128 (le 1 (rd r.params 0 1))⟩, s) := by
  simp [senseReadCmd, hk]

/-- Settles O47: the act of the command on the request that has arrived is one of its two outcomes, by whether the
channel keeps a record. -/
theorem senseReadReturnsOldestRecord : Obligations.SenseReadReturnsOldestRecord := by
  unfold Obligations.SenseReadReturnsOldestRecord
  refine ⟨fun s r x rest hring hkept => ?_, fun s r _ hkept => ?_⟩
  · refine answers_of_act rfl (by decide) (senseRead_kept (by simpa using hring) (by simpa using hkept))
      (only_modSense _ _ _) fun hmb => ⟨rfl, ?_, fun j hj => ?_⟩
    · simp [sense_answer, hmb, sense_modSense]
    · simp [sense_answer, hmb, sense_modSense, hj]
  · exact answers_of_act rfl (by decide) (senseRead_empty (by simpa using hkept)) (.refl _ _)
      fun _ => ⟨fit_length 128 _, slice_one_fit_le_one 126 _⟩

end Sys2Proof.Machine

/-!
The interrupt line (21_mailbox_interface R828): it follows its two registers after every act of the device; what a
write to `IRQ_STATUS` and one to `MB_STATUS` do to these registers.
-/
namespace Sys2Proof.Machine
open Sys2Proof

/-! ### The line after a step -/

theorem drivePins_irqLow_iff (s : Device) : (drivePins s).host.irqLow = true ↔
    ((drivePins s).host.irqStatus &&& (drivePins s).host.irqEnable) ≠ 0 := by
  simp [drivePins_eq]

/-- A step idles on an empty queue, and else its front acts on the device. -/
theorem step_idles_or_acts {s t : State} (h : step s = .next t) : t = s ∨
    ∃ (u : State) (f : Device → Device), t = u.act f := by
  cases hq : s.pending with
  | nil =>
    rw [step_idle s hq] at h
    exact .inl (Host.Outcome.next.inj h).symm
  | cons c rest =>
    obtain ⟨f, hf⟩ := exec_act c { s with pending := rest }
    rw [step_front c rest s hq, hf] at h
    exact .inr ⟨_, f, (Host.Outcome.next.inj h).symm⟩

/-! ### Registers of the interrupt line and of the mailboxes -/

@[simp] theorem irqStatusClear_host_irqStatus (v : BitVec 32) (s : Device) :
    (irqStatusClear v s).host.irqStatus = s.host.irqStatus &&& ~~~v := rfl

theorem registerWrite_irqStatus (i : Iface) (v : BitVec 32) (s : Device) :
    registerWrite i 0x30 v s = irqStatusClear v s := rfl

theorem registerWrite_mbStatus (i : Iface) (n : Fin 4) (v : BitVec 32) (s : Device) :
    registerWrite i (BitVec.ofNat 16 (0x44 + 16 * n.val)) v s = mbStatusWrite n.val v s := by
  match n with
  | 0 | 1 | 2 | 3 => rfl

theorem registerWrite_doorbell (i : Iface) (n : Fin 4) (v : BitVec 32) (s : Device) :
    registerWrite i (BitVec.ofNat 16 (0x40 + 16 * n.val)) v s = ringDoorbell i n.castSucc (v.toNat % 65536) s := by
  match n with
  | 0 | 1 | 2 | 3 => rfl

@[simp] theorem mbStatusWrite_host_irqStatus (n : Nat) (v : BitVec 32) (s : Device) :
    (mbStatusWrite n v s).host.irqStatus = s.host.irqStatus := rfl

theorem mbStatusWrite_respReady (n : Nat) (v : BitVec 32) (s : Device) (h : v.getLsbD 0 = true) :
    (mailbox (mbStatusWrite n v s) n).respReady = false := by
  simp [mbStatusWrite, h]

/-- Settles O54: the line is driven at the end of every act, and each register's write is one small change. -/
theorem interruptLineFollowsStatus : Obligations.InterruptLineFollowsStatus := by
  unfold Obligations.InterruptLineFollowsStatus
  refine ⟨fun s t line hstep => ?_, fun s v => ?_, fun s i v => ?_, fun s i n v clears => ?_⟩
  · obtain rfl | ⟨u, f, rfl⟩ := step_idles_or_acts hstep
    · exact line
    · exact drivePins_irqLow_iff _
  · exact yields_act rfl (by simp)
  · refine yields_act rfl ?_
    rw [registerWrite_irqStatus]
    simp
  · refine yields_act rfl ?_
    rw [registerWrite_mbStatus]
    exact ⟨by simp [mbStatusWrite_respReady, clears], by simp⟩

end Sys2Proof.Machine

/-!
A doorbell of a busy mailbox (21_mailbox_interface R813): every row that rings one sets `DB_IGNORED` and does nothing
else.
-/
namespace Sys2Proof.Machine
open Sys2Proof

/-! ### One mailbox changed -/

theorem onlyMailbox_modMb (n : Nat) (f : Mailbox → Mailbox) (s : Device) :
    OnlyMailbox n s (drivePins (modMb n f (putOut [] s))) := by
  refine ⟨?_, fun m hm => ?_⟩
  · simp only [drivePins_eq, modMb, modHost, putOut]
  · simp [mailbox_modMb, hm]

/-- The doorbell is ignored: the mailbox notes it. -/
def ignoreDoorbell (n : Nat) (s : Device) : Device := modMb n (fun m => { m with dbIgnored := true }) s

/-- A row that only notes an ignored doorbell leaves every other mailbox and every other part. -/
theorem yields_ignoreDoorbell {i : Instr} {s : State} {f : Device → Device} {n : Nat}
    (hi : exec i s = .next (s.act f)) (hf : f (putOut [] s.dev) = ignoreDoorbell n (putOut [] s.dev)) :
    Yields i s fun t => mailbox t n = { mailbox s.dev n with dbIgnored := true } ∧ OnlyMailbox n s.dev t := by
  refine yields_act hi ?_
  rw [hf, ignoreDoorbell]
  exact ⟨by simp, onlyMailbox_modMb n _ s.dev⟩

/-! ### The rows that ring a doorbell -/

theorem mailboxRun_busy {op : Nat} {c : Cmd} {r : Req} {s : Device} (hmb : r.mb.val < 4) (hs : served s = true)
    (busy : (mailbox s r.mb.val).busy = true) : mailboxRun op c r s = ignoreDoorbell r.mb.val s := by
  have owned : ¬ 4 ≤ r.mb.val := by omega
  simp [mailboxRun, ignoreDoorbell, owned, hs, busy]

theorem proxiedCommand_busy {op : BitVec 16} {r : Req} {s : Device} (hmb : r.mb.val < 4) (hs : served s = true)
    (away : r.here s = false) (busy : (mailbox s r.mb.val).busy = true) :
    proxiedCommand op r s = ignoreDoorbell r.mb.val s := by
  have owned : ¬ 4 ≤ r.mb.val := by omega
  simp [proxiedCommand, ignoreDoorbell, owned, hs, away, busy]

/-- For a length inside the window the request is seen as far as its length. -/
theorem mailboxRequestRefused_busy {n : Fin 4} {len : BitVec 16} {b : List Byte} {s : Device} (hs : served s = true)
    (busy : (mailbox s n.val).busy = true) (lo : 16 ≤ len.toNat) (hi : len.toNat ≤ 4096)
    (bad : (requestFault len.toNat (fit len.toNat b)).isSome = true) :
    mailboxRequestRefused n len b s = ignoreDoorbell n.val s := by
  simp [mailboxRequestRefused, ignoreDoorbell, hs, busy, hi, Nat.max_eq_left lo, bad]

theorem ringDoorbell_busy {n : Fin 5} {len : Nat} {s : Device} (hs : served s = true)
    (busy : (mailbox s n.val).busy = true) : ringDoorbell (ownIface n.val) n len s = ignoreDoorbell n.val s := by
  simp [ringDoorbell, ignoreDoorbell, hs, busy]

@[simp] theorem here_putOut (r : Req) (o : List Output) (s : Device) : r.here (putOut o s) = r.here s := rfl

/-- Settles O59: each row that rings the doorbell finds the mailbox busy and only notes it. -/
theorem busyMailboxIgnoresDoorbell : Obligations.BusyMailboxIgnoresDoorbell := by
  unfold Obligations.BusyMailboxIgnoresDoorbell
  refine ⟨fun s i op c r hi hmb hs busy => ?_, fun s op r hmb hs away busy => ?_,
    fun s n len b hs busy lo hi bad => ?_, fun s n v hs busy => ?_⟩
  · exact yields_ignoreDoorbell (exec_command i s op c r hi) (mailboxRun_busy hmb hs (by simpa using busy))
  · exact yields_ignoreDoorbell rfl
      (proxiedCommand_busy hmb (by simpa using hs) (by simpa using away) (by simpa using busy))
  · exact yields_ignoreDoorbell rfl
      (mailboxRequestRefused_busy (by simpa using hs) (by simpa using busy) lo hi bad)
  · refine yields_ignoreDoorbell rfl ?_
    rw [registerWrite_doorbell]
    exact ringDoorbell_busy (n := n.castSucc) (by simpa using hs) (by simpa using busy)

end Sys2Proof.Machine

/-!
Every step and the state after reset: what a step runs, the pins that follow the state, the reset values, a refused
command (21_mailbox_interface R814, R815, R819, R828; 19_fault_handling R757; 18_clocks_resets_power Table 18-6).
-/
namespace Sys2Proof.Machine
open Sys2Proof

/-! ### The pins -/

theorem holding_eq_true_iff (s : Device) (b : Nat) (p : Nat → Nat → Bool) : holding s b p = true ↔
    ∃ q ∈ s.fault.sources, q.2.held.getLsbD b = true ∧ p (q.1 / 256) (q.1 % 256) = true := by
  simp [holding, List.any_eq_true]

theorem pinLevel_low_iff (s : Device) : (pinLevel s).fault.pinLow = true ↔
    ∃ q ∈ s.fault.sources, q.2.held.getLsbD 9 ∨ q.2.held.getLsbD 2 ∨ (q.2.st = .latched ∧ clsOf (q.1 / 256) = 2) := by
  simp only [pinLevel, putFault_fault, Bool.or_eq_true, safeState, holding_eq_true_iff, List.any_eq_true, and_true,
    Bool.and_eq_true, decide_eq_true_eq, ← exists_or, ← and_or_left, or_assoc]

/-- The pins follow whatever an act of the device leaves. -/
theorem pinsFollow_drivePins (s : Device) : PinsFollow (drivePins s) := by
  refine ⟨drivePins_irqLow_iff s, ?_, ?_, ?_⟩
  · rw [drivePins_eq]
    exact pinLevel_low_iff s
  all_goals simp [drivePins_eq]

/-- Settles O55: a step idles, or it ends by driving the pins. -/
theorem pinsFollowEveryStep : Obligations.PinsFollowEveryStep := by
  unfold Obligations.PinsFollowEveryStep
  intro s t pins hstep
  obtain rfl | ⟨u, f, rfl⟩ := step_idles_or_acts hstep
  · exact pins
  · exact pinsFollow_drivePins _

/-! ### Steps and the state after reset -/

/-- Settles O52: the meaning of every row is one act of the device, which keeps the queue. -/
theorem stepRunsTheFrontCommand : Obligations.StepRunsTheFrontCommand := by
  unfold Obligations.StepRunsTheFrontCommand
  refine ⟨fun c s q => step_front c q s, step_idle, fun c s => ?_⟩
  obtain ⟨f, hf⟩ := exec_act c s
  exact ⟨_, hf⟩

theorem pinsFollow_reset : PinsFollow State.reset.dev := by
  refine ⟨by decide, ?_, by decide, by decide⟩
  simp [State.reset]

/-- Settles O53: each register of the reset state is read off its definition. -/
theorem stateAtReset : Obligations.StateAtReset := by
  unfold Obligations.StateAtReset
  refine ⟨rfl, pinsFollow_reset, memoriesOk_reset, ?_⟩
  refine ⟨rfl, rfl, rfl, rfl, rfl, rfl, rfl, rfl, rfl, rfl, rfl, rfl, rfl, rfl, ?_⟩
  exact ⟨fun _ _ => ⟨rfl, rfl⟩, fun _ => ⟨rfl, rfl⟩, rfl, rfl⟩

/-! ### A refused command -/

/-- Settles O58: a refused command is its answer alone, and an answer changes nothing but its mailbox. -/
theorem refusedCommandChangesNothing : Obligations.RefusedCommandChangesNothing := by
  unfold Obligations.RefusedCommandChangesNothing
  intro s i op c r q hi htakes hrefused
  have hmb : r.mb.val < 4 := takes_mb op r s.dev htakes
  refine yields_act (exec_command i s op c r hi) ?_
  rw [mailboxRun_refused op c r s.dev q htakes hrefused]
  exact ⟨answered_answer op r q _ hmb, onlyMailbox_answer op r q s.dev hmb⟩

end Sys2Proof.Machine

/-!
Read-back (22_command_reference R844, R845): the bytes of a layout put in place one row after the other, and what stands
at the place of a row at the end.
-/
namespace Sys2Proof.Machine
open Sys2Proof

/-! ### Bytes put in place -/

@[simp] theorem le_length (k n : Nat) : (le k n).length = k := by
  induction k generalizing n with
  | zero => rfl
  | succ k ih => simp [le, ih]

@[simp] theorem leInt_length (k : Nat) (z : Int) : (leInt k z).length = k := le_length k _

theorem length_le_put (l : List Byte) (o : Nat) (b : List Byte) : l.length ≤ (put l o b).length := by
  simp only [put, List.length_append, List.length_take, List.length_drop]
  omega

theorem slice_length {l : List Byte} {o k : Nat} (h : o + k ≤ l.length) : (slice l o k).length = k := by
  simp only [slice, List.length_take, List.length_drop]
  omega

/-- Bytes put in place are read back there. -/
theorem slice_put_same {l : List Byte} {o : Nat} (b : List Byte) (h : o ≤ l.length) :
    slice (put l o b) o b.length = b := by
  simp [slice, put, Nat.min_eq_left h]

/-- Bytes put in place leave a part of the list that they do not overlap. -/
theorem slice_put_outside {l : List Byte} {o a k : Nat} {b : List Byte} (inside : a + k ≤ l.length)
    (apart : o + b.length ≤ a ∨ a + k ≤ o) : slice (put l o b) a k = slice l a k := by
  apply List.ext_getElem?
  intro i
  by_cases hi : i < k
  · simp only [slice, put, List.getElem?_take, hi, if_true, List.getElem?_drop]
    rcases apart with before | after
    · rw [List.getElem?_append_right (by simp; omega), List.getElem?_drop]
      congr 1
      simp
      omega
    · rw [List.append_assoc, List.getElem?_append_left (by simp; omega), List.getElem?_take_of_lt (by omega)]
  · rw [List.getElem?_eq_none, List.getElem?_eq_none] <;> simp only [slice, List.length_take] <;> omega

/-- Several pieces put in place, one after the other. -/
def putAll (l : List Byte) (fs : List (Nat × List Byte)) : List Byte := fs.foldl (fun l f => put l f.1 f.2) l

theorem length_le_putAll (l : List Byte) (fs : List (Nat × List Byte)) : l.length ≤ (putAll l fs).length := by
  induction fs generalizing l with
  | nil => exact Nat.le_refl _
  | cons f fs ih => exact Nat.le_trans (length_le_put l f.1 f.2) (ih _)

theorem slice_putAll_outside {l : List Byte} {a k : Nat} {fs : List (Nat × List Byte)} (inside : a + k ≤ l.length)
    (apart : ∀ f ∈ fs, f.1 + f.2.length ≤ a ∨ a + k ≤ f.1) : slice (putAll l fs) a k = slice l a k := by
  induction fs generalizing l with
  | nil => rfl
  | cons f fs ih =>
    calc slice (putAll (put l f.1 f.2) fs) a k
        = slice (put l f.1 f.2) a k :=
          ih (Nat.le_trans inside (length_le_put l f.1 f.2)) fun g hg => apart g (List.mem_cons_of_mem _ hg)
      _ = slice l a k := slice_put_outside inside (apart f List.mem_cons_self)

/-- Of pieces that do not overlap, each is read back at its place. -/
theorem slice_putAll_mem {l : List Byte} {fs : List (Nat × List Byte)} (inside : ∀ f ∈ fs, f.1 + f.2.length ≤ l.length)
    (apart : fs.Pairwise fun f g => f.1 + f.2.length ≤ g.1 ∨ g.1 + g.2.length ≤ f.1) {f : Nat × List Byte} (hf : f ∈ fs) :
    slice (putAll l fs) f.1 f.2.length = f.2 := by
  induction fs generalizing l with
  | nil => exact absurd hf List.not_mem_nil
  | cons g fs ih =>
    obtain ⟨first, rest⟩ := List.pairwise_cons.1 apart
    have longer : l.length ≤ (put l g.1 g.2).length := length_le_put l g.1 g.2
    have room : g.1 + g.2.length ≤ l.length := inside g List.mem_cons_self
    rcases List.mem_cons.1 hf with rfl | hf
    · calc slice (putAll (put l f.1 f.2) fs) f.1 f.2.length
          = slice (put l f.1 f.2) f.1 f.2.length :=
            slice_putAll_outside (Nat.le_trans room longer) fun g hg => (first g hg).symm
        _ = f.2 := slice_put_same f.2 (by omega)
    · exact ih (fun f hf => Nat.le_trans (inside f (List.mem_cons_of_mem _ hf)) longer) rest hf

/-! ### Layouts -/

/-- The rows of a layout that a read-back fills do not overlap and end within the request. -/
def rowsApart (op : Nat) : Bool :=
  match reqSize op with
  | none => true
  | some (lo, _) =>
    (layout op).all (fun r => r.kind = .bulk || r.off + r.size ≤ lo) &&
      decide ((layout op).Pairwise fun r q => r.off + r.size ≤ q.off ∨ q.off + q.size ≤ r.off)

theorem rowsApart_of_hasSettings {op : Nat} (h : hasSettings op = true) : rowsApart op = true := by
  have all : ∀ op ∈ [0x0001, 0x0220, 0x0221, 0x0223, 0x0230, 0x0231, 0x0241, 0x0250, 0x0300, 0x0400, 0x0402, 0x0404,
      0x0500, 0x0502, 0x0503, 0x0505, 0x0600, 0x0700, 0x0800, 0x0801, 0x0802, 0x0806, 0x0900, 0x0901, 0x0905, 0x0A00,
      0x0B00, 0x0B02, 0x0B05, 0x0B06, 0x0B07, 0x0B08, 0x0C00, 0x0D00, 0x0E00, 0x0F01], rowsApart op = true := by
    decide +kernel
  exact all op (of_decide_eq_true h)


/-- What a read-back puts at the place of a row; nothing for bulk bytes and read-back-only fields. -/
def rowBack (s : Device) (op tgt : Nat) (p : List Byte) (r : Row) : Option (List Byte) :=
  match r.kind with
  | .par => some (slice p r.off r.size)
  | .rt => some (leInt r.size (inForce s (skey op tgt (selector op p) r.off)))
  | .acc => some (leInt r.size (planFixed (plan s) (skey op tgt (selector op p) r.off)))
  | .rbo => none
  | .bulk => none

theorem readBack_eq (s : Device) (op tgt : Nat) (p : List Byte) (rb : List (Nat × List Byte)) :
    readBack s op tgt p rb =
      putAll (putAll (zeros p.length) ((layout op).filterMap fun r => (rowBack s op tgt p r).map (r.off, ·))) rb := by
  simp only [readBack, putAll, List.foldl_filterMap]
  congr 2
  funext l r
  cases hk : r.kind <;> simp [rowBack, hk]

theorem rowBack_length {s : Device} {op tgt : Nat} {p : List Byte} {r : Row} {b : List Byte}
    (inside : r.kind = .bulk ∨ r.off + r.size ≤ p.length) (h : rowBack s op tgt p r = some b) : b.length = r.size := by
  cases hk : r.kind <;> simp only [rowBack, hk, Option.some.injEq, reduceCtorEq] at h <;> subst h
  case par => exact slice_length (inside.resolve_left (by simp [hk]))
  all_goals exact leInt_length _ _

/-- A row that a read-back fills and that no field of the command's own rule overlaps reads as the row was filled. -/
theorem slice_readBack {s : Device} {op tgt : Nat} {p : List Byte} {rb : List (Nat × List Byte)} {row : Row}
    {b : List Byte} {lo hi : Nat} (hs : hasSettings op = true) (size : reqSize op = some (lo, hi)) (enough : lo ≤ p.length)
    (hrow : row ∈ layout op) (hb : rowBack s op tgt p row = some b)
    (own : ∀ f ∈ rb, f.1 + f.2.length ≤ row.off ∨ row.off + row.size ≤ f.1) :
    slice (readBack s op tgt p rb) row.off row.size = b := by
  have fits := rowsApart_of_hasSettings hs
  simp only [rowsApart, size, Bool.and_eq_true, List.all_eq_true, Bool.or_eq_true, decide_eq_true_eq] at fits
  obtain ⟨within, apart⟩ := fits
  have within (r : Row) (hr : r ∈ layout op) : r.kind = .bulk ∨ r.off + r.size ≤ p.length :=
    (within r hr).imp_right (Nat.le_trans · enough)
  have len {r : Row} {b : List Byte} (hr : r ∈ layout op) (h : rowBack s op tgt p r = some b) : b.length = r.size :=
    rowBack_length (within r hr) h
  have room : row.off + row.size ≤ p.length := by
    refine (within row hrow).resolve_left fun hk => ?_
    simp [rowBack, hk] at hb
  have filled : slice (putAll (zeros p.length) ((layout op).filterMap fun r => (rowBack s op tgt p r).map (r.off, ·)))
      row.off b.length = b := by
    refine slice_putAll_mem (f := (row.off, b)) (fun f hf => ?_) ?_ ?_
    · simp only [List.mem_filterMap, Option.map_eq_some_iff] at hf
      obtain ⟨r, hr, c, hc, rfl⟩ := hf
      have : r.off + r.size ≤ p.length := by
        refine (within r hr).resolve_left fun hk => ?_
        simp [rowBack, hk] at hc
      simpa [zeros, len hr hc] using this
    · rw [List.pairwise_filterMap]
      refine apart.imp_of_mem fun hr hq h => ?_
      simp only [Option.map_eq_some_iff]
      rintro _ ⟨c, hc, rfl⟩ _ ⟨d, hd, rfl⟩
      simpa [len hr hc, len hq hd] using h
    · exact List.mem_filterMap.2 ⟨row, hrow, by simp [hb]⟩
  rw [readBack_eq, slice_putAll_outside _ own, ← len hrow hb, filled]
  refine Nat.le_trans room ?_
  simpa [zeros] using length_le_putAll (zeros p.length)
    ((layout op).filterMap fun r => (rowBack s op tgt p r).map (r.off, ·))

/-! ### A request that is read back -/

/-- A read-back that no check refuses names a command with settings and has the size of its layout. -/
theorem settings_of_readback {op : Nat} {c : Cmd} {r : Req} {s : Device} (h : refusal op c r false s = none)
    (rb : r.readback = true) :
    hasSettings op = true ∧ ∃ lo hi, reqSize op = some (lo, hi) ∧ lo ≤ r.params.length := by
  have size : ∃ lo hi, reqSize op = some (lo, hi) := by
    cases hs : reqSize op with
    | none => simp [refusal, hs] at h
    | some z => exact ⟨z.1, z.2, rfl⟩
  obtain ⟨lo, hi, hsize⟩ := size
  simp only [refusal, hsize, Option.isNone_some, Bool.false_eq_true, if_false, rb, Bool.true_and, if_true] at h
  split at h
  · exact absurd h (by simp)
  split at h
  · exact absurd h (by simp)
  split at h
  · exact absurd h (by simp)
  rename_i _ _ _ _ _ sized
  split at h
  · exact absurd h (by simp)
  split at h
  · exact absurd h (by simp)
  rename_i settings
  refine ⟨by simpa using settings, lo, hi, hsize, ?_⟩
  refine Classical.byContradiction fun short => ?_
  have small : ¬ (lo ≤ r.params.length ∧ r.params.length ≤ hi) := fun k => short k.1
  simp [sizeRefusal, hsize, small] at sized

/-- A command that is taken, not refused and read back answers the present values and does nothing else. -/
theorem mailboxRun_readback {op : Nat} {c : Cmd} {r : Req} {s : Device} (htakes : takes op r s = true)
    (passes : refusal op c r false (arrive op r s) = none) (rb : r.readback = true) :
    mailboxRun op c r (putOut [] s) = answer op r
      ⟨.ok, readBack (arrive op r s) op r.tgt r.params (c.back (arrive op r s) r)⟩ (arrive op r s) := by
  simp only [takes, Bool.and_eq_true, Bool.not_eq_true', decide_eq_true_eq] at htakes
  obtain ⟨⟨⟨⟨hmb, hserved⟩, hidle⟩, hhere⟩, hfree⟩ := htakes
  have owned : ¬ 4 ≤ r.mb.val := by omega
  have arrives : modMb r.mb.val (fun m => { m with req := memWrite m.req 0 (reqBytes op r), respReady := false })
      (putOut [] s) = arrive op r s := rfl
  simp [mailboxRun, owned, hserved, hidle, arrives, hhere, hfree, runLocal, runCmd, passes, rb]

@[simp] theorem inForce_arrive (op : Nat) (r : Req) (s : Device) (key : Nat) :
    inForce (arrive op r s) key = inForce s key := by
  simp [inForce, accepted, plan]

/-- Settles O60: the answer is the read-back of the layout, in which no row overlaps another. -/
theorem readBackShowsPresentValues : Obligations.ReadBackShowsPresentValues := by
  unfold Obligations.ReadBackShowsPresentValues
  intro s i op c r hi htakes passes rb
  have hmb : r.mb.val < 4 := takes_mb op r s.dev htakes
  obtain ⟨hs, lo, hi', size, enough⟩ := settings_of_readback passes rb
  refine yields_act (exec_command i s op c r hi) ?_
  rw [mailboxRun_readback htakes passes rb]
  refine ⟨_, answered_answer op r _ _ hmb, onlyMailbox_answer op r _ s.dev hmb, fun row hrow own => ⟨fun hk => ?_, fun hk => ?_⟩⟩
  · exact slice_readBack hs size enough hrow (by simp [rowBack, hk]) own
  · exact slice_readBack hs size enough hrow (by simp [rowBack, hk]) own

end Sys2Proof.Machine

/-!
Frames. A region of the device is one of its parts, or its stores: the addressed memories and the fuses and counters of
OTP. `Kept r s t` says that region `r` is the same in `t` as in `s`. Each function of the model has one lemma that
names the regions it can change; a composition of functions then keeps every region that none of them changes.
-/
namespace Sys2Proof.Machine
open Sys2Proof

/-- The addressed memories of the device (21_mailbox_interface R812; 02_accords_and_loop_engines R84;
20_startup_and_nonvolatile_store R775), and what OTP never loses (22_command_reference R855). -/
structure Stores where
  bootBuf : List Host.Cell
  req : Nat → List Host.Cell
  dataMem : Nat → List Host.Cell
  clusterMem : List Host.Cell
  slotA : List Host.Cell
  slotB : List Host.Cell
  script : List Host.Cell
  fused : BitVec 6
  fwCounter : Nat
  accordCounter : Nat

/-- The stores of a device. -/
def stores (s : Device) : Stores where
  bootBuf := s.host.bootBuf
  req n := (mailbox s n).req
  dataMem e := (engine s e).dataMem
  clusterMem := s.engines.clusterMem
  slotA := s.boot.slots.a.bytes
  slotB := s.boot.slots.b.bytes
  script := s.boot.script
  fused := s.boot.otp.fused
  fwCounter := s.boot.otp.fwCounter
  accordCounter := s.boot.otp.accordCounter

/-- Every memory is in its canonical form. -/
def Stores.Ok (m : Stores) : Prop :=
  Memory.wf 0 m.bootBuf = true ∧ (∀ n, Memory.wf 0 (m.req n) = true) ∧ (∀ e, Memory.wf 0 (m.dataMem e) = true) ∧
  Memory.wf 0 m.clusterMem = true ∧ Memory.wf 0xFF m.slotA = true ∧ Memory.wf 0xFF m.slotB = true ∧
  Memory.wf 0xFF m.script = true

/-- Memories in canonical form stay so; no fuse is lost and no counter falls. -/
def Stores.Grow (m n : Stores) : Prop :=
  (m.Ok → n.Ok) ∧ (m.fused &&& n.fused) = m.fused ∧ m.fwCounter ≤ n.fwCounter ∧ m.accordCounter ≤ n.accordCounter

theorem Stores.Grow.refl (m : Stores) : m.Grow m := ⟨id, BitVec.and_self, Nat.le_refl _, Nat.le_refl _⟩

theorem Stores.Grow.trans {l m n : Stores} (h : l.Grow m) (k : m.Grow n) : l.Grow n := by
  obtain ⟨ok, fused, fw, accord⟩ := h
  obtain ⟨ok', fused', fw', accord'⟩ := k
  refine ⟨ok' ∘ ok, ?_, Nat.le_trans fw fw', Nat.le_trans accord accord'⟩
  rw [← fused, BitVec.and_assoc, fused']

/-- What a frame speaks of. -/
inductive Region where
  | part (p : Part)
  | stores
  deriving DecidableEq

/-- The regions of a list of parts. -/
def parts (l : List Part) : List Region := l.map .part

@[simp] theorem parts_nil : parts [] = [] := rfl
@[simp] theorem parts_cons (p : Part) (l : List Part) : parts (p :: l) = .part p :: parts l := rfl
@[simp] theorem stores_not_mem_parts (l : List Part) : Region.stores ∉ parts l := by simp [parts]
@[simp] theorem part_mem_parts (p : Part) (l : List Part) : Region.part p ∈ parts l ↔ p ∈ l := by simp [parts]

/-- A part is the same in both states; the stores may grow. -/
def Kept (r : Region) (s t : Device) : Prop :=
  match r with
  | .part p => p.same s t
  | .stores => (stores s).Grow (stores t)

theorem Part.same_symm {s t : Device} {p : Part} (h : p.same s t) : p.same t s := by
  cases p
  case fault | host | elec =>
    simp only [Part.same] at *
    rw [h]
  all_goals exact Eq.symm h

theorem Kept.refl (r : Region) (s : Device) : Kept r s s := by
  cases r with
  | part p => exact p.same_refl s
  | stores => exact Stores.Grow.refl _

theorem Kept.trans {r : Region} {s t u : Device} (h : Kept r s t) (k : Kept r t u) : Kept r s u := by
  cases r with
  | part p => exact Part.same_trans h k
  | stores => exact Stores.Grow.trans h k

@[simp] theorem kept_self (r : Region) (s : Device) : Kept r s s := .refl r s

section
variable {ρ : Region} {s₀ : Device}

/-- A change of one part keeps every other part and the stores, after any other changes. -/
theorem kept_of_part {p : Part} {s t : Device} (h : ρ ∉ parts [p]) (parts : ∀ q, q ≠ p → q.same s t)
    (stored : ρ = .stores → stores t = stores s) : Kept ρ s₀ t ↔ Kept ρ s₀ s := by
  cases ρ with
  | part q =>
    have same : q.same s t := parts q (by simpa using h)
    exact ⟨fun k => Part.same_trans k (Part.same_symm same), fun k => Part.same_trans k same⟩
  | stores => rw [Kept, Kept, stored rfl]

/-- A frame is a list of regions of which every other one is kept. -/
theorem only_of_kept {l : List Part} {s t : Device} (h : ∀ ρ, ρ ∉ parts l → Kept ρ s t) : Only l s t :=
  fun p hp => h (.part p) (by simpa using hp)

@[simp] theorem kept_ite (c : Prop) [Decidable c] (s t : Device) :
    Kept ρ s₀ (if c then s else t) ↔ if c then Kept ρ s₀ s else Kept ρ s₀ t := by split <;> rfl

@[simp] theorem kept_each {α : Type} (l : List α) (f : α → Device → Device) (s : Device)
    (h : ∀ x s, Kept ρ s₀ (f x s) ↔ Kept ρ s₀ s) : Kept ρ s₀ (each l f s) ↔ Kept ρ s₀ s := by
  unfold each
  induction l generalizing s with
  | nil => rfl
  | cons a rest ih => exact (ih (f a s)).trans (h a s)

theorem kept_ite_of_kept (c : Prop) [Decidable c] {s t : Device} (hs : Kept ρ s₀ s) (ht : Kept ρ s₀ t) :
    Kept ρ s₀ (if c then s else t) := by split <;> assumption

/-- A change that may write to the stores, made for each element in turn. -/
theorem kept_each_of_kept {α : Type} (l : List α) (f : α → Device → Device) {s : Device}
    (h : ∀ x s, Kept ρ s₀ s → Kept ρ s₀ (f x s)) (hs : Kept ρ s₀ s) : Kept ρ s₀ (each l f s) := by
  unfold each
  induction l generalizing s with
  | nil => exact hs
  | cons a rest ih => exact ih (h a s hs)

@[simp] theorem kept_when (b : Bool) (f : Device → Device) (s : Device)
    (h : Kept ρ s₀ (f s) ↔ Kept ρ s₀ s) : Kept ρ s₀ (when b f s) ↔ Kept ρ s₀ s := by
  unfold when
  split
  · exact h
  · rfl

/-! ### One part changed -/

@[simp] theorem kept_putOut (o : List Output) (s : Device) : Kept ρ s₀ (putOut o s) ↔ Kept ρ s₀ s := by
  cases ρ with
  | part q => cases q <;> rfl
  | stores => rfl

@[simp] theorem kept_putKme (v : KmeSt) (s : Device) (h : ρ ∉ parts [.kme]) :
    Kept ρ s₀ (putKme v s) ↔ Kept ρ s₀ s := kept_of_part h (fun q hq => by cases q; (case kme => exact absurd rfl hq); all_goals rfl) fun _ => rfl
@[simp] theorem kept_putPendSet (v : List PendSet) (s : Device) (h : ρ ∉ parts [.pendSet]) :
    Kept ρ s₀ (putPendSet v s) ↔ Kept ρ s₀ s := kept_of_part h (fun q hq => by cases q; (case pendSet => exact absurd rfl hq); all_goals rfl) fun _ => rfl
@[simp] theorem kept_putRamp (v : Two PhaseRamp) (s : Device) (h : ρ ∉ parts [.ramp]) :
    Kept ρ s₀ (putRamp v s) ↔ Kept ρ s₀ s := kept_of_part h (fun q hq => by cases q; (case ramp => exact absurd rfl hq); all_goals rfl) fun _ => rfl
@[simp] theorem kept_putEvq (v : List EventRec) (s : Device) (h : ρ ∉ parts [.evq]) :
    Kept ρ s₀ (putEvq v s) ↔ Kept ρ s₀ s := kept_of_part h (fun q hq => by cases q; (case evq => exact absurd rfl hq); all_goals rfl) fun _ => rfl
@[simp] theorem kept_putElec (v : ElecSt) (s : Device) (h : ρ ∉ parts [.elec]) :
    Kept ρ s₀ (putElec v s) ↔ Kept ρ s₀ s := kept_of_part h (fun q hq => by cases q; (case elec => exact absurd rfl hq); all_goals rfl) fun _ => rfl
@[simp] theorem kept_putSettings (v : Tab (Option Int)) (s : Device) (h : ρ ∉ parts [.settings]) :
    Kept ρ s₀ (putSettings v s) ↔ Kept ρ s₀ s := kept_of_part h (fun q hq => by cases q; (case settings => exact absurd rfl hq); all_goals rfl) fun _ => rfl
@[simp] theorem kept_putPool (v : PoolSt) (s : Device) (h : ρ ∉ parts [.pool]) :
    Kept ρ s₀ (putPool v s) ↔ Kept ρ s₀ s := kept_of_part h (fun q hq => by cases q; (case pool => exact absurd rfl hq); all_goals rfl) fun _ => rfl
@[simp] theorem kept_putFault (v : FaultSt) (s : Device) (h : ρ ∉ parts [.fault]) :
    Kept ρ s₀ (putFault v s) ↔ Kept ρ s₀ s := kept_of_part h (fun q hq => by cases q; (case fault => exact absurd rfl hq); all_goals rfl) fun _ => rfl
@[simp] theorem kept_putSense (v : Tab SenseSt) (s : Device) (h : ρ ∉ parts [.sense]) :
    Kept ρ s₀ (putSense v s) ↔ Kept ρ s₀ s := kept_of_part h (fun q hq => by cases q; (case sense => exact absurd rfl hq); all_goals rfl) fun _ => rfl
@[simp] theorem kept_putOhpFs (v : Bool) (s : Device) (h : ρ ∉ parts [.ohpFs]) :
    Kept ρ s₀ (putOhpFs v s) ↔ Kept ρ s₀ s := kept_of_part h (fun q hq => by cases q; (case ohpFs => exact absurd rfl hq); all_goals rfl) fun _ => rfl
@[simp] theorem kept_putFresh (v : Nat) (s : Device) (h : ρ ∉ parts [.fresh]) :
    Kept ρ s₀ (putFresh v s) ↔ Kept ρ s₀ s := kept_of_part h (fun q hq => by cases q; (case fresh => exact absurd rfl hq); all_goals rfl) fun _ => rfl
@[simp] theorem kept_putLanes (v : LanesSt) (s : Device) (h : ρ ∉ parts [.lanes]) :
    Kept ρ s₀ (putLanes v s) ↔ Kept ρ s₀ s := kept_of_part h (fun q hq => by cases q; (case lanes => exact absurd rfl hq); all_goals rfl) fun _ => rfl
@[simp] theorem kept_putTribs (v : TribsSt) (s : Device) (h : ρ ∉ parts [.tribs]) :
    Kept ρ s₀ (putTribs v s) ↔ Kept ρ s₀ s := kept_of_part h (fun q hq => by cases q; (case tribs => exact absurd rfl hq); all_goals rfl) fun _ => rfl
@[simp] theorem kept_putTtx (v : Two TtxSt) (s : Device) (h : ρ ∉ parts [.ttx]) :
    Kept ρ s₀ (putTtx v s) ↔ Kept ρ s₀ s := kept_of_part h (fun q hq => by cases q; (case ttx => exact absurd rfl hq); all_goals rfl) fun _ => rfl
@[simp] theorem kept_modTx (c : Carrier) (f : TxSt → TxSt) (s : Device) (h : ρ ∉ parts [.tx]) :
    Kept ρ s₀ (modTx c f s) ↔ Kept ρ s₀ s := kept_of_part h (fun q hq => by cases q; (case tx => exact absurd rfl hq); all_goals rfl) fun _ => rfl
@[simp] theorem kept_modRx (c : Carrier) (f : RxSt → RxSt) (s : Device) (h : ρ ∉ parts [.rx]) :
    Kept ρ s₀ (modRx c f s) ↔ Kept ρ s₀ s := kept_of_part h (fun q hq => by cases q; (case rx => exact absurd rfl hq); all_goals rfl) fun _ => rfl
@[simp] theorem kept_modFec (c : Carrier) (f : FecSt → FecSt) (s : Device) (h : ρ ∉ parts [.fec]) :
    Kept ρ s₀ (modFec c f s) ↔ Kept ρ s₀ s := kept_of_part h (fun q hq => by cases q; (case fec => exact absurd rfl hq); all_goals rfl) fun _ => rfl
@[simp] theorem kept_modLine (c : Carrier) (f : LineSt → LineSt) (s : Device) (h : ρ ∉ parts [.line]) :
    Kept ρ s₀ (modLine c f s) ↔ Kept ρ s₀ s := kept_of_part h (fun q hq => by cases q; (case line => exact absurd rfl hq); all_goals rfl) fun _ => rfl
@[simp] theorem kept_modConv (c : Carrier) (f : CarrierConv → CarrierConv) (s : Device) (h : ρ ∉ parts [.conv]) :
    Kept ρ s₀ (modConv c f s) ↔ Kept ρ s₀ s := kept_of_part h (fun q hq => by cases q; (case conv => exact absurd rfl hq); all_goals rfl) fun _ => rfl
@[simp] theorem kept_modCrypto (c : Carrier) (f : CryptoSt → CryptoSt) (s : Device) (h : ρ ∉ parts [.crypto]) :
    Kept ρ s₀ (modCrypto c f s) ↔ Kept ρ s₀ s := kept_of_part h (fun q hq => by cases q; (case crypto => exact absurd rfl hq); all_goals rfl) fun _ => rfl
@[simp] theorem kept_modOstc (c : Carrier) (f : OstcSt → OstcSt) (s : Device) (h : ρ ∉ parts [.ostc]) :
    Kept ρ s₀ (modOstc c f s) ↔ Kept ρ s₀ s := kept_of_part h (fun q hq => by cases q; (case ostc => exact absurd rfl hq); all_goals rfl) fun _ => rfl
@[simp] theorem kept_modTtx (c : Carrier) (f : TtxSt → TtxSt) (s : Device) (h : ρ ∉ parts [.ttx]) :
    Kept ρ s₀ (modTtx c f s) ↔ Kept ρ s₀ s := kept_of_part h (fun q hq => by cases q; (case ttx => exact absurd rfl hq); all_goals rfl) fun _ => rfl
@[simp] theorem kept_modTiming (f : TimingSt → TimingSt) (s : Device) (h : ρ ∉ parts [.timing]) :
    Kept ρ s₀ (modTiming f s) ↔ Kept ρ s₀ s := kept_of_part h (fun q hq => by cases q; (case timing => exact absurd rfl hq); all_goals rfl) fun _ => rfl
@[simp] theorem kept_modMem (f : MemSt → MemSt) (s : Device) (h : ρ ∉ parts [.mem]) :
    Kept ρ s₀ (modMem f s) ↔ Kept ρ s₀ s := kept_of_part h (fun q hq => by cases q; (case mem => exact absurd rfl hq); all_goals rfl) fun _ => rfl
@[simp] theorem kept_modStack (f : StackSt → StackSt) (s : Device) (h : ρ ∉ parts [.stack]) :
    Kept ρ s₀ (modStack f s) ↔ Kept ρ s₀ s := kept_of_part h (fun q hq => by cases q; (case stack => exact absurd rfl hq); all_goals rfl) fun _ => rfl
@[simp] theorem kept_modClock (f : ClockSt → ClockSt) (s : Device) (h : ρ ∉ parts [.clock]) :
    Kept ρ s₀ (modClock f s) ↔ Kept ρ s₀ s := kept_of_part h (fun q hq => by cases q; (case clock => exact absurd rfl hq); all_goals rfl) fun _ => rfl
@[simp] theorem kept_modFault (f : FaultSt → FaultSt) (s : Device) (h : ρ ∉ parts [.fault]) :
    Kept ρ s₀ (modFault f s) ↔ Kept ρ s₀ s := kept_of_part h (fun q hq => by cases q; (case fault => exact absurd rfl hq); all_goals rfl) fun _ => rfl
@[simp] theorem kept_modAccord (f : AccordSt → AccordSt) (s : Device) (h : ρ ∉ parts [.accord]) :
    Kept ρ s₀ (modAccord f s) ↔ Kept ρ s₀ s := kept_of_part h (fun q hq => by cases q; (case accord => exact absurd rfl hq); all_goals rfl) fun _ => rfl

@[simp] theorem kept_putHost (v : HostSt) (s : Device) (h : ρ ∉ parts [.host])
    (buf : ρ = .stores → v.bootBuf = s.host.bootBuf) (mbs : ρ = .stores → v.mbs = s.host.mbs) :
    Kept ρ s₀ (putHost v s) ↔ Kept ρ s₀ s :=
  kept_of_part h (fun q hq => by cases q; (case host => exact absurd rfl hq); all_goals rfl) fun hr => by
    simp [stores, mailbox, engine, buf hr, mbs hr]

@[simp] theorem kept_modHost (f : HostSt → HostSt) (s : Device) (h : ρ ∉ parts [.host])
    (buf : ρ = .stores → ∀ x, (f x).bootBuf = x.bootBuf) (mbs : ρ = .stores → ∀ x, (f x).mbs = x.mbs) :
    Kept ρ s₀ (modHost f s) ↔ Kept ρ s₀ s :=
  kept_putHost (f s.host) s h (fun hr => buf hr s.host) fun hr => mbs hr s.host

@[simp] theorem kept_modBoot (f : BootSt → BootSt) (s : Device) (h : ρ ∉ parts [.boot])
    (slots : ρ = .stores → ∀ x, (f x).slots = x.slots) (script : ρ = .stores → ∀ x, (f x).script = x.script)
    (otp : ρ = .stores → ∀ x, (f x).otp = x.otp) : Kept ρ s₀ (modBoot f s) ↔ Kept ρ s₀ s :=
  kept_of_part h (fun q hq => by cases q; (case boot => exact absurd rfl hq); all_goals rfl) fun hr => by
    simp [stores, mailbox, engine, slots hr, script hr, otp hr]

@[simp] theorem kept_putEngines (v : EnginesSt) (s : Device) (h : ρ ∉ parts [.engines])
    (data : ρ = .stores → ∀ e, (Tab.get (fun _ => {}) v.engines e : EngineSt).dataMem =
      (Tab.get (fun _ => {}) s.engines.engines e : EngineSt).dataMem)
    (cluster : ρ = .stores → v.clusterMem = s.engines.clusterMem) : Kept ρ s₀ (putEngines v s) ↔ Kept ρ s₀ s :=
  kept_of_part h (fun q hq => by cases q; (case engines => exact absurd rfl hq); all_goals rfl) fun hr => by
    have data (e : Nat) : (engine (putEngines v s) e).dataMem = (engine s e).dataMem := data hr e
    simp [stores, mailbox, data, cluster hr]

@[simp] theorem kept_modEngine (e : Nat) (f : EngineSt → EngineSt) (s : Device) (h : ρ ∉ parts [.engines])
    (data : ρ = .stores → ∀ x, (f x).dataMem = x.dataMem) :
    Kept ρ s₀ (modEngine e f s) ↔ Kept ρ s₀ s := by
  refine kept_putEngines _ s h (fun hr k => ?_) fun _ => rfl
  rw [Tab.get_modify]
  split
  · rename_i hk
    subst hk
    exact data hr _
  · rfl

@[simp] theorem kept_modMb (n : Nat) (f : Mailbox → Mailbox) (s : Device) (h : ρ ∉ parts [.host])
    (req : ρ = .stores → ∀ x, (f x).req = x.req) : Kept ρ s₀ (modMb n f s) ↔ Kept ρ s₀ s :=
  kept_of_part h (fun q hq => by cases q; (case host => exact absurd rfl hq); all_goals rfl) fun hr => by
    have (m : Nat) : (mailbox (modMb n f s) m).req = (mailbox s m).req := by
      rw [mailbox_modMb]
      split
      · rename_i hk
        subst hk
        exact req hr _
      · rfl
    simp [stores, this, engine]

/-! ### Changes that sections of other chapters share -/

@[simp] theorem kept_changePhase (f : Device → Device) (s : Device) (h : ρ ∉ parts [.fault])
    (hf : Kept ρ s₀ (f s) ↔ Kept ρ s₀ s) : Kept ρ s₀ (changePhase f s) ↔ Kept ρ s₀ s := by
  simp only [changePhase, kept_modFault _ _ h, hf]

end

end Sys2Proof.Machine

/-!
Frames of the functions of shared operations, faults, the mailbox and encryption.
-/
namespace Sys2Proof.Machine
open Sys2Proof
section
variable {ρ : Region} {s₀ : Device}

@[simp] theorem kept_drawNat (s : Device) (hρ : ρ ∉ parts [.fresh]) :
    Kept ρ s₀ (drawNat s).2 ↔ Kept ρ s₀ s := by
  simp at hρ
  simp [drawNat, hρ]

@[simp] theorem kept_drawInt (s : Device) (hρ : ρ ∉ parts [.fresh]) :
    Kept ρ s₀ (drawInt s).2 ↔ Kept ρ s₀ s := by
  simp at hρ
  simp [drawInt, hρ]

@[simp] theorem kept_drawBytes (n : Nat) (s : Device) (hρ : ρ ∉ parts [.fresh]) :
    Kept ρ s₀ (drawBytes n s).2 ↔ Kept ρ s₀ s := by
  simp at hρ
  simp [drawBytes, hρ]

@[simp] theorem kept_emit (o : Output) (s : Device) :
    Kept ρ s₀ (emit o s) ↔ Kept ρ s₀ s := by
  simp [emit]

@[simp] theorem kept_irqLevel (s : Device) (hρ : ρ ∉ parts [.host]) :
    Kept ρ s₀ (irqLevel s) ↔ Kept ρ s₀ s := by
  simp at hρ
  simp [irqLevel, hρ]

@[simp] theorem kept_sendMsix (v : Nat) (s : Device) (hρ : ρ ∉ parts [.host]) :
    Kept ρ s₀ (sendMsix v s) ↔ Kept ρ s₀ s := by
  simp at hρ
  simp [sendMsix, hρ]

@[simp] theorem kept_setIrq (b : Nat) (s : Device) (hρ : ρ ∉ parts [.host]) :
    Kept ρ s₀ (setIrq b s) ↔ Kept ρ s₀ s := by
  simp at hρ
  simp [setIrq, hρ]

@[simp] theorem kept_raiseAt (t : Time) (type source sev : Nat) (payload : List Byte) (s : Device)
    (hρ : ρ ∉ parts [.evq]) :
    Kept ρ s₀ (raiseAt t type source sev payload s) ↔ Kept ρ s₀ s := by
  simp at hρ
  simp [raiseAt, hρ]

@[simp] theorem kept_raise (type source sev : Nat) (payload : List Byte) (s : Device) (hρ : ρ ∉ parts [.evq]) :
    Kept ρ s₀ (raise type source sev payload s) ↔ Kept ρ s₀ s := by
  simp at hρ
  simp [raise, hρ]

@[simp] theorem kept_addPending (op : Nat) (r : Req) (s : Device) (hρ : ρ ∉ parts [.host]) :
    Kept ρ s₀ (addPending op r s) ↔ Kept ρ s₀ s := by
  simp at hρ
  simp [addPending, hρ]

@[simp] theorem kept_deferredDoneX (op : Nat) (r : Req) (st : Status) (extra : List Byte) (s : Device)
    (hρ : ρ ∉ parts [.host, .evq]) :
    Kept ρ s₀ (deferredDoneX op r st extra s) ↔ Kept ρ s₀ s := by
  simp at hρ
  simp [deferredDoneX, hρ]

@[simp] theorem kept_deferredDone (op : Nat) (r : Req) (st : Status) (s : Device) (hρ : ρ ∉ parts [.host, .evq]) :
    Kept ρ s₀ (deferredDone op r st s) ↔ Kept ρ s₀ s := by
  simp at hρ
  simp [deferredDone, hρ]

@[simp] theorem kept_heldDone (h : Held) (st : Status) (s : Device) (hρ : ρ ∉ parts [.host, .evq]) :
    Kept ρ s₀ (heldDone h st s) ↔ Kept ρ s₀ s := by
  simp at hρ
  simp [heldDone, hρ]

@[simp] theorem kept_putSetting (key : Nat) (v : Int) (bnd : When) (s : Device)
    (hρ : ρ ∉ parts [.settings, .pendSet]) :
    Kept ρ s₀ (putSetting key v bnd s) ↔ Kept ρ s₀ s := by
  simp at hρ
  simp [putSetting, hρ]

@[simp] theorem kept_settle (bnd : When) (f : Nat → Bool) (s : Device) (hρ : ρ ∉ parts [.pendSet]) :
    Kept ρ s₀ (settle bnd f s) ↔ Kept ρ s₀ s := by
  simp at hρ
  simp [settle, hρ]

@[simp] theorem kept_acceptFields (op tgt : Nat) (p : List Byte) (s : Device) (hρ : ρ ∉ parts [.settings, .pendSet]) :
    Kept ρ s₀ (acceptFields op tgt p s) ↔ Kept ρ s₀ s := by
  simp at hρ
  simp [acceptFields, hρ]

@[simp] theorem kept_modSource (id inst : Nat) (f : SourceSt → SourceSt) (s : Device) (hρ : ρ ∉ parts [.fault]) :
    Kept ρ s₀ (modSource id inst f s) ↔ Kept ρ s₀ s := by
  simp at hρ
  simp [modSource, hρ]

@[simp] theorem kept_pinLevel (s : Device) (hρ : ρ ∉ parts [.fault]) :
    Kept ρ s₀ (pinLevel s) ↔ Kept ρ s₀ s := by
  simp at hρ
  simp [pinLevel, hρ]

@[simp] theorem kept_modCap (i : Nat) (f : CapSlot → CapSlot) (s : Device) (hρ : ρ ∉ parts [.mem]) :
    Kept ρ s₀ (modCap i f s) ↔ Kept ρ s₀ s := by
  simp at hρ
  simp [modCap, hρ]

@[simp] theorem kept_modPort (i : Nat) (f : SbPort → SbPort) (s : Device) (hρ : ρ ∉ parts [.stack]) :
    Kept ρ s₀ (modPort i f s) ↔ Kept ρ s₀ s := by
  simp at hρ
  simp [modPort, hρ]

@[simp] theorem kept_modSense (ch : Nat) (f : SenseSt → SenseSt) (s : Device) (hρ : ρ ∉ parts [.sense]) :
    Kept ρ s₀ (modSense ch f s) ↔ Kept ρ s₀ s := by
  simp at hρ
  simp [modSense, hρ]

@[simp] theorem kept_modLane (i : Nat) (f : LaneSt → LaneSt) (s : Device) (hρ : ρ ∉ parts [.lanes]) :
    Kept ρ s₀ (modLane i f s) ↔ Kept ρ s₀ s := by
  simp at hρ
  simp [modLane, hρ]

theorem kept_noteSeen {k : List Nat} {s t : Device} (hρ : ρ ∉ parts [.stack]) (h : noteSeen k s = some t) :
    Kept ρ s₀ t ↔ Kept ρ s₀ s := by
  unfold noteSeen at h
  split at h
  · exact absurd h (by simp)
  · obtain rfl := Option.some.inj h
    exact kept_modStack _ _ hρ

@[simp] theorem kept_queueMsg (p : Nat) (m : SbMsg) (s : Device) (hρ : ρ ∉ parts [.stack]) :
    Kept ρ s₀ (queueMsg p m s) ↔ Kept ρ s₀ s := by
  simp at hρ
  simp [queueMsg, hρ]

@[simp] theorem kept_sendMsg (type dest : Nat) (body : List Byte) (s : Device) (hρ : ρ ∉ parts [.kme, .stack]) :
    Kept ρ s₀ (sendMsg type dest body s) ↔ Kept ρ s₀ s := by
  simp at hρ
  simp [sendMsg, hρ]

@[simp] theorem kept_trigSlot (k i : Nat) (t point : Time) (s : Device) (hρ : ρ ∉ parts [.mem]) :
    Kept ρ s₀ (trigSlot k i t point s) ↔ Kept ρ s₀ s := by
  simp at hρ
  unfold trigSlot
  dsimp only
  (repeat' split) <;> simp [hρ]

@[simp] theorem kept_stackTrigHere (t : Time) (s : Device) (hρ : ρ ∉ parts [.mem]) :
    Kept ρ s₀ (stackTrigHere t s) ↔ Kept ρ s₀ s := by
  simp at hρ
  simp [stackTrigHere, hρ]

@[simp] theorem kept_sendTrig (t : Time) (s : Device) (hρ : ρ ∉ parts [.mem, .stack]) :
    Kept ρ s₀ (sendTrig t s) ↔ Kept ρ s₀ s := by
  simp at hρ
  simp [sendTrig, hρ]

@[simp] theorem kept_localTrig (k : Nat) (t : Time) (f : Nat → CapSlot → Bool) (s : Device)
    (hρ : ρ ∉ parts [.mem, .stack]) :
    Kept ρ s₀ (localTrig k t f s) ↔ Kept ρ s₀ s := by
  simp at hρ
  simp [localTrig, hρ]

@[simp] theorem kept_enterReset (d : Domain) (cause : Nat) (s : Device) (hρ : ρ ∉ parts [.clock]) :
    Kept ρ s₀ (enterReset d cause s) ↔ Kept ρ s₀ s := by
  simp at hρ
  simp [enterReset, hρ]

@[simp] theorem kept_eraseKeys (s : Device) (hρ : ρ ∉ parts [.crypto, .kme, .clock]) :
    Kept ρ s₀ (eraseKeys s) ↔ Kept ρ s₀ s := by
  simp at hρ
  simp [eraseKeys, hρ]

@[simp] theorem kept_logFault (r : FaultRec) (s : Device) (hρ : ρ ∉ parts [.fault]) :
    Kept ρ s₀ (logFault r s) ↔ Kept ρ s₀ s := by
  simp at hρ
  simp [logFault, hρ]

@[simp] theorem kept_dueRaised (r : FaultRec) (s : Device) (hρ : ρ ∉ parts [.fault]) :
    Kept ρ s₀ (dueRaised r s) ↔ Kept ρ s₀ s := by
  simp at hρ
  simp [dueRaised, hρ]

@[simp] theorem kept_faultOne (others : Nat) (t : Time) (e : FaultIn) (s : Device)
    (hρ : ρ ∉ parts [.crypto, .kme, .mem, .stack, .clock, .fault]) :
    Kept ρ s₀ (faultOne others t e s) ↔ Kept ρ s₀ s := by
  simp at hρ
  simp [faultOne, hρ]

@[simp] theorem kept_faultGroup (t : Time) (l : List FaultIn) (s : Device)
    (hρ : ρ ∉ parts [.crypto, .kme, .mem, .stack, .clock, .fault]) :
    Kept ρ s₀ (faultGroup t l s) ↔ Kept ρ s₀ s := by
  simp at hρ
  simp [faultGroup, hρ]

@[simp] theorem kept_fault (id inst : Nat) (detail : List Byte) (s : Device)
    (hρ : ρ ∉ parts [.crypto, .kme, .mem, .stack, .clock, .fault]) :
    Kept ρ s₀ (fault id inst detail s) ↔ Kept ρ s₀ s := by
  simp at hρ
  simp [fault, hρ]

@[simp] theorem kept_faultOn (id inst : Nat) (detail : List Byte) (s : Device)
    (hρ : ρ ∉ parts [.crypto, .kme, .mem, .stack, .clock, .fault]) :
    Kept ρ s₀ (faultOn id inst detail s) ↔ Kept ρ s₀ s := by
  simp at hρ
  simp [faultOn, hρ]

@[simp] theorem kept_faultOff (id inst : Nat) (s : Device) (hρ : ρ ∉ parts [.fault]) :
    Kept ρ s₀ (faultOff id inst s) ↔ Kept ρ s₀ s := by
  simp at hρ
  simp [faultOff, hρ]

@[simp] theorem kept_faultCond (id inst : Nat) (holds : Bool) (detail : List Byte) (s : Device)
    (hρ : ρ ∉ parts [.crypto, .kme, .mem, .stack, .clock, .fault]) :
    Kept ρ s₀ (faultCond id inst holds detail s) ↔ Kept ρ s₀ s := by
  simp at hρ
  simp [faultCond, hρ]

@[simp] theorem kept_endPulses (s : Device) (hρ : ρ ∉ parts [.fault]) :
    Kept ρ s₀ (endPulses s) ↔ Kept ρ s₀ s := by
  simp at hρ
  simp [endPulses, hρ]

@[simp] theorem kept_toQuiet (id inst : Nat) (s : Device) (hρ : ρ ∉ parts [.fault, .evq]) :
    Kept ρ s₀ (toQuiet id inst s) ↔ Kept ρ s₀ s := by
  simp at hρ
  simp [toQuiet, hρ]

@[simp] theorem kept_quietExpiry (id inst : Nat) (s : Device) (hρ : ρ ∉ parts [.fault, .evq]) :
    Kept ρ s₀ (quietExpiry id inst s) ↔ Kept ρ s₀ s := by
  simp at hρ
  unfold quietExpiry
  dsimp only
  (repeat' split) <;> simp [hρ]

@[simp] theorem kept_faultSlowTick (s : Device) (hρ : ρ ∉ parts [.fault]) :
    Kept ρ s₀ (faultSlowTick s) ↔ Kept ρ s₀ s := by
  simp at hρ
  simp [faultSlowTick, hρ]

@[simp] theorem kept_faultEpoch (s : Device) (hρ : ρ ∉ parts [.fault]) :
    Kept ρ s₀ (faultEpoch s) ↔ Kept ρ s₀ s := by
  simp at hρ
  simp [faultEpoch, hρ]

@[simp] theorem kept_startRecovery (d : Domain) (s : Device) (hρ : ρ ∉ parts [.fault]) :
    Kept ρ s₀ (startRecovery d s) ↔ Kept ρ s₀ s := by
  simp at hρ
  simp [startRecovery, hρ]

@[simp] theorem reads_snd (f : Device → Req → List Byte) (r : Req) (s : Device) : (reads f r s).2 = s := rfl

@[simp] theorem does_snd (f : Req → Device → Device) (r : Req) (s : Device) : (does f r s).2 = f r s := rfl

@[simp] theorem kept_runCmd (op : Nat) (c : Cmd) (r : Req) (boot : Bool) (s : Device) (hρ : ρ ∉ parts [.host])
    (act : Kept ρ s₀ (c.act r s).2 ↔ Kept ρ s₀ s) : Kept ρ s₀ (runCmd op c r boot s).2 ↔ Kept ρ s₀ s := by
  simp at hρ
  unfold runCmd
  (repeat' split) <;> simp [hρ, act]

@[simp] theorem kept_respond (n seq : Nat) (st : Nat) (bytes : List Byte) (s : Device) (hρ : ρ ∉ parts [.host]) :
    Kept ρ s₀ (respond n seq st bytes s) ↔ Kept ρ s₀ s := by
  simp at hρ
  simp [respond, hρ]

@[simp] theorem kept_sendHead (m : Nat) (s : Device) (hρ : ρ ∉ parts [.kme, .stack]) :
    Kept ρ s₀ (sendHead m s) ↔ Kept ρ s₀ s := by
  simp at hρ
  unfold sendHead
  split <;> simp [hρ]

@[simp] theorem kept_forward (op : Nat) (r : Req) (s : Device) (hρ : ρ ∉ parts [.kme, .stack, .host]) :
    Kept ρ s₀ (forward op r s) ↔ Kept ρ s₀ s := by
  simp at hρ
  simp [forward, hρ]

@[simp] theorem kept_answer (op : Nat) (r : Req) (q : Resp) (s : Device) (hρ : ρ ∉ parts [.kme, .stack, .host]) :
    Kept ρ s₀ (answer op r q s) ↔ Kept ρ s₀ s := by
  simp at hρ
  unfold answer
  dsimp only
  (repeat' split) <;> simp [hρ]

@[simp] theorem kept_runLocal (op : Nat) (c : Cmd) (r : Req) (boot : Bool) (s : Device)
    (hρ : ρ ∉ parts [.kme, .stack, .host]) (act : Kept ρ s₀ (c.act r s).2 ↔ Kept ρ s₀ s) :
    Kept ρ s₀ (runLocal op c r boot s) ↔ Kept ρ s₀ s := by
  simp at hρ
  unfold runLocal
  split <;> simp [hρ, act]



end

end Sys2Proof.Machine

/-!
Frames of the functions of encryption, the supervisory channel and timing.
-/
namespace Sys2Proof.Machine
open Sys2Proof
section
variable {ρ : Region} {s₀ : Device}

@[simp] theorem kept_evalKeyAbsent (c : Carrier) (s : Device) (hρ : ρ ∉ parts [.crypto]) :
    Kept ρ s₀ (evalKeyAbsent c s) ↔ Kept ρ s₀ s := by
  simp at hρ
  simp [evalKeyAbsent, hρ]

@[simp] theorem kept_useMask (eng n : Nat) (s : Device) (hρ : ρ ∉ parts [.kme]) :
    Kept ρ s₀ (useMask eng n s) ↔ Kept ρ s₀ s := by
  simp at hρ
  simp [useMask, hρ]

@[simp] theorem kept_ageKey (c : Carrier) (rx : Bool) (s : Device) (hρ : ρ ∉ parts [.crypto, .evq]) :
    Kept ρ s₀ (ageKey c rx s) ↔ Kept ρ s₀ s := by
  simp at hρ
  unfold ageKey
  dsimp only
  (repeat' split) <;> simp [hρ]

@[simp] theorem kept_cryptoTxSuperframe (c : Carrier) (s : Device) (hρ : ρ ∉ parts [.crypto, .kme, .evq]) :
    Kept ρ s₀ (cryptoTxSuperframe c s) ↔ Kept ρ s₀ s := by
  simp at hρ
  unfold cryptoTxSuperframe
  dsimp only
  (repeat' split) <;> simp [hρ]

@[simp] theorem kept_cryptoNoteSent (c : Carrier) (s : Device) (hρ : ρ ∉ parts [.crypto]) :
    Kept ρ s₀ (cryptoNoteSent c s) ↔ Kept ρ s₀ s := by
  simp at hρ
  simp [cryptoNoteSent, hρ]

@[simp] theorem kept_cryptoNso (c : Carrier) (x enc kidx next rollIn : Nat) (s : Device)
    (hρ : ρ ∉ parts [.crypto, .kme, .mem, .stack, .clock, .fault]) :
    Kept ρ s₀ (cryptoNso c x enc kidx next rollIn s) ↔ Kept ρ s₀ s := by
  simp at hρ
  simp [cryptoNso, hρ]

@[simp] theorem kept_checkSegment (c : Carrier) (v : Option Bool) (s : Device) (hρ : ρ ∉ parts [.crypto]) :
    Kept ρ s₀ (checkSegment c v s) ↔ Kept ρ s₀ s := by
  simp at hρ
  simp [checkSegment, hρ]

@[simp] theorem kept_cryptoRxSuperframe (c : Carrier) (x : Nat) (segs : List (Option Bool)) (s : Device)
    (hρ : ρ ∉ parts [.crypto, .kme, .evq]) :
    Kept ρ s₀ (cryptoRxSuperframe c x segs s) ↔ Kept ρ s₀ s := by
  simp at hρ
  simp [cryptoRxSuperframe, hρ]

@[simp] theorem kept_cryptoControlTick (c : Carrier) (s : Device) (hρ : ρ ∉ parts [.crypto]) :
    Kept ρ s₀ (cryptoControlTick c s) ↔ Kept ρ s₀ s := by
  simp at hρ
  simp [cryptoControlTick, hρ]

@[simp] theorem kept_cryptoSlowTick (s : Device) (hρ : ρ ∉ parts [.kme]) :
    Kept ρ s₀ (cryptoSlowTick s) ↔ Kept ρ s₀ s := by
  simp at hρ
  simp [cryptoSlowTick, hρ]

@[simp] theorem kept_alarmCondition (b : Nat) (holds : Bool) (s : Device)
    (hρ : ρ ∉ parts [.crypto, .kme, .mem, .stack, .clock, .fault]) :
    Kept ρ s₀ (alarmCondition b holds s) ↔ Kept ρ s₀ s := by
  simp at hρ
  simp [alarmCondition, hρ]

@[simp] theorem kept_zeroizeN (low : Bool) (s : Device)
    (hρ : ρ ∉ parts [.crypto, .kme, .mem, .stack, .clock, .fault]) :
    Kept ρ s₀ (zeroizeN low s) ↔ Kept ρ s₀ s := by
  simp at hρ
  simp [zeroizeN, hρ]

@[simp] theorem kept_tamperCondition (sensor : Fin 3) (trips : Bool) (s : Device)
    (hρ : ρ ∉ parts [.crypto, .kme, .mem, .stack, .clock, .fault]) :
    Kept ρ s₀ (tamperCondition sensor trips s) ↔ Kept ρ s₀ s := by
  simp at hρ
  simp [tamperCondition, hρ]

@[simp] theorem kept_keyIvLimit (c : Carrier) (rx : Bool) (s : Device) (hρ : ρ ∉ parts [.crypto]) :
    Kept ρ s₀ (keyIvLimit c rx s) ↔ Kept ρ s₀ s := by
  simp at hρ
  unfold keyIvLimit
  dsimp only
  (repeat' split) <;> simp [hρ]

@[simp] theorem kept_keySlotErased (c : Carrier) (rx : Bool) (k : Fin 2) (s : Device)
    (hρ : ρ ∉ parts [.crypto, .evq]) :
    Kept ρ s₀ (keySlotErased c rx k s) ↔ Kept ρ s₀ s := by
  simp at hρ
  simp [keySlotErased, hρ]

@[simp] theorem kept_cryptoApply (r : Req) (s : Device) (hρ : ρ ∉ parts [.crypto, .settings, .pendSet]) :
    Kept ρ s₀ (cryptoApply r s) ↔ Kept ρ s₀ s := by
  simp at hρ
  simp [cryptoApply, hρ]

@[simp] theorem kept_act_cryptoConfigCmd (r : Req) (s : Device)
    (hρ : ρ ∉ parts [.crypto, .host, .settings, .pendSet, .evq]) :
    Kept ρ s₀ (cryptoConfigCmd.act r s).2 ↔ Kept ρ s₀ s := by
  simp at hρ
  unfold cryptoConfigCmd
  dsimp only
  (repeat' split) <;> simp [hρ]

@[simp] theorem kept_cryptoEraseComplete (c : Carrier) (s : Device)
    (hρ : ρ ∉ parts [.crypto, .host, .settings, .pendSet, .evq]) :
    Kept ρ s₀ (cryptoEraseComplete c s) ↔ Kept ρ s₀ s := by
  simp at hρ
  unfold cryptoEraseComplete
  dsimp only
  (repeat' split) <;> simp [hρ]

/-- The action of CRYPTO_KEY_LOAD, over the function that unwraps the key: a proof about it does not evaluate the
cipher. -/
def keyLoad (unwrap : List Byte → List Byte → Option (List Byte)) (r : Req) (s : Device) : Resp × Device :=
  match unwrap (be 32 (s.boot.otp.kek.getD 0).toNat) (slice r.params 8 40) with
  | none => (⟨.denied, []⟩, s)
  | some key =>
    let kv : BitVec 256 := BitVec.ofNat 256 (fromBe key)
    let k := rd r.params 2 1
    if rd r.params 0 1 = 0 then
      let sl : KeySlot := { state := .loaded, key := some kv, salt := rd r.params 4 4, age := 0 }
      (Resp.okay, modCrypto r.car (fun q =>
        if rd r.params 1 1 = 1 then { q with rx := setSlot q.rx k fun _ => sl }
        else { q with tx := setSlot q.tx k fun _ => sl }) s)
    else
      (Resp.okay, putKme { s.kme with
        ctxs := Tab.set (fun _ => {}) s.kme.ctxs k { key := some kv, sendCount := 1, lastAccepted := [] } } s)

theorem act_cryptoKeyLoadCmd : cryptoKeyLoadCmd.act = keyLoad kwUnwrap := rfl

@[simp] theorem kept_keyLoad (unwrap : List Byte → List Byte → Option (List Byte)) (r : Req) (s : Device)
    (hρ : ρ ∉ parts [.crypto, .kme]) : Kept ρ s₀ (keyLoad unwrap r s).2 ↔ Kept ρ s₀ s := by
  simp at hρ
  unfold keyLoad
  split
  · rfl
  · dsimp only
    split
    · rw [kept_modCrypto _ _ _ (by simp [hρ])]
    · rw [kept_putKme _ _ (by simp [hρ])]

@[simp] theorem kept_act_cryptoKeyLoadCmd (r : Req) (s : Device) (hρ : ρ ∉ parts [.crypto, .kme]) :
    Kept ρ s₀ (cryptoKeyLoadCmd.act r s).2 ↔ Kept ρ s₀ s := by
  rw [act_cryptoKeyLoadCmd, kept_keyLoad _ _ _ hρ]

@[simp] theorem kept_act_cryptoRollCmd (r : Req) (s : Device) (hρ : ρ ∉ parts [.crypto]) :
    Kept ρ s₀ (cryptoRollCmd.act r s).2 ↔ Kept ρ s₀ s := by
  simp at hρ
  simp [cryptoRollCmd, hρ]

@[simp] theorem kept_act_cryptoStatusCmd (r : Req) (s : Device) :
    Kept ρ s₀ (cryptoStatusCmd.act r s).2 ↔ Kept ρ s₀ s := by
  simp [cryptoStatusCmd]

@[simp] theorem kept_act_cryptoZeroizeCmd (r : Req) (s : Device)
    (hρ : ρ ∉ parts [.crypto, .kme, .mem, .stack, .clock, .fault]) :
    Kept ρ s₀ (cryptoZeroizeCmd.act r s).2 ↔ Kept ρ s₀ s := by
  simp at hρ
  simp [cryptoZeroizeCmd, hρ]

@[simp] theorem kept_act_cryptoAlarmClearCmd (r : Req) (s : Device) (hρ : ρ ∉ parts [.kme]) :
    Kept ρ s₀ (cryptoAlarmClearCmd.act r s).2 ↔ Kept ρ s₀ s := by
  simp at hρ
  simp [cryptoAlarmClearCmd, hρ]

@[simp] theorem kept_nextCounter (ctx : Nat) (s : Device) (hρ : ρ ∉ parts [.kme]) :
    Kept ρ s₀ (nextCounter ctx s).2 ↔ Kept ρ s₀ s := by
  simp at hρ
  simp [nextCounter, hρ]

@[simp] theorem kept_authMessage (c : Carrier) (ctx sender counter : Nat) (tagOk sameId : Bool) (s : Device)
    (hρ : ρ ∉ parts [.crypto, .kme]) :
    Kept ρ s₀ (authMessage c ctx sender counter tagOk sameId s).2 ↔ Kept ρ s₀ s := by
  simp at hρ
  unfold authMessage
  dsimp only
  (repeat' split) <;> simp [hρ]

@[simp] theorem kept_queueOn (c : Carrier) (nso : Bool) (m : Msg) (s : Device) (hρ : ρ ∉ parts [.ostc]) :
    Kept ρ s₀ (queueOn c nso m s) ↔ Kept ρ s₀ s := by
  simp at hρ
  simp [queueOn, hρ]

@[simp] theorem kept_stampMsg (c : Carrier) (nso : Bool) (m : Msg) (s : Device) (hρ : ρ ∉ parts [.kme]) :
    Kept ρ s₀ (stampMsg c nso m s).2 ↔ Kept ρ s₀ s := by
  simp at hρ
  unfold stampMsg
  split <;> simp [hρ]

@[simp] theorem kept_ostcBurstStart (c : Carrier) (s : Device) (hρ : ρ ∉ parts [.kme, .ostc]) :
    Kept ρ s₀ (ostcBurstStart c s) ↔ Kept ρ s₀ s := by
  simp at hρ
  unfold ostcBurstStart
  dsimp only
  (repeat' split) <;> simp [hρ]

@[simp] theorem kept_ostcBurstEnd (c : Carrier) (s : Device) (hρ : ρ ∉ parts [.ostc]) :
    Kept ρ s₀ (ostcBurstEnd c s) ↔ Kept ρ s₀ s := by
  simp at hρ
  unfold ostcBurstEnd
  split <;> simp [hρ]

@[simp] theorem kept_ostcBurstTruncated (c : Carrier) (s : Device) (hρ : ρ ∉ parts [.ostc]) :
    Kept ρ s₀ (ostcBurstTruncated c s) ↔ Kept ρ s₀ s := by
  simp at hρ
  unfold ostcBurstTruncated
  split <;> simp [hρ]

@[simp] theorem kept_symbolBit (b : Burst) (k : Nat) (s : Device) (hρ : ρ ∉ parts [.fresh]) :
    Kept ρ s₀ (symbolBit b k s).2 ↔ Kept ρ s₀ s := by
  simp at hρ
  unfold symbolBit
  dsimp only
  (repeat' split) <;> simp [hρ]

@[simp] theorem kept_ostcSymbol (c : Carrier) (s : Device) (hρ : ρ ∉ parts [.ostc, .fresh]) :
    Kept ρ s₀ (ostcSymbol c s) ↔ Kept ρ s₀ s := by
  simp at hρ
  unfold ostcSymbol
  split <;> simp [hρ]

@[simp] theorem kept_sendRelay (c : Carrier) (m : Msg) (s : Device) (hρ : ρ ∉ parts [.stack]) :
    Kept ρ s₀ (sendRelay c m s) ↔ Kept ρ s₀ s := by
  simp at hρ
  simp [sendRelay, hρ]

@[simp] theorem kept_queueRx (c : Carrier) (x : RxMsg) (s : Device) (hρ : ρ ∉ parts [.ostc]) :
    Kept ρ s₀ (queueRx c x s) ↔ Kept ρ s₀ s := by
  simp at hρ
  simp [queueRx, hρ]

@[simp] theorem kept_deliverMsg (c : Carrier) (nso : Bool) (m : Msg) (tagOk : Bool) (snr : Nat) (mark : Time) (s : Device)
    (hρ : ρ ∉ parts [.crypto, .kme, .ostc, .stack]) :
    Kept ρ s₀ (deliverMsg c nso m tagOk snr mark s) ↔ Kept ρ s₀ s := by
  simp at hρ
  unfold deliverMsg
  dsimp only
  (repeat' split) <;> simp [hρ]

@[simp] theorem kept_enterSearch (c : Carrier) (s : Device) (hρ : ρ ∉ parts [.ostc]) :
    Kept ρ s₀ (enterSearch c s) ↔ Kept ρ s₀ s := by
  simp at hρ
  simp [enterSearch, hρ]

@[simp] theorem kept_ostcTrigger (c : Carrier) (s : Device) (hρ : ρ ∉ parts [.ostc]) :
    Kept ρ s₀ (ostcTrigger c s) ↔ Kept ρ s₀ s := by
  simp at hρ
  simp [ostcTrigger, hρ]

@[simp] theorem kept_ostcQualify (c : Carrier) (levelQ : Int) (snr : Nat) (s : Device) (hρ : ρ ∉ parts [.ostc]) :
    Kept ρ s₀ (ostcQualify c levelQ snr s) ↔ Kept ρ s₀ s := by
  simp at hρ
  simp [ostcQualify, hρ]

@[simp] theorem kept_ostcQualTimeout (c : Carrier) (s : Device) (hρ : ρ ∉ parts [.ostc]) :
    Kept ρ s₀ (ostcQualTimeout c s) ↔ Kept ρ s₀ s := by
  simp at hρ
  unfold ostcQualTimeout
  split <;> simp [hρ]

@[simp] theorem kept_ostcFalseStart (c : Carrier) (s : Device) (hρ : ρ ∉ parts [.ostc]) :
    Kept ρ s₀ (ostcFalseStart c s) ↔ Kept ρ s₀ s := by
  simp at hρ
  simp [ostcFalseStart, hρ]

@[simp] theorem kept_ostcSyncFound (c : Carrier) (mark : Time) (s : Device) (hρ : ρ ∉ parts [.ostc]) :
    Kept ρ s₀ (ostcSyncFound c mark s) ↔ Kept ρ s₀ s := by
  simp at hρ
  simp [ostcSyncFound, hρ]

@[simp] theorem kept_ostcBurstReceived (c : Carrier) (res : BurstResult) (s : Device)
    (hρ : ρ ∉ parts [.crypto, .kme, .ostc, .stack]) :
    Kept ρ s₀ (ostcBurstReceived c res s) ↔ Kept ρ s₀ s := by
  simp at hρ
  unfold ostcBurstReceived
  split <;> simp [hρ]

@[simp] theorem kept_loadFrag (c : Carrier) (k : Nat) (s : Device) (hρ : ρ ∉ parts [.kme, .ostc, .fresh]) :
    Kept ρ s₀ (loadFrag c k s) ↔ Kept ρ s₀ s := by
  simp at hρ
  unfold loadFrag
  dsimp only
  (repeat' split) <;> simp [hρ]

@[simp] theorem kept_mgmtField (c : Carrier) (s : Device) (hρ : ρ ∉ parts [.kme, .ostc, .fresh]) :
    Kept ρ s₀ (mgmtField c s).2 ↔ Kept ρ s₀ s := by
  simp at hρ
  simp [mgmtField, hρ]

@[simp] theorem kept_fragLost (c : Carrier) (k : Nat) (s : Device) (hρ : ρ ∉ parts [.ostc]) :
    Kept ρ s₀ (fragLost c k s) ↔ Kept ρ s₀ s := by
  simp at hρ
  simp [fragLost, hρ]

@[simp] theorem kept_fragInvalid (c : Carrier) (s : Device) (hρ : ρ ∉ parts [.ostc]) :
    Kept ρ s₀ (fragInvalid c s) ↔ Kept ρ s₀ s := by
  simp at hρ
  simp [fragInvalid, hρ]

@[simp] theorem kept_fragIn (c : Carrier) (k : Nat) (b : List Byte) (tagOk : Bool) (s : Device)
    (hρ : ρ ∉ parts [.crypto, .kme, .ostc, .stack]) :
    Kept ρ s₀ (fragIn c k b tagOk s) ↔ Kept ρ s₀ s := by
  simp at hρ
  simp [fragIn, hρ]

@[simp] theorem kept_ostcControlTick (c : Carrier) (floor : Option Int) (s : Device)
    (hρ : ρ ∉ parts [.ostc, .fresh]) :
    Kept ρ s₀ (ostcControlTick c floor s) ↔ Kept ρ s₀ s := by
  simp at hρ
  simp [ostcControlTick, hρ]

@[simp] theorem kept_ostcSlowTick (c : Carrier) (s : Device) (hρ : ρ ∉ parts [.ostc, .evq]) :
    Kept ρ s₀ (ostcSlowTick c s) ↔ Kept ρ s₀ s := by
  simp at hρ
  simp [ostcSlowTick, hρ]

@[simp] theorem kept_act_ostcConfigCmd (r : Req) (s : Device) (hρ : ρ ∉ parts [.settings, .pendSet]) :
    Kept ρ s₀ (ostcConfigCmd.act r s).2 ↔ Kept ρ s₀ s := by
  simp at hρ
  simp [ostcConfigCmd, hρ]

@[simp] theorem kept_act_ostcSendCmd (r : Req) (s : Device) (hρ : ρ ∉ parts [.ostc]) :
    Kept ρ s₀ (ostcSendCmd.act r s).2 ↔ Kept ρ s₀ s := by
  simp at hρ
  simp [ostcSendCmd, hρ]

@[simp] theorem kept_act_ostcRecvCmd (r : Req) (s : Device) (hρ : ρ ∉ parts [.ostc]) :
    Kept ρ s₀ (ostcRecvCmd.act r s).2 ↔ Kept ρ s₀ s := by
  simp at hρ
  unfold ostcRecvCmd
  dsimp only
  (repeat' split) <;> simp [hρ]

@[simp] theorem kept_act_ostcStatusCmd (r : Req) (s : Device) :
    Kept ρ s₀ (ostcStatusCmd.act r s).2 ↔ Kept ρ s₀ s := by
  simp [ostcStatusCmd]

@[simp] theorem kept_act_ostcClearCmd (r : Req) (s : Device) (hρ : ρ ∉ parts [.ostc]) :
    Kept ρ s₀ (ostcClearCmd.act r s).2 ↔ Kept ρ s₀ s := by
  simp at hρ
  simp [ostcClearCmd, hρ]

end

end Sys2Proof.Machine

/-!
Frames of the functions of timing, time transfer and the stack bus.
-/
namespace Sys2Proof.Machine
open Sys2Proof
section
variable {ρ : Region} {s₀ : Device}

@[simp] theorem kept_modCand (i : Nat) (f : CandSt → CandSt) (s : Device) (hρ : ρ ∉ parts [.timing]) :
    Kept ρ s₀ (modCand i f s) ↔ Kept ρ s₀ s := by
  simp at hρ
  simp [modCand, hρ]

@[simp] theorem kept_qlArrives (i ql : Nat) (s : Device) (hρ : ρ ∉ parts [.timing]) :
    Kept ρ s₀ (qlArrives i ql s) ↔ Kept ρ s₀ s := by
  simp at hρ
  simp [qlArrives, hρ]

@[simp] theorem kept_setCand (i : Nat) (st : CandState) (cause : Nat) (s : Device) (hρ : ρ ∉ parts [.timing, .evq]) :
    Kept ρ s₀ (setCand i st cause s) ↔ Kept ρ s₀ s := by
  simp at hρ
  simp [setCand, hρ]

@[simp] theorem kept_updateCand (i : Nat) (m : CandMeas) (moved : Bool) (s : Device)
    (hρ : ρ ∉ parts [.timing, .evq]) :
    Kept ρ s₀ (updateCand i m moved s) ↔ Kept ρ s₀ s := by
  simp at hρ
  unfold updateCand
  dsimp only
  (repeat' split) <;> simp [hρ]

@[simp] theorem kept_candidateQualified (i : Fin 13) (s : Device) (hρ : ρ ∉ parts [.timing, .evq]) :
    Kept ρ s₀ (candidateQualified i s) ↔ Kept ρ s₀ s := by
  simp at hρ
  simp [candidateQualified, hρ]

@[simp] theorem kept_candidateReentry (i : Fin 13) (s : Device) (hρ : ρ ∉ parts [.timing, .evq]) :
    Kept ρ s₀ (candidateReentry i s) ↔ Kept ρ s₀ s := by
  simp at hρ
  simp [candidateReentry, hρ]

@[simp] theorem kept_candidateLost (i : Nat) (s : Device) (hρ : ρ ∉ parts [.timing, .evq]) :
    Kept ρ s₀ (candidateLost i s) ↔ Kept ρ s₀ s := by
  simp at hρ
  simp [candidateLost, hρ]

@[simp] theorem kept_candidateActivityLoss (i : Fin 13) (s : Device) (hρ : ρ ∉ parts [.timing, .evq]) :
    Kept ρ s₀ (candidateActivityLoss i s) ↔ Kept ρ s₀ s := by
  simp at hρ
  simp [candidateActivityLoss, hρ]

@[simp] theorem kept_ttxCandidateStale (c : Carrier) (s : Device) (hρ : ρ ∉ parts [.timing, .evq]) :
    Kept ρ s₀ (ttxCandidateStale c s) ↔ Kept ρ s₀ s := by
  simp at hρ
  unfold ttxCandidateStale
  split <;> simp [hρ]

@[simp] theorem kept_receivedQlStale (i : Fin 13) (s : Device) (hρ : ρ ∉ parts [.timing]) :
    Kept ρ s₀ (receivedQlStale i s) ↔ Kept ρ s₀ s := by
  simp at hρ
  unfold receivedQlStale
  split <;> simp [hρ]

@[simp] theorem kept_judgeSnap (age : Int) (snap : SillageSnap) (s : Device)
    (hρ : ρ ∉ parts [.timing, .settings, .pendSet]) :
    Kept ρ s₀ (judgeSnap age snap s) ↔ Kept ρ s₀ s := by
  simp at hρ
  simp [judgeSnap, hρ]

@[simp] theorem kept_sillageRestore (s : Device) (hρ : ρ ∉ parts [.timing, .settings, .pendSet]) :
    Kept ρ s₀ (sillageRestore s) ↔ Kept ρ s₀ s := by
  simp at hρ
  unfold sillageRestore
  dsimp only
  (repeat' split) <;> simp [hρ]

@[simp] theorem kept_secondsKnown (s : Device) (hρ : ρ ∉ parts [.timing, .settings, .pendSet]) :
    Kept ρ s₀ (secondsKnown s) ↔ Kept ρ s₀ s := by
  simp at hρ
  unfold secondsKnown
  dsimp only
  (repeat' split) <;> simp [hρ]

@[simp] theorem kept_saveSillage (ok : Bool) (s : Device)
    (hρ : ρ ∉ parts [.crypto, .kme, .mem, .stack, .clock, .fault, .boot]) :
    Kept ρ s₀ (saveSillage ok s) ↔ Kept ρ s₀ s := by
  simp at hρ
  simp [saveSillage, hρ]

@[simp] theorem kept_sillageSnapshot (ok : Bool) (s : Device)
    (hρ : ρ ∉ parts [.crypto, .kme, .timing, .mem, .stack, .clock, .fault, .boot]) :
    Kept ρ s₀ (sillageSnapshot ok s) ↔ Kept ρ s₀ s := by
  simp at hρ
  simp [sillageSnapshot, hρ]

@[simp] theorem kept_sillageFit (m : SillageModel) (s : Device) (hρ : ρ ∉ parts [.timing]) :
    Kept ρ s₀ (sillageFit m s) ↔ Kept ρ s₀ s := by
  simp at hρ
  simp [sillageFit, hρ]

@[simp] theorem kept_setDpll (st : DpllState) (cause : Nat) (s : Device)
    (hρ : ρ ∉ parts [.crypto, .kme, .timing, .mem, .stack, .clock, .fault, .evq]) :
    Kept ρ s₀ (setDpll st cause s) ↔ Kept ρ s₀ s := by
  simp at hρ
  simp [setDpll, hρ]

@[simp] theorem kept_enterAcquiring (s : Device)
    (hρ : ρ ∉ parts [.crypto, .kme, .timing, .mem, .stack, .clock, .fault, .evq]) :
    Kept ρ s₀ (enterAcquiring s) ↔ Kept ρ s₀ s := by
  simp at hρ
  simp [enterAcquiring, hρ]

@[simp] theorem kept_dpllLockTime (s : Device)
    (hρ : ρ ∉ parts [.crypto, .kme, .timing, .mem, .stack, .clock, .fault, .evq]) :
    Kept ρ s₀ (dpllLockTime s) ↔ Kept ρ s₀ s := by
  simp at hρ
  simp [dpllLockTime, hρ]

@[simp] theorem kept_fastLockDwell (s : Device) (hρ : ρ ∉ parts [.timing]) :
    Kept ρ s₀ (fastLockDwell s) ↔ Kept ρ s₀ s := by
  simp at hρ
  simp [fastLockDwell, hρ]

@[simp] theorem kept_switchTo (i : Nat) (s : Device)
    (hρ : ρ ∉ parts [.crypto, .kme, .timing, .mem, .stack, .clock, .fault, .evq]) :
    Kept ρ s₀ (switchTo i s) ↔ Kept ρ s₀ s := by
  simp at hρ
  simp [switchTo, hρ]

@[simp] theorem kept_selectNone (forcedHo : Bool) (s : Device)
    (hρ : ρ ∉ parts [.crypto, .kme, .timing, .mem, .stack, .clock, .fault, .evq]) :
    Kept ρ s₀ (selectNone forcedHo s) ↔ Kept ρ s₀ s := by
  simp at hρ
  unfold selectNone
  dsimp only
  (repeat' split) <;> simp [hρ]

@[simp] theorem kept_excludeOutvoted (s : Device) (hρ : ρ ∉ parts [.timing, .evq]) :
    Kept ρ s₀ (excludeOutvoted s).2 ↔ Kept ρ s₀ s := by
  simp at hρ
  unfold excludeOutvoted
  dsimp only
  (repeat' split) <;> simp [hρ]

@[simp] theorem kept_countAgreement (i : Nat) (s : Device) (hρ : ρ ∉ parts [.timing]) :
    Kept ρ s₀ (countAgreement i s) ↔ Kept ρ s₀ s := by
  simp at hρ
  simp [countAgreement, hρ]

@[simp] theorem kept_applyDisagreement (s : Device)
    (hρ : ρ ∉ parts [.crypto, .kme, .timing, .mem, .stack, .clock, .fault, .evq]) :
    Kept ρ s₀ (applyDisagreement s) ↔ Kept ρ s₀ s := by
  simp at hρ
  simp [applyDisagreement, hρ]

@[simp] theorem kept_updateOuts (s : Device) (hρ : ρ ∉ parts [.timing]) :
    Kept ρ s₀ (updateOuts s) ↔ Kept ρ s₀ s := by
  simp at hρ
  simp [updateOuts, hρ]

@[simp] theorem kept_ppsPulse (i : Nat) (before : Time) (s : Device) (hρ : ρ ∉ parts [.timing]) :
    Kept ρ s₀ (ppsPulse i before s) ↔ Kept ρ s₀ s := by
  simp at hρ
  simp [ppsPulse, hρ]

@[simp] theorem kept_advanceTime (d : Nat) (s : Device) (hρ : ρ ∉ parts [.timing]) :
    Kept ρ s₀ (advanceTime d s) ↔ Kept ρ s₀ s := by
  simp at hρ
  simp [advanceTime, hρ]

@[simp] theorem kept_noteTiming (m : TimingMeas) (s : Device) (hρ : ρ ∉ parts [.timing]) :
    Kept ρ s₀ (noteTiming m s) ↔ Kept ρ s₀ s := by
  simp at hρ
  simp [noteTiming, hρ]

@[simp] theorem kept_timingSlowTick (m : TimingMeas) (moved : List Nat) (s : Device)
    (hρ : ρ ∉ parts [.crypto, .kme, .timing, .mem, .stack, .clock, .fault, .evq]) :
    Kept ρ s₀ (timingSlowTick m moved s) ↔ Kept ρ s₀ s := by
  simp at hρ
  unfold timingSlowTick
  dsimp only
  (repeat' split) <;> simp [hρ]

@[simp] theorem kept_holdoverBounds (s : Device)
    (hρ : ρ ∉ parts [.crypto, .kme, .timing, .mem, .stack, .clock, .fault, .evq]) :
    Kept ρ s₀ (holdoverBounds s) ↔ Kept ρ s₀ s := by
  simp at hρ
  simp [holdoverBounds, hρ]

@[simp] theorem kept_sillageRecord (m : SillageMeas) (s : Device) (hρ : ρ ∉ parts [.timing]) :
    Kept ρ s₀ (sillageRecord m s) ↔ Kept ρ s₀ s := by
  simp at hρ
  simp [sillageRecord, hρ]

@[simp] theorem kept_timeJump (s : Device) (hρ : ρ ∉ parts [.timing, .settings, .pendSet, .evq]) :
    Kept ρ s₀ (timeJump s) ↔ Kept ρ s₀ s := by
  simp at hρ
  simp [timeJump, hρ]

@[simp] theorem kept_timingEpoch (m : SillageMeas) (s : Device)
    (hρ : ρ ∉ parts [.crypto, .kme, .timing, .mem, .stack, .clock, .fault, .settings, .pendSet, .evq]) :
    Kept ρ s₀ (timingEpoch m s) ↔ Kept ρ s₀ s := by
  simp at hρ
  simp [timingEpoch, hρ]

@[simp] theorem kept_timeSetApply (s : Device) (hρ : ρ ∉ parts [.timing, .settings, .pendSet]) :
    Kept ρ s₀ (timeSetApply s) ↔ Kept ρ s₀ s := by
  simp at hρ
  unfold timeSetApply
  split <;> simp [hρ]

@[simp] theorem kept_oscReadyRise (s : Device) (hρ : ρ ∉ parts [.timing, .fault]) :
    Kept ρ s₀ (oscReadyRise s) ↔ Kept ρ s₀ s := by
  simp at hρ
  simp [oscReadyRise, hρ]

@[simp] theorem kept_oscReadyFall (s : Device)
    (hρ : ρ ∉ parts [.crypto, .kme, .timing, .mem, .stack, .clock, .fault, .evq]) :
    Kept ρ s₀ (oscReadyFall s) ↔ Kept ρ s₀ s := by
  simp at hρ
  unfold oscReadyFall
  dsimp only
  (repeat' split) <;> simp [hρ]

@[simp] theorem kept_oscTempStale (s : Device) (hρ : ρ ∉ parts [.timing, .evq]) :
    Kept ρ s₀ (oscTempStale s) ↔ Kept ρ s₀ s := by
  simp at hρ
  simp [oscTempStale, hρ]

@[simp] theorem kept_act_timingRefConfigCmd (r : Req) (s : Device) (hρ : ρ ∉ parts [.settings, .pendSet]) :
    Kept ρ s₀ (timingRefConfigCmd.act r s).2 ↔ Kept ρ s₀ s := by
  simp at hρ
  simp [timingRefConfigCmd, hρ]

@[simp] theorem kept_act_timingSelConfigCmd (r : Req) (s : Device) (hρ : ρ ∉ parts [.settings, .pendSet]) :
    Kept ρ s₀ (timingSelConfigCmd.act r s).2 ↔ Kept ρ s₀ s := by
  simp at hρ
  simp [timingSelConfigCmd, hρ]

@[simp] theorem kept_act_timingDpllConfigCmd (r : Req) (s : Device) (hρ : ρ ∉ parts [.settings, .pendSet]) :
    Kept ρ s₀ (timingDpllConfigCmd.act r s).2 ↔ Kept ρ s₀ s := by
  simp at hρ
  simp [timingDpllConfigCmd, hρ]

@[simp] theorem kept_act_timingClearCmd (r : Req) (s : Device) (hρ : ρ ∉ parts [.timing]) :
    Kept ρ s₀ (timingClearCmd.act r s).2 ↔ Kept ρ s₀ s := by
  simp at hρ
  simp [timingClearCmd, hρ]

@[simp] theorem kept_act_timingForceCmd (r : Req) (s : Device) (hρ : ρ ∉ parts [.timing]) :
    Kept ρ s₀ (timingForceCmd.act r s).2 ↔ Kept ρ s₀ s := by
  simp at hρ
  simp [timingForceCmd, hρ]

@[simp] theorem kept_act_timingHoldoverCmd (r : Req) (s : Device) (hρ : ρ ∉ parts [.timing]) :
    Kept ρ s₀ (timingHoldoverCmd.act r s).2 ↔ Kept ρ s₀ s := by
  simp at hρ
  simp [timingHoldoverCmd, hρ]

@[simp] theorem kept_act_clearWtrCmd (r : Req) (s : Device) (hρ : ρ ∉ parts [.timing]) :
    Kept ρ s₀ (clearWtrCmd.act r s).2 ↔ Kept ρ s₀ s := by
  simp at hρ
  simp [clearWtrCmd, hρ]

@[simp] theorem kept_act_sillageSaveCmd (r : Req) (s : Device)
    (hρ : ρ ∉ parts [.crypto, .kme, .mem, .stack, .clock, .fault, .boot]) :
    Kept ρ s₀ (sillageSaveCmd.act r s).2 ↔ Kept ρ s₀ s := by
  simp at hρ
  simp [sillageSaveCmd, hρ]

@[simp] theorem kept_act_sillageResetCmd (r : Req) (s : Device) (hρ : ρ ∉ parts [.timing, .boot]) :
    Kept ρ s₀ (sillageResetCmd.act r s).2 ↔ Kept ρ s₀ s := by
  simp at hρ
  simp [sillageResetCmd, hρ]

@[simp] theorem kept_act_oscTempCmd (r : Req) (s : Device) (hρ : ρ ∉ parts [.timing]) :
    Kept ρ s₀ (oscTempCmd.act r s).2 ↔ Kept ρ s₀ s := by
  simp at hρ
  simp [oscTempCmd, hρ]

@[simp] theorem kept_act_timingStatusCmd (r : Req) (s : Device) :
    Kept ρ s₀ (timingStatusCmd.act r s).2 ↔ Kept ρ s₀ s := by
  simp [timingStatusCmd]

@[simp] theorem kept_act_timingRefStatusCmd (r : Req) (s : Device) :
    Kept ρ s₀ (timingRefStatusCmd.act r s).2 ↔ Kept ρ s₀ s := by
  simp [timingRefStatusCmd]

@[simp] theorem kept_act_timingOutConfigCmd (r : Req) (s : Device) (hρ : ρ ∉ parts [.timing, .settings, .pendSet]) :
    Kept ρ s₀ (timingOutConfigCmd.act r s).2 ↔ Kept ρ s₀ s := by
  simp at hρ
  simp [timingOutConfigCmd, hρ]

@[simp] theorem kept_act_sillageReadCmd (r : Req) (s : Device) :
    Kept ρ s₀ (sillageReadCmd.act r s).2 ↔ Kept ρ s₀ s := by
  simp [sillageReadCmd]

@[simp] theorem kept_delaySlowTick (c : Carrier) (s : Device) (hρ : ρ ∉ parts [.ttx]) :
    Kept ρ s₀ (delaySlowTick c s) ↔ Kept ρ s₀ s := by
  simp at hρ
  simp [delaySlowTick, hρ]

@[simp] theorem kept_stampTx (c : Carrier) (x : Nat) (t : Int) (s : Device) (hρ : ρ ∉ parts [.ttx]) :
    Kept ρ s₀ (stampTx c x t s) ↔ Kept ρ s₀ s := by
  simp at hρ
  simp [stampTx, hρ]

@[simp] theorem kept_stampRx (c : Carrier) (x : Nat) (t : Int) (s : Device) (hρ : ρ ∉ parts [.ttx]) :
    Kept ρ s₀ (stampRx c x t s) ↔ Kept ρ s₀ s := by
  simp at hρ
  simp [stampRx, hρ]

@[simp] theorem kept_ttxField (c : Carrier) (x : Nat) (s : Device) (hρ : ρ ∉ parts [.kme, .fresh]) :
    Kept ρ s₀ (ttxField c x s).2 ↔ Kept ρ s₀ s := by
  simp at hρ
  unfold ttxField
  dsimp only
  (repeat' split) <;> simp [hρ]

@[simp] theorem kept_ttxNoteMark (c : Carrier) (s : Device) (hρ : ρ ∉ parts [.ttx]) :
    Kept ρ s₀ (ttxNoteMark c s) ↔ Kept ρ s₀ s := by
  simp at hρ
  unfold ttxNoteMark
  split <;> simp [hρ]

@[simp] theorem kept_updatePath (c : Carrier) (s : Device) (hρ : ρ ∉ parts [.ttx, .evq]) :
    Kept ρ s₀ (updatePath c s) ↔ Kept ρ s₀ s := by
  simp at hρ
  simp [updatePath, hρ]

@[simp] theorem kept_evalServo (c : Carrier) (s : Device)
    (hρ : ρ ∉ parts [.crypto, .kme, .ttx, .mem, .stack, .clock, .fault]) :
    Kept ρ s₀ (evalServo c s) ↔ Kept ρ s₀ s := by
  simp at hρ
  simp [evalServo, hρ]

@[simp] theorem kept_recDiscard (c : Carrier) (n : Nat) (s : Device) (hρ : ρ ∉ parts [.ttx]) :
    Kept ρ s₀ (recDiscard c n s) ↔ Kept ρ s₀ s := by
  simp at hρ
  simp [recDiscard, hρ]

@[simp] theorem kept_ttxRecordReceived (c : Carrier) (i : TtxIn) (s : Device)
    (hρ : ρ ∉ parts [.crypto, .kme, .timing, .ttx, .mem, .stack, .clock, .fault]) :
    Kept ρ s₀ (ttxRecordReceived c i s) ↔ Kept ρ s₀ s := by
  simp at hρ
  unfold ttxRecordReceived
  dsimp only
  (repeat' split) <;> simp [hρ]

@[simp] theorem kept_exchangeSettings (c : Carrier) (s : Device)
    (hρ : ρ ∉ parts [.crypto, .kme, .ttx, .mem, .stack, .clock, .fault, .pendSet, .evq]) :
    Kept ρ s₀ (exchangeSettings c s) ↔ Kept ρ s₀ s := by
  simp at hρ
  simp [exchangeSettings, hρ]

@[simp] theorem kept_lambdaCheck (c : Carrier) (s : Device)
    (hρ : ρ ∉ parts [.crypto, .kme, .ttx, .mem, .stack, .clock, .fault]) :
    Kept ρ s₀ (lambdaCheck c s) ↔ Kept ρ s₀ s := by
  simp at hρ
  simp [lambdaCheck, hρ]

@[simp] theorem kept_takeTheta (c : Carrier) (theta raw delay : Int) (s : Device)
    (hρ : ρ ∉ parts [.crypto, .kme, .ttx, .mem, .stack, .clock, .fault]) :
    Kept ρ s₀ (takeTheta c theta raw delay s) ↔ Kept ρ s₀ s := by
  simp at hρ
  simp [takeTheta, hρ]

@[simp] theorem kept_queueTtx (c : Carrier) (s : Device) (hρ : ρ ∉ parts [.ostc, .ttx]) :
    Kept ρ s₀ (queueTtx c s) ↔ Kept ρ s₀ s := by
  simp at hρ
  simp [queueTtx, hρ]

@[simp] theorem kept_ttxExchange (c : Carrier) (s : Device)
    (hρ : ρ ∉ parts [.crypto, .kme, .ostc, .ttx, .mem, .stack, .clock, .fault, .pendSet, .evq]) :
    Kept ρ s₀ (ttxExchange c s) ↔ Kept ρ s₀ s := by
  simp at hρ
  simp [ttxExchange, hρ]

@[simp] theorem kept_ttxSlowTick (c : Carrier) (s : Device)
    (hρ : ρ ∉ parts [.crypto, .kme, .ttx, .mem, .stack, .clock, .fault]) :
    Kept ρ s₀ (ttxSlowTick c s) ↔ Kept ρ s₀ s := by
  simp at hρ
  simp [ttxSlowTick, hρ]

@[simp] theorem kept_ttxEpoch (c : Carrier) (s : Device) (hρ : ρ ∉ parts [.ttx]) :
    Kept ρ s₀ (ttxEpoch c s) ↔ Kept ρ s₀ s := by
  simp at hρ
  simp [ttxEpoch, hρ]

@[simp] theorem kept_ptpEventFrame (i : PtpIn) (s : Device) (hρ : ρ ∉ parts [.evq]) :
    Kept ρ s₀ (ptpEventFrame i s) ↔ Kept ρ s₀ s := by
  simp at hρ
  simp [ptpEventFrame, hρ]

@[simp] theorem kept_ptpSlowTick (s : Device)
    (hρ : ρ ∉ parts [.crypto, .kme, .timing, .mem, .stack, .clock, .fault]) :
    Kept ρ s₀ (ptpSlowTick s) ↔ Kept ρ s₀ s := by
  simp at hρ
  simp [ptpSlowTick, hρ]

@[simp] theorem kept_act_ttxConfigCmd (r : Req) (s : Device) (hρ : ρ ∉ parts [.settings, .pendSet]) :
    Kept ρ s₀ (ttxConfigCmd.act r s).2 ↔ Kept ρ s₀ s := by
  simp at hρ
  simp [ttxConfigCmd, hρ]

@[simp] theorem kept_act_ttxCalSetCmd (r : Req) (s : Device) (hρ : ρ ∉ parts [.ttx, .settings, .pendSet]) :
    Kept ρ s₀ (ttxCalSetCmd.act r s).2 ↔ Kept ρ s₀ s := by
  simp at hρ
  simp [ttxCalSetCmd, hρ]

@[simp] theorem kept_act_ttxStatusCmd (r : Req) (s : Device) :
    Kept ρ s₀ (ttxStatusCmd.act r s).2 ↔ Kept ρ s₀ s := by
  simp [ttxStatusCmd]

@[simp] theorem kept_act_ttxDelayReadCmd (r : Req) (s : Device) :
    Kept ρ s₀ (ttxDelayReadCmd.act r s).2 ↔ Kept ρ s₀ s := by
  simp [ttxDelayReadCmd]

@[simp] theorem kept_act_ttxTimeSetCmd (r : Req) (s : Device) (hρ : ρ ∉ parts [.timing]) :
    Kept ρ s₀ (ttxTimeSetCmd.act r s).2 ↔ Kept ρ s₀ s := by
  simp at hρ
  simp [ttxTimeSetCmd, hρ]

@[simp] theorem kept_act_ptpPortConfigCmd (r : Req) (s : Device) (hρ : ρ ∉ parts [.settings, .pendSet]) :
    Kept ρ s₀ (ptpPortConfigCmd.act r s).2 ↔ Kept ρ s₀ s := by
  simp at hρ
  simp [ptpPortConfigCmd, hρ]

end

end Sys2Proof.Machine

/-!
Frames of the functions of the stack bus, events and clocks.
-/
namespace Sys2Proof.Machine
open Sys2Proof
section
variable {ρ : Region} {s₀ : Device}

@[simp] theorem kept_sbAdapt (p : Nat) (s : Device) (hρ : ρ ∉ parts [.stack]) :
    Kept ρ s₀ (sbAdapt p s) ↔ Kept ρ s₀ s := by
  simp at hρ
  simp [sbAdapt, hρ]

@[simp] theorem kept_sbOff (p : Nat) (s : Device) (hρ : ρ ∉ parts [.stack]) :
    Kept ρ s₀ (sbOff p s) ↔ Kept ρ s₀ s := by
  simp at hρ
  simp [sbOff, hρ]

@[simp] theorem kept_sbReset (p : Nat) (s : Device) (hρ : ρ ∉ parts [.stack]) :
    Kept ρ s₀ (sbReset p s) ↔ Kept ρ s₀ s := by
  simp at hρ
  simp [sbReset, hρ]

@[simp] theorem kept_stackPortAlign (p : Fin 4) (s : Device) (hρ : ρ ∉ parts [.stack]) :
    Kept ρ s₀ (stackPortAlign p s) ↔ Kept ρ s₀ s := by
  simp at hρ
  simp [stackPortAlign, hρ]

@[simp] theorem kept_stackPortUp (p : Fin 4) (intDelay : Nat) (s : Device) (hρ : ρ ∉ parts [.stack]) :
    Kept ρ s₀ (stackPortUp p intDelay s) ↔ Kept ρ s₀ s := by
  simp at hρ
  simp [stackPortUp, hρ]

@[simp] theorem kept_stackAdaptRestart (p : Fin 4) (s : Device) (hρ : ρ ∉ parts [.stack]) :
    Kept ρ s₀ (stackAdaptRestart p s) ↔ Kept ρ s₀ s := by
  simp at hρ
  simp [stackAdaptRestart, hρ]

@[simp] theorem kept_setRole (a : Acting) (s : Device) (hρ : ρ ∉ parts [.stack]) :
    Kept ρ s₀ (setRole a s) ↔ Kept ρ s₀ s := by
  simp at hρ
  simp [setRole, hρ]

@[simp] theorem kept_changeRole (a : Acting) (cause : Nat) (s : Device) (hρ : ρ ∉ parts [.stack, .evq]) :
    Kept ρ s₀ (changeRole a cause s) ↔ Kept ρ s₀ s := by
  simp at hρ
  simp [changeRole, hρ]

@[simp] theorem kept_takeMaster (s : Device) (hρ : ρ ∉ parts [.stack]) :
    Kept ρ s₀ (takeMaster s) ↔ Kept ρ s₀ s := by
  simp at hρ
  simp [takeMaster, hρ]

@[simp] theorem kept_followMaster (m : Option Nat) (s : Device) (hρ : ρ ∉ parts [.stack]) :
    Kept ρ s₀ (followMaster m s) ↔ Kept ρ s₀ s := by
  simp at hρ
  simp [followMaster, hρ]

@[simp] theorem kept_roleConflict (m : Nat) (s : Device)
    (hρ : ρ ∉ parts [.crypto, .kme, .mem, .stack, .clock, .fault, .evq]) :
    Kept ρ s₀ (roleConflict m s) ↔ Kept ρ s₀ s := by
  simp at hρ
  simp [roleConflict, hρ]

@[simp] theorem kept_stackMasterListenEnd (s : Device) (hρ : ρ ∉ parts [.stack]) :
    Kept ρ s₀ (stackMasterListenEnd s) ↔ Kept ρ s₀ s := by
  simp at hρ
  simp [stackMasterListenEnd, hρ]

@[simp] theorem kept_stackTakeover (s : Device) (hρ : ρ ∉ parts [.crypto, .kme, .mem, .stack, .clock, .fault, .evq]) :
    Kept ρ s₀ (stackTakeover s) ↔ Kept ρ s₀ s := by
  simp at hρ
  simp [stackTakeover, hρ]

@[simp] theorem kept_stackHandoverInstant (s : Device) (hρ : ρ ∉ parts [.stack, .fault, .evq]) :
    Kept ρ s₀ (stackHandoverInstant s) ↔ Kept ρ s₀ s := by
  simp at hρ
  unfold stackHandoverInstant
  split <;> simp [hρ]

@[simp] theorem kept_stackUpstreamChange (s : Device) (hρ : ρ ∉ parts [.stack]) :
    Kept ρ s₀ (stackUpstreamChange s) ↔ Kept ρ s₀ s := by
  simp at hρ
  unfold stackUpstreamChange
  dsimp only
  (repeat' split) <;> simp [hρ]

@[simp] theorem kept_stackTimeValid (s : Device) (hρ : ρ ∉ parts [.stack, .fault]) :
    Kept ρ s₀ (stackTimeValid s) ↔ Kept ρ s₀ s := by
  simp at hρ
  simp [stackTimeValid, hρ]

@[simp] theorem kept_stackMasterLost (s : Device) (hρ : ρ ∉ parts [.crypto, .kme, .mem, .stack, .clock, .fault]) :
    Kept ρ s₀ (stackMasterLost s) ↔ Kept ρ s₀ s := by
  simp at hρ
  simp [stackMasterLost, hρ]

@[simp] theorem kept_sigmaUpdate (s : Device) (hρ : ρ ∉ parts [.stack, .evq]) :
    Kept ρ s₀ (sigmaUpdate s) ↔ Kept ρ s₀ s := by
  simp at hρ
  unfold sigmaUpdate
  dsimp only
  (repeat' split) <;> simp [hρ]

@[simp] theorem kept_sigmaStep (s : Device) (hρ : ρ ∉ parts [.stack]) :
    Kept ρ s₀ (sigmaStep s) ↔ Kept ρ s₀ s := by
  simp at hρ
  simp [sigmaStep, hρ]

@[simp] theorem kept_noteMaster (p : Nat) (w : TimeWord) (s : Device)
    (hρ : ρ ∉ parts [.crypto, .kme, .mem, .stack, .clock, .fault, .evq]) :
    Kept ρ s₀ (noteMaster p w s) ↔ Kept ρ s₀ s := by
  simp at hρ
  unfold noteMaster
  dsimp only
  (repeat' split) <;> simp [hρ]

@[simp] theorem kept_exchangeStamps (p : Nat) (w : TimeWord) (t4 : Int) (s : Device) (hρ : ρ ∉ parts [.stack]) :
    Kept ρ s₀ (exchangeStamps p w t4 s) ↔ Kept ρ s₀ s := by
  simp at hρ
  simp [exchangeStamps, hρ]

@[simp] theorem kept_actWord (p : Nat) (w : TimeWord) (s : Device) (hρ : ρ ∉ parts [.timing, .stack]) :
    Kept ρ s₀ (actWord p w s) ↔ Kept ρ s₀ s := by
  simp at hρ
  simp [actWord, hρ]

@[simp] theorem kept_takeRec (p : Nat) (x : GrpRecItem) (s : Device) (hρ : ρ ∉ parts [.stack]) :
    Kept ρ s₀ (takeRec p x s) ↔ Kept ρ s₀ s := by
  unfold takeRec
  split
  · rfl
  split
  · rfl
  next t noted =>
    simp at hρ
    have seen := kept_noteSeen (ρ := ρ) (s₀ := s₀) (by simp [hρ]) noted
    simp [seen, hρ]

@[simp] theorem kept_takeState (p : Nat) (x : GrpStateItem) (s : Device) (hρ : ρ ∉ parts [.stack]) :
    Kept ρ s₀ (takeState p x s) ↔ Kept ρ s₀ s := by
  simp at hρ
  simp [takeState, hρ]

@[simp] theorem kept_takeTrig (p : Nat) (x : TrigItem) (s : Device) (hρ : ρ ∉ parts [.mem, .stack]) :
    Kept ρ s₀ (takeTrig p x s) ↔ Kept ρ s₀ s := by
  unfold takeTrig
  split
  · rfl
  split
  · rfl
  next t noted =>
    simp at hρ
    have seen := kept_noteSeen (ρ := ρ) (s₀ := s₀) (by simp [hρ]) noted
    simp [seen, hρ]

@[simp] theorem kept_takeRelay (p : Nat) (x : RelayItem) (s : Device) (hρ : ρ ∉ parts [.ostc, .stack]) :
    Kept ρ s₀ (takeRelay p x s) ↔ Kept ρ s₀ s := by
  unfold takeRelay
  split
  · rfl
  split
  · rfl
  next t noted =>
    simp at hρ
    have seen := kept_noteSeen (ρ := ρ) (s₀ := s₀) (by simp [hρ]) noted
    simp [seen, hρ]

@[simp] theorem kept_takeMsg (p : Nat) (x : SbMsg) (s : Device) (hρ : ρ ∉ parts [.stack]) :
    Kept ρ s₀ (takeMsg p x s) ↔ Kept ρ s₀ s := by
  unfold takeMsg
  split
  · rfl
  split
  · rfl
  next t noted =>
    simp at hρ
    have seen := kept_noteSeen (ρ := ρ) (s₀ := s₀) (by simp [hρ]) noted
    simp [seen, hρ]

@[simp] theorem kept_actFrame (f : StackFrame) (s : Device)
    (hρ : ρ ∉ parts [.crypto, .kme, .ostc, .timing, .mem, .stack, .clock, .fault, .evq]) :
    Kept ρ s₀ (actFrame f s) ↔ Kept ρ s₀ s := by
  simp at hρ
  unfold actFrame
  split <;> simp [hρ]

@[simp] theorem kept_stackFrameReceived (f : StackFrame) (s : Device)
    (hρ : ρ ∉ parts [.crypto, .kme, .ostc, .timing, .mem, .stack, .clock, .fault, .evq]) :
    Kept ρ s₀ (stackFrameReceived f s) ↔ Kept ρ s₀ s := by
  simp at hρ
  unfold stackFrameReceived
  dsimp only
  (repeat' split) <;> simp [hρ]

@[simp] theorem kept_sendFrame (p : Nat) (s : Device) (hρ : ρ ∉ parts [.stack]) :
    Kept ρ s₀ (sendFrame p s) ↔ Kept ρ s₀ s := by
  simp at hρ
  simp [sendFrame, hρ]

@[simp] theorem kept_portTick (p : Nat) (s : Device) (hρ : ρ ∉ parts [.stack]) :
    Kept ρ s₀ (portTick p s) ↔ Kept ρ s₀ s := by
  simp at hρ
  unfold portTick
  dsimp only
  (repeat' split) <;> simp [hρ]

@[simp] theorem kept_stackCounts (s : Device) (hρ : ρ ∉ parts [.stack]) :
    Kept ρ s₀ (stackCounts s) ↔ Kept ρ s₀ s := by
  simp at hρ
  simp [stackCounts, hρ]

@[simp] theorem kept_stackControlTick (s : Device) (hρ : ρ ∉ parts [.stack]) :
    Kept ρ s₀ (stackControlTick s) ↔ Kept ρ s₀ s := by
  simp at hρ
  simp [stackControlTick, hρ]

@[simp] theorem kept_sendGroupState (g : Nat) (s : Device) (hρ : ρ ∉ parts [.stack]) :
    Kept ρ s₀ (sendGroupState g s) ↔ Kept ρ s₀ s := by
  simp at hρ
  simp [sendGroupState, hρ]

@[simp] theorem kept_stackAuth (m : SbMsg) (tagOk : Bool) (s : Device) (hρ : ρ ∉ parts [.crypto, .kme]) :
    Kept ρ s₀ (stackAuth m tagOk s).2 ↔ Kept ρ s₀ s := by
  simp at hρ
  unfold stackAuth
  dsimp only
  (repeat' split) <;> simp [hρ]

@[simp] theorem kept_setMembers (v : BitVec 8) (s : Device) (hρ : ρ ∉ parts [.stack, .evq]) :
    Kept ρ s₀ (setMembers v s) ↔ Kept ρ s₀ s := by
  simp at hρ
  simp [setMembers, hρ]

@[simp] theorem kept_helloSend (s : Device) (hρ : ρ ∉ parts [.kme, .stack]) :
    Kept ρ s₀ (helloSend s) ↔ Kept ρ s₀ s := by
  simp at hρ
  simp [helloSend, hρ]

@[simp] theorem kept_helloReceived (m : SbMsg) (tagOk : Bool) (s : Device)
    (hρ : ρ ∉ parts [.crypto, .kme, .mem, .stack, .clock, .fault, .evq]) :
    Kept ρ s₀ (helloReceived m tagOk s) ↔ Kept ρ s₀ s := by
  simp at hρ
  simp [helloReceived, hρ]

@[simp] theorem kept_memberLeaves (m : Nat) (s : Device) (hρ : ρ ∉ parts [.stack, .evq]) :
    Kept ρ s₀ (memberLeaves m s) ↔ Kept ρ s₀ s := by
  simp at hρ
  simp [memberLeaves, hρ]

@[simp] theorem kept_memberHelloTimeout (m : Fin 8) (s : Device) (hρ : ρ ∉ parts [.stack, .fault, .evq]) :
    Kept ρ s₀ (memberHelloTimeout m s) ↔ Kept ρ s₀ s := by
  simp at hρ
  unfold memberHelloTimeout
  split <;> simp [hρ]

@[simp] theorem kept_proxyResponseReceived (m : SbMsg) (tagOk : Bool) (s : Device)
    (hρ : ρ ∉ parts [.crypto, .kme, .stack, .host]) :
    Kept ρ s₀ (proxyResponseReceived m tagOk s) ↔ Kept ρ s₀ s := by
  simp at hρ
  unfold proxyResponseReceived
  dsimp only
  (repeat' split) <;> simp [hρ]

@[simp] theorem kept_proxyTimeout (m : Fin 8) (s : Device) (hρ : ρ ∉ parts [.kme, .stack, .host]) :
    Kept ρ s₀ (proxyTimeout m s) ↔ Kept ρ s₀ s := by
  simp at hρ
  unfold proxyTimeout
  dsimp only
  (repeat' split) <;> simp [hρ]

@[simp] theorem kept_forwardedEventReceived (m : SbMsg) (tagOk : Bool) (s : Device)
    (hρ : ρ ∉ parts [.crypto, .kme, .stack, .evq]) :
    Kept ρ s₀ (forwardedEventReceived m tagOk s) ↔ Kept ρ s₀ s := by
  simp at hρ
  unfold forwardedEventReceived
  dsimp only
  (repeat' split) <;> simp [hρ]

@[simp] theorem kept_proxyAge (s : Device) (hρ : ρ ∉ parts [.stack]) :
    Kept ρ s₀ (proxyAge s) ↔ Kept ρ s₀ s := by
  simp at hρ
  simp [proxyAge, hρ]

@[simp] theorem kept_stackSlowTick (ms : List PortMeas) (s : Device)
    (hρ : ρ ∉ parts [.crypto, .kme, .mem, .stack, .clock, .fault, .evq]) :
    Kept ρ s₀ (stackSlowTick ms s) ↔ Kept ρ s₀ s := by
  simp at hρ
  simp [stackSlowTick, hρ]

@[simp] theorem kept_act_stackConfigCmd (r : Req) (s : Device) (hρ : ρ ∉ parts [.settings, .pendSet]) :
    Kept ρ s₀ (stackConfigCmd.act r s).2 ↔ Kept ρ s₀ s := by
  simp at hρ
  simp [stackConfigCmd, hρ]

@[simp] theorem kept_act_stackStatusCmd (r : Req) (s : Device) :
    Kept ρ s₀ (stackStatusCmd.act r s).2 ↔ Kept ρ s₀ s := by
  simp [stackStatusCmd]

@[simp] theorem kept_act_stackPortStatusCmd (r : Req) (s : Device) :
    Kept ρ s₀ (stackPortStatusCmd.act r s).2 ↔ Kept ρ s₀ s := by
  simp [stackPortStatusCmd]

@[simp] theorem kept_act_stackHandoverCmd (r : Req) (s : Device) (hρ : ρ ∉ parts [.stack]) :
    Kept ρ s₀ (stackHandoverCmd.act r s).2 ↔ Kept ρ s₀ s := by
  simp at hρ
  simp [stackHandoverCmd, hρ]

@[simp] theorem kept_act_stackClearCmd (r : Req) (s : Device) (hρ : ρ ∉ parts [.stack]) :
    Kept ρ s₀ (stackClearCmd.act r s).2 ↔ Kept ρ s₀ s := by
  simp at hρ
  simp [stackClearCmd, hρ]

@[simp] theorem kept_modRing (k : Nat) (f : RingSt → RingSt) (s : Device) (hρ : ρ ∉ parts [.host]) :
    Kept ρ s₀ (modRing k f s) ↔ Kept ρ s₀ s := by
  simp at hρ
  simp [modRing, hρ]

@[simp] theorem kept_ringMsi (k : Nat) (s : Device) (hρ : ρ ∉ parts [.host]) :
    Kept ρ s₀ (ringMsi k s) ↔ Kept ρ s₀ s := by
  simp at hρ
  simp [ringMsi, hρ]

@[simp] theorem kept_ringWrite (k : Nat) (bytes : List Byte) (s : Device) (hρ : ρ ∉ parts [.host]) :
    Kept ρ s₀ (ringWrite k bytes s) ↔ Kept ρ s₀ s := by
  simp at hρ
  simp [ringWrite, hρ]

@[simp] theorem kept_msixCoalesceExpiry (k : Fin 64) (s : Device) (hρ : ρ ∉ parts [.host]) :
    Kept ρ s₀ (msixCoalesceExpiry k s) ↔ Kept ρ s₀ s := by
  simp at hρ
  simp [msixCoalesceExpiry, hρ]

@[simp] theorem kept_modLoss (d : Dest) (f : LossSt → LossSt) (s : Device) (hρ : ρ ∉ parts [.host]) :
    Kept ρ s₀ (modLoss d f s) ↔ Kept ρ s₀ s := by
  simp at hρ
  unfold modLoss
  split <;> simp [hρ]

@[simp] theorem kept_putRecord (d : Dest) (e : EventRec) (s : Device) (hρ : ρ ∉ parts [.host]) :
    Kept ρ s₀ (putRecord d e s) ↔ Kept ρ s₀ s := by
  simp at hρ
  unfold putRecord
  split <;> simp [hρ]

@[simp] theorem kept_dropRecord (d : Dest) (e : EventRec) (s : Device) (hρ : ρ ∉ parts [.timing, .host]) :
    Kept ρ s₀ (dropRecord d e s) ↔ Kept ρ s₀ s := by
  simp at hρ
  unfold dropRecord
  split <;> simp [hρ]

@[simp] theorem kept_writeLoss (d : Dest) (s : Device) (hρ : ρ ∉ parts [.host]) :
    Kept ρ s₀ (writeLoss d s) ↔ Kept ρ s₀ s := by
  simp at hρ
  simp [writeLoss, hρ]

@[simp] theorem kept_deliverTo (e : EventRec) (d : Dest) (s : Device) (hρ : ρ ∉ parts [.timing, .host]) :
    Kept ρ s₀ (deliverTo e d s) ↔ Kept ρ s₀ s := by
  simp at hρ
  simp [deliverTo, hρ]

@[simp] theorem kept_forwardEvent (e : EventRec) (s : Device) (hρ : ρ ∉ parts [.kme, .stack]) :
    Kept ρ s₀ (forwardEvent e s) ↔ Kept ρ s₀ s := by
  simp at hρ
  unfold forwardEvent
  dsimp only
  (repeat' split) <;> simp [hρ]

@[simp] theorem kept_eventDelivery (s : Device) (hρ : ρ ∉ parts [.kme, .timing, .stack, .host, .evq]) :
    Kept ρ s₀ (eventDelivery s) ↔ Kept ρ s₀ s := by
  simp at hρ
  unfold eventDelivery
  dsimp only
  (repeat' split) <;> simp [hρ]

@[simp] theorem kept_eventLoss (d : Fin 65) (s : Device) (hρ : ρ ∉ parts [.host]) :
    Kept ρ s₀ (eventLoss d s) ↔ Kept ρ s₀ s := by
  simp at hρ
  simp [eventLoss, hρ]

@[simp] theorem kept_dropEvents (s : Device) (hρ : ρ ∉ parts [.timing, .host, .evq]) :
    Kept ρ s₀ (dropEvents s) ↔ Kept ρ s₀ s := by
  simp at hρ
  rw [dropEvents, kept_each _ _ _ fun e t => by simp [hρ], kept_putEvq _ _ (by simp [hρ])]

@[simp] theorem kept_irqStatusClear (v : BitVec 32) (s : Device) (hρ : ρ ∉ parts [.host]) :
    Kept ρ s₀ (irqStatusClear v s) ↔ Kept ρ s₀ s := by
  simp at hρ
  simp [irqStatusClear, hρ]

@[simp] theorem kept_evtFifoPop (v : BitVec 32) (s : Device) (hρ : ρ ∉ parts [.host]) :
    Kept ρ s₀ (evtFifoPop v s) ↔ Kept ρ s₀ s := by
  simp at hρ
  simp [evtFifoPop, hρ]

@[simp] theorem kept_evtFifoDropRead (s : Device) (hρ : ρ ∉ parts [.host]) :
    Kept ρ s₀ (evtFifoDropRead s) ↔ Kept ρ s₀ s := by
  simp at hρ
  simp [evtFifoDropRead, hρ]

@[simp] theorem kept_ringTailWrite (k : Fin 64) (v : BitVec 32) (s : Device) (hρ : ρ ∉ parts [.host]) :
    Kept ρ s₀ (ringTailWrite k v s) ↔ Kept ρ s₀ s := by
  simp at hρ
  simp [ringTailWrite, hρ]

@[simp] theorem kept_ringDropRead (k : Fin 64) (s : Device) (hρ : ρ ∉ parts [.host]) :
    Kept ρ s₀ (ringDropRead k s) ↔ Kept ρ s₀ s := by
  simp at hρ
  simp [ringDropRead, hρ]

@[simp] theorem kept_act_ringConfigCmd (r : Req) (s : Device) (hρ : ρ ∉ parts [.host]) :
    Kept ρ s₀ (ringConfigCmd.act r s).2 ↔ Kept ρ s₀ s := by
  simp at hρ
  simp [ringConfigCmd, hρ]

@[simp] theorem kept_ringsOff (s : Device) (hρ : ρ ∉ parts [.mem, .host, .settings, .pendSet]) :
    Kept ρ s₀ (ringsOff s) ↔ Kept ρ s₀ s := by
  simp at hρ
  unfold ringsOff
  exact kept_each _ _ _ (fun _ _ => by simp [hρ])

end

end Sys2Proof.Machine

/-!
Frames of the functions of clocks and resets, the fault collector and the Accord store.
-/
namespace Sys2Proof.Machine
open Sys2Proof
section
variable {ρ : Region} {s₀ : Device}

@[simp] theorem kept_modSel (k : Nat) (f : SelectorSt → SelectorSt) (s : Device) (hρ : ρ ∉ parts [.clock]) :
    Kept ρ s₀ (modSel k f s) ↔ Kept ρ s₀ s := by
  simp at hρ
  simp [modSel, hρ]

@[simp] theorem kept_aim (k src : Nat) (s : Device) (hρ : ρ ∉ parts [.clock]) :
    Kept ρ s₀ (aim k src s) ↔ Kept ρ s₀ s := by
  simp at hρ
  simp [aim, hρ]

@[simp] theorem kept_modXi (n : Nat) (f : XiSt → XiSt) (s : Device) (hρ : ρ ∉ parts [.clock]) :
    Kept ρ s₀ (modXi n f s) ↔ Kept ρ s₀ s := by
  simp at hρ
  simp [modXi, hρ]

@[simp] theorem kept_dropSettings (f : Nat → Bool) (s : Device) (hρ : ρ ∉ parts [.settings, .pendSet]) :
    Kept ρ s₀ (dropSettings f s) ↔ Kept ρ s₀ s := by
  simp at hρ
  simp [dropSettings, hρ]

@[simp] theorem kept_dropTrib (c : Nat) (s : Device) (hρ : ρ ∉ parts [.tribs]) :
    Kept ρ s₀ (putTribs { s.tribs with tribs := s.tribs.tribs.filter fun p => p.1 / 128 ≠ c } s) ↔ Kept ρ s₀ s :=
  kept_putTribs _ s hρ

@[simp] theorem kept_carrierReset (c : Carrier) (s : Device)
    (hρ : ρ ∉ parts [.conv, .tx, .rx, .fec, .line, .tribs, .crypto, .ostc, .ttx, .elec, .settings, .pendSet]) :
    Kept ρ s₀ (carrierReset c s) ↔ Kept ρ s₀ s := by
  simp at hρ
  rw [carrierReset, kept_dropSettings _ _ (by simp [hρ]), kept_modTtx _ _ _ (by simp [hρ])]
  rw [kept_putElec _ _ (by simp [hρ]), kept_putTribs _ _ (by simp [hρ])]
  simp [hρ]

@[simp] theorem kept_lgReset (k : Nat) (s : Device) (hρ : ρ ∉ parts [.lanes, .host, .evq]) :
    Kept ρ s₀ (lgReset k s) ↔ Kept ρ s₀ s := by
  simp at hρ
  refine kept_each _ _ _ fun i s => ?_
  dsimp only
  split <;> simp [hρ]

@[simp] theorem kept_dramReset (s : Device) (hρ : ρ ∉ parts [.accord, .mem]) :
    Kept ρ s₀ (dramReset s) ↔ Kept ρ s₀ s := by
  simp at hρ
  simp [dramReset, hρ]

@[simp] theorem kept_timingReset (s : Device)
    (hρ : ρ ∉ parts [.crypto, .kme, .timing, .ttx, .mem, .stack, .clock, .fault, .evq]) :
    Kept ρ s₀ (timingReset s) ↔ Kept ρ s₀ s := by
  simp at hρ
  simp [timingReset, hρ]

/-- A reset of MGMT empties the request buffers. -/
theorem kept_mgmtReset {s : Device} (h : Kept .stores s₀ s) : Kept .stores s₀ (mgmtReset s) := by
  have dropped : Kept .stores s₀ (dropEvents s) := by simpa using h
  refine dropped.trans ?_
  rw [mgmtReset, kept_modBoot _ _ (by simp) (by simp) (by simp) (by simp)]
  rw [kept_modMem _ _ (by simp), kept_modCrypto _ _ _ (by simp), kept_modCrypto _ _ _ (by simp)]
  rw [kept_modAccord _ _ (by simp), kept_modStack _ _ (by simp)]
  refine ⟨fun ⟨buf, _, rest⟩ => ⟨buf, fun _ => rfl, rest⟩, BitVec.and_self, Nat.le_refl _, Nat.le_refl _⟩

/-- A reset of DEVICE empties the memories that it does not keep; NOR and OTP stay. -/
theorem kept_deviceReset {s : Device} (h : Kept .stores s₀ s) : Kept .stores s₀ (deviceReset s) := by
  refine h.trans ⟨fun ok => ?_, BitVec.and_self, Nat.le_refl _, Nat.le_refl _⟩
  obtain ⟨_, _, _, _, slots⟩ := ok
  exact ⟨rfl, fun _ => rfl, fun _ => rfl, rfl, slots⟩

/-- So does a reset of POR. -/
theorem kept_porReset {s : Device} (h : Kept .stores s₀ s) : Kept .stores s₀ (porReset s) := by
  refine h.trans ⟨fun ok => ?_, BitVec.and_self, Nat.le_refl _, Nat.le_refl _⟩
  obtain ⟨_, _, _, _, slots⟩ := ok
  exact ⟨rfl, fun _ => rfl, fun _ => rfl, rfl, slots⟩

theorem kept_resetContents (d : Domain) {s : Device} (h : Kept .stores s₀ s) :
    Kept .stores s₀ (resetContents d s) := by
  cases d with
  | por => exact kept_porReset h
  | device => exact kept_deviceReset h
  | mgmt => exact kept_mgmtReset h
  | _ => simpa [resetContents] using h

theorem kept_enterDomain (d : Domain) (cause : Nat) {s : Device} (h : Kept .stores s₀ s) :
    Kept .stores s₀ (enterDomain d cause s) := by
  have contents : Kept .stores s₀ (resetContents d s) := kept_resetContents d h
  simp [enterDomain, h, contents]

@[simp] theorem kept_readStraps (x : Straps) (s : Device) (hρ : ρ ∉ parts [.stack, .clock, .boot]) :
    Kept ρ s₀ (readStraps x s) ↔ Kept ρ s₀ s := by
  simp at hρ
  simp [readStraps, hρ]

@[simp] theorem kept_startRole (s : Device) (hρ : ρ ∉ parts [.stack]) :
    Kept ρ s₀ (startRole s) ↔ Kept ρ s₀ s := by
  simp at hρ
  unfold startRole
  split <;> simp [hρ]

@[simp] theorem kept_leaveReset (d : Domain) (x : Straps) (s : Device)
    (hρ : ρ ∉ parts [.timing, .stack, .clock, .fault, .boot, .host, .evq]) :
    Kept ρ s₀ (leaveReset d x s) ↔ Kept ρ s₀ s := by
  simp at hρ
  unfold leaveReset
  split <;> simp [hρ]

@[simp] theorem kept_domainResetRelease (d : Domain) (x : Straps) (s : Device)
    (hρ : ρ ∉ parts [.timing, .stack, .clock, .fault, .boot, .host, .evq]) :
    Kept ρ s₀ (domainResetRelease d x s) ↔ Kept ρ s₀ s := by
  simp at hρ
  simp [domainResetRelease, hρ]

theorem kept_powerOnReset (released : Bool) (x : Straps) {s : Device} (h : Kept .stores s₀ s) :
    Kept .stores s₀ (powerOnReset released x s) := by
  unfold powerOnReset
  split
  · exact kept_enterDomain _ _ (by simpa using h)
  split
  · simpa using h
  dsimp only
  split <;> simpa using h

theorem kept_resetN (low : Bool) {s : Device} (h : Kept .stores s₀ s) : Kept .stores s₀ (resetN low s) := by
  have device : Kept .stores s₀ (enterDomain .device 1 (modClock (fun k => { k with resetN := low }) s)) :=
    kept_enterDomain _ _ (by simpa using h)
  simp [resetN, h, device]

@[simp] theorem kept_dramRetrainComplete (s : Device)
    (hρ : ρ ∉ parts [.timing, .stack, .clock, .fault, .boot, .host, .evq]) :
    Kept ρ s₀ (dramRetrainComplete s) ↔ Kept ρ s₀ s := by
  simp at hρ
  simp [dramRetrainComplete, hρ]

theorem kept_mgmtWatchdog {s : Device} (h : Kept .stores s₀ s) : Kept .stores s₀ (mgmtWatchdog s) := by
  have mgmt : Kept .stores s₀ (enterDomain .mgmt 5 (fault 0x0E05 0 [] s)) := kept_enterDomain _ _ (by simpa using h)
  simp [mgmtWatchdog, h, mgmt]

@[simp] theorem kept_setStage (st : Stage) (s : Device) (hρ : ρ ∉ parts [.boot, .host]) :
    Kept ρ s₀ (setStage st s) ↔ Kept ρ s₀ s := by
  simp at hρ
  simp [setStage, hρ]

@[simp] theorem kept_bootStop (cause detail : Nat) (s : Device) (hρ : ρ ∉ parts [.boot, .host]) :
    Kept ρ s₀ (bootStop cause detail s) ↔ Kept ρ s₀ s := by
  simp at hρ
  simp [bootStop, hρ]

@[simp] theorem kept_xiInputJudged (n : Fin 2) (ok : Bool) (freq : Int) (s : Device)
    (hρ : ρ ∉ parts [.crypto, .kme, .mem, .stack, .clock, .fault, .boot, .host]) :
    Kept ρ s₀ (xiInputJudged n ok freq s) ↔ Kept ρ s₀ s := by
  simp at hρ
  simp [xiInputJudged, hρ]

@[simp] theorem kept_rootInputLoss (s : Device) (hρ : ρ ∉ parts [.crypto, .kme, .mem, .stack, .clock, .fault]) :
    Kept ρ s₀ (rootInputLoss s) ↔ Kept ρ s₀ s := by
  simp at hρ
  simp [rootInputLoss, hρ]

@[simp] theorem kept_pllRLocked (s : Device) (hρ : ρ ∉ parts [.clock, .fault, .boot, .host]) :
    Kept ρ s₀ (pllRLocked s) ↔ Kept ρ s₀ s := by
  simp at hρ
  unfold pllRLocked
  dsimp only
  (repeat' split) <;> simp [hρ]

theorem kept_finishSwitch (k : Nat) (forced : Bool) {s : Device} (h : Kept .stores s₀ s) :
    Kept .stores s₀ (finishSwitch k forced s) := by
  unfold finishSwitch
  split
  · exact h
  · refine kept_ite_of_kept _ (kept_enterDomain _ _ ?_) ?_ <;> simpa using h

theorem kept_selectorSwitch (k : Fin 11) {s : Device} (h : Kept .stores s₀ s) : Kept .stores s₀ (selectorSwitch k s) :=
  kept_finishSwitch _ _ h

theorem kept_clkForcedSwitch (k : Fin 11) {s : Device} (h : Kept .stores s₀ s) :
    Kept .stores s₀ (clkForcedSwitch k s) := kept_finishSwitch _ _ h

@[simp] theorem kept_selectorNewClockAbsent (k : Fin 11) (s : Device) (hρ : ρ ∉ parts [.clock]) :
    Kept ρ s₀ (selectorNewClockAbsent k s) ↔ Kept ρ s₀ s := by
  simp at hρ
  unfold selectorNewClockAbsent
  split <;> simp [hρ]

@[simp] theorem kept_tickAligned (s : Device) (hρ : ρ ∉ parts [.clock, .evq]) :
    Kept ρ s₀ (tickAligned s) ↔ Kept ρ s₀ s := by
  simp at hρ
  simp [tickAligned, hρ]

@[simp] theorem kept_oscTrimStale (s : Device) (hρ : ρ ∉ parts [.crypto, .kme, .mem, .stack, .clock, .fault]) :
    Kept ρ s₀ (oscTrimStale s) ↔ Kept ρ s₀ s := by
  simp at hρ
  simp [oscTrimStale, hρ]

@[simp] theorem kept_oscRise (s : Device) (hρ : ρ ∉ parts [.timing, .clock, .fault]) :
    Kept ρ s₀ (oscRise s) ↔ Kept ρ s₀ s := by
  simp at hρ
  simp [oscRise, hρ]

@[simp] theorem kept_oscFall (s : Device)
    (hρ : ρ ∉ parts [.crypto, .kme, .timing, .mem, .stack, .clock, .fault, .evq]) :
    Kept ρ s₀ (oscFall s) ↔ Kept ρ s₀ s := by
  simp at hρ
  simp [oscFall, hρ]

@[simp] theorem kept_carrierLoopStart (c : Carrier) (s : Device) (hρ : ρ ∉ parts [.conv]) :
    Kept ρ s₀ (carrierLoopStart c s) ↔ Kept ρ s₀ s := by
  simp at hρ
  simp [carrierLoopStart, hρ]

@[simp] theorem kept_powerTick (c : Carrier) (s : Device) (hρ : ρ ∉ parts [.conv, .clock]) :
    Kept ρ s₀ (powerTick c s) ↔ Kept ρ s₀ s := by
  simp at hρ
  simp [powerTick, hρ]

@[simp] theorem kept_alignTick (s : Device) (hρ : ρ ∉ parts [.clock]) :
    Kept ρ s₀ (alignTick s) ↔ Kept ρ s₀ s := by
  simp at hρ
  simp [alignTick, hρ]

theorem kept_clockControlTick {s : Device} (h : Kept .stores s₀ s) : Kept .stores s₀ (clockControlTick s) := by
  have resets (l : List (Domain × Time)) (t : Device) (ht : Kept .stores s₀ t) :
      Kept .stores s₀ (each l (fun d s => enterDomain d.1 2 s) t) :=
    kept_each_of_kept _ _ (fun d s hs => kept_enterDomain d.1 2 hs) ht
  rw [clockControlTick, kept_alignTick _ (by simp), kept_powerTick _ _ (by simp), kept_powerTick _ _ (by simp)]
  exact resets _ _ (by simpa using h)

@[simp] theorem kept_rootReselect (s : Device) (hρ : ρ ∉ parts [.clock]) :
    Kept ρ s₀ (rootReselect s) ↔ Kept ρ s₀ s := by
  simp at hρ
  unfold rootReselect
  dsimp only
  (repeat' split) <;> simp [hρ]

@[simp] theorem kept_trimTick (m : ClockMeas) (s : Device) (hρ : ρ ∉ parts [.clock, .fault]) :
    Kept ρ s₀ (trimTick m s) ↔ Kept ρ s₀ s := by
  simp at hρ
  simp [trimTick, hρ]

@[simp] theorem kept_clockSlowTick (m : ClockMeas) (s : Device) (hρ : ρ ∉ parts [.clock, .fault, .host]) :
    Kept ρ s₀ (clockSlowTick m s) ↔ Kept ρ s₀ s := by
  simp at hρ
  simp [clockSlowTick, hρ]

@[simp] theorem kept_clkEnWrite (v : BitVec 32) (s : Device) (hρ : ρ ∉ parts [.clock]) :
    Kept ρ s₀ (clkEnWrite v s) ↔ Kept ρ s₀ s := by
  simp at hρ
  simp [clkEnWrite, hρ]

@[simp] theorem kept_act_clockConfigCmd (r : Req) (s : Device) (hρ : ρ ∉ parts [.settings, .pendSet]) :
    Kept ρ s₀ (clockConfigCmd.act r s).2 ↔ Kept ρ s₀ s := by
  simp at hρ
  simp [clockConfigCmd, hρ]

@[simp] theorem kept_act_clockStatusCmd (r : Req) (s : Device) :
    Kept ρ s₀ (clockStatusCmd.act r s).2 ↔ Kept ρ s₀ s := by
  simp [clockStatusCmd]

theorem kept_act_resetDomainCmd (r : Req) {s : Device} (h : Kept .stores s₀ s) :
    Kept .stores s₀ (resetDomainCmd.act r s).2 := by
  simp only [resetDomainCmd, does]
  split
  · simp [h]
  · simp [h]
  · simp [h]
  · split
    · split
      · simp [h]
      · exact h
    · exact kept_enterDomain _ _ h
  · exact kept_enterDomain _ _ h
  · exact h

@[simp] theorem kept_act_resetStatusCmd (r : Req) (s : Device) :
    Kept ρ s₀ (resetStatusCmd.act r s).2 ↔ Kept ρ s₀ s := by
  simp [resetStatusCmd]

@[simp] theorem kept_xingDrop (k : Nat) (s : Device) (hρ : ρ ∉ parts [.clock]) :
    Kept ρ s₀ (xingDrop k s) ↔ Kept ρ s₀ s := by
  simp at hρ
  simp [xingDrop, hρ]

@[simp] theorem kept_setArmed (id inst : Nat) (a : Option Injection) (s : Device) (hρ : ρ ∉ parts [.fault]) :
    Kept ρ s₀ (setArmed id inst a s) ↔ Kept ρ s₀ s := by
  simp at hρ
  simp [setArmed, hρ]

@[simp] theorem kept_countCheck (e : FaultEntry) (s : Device) (hρ : ρ ∉ parts [.fault]) :
    Kept ρ s₀ (countCheck e s) ↔ Kept ρ s₀ s := by
  simp at hρ
  simp [countCheck]
  (repeat' split) <;> simp [hρ]

@[simp] theorem kept_ownRule (e : FaultEntry) (s : Device) (hρ : ρ ∉ parts [.pool]) :
    Kept ρ s₀ (ownRule e s) ↔ Kept ρ s₀ s := by
  simp at hρ
  simp [ownRule, hρ]

@[simp] theorem kept_faultEvent (l : List FaultEntry) (s : Device)
    (hρ : ρ ∉ parts [.pool, .crypto, .kme, .mem, .stack, .clock, .fault]) :
    Kept ρ s₀ (faultEvent l s) ↔ Kept ρ s₀ s := by
  simp at hρ
  simp [faultEvent, hρ]

@[simp] theorem kept_heldFollow (s : Device) (hρ : ρ ∉ parts [.fault]) :
    Kept ρ s₀ (heldFollow s) ↔ Kept ρ s₀ s := by
  simp at hρ
  simp [heldFollow, hρ]

theorem kept_faultReaction {s : Device} (h : Kept .stores s₀ s) : Kept .stores s₀ (faultReaction s) := by
  have resets (l : List (Nat × SourceSt)) (t : Device) (ht : Kept .stores s₀ t) : Kept .stores s₀ (each l (fun p s =>
      enterDomain (domainOf (p.1 / 256) (p.1 % 256)) 3
        (modSource (p.1 / 256) (p.1 % 256) (fun q => { q with due := 0 }) s)) t) :=
    kept_each_of_kept _ _ (fun p s hs => kept_enterDomain _ 3 (by simpa using hs)) ht
  have followed : Kept .stores s₀ (heldFollow s) := by simpa using h
  unfold faultReaction
  dsimp only
  split
  · simpa using resets _ _ followed
  · simpa using resets _ _ followed

@[simp] theorem kept_faultQuietExpiry (id inst : Nat) (s : Device) (hρ : ρ ∉ parts [.fault, .evq]) :
    Kept ρ s₀ (faultQuietExpiry id inst s) ↔ Kept ρ s₀ s := by
  simp at hρ
  simp [faultQuietExpiry, hρ]

@[simp] theorem kept_recoveryPhaseEnd (d : Domain) (s : Device) (hρ : ρ ∉ parts [.fault]) :
    Kept ρ s₀ (recoveryPhaseEnd d s) ↔ Kept ρ s₀ s := by
  simp at hρ
  simp [recoveryPhaseEnd, hρ]

@[simp] theorem kept_injectEnd (id inst : Nat) (a : Injection) (s : Device) (hρ : ρ ∉ parts [.fault, .evq]) :
    Kept ρ s₀ (injectEnd id inst a s) ↔ Kept ρ s₀ s := by
  simp at hρ
  simp [injectEnd, hρ]

@[simp] theorem kept_faultInjectDone (id inst quiet : Nat) (s : Device) (hρ : ρ ∉ parts [.fault, .evq]) :
    Kept ρ s₀ (faultInjectDone id inst quiet s) ↔ Kept ρ s₀ s := by
  simp at hρ
  unfold faultInjectDone
  split <;> simp [hρ]

@[simp] theorem kept_blackboxCopy (s : Device) (hρ : ρ ∉ parts [.fault, .boot]) :
    Kept ρ s₀ (blackboxCopy s) ↔ Kept ρ s₀ s := by
  simp at hρ
  unfold blackboxCopy
  split <;> simp [hρ]

@[simp] theorem kept_act_faultListCmd (r : Req) (s : Device) :
    Kept ρ s₀ (faultListCmd.act r s).2 ↔ Kept ρ s₀ s := by
  simp [faultListCmd]

@[simp] theorem kept_act_faultConfigCmd (r : Req) (s : Device) (hρ : ρ ∉ parts [.settings, .pendSet]) :
    Kept ρ s₀ (faultConfigCmd.act r s).2 ↔ Kept ρ s₀ s := by
  simp at hρ
  simp [faultConfigCmd, hρ]

@[simp] theorem kept_act_faultStatusCmd (r : Req) (s : Device) :
    Kept ρ s₀ (faultStatusCmd.act r s).2 ↔ Kept ρ s₀ s := by
  simp [faultStatusCmd]

@[simp] theorem kept_act_faultLogReadCmd (r : Req) (s : Device) :
    Kept ρ s₀ (faultLogReadCmd.act r s).2 ↔ Kept ρ s₀ s := by
  simp [faultLogReadCmd]

@[simp] theorem kept_act_faultClearLatchCmd (r : Req) (s : Device) (hρ : ρ ∉ parts [.fault, .evq]) :
    Kept ρ s₀ (faultClearLatchCmd.act r s).2 ↔ Kept ρ s₀ s := by
  simp at hρ
  simp [faultClearLatchCmd, hρ]

@[simp] theorem kept_act_faultClearCountersCmd (r : Req) (s : Device) (hρ : ρ ∉ parts [.fault]) :
    Kept ρ s₀ (faultClearCountersCmd.act r s).2 ↔ Kept ρ s₀ s := by
  simp at hρ
  simp [faultClearCountersCmd, hρ]

@[simp] theorem kept_act_faultClearFirstFaultCmd (r : Req) (s : Device) (hρ : ρ ∉ parts [.fault]) :
    Kept ρ s₀ (faultClearFirstFaultCmd.act r s).2 ↔ Kept ρ s₀ s := by
  simp at hρ
  simp [faultClearFirstFaultCmd, hρ]

@[simp] theorem kept_act_faultClearLogCmd (r : Req) (s : Device) (hρ : ρ ∉ parts [.fault]) :
    Kept ρ s₀ (faultClearLogCmd.act r s).2 ↔ Kept ρ s₀ s := by
  simp at hρ
  simp [faultClearLogCmd, hρ]

@[simp] theorem kept_act_faultInjectArmCmd (r : Req) (s : Device) (hρ : ρ ∉ parts [.fault]) :
    Kept ρ s₀ (faultInjectArmCmd.act r s).2 ↔ Kept ρ s₀ s := by
  simp at hρ
  simp [faultInjectArmCmd, hρ]

@[simp] theorem kept_act_faultInjectDisarmCmd (r : Req) (s : Device) (hρ : ρ ∉ parts [.fault, .evq]) :
    Kept ρ s₀ (faultInjectDisarmCmd.act r s).2 ↔ Kept ρ s₀ s := by
  simp at hρ
  simp [faultInjectDisarmCmd]
  (repeat' split) <;> simp [hρ]

@[simp] theorem kept_act_faultPhaseCmd (r : Req) (s : Device) (hρ : ρ ∉ parts [.fault]) :
    Kept ρ s₀ (faultPhaseCmd.act r s).2 ↔ Kept ρ s₀ s := by
  simp at hρ
  simp [faultPhaseCmd, hρ]

@[simp] theorem kept_act_faultBlackboxReadCmd (r : Req) (s : Device) :
    Kept ρ s₀ (faultBlackboxReadCmd.act r s).2 ↔ Kept ρ s₀ s := by
  simp [faultBlackboxReadCmd]

end

end Sys2Proof.Machine

/-!
Frames of the functions of Accords, loop engines, converters and the transmitter.
-/
namespace Sys2Proof.Machine
open Sys2Proof
section
variable {ρ : Region} {s₀ : Device}

@[simp] theorem kept_modSlot (i : Nat) (f : AccordSlot → AccordSlot) (s : Device) (hρ : ρ ∉ parts [.accord]) :
    Kept ρ s₀ (modSlot i f s) ↔ Kept ρ s₀ s := by
  simp at hρ
  simp [modSlot, hρ]

@[simp] theorem kept_dropSlot (i : Nat) (s : Device) (hρ : ρ ∉ parts [.accord]) :
    Kept ρ s₀ (dropSlot i s) ↔ Kept ρ s₀ s := by
  simp at hρ
  simp [dropSlot, hρ]

@[simp] theorem kept_accordVerified (i : Nat) (st : Status) (s : Device) (hρ : ρ ∉ parts [.evq]) :
    Kept ρ s₀ (accordVerified i st s) ↔ Kept ρ s₀ s := by
  simp at hρ
  simp [accordVerified, hρ]

@[simp] theorem kept_dropChunkLoad (s : Device) (hρ : ρ ∉ parts [.accord]) :
    Kept ρ s₀ (dropChunkLoad s) ↔ Kept ρ s₀ s := by
  simp at hρ
  unfold dropChunkLoad
  split <;> simp [hρ]

@[simp] theorem kept_loadAct (r : Req) (s : Device) (hρ : ρ ∉ parts [.accord]) :
    Kept ρ s₀ (loadAct r s).2 ↔ Kept ρ s₀ s := by
  simp at hρ
  unfold loadAct
  dsimp only
  (repeat' split) <;> simp [hρ]

@[simp] theorem kept_act_accordLoadCmd (r : Req) (s : Device) (hρ : ρ ∉ parts [.accord]) :
    Kept ρ s₀ (accordLoadCmd.act r s).2 ↔ Kept ρ s₀ s := by
  simp at hρ
  unfold accordLoadCmd
  dsimp only
  (repeat' split) <;> simp [hρ]

@[simp] theorem kept_accordVerifyComplete (i : Fin 16) (v : VerifyIn) (s : Device) (hρ : ρ ∉ parts [.accord, .evq]) :
    Kept ρ s₀ (accordVerifyComplete i v s) ↔ Kept ρ s₀ s := by
  simp at hρ
  simp [accordVerifyComplete, hρ]

@[simp] theorem kept_accordLoadTimeout (i : Fin 16) (s : Device) (hρ : ρ ∉ parts [.accord, .evq]) :
    Kept ρ s₀ (accordLoadTimeout i s) ↔ Kept ρ s₀ s := by
  simp at hρ
  simp [accordLoadTimeout, hρ]

@[simp] theorem kept_accordDmaComplete (i : Fin 16) (image : List Byte) (s : Device) (hρ : ρ ∉ parts [.accord]) :
    Kept ρ s₀ (accordDmaComplete i image s) ↔ Kept ρ s₀ s := by
  simp at hρ
  simp [accordDmaComplete, hρ]

@[simp] theorem kept_accordNandReadComplete (i : Fin 16) (ok : Bool) (s : Device)
    (hρ : ρ ∉ parts [.accord, .crypto, .kme, .mem, .stack, .clock, .fault, .boot, .evq]) :
    Kept ρ s₀ (accordNandReadComplete i ok s) ↔ Kept ρ s₀ s := by
  simp at hρ
  unfold accordNandReadComplete
  dsimp only
  (repeat' split) <;> simp [hρ]

@[simp] theorem kept_accordEpoch (s : Device) (hρ : ρ ∉ parts [.accord]) :
    Kept ρ s₀ (accordEpoch s) ↔ Kept ρ s₀ s := by
  simp at hρ
  simp [accordEpoch, hρ]

@[simp] theorem kept_act_accordListCmd (r : Req) (s : Device) :
    Kept ρ s₀ (accordListCmd.act r s).2 ↔ Kept ρ s₀ s := by
  simp [accordListCmd]

@[simp] theorem kept_act_accordInfoCmd (r : Req) (s : Device) :
    Kept ρ s₀ (accordInfoCmd.act r s).2 ↔ Kept ρ s₀ s := by
  simp [accordInfoCmd]

@[simp] theorem kept_act_accordReportCmd (r : Req) (s : Device) :
    Kept ρ s₀ (accordReportCmd.act r s).2 ↔ Kept ρ s₀ s := by
  simp [accordReportCmd]

@[simp] theorem kept_act_accordDeleteCmd (r : Req) (s : Device) (hρ : ρ ∉ parts [.accord]) :
    Kept ρ s₀ (accordDeleteCmd.act r s).2 ↔ Kept ρ s₀ s := by
  simp at hρ
  simp [accordDeleteCmd, hρ]

/-- The counter that is committed is not below the present one, by the state check of the command. -/
theorem kept_act_accordVersionCommitCmd (r : Req) {s : Device} (check : accordVersionCommitCmd.state s r = none)
    (h : Kept .stores s₀ s) : Kept .stores s₀ (accordVersionCommitCmd.act r s).2 := by
  have grows : s.boot.otp.accordCounter ≤ rd r.params 0 1 := by
    simp [accordVersionCommitCmd] at check
    omega
  simp only [accordVersionCommitCmd, does, kept_modAccord _ _ (stores_not_mem_parts _)]
  exact Kept.trans h ⟨id, BitVec.and_self, Nat.le_refl _, grows⟩

@[simp] theorem kept_startStaging (i : Nat) (s : Device) (hρ : ρ ∉ parts [.accord]) :
    Kept ρ s₀ (startStaging i s) ↔ Kept ρ s₀ s := by
  simp at hρ
  simp [startStaging, hρ]

@[simp] theorem kept_act_accordStageCmd (r : Req) (s : Device) (hρ : ρ ∉ parts [.accord]) :
    Kept ρ s₀ (accordStageCmd.act r s).2 ↔ Kept ρ s₀ s := by
  simp at hρ
  unfold accordStageCmd
  dsimp only
  (repeat' split) <;> simp [hρ]

@[simp] theorem kept_stagingComplete (e : StageEnd) (s : Device) (hρ : ρ ∉ parts [.accord, .evq]) :
    Kept ρ s₀ (stagingComplete e s) ↔ Kept ρ s₀ s := by
  simp at hρ
  unfold stagingComplete
  split <;> simp [hρ]

@[simp] theorem kept_scheduleSwitch (ref : Carrier) (after : Nat) (s : Device) (hρ : ρ ∉ parts [.accord, .rx]) :
    Kept ρ s₀ (scheduleSwitch ref after s) ↔ Kept ρ s₀ s := by
  simp at hρ
  simp [scheduleSwitch, hρ]

@[simp] theorem kept_act_accordSwitchCmd (r : Req) (s : Device) (hρ : ρ ∉ parts [.accord, .rx]) :
    Kept ρ s₀ (accordSwitchCmd.act r s).2 ↔ Kept ρ s₀ s := by
  simp at hρ
  unfold accordSwitchCmd
  dsimp only
  (repeat' split) <;> simp [hρ]

@[simp] theorem kept_cancelHeld (s : Device) (hρ : ρ ∉ parts [.accord, .host, .evq]) :
    Kept ρ s₀ (cancelHeld s) ↔ Kept ρ s₀ s := by
  simp at hρ
  simp [cancelHeld, hρ]

@[simp] theorem kept_act_accordCancelCmd (r : Req) (s : Device) (hρ : ρ ∉ parts [.accord, .host, .evq]) :
    Kept ρ s₀ (accordCancelCmd.act r s).2 ↔ Kept ρ s₀ s := by
  simp at hρ
  simp [accordCancelCmd]
  (repeat' split) <;> simp [hρ]

@[simp] theorem kept_act_accordLimitsCmd (r : Req) (s : Device) :
    Kept ρ s₀ (accordLimitsCmd.act r s).2 ↔ Kept ρ s₀ s := by
  simp [accordLimitsCmd]

@[simp] theorem kept_tapWrite (e : Nat) (w : ShadowWrite) (s : Device)
    (hρ : ρ ∉ parts [.engines, .crypto, .kme, .mem, .stack, .clock, .fault]) :
    Kept ρ s₀ (tapWrite e w s) ↔ Kept ρ s₀ s := by
  simp at hρ
  simp [tapWrite, hρ]

/-- What an engine writes keeps the canonical form of its data memory. -/
theorem kept_dataWrite (e : Nat) (l : List (Nat × List Byte)) {s : Device} (h : Kept .stores s₀ s) :
    Kept .stores s₀ (modEngine e (fun g => { g with dataMem := engineWrite 0 65536 l g.dataMem }) s) := by
  refine h.trans ⟨fun ⟨buf, req, data, rest⟩ => ⟨buf, req, fun k => ?_, rest⟩, BitVec.and_self, Nat.le_refl _,
    Nat.le_refl _⟩
  simp only [stores, engine, modEngine, putEngines_engines, Tab.get_modify]
  split
  · exact Memory.wf_engineWrite 0 65536 l (data e)
  · exact data k

/-- So does what it writes to its cluster memory. -/
theorem kept_clusterWrite (base size : Nat) (l : List (Nat × List Byte)) {s : Device} (h : Kept .stores s₀ s) :
    Kept .stores s₀ (putEngines { s.engines with clusterMem := engineWrite base size l s.engines.clusterMem } s) :=
  h.trans ⟨fun ⟨buf, req, data, cluster, rest⟩ => ⟨buf, req, data, Memory.wf_engineWrite base size l cluster, rest⟩,
    BitVec.and_self, Nat.le_refl _, Nat.le_refl _⟩

theorem kept_runSlot (x : EngineRun) {s : Device} (h : Kept .stores s₀ s) : Kept .stores s₀ (runSlot x s) := by
  unfold runSlot
  dsimp only
  split
  · exact h
  split
  · exact h
  have written := kept_clusterWrite (x.engine / 16 * 2 ^ 20) (2 ^ 20) x.cluster (kept_dataWrite x.engine x.data h)
  split
  · simpa using written
  · simpa using written

@[simp] theorem kept_runBackground (x : BgRun) (s : Device) (hρ : ρ ∉ parts [.engines]) :
    Kept ρ s₀ (runBackground x s) ↔ Kept ρ s₀ s := by
  simp at hρ
  simp [runBackground, hρ]

theorem kept_enginesTick (runs : List EngineRun) (bg : List BgRun) {s : Device} (h : Kept .stores s₀ s) :
    Kept .stores s₀ (enginesTick runs bg s) := by
  have ran (t : Device) (ht : Kept .stores s₀ t) : Kept .stores s₀ (each runs runSlot t) :=
    kept_each_of_kept _ _ (fun x _ => kept_runSlot x) ht
  unfold enginesTick
  dsimp only
  simp only [kept_each, kept_modEngine, kept_putEngines, kept_runBackground, implies_true, stores_not_mem_parts,
    not_false_eq_true]
  exact ran _ (by simpa using h)

@[simp] theorem kept_commitTables (c : Carrier) (s : Device) (hρ : ρ ∉ parts [.engines]) :
    Kept ρ s₀ (commitTables c s) ↔ Kept ρ s₀ s := by
  simp at hρ
  simp [commitTables, hρ]

@[simp] theorem kept_switchTables (old new : Plan) (f : TablePlan → Bool) (s : Device) (hρ : ρ ∉ parts [.engines]) :
    Kept ρ s₀ (switchTables old new f s) ↔ Kept ρ s₀ s := by
  rw [switchTables, kept_putEngines _ _ hρ (by simp) (by simp)]
  exact kept_each _ _ _ fun e t => kept_modEngine _ _ _ hρ (by simp)

@[simp] theorem kept_act_engineStatusCmd (r : Req) (s : Device) :
    Kept ρ s₀ (engineStatusCmd.act r s).2 ↔ Kept ρ s₀ s := by
  simp [engineStatusCmd]

@[simp] theorem kept_act_engineReadCmd (r : Req) (s : Device) :
    Kept ρ s₀ (engineReadCmd.act r s).2 ↔ Kept ρ s₀ s := by
  simp [engineReadCmd]

@[simp] theorem kept_modConvK (c : Carrier) (k : Nat) (f : ConvSt → ConvSt) (s : Device) (hρ : ρ ∉ parts [.conv]) :
    Kept ρ s₀ (modConvK c k f s) ↔ Kept ρ s₀ s := by
  simp at hρ
  simp [modConvK, hρ]

@[simp] theorem kept_modSlice (c : Carrier) (k n : Nat) (f : SliceSt → SliceSt) (s : Device)
    (hρ : ρ ∉ parts [.conv]) :
    Kept ρ s₀ (modSlice c k n f s) ↔ Kept ρ s₀ s := by
  simp at hρ
  simp [modSlice, hρ]

@[simp] theorem kept_modSeg (c : Carrier) (k g : Nat) (f : SegSt → SegSt) (s : Device) (hρ : ρ ∉ parts [.conv]) :
    Kept ρ s₀ (modSeg c k g f s) ↔ Kept ρ s₀ s := by
  simp at hρ
  simp [modSeg, hρ]

@[simp] theorem kept_evalSpares (c : Carrier) (before : Device) (s : Device)
    (hρ : ρ ∉ parts [.crypto, .kme, .mem, .stack, .clock, .fault]) :
    Kept ρ s₀ (evalSpares c before s) ↔ Kept ρ s₀ s := by
  simp at hρ
  simp [evalSpares, hρ]

@[simp] theorem kept_withSpares (c : Carrier) (f : Device → Device) (s : Device)
    (hρ : ρ ∉ parts [.crypto, .kme, .mem, .stack, .clock, .fault]) (hf : Kept ρ s₀ (f s) ↔ Kept ρ s₀ s) :
    Kept ρ s₀ (withSpares c f s) ↔ Kept ρ s₀ s := (kept_evalSpares c s (f s) hρ).trans hf

@[simp] theorem kept_addChange (c : Carrier) (k : Nat) (e : ElemChange) (s : Device) (hρ : ρ ∉ parts [.conv]) :
    Kept ρ s₀ (addChange c k e s) ↔ Kept ρ s₀ s := by
  simp at hρ
  simp [addChange, hρ]

@[simp] theorem kept_sliceFails (c : Carrier) (k n row : Nat) (s : Device)
    (hρ : ρ ∉ parts [.conv, .crypto, .kme, .mem, .stack, .clock, .fault]) :
    Kept ρ s₀ (sliceFails c k n row s) ↔ Kept ρ s₀ s := by
  simp at hρ
  unfold sliceFails
  dsimp only
  (repeat' split) <;> simp [hρ]

@[simp] theorem kept_cellFails (c : Carrier) (k g x : Nat) (s : Device)
    (hρ : ρ ∉ parts [.conv, .crypto, .kme, .mem, .stack, .clock, .fault]) :
    Kept ρ s₀ (cellFails c k g x s) ↔ Kept ρ s₀ s := by
  simp at hρ
  unfold cellFails
  dsimp only
  (repeat' split) <;> simp [hρ]

@[simp] theorem kept_requestTrim (c : Carrier) (r : TrimReq) (s : Device)
    (hρ : ρ ∉ parts [.conv, .crypto, .kme, .mem, .stack, .clock, .fault]) :
    Kept ρ s₀ (requestTrim c r s) ↔ Kept ρ s₀ s := by
  simp at hρ
  simp [requestTrim, hρ]

@[simp] theorem kept_measureCell (c : Carrier) (m : CellMeas) (s : Device)
    (hρ : ρ ∉ parts [.conv, .crypto, .kme, .mem, .stack, .clock, .fault]) :
    Kept ρ s₀ (measureCell c m s) ↔ Kept ρ s₀ s := by
  simp at hρ
  simp [measureCell, hρ]

@[simp] theorem kept_requestSwap (c : Carrier) (r : ElemReq) (s : Device) (hρ : ρ ∉ parts [.conv]) :
    Kept ρ s₀ (requestSwap c r s) ↔ Kept ρ s₀ s := by
  simp at hρ
  simp [requestSwap, hρ]

@[simp] theorem kept_applySlice (c : Carrier) (k : Nat) (e : ElemChange) (s : Device) (hρ : ρ ∉ parts [.conv]) :
    Kept ρ s₀ (applySlice c k e s) ↔ Kept ρ s₀ s := by
  simp at hρ
  unfold applySlice
  split <;> simp [hρ]

@[simp] theorem kept_applyCell (c : Carrier) (k : Nat) (e : ElemChange) (s : Device) (hρ : ρ ∉ parts [.conv]) :
    Kept ρ s₀ (applyCell c k e s) ↔ Kept ρ s₀ s := by
  simp at hρ
  simp [applyCell, hρ]

@[simp] theorem kept_applyChange (c : Carrier) (k : Nat) (e : ElemChange) (s : Device) (hρ : ρ ∉ parts [.conv]) :
    Kept ρ s₀ (applyChange c k e s) ↔ Kept ρ s₀ s := by
  simp at hρ
  unfold applyChange
  split <;> simp [hρ]

@[simp] theorem kept_applyChanges (c : Carrier) (k : Nat) (f : ElemChange → Bool) (s : Device)
    (hρ : ρ ∉ parts [.conv, .crypto, .kme, .mem, .stack, .clock, .fault]) :
    Kept ρ s₀ (applyChanges c k f s) ↔ Kept ρ s₀ s := by
  simp at hρ
  unfold applyChanges
  dsimp only
  split
  · rfl
  · exact kept_withSpares _ _ _ (by simp [hρ]) (by simp [hρ])

@[simp] theorem kept_applyTrims (c : Carrier) (s : Device) (hρ : ρ ∉ parts [.conv]) :
    Kept ρ s₀ (applyTrims c s) ↔ Kept ρ s₀ s := by
  simp at hρ
  simp [applyTrims, hρ]

@[simp] theorem kept_convBlock (c : Carrier) (txw rxw : Bool) (s : Device)
    (hρ : ρ ∉ parts [.conv, .crypto, .kme, .mem, .stack, .clock, .fault]) :
    Kept ρ s₀ (convBlock c txw rxw s) ↔ Kept ρ s₀ s := by
  simp at hρ
  simp [convBlock, hρ]

@[simp] theorem kept_swapDeferExpiry (c : Carrier) (k : Fin 8) (s : Device)
    (hρ : ρ ∉ parts [.conv, .crypto, .kme, .mem, .stack, .clock, .fault, .evq]) :
    Kept ρ s₀ (swapDeferExpiry c k s) ↔ Kept ρ s₀ s := by
  simp at hρ
  simp [swapDeferExpiry, hρ]

@[simp] theorem kept_sparesUnmeasured (c : Carrier) (s : Device) (hρ : ρ ∉ parts [.conv]) :
    Kept ρ s₀ (sparesUnmeasured c s) ↔ Kept ρ s₀ s := by
  simp at hρ
  rw [sparesUnmeasured, kept_each _ _ _ fun k t => by simp [hρ], kept_each _ _ _ fun k t => by simp [hρ]]

@[simp] theorem kept_convRateChange (c : Carrier) (s : Device)
    (hρ : ρ ∉ parts [.conv, .crypto, .kme, .mem, .stack, .clock, .fault]) :
    Kept ρ s₀ (convRateChange c s) ↔ Kept ρ s₀ s := by
  simp at hρ
  exact kept_withSpares _ _ _ (by simp [hρ]) (by simp [hρ])

@[simp] theorem kept_loopStart (c : Carrier) (s : Device)
    (hρ : ρ ∉ parts [.conv, .crypto, .kme, .mem, .stack, .clock, .fault]) :
    Kept ρ s₀ (loopStart c s) ↔ Kept ρ s₀ s := by
  simp at hρ
  have started : Kept ρ s₀ (carrierLoopStart c s) ↔ Kept ρ s₀ s := by simp [hρ]
  unfold loopStart
  dsimp only
  split
  · exact started
  · exact (kept_withSpares _ _ _ (by simp [hρ]) (by simp [hρ])).trans started

@[simp] theorem kept_foregroundCalComplete (c : Carrier) (trims : List TrimReq) (cells : List CellMeas) (s : Device)
    (hρ : ρ ∉ parts [.conv, .crypto, .kme, .mem, .stack, .clock, .fault]) :
    Kept ρ s₀ (foregroundCalComplete c trims cells s) ↔ Kept ρ s₀ s := by
  simp at hρ
  unfold foregroundCalComplete
  dsimp only
  split
  · rfl
  refine kept_withSpares _ _ _ (by simp [hρ]) ?_
  rw [kept_each _ _ _ fun k t => by simp [hρ]]
  simp [hρ]

@[simp] theorem kept_spareCalibrated (c : Carrier) (k : Fin 4) (n : Fin 72) (offset gain : Int) (skew : Nat) (s : Device)
    (hρ : ρ ∉ parts [.conv, .crypto, .kme, .mem, .stack, .clock, .fault]) :
    Kept ρ s₀ (spareCalibrated c k n offset gain skew s) ↔ Kept ρ s₀ s := by
  simp at hρ
  simp [spareCalibrated, hρ]

@[simp] theorem kept_portFaults (c : Carrier) (s : Device)
    (hρ : ρ ∉ parts [.crypto, .kme, .mem, .stack, .clock, .fault]) :
    Kept ρ s₀ (portFaults c s) ↔ Kept ρ s₀ s := by
  simp at hρ
  simp [portFaults, hρ]

@[simp] theorem kept_convControlTick (c : Carrier) (i : ConvIn) (s : Device)
    (hρ : ρ ∉ parts [.conv, .crypto, .kme, .mem, .stack, .clock, .fault, .evq]) :
    Kept ρ s₀ (convControlTick c i s) ↔ Kept ρ s₀ s := by
  simp at hρ
  have measured (t : Device) : Kept ρ s₀ (withSpares c (fun s =>
      each i.swaps (requestSwap c) (each i.cells (measureCell c) (each i.trims (requestTrim c) (each i.fails (fun f s =>
        if f.conv < 4 ∧ f.slice < 72 then sliceFails c f.conv f.slice (if f.stuck then 2 else 1) s else s) s)))) t) ↔
      Kept ρ s₀ t :=
    kept_withSpares _ _ _ (by simp [hρ]) (by simp [hρ])
  unfold convControlTick
  dsimp only
  split
  · simp [hρ]
  · split <;> simp [measured, hρ]

@[simp] theorem kept_convSlowTick (c : Carrier) (s : Device)
    (hρ : ρ ∉ parts [.conv, .crypto, .kme, .mem, .stack, .clock, .fault]) :
    Kept ρ s₀ (convSlowTick c s) ↔ Kept ρ s₀ s := by
  simp at hρ
  simp [convSlowTick, hρ]

@[simp] theorem kept_convEpoch (c : Carrier) (s : Device) (hρ : ρ ∉ parts [.conv]) :
    Kept ρ s₀ (convEpoch c s) ↔ Kept ρ s₀ s := by
  simp at hρ
  simp [convEpoch, hρ]

@[simp] theorem kept_evalMap (c : Carrier) (s : Device)
    (hρ : ρ ∉ parts [.crypto, .kme, .mem, .stack, .clock, .fault]) :
    Kept ρ s₀ (evalMap c s) ↔ Kept ρ s₀ s := by
  simp at hρ
  simp [evalMap, hρ]

@[simp] theorem kept_feMapReceived (c : Carrier) (m : Nat) (s : Device)
    (hρ : ρ ∉ parts [.conv, .crypto, .kme, .mem, .stack, .clock, .fault]) :
    Kept ρ s₀ (feMapReceived c m s) ↔ Kept ρ s₀ s := by
  simp at hρ
  simp [feMapReceived, hρ]

@[simp] theorem kept_selftestComplete (c : Carrier) (found : List (Option (Nat × Bool))) (s : Device)
    (hρ : ρ ∉ parts [.conv, .crypto, .kme, .mem, .stack, .clock, .fault, .host, .evq]) :
    Kept ρ s₀ (selftestComplete c found s) ↔ Kept ρ s₀ s := by
  simp at hρ
  unfold selftestComplete
  split <;> simp [hρ]

@[simp] theorem kept_act_calConfigCmd (r : Req) (s : Device)
    (hρ : ρ ∉ parts [.crypto, .kme, .mem, .stack, .clock, .fault, .settings, .pendSet]) :
    Kept ρ s₀ (calConfigCmd.act r s).2 ↔ Kept ρ s₀ s := by
  simp at hρ
  simp [calConfigCmd, hρ]

@[simp] theorem kept_act_calSwapCmd (r : Req) (s : Device) (hρ : ρ ∉ parts [.conv]) :
    Kept ρ s₀ (calSwapCmd.act r s).2 ↔ Kept ρ s₀ s := by
  simp at hρ
  simp [calSwapCmd, hρ]

@[simp] theorem kept_act_calReadCmd (r : Req) (s : Device) :
    Kept ρ s₀ (calReadCmd.act r s).2 ↔ Kept ρ s₀ s := by
  simp [calReadCmd]

@[simp] theorem kept_act_convPortStatusCmd (r : Req) (s : Device) :
    Kept ρ s₀ (convPortStatusCmd.act r s).2 ↔ Kept ρ s₀ s := by
  simp [convPortStatusCmd]

@[simp] theorem kept_act_convSelftestCmd (r : Req) (s : Device) (hρ : ρ ∉ parts [.conv]) :
    Kept ρ s₀ (convSelftestCmd.act r s).2 ↔ Kept ρ s₀ s := by
  simp at hρ
  simp [convSelftestCmd, hρ]

end

end Sys2Proof.Machine

/-!
Frames of the functions of the transmitter, the receiver, error correction and the line.
-/
namespace Sys2Proof.Machine
open Sys2Proof
section
variable {ρ : Region} {s₀ : Device}

@[simp] theorem kept_settleStart (c : Carrier) (s : Device) (hρ : ρ ∉ parts [.pendSet]) :
    Kept ρ s₀ (settleStart c s) ↔ Kept ρ s₀ s := by
  simp at hρ
  simp [settleStart, hρ]

@[simp] theorem kept_setTxState (c : Carrier) (st : TxState) (s : Device) (hρ : ρ ∉ parts [.tx, .elec]) :
    Kept ρ s₀ (setTxState c st s) ↔ Kept ρ s₀ s := by
  simp at hρ
  simp [setTxState, hρ]

@[simp] theorem kept_reverseRamp (c : Carrier) (st : TxState) (s : Device) (hρ : ρ ∉ parts [.tx, .elec]) :
    Kept ρ s₀ (reverseRamp c st s) ↔ Kept ρ s₀ s := by
  simp at hρ
  simp [reverseRamp, hρ]

@[simp] theorem kept_startRamp (c : Carrier) (st : TxState) (s : Device) (hρ : ρ ∉ parts [.tx, .elec, .pendSet]) :
    Kept ρ s₀ (startRamp c st s) ↔ Kept ρ s₀ s := by
  simp at hρ
  simp [startRamp, hρ]

@[simp] theorem kept_txControlTick (c : Carrier) (s : Device) (hρ : ρ ∉ parts [.tx, .elec, .pendSet]) :
    Kept ρ s₀ (txControlTick c s) ↔ Kept ρ s₀ s := by
  simp at hρ
  unfold txControlTick
  dsimp only
  (repeat' split) <;> simp [hρ]

@[simp] theorem kept_txLeadElapsed (c : Carrier) (s : Device) (hρ : ρ ∉ parts [.tx, .elec, .pendSet]) :
    Kept ρ s₀ (txLeadElapsed c s) ↔ Kept ρ s₀ s := by
  simp at hρ
  simp [txLeadElapsed, hρ]

@[simp] theorem kept_txRampComplete (c : Carrier) (s : Device) (hρ : ρ ∉ parts [.tx, .elec]) :
    Kept ρ s₀ (txRampComplete c s) ↔ Kept ρ s₀ s := by
  simp at hρ
  unfold txRampComplete
  dsimp only
  (repeat' split) <;> simp [hρ]

@[simp] theorem kept_prunePending (c : Carrier) (s : Device) (hρ : ρ ∉ parts [.tx]) :
    Kept ρ s₀ (prunePending c s) ↔ Kept ρ s₀ s := by
  simp at hρ
  simp [prunePending, hρ]

@[simp] theorem kept_settleWave (c : Carrier) (txw : Bool) (s : Device) (hρ : ρ ∉ parts [.tx, .pendSet]) :
    Kept ρ s₀ (settleWave c txw s) ↔ Kept ρ s₀ s := by
  simp at hρ
  simp [settleWave, hρ]

@[simp] theorem kept_acceptWave (op : Nat) (r : Req) (s : Device) (hρ : ρ ∉ parts [.tx, .settings, .pendSet]) :
    Kept ρ s₀ (acceptWave op r s) ↔ Kept ρ s₀ s := by
  simp at hρ
  simp [acceptWave, hρ]

@[simp] theorem kept_act_txConfigCmd (r : Req) (s : Device) (hρ : ρ ∉ parts [.tx, .settings, .pendSet]) :
    Kept ρ s₀ (txConfigCmd.act r s).2 ↔ Kept ρ s₀ s := by
  simp at hρ
  simp [txConfigCmd, hρ]

@[simp] theorem kept_act_txPreemphCmd (r : Req) (s : Device) (hρ : ρ ∉ parts [.tx, .settings, .pendSet]) :
    Kept ρ s₀ (txPreemphCmd.act r s).2 ↔ Kept ρ s₀ s := by
  simp at hρ
  simp [txPreemphCmd, hρ]

@[simp] theorem kept_act_txEnableCmd (r : Req) (s : Device) (hρ : ρ ∉ parts [.tx, .settings, .pendSet]) :
    Kept ρ s₀ (txEnableCmd.act r s).2 ↔ Kept ρ s₀ s := by
  simp at hρ
  simp [txEnableCmd, hρ]

@[simp] theorem kept_act_txStatusCmd (r : Req) (s : Device) :
    Kept ρ s₀ (txStatusCmd.act r s).2 ↔ Kept ρ s₀ s := by
  simp [txStatusCmd]

@[simp] theorem kept_setRx (c : Carrier) (st : RxState) (cause : Nat) (s : Device)
    (hρ : ρ ∉ parts [.rx, .pendSet, .evq]) :
    Kept ρ s₀ (setRx c st cause s) ↔ Kept ρ s₀ s := by
  simp at hρ
  unfold setRx
  dsimp only
  (repeat' split) <;> simp [hρ]

@[simp] theorem kept_rxFall (c : Carrier) (st : RxState) (cause : Nat) (s : Device)
    (hρ : ρ ∉ parts [.rx, .crypto, .kme, .mem, .stack, .clock, .fault, .pendSet, .evq]) :
    Kept ρ s₀ (rxFall c st cause s) ↔ Kept ρ s₀ s := by
  simp at hρ
  simp [rxFall, hρ]

@[simp] theorem kept_fallToSearch (c : Carrier) (h : HintMode) (cause : Nat) (s : Device)
    (hρ : ρ ∉ parts [.rx, .crypto, .kme, .mem, .stack, .clock, .fault, .pendSet, .evq]) :
    Kept ρ s₀ (fallToSearch c h cause s) ↔ Kept ρ s₀ s := by
  simp at hρ
  simp [fallToSearch, hρ]

@[simp] theorem kept_rxAcqTimeout (c : Carrier) (s : Device)
    (hρ : ρ ∉ parts [.rx, .crypto, .kme, .mem, .stack, .clock, .fault, .pendSet, .evq]) :
    Kept ρ s₀ (rxAcqTimeout c s) ↔ Kept ρ s₀ s := by
  simp at hρ
  unfold rxAcqTimeout
  dsimp only
  (repeat' split) <;> simp [hρ]

@[simp] theorem kept_lockHoldLoss (c : Carrier) (s : Device)
    (hρ : ρ ∉ parts [.rx, .crypto, .kme, .mem, .stack, .clock, .fault, .pendSet, .evq]) :
    Kept ρ s₀ (lockHoldLoss c s) ↔ Kept ρ s₀ s := by
  simp at hρ
  simp [lockHoldLoss, hρ]

@[simp] theorem kept_cdSearchHintMiss (c : Carrier) (s : Device) (hρ : ρ ∉ parts [.rx]) :
    Kept ρ s₀ (cdSearchHintMiss c s) ↔ Kept ρ s₀ s := by
  simp at hρ
  simp [cdSearchHintMiss, hρ]

@[simp] theorem kept_enterSuperframeLock (c : Carrier) (map : Nat) (s : Device)
    (hρ : ρ ∉ parts [.rx, .pendSet, .evq]) :
    Kept ρ s₀ (enterSuperframeLock c map s) ↔ Kept ρ s₀ s := by
  simp at hρ
  simp [enterSuperframeLock, hρ]

@[simp] theorem kept_rxAcqProgress (c : Carrier) (i : AcqIn) (s : Device)
    (hρ : ρ ∉ parts [.rx, .crypto, .kme, .mem, .stack, .clock, .fault, .pendSet, .evq]) :
    Kept ρ s₀ (rxAcqProgress c i s) ↔ Kept ρ s₀ s := by
  simp at hρ
  unfold rxAcqProgress
  dsimp only
  (repeat' split) <;> simp [hρ]

@[simp] theorem kept_zrAlignRx (c : Carrier) (locked : Bool) (map : Nat) (s : Device)
    (hρ : ρ ∉ parts [.rx, .crypto, .kme, .mem, .stack, .clock, .fault, .pendSet, .evq]) :
    Kept ρ s₀ (zrAlignRx c locked map s) ↔ Kept ρ s₀ s := by
  simp at hρ
  simp [zrAlignRx, hρ]

@[simp] theorem kept_rxSuperframeAcq (c : Carrier) (sync bringUp otucOk codeOk : Bool) (s : Device)
    (hρ : ρ ∉ parts [.rx, .crypto, .kme, .mem, .stack, .clock, .fault, .pendSet, .evq]) :
    Kept ρ s₀ (rxSuperframeAcq c sync bringUp otucOk codeOk s) ↔ Kept ρ s₀ s := by
  simp at hρ
  unfold rxSuperframeAcq
  dsimp only
  (repeat' split) <;> simp [hρ]

@[simp] theorem kept_rxControlTick (c : Carrier) (i : RxIn) (s : Device)
    (hρ : ρ ∉ parts [.rx, .crypto, .kme, .mem, .stack, .clock, .fault, .pendSet, .evq]) :
    Kept ρ s₀ (rxControlTick c i s) ↔ Kept ρ s₀ s := by
  simp at hρ
  simp [rxControlTick, hρ]

@[simp] theorem kept_rxSlowTick (c : Carrier) (s : Device) (hρ : ρ ∉ parts [.rx]) :
    Kept ρ s₀ (rxSlowTick c s) ↔ Kept ρ s₀ s := by
  simp at hρ
  simp [rxSlowTick, hρ]

@[simp] theorem kept_rxEpoch (c : Carrier) (s : Device)
    (hρ : ρ ∉ parts [.rx, .crypto, .kme, .mem, .stack, .clock, .fault]) :
    Kept ρ s₀ (rxEpoch c s) ↔ Kept ρ s₀ s := by
  simp at hρ
  simp [rxEpoch, hρ]

@[simp] theorem kept_propose (c : Carrier) (kind : Nat) (s : Device) (hρ : ρ ∉ parts [.rx, .pendSet, .fresh]) :
    Kept ρ s₀ (propose c kind s) ↔ Kept ρ s₀ s := by
  simp at hρ
  simp [propose, hρ]

@[simp] theorem kept_agreed (c : Carrier) (kind seq own far : Nat) (s : Device)
    (hρ : ρ ∉ parts [.accord, .rx, .evq]) : Kept ρ s₀ (agreed c kind seq own far s) ↔ Kept ρ s₀ s := by
  simp at hρ
  unfold agreed
  dsimp only
  split
  · rw [kept_scheduleSwitch _ _ _ (by simp [hρ]), kept_raise _ _ _ _ _ (by simp [hρ]), kept_modRx _ _ _ (by simp [hρ])]
  · rw [kept_raise _ _ _ _ _ (by simp [hρ]), kept_modRx _ _ _ (by simp [hρ])]

@[simp] theorem kept_proposalFails (c : Carrier) (s : Device) (hρ : ρ ∉ parts [.rx, .evq]) :
    Kept ρ s₀ (proposalFails c s) ↔ Kept ρ s₀ s := by
  simp at hρ
  simp [proposalFails, hρ]

@[simp] theorem kept_agreeFail (c : Carrier) (s : Device) (hρ : ρ ∉ parts [.rx, .evq]) :
    Kept ρ s₀ (agreeFail c s) ↔ Kept ρ s₀ s := by
  simp at hρ
  simp [agreeFail, hρ]

@[simp] theorem kept_answerReceived (c : Carrier) (s : Device) (hρ : ρ ∉ parts [.accord, .rx, .evq]) :
    Kept ρ s₀ (answerReceived c s) ↔ Kept ρ s₀ s := by
  simp at hρ
  simp [answerReceived, hρ]

@[simp] theorem kept_agreementReceived (c : Carrier) (s : Device) (hρ : ρ ∉ parts [.accord, .rx, .evq, .fresh]) :
    Kept ρ s₀ (agreementReceived c s) ↔ Kept ρ s₀ s := by
  simp at hρ
  simp [agreementReceived, hρ]

@[simp] theorem kept_agreeTxSuperframe (c : Carrier) (s : Device) (hρ : ρ ∉ parts [.tx, .rx, .pendSet, .fresh]) :
    Kept ρ s₀ (agreeTxSuperframe c s) ↔ Kept ρ s₀ s := by
  simp at hρ
  simp [agreeTxSuperframe, hρ]

@[simp] theorem kept_agreeRxSuperframe (c : Carrier) (s : Device) (hρ : ρ ∉ parts [.rx]) :
    Kept ρ s₀ (agreeRxSuperframe c s) ↔ Kept ρ s₀ s := by
  simp at hρ
  simp [agreeRxSuperframe, hρ]

@[simp] theorem kept_stagePropose (c : Carrier) (s : Device) (hρ : ρ ∉ parts [.rx, .pendSet, .fresh]) :
    Kept ρ s₀ (stagePropose c s) ↔ Kept ρ s₀ s := by
  simp at hρ
  simp [stagePropose, hρ]

@[simp] theorem kept_stageRetry (c : Carrier) (s : Device) (hρ : ρ ∉ parts [.rx, .pendSet, .fresh]) :
    Kept ρ s₀ (stageRetry c s) ↔ Kept ρ s₀ s := by
  simp at hρ
  simp [stageRetry, hρ]

@[simp] theorem kept_rxStageFail (c : Carrier) (s : Device)
    (hρ : ρ ∉ parts [.rx, .crypto, .kme, .mem, .stack, .clock, .fault, .pendSet, .fresh]) :
    Kept ρ s₀ (rxStageFail c s) ↔ Kept ρ s₀ s := by
  simp at hρ
  unfold rxStageFail
  dsimp only
  (repeat' split) <;> simp [hρ]

@[simp] theorem kept_settleRx (c : Carrier) (rxw : Bool) (s : Device) (hρ : ρ ∉ parts [.pendSet]) :
    Kept ρ s₀ (settleRx c rxw s) ↔ Kept ρ s₀ s := by
  simp at hρ
  simp [settleRx, hρ]

@[simp] theorem kept_act_rxConfigCmd (r : Req) (s : Device) (hρ : ρ ∉ parts [.settings, .pendSet]) :
    Kept ρ s₀ (rxConfigCmd.act r s).2 ↔ Kept ρ s₀ s := by
  simp at hρ
  simp [rxConfigCmd, hρ]

@[simp] theorem kept_act_rxEnableCmd (r : Req) (s : Device) (hρ : ρ ∉ parts [.rx, .settings, .pendSet]) :
    Kept ρ s₀ (rxEnableCmd.act r s).2 ↔ Kept ρ s₀ s := by
  simp at hρ
  simp [rxEnableCmd, hρ]

@[simp] theorem kept_act_rxReacquireCmd (r : Req) (s : Device)
    (hρ : ρ ∉ parts [.rx, .crypto, .kme, .mem, .stack, .clock, .fault, .pendSet, .evq]) :
    Kept ρ s₀ (rxReacquireCmd.act r s).2 ↔ Kept ρ s₀ s := by
  simp at hρ
  simp [rxReacquireCmd, hρ]

@[simp] theorem kept_act_lineAgreeCmd (r : Req) (s : Device) (hρ : ρ ∉ parts [.rx, .pendSet, .fresh]) :
    Kept ρ s₀ (lineAgreeCmd.act r s).2 ↔ Kept ρ s₀ s := by
  simp at hρ
  simp [lineAgreeCmd, hρ]

@[simp] theorem kept_act_rxStatusCmd (r : Req) (s : Device) :
    Kept ρ s₀ (rxStatusCmd.act r s).2 ↔ Kept ρ s₀ s := by
  simp [rxStatusCmd]

@[simp] theorem kept_act_rxMonitorCmd (r : Req) (s : Device) :
    Kept ρ s₀ (rxMonitorCmd.act r s).2 ↔ Kept ρ s₀ s := by
  simp [rxMonitorCmd]

@[simp] theorem kept_fecControlTick (c : Carrier) (i : FecIn) (s : Device)
    (hρ : ρ ∉ parts [.fec, .pool, .crypto, .kme, .mem, .stack, .clock, .fault]) :
    Kept ρ s₀ (fecControlTick c i s) ↔ Kept ρ s₀ s := by
  simp at hρ
  simp [fecControlTick, hρ]

@[simp] theorem kept_countMarked (c : Carrier) (s : Device) (hρ : ρ ∉ parts [.fec]) :
    Kept ρ s₀ (countMarked c s) ↔ Kept ρ s₀ s := by
  simp at hρ
  simp [countMarked, hρ]

@[simp] theorem kept_modCore (k : Nat) (f : CoreSt → CoreSt) (s : Device) (hρ : ρ ∉ parts [.pool]) :
    Kept ρ s₀ (modCore k f s) ↔ Kept ρ s₀ s := by
  simp at hρ
  simp [modCore, hρ]

@[simp] theorem kept_poolControlTick (i : PoolIn) (s : Device)
    (hρ : ρ ∉ parts [.fec, .pool, .crypto, .kme, .mem, .stack, .clock, .fault]) :
    Kept ρ s₀ (poolControlTick i s) ↔ Kept ρ s₀ s := by
  simp at hρ
  simp [poolControlTick, hρ]

@[simp] theorem kept_fecSlowTick (c : Carrier) (s : Device) (hρ : ρ ∉ parts [.fec, .evq]) :
    Kept ρ s₀ (fecSlowTick c s) ↔ Kept ρ s₀ s := by
  simp at hρ
  simp [fecSlowTick, hρ]

@[simp] theorem kept_poolSlowTick (s : Device) (hρ : ρ ∉ parts [.pool]) :
    Kept ρ s₀ (poolSlowTick s) ↔ Kept ρ s₀ s := by
  simp at hρ
  simp [poolSlowTick, hρ]

@[simp] theorem kept_fecEpoch (c : Carrier) (s : Device) (hρ : ρ ∉ parts [.fec, .evq]) :
    Kept ρ s₀ (fecEpoch c s) ↔ Kept ρ s₀ s := by
  simp at hρ
  simp [fecEpoch, hρ]

@[simp] theorem kept_poolEpoch (s : Device) (hρ : ρ ∉ parts [.pool]) :
    Kept ρ s₀ (poolEpoch s) ↔ Kept ρ s₀ s := by
  simp at hρ
  simp [poolEpoch, hρ]

@[simp] theorem kept_injectBoundary (c : Carrier) (s : Device) (hρ : ρ ∉ parts [.fec]) :
    Kept ρ s₀ (injectBoundary c s) ↔ Kept ρ s₀ s := by
  simp at hρ
  simp [injectBoundary, hρ]

@[simp] theorem kept_act_fecConfigCmd (r : Req) (s : Device) (hρ : ρ ∉ parts [.settings, .pendSet]) :
    Kept ρ s₀ (fecConfigCmd.act r s).2 ↔ Kept ρ s₀ s := by
  simp at hρ
  simp [fecConfigCmd, hρ]

@[simp] theorem kept_act_fecStatusCmd (r : Req) (s : Device) :
    Kept ρ s₀ (fecStatusCmd.act r s).2 ↔ Kept ρ s₀ s := by
  simp [fecStatusCmd]

@[simp] theorem kept_act_fecCountersCmd (r : Req) (s : Device) :
    Kept ρ s₀ (fecCountersCmd.act r s).2 ↔ Kept ρ s₀ s := by
  simp [fecCountersCmd]

@[simp] theorem kept_act_fecClearCmd (r : Req) (s : Device) (hρ : ρ ∉ parts [.fec]) :
    Kept ρ s₀ (fecClearCmd.act r s).2 ↔ Kept ρ s₀ s := by
  simp at hρ
  simp [fecClearCmd, hρ]

@[simp] theorem kept_act_fecPoolStatusCmd (r : Req) (s : Device) :
    Kept ρ s₀ (fecPoolStatusCmd.act r s).2 ↔ Kept ρ s₀ s := by
  simp [fecPoolStatusCmd]

@[simp] theorem kept_act_fecInjectCmd (r : Req) (s : Device) (hρ : ρ ∉ parts [.fec]) :
    Kept ρ s₀ (fecInjectCmd.act r s).2 ↔ Kept ρ s₀ s := by
  simp at hρ
  simp [fecInjectCmd, hρ]

end

end Sys2Proof.Machine

/-!
Frames of the functions of the line, the Blotter and tributaries.
-/
namespace Sys2Proof.Machine
open Sys2Proof
section
variable {ρ : Region} {s₀ : Device}

@[simp] theorem kept_modSide (c : Carrier) (host : Bool) (f : SideSt → SideSt) (s : Device) (hρ : ρ ∉ parts [.line]) :
    Kept ρ s₀ (modSide c host f s) ↔ Kept ρ s₀ s := by
  simp at hρ
  simp [modSide, hρ]

@[simp] theorem kept_modGrp (g : Nat) (f : GroupSt → GroupSt) (s : Device) (hρ : ρ ∉ parts [.tribs]) :
    Kept ρ s₀ (modGrp g f s) ↔ Kept ρ s₀ s := by
  simp at hρ
  simp [modGrp, hρ]

@[simp] theorem kept_evalSide (c : Carrier) (host : Bool) (s : Device) (hρ : ρ ∉ parts [.line, .stack]) :
    Kept ρ s₀ (evalSide c host s) ↔ Kept ρ s₀ s := by
  simp at hρ
  unfold evalSide
  dsimp only
  (repeat' split) <;> simp [hρ]

@[simp] theorem kept_evalActions (c : Carrier) (s : Device) (hρ : ρ ∉ parts [.line]) :
    Kept ρ s₀ (evalActions c s) ↔ Kept ρ s₀ s := by
  simp at hρ
  simp [evalActions, hρ]

@[simp] theorem kept_evalLine (c : Carrier) (s : Device) (hρ : ρ ∉ parts [.line, .stack]) :
    Kept ρ s₀ (evalLine c s) ↔ Kept ρ s₀ s := by
  simp at hρ
  simp [evalLine, hρ]

@[simp] theorem kept_lineDefectEvent (c : Carrier) (host : Bool) (s : Device) (hρ : ρ ∉ parts [.line, .evq]) :
    Kept ρ s₀ (lineDefectEvent c host s) ↔ Kept ρ s₀ s := by
  simp at hρ
  simp [lineDefectEvent, hρ]

@[simp] theorem kept_lineControlTick (c : Carrier) (s : Device) (hρ : ρ ∉ parts [.line, .stack, .pendSet, .evq]) :
    Kept ρ s₀ (lineControlTick c s) ↔ Kept ρ s₀ s := by
  simp at hρ
  simp [lineControlTick, hρ]

@[simp] theorem kept_ohpExtract (c : Carrier) (i : FrameIn) (s : Device) (hρ : ρ ∉ parts [.line]) :
    Kept ρ s₀ (ohpExtract c i s) ↔ Kept ρ s₀ s := by
  simp at hρ
  simp [ohpExtract, hρ]

@[simp] theorem kept_takeFrame (c : Carrier) (host : Bool) (i : FrameIn) (s : Device) (hρ : ρ ∉ parts [.line, .evq]) :
    Kept ρ s₀ (takeFrame c host i s) ↔ Kept ρ s₀ s := by
  simp at hρ
  simp [takeFrame, hρ]

@[simp] theorem kept_lineFrame (c : Carrier) (host : Bool) (i : FrameIn) (s : Device)
    (hρ : ρ ∉ parts [.fec, .line, .stack, .pendSet, .evq]) :
    Kept ρ s₀ (lineFrame c host i s) ↔ Kept ρ s₀ s := by
  simp at hρ
  simp [lineFrame, hρ]

@[simp] theorem kept_countNso (c : Carrier) (x : Nat) (s : Device) (hρ : ρ ∉ parts [.rx, .line, .evq]) :
    Kept ρ s₀ (countNso c x s) ↔ Kept ρ s₀ s := by
  simp at hρ
  have rx (f : RxSt → RxSt) (t : Device) : Kept ρ s₀ (modRx c f t) ↔ Kept ρ s₀ t := by simp [hρ]
  unfold countNso
  dsimp only
  split
  · split
    · exact rx _ _
    split
    · rw [rx]
      simp [hρ]
    · exact rx _ _
  · split
    · exact rx _ _
    · exact rx _ _

@[simp] theorem kept_nsoDiscard (c : Carrier) (s : Device) (hρ : ρ ∉ parts [.rx, .line]) :
    Kept ρ s₀ (nsoDiscard c s) ↔ Kept ρ s₀ s := by
  simp at hρ
  simp [nsoDiscard, hρ]

@[simp] theorem kept_sdEvaluation (c : Carrier) (s : Device) (hρ : ρ ∉ parts [.line, .pendSet]) :
    Kept ρ s₀ (sdEvaluation c s) ↔ Kept ρ s₀ s := by
  simp at hρ
  simp [sdEvaluation, hρ]

@[simp] theorem kept_lineSlowTick (c : Carrier) (s : Device) (hρ : ρ ∉ parts [.line, .stack, .pendSet, .evq]) :
    Kept ρ s₀ (lineSlowTick c s) ↔ Kept ρ s₀ s := by
  simp at hρ
  simp [lineSlowTick, hρ]

@[simp] theorem kept_lineEpoch (c : Carrier) (s : Device) (hρ : ρ ∉ parts [.line, .stack, .pendSet]) :
    Kept ρ s₀ (lineEpoch c s) ↔ Kept ρ s₀ s := by
  simp at hρ
  simp [lineEpoch, hρ]

@[simp] theorem kept_insertFrames (c : Carrier) (pad : OhFrame) (n : Nat) (s : Device) (hρ : ρ ∉ parts [.line]) :
    Kept ρ s₀ (insertFrames c pad n s) ↔ Kept ρ s₀ s := by
  induction n generalizing s with
  | zero => rfl
  | succ n ih => rw [insertFrames, ih, kept_emit, kept_modLine _ _ _ hρ]

@[simp] theorem kept_padFrame (s : Device) (hρ : ρ ∉ parts [.fresh]) :
    Kept ρ s₀ (padFrame s).2 ↔ Kept ρ s₀ s := by
  simp at hρ
  simp [padFrame, hρ]

@[simp] theorem kept_ohpPort (c : Carrier) (i : OhpIn) (s : Device) (hρ : ρ ∉ parts [.line, .fresh]) :
    Kept ρ s₀ (ohpPort c i s) ↔ Kept ρ s₀ s := by
  simp at hρ
  simp [ohpPort, hρ]

@[simp] theorem kept_ohpFrame (a b : OhpIn) (s : Device) (hρ : ρ ∉ parts [.line, .fresh]) :
    Kept ρ s₀ (ohpFrame a b s) ↔ Kept ρ s₀ s := by
  simp at hρ
  simp [ohpFrame, hρ]

@[simp] theorem kept_ohpStop (c : Carrier) (s : Device) (hρ : ρ ∉ parts [.line]) :
    Kept ρ s₀ (ohpStop c s) ↔ Kept ρ s₀ s := by
  simp at hρ
  simp [ohpStop, hρ]

@[simp] theorem kept_ohpFsLoss (s : Device)
    (hρ : ρ ∉ parts [.line, .ohpFs, .crypto, .kme, .mem, .stack, .clock, .fault]) :
    Kept ρ s₀ (ohpFsLoss s) ↔ Kept ρ s₀ s := by
  simp at hρ
  simp [ohpFsLoss, hρ]

@[simp] theorem kept_ohpFsReturn (s : Device) (hρ : ρ ∉ parts [.ohpFs, .fault]) :
    Kept ρ s₀ (ohpFsReturn s) ↔ Kept ρ s₀ s := by
  simp at hρ
  simp [ohpFsReturn, hρ]

@[simp] theorem kept_zrFrameAlignment (c : Carrier) (locked : Bool) (map : Nat) (s : Device)
    (hρ : ρ ∉ parts [.rx, .line, .crypto, .kme, .mem, .stack, .clock, .fault, .pendSet, .evq]) :
    Kept ρ s₀ (zrFrameAlignment c locked map s) ↔ Kept ρ s₀ s := by
  simp at hρ
  simp [zrFrameAlignment, hρ]

@[simp] theorem kept_lineTxSuperframe (c : Carrier) (s : Device) (hρ : ρ ∉ parts [.line]) :
    Kept ρ s₀ (lineTxSuperframe c s) ↔ Kept ρ s₀ s := by
  simp at hρ
  simp [lineTxSuperframe, hρ]

@[simp] theorem kept_act_lineConfigCmd (r : Req) (s : Device) (hρ : ρ ∉ parts [.settings, .pendSet]) :
    Kept ρ s₀ (lineConfigCmd.act r s).2 ↔ Kept ρ s₀ s := by
  simp at hρ
  simp [lineConfigCmd, hρ]

@[simp] theorem kept_act_lineDefectsCmd (r : Req) (s : Device) :
    Kept ρ s₀ (lineDefectsCmd.act r s).2 ↔ Kept ρ s₀ s := by
  simp [lineDefectsCmd]

@[simp] theorem kept_act_lineTtiCmd (r : Req) (s : Device) (hρ : ρ ∉ parts [.line]) :
    Kept ρ s₀ (lineTtiCmd.act r s).2 ↔ Kept ρ s₀ s := by
  simp at hρ
  simp [lineTtiCmd, hρ]

@[simp] theorem kept_act_lineTtiReadCmd (r : Req) (s : Device) :
    Kept ρ s₀ (lineTtiReadCmd.act r s).2 ↔ Kept ρ s₀ s := by
  simp [lineTtiReadCmd]

@[simp] theorem kept_act_ohpConfigCmd (r : Req) (s : Device) (hρ : ρ ∉ parts [.settings, .pendSet]) :
    Kept ρ s₀ (ohpConfigCmd.act r s).2 ↔ Kept ρ s₀ s := by
  simp at hρ
  simp [ohpConfigCmd, hρ]

@[simp] theorem kept_act_ohpStatusCmd (r : Req) (s : Device) :
    Kept ρ s₀ (ohpStatusCmd.act r s).2 ↔ Kept ρ s₀ s := by
  simp [ohpStatusCmd]

@[simp] theorem kept_act_lineClearCmd (r : Req) (s : Device) (hρ : ρ ∉ parts [.line]) :
    Kept ρ s₀ (lineClearCmd.act r s).2 ↔ Kept ρ s₀ s := by
  simp at hρ
  simp [lineClearCmd, hρ]

@[simp] theorem kept_blotterTriggerPoint (i : Fin 4) (s : Device) (hρ : ρ ∉ parts [.mem]) :
    Kept ρ s₀ (blotterTriggerPoint i s) ↔ Kept ρ s₀ s := by
  simp at hρ
  unfold blotterTriggerPoint
  dsimp only
  (repeat' split) <;> simp [hρ]

@[simp] theorem kept_captureComplete (i : Fin 4) (x : CaptureIn) (s : Device) (hρ : ρ ∉ parts [.mem, .fresh]) :
    Kept ρ s₀ (captureComplete i x s) ↔ Kept ρ s₀ s := by
  simp at hρ
  unfold captureComplete
  dsimp only
  (repeat' split) <;> simp [hρ]

@[simp] theorem kept_trigInEdge (falling : Bool) (t : Time) (s : Device) (hρ : ρ ∉ parts [.mem, .stack]) :
    Kept ρ s₀ (trigInEdge falling t s) ↔ Kept ρ s₀ s := by
  simp at hρ
  simp [trigInEdge, hρ]

@[simp] theorem kept_captureReadoutEntry (i : Fin 4) (s : Device) (hρ : ρ ∉ parts [.mem, .host, .fresh]) :
    Kept ρ s₀ (captureReadoutEntry i s) ↔ Kept ρ s₀ s := by
  simp at hρ
  unfold captureReadoutEntry
  dsimp only
  (repeat' split) <;> simp [hρ]

@[simp] theorem kept_spillComplete (i : Fin 4) (s : Device) (hρ : ρ ∉ parts [.mem, .boot, .fresh]) :
    Kept ρ s₀ (spillComplete i s) ↔ Kept ρ s₀ s := by
  simp at hρ
  simp [spillComplete, hρ]

@[simp] theorem kept_act_blotterArmCmd (r : Req) (s : Device) (hρ : ρ ∉ parts [.mem]) :
    Kept ρ s₀ (blotterArmCmd.act r s).2 ↔ Kept ρ s₀ s := by
  simp at hρ
  unfold blotterArmCmd
  dsimp only
  (repeat' split) <;> simp [hρ]

@[simp] theorem kept_act_blotterTriggerCmd (r : Req) (s : Device) (hρ : ρ ∉ parts [.mem, .stack]) :
    Kept ρ s₀ (blotterTriggerCmd.act r s).2 ↔ Kept ρ s₀ s := by
  simp at hρ
  simp [blotterTriggerCmd, hρ]

@[simp] theorem kept_act_blotterStatusCmd (r : Req) (s : Device) :
    Kept ρ s₀ (blotterStatusCmd.act r s).2 ↔ Kept ρ s₀ s := by
  simp [blotterStatusCmd]

@[simp] theorem kept_act_blotterReadCmd (r : Req) (s : Device) (hρ : ρ ∉ parts [.mem]) :
    Kept ρ s₀ (blotterReadCmd.act r s).2 ↔ Kept ρ s₀ s := by
  simp at hρ
  unfold blotterReadCmd
  dsimp only
  (repeat' split) <;> simp [hρ]

@[simp] theorem kept_act_blotterSpillCmd (r : Req) (s : Device) (hρ : ρ ∉ parts [.mem]) :
    Kept ρ s₀ (blotterSpillCmd.act r s).2 ↔ Kept ρ s₀ s := by
  simp at hρ
  simp [blotterSpillCmd, hρ]

@[simp] theorem kept_act_blotterFreeCmd (r : Req) (s : Device) (hρ : ρ ∉ parts [.mem, .host, .evq]) :
    Kept ρ s₀ (blotterFreeCmd.act r s).2 ↔ Kept ρ s₀ s := by
  simp at hρ
  simp [blotterFreeCmd, hρ]
  (repeat' split) <;> simp [hρ]

end

end Sys2Proof.Machine

/-!
Frames of the functions of protection, host lanes and the latency equaliser.
-/
namespace Sys2Proof.Machine
open Sys2Proof
section
variable {ρ : Region} {s₀ : Device}

@[simp] theorem kept_modTrib (line t : Nat) (f : TribSt → TribSt) (s : Device) (hρ : ρ ∉ parts [.tribs]) :
    Kept ρ s₀ (modTrib line t f s) ↔ Kept ρ s₀ s := by
  simp at hρ
  simp [modTrib, hρ]

@[simp] theorem kept_evalTrib (k : ClientPlan) (s : Device) (hρ : ρ ∉ parts [.tribs]) :
    Kept ρ s₀ (evalTrib k s) ↔ Kept ρ s₀ s := by
  simp at hρ
  simp [evalTrib, hρ]

@[simp] theorem kept_evalTribs (s : Device) (hρ : ρ ∉ parts [.tribs]) :
    Kept ρ s₀ (evalTribs s) ↔ Kept ρ s₀ s := by
  simp at hρ
  simp [evalTribs, hρ]

@[simp] theorem kept_tribFrame (line : Nat) (mark : Bool) (x : TribFrame) (s : Device)
    (hρ : ρ ∉ parts [.tribs, .pendSet, .evq]) :
    Kept ρ s₀ (tribFrame line mark x s) ↔ Kept ρ s₀ s := by
  simp at hρ
  unfold tribFrame
  split <;> simp [hρ]

@[simp] theorem kept_tribControlTick (s : Device) (hρ : ρ ∉ parts [.tribs, .pendSet]) :
    Kept ρ s₀ (tribControlTick s) ↔ Kept ρ s₀ s := by
  simp at hρ
  simp [tribControlTick, hρ]

@[simp] theorem kept_tribEpoch (s : Device) (hρ : ρ ∉ parts [.tribs]) :
    Kept ρ s₀ (tribEpoch s) ↔ Kept ρ s₀ s := by
  simp at hρ
  simp [tribEpoch, hρ]

@[simp] theorem kept_takeGroupField (c : Carrier) (nso : List Byte) (s : Device) (hρ : ρ ∉ parts [.line]) :
    Kept ρ s₀ (takeGroupField c nso s) ↔ Kept ρ s₀ s := by
  simp at hρ
  simp [takeGroupField, hρ]

@[simp] theorem kept_storeRec (x : GrpRecItem) (s : Device) (hρ : ρ ∉ parts [.tribs]) :
    Kept ρ s₀ (storeRec x s) ↔ Kept ρ s₀ s := by
  simp at hρ
  simp [storeRec, hρ]

@[simp] theorem kept_groupRecordReceived (p : Fin 4) (x : GrpRecItem) (s : Device) (hρ : ρ ∉ parts [.tribs, .stack]) :
    Kept ρ s₀ (groupRecordReceived p x s) ↔ Kept ρ s₀ s := by
  simp at hρ
  simp [groupRecordReceived, hρ]

@[simp] theorem kept_formRecord (c : Carrier) (t : Time) (s : Device) (hρ : ρ ∉ parts [.line, .tribs, .stack]) :
    Kept ρ s₀ (formRecord c t s) ↔ Kept ρ s₀ s := by
  simp at hρ
  unfold formRecord
  split <;> simp [hρ]

@[simp] theorem kept_groupFaults (g : GroupPlan) (s : Device)
    (hρ : ρ ∉ parts [.crypto, .kme, .mem, .stack, .clock, .fault]) :
    Kept ρ s₀ (groupFaults g s) ↔ Kept ρ s₀ s := by
  simp at hρ
  simp [groupFaults, hρ]

@[simp] theorem kept_evalGroupLines (g : Nat) (s : Device) (hρ : ρ ∉ parts [.line, .stack]) :
    Kept ρ s₀ (evalGroupLines g s) ↔ Kept ρ s₀ s := by
  simp at hρ
  simp [evalGroupLines, hρ]

@[simp] theorem kept_groupLoaChange (k : Fin 16) (s : Device)
    (hρ : ρ ∉ parts [.line, .tribs, .crypto, .kme, .mem, .stack, .clock, .fault]) :
    Kept ρ s₀ (groupLoaChange k s) ↔ Kept ρ s₀ s := by
  simp at hρ
  unfold groupLoaChange
  split <;> simp [hρ]

@[simp] theorem kept_groupRelease (k : Fin 16) (n : BitVec 32) (s : Device)
    (hρ : ρ ∉ parts [.tribs, .crypto, .kme, .mem, .stack, .clock, .fault, .pendSet]) :
    Kept ρ s₀ (groupRelease k n s) ↔ Kept ρ s₀ s := by
  simp at hρ
  unfold groupRelease
  split <;> simp [hρ]

@[simp] theorem kept_modScheme (k : Nat) (f : SchemeSt → SchemeSt) (s : Device) (hρ : ρ ∉ parts [.tribs]) :
    Kept ρ s₀ (modScheme k f s) ↔ Kept ρ s₀ s := by
  simp at hρ
  simp [modScheme, hρ]

@[simp] theorem kept_setCopy (c : Carrier) (st : CopyState) (s : Device) (hρ : ρ ∉ parts [.tribs, .evq]) :
    Kept ρ s₀ (setCopy c st s) ↔ Kept ρ s₀ s := by
  simp at hρ
  simp [setCopy, hρ]

@[simp] theorem kept_mergeCopy (c : Carrier) (behind lead : Int) (s : Device)
    (hρ : ρ ∉ parts [.tribs, .crypto, .kme, .mem, .stack, .clock, .fault, .evq]) :
    Kept ρ s₀ (mergeCopy c behind lead s) ↔ Kept ρ s₀ s := by
  simp at hρ
  unfold mergeCopy
  dsimp only
  (repeat' split) <;> simp [hρ]

@[simp] theorem kept_mergeOffsets (i : MergeIn) (s : Device) (hρ : ρ ∉ parts [.tribs, .evq]) :
    Kept ρ s₀ (mergeOffsets i s) ↔ Kept ρ s₀ s := by
  simp at hρ
  simp [mergeOffsets, hρ]

@[simp] theorem kept_mergeFrameRelease (i : MergeIn) (s : Device)
    (hρ : ρ ∉ parts [.line, .tribs, .stack, .pendSet, .evq]) :
    Kept ρ s₀ (mergeFrameRelease i s) ↔ Kept ρ s₀ s := by
  simp at hρ
  unfold mergeFrameRelease
  dsimp only
  (repeat' split) <;> simp [hρ]

@[simp] theorem kept_protSwitch (k : Nat) (s : Device) (hρ : ρ ∉ parts [.tribs, .evq]) :
    Kept ρ s₀ (protSwitch k s) ↔ Kept ρ s₀ s := by
  simp at hρ
  unfold protSwitch
  dsimp only
  (repeat' split) <;> simp [hρ]

@[simp] theorem kept_protEvaluate (k : Nat) (s : Device) (hρ : ρ ∉ parts [.tribs, .evq]) :
    Kept ρ s₀ (protEvaluate k s) ↔ Kept ρ s₀ s := by
  simp at hρ
  simp [protEvaluate, hρ]

@[simp] theorem kept_queueAps (s : Device) (hρ : ρ ∉ parts [.ostc]) :
    Kept ρ s₀ (queueAps s) ↔ Kept ρ s₀ s := by
  simp at hρ
  simp [queueAps, hρ]

@[simp] theorem kept_protTxSuperframe (c : Carrier) (s : Device) (hρ : ρ ∉ parts [.ostc]) :
    Kept ρ s₀ (protTxSuperframe c s) ↔ Kept ρ s₀ s := by
  simp at hρ
  simp [protTxSuperframe, hρ]

@[simp] theorem kept_protFrame (c : Carrier) (s : Device) (hρ : ρ ∉ parts [.tribs, .evq]) :
    Kept ρ s₀ (protFrame c s) ↔ Kept ρ s₀ s := by
  simp at hρ
  unfold protFrame
  exact kept_each _ _ _ (fun _ _ => by simp [hρ])

@[simp] theorem kept_otucFrame (c : Carrier) (host : Bool) (i : FrameIn) (s : Device)
    (hρ : ρ ∉ parts [.fec, .line, .tribs, .stack, .pendSet, .evq]) :
    Kept ρ s₀ (otucFrame c host i s) ↔ Kept ρ s₀ s := by
  simp at hρ
  simp [otucFrame, hρ]

@[simp] theorem kept_protSchemeTick (k : Nat) (s : Device) (hρ : ρ ∉ parts [.tribs, .fault, .pendSet, .evq]) :
    Kept ρ s₀ (protSchemeTick k s) ↔ Kept ρ s₀ s := by
  simp at hρ
  simp [protSchemeTick, hρ]

@[simp] theorem kept_protSlowTick (s : Device) (hρ : ρ ∉ parts [.tribs, .ostc, .fault, .pendSet, .evq]) :
    Kept ρ s₀ (protSlowTick s) ↔ Kept ρ s₀ s := by
  simp at hρ
  simp [protSlowTick, hρ]

@[simp] theorem kept_protEpoch (s : Device) (hρ : ρ ∉ parts [.tribs]) :
    Kept ρ s₀ (protEpoch s) ↔ Kept ρ s₀ s := by
  simp at hρ
  simp [protEpoch, hρ]

@[simp] theorem kept_protHoldOffExpiry (k : Fin 33) (s : Device) (hρ : ρ ∉ parts [.tribs, .evq]) :
    Kept ρ s₀ (protHoldOffExpiry k s) ↔ Kept ρ s₀ s := by
  simp at hρ
  simp [protHoldOffExpiry, hρ]

@[simp] theorem kept_protWtrExpiry (k : Fin 33) (s : Device) (hρ : ρ ∉ parts [.tribs, .evq]) :
    Kept ρ s₀ (protWtrExpiry k s) ↔ Kept ρ s₀ s := by
  simp at hρ
  simp [protWtrExpiry, hρ]

@[simp] theorem kept_apsReceived (k : Fin 33) (b : List Byte) (s : Device) (hρ : ρ ∉ parts [.tribs]) :
    Kept ρ s₀ (apsReceived k b s) ↔ Kept ρ s₀ s := by
  simp at hρ
  simp [apsReceived, hρ]

@[simp] theorem kept_protApsMismatch (k : Fin 33) (s : Device)
    (hρ : ρ ∉ parts [.tribs, .crypto, .kme, .mem, .stack, .clock, .fault, .evq]) :
    Kept ρ s₀ (protApsMismatch k s) ↔ Kept ρ s₀ s := by
  simp at hρ
  simp [protApsMismatch, hρ]

@[simp] theorem kept_act_tribConfigCmd (r : Req) (s : Device) (hρ : ρ ∉ parts [.settings, .pendSet]) :
    Kept ρ s₀ (tribConfigCmd.act r s).2 ↔ Kept ρ s₀ s := by
  simp at hρ
  simp [tribConfigCmd, hρ]

@[simp] theorem kept_act_tribStatusCmd (r : Req) (s : Device) :
    Kept ρ s₀ (tribStatusCmd.act r s).2 ↔ Kept ρ s₀ s := by
  simp [tribStatusCmd]

@[simp] theorem kept_act_tribTtiCmd (r : Req) (s : Device) (hρ : ρ ∉ parts [.tribs]) :
    Kept ρ s₀ (tribTtiCmd.act r s).2 ↔ Kept ρ s₀ s := by
  simp at hρ
  simp [tribTtiCmd, hρ]

@[simp] theorem kept_act_groupConfigCmd (r : Req) (s : Device) (hρ : ρ ∉ parts [.settings, .pendSet]) :
    Kept ρ s₀ (groupConfigCmd.act r s).2 ↔ Kept ρ s₀ s := by
  simp at hρ
  simp [groupConfigCmd, hρ]

@[simp] theorem kept_act_groupStatusCmd (r : Req) (s : Device) :
    Kept ρ s₀ (groupStatusCmd.act r s).2 ↔ Kept ρ s₀ s := by
  simp [groupStatusCmd]

@[simp] theorem kept_act_protConfigCmd (r : Req) (s : Device) (hρ : ρ ∉ parts [.settings, .pendSet]) :
    Kept ρ s₀ (protConfigCmd.act r s).2 ↔ Kept ρ s₀ s := by
  simp at hρ
  simp [protConfigCmd, hρ]

@[simp] theorem kept_act_protCmd (code : Nat) (f : SchemeSt → SchemeSt) (r : Req) (s : Device)
    (hρ : ρ ∉ parts [.tribs]) :
    Kept ρ s₀ ((protCmd code f).act r s).2 ↔ Kept ρ s₀ s := by
  simp at hρ
  simp [protCmd, hρ]

@[simp] theorem kept_act_protClearCmd (r : Req) (s : Device) (hρ : ρ ∉ parts [.tribs]) :
    Kept ρ s₀ (protClearCmd.act r s).2 ↔ Kept ρ s₀ s := by
  simp at hρ
  simp [protClearCmd, hρ]

@[simp] theorem kept_act_protLockoutCmd (r : Req) (s : Device) (hρ : ρ ∉ parts [.tribs]) :
    Kept ρ s₀ (protLockoutCmd.act r s).2 ↔ Kept ρ s₀ s := by
  simp at hρ
  simp [protLockoutCmd, hρ]

@[simp] theorem kept_act_protForcedCmd (r : Req) (s : Device) (hρ : ρ ∉ parts [.tribs]) :
    Kept ρ s₀ (protForcedCmd.act r s).2 ↔ Kept ρ s₀ s := by
  simp at hρ
  simp [protForcedCmd, hρ]

@[simp] theorem kept_act_protManualPCmd (r : Req) (s : Device) (hρ : ρ ∉ parts [.tribs]) :
    Kept ρ s₀ (protManualPCmd.act r s).2 ↔ Kept ρ s₀ s := by
  simp at hρ
  simp [protManualPCmd, hρ]

@[simp] theorem kept_act_protManualWCmd (r : Req) (s : Device) (hρ : ρ ∉ parts [.tribs]) :
    Kept ρ s₀ (protManualWCmd.act r s).2 ↔ Kept ρ s₀ s := by
  simp at hρ
  simp [protManualWCmd, hρ]

@[simp] theorem kept_act_protRealignCmd (r : Req) (s : Device) (hρ : ρ ∉ parts [.tribs]) :
    Kept ρ s₀ (protRealignCmd.act r s).2 ↔ Kept ρ s₀ s := by
  simp at hρ
  simp [protRealignCmd, hρ]

@[simp] theorem kept_act_protStatusCmd (r : Req) (s : Device) :
    Kept ρ s₀ (protStatusCmd.act r s).2 ↔ Kept ρ s₀ s := by
  simp [protStatusCmd]

@[simp] theorem kept_evalPassThrough (s : Device) (hρ : ρ ∉ parts [.line, .stack]) :
    Kept ρ s₀ (evalPassThrough s) ↔ Kept ρ s₀ s := by
  simp at hρ
  simp [evalPassThrough, hρ]

@[simp] theorem kept_evalDeskew (k : ClientPlan) (s : Device)
    (hρ : ρ ∉ parts [.crypto, .kme, .mem, .lanes, .stack, .clock, .fault]) :
    Kept ρ s₀ (evalDeskew k s) ↔ Kept ρ s₀ s := by
  simp at hρ
  simp [evalDeskew, hρ]

@[simp] theorem kept_reportOrder (k : ClientPlan) (s : Device) (hρ : ρ ∉ parts [.evq]) :
    Kept ρ s₀ (reportOrder k s) ↔ Kept ρ s₀ s := by
  simp at hρ
  simp [reportOrder, hρ]

@[simp] theorem kept_setLane (i : Nat) (st : LaneState) (s : Device)
    (hρ : ρ ∉ parts [.line, .crypto, .kme, .mem, .lanes, .stack, .clock, .fault, .host, .evq]) :
    Kept ρ s₀ (setLane i st s) ↔ Kept ρ s₀ s := by
  simp at hρ
  unfold setLane
  dsimp only
  (repeat' split) <;> simp [hρ]

@[simp] theorem kept_hlSignalDetect (i : Fin 32) (present : Bool) (s : Device)
    (hρ : ρ ∉ parts [.line, .crypto, .kme, .mem, .lanes, .stack, .clock, .fault, .host, .evq]) :
    Kept ρ s₀ (hlSignalDetect i present s) ↔ Kept ρ s₀ s := by
  simp at hρ
  unfold hlSignalDetect
  dsimp only
  (repeat' split) <;> simp [hρ]

@[simp] theorem kept_hlLockChange (i : Fin 32) (cdr : Bool) (ber : Nat) (s : Device)
    (hρ : ρ ∉ parts [.line, .crypto, .kme, .mem, .lanes, .stack, .clock, .fault, .host, .evq]) :
    Kept ρ s₀ (hlLockChange i cdr ber s) ↔ Kept ρ s₀ s := by
  simp at hρ
  unfold hlLockChange
  dsimp only
  (repeat' split) <;> simp [hρ]

@[simp] theorem kept_hlAdaptTimeout (i : Fin 32) (s : Device)
    (hρ : ρ ∉ parts [.crypto, .kme, .mem, .lanes, .stack, .clock, .fault]) :
    Kept ρ s₀ (hlAdaptTimeout i s) ↔ Kept ρ s₀ s := by
  simp at hρ
  simp [hlAdaptTimeout, hρ]

@[simp] theorem kept_hlPolarity (i : Fin 32) (locks : Bool) (s : Device) (hρ : ρ ∉ parts [.lanes, .evq]) :
    Kept ρ s₀ (hlPolarity i locks s) ↔ Kept ρ s₀ s := by
  simp at hρ
  simp [hlPolarity, hρ]

@[simp] theorem kept_alignmentMarkerLock (i : Fin 32) (gained : Bool) (id : Nat) (s : Device)
    (hρ : ρ ∉ parts [.line, .tribs, .crypto, .kme, .mem, .lanes, .stack, .clock, .fault, .evq]) :
    Kept ρ s₀ (alignmentMarkerLock i gained id s) ↔ Kept ρ s₀ s := by
  simp at hρ
  unfold alignmentMarkerLock
  dsimp only
  (repeat' split) <;> simp [hρ]

@[simp] theorem kept_hlDeskewFail (first : Fin 32) (exceeds : Bool) (s : Device)
    (hρ : ρ ∉ parts [.line, .tribs, .crypto, .kme, .mem, .lanes, .stack, .clock, .fault]) :
    Kept ρ s₀ (hlDeskewFail first exceeds s) ↔ Kept ρ s₀ s := by
  simp at hρ
  unfold hlDeskewFail
  split <;> simp [hρ]

@[simp] theorem kept_hlRefclkLoss (k : Fin 8) (s : Device)
    (hρ : ρ ∉ parts [.line, .crypto, .kme, .mem, .lanes, .stack, .clock, .fault, .host, .evq]) :
    Kept ρ s₀ (hlRefclkLoss k s) ↔ Kept ρ s₀ s := by
  simp at hρ
  simp [hlRefclkLoss, hρ]

@[simp] theorem kept_hlRefclkReturn (k : Fin 8) (s : Device) (hρ : ρ ∉ parts [.lanes, .fault]) :
    Kept ρ s₀ (hlRefclkReturn k s) ↔ Kept ρ s₀ s := by
  simp at hρ
  simp [hlRefclkReturn, hρ]

@[simp] theorem kept_hlResetRelease (k : Fin 8) (s : Device)
    (hρ : ρ ∉ parts [.timing, .stack, .clock, .fault, .boot, .host, .evq]) :
    Kept ρ s₀ (hlResetRelease k s) ↔ Kept ρ s₀ s := by
  simp at hρ
  simp [hlResetRelease, hρ]

@[simp] theorem kept_eyeScanComplete (i : Fin 32) (maps : List Byte) (s : Device)
    (hρ : ρ ∉ parts [.lanes, .host, .evq]) :
    Kept ρ s₀ (eyeScanComplete i maps s) ↔ Kept ρ s₀ s := by
  simp at hρ
  unfold eyeScanComplete
  split <;> simp [hρ]

@[simp] theorem kept_laneTick (i : Nat) (s : Device)
    (hρ : ρ ∉ parts [.line, .crypto, .kme, .mem, .lanes, .stack, .clock, .fault, .host, .evq]) :
    Kept ρ s₀ (laneTick i s) ↔ Kept ρ s₀ s := by
  simp at hρ
  simp [laneTick, hρ]

@[simp] theorem kept_lineLoopTick (c : Carrier) (s : Device)
    (hρ : ρ ∉ parts [.rx, .crypto, .kme, .mem, .stack, .clock, .fault, .pendSet, .evq]) :
    Kept ρ s₀ (lineLoopTick c s) ↔ Kept ρ s₀ s := by
  simp at hρ
  simp [lineLoopTick, hρ]

@[simp] theorem kept_lanesControlTick (s : Device)
    (hρ : ρ ∉ parts [.rx, .line, .crypto, .kme, .mem, .lanes, .stack, .clock, .fault, .host, .pendSet, .evq]) :
    Kept ρ s₀ (lanesControlTick s) ↔ Kept ρ s₀ s := by
  simp at hρ
  simp [lanesControlTick, hρ]

@[simp] theorem kept_lanesSlowTick (l : List LaneMeas) (s : Device) (hρ : ρ ∉ parts [.lanes]) :
    Kept ρ s₀ (lanesSlowTick l s) ↔ Kept ρ s₀ s := by
  simp at hρ
  simp [lanesSlowTick, hρ]

@[simp] theorem kept_act_hlConfigCmd (r : Req) (s : Device) (hρ : ρ ∉ parts [.settings, .pendSet]) :
    Kept ρ s₀ (hlConfigCmd.act r s).2 ↔ Kept ρ s₀ s := by
  simp at hρ
  simp [hlConfigCmd, hρ]

@[simp] theorem kept_act_hlStatusCmd (r : Req) (s : Device) :
    Kept ρ s₀ (hlStatusCmd.act r s).2 ↔ Kept ρ s₀ s := by
  simp [hlStatusCmd]

@[simp] theorem kept_act_hlEyeScanCmd (r : Req) (s : Device) (hρ : ρ ∉ parts [.lanes]) :
    Kept ρ s₀ (hlEyeScanCmd.act r s).2 ↔ Kept ρ s₀ s := by
  simp at hρ
  simp [hlEyeScanCmd, hρ]

@[simp] theorem kept_act_hlEyeReadCmd (r : Req) (s : Device) :
    Kept ρ s₀ (hlEyeReadCmd.act r s).2 ↔ Kept ρ s₀ s := by
  simp [hlEyeReadCmd]

theorem kept_act_hlResetCmd (r : Req) {s : Device} (h : Kept .stores s₀ s) :
    Kept .stores s₀ (hlResetCmd.act r s).2 := kept_enterDomain _ _ h

@[simp] theorem kept_act_hlClearCmd (r : Req) (s : Device) (hρ : ρ ∉ parts [.lanes]) :
    Kept ρ s₀ (hlClearCmd.act r s).2 ↔ Kept ρ s₀ s := by
  simp at hρ
  simp [hlClearCmd, hρ]

@[simp] theorem kept_act_carrierLoopbackCmd (r : Req) (s : Device) (hρ : ρ ∉ parts [.settings, .pendSet]) :
    Kept ρ s₀ (carrierLoopbackCmd.act r s).2 ↔ Kept ρ s₀ s := by
  simp at hρ
  simp [carrierLoopbackCmd, hρ]

end

end Sys2Proof.Machine

/-!
Frames of the functions of the latency equaliser and the buffer memory.
-/
namespace Sys2Proof.Machine
open Sys2Proof
section
variable {ρ : Region} {s₀ : Device}

@[simp] theorem kept_modLeqPort (p : Nat) (f : LeqPort → LeqPort) (s : Device) (hρ : ρ ∉ parts [.mem]) :
    Kept ρ s₀ (modLeqPort p f s) ↔ Kept ρ s₀ s := by
  simp at hρ
  simp [modLeqPort, hρ]

@[simp] theorem kept_modQueue (q : Nat) (f : QueueSt → QueueSt) (s : Device) (hρ : ρ ∉ parts [.mem]) :
    Kept ρ s₀ (modQueue q f s) ↔ Kept ρ s₀ s := by
  simp at hρ
  simp [modQueue, hρ]

theorem nearest_snd (v m t : Int) (s : Device) :
    (nearest v m t s).2 = s ∨ (nearest v m t s).2 = (drawNat s).2 := by
  unfold nearest
  generalize drawNat s = drawn
  dsimp only
  split
  · exact .inl rfl
  split
  · exact .inl rfl
  · exact .inr rfl

@[simp] theorem kept_nearest (v m t : Int) (s : Device) (hρ : ρ ∉ parts [.fresh]) :
    Kept ρ s₀ (nearest v m t s).2 ↔ Kept ρ s₀ s := by
  rcases nearest_snd v m t s with h | h <;> rw [h]
  exact kept_drawNat _ hρ

/-- `embedded` over the fields it reads: a proof about it does not evaluate them. -/
def embeddedOf (near : Int → Int → Int → Device → Int × Device) (n : Nat → Nat) (add : Int)
    (fld : Nat → Option (List Byte)) (arrival : Nat) (s : Device) : Option Int × Device :=
  match n 1 with
  | 0 =>
    match fld 10 with
    | some b => (some (((fromBe (b.take 6) * SEC + fromBe (b.drop 6) * NS : Nat) : Int) + add), s)
    | none => (none, s)
  | 1 =>
    match fld 8 with
    | some b =>
      let r := near ((fromBe (b.take 4) * SEC + fromBe (b.drop 4) * NS : Nat) : Int) ((2 ^ 32 * SEC : Nat) : Int)
        (arrival : Int) s
      (some (r.1 + add), r.2)
    | none => (none, s)
  | 2 =>
    match fld 8 with
    | some b =>
      let w0 := rd b 0 4
      let w1 := rd b 4 4
      let frame := w1 % 2 ^ 24
      if tb w0 31 || n 8 ≤ frame then (none, s)
      else
        let sec := vdifDays (w1 / 2 ^ 24 % 64) * 86400 + w0 % 2 ^ 30 + n 12
        (some (((sec * SEC + frame * SEC / n 8 : Nat) : Int) + add), s)
    | none => (none, s)
  | 3 =>
    match fld 4 with
    | some b =>
      let u := 2 ^ (16 - n 13)
      let r := near ((fromBe b * u : Nat) : Int) ((2 ^ 32 * u : Nat) : Int) (arrival : Int) s
      (some (r.1 + add), r.2)
    | none => (none, s)
  | _ => (some ((arrival : Int) + add), s)

theorem embedded_eq (prof : Nat) (x : LeqIn) (s : Device) :
    embedded prof x s = embeddedOf nearest (fun off => dsetN s 0x0B07 prof off) (dset s 0x0B07 prof 4 * (NS : Nat))
      (anchored x.bytes (dsetN s 0x0B07 prof 2) (dsetN s 0x0B07 prof 3)) x.arrival s := rfl

theorem kept_embeddedOf (near : Int → Int → Int → Device → Int × Device) (n : Nat → Nat) (add : Int)
    (fld : Nat → Option (List Byte)) (arrival : Nat) (s : Device)
    (drawn : ∀ v m t, Kept ρ s₀ (near v m t s).2 ↔ Kept ρ s₀ s) :
    Kept ρ s₀ (embeddedOf near n add fld arrival s).2 ↔ Kept ρ s₀ s := by
  unfold embeddedOf
  split
  · split <;> rfl
  · split
    · exact drawn _ _ _
    · rfl
  · split
    · extract_lets
      split <;> rfl
    · rfl
  · split
    · exact drawn _ _ _
    · rfl
  · rfl

@[simp] theorem kept_embedded (prof : Nat) (x : LeqIn) (s : Device) (hρ : ρ ∉ parts [.fresh]) :
    Kept ρ s₀ (embedded prof x s).2 ↔ Kept ρ s₀ s := by
  rw [embedded_eq, kept_embeddedOf _ _ _ _ _ _ fun v m t => kept_nearest v m t s hρ]

@[simp] theorem kept_storeFrame (k : Nat) (f : LeqFrame) (s : Device) (hρ : ρ ∉ parts [.mem]) :
    Kept ρ s₀ (storeFrame k f s) ↔ Kept ρ s₀ s := by
  simp at hρ
  simp [storeFrame, hρ]

@[simp] theorem kept_sendBypass (k : ClientPlan) (t : Time) (fuel : Nat) (s : Device) (hρ : ρ ∉ parts [.mem]) :
    Kept ρ s₀ (sendBypass k t fuel s) ↔ Kept ρ s₀ s := by
  simp at hρ
  induction fuel generalizing s with
  | zero => rfl
  | succ n ih =>
    unfold sendBypass
    dsimp only
    split
    · rfl
    rw [kept_ite, ih, kept_emit, kept_modLeqPort _ _ _ (by simp [hρ]), ite_self]

@[simp] theorem kept_sendLeqFrame (k : ClientPlan) (qn : Nat) (f : LeqFrame) (start : Time) (s : Device)
    (hρ : ρ ∉ parts [.mem]) :
    Kept ρ s₀ (sendLeqFrame k qn f start s) ↔ Kept ρ s₀ s := by
  simp at hρ
  simp [sendLeqFrame, hρ]

@[simp] theorem kept_dropPort (p : Nat) (s : Device) (hρ : ρ ∉ parts [.mem]) :
    Kept ρ s₀ (dropPort p s) ↔ Kept ρ s₀ s := by
  simp at hρ
  simp [dropPort, hρ]

@[simp] theorem kept_leqFrameRelease (p : Fin 32) (s : Device) (hρ : ρ ∉ parts [.mem]) :
    Kept ρ s₀ (leqFrameRelease p s) ↔ Kept ρ s₀ s := by
  simp at hρ
  unfold leqFrameRelease
  dsimp only
  (repeat' split) <;> simp [hρ]

@[simp] theorem kept_leqDrainComplete (q : Fin 32768) (s : Device) (hρ : ρ ∉ parts [.mem]) :
    Kept ρ s₀ (leqDrainComplete q s) ↔ Kept ρ s₀ s := by
  simp at hρ
  simp [leqDrainComplete, hρ]

@[simp] theorem kept_leqFrameArrival (x : LeqIn) (s : Device) (hρ : ρ ∉ parts [.mem, .fresh]) :
    Kept ρ s₀ (leqFrameArrival x s) ↔ Kept ρ s₀ s := by
  simp at hρ
  unfold leqFrameArrival
  dsimp only
  (repeat' split) <;> simp [hρ]

@[simp] theorem kept_leqControlTick (s : Device) (hρ : ρ ∉ parts [.mem]) :
    Kept ρ s₀ (leqControlTick s) ↔ Kept ρ s₀ s := by
  simp at hρ
  simp [leqControlTick, hρ]

@[simp] theorem kept_leqSlowTick (s : Device) (hρ : ρ ∉ parts [.crypto, .kme, .mem, .stack, .clock, .fault]) :
    Kept ρ s₀ (leqSlowTick s) ↔ Kept ρ s₀ s := by
  simp at hρ
  simp [leqSlowTick, hρ]

@[simp] theorem kept_leqEpoch (s : Device) (hρ : ρ ∉ parts [.mem]) :
    Kept ρ s₀ (leqEpoch s) ↔ Kept ρ s₀ s := by
  simp at hρ
  simp [leqEpoch, hρ]

@[simp] theorem kept_leqClear (s : Device) (hρ : ρ ∉ parts [.mem]) :
    Kept ρ s₀ (leqClear s) ↔ Kept ρ s₀ s := by
  simp at hρ
  simp [leqClear, hρ]

@[simp] theorem kept_act_leqPortConfigCmd (r : Req) (s : Device) (hρ : ρ ∉ parts [.settings, .pendSet]) :
    Kept ρ s₀ (leqPortConfigCmd.act r s).2 ↔ Kept ρ s₀ s := by
  simp at hρ
  simp [leqPortConfigCmd, hρ]

@[simp] theorem kept_act_leqKeyProfileCmd (r : Req) (s : Device) (hρ : ρ ∉ parts [.settings, .pendSet]) :
    Kept ρ s₀ (leqKeyProfileCmd.act r s).2 ↔ Kept ρ s₀ s := by
  simp at hρ
  simp [leqKeyProfileCmd, hρ]

@[simp] theorem kept_act_leqTsProfileCmd (r : Req) (s : Device) (hρ : ρ ∉ parts [.settings, .pendSet]) :
    Kept ρ s₀ (leqTsProfileCmd.act r s).2 ↔ Kept ρ s₀ s := by
  simp at hρ
  simp [leqTsProfileCmd, hρ]

@[simp] theorem kept_act_leqQueueConfigCmd (r : Req) (s : Device)
    (hρ : ρ ∉ parts [.mem, .host, .settings, .pendSet, .evq]) :
    Kept ρ s₀ (leqQueueConfigCmd.act r s).2 ↔ Kept ρ s₀ s := by
  simp at hρ
  unfold leqQueueConfigCmd
  dsimp only
  (repeat' split) <;> simp [hρ]

@[simp] theorem kept_act_leqQueueStatusCmd (r : Req) (s : Device) :
    Kept ρ s₀ (leqQueueStatusCmd.act r s).2 ↔ Kept ρ s₀ s := by
  simp [leqQueueStatusCmd]

@[simp] theorem kept_modTower (t : Nat) (f : TowerSt → TowerSt) (s : Device) (hρ : ρ ∉ parts [.mem]) :
    Kept ρ s₀ (modTower t f s) ↔ Kept ρ s₀ s := by
  simp at hρ
  simp [modTower, hρ]

@[simp] theorem kept_act_memPoolSetCmd (r : Req) (s : Device) (hρ : ρ ∉ parts [.mem]) :
    Kept ρ s₀ (memPoolSetCmd.act r s).2 ↔ Kept ρ s₀ s := by
  simp at hρ
  simp [memPoolSetCmd, hρ]

@[simp] theorem kept_runHeld (h : Held) (c : Cmd) (s : Device) (hρ : ρ ∉ parts [.host, .evq])
    (act : Kept ρ s₀ (c.act h.req s).2 ↔ Kept ρ s₀ s) : Kept ρ s₀ (runHeld h c s) ↔ Kept ρ s₀ s := by
  simp at hρ
  rw [runHeld, kept_heldDone _ _ _ (by simp [hρ]), kept_runCmd _ _ _ _ _ (by simp [hρ]) act]

@[simp] theorem kept_poolReconfigComplete (s : Device)
    (hρ : ρ ∉ parts [.accord, .mem, .host, .settings, .pendSet, .evq]) :
    Kept ρ s₀ (poolReconfigComplete s) ↔ Kept ρ s₀ s := by
  simp at hρ
  have load (h : Held) (t : Device) : Kept ρ s₀ (runHeld h accordLoadCmd t) ↔ Kept ρ s₀ t := by simp [hρ]
  have queue (h : Held) (t : Device) : Kept ρ s₀ (runHeld h leqQueueConfigCmd t) ↔ Kept ρ s₀ t := by simp [hρ]
  have arm (h : Held) (t : Device) : Kept ρ s₀ (runHeld h blotterArmCmd t) ↔ Kept ρ s₀ t := by simp [hρ]
  unfold poolReconfigComplete
  dsimp only
  split
  · rfl
  rw [kept_each, kept_each]
  · split <;> simp [load, hρ]
  · intro q t
    split <;> simp [queue, hρ]
  · intro i t
    split <;> simp [arm, hρ]

@[simp] theorem kept_retireRow (t bank row pages : Nat) (s : Device)
    (hρ : ρ ∉ parts [.crypto, .kme, .mem, .stack, .clock, .fault]) :
    Kept ρ s₀ (retireRow t bank row pages s) ↔ Kept ρ s₀ s := by
  simp at hρ
  simp [retireRow, hρ]

@[simp] theorem kept_scrubRow (t bank row pages : Nat) (s : Device)
    (hρ : ρ ∉ parts [.crypto, .kme, .mem, .stack, .clock, .fault]) :
    Kept ρ s₀ (scrubRow t bank row pages s) ↔ Kept ρ s₀ s := by
  simp at hρ
  simp [scrubRow, hρ]

@[simp] theorem kept_lineLost (h : LineHolder) (s : Device) (hρ : ρ ∉ parts [.accord, .mem]) :
    Kept ρ s₀ (lineLost h s) ↔ Kept ρ s₀ s := by
  simp at hρ
  unfold lineLost
  split <;> simp [hρ]

@[simp] theorem kept_dramLineError (x : DramIn) (s : Device)
    (hρ : ρ ∉ parts [.accord, .crypto, .kme, .mem, .stack, .clock, .fault]) :
    Kept ρ s₀ (dramLineError x s) ↔ Kept ρ s₀ s := by
  simp at hρ
  simp [dramLineError, hρ]

@[simp] theorem kept_rowRetireComplete (t : Fin 4) (s : Device)
    (hρ : ρ ∉ parts [.crypto, .kme, .mem, .stack, .clock, .fault]) :
    Kept ρ s₀ (rowRetireComplete t s) ↔ Kept ρ s₀ s := by
  simp at hρ
  unfold rowRetireComplete
  split <;> simp [hρ]

@[simp] theorem kept_dramRefreshRate (t : Fin 4) (fast : Bool) (s : Device) (hρ : ρ ∉ parts [.mem, .evq]) :
    Kept ρ s₀ (dramRefreshRate t fast s) ↔ Kept ρ s₀ s := by
  simp at hρ
  simp [dramRefreshRate, hρ]

@[simp] theorem kept_scrubSet (r : Req) (s : Device) (hρ : ρ ∉ parts [.mem, .settings, .pendSet]) :
    Kept ρ s₀ (scrubSet r s) ↔ Kept ρ s₀ s := by
  simp at hρ
  simp [scrubSet, hρ]

@[simp] theorem kept_scrubSegment (complete : Bool) (s : Device)
    (hρ : ρ ∉ parts [.mem, .host, .settings, .pendSet, .evq]) :
    Kept ρ s₀ (scrubSegment complete s) ↔ Kept ρ s₀ s := by
  simp at hρ
  unfold scrubSegment
  dsimp only
  (repeat' split) <;> simp [hρ]

@[simp] theorem kept_scrubLate (s : Device) (hρ : ρ ∉ parts [.crypto, .kme, .mem, .stack, .clock, .fault]) :
    Kept ρ s₀ (scrubLate s) ↔ Kept ρ s₀ s := by
  simp at hρ
  unfold scrubLate
  split <;> simp [hρ]

@[simp] theorem kept_act_memScrubConfigCmd (r : Req) (s : Device)
    (hρ : ρ ∉ parts [.mem, .host, .settings, .pendSet, .evq]) :
    Kept ρ s₀ (memScrubConfigCmd.act r s).2 ↔ Kept ρ s₀ s := by
  simp at hρ
  unfold memScrubConfigCmd
  dsimp only
  (repeat' split) <;> simp [hρ]

@[simp] theorem kept_act_memStatusCmd (r : Req) (s : Device) (hρ : ρ ∉ parts [.fresh]) :
    Kept ρ s₀ (memStatusCmd.act r s).2 ↔ Kept ρ s₀ s := by
  simp at hρ
  simp [memStatusCmd, hρ]

@[simp] theorem kept_act_memRepairStatusCmd (r : Req) (s : Device) :
    Kept ρ s₀ (memRepairStatusCmd.act r s).2 ↔ Kept ρ s₀ s := by
  simp [memRepairStatusCmd]

@[simp] theorem kept_act_memClearCmd (r : Req) (s : Device) (hρ : ρ ∉ parts [.mem]) :
    Kept ρ s₀ (memClearCmd.act r s).2 ↔ Kept ρ s₀ s := by
  simp at hρ
  simp [memClearCmd, hρ]

@[simp] theorem kept_memControlTick (s : Device) (hρ : ρ ∉ parts [.mem]) :
    Kept ρ s₀ (memControlTick s) ↔ Kept ρ s₀ s := by
  simp at hρ
  simp [memControlTick, hρ]

@[simp] theorem kept_memSlowTick (bw : List Nat) (s : Device)
    (hρ : ρ ∉ parts [.crypto, .kme, .mem, .stack, .clock, .fault]) :
    Kept ρ s₀ (memSlowTick bw s) ↔ Kept ρ s₀ s := by
  simp at hρ
  simp [memSlowTick, hρ]

@[simp] theorem kept_memEpoch (s : Device) (hρ : ρ ∉ parts [.crypto, .kme, .mem, .stack, .clock, .fault]) :
    Kept ρ s₀ (memEpoch s) ↔ Kept ρ s₀ s := by
  simp at hρ
  simp [memEpoch, hρ]

end

end Sys2Proof.Machine

/-!
Frames of the functions of start-up, flash stores, fuses and monitors.
-/
namespace Sys2Proof.Machine
open Sys2Proof
section
variable {ρ : Region} {s₀ : Device}

@[simp] theorem kept_updateHdr (h : List Byte) (s : Device) (hρ : ρ ∉ parts [.boot]) :
    Kept ρ s₀ (updateHdr h s) ↔ Kept ρ s₀ s := by
  simp at hρ
  simp [updateHdr, hρ]

@[simp] theorem kept_bootHeaderRead (s : Device) (hρ : ρ ∉ parts [.boot, .host]) :
    Kept ρ s₀ (bootHeaderRead s) ↔ Kept ρ s₀ s := by
  simp at hρ
  simp [bootHeaderRead, hρ]

@[simp] theorem kept_pcieRefused (s : Device) (hρ : ρ ∉ parts [.boot, .host]) :
    Kept ρ s₀ (pcieRefused s) ↔ Kept ρ s₀ s := by
  simp at hρ
  simp [pcieRefused, hρ]

@[simp] theorem kept_bootDoorbell (len : BitVec 32) (s : Device) (hρ : ρ ∉ parts [.boot, .host]) :
    Kept ρ s₀ (bootDoorbell len s) ↔ Kept ρ s₀ s := by
  simp at hρ
  simp [bootDoorbell, hρ]

@[simp] theorem kept_noteSlot (k : Nat) (st : Nat) (x : FwImageIn) (s : Device) (hρ : ρ ∉ parts [.boot]) :
    Kept ρ s₀ (noteSlot k st x s) ↔ Kept ρ s₀ s :=
  kept_of_part hρ (fun q hq => by cases q; (case boot => exact absurd rfl hq); all_goals rfl) fun _ => by
    rw [noteSlot]
    by_cases hk : k = 0 <;> simp [stores, mailbox, engine, hk]

@[simp] theorem kept_runFw (slot : Nat) (x : FwImageIn) (s : Device) (hρ : ρ ∉ parts [.boot, .host]) :
    Kept ρ s₀ (runFw slot x s) ↔ Kept ρ s₀ s := by
  simp at hρ
  simp [runFw, hρ]

@[simp] theorem kept_trialStep (s : Device) (hρ : ρ ∉ parts [.boot]) :
    Kept ρ s₀ (trialStep s) ↔ Kept ρ s₀ s := by
  simp at hρ
  simp [trialStep, hρ]

@[simp] theorem kept_firmwareVerified (a b p : FwImageIn) (s : Device) (hρ : ρ ∉ parts [.boot, .host]) :
    Kept ρ s₀ (firmwareVerified a b p s) ↔ Kept ρ s₀ s := by
  simp at hρ
  simp [firmwareVerified, hρ]

@[simp] theorem kept_sramSelfTestComplete (car : Two Bool) (other : Option Nat) (s : Device)
    (hρ : ρ ∉ parts [.crypto, .kme, .mem, .stack, .clock, .fault, .boot, .host]) :
    Kept ρ s₀ (sramSelfTestComplete car other s) ↔ Kept ρ s₀ s := by
  simp at hρ
  unfold sramSelfTestComplete
  dsimp only
  (repeat' split) <;> simp [hρ]

@[simp] theorem kept_mountNand (x : Option NandIn) (s : Device)
    (hρ : ρ ∉ parts [.crypto, .kme, .mem, .stack, .clock, .fault, .boot]) :
    Kept ρ s₀ (mountNand x s) ↔ Kept ρ s₀ s := by
  simp at hρ
  unfold mountNand
  split <;> simp [hρ]

@[simp] theorem kept_dramTrainingComplete (failed : Option (Fin 4)) (nand : Option NandIn) (s : Device)
    (hρ : ρ ∉ parts [.accord, .crypto, .kme, .timing, .mem, .stack, .clock, .fault, .boot, .host, .evq]) :
    Kept ρ s₀ (dramTrainingComplete failed nand s) ↔ Kept ρ s₀ s := by
  simp at hρ
  unfold dramTrainingComplete
  dsimp only
  (repeat' split) <;> simp [hρ]

@[simp] theorem kept_bootAccord (x : BootAccordIn) (s : Device)
    (hρ : ρ ∉ parts [.accord, .rx, .crypto, .kme, .mem, .stack, .clock, .fault, .boot, .host, .evq]) :
    Kept ρ s₀ (bootAccord x s) ↔ Kept ρ s₀ s := by
  simp at hρ
  unfold bootAccord
  dsimp only
  (repeat' split) <;> simp [hρ]

@[simp] theorem kept_fwReady (s : Device)
    (hρ : ρ ∉ parts [.crypto, .kme, .mem, .stack, .clock, .fault, .boot, .host, .evq]) :
    Kept ρ s₀ (fwReady s) ↔ Kept ρ s₀ s := by
  simp at hρ
  unfold fwReady
  dsimp only
  (repeat' split) <;> simp [hρ]

/-- A NOR memory takes a new content that is in its canonical form where the memories were. -/
theorem kept_norPut (op : Nat) {m : List Host.Cell} {s : Device} (wf : (stores s).Ok → Memory.wf 0xFF m = true) :
    Kept .stores s (norPut op m s) := by
  refine ⟨fun ok => ?_, ?_⟩
  · have wf := wf ok
    obtain ⟨buf, req, data, cluster, a, b, script⟩ := ok
    unfold norPut
    split
    · split
      · exact ⟨buf, req, data, cluster, wf, b, script⟩
      · exact ⟨buf, req, data, cluster, a, wf, script⟩
    · exact ⟨buf, req, data, cluster, a, b, wf⟩
  · unfold norPut
    (repeat' split) <;> exact ⟨BitVec.and_self, Nat.le_refl _, Nat.le_refl _⟩

/-- The NOR memory that a write is for is in its canonical form with the others. -/
theorem wf_norTarget (op : Nat) (r : Req) {s : Device} (ok : (stores s).Ok) :
    Memory.wf 0xFF (norTarget op r s).2.1 = true := by
  obtain ⟨-, -, -, -, a, b, script⟩ := ok
  unfold norTarget slotBytes
  dsimp only
  split
  · dsimp only
    split
    · exact a
    · exact b
  · exact script

/-- A write that programs erased bytes, or that is held. -/
theorem kept_norWrite (op : Nat) (r : Req) {s : Device} (h : Kept .stores s₀ s) :
    Kept .stores s₀ (norWrite op r s).2 := by
  unfold norWrite
  dsimp only
  split
  · exact h.trans (kept_norPut _ fun ok => Memory.wf_norProgram _ _ (wf_norTarget _ _ ok))
  · simp [h]

/-- The erase of a sector. -/
theorem kept_eraseSector (k : Nat) {s : Device} : Kept .stores s (modBoot (fun b =>
    { b with
      slots := ⟨{ b.slots.a with bytes := eraseIn (rd b.header 16 4) k b.slots.a.bytes },
                { b.slots.b with bytes := eraseIn (rd b.header 20 4) k b.slots.b.bytes }⟩
      script := eraseIn (rd b.header 44 4) k b.script }) s) := by
  refine ⟨fun ok => ?_, BitVec.and_self, Nat.le_refl _, Nat.le_refl _⟩
  obtain ⟨buf, req, data, cluster, a, b, script⟩ := ok
  exact ⟨buf, req, data, cluster, Memory.wf_eraseIn _ _ a, Memory.wf_eraseIn _ _ b, Memory.wf_eraseIn _ _ script⟩

theorem kept_norErased (k : Nat) (ok : Bool) {s : Device} (h : Kept .stores s₀ s) :
    Kept .stores s₀ (norErased k ok s) := by
  unfold norErased
  split
  · exact h
  · refine kept_each_of_kept _ _ (fun x s h => ?_) ?_
    · dsimp only
      split
      · exact h
      · rw [kept_heldDone _ _ _ (stores_not_mem_parts _)]
        refine Kept.trans (t := modBoot (fun b => { b with norHeld := b.norHeld.erase x }) s) (by simp [h]) ?_
        exact kept_norPut _ fun ok => Memory.wf_norProgram _ _ (wf_norTarget _ _ ok)
    · dsimp only
      split
      · exact Kept.trans (t := modBoot (fun b => { b with norErase := b.norErase.erase k }) s) (by simp [h])
          (kept_eraseSector k)
      · simp [h]

@[simp] theorem kept_modNand (f : NandSt → NandSt) (s : Device) (hρ : ρ ∉ parts [.boot]) :
    Kept ρ s₀ (modNand f s) ↔ Kept ρ s₀ s := by
  simp at hρ
  simp [modNand, hρ]

@[simp] theorem kept_spoilEntry (area id : Nat) (s : Device) (hρ : ρ ∉ parts [.boot]) :
    Kept ρ s₀ (spoilEntry area id s) ↔ Kept ρ s₀ s := by
  simp at hρ
  simp [spoilEntry, hρ]

@[simp] theorem kept_nandUe (area id : Nat) (s : Device)
    (hρ : ρ ∉ parts [.crypto, .kme, .mem, .stack, .clock, .fault, .boot]) :
    Kept ρ s₀ (nandUe area id s) ↔ Kept ρ s₀ s := by
  simp at hρ
  unfold nandUe
  split <;> simp [hρ]

@[simp] theorem kept_holdNand (op : Nat) (r : Req) (s : Device) (hρ : ρ ∉ parts [.boot]) :
    Kept ρ s₀ (holdNand op r s).2 ↔ Kept ρ s₀ s := by
  simp at hρ
  simp [holdNand, hρ]

@[simp] theorem kept_setWear (w : WearIn) (s : Device)
    (hρ : ρ ∉ parts [.crypto, .kme, .mem, .stack, .clock, .fault, .boot]) :
    Kept ρ s₀ (setWear w s) ↔ Kept ρ s₀ s := by
  simp at hρ
  simp [setWear, hρ]

@[simp] theorem kept_nandPatrol (ue : List (Nat × Nat)) (w : WearIn) (s : Device)
    (hρ : ρ ∉ parts [.crypto, .kme, .mem, .stack, .clock, .fault, .boot]) :
    Kept ρ s₀ (nandPatrol ue w s) ↔ Kept ρ s₀ s := by
  simp at hρ
  simp [nandPatrol, hρ]

@[simp] theorem kept_nandBlockGrown (s : Device)
    (hρ : ρ ∉ parts [.crypto, .kme, .mem, .stack, .clock, .fault, .boot]) :
    Kept ρ s₀ (nandBlockGrown s) ↔ Kept ρ s₀ s := by
  simp at hρ
  simp [nandBlockGrown, hρ]

@[simp] theorem kept_act_nvStatusCmd (r : Req) (s : Device) :
    Kept ρ s₀ (nvStatusCmd.act r s).2 ↔ Kept ρ s₀ s := by
  simp [nvStatusCmd]

@[simp] theorem kept_act_nvHeaderReadCmd (r : Req) (s : Device) :
    Kept ρ s₀ (nvHeaderReadCmd.act r s).2 ↔ Kept ρ s₀ s := by
  simp [nvHeaderReadCmd]

@[simp] theorem kept_act_nvHeaderWriteCmd (r : Req) (s : Device) (hρ : ρ ∉ parts [.boot]) :
    Kept ρ s₀ (nvHeaderWriteCmd.act r s).2 ↔ Kept ρ s₀ s := by
  simp at hρ
  simp [nvHeaderWriteCmd, hρ]

theorem kept_act_nvFwWriteCmd (r : Req) {s : Device} (h : Kept .stores s₀ s) :
    Kept .stores s₀ (nvFwWriteCmd.act r s).2 := kept_norWrite _ _ h

theorem kept_act_nvScriptWriteCmd (r : Req) {s : Device} (h : Kept .stores s₀ s) :
    Kept .stores s₀ (nvScriptWriteCmd.act r s).2 := kept_norWrite _ _ h

@[simp] theorem kept_act_nvFwActivateCmd (r : Req) (s : Device) (hρ : ρ ∉ parts [.boot]) :
    Kept ρ s₀ (nvFwActivateCmd.act r s).2 ↔ Kept ρ s₀ s := by
  simp at hρ
  simp [nvFwActivateCmd, hρ]

@[simp] theorem kept_fwActivateComplete (x : FwImageIn) (s : Device) (hρ : ρ ∉ parts [.boot, .host, .evq]) :
    Kept ρ s₀ (fwActivateComplete x s) ↔ Kept ρ s₀ s := by
  simp at hρ
  unfold fwActivateComplete
  split <;> simp [hρ]

@[simp] theorem kept_act_nvFwCommitCmd (r : Req) (s : Device) (hρ : ρ ∉ parts [.boot]) :
    Kept ρ s₀ (nvFwCommitCmd.act r s).2 ↔ Kept ρ s₀ s := by
  simp at hρ
  simp [nvFwCommitCmd, hρ]

/-- The counter that is committed is not below the present one, by the state check of the command. -/
theorem kept_act_nvFwVersionCommitCmd (r : Req) {s : Device} (check : nvFwVersionCommitCmd.state s r = none)
    (h : Kept .stores s₀ s) : Kept .stores s₀ (nvFwVersionCommitCmd.act r s).2 := by
  have grows : s.boot.otp.fwCounter ≤ rd r.params 0 1 := by
    simp [nvFwVersionCommitCmd] at check
    omega
  exact Kept.trans h ⟨id, BitVec.and_self, grows, Nat.le_refl _⟩

@[simp] theorem kept_act_nandInfoCmd (r : Req) (s : Device) :
    Kept ρ s₀ (nandInfoCmd.act r s).2 ↔ Kept ρ s₀ s := by
  simp [nandInfoCmd]

@[simp] theorem kept_act_archiveListCmd (r : Req) (s : Device) (hρ : ρ ∉ parts [.fresh]) :
    Kept ρ s₀ (archiveListCmd.act r s).2 ↔ Kept ρ s₀ s := by
  simp at hρ
  simp [archiveListCmd, hρ]

@[simp] theorem kept_act_archiveReadCmd (r : Req) (s : Device) (hρ : ρ ∉ parts [.boot, .fresh]) :
    Kept ρ s₀ (archiveReadCmd.act r s).2 ↔ Kept ρ s₀ s := by
  simp at hρ
  unfold archiveReadCmd
  dsimp only
  (repeat' split) <;> simp [hρ]

@[simp] theorem kept_act_archiveWriteCmd (r : Req) (s : Device) (hρ : ρ ∉ parts [.boot]) :
    Kept ρ s₀ (archiveWriteCmd.act r s).2 ↔ Kept ρ s₀ s := by
  simp at hρ
  unfold archiveWriteCmd
  dsimp only
  (repeat' split) <;> simp [hρ]

@[simp] theorem kept_act_archiveDeleteCmd (r : Req) (s : Device) (hρ : ρ ∉ parts [.boot]) :
    Kept ρ s₀ (archiveDeleteCmd.act r s).2 ↔ Kept ρ s₀ s := by
  simp at hρ
  simp [archiveDeleteCmd]
  (repeat' split) <;> simp [hρ]

@[simp] theorem kept_act_nandFormatCmd (r : Req) (s : Device) (hρ : ρ ∉ parts [.boot]) :
    Kept ρ s₀ (nandFormatCmd.act r s).2 ↔ Kept ρ s₀ s := by
  simp at hρ
  simp [nandFormatCmd, hρ]

@[simp] theorem kept_runNandHeld (s : Device) (hρ : ρ ∉ parts [.boot, .host, .evq, .fresh]) :
    Kept ρ s₀ (runNandHeld s) ↔ Kept ρ s₀ s := by
  simp at hρ
  unfold runNandHeld
  refine kept_each _ _ _ fun h t => ?_
  dsimp only
  split <;> rw [kept_runHeld _ _ _ (by simp [hρ]) (by simp [hρ]), kept_modNand _ _ (by simp [hρ])]

theorem kept_flashEraseComplete (u : FlashUnit) (ok : Bool) {s : Device} (h : Kept .stores s₀ s) :
    Kept .stores s₀ (flashEraseComplete u ok s) := by
  unfold flashEraseComplete
  split
  · exact kept_norErased _ _ h
  · split
    · exact h
    · simp [h]

@[simp] theorem kept_nandFormatComplete (bad : Nat) (s : Device) (hρ : ρ ∉ parts [.boot, .host, .evq, .fresh]) :
    Kept ρ s₀ (nandFormatComplete bad s) ↔ Kept ρ s₀ s := by
  simp at hρ
  unfold nandFormatComplete
  split <;> simp [hρ]

@[simp] theorem kept_act_deviceInfoCmd (r : Req) (s : Device) :
    Kept ρ s₀ (deviceInfoCmd.act r s).2 ↔ Kept ρ s₀ s := by
  simp [deviceInfoCmd]

@[simp] theorem kept_act_otpProgramCmd (r : Req) (s : Device) (hρ : ρ ∉ parts [.boot]) :
    Kept ρ s₀ (otpProgramCmd.act r s).2 ↔ Kept ρ s₀ s :=
  kept_of_part hρ (fun q hq => by cases q; (case boot => exact absurd rfl hq); all_goals rfl) fun _ => rfl

/-- A burn fuses one item more, or none. -/
theorem kept_otpBurnComplete (ok : Bool) {s : Device} (h : Kept .stores s₀ s) :
    Kept .stores s₀ (otpBurnComplete ok s) := by
  unfold otpBurnComplete
  split
  · exact h
  · rw [kept_heldDone _ _ _ (stores_not_mem_parts _)]
    refine h.trans ⟨id, ?_, ?_, ?_⟩
    · cases ok
      · exact BitVec.and_self
      · refine BitVec.eq_of_getLsbD_eq fun i _ => ?_
        simp only [stores, modBoot, BitVec.getLsbD_and]
        simp
        exact .inl
    · cases ok <;> exact Nat.le_refl _
    · cases ok <;> exact Nat.le_refl _

@[simp] theorem kept_act_diagEchoCmd (r : Req) (s : Device) :
    Kept ρ s₀ (diagEchoCmd.act r s).2 ↔ Kept ρ s₀ s := by
  simp [diagEchoCmd]

@[simp] theorem kept_act_diagSensorsCmd (r : Req) (s : Device) :
    Kept ρ s₀ (diagSensorsCmd.act r s).2 ↔ Kept ρ s₀ s := by
  simp [diagSensorsCmd]

@[simp] theorem kept_elecSlowTick (x : ElecIn) (s : Device) (hρ : ρ ∉ parts [.fault, .elec]) :
    Kept ρ s₀ (elecSlowTick x s) ↔ Kept ρ s₀ s := by
  simp at hρ
  simp [elecSlowTick, hρ]

@[simp] theorem kept_avsFail (s : Device) (hρ : ρ ∉ parts [.crypto, .kme, .mem, .stack, .clock, .fault]) :
    Kept ρ s₀ (avsFail s) ↔ Kept ρ s₀ s := by
  simp at hρ
  simp [avsFail, hρ]

@[simp] theorem kept_tjHigh (s : Device) (hρ : ρ ∉ parts [.crypto, .kme, .mem, .stack, .clock, .fault]) :
    Kept ρ s₀ (tjHigh s) ↔ Kept ρ s₀ s := by
  simp at hρ
  simp [tjHigh, hρ]

end

end Sys2Proof.Machine

/-!
Frames of the functions of the sensing chain and the Accord switch.
-/
namespace Sys2Proof.Machine
open Sys2Proof
section
variable {ρ : Region} {s₀ : Device}

@[simp] theorem kept_emitRecord (ch : Nat) (s : Device) (hρ : ρ ∉ parts [.sense, .host]) :
    Kept ρ s₀ (emitRecord ch s) ↔ Kept ρ s₀ s := by
  simp at hρ
  unfold emitRecord
  dsimp only
  (repeat' split) <;> simp [hρ]

@[simp] theorem kept_senseRecordEmit (ch : Fin 64) (s : Device) (hρ : ρ ∉ parts [.sense, .host]) :
    Kept ρ s₀ (senseRecordEmit ch s) ↔ Kept ρ s₀ s := by
  simp at hρ
  unfold senseRecordEmit
  dsimp only
  (repeat' split) <;> simp [hρ]

@[simp] theorem kept_addSample (ch : Nat) (t : Time) (x : SenseSample) (s : Device) (hρ : ρ ∉ parts [.sense, .host]) :
    Kept ρ s₀ (addSample ch t x s) ↔ Kept ρ s₀ s := by
  simp at hρ
  unfold addSample
  split <;> simp [hρ]

@[simp] theorem kept_runDetectors (ch : Nat) (t : Time) (x : Int) (s : Device)
    (hρ : ρ ∉ parts [.sense, .mem, .stack]) :
    Kept ρ s₀ (runDetectors ch t x s) ↔ Kept ρ s₀ s := by
  simp at hρ
  simp [runDetectors, hρ]

@[simp] theorem kept_senseOutputSample (ch : Fin 64) (sec k : Nat) (s : Device)
    (hρ : ρ ∉ parts [.sense, .mem, .stack, .host]) :
    Kept ρ s₀ (senseOutputSample ch sec k s) ↔ Kept ρ s₀ s := by
  simp at hρ
  simp [senseOutputSample, hρ]

@[simp] theorem kept_senseEvent (ch : Nat) (s : Device) (hρ : ρ ∉ parts [.sense]) :
    Kept ρ s₀ (senseEvent ch s) ↔ Kept ρ s₀ s := by
  simp at hρ
  simp [senseEvent, hρ]

@[simp] theorem kept_startChannel (ch : Nat) (base : Int) (s : Device) (hρ : ρ ∉ parts [.sense, .pendSet]) :
    Kept ρ s₀ (startChannel ch base s) ↔ Kept ρ s₀ s := by
  simp at hρ
  simp [startChannel, hρ]

@[simp] theorem kept_changeChannel (ch : Nat) (i : SenseIn) (s : Device) (hρ : ρ ∉ parts [.sense, .host, .pendSet]) :
    Kept ρ s₀ (changeChannel ch i s) ↔ Kept ρ s₀ s := by
  simp at hρ
  unfold changeChannel
  dsimp only
  (repeat' split) <;> simp [hρ]

@[simp] theorem kept_sampleChannel (ch : Nat) (i : SenseIn) (s : Device) (hρ : ρ ∉ parts [.sense]) :
    Kept ρ s₀ (sampleChannel ch i s) ↔ Kept ρ s₀ s := by
  simp at hρ
  simp [sampleChannel, hρ]

@[simp] theorem kept_senseChannelTick (i : SenseIn) (ch : Nat) (s : Device)
    (hρ : ρ ∉ parts [.sense, .host, .pendSet]) :
    Kept ρ s₀ (senseChannelTick i ch s) ↔ Kept ρ s₀ s := by
  simp at hρ
  simp [senseChannelTick, hρ]

@[simp] theorem kept_senseControlTick (i : SenseIn) (s : Device)
    (hρ : ρ ∉ parts [.crypto, .kme, .sense, .ramp, .mem, .stack, .clock, .fault, .host, .pendSet]) :
    Kept ρ s₀ (senseControlTick i s) ↔ Kept ρ s₀ s := by
  simp at hρ
  simp [senseControlTick, hρ]

@[simp] theorem kept_senseSlowTick (s : Device)
    (hρ : ρ ∉ parts [.crypto, .kme, .sense, .ramp, .mem, .stack, .clock, .fault, .evq]) :
    Kept ρ s₀ (senseSlowTick s) ↔ Kept ρ s₀ s := by
  simp at hρ
  simp [senseSlowTick, hρ]

@[simp] theorem kept_senseEpoch (s : Device) (hρ : ρ ∉ parts [.sense, .pendSet]) :
    Kept ρ s₀ (senseEpoch s) ↔ Kept ρ s₀ s := by
  simp at hρ
  simp [senseEpoch, hρ]

@[simp] theorem kept_act_senseConfigCmd (r : Req) (s : Device) (hρ : ρ ∉ parts [.sense, .settings, .pendSet]) :
    Kept ρ s₀ (senseConfigCmd.act r s).2 ↔ Kept ρ s₀ s := by
  simp at hρ
  simp [senseConfigCmd, hρ]

@[simp] theorem kept_act_senseInfoCmd (r : Req) (s : Device) :
    Kept ρ s₀ (senseInfoCmd.act r s).2 ↔ Kept ρ s₀ s := by
  simp [senseInfoCmd]

@[simp] theorem kept_act_senseStatusCmd (r : Req) (s : Device) :
    Kept ρ s₀ (senseStatusCmd.act r s).2 ↔ Kept ρ s₀ s := by
  simp [senseStatusCmd]

@[simp] theorem kept_act_senseReadCmd (r : Req) (s : Device) (hρ : ρ ∉ parts [.sense]) :
    Kept ρ s₀ (senseReadCmd.act r s).2 ↔ Kept ρ s₀ s := by
  simp at hρ
  unfold senseReadCmd
  dsimp only
  (repeat' split) <;> simp [hρ]

@[simp] theorem kept_act_senseClearCmd (r : Req) (s : Device) (hρ : ρ ∉ parts [.sense]) :
    Kept ρ s₀ (senseClearCmd.act r s).2 ↔ Kept ρ s₀ s := by
  simp at hρ
  simp [senseClearCmd, hρ]

@[simp] theorem kept_putJudged (key : Nat) (q : Int × Option (Int × Nat) × Bool) (s : Device)
    (hρ : ρ ∉ parts [.settings, .pendSet]) :
    Kept ρ s₀ (putJudged key q s) ↔ Kept ρ s₀ s := by
  simp at hρ
  unfold putJudged
  split <;> simp [hρ]

@[simp] theorem kept_reportDefaulted (keys : List Nat) (s : Device) (hρ : ρ ∉ parts [.evq]) :
    Kept ρ s₀ (reportDefaulted keys s) ↔ Kept ρ s₀ s := by
  simp at hρ
  simp [reportDefaulted, hρ]

@[simp] theorem kept_judgePools (old new : Plan) (s : Device) (hρ : ρ ∉ parts [.mem]) :
    Kept ρ s₀ (judgePools old new s).2 ↔ Kept ρ s₀ s := by
  simp at hρ
  unfold judgePools
  split <;> simp [hρ]

@[simp] theorem kept_judgeSettings (before : Device) (new : Plan) (s : Device)
    (hρ : ρ ∉ parts [.tx, .mem, .settings, .pendSet, .evq]) :
    Kept ρ s₀ (judgeSettings before new s) ↔ Kept ρ s₀ s := by
  simp at hρ
  simp [judgeSettings, hρ]

@[simp] theorem kept_rxModeChange (old new : Plan) (c : Carrier) (atCount : Bool) (s : Device)
    (hρ : ρ ∉ parts [.rx, .crypto, .kme, .mem, .stack, .clock, .fault, .pendSet, .evq]) :
    Kept ρ s₀ (rxModeChange old new c atCount s) ↔ Kept ρ s₀ s := by
  simp at hρ
  simp [rxModeChange, hρ]

@[simp] theorem kept_switchRx (old new : Plan) (c : Carrier) (s : Device) (hρ : ρ ∉ parts [.engines]) :
    Kept ρ s₀ (switchRx old new c s) ↔ Kept ρ s₀ s := by
  simp at hρ
  simp [switchRx, hρ]

@[simp] theorem kept_switchCarrier (old new : Plan) (c : Carrier) (s : Device)
    (hρ : ρ ∉ parts [.accord, .engines, .conv, .rx, .crypto, .kme, .mem, .stack, .clock, .fault, .pendSet, .evq]) :
    Kept ρ s₀ (switchCarrier old new c s) ↔ Kept ρ s₀ s := by
  simp at hρ
  simp [switchCarrier, hρ]

@[simp] theorem kept_accordSwitchT (s : Device) : Kept .stores s₀ (accordSwitchT s) ↔ Kept .stores s₀ s := by
  unfold accordSwitchT
  split
  · rfl
  · dsimp only
    rw [kept_each _ _ _ fun _ _ => by simp, kept_each _ _ _ fun c s => kept_when _ _ _ (by simp),
      kept_when _ _ _ (by simp), kept_judgeSettings _ _ _ (stores_not_mem_parts _),
      kept_modAccord _ _ (stores_not_mem_parts _)]

@[simp] theorem kept_accordRxSwitch (c : Carrier) (s : Device)
    (hρ : ρ ∉ parts [.accord, .engines, .rx, .crypto, .kme, .mem, .stack, .clock, .fault, .pendSet, .evq]) :
    Kept ρ s₀ (accordRxSwitch c s) ↔ Kept ρ s₀ s := by
  simp at hρ
  simp [accordRxSwitch, hρ]

@[simp] theorem kept_accordControlTick (s : Device) (hρ : ρ ∉ parts [.accord]) :
    Kept ρ s₀ (accordControlTick s) ↔ Kept ρ s₀ s := by
  simp at hρ
  simp [accordControlTick, hρ]

@[simp] theorem kept_act_heldSwitchCmd (op : Nat) (r : Req) (s : Device) (hρ : ρ ∉ parts [.accord, .rx]) :
    Kept ρ s₀ ((heldSwitchCmd op).act r s).2 ↔ Kept ρ s₀ s := by
  simp at hρ
  unfold heldSwitchCmd
  split <;> simp [hρ]

@[simp] theorem kept_accordSwitchComplete (s : Device) (hρ : ρ ∉ parts [.accord, .rx, .host, .evq, .fresh]) :
    Kept ρ s₀ (accordSwitchComplete s) ↔ Kept ρ s₀ s := by
  simp at hρ
  unfold accordSwitchComplete
  split
  · rfl
  · dsimp only
    rw [kept_each _ _ _ fun h t => kept_runHeld _ _ _ (by simp [hρ]) (by simp [hρ]), kept_modAccord _ _ (by simp [hρ]),
      kept_raiseAt _ _ _ _ _ _ (by simp [hρ])]

@[simp] theorem kept_act_pickProtCommand (p : List Byte) (r : Req) (s : Device) (hρ : ρ ∉ parts [.tribs]) :
    Kept ρ s₀ ((pickProtCommand p).act r s).2 ↔ Kept ρ s₀ s := by
  simp at hρ
  unfold pickProtCommand
  split <;> simp [hρ]

@[simp] theorem kept_act_pickTimingCommand (p : List Byte) (r : Req) (s : Device)
    (hρ : ρ ∉ parts [.crypto, .kme, .timing, .mem, .stack, .clock, .fault, .boot]) :
    Kept ρ s₀ ((pickTimingCommand p).act r s).2 ↔ Kept ρ s₀ s := by
  simp at hρ
  unfold pickTimingCommand
  split <;> simp [hρ]

@[simp] theorem kept_act_pickFaultClear (p : List Byte) (r : Req) (s : Device) (hρ : ρ ∉ parts [.fault, .evq]) :
    Kept ρ s₀ ((pickFaultClear p).act r s).2 ↔ Kept ρ s₀ s := by
  simp at hρ
  unfold pickFaultClear
  split <;> simp [hρ]

@[simp] theorem kept_act_pickFaultInject (p : List Byte) (r : Req) (s : Device) (hρ : ρ ∉ parts [.fault, .evq]) :
    Kept ρ s₀ ((pickFaultInject p).act r s).2 ↔ Kept ρ s₀ s := by
  simp at hρ
  unfold pickFaultInject
  split <;> simp [hρ]

end

end Sys2Proof.Machine

/-!
Commands. Every command keeps the stores when its state check passes; so does every way of running one.
-/
namespace Sys2Proof.Machine
open Sys2Proof
section
variable {s₀ : Device}

/-- What a command does keeps the stores, where its state check passes. -/
def CmdKeeps (c : Cmd) : Prop := ∀ (r : Req) (s : Device), c.state s r = none → Kept .stores s (c.act r s).2

theorem cmdKeeps_of_act {c : Cmd} (h : ∀ r s, Kept .stores s (c.act r s).2 ↔ Kept .stores s s) : CmdKeeps c :=
  fun r s _ => (h r s).mpr (.refl _ _)

/-! ### Commands that write to the stores -/

@[simp] theorem cmdKeeps_resetDomain : CmdKeeps resetDomainCmd := fun r s _ => kept_act_resetDomainCmd r (.refl _ s)
@[simp] theorem cmdKeeps_hlReset : CmdKeeps hlResetCmd := fun r s _ => kept_act_hlResetCmd r (.refl _ s)
@[simp] theorem cmdKeeps_nvFwWrite : CmdKeeps nvFwWriteCmd := fun r s _ => kept_act_nvFwWriteCmd r (.refl _ s)
@[simp] theorem cmdKeeps_nvScriptWrite : CmdKeeps nvScriptWriteCmd := fun r s _ => kept_act_nvScriptWriteCmd r (.refl _ s)
@[simp] theorem cmdKeeps_accordVersionCommit : CmdKeeps accordVersionCommitCmd := fun r s check =>
  kept_act_accordVersionCommitCmd r check (.refl _ s)
@[simp] theorem cmdKeeps_nvFwVersionCommit : CmdKeeps nvFwVersionCommitCmd := fun r s check =>
  kept_act_nvFwVersionCommitCmd r check (.refl _ s)

/-! ### Every command -/

theorem cmdKeeps_of_commandOf {i : Instr} {op : Nat} {c : Cmd} {r : Req} (h : commandOf i = some (op, c, r)) :
    CmdKeeps c := by
  cases i <;> simp only [commandOf, Option.some.injEq, Prod.mk.injEq, reduceCtorEq] at h <;>
    obtain ⟨-, rfl, -⟩ := h
  case resetDomain => exact cmdKeeps_resetDomain
  case hlReset => exact cmdKeeps_hlReset
  case nvFwWrite => exact cmdKeeps_nvFwWrite
  case nvScriptWrite => exact cmdKeeps_nvScriptWrite
  case accordVersionCommit => exact cmdKeeps_accordVersionCommit
  case nvFwVersionCommit => exact cmdKeeps_nvFwVersionCommit
  all_goals exact cmdKeeps_of_act fun r s => by simp

/-- The commands of the index. -/
theorem cmdKeeps_of_mem {x : Nat × Cmd} (h : x ∈ cmds00 ++ cmds01 ++ cmds02 ++ cmds03 ++ cmds04 ++ cmds05 ++ cmds06 ++
    cmds07 ++ cmds08 ++ cmds09 ++ cmds0A ++ cmds0B ++ cmds0C ++ cmds0D ++ cmds0E ++ cmds0F ++ cmds10 ++ cmds11) :
    CmdKeeps x.2 := by
  revert x
  simp only [cmds00, cmds01, cmds02, cmds03, cmds04, cmds05, cmds06, cmds07, cmds08, cmds09, cmds0A, cmds0B, cmds0C,
    cmds0D, cmds0E, cmds0F, cmds10, cmds11, List.cons_append, List.nil_append, List.forall_mem_cons,
    cmdKeeps_resetDomain, cmdKeeps_hlReset, cmdKeeps_nvFwWrite, cmdKeeps_nvScriptWrite, cmdKeeps_accordVersionCommit,
    cmdKeeps_nvFwVersionCommit, true_and, List.not_mem_nil, false_implies, implies_true, and_true]
  and_intros
  all_goals exact cmdKeeps_of_act fun r s => by simp

theorem cmdKeeps_of_cmdOf {op : Nat} {p : List Byte} {c : Cmd} (h : cmdOf op p = some c) : CmdKeeps c := by
  unfold cmdOf at h
  split at h
  · obtain rfl := Option.some.inj h
    exact cmdKeeps_of_act fun r s => by simp
  · obtain rfl := Option.some.inj h
    exact cmdKeeps_of_act fun r s => by simp
  · obtain rfl := Option.some.inj h
    exact cmdKeeps_of_act fun r s => by simp
  · obtain rfl := Option.some.inj h
    exact cmdKeeps_of_act fun r s => by simp
  · obtain ⟨x, found, rfl⟩ := Option.map_eq_some_iff.mp h
    exact cmdKeeps_of_mem (List.mem_of_find?_eq_some found)

/-! ### Running a command -/

/-- A request that is not refused, and is no read-back, has passed its state check. -/
theorem state_of_refusal {op : Nat} {c : Cmd} {r : Req} {boot : Bool} {s : Device} (h : refusal op c r boot s = none)
    (write : r.readback = false) : c.state s r = none := by
  unfold refusal at h
  dsimp only at h
  (repeat' split at h) <;> simp_all

theorem kept_runCmd_of_keeps {c : Cmd} (k : CmdKeeps c) (op : Nat) (r : Req) (boot : Bool) {s : Device}
    (h : Kept .stores s₀ s) : Kept .stores s₀ (runCmd op c r boot s).2 := by
  unfold runCmd
  split
  · exact h
  · rename_i passed
    split
    · exact h
    · rename_i write
      have acted := h.trans (k r s (state_of_refusal passed (by simpa using write)))
      dsimp only
      split
      · simpa using acted
      · exact acted

theorem kept_runLocal_of_keeps {c : Cmd} (k : CmdKeeps c) (op : Nat) (r : Req) (boot : Bool) {s : Device}
    (h : Kept .stores s₀ s) : Kept .stores s₀ (runLocal op c r boot s) := by
  unfold runLocal
  split
  · simpa using h
  · rw [kept_answer _ _ _ _ (stores_not_mem_parts _)]
    exact kept_runCmd_of_keeps k _ _ _ h

/-- Bytes that a request buffer takes. -/
theorem kept_writeReq (n a : Nat) (bytes : List Byte) (f : Mailbox → Mailbox)
    (hf : ∀ m, (f m).req = memWrite m.req a bytes) (s : Device) : Kept .stores s (modMb n f s) := by
  refine ⟨fun ok => ?_, BitVec.and_self, Nat.le_refl _, Nat.le_refl _⟩
  obtain ⟨buf, req, rest⟩ := ok
  refine ⟨buf, fun k => ?_, rest⟩
  show Memory.wf 0 (mailbox (modMb n f s) k).req = true
  rw [mailbox_modMb]
  split
  · rw [hf]
    exact Memory.wf_memWrite _ _ (req _)
  · exact req k

theorem kept_mailboxRun {c : Cmd} (k : CmdKeeps c) (op : Nat) (r : Req) (s : Device) :
    Kept .stores s (mailboxRun op c r s) := by
  unfold mailboxRun
  dsimp only
  split
  · exact .refl _ s
  split
  · simp
  have arrived := kept_writeReq r.mb.val 0 (reqBytes op r)
    (fun m => { m with req := memWrite m.req 0 (reqBytes op r), respReady := false }) (fun _ => rfl) s
  split
  · rw [kept_forward _ _ _ (stores_not_mem_parts _)]
    exact arrived
  split
  · simpa using arrived
  · exact kept_runLocal_of_keeps k _ _ _ arrived

end

end Sys2Proof.Machine

/-!
Frames of the functions of the host interface and the boundaries of time.
-/
namespace Sys2Proof.Machine
open Sys2Proof
section
variable {ρ : Region} {s₀ : Device}

theorem kept_dispatchReq (op : Nat) (r : Req) (boot : Bool) {s : Device} (h : Kept .stores s₀ s) :
    Kept .stores s₀ (dispatchReq op r boot s) := by
  unfold dispatchReq
  split
  · simpa using h
  split
  · simpa using h
  · rename_i found
    split
    · simpa using h
    · exact kept_runLocal_of_keeps (cmdKeeps_of_cmdOf found) _ _ _ h

theorem kept_deliverReq (mb : Fin 5) (len : Nat) (bytes : List Byte) (boot : Bool) {s : Device}
    (h : Kept .stores s₀ s) : Kept .stores s₀ (deliverReq mb len bytes boot s) := by
  unfold deliverReq
  dsimp only
  split
  · simpa using h
  · exact kept_dispatchReq _ _ _ (by simpa using h)

theorem kept_ringDoorbell (i : Iface) (n : Fin 5) (len : Nat) {s : Device} (h : Kept .stores s₀ s) :
    Kept .stores s₀ (ringDoorbell i n len s) := by
  unfold ringDoorbell
  split
  · exact h
  split
  · simpa using h
  · exact kept_deliverReq _ _ _ _ h

theorem kept_mailboxRequestRefused (n : Fin 4) (len : BitVec 16) (bytes : List Byte) {s : Device}
    (h : Kept .stores s₀ s) : Kept .stores s₀ (mailboxRequestRefused n len bytes s) := by
  unfold mailboxRequestRefused
  refine kept_ite_of_kept _ h (kept_ite_of_kept _ (by simpa using h) (kept_deliverReq _ _ _ _ ?_))
  exact h.trans (kept_writeReq _ 0 _ _ (fun _ => rfl) s)

/-- Bytes that the boot buffer takes. -/
theorem kept_writeBootBuf (a : Nat) (bytes : List Byte) (s : Device) :
    Kept .stores s (modHost (fun x => { x with bootBuf := memWrite x.bootBuf a bytes }) s) :=
  ⟨fun ⟨buf, rest⟩ => ⟨Memory.wf_memWrite _ _ buf, rest⟩, BitVec.and_self, Nat.le_refl _, Nat.le_refl _⟩

theorem kept_bufferWord (i : Iface) (off : Nat) (w : List Byte) {s : Device} (h : Kept .stores s₀ s) :
    Kept .stores s₀ (bufferWord i off w s) := by
  unfold bufferWord
  dsimp only
  split
  · exact h.trans (kept_writeBootBuf _ _ s)
  split
  · exact h
  split
  · simpa using h
  · exact h.trans (kept_writeReq _ _ _ _ (fun _ => rfl) s)

theorem kept_requestBufferWrite (i : Iface) (off : BitVec 24) (bytes : List Byte) {s : Device}
    (h : Kept .stores s₀ s) : Kept .stores s₀ (requestBufferWrite i off bytes s) := by
  unfold requestBufferWrite
  split
  · exact h
  · exact kept_each_of_kept _ _ (fun k s h => kept_ite_of_kept _ (kept_bufferWord _ _ _ h) h) h

theorem kept_debugWindowWrite (off : BitVec 23) (v : BitVec 32) (block : Option (Fin 18)) {s : Device}
    (h : Kept .stores s₀ s) : Kept .stores s₀ (debugWindowWrite off v block s) := by
  unfold debugWindowWrite
  refine kept_ite_of_kept _ h (kept_ite_of_kept _ (h.trans (kept_writeBootBuf _ _ s)) (kept_ite_of_kept _ h ?_))
  simpa using h

@[simp] theorem kept_msixWrite (i : Nat) (v : BitVec 32) (s : Device) (hρ : ρ ∉ parts [.host]) :
    Kept ρ s₀ (msixWrite i v s) ↔ Kept ρ s₀ s := by
  simp at hρ
  simp [msixWrite, hρ]

@[simp] theorem kept_mbStatusWrite (n : Nat) (v : BitVec 32) (s : Device) (hρ : ρ ∉ parts [.host]) :
    Kept ρ s₀ (mbStatusWrite n v s) ↔ Kept ρ s₀ s := by
  simp at hρ
  simp [mbStatusWrite, hρ]

@[simp] theorem kept_plainWrite (a : Nat) (v : BitVec 32) (s : Device) (hρ : ρ ∉ parts [.clock, .boot, .host]) :
    Kept ρ s₀ (plainWrite a v s) ↔ Kept ρ s₀ s := by
  simp at hρ
  unfold plainWrite
  split <;> simp [hρ]

theorem kept_registerWrite (i : Iface) (off : BitVec 16) (v : BitVec 32) {s : Device} (h : Kept .stores s₀ s) :
    Kept .stores s₀ (registerWrite i off v s) := by
  unfold registerWrite
  dsimp only
  split
  · exact h
  split
  · simpa using h
  split
  · exact kept_ringDoorbell _ _ _ h
  split
  · simpa using h
  split
  · simpa using h
  split
  · simpa using h
  · simpa using h

theorem kept_proxiedCommand (op : BitVec 16) (r : Req) {s : Device} (h : Kept .stores s₀ s) :
    Kept .stores s₀ (proxiedCommand op r s) := by
  unfold proxiedCommand
  dsimp only
  split
  · exact h
  split
  · simpa using h
  · rw [kept_forward _ _ _ (stores_not_mem_parts _)]
    exact h.trans (kept_writeReq _ _ _ _ (fun _ => rfl) s)

theorem kept_proxyRequestReceived (m : SbMsg) (tagOk : Bool) {s : Device} (h : Kept .stores s₀ s) :
    Kept .stores s₀ (proxyRequestReceived m tagOk s) := by
  have taken : Kept .stores s₀ (stackAuth m tagOk s).2 := by simpa using h
  unfold proxyRequestReceived
  generalize stackAuth m tagOk s = x at taken
  dsimp only
  split
  · exact taken
  split
  · simpa using taken
  split
  · simpa using taken
  · rename_i found
    split
    · simpa using taken
    · exact kept_runLocal_of_keeps (cmdKeeps_of_cmdOf found) _ _ _ (by simpa using taken)

theorem kept_runWaiting {s : Device} (h : Kept .stores s₀ s) : Kept .stores s₀ (runWaiting s) := by
  refine kept_each_of_kept _ _ (fun x s h => ?_) (by simpa using h)
  dsimp only
  split
  · rename_i found
    exact kept_runLocal_of_keeps (cmdKeeps_of_cmdOf found) _ _ _ h
  · simpa using h

theorem kept_dmaTransferComplete (mb : Fin 5) (ue : Bool) {s : Device} (h : Kept .stores s₀ s) :
    Kept .stores s₀ (dmaTransferComplete mb ue s) := by
  unfold dmaTransferComplete
  split
  · exact h
  · refine kept_runWaiting ?_
    rw [kept_answer _ _ _ _ (stores_not_mem_parts _), kept_when _ _ _ (by simp)]
    split
    · simpa using h
    · rename_i found
      exact kept_runCmd_of_keeps (cmdKeeps_of_cmdOf found) _ _ _ (by simpa using h)

@[simp] theorem kept_scriptEnd (s : Device) (hρ : ρ ∉ parts [.boot]) :
    Kept ρ s₀ (scriptEnd s) ↔ Kept ρ s₀ s := by
  simp at hρ
  simp [scriptEnd, hρ]

@[simp] theorem kept_scriptFail (k : Nat) (s : Device)
    (hρ : ρ ∉ parts [.crypto, .kme, .mem, .stack, .clock, .fault, .boot]) :
    Kept ρ s₀ (scriptFail k s) ↔ Kept ρ s₀ s := by
  simp at hρ
  simp [scriptFail, hρ]

theorem kept_scriptLoop (n : Nat) {s : Device} (h : Kept .stores s₀ s) : Kept .stores s₀ (scriptLoop n s) := by
  induction n generalizing s with
  | zero => exact h
  | succ n ih =>
    unfold scriptLoop
    dsimp only
    split
    · exact h
    split
    · simpa using h
    split
    · simpa using h
    split
    · simpa using h
    · exact ih (kept_deliverReq _ _ _ _ (by simpa using h))

theorem kept_startupScript {s : Device} (h : Kept .stores s₀ s) : Kept .stores s₀ (startupScript s) := by
  unfold startupScript
  dsimp only
  split
  · exact h
  · exact kept_scriptLoop _ h

@[simp] theorem kept_passTime (d : Nat) (s : Device) (hρ : ρ ∉ parts [.timing]) :
    Kept ρ s₀ (passTime d s) ↔ Kept ρ s₀ s := by
  simp at hρ
  simp [passTime, hρ]

@[simp] theorem kept_carrierTick (i : TickIn) (c : Carrier) (s : Device) :
    Kept .stores s₀ (carrierTick i c s) ↔ Kept .stores s₀ s := by
  simp [carrierTick]

@[simp] theorem kept_settleTick (s : Device) (hρ : ρ ∉ parts [.pendSet]) :
    Kept ρ s₀ (settleTick s) ↔ Kept ρ s₀ s := by
  simp at hρ
  simp [settleTick, hρ]

theorem kept_controlTick (i : TickIn) {s : Device} (h : Kept .stores s₀ s) : Kept .stores s₀ (controlTick i s) := by
  have clocks : Kept .stores s₀ (clockControlTick (endPulses (settleTick (advanceTime i.dt s)))) :=
    kept_clockControlTick (by simpa using h)
  have engines := kept_enginesTick i.runs i.bg
    (s := ringsOff (heldFollow (clockControlTick (endPulses (settleTick (advanceTime i.dt s)))))) (by simpa using clocks)
  simpa [controlTick] using engines

@[simp] theorem kept_carrierSlow (c : Carrier) (s : Device) :
    Kept .stores s₀ (carrierSlow c s) ↔ Kept .stores s₀ s := by
  simp [carrierSlow]

@[simp] theorem kept_slowTick (i : SlowIn) (s : Device) :
    Kept .stores s₀ (slowTick i s) ↔ Kept .stores s₀ s := by
  simp [slowTick]

@[simp] theorem kept_toSecond (s : Device) (hρ : ρ ∉ parts [.timing]) :
    Kept ρ s₀ (toSecond s) ↔ Kept ρ s₀ s := by
  simp at hρ
  simp [toSecond, hρ]

@[simp] theorem kept_carrierEpoch (c : Carrier) (s : Device) :
    Kept .stores s₀ (carrierEpoch c s) ↔ Kept .stores s₀ s := by
  simp [carrierEpoch]

@[simp] theorem kept_epoch (m : SillageMeas) (s : Device) :
    Kept .stores s₀ (epoch m s) ↔ Kept .stores s₀ s := by
  simp [epoch]

@[simp] theorem kept_blockBoundary (c : Carrier) (txw rxw : Bool) (s : Device)
    (hρ : ρ ∉ parts [.engines, .conv, .tx, .fec, .crypto, .kme, .mem, .stack, .clock, .fault, .pendSet]) :
    Kept ρ s₀ (blockBoundary c txw rxw s) ↔ Kept ρ s₀ s := by
  simp at hρ
  simp [blockBoundary, hρ]

@[simp] theorem kept_buildNso (c : Carrier) (s : Device) (hρ : ρ ∉ parts [.kme, .ostc, .fresh]) :
    Kept ρ s₀ (buildNso c s).2 ↔ Kept ρ s₀ s := by
  simp at hρ
  simp [buildNso, hρ]

@[simp] theorem kept_txSuperframe (c : Carrier) (dt : Nat) (s : Device)
    (hρ : ρ ∉ parts [.tx, .rx, .fec, .line, .crypto, .kme, .ostc, .timing, .ttx, .pendSet, .evq, .fresh]) :
    Kept ρ s₀ (txSuperframe c dt s) ↔ Kept ρ s₀ s := by
  simp at hρ
  simp [txSuperframe, hρ]

@[simp] theorem kept_heldSuperframe (c : Carrier) (i : RxSfIn) (s : Device)
    (hρ : ρ ∉ parts [.rx, .line, .tribs, .crypto, .kme, .ttx, .stack, .evq]) :
    Kept ρ s₀ (heldSuperframe c i s) ↔ Kept ρ s₀ s := by
  simp at hρ
  simp [heldSuperframe, hρ]

@[simp] theorem kept_rxSuperframe (c : Carrier) (i : RxSfIn) (s : Device) :
    Kept .stores s₀ (rxSuperframe c i s) ↔ Kept .stores s₀ s := by
  unfold rxSuperframe
  split <;> simp

@[simp] theorem kept_takeNso (c : Carrier) (b : List Byte) (tagA tagB : Bool) (s : Device)
    (hρ : ρ ∉ parts [.accord, .conv, .rx, .line, .crypto, .kme, .ostc, .mem, .stack, .clock, .fault, .evq]) :
    Kept ρ s₀ (takeNso c b tagA tagB s) ↔ Kept ρ s₀ s := by
  simp at hρ
  simp [takeNso, hρ]

@[simp] theorem kept_nsoReceived (c : Carrier) (b : List Byte) (tagA tagB : Bool) (s : Device)
    (hρ : ρ ∉ parts [.accord, .conv, .rx, .line, .crypto, .kme, .ostc, .mem, .stack, .clock, .fault, .evq]) :
    Kept ρ s₀ (nsoReceived c b tagA tagB s) ↔ Kept ρ s₀ s := by
  simp at hρ
  simp [nsoReceived, hρ]

end

end Sys2Proof.Machine

/-!
Every step keeps the stores: memories stay in their canonical form, and OTP only grows.
-/
namespace Sys2Proof.Machine
open Sys2Proof
section
variable {s₀ : Device}

@[simp] theorem stores_drivePins (s : Device) : stores (drivePins s) = stores s := by
  simp [drivePins_eq, stores, mailbox, engine]

/-- Every instruction is an act that keeps the stores. -/
theorem exec_keeps (i : Instr) (s : State) :
    ∃ f, exec i s = .next (s.act f) ∧ ∀ d, Kept .stores d (f d) := by
  cases h : commandOf i with
  | some x =>
    obtain ⟨op, c, r⟩ := x
    exact ⟨_, exec_command i s op c r h, fun d => kept_mailboxRun (cmdKeeps_of_commandOf h) op r d⟩
  | none =>
    cases i <;> simp only [commandOf, reduceCtorEq] at h
    all_goals refine ⟨_, rfl, fun d => ?_⟩
    case powerOnReset => exact kept_powerOnReset _ _ (.refl _ d)
    case resetN => exact kept_resetN _ (.refl _ d)
    case selectorSwitch => exact kept_selectorSwitch _ (.refl _ d)
    case clkForcedSwitch => exact kept_clkForcedSwitch _ (.refl _ d)
    case mgmtWatchdog => exact kept_mgmtWatchdog (.refl _ d)
    case controlTick => exact kept_controlTick _ (.refl _ d)
    case faultReaction => exact kept_faultReaction (.refl _ d)
    case proxyRequestReceived => exact kept_proxyRequestReceived _ _ (.refl _ d)
    case startupScript => exact kept_startupScript (.refl _ d)
    case flashEraseComplete => exact kept_flashEraseComplete _ _ (.refl _ d)
    case otpBurnComplete => exact kept_otpBurnComplete _ (.refl _ d)
    case dmaTransferComplete => exact kept_dmaTransferComplete _ _ (.refl _ d)
    case debugWindowWrite => exact kept_debugWindowWrite _ _ _ (.refl _ d)
    case registerWrite => exact kept_registerWrite _ _ _ (.refl _ d)
    case proxiedCommand => exact kept_proxiedCommand _ _ (.refl _ d)
    case mailboxRequestRefused => exact kept_mailboxRequestRefused _ _ _ (.refl _ d)
    case requestBufferWrite => exact kept_requestBufferWrite _ _ _ (.refl _ d)
    all_goals simp

/-- Every step keeps the stores. -/
theorem step_keeps {s t : State} (h : step s = .next t) : (stores s.dev).Grow (stores t.dev) := by
  cases hq : s.pending with
  | nil =>
    rw [step_idle s hq] at h
    cases h
    exact Stores.Grow.refl _
  | cons c rest =>
    obtain ⟨f, ran, keeps⟩ := exec_keeps c { s with pending := rest }
    rw [step_front c rest s hq, ran] at h
    cases h
    have grown := keeps (putOut [] s.dev)
    show (stores s.dev).Grow (stores (drivePins (f (putOut [] s.dev))))
    rw [stores_drivePins]
    exact grown
end

/-- Settles O56: what a step writes to a memory is in canonical form where the memory was. -/
theorem memoriesKeepTheirForm : Obligations.MemoriesKeepTheirForm := by
  unfold Obligations.MemoriesKeepTheirForm
  intro s t ok h
  obtain ⟨keeps, -⟩ := step_keeps h
  exact keeps ok

/-- Settles O57: of all commands and events only a burn and the two version commits change OTP, and they let it grow. -/
theorem fusesAndCountersOnlyGrow : Obligations.FusesAndCountersOnlyGrow := by
  unfold Obligations.FusesAndCountersOnlyGrow
  intro s t h
  obtain ⟨-, grows⟩ := step_keeps h
  exact grows

end Sys2Proof.Machine

/-!
What a step does is what its event does to the device without the outputs of the last step, before the pins follow:
every term of the statements reads neither.
-/
namespace Sys2Proof.Machine
open Sys2Proof

/-- An event's effect on the device without the outputs of the last step fixes what its step yields. -/
theorem yields_of {i : Instr} {s : State} {f : Device → Device} {t : Device} {p : Device → Prop}
    (hi : exec i s = .next (s.act f)) (ht : f (putOut [] s.dev) = t) (k : p (drivePins t)) : Yields i s p :=
  yields_act hi (ht ▸ k)

theorem Only.symm {l : List Part} {s t : Device} (h : Only l s t) : Only l t s := fun p hp => Part.same_symm (h p hp)

@[simp] theorem only_drivePins_iff (l : List Part) (s t : Device) : Only l s (drivePins t) ↔ Only l s t :=
  ⟨fun h => h.trans (only_drivePins l t).symm, fun h => h.trans (only_drivePins l t)⟩

@[simp] theorem only_putOut_iff (l : List Part) (o : List Output) (s t : Device) : Only l (putOut o s) t ↔ Only l s t :=
  ⟨(only_putOut l o s).trans, (only_putOut l o s).symm.trans⟩

@[simp] theorem raised_drivePins (type source sev : Nat) (payload : List Byte) (s t : Device) :
    Raised type source sev payload s (drivePins t) ↔ Raised type source sev payload s t := by simp [Raised]

@[simp] theorem raised_putOut (type source sev : Nat) (payload : List Byte) (o : List Output) (s t : Device) :
    Raised type source sev payload (putOut o s) t ↔ Raised type source sev payload s t := Iff.rfl

@[simp] theorem faulted_drivePins (id inst : Nat) (s t : Device) : Faulted id inst s (drivePins t) ↔ Faulted id inst s t := by
  simp [Faulted]

@[simp] theorem faulted_putOut (id inst : Nat) (o : List Output) (s t : Device) :
    Faulted id inst (putOut o s) t ↔ Faulted id inst s t := Iff.rfl

@[simp] theorem rxEnters_drivePins (c : Carrier) (st : RxState) (cause : Nat) (s t : Device) :
    RxEnters c st cause s (drivePins t) ↔ RxEnters c st cause s t := by simp [RxEnters]

@[simp] theorem rxEnters_putOut (c : Carrier) (st : RxState) (cause : Nat) (o : List Output) (s t : Device) :
    RxEnters c st cause (putOut o s) t ↔ RxEnters c st cause s t := Iff.rfl

@[simp] theorem rxFalls_drivePins (c : Carrier) (st : RxState) (cause : Nat) (s t : Device) :
    RxFalls c st cause s (drivePins t) ↔ RxFalls c st cause s t := by simp [RxFalls]

@[simp] theorem rxFalls_putOut (c : Carrier) (st : RxState) (cause : Nat) (o : List Output) (s t : Device) :
    RxFalls c st cause (putOut o s) t ↔ RxFalls c st cause s t := Iff.rfl

/-! ### Events and faults -/

theorem raised_raise (type source sev : Nat) (payload : List Byte) (s : Device) :
    Raised type source sev payload s (raise type source sev payload s) := rfl

theorem faulted_fault {id inst : Nat} (detail : List Byte) (s : Device) (h : isSource id inst = true) :
    Faulted id inst s (fault id inst detail s) := by
  obtain ⟨-, -, events, last⟩ := source_fault id inst detail s h
  exact ⟨events, last⟩

/-- A carrier is a source of a fault that each carrier has. -/
theorem isSource_carrier {id : Nat} (h : isSource id 0 = true ∧ isSource id 1 = true) (c : Carrier) :
    isSource id c.num = true := by
  obtain ⟨h0, h1⟩ := h
  cases c
  · exact h0
  · exact h1

/-! ### The two carriers -/

@[simp] theorem carrier_other_ne (c : Carrier) : c.other ≠ c := by cases c <;> decide

@[simp] theorem Two.get_mod_other {α : Type} (p : Two α) (c : Carrier) (f : α → α) :
    (p.mod c f).get c.other = p.get c.other := p.get_mod_ne f c c.other (carrier_other_ne c)

/-! ### What a fault leaves of the stack -/

/-- `t` has the stack of `s` but for the stack-wide trigger that a capture sends: its number, that it was seen, and its
item in the ports' queues (19_fault_handling R754; 14_buffer_memory_and_latency_equaliser R619). -/
def Triggered (s t : Device) : Prop :=
  ∃ n seen ports, t.stack = { s.stack with nextSeq := n, seen := seen, ports := ports } ∧
    ∀ p, ∃ l, sbPort t p = { sbPort s p with trigs := l }

theorem Triggered.of_stack {s t : Device} (h : t.stack = s.stack) : Triggered s t :=
  ⟨s.stack.nextSeq, s.stack.seen, s.stack.ports, h, fun p => ⟨(sbPort s p).trigs, by simp [sbPort, h]⟩⟩

theorem Triggered.refl (s : Device) : Triggered s s := .of_stack rfl

theorem Triggered.trans {s t u : Device} (h : Triggered s t) (k : Triggered t u) : Triggered s u := by
  obtain ⟨_, _, _, h, hp⟩ := h
  obtain ⟨n, seen, ports, k, kp⟩ := k
  refine ⟨n, seen, ports, by rw [k, h], fun p => ?_⟩
  obtain ⟨_, hl⟩ := hp p
  obtain ⟨l, kl⟩ := kp p
  exact ⟨l, by rw [kl, hl]⟩

theorem Triggered.each {α : Type} (l : List α) (f : α → Device → Device) (h : ∀ x s, Triggered s (f x s))
    (s : Device) : Triggered s (Machine.each l f s) := by
  unfold Machine.each
  induction l generalizing s with
  | nil => exact .refl s
  | cons a r ih => exact (h a s).trans (ih (f a s))

/-- A conditional change after others. -/
theorem Triggered.andIte {s t u : Device} (c : Prop) [Decidable c] (h : Triggered s t) (k : Triggered t u) :
    Triggered s (if c then u else t) := by
  split
  · exact h.trans k
  · exact h

theorem triggered_trigSlot (k i : Nat) (t point : Time) (s : Device) : Triggered s (trigSlot k i t point s) := by
  refine .of_stack ?_
  unfold trigSlot
  dsimp only
  (repeat' split) <;> rfl

theorem triggered_sendTrig (t : Time) (s : Device) : Triggered s (sendTrig t s) := by
  have queued (x : TrigItem) (p : Nat) (s : Device) : Triggered s (modPort p (fun q => { q with trigs := q.trigs ++ [x] }) s) := by
    refine ⟨s.stack.nextSeq, s.stack.seen, _, rfl, fun j => ?_⟩
    simp only [sbPort, modPort, modStack_stack, Tab.get_modify]
    split
    · rename_i h
      subst h
      exact ⟨_, rfl⟩
    · exact ⟨_, rfl⟩
  unfold sendTrig
  dsimp only
  refine Triggered.trans ?_ (Triggered.each _ _ (fun i s => triggered_trigSlot _ _ _ _ s) _)
  refine Triggered.trans ?_ (Triggered.each _ _ (fun p s => queued _ p s) _)
  exact ⟨_, _, _, rfl, fun p => ⟨(sbPort s p).trigs, rfl⟩⟩

theorem triggered_localTrig (k : Nat) (t : Time) (f : Nat → CapSlot → Bool) (s : Device) :
    Triggered s (localTrig k t f s) := by
  unfold localTrig
  refine Triggered.andIte _ (Triggered.each _ _ (fun i s => ?_) s) (triggered_sendTrig t _)
  split
  · exact triggered_trigSlot _ _ _ _ s
  · exact .refl s

@[simp] theorem eraseKeys_stack (s : Device) : (eraseKeys s).stack = s.stack :=
  (kept_eraseKeys (ρ := .part .stack) (s₀ := s) s (by decide)).mpr (.refl _ s)

theorem triggered_faultOne (others : Nat) (t : Time) (e : FaultIn) (s : Device) :
    Triggered s (faultOne others t e s) := by
  unfold faultOne
  split
  · exact .refl s
  · dsimp only
    refine Triggered.trans ?_ (.of_stack rfl)
    refine Triggered.trans ?_ (triggered_localTrig _ _ _ _)
    refine Triggered.andIte _ ?_ (.of_stack rfl)
    refine Triggered.andIte _ ?_ (.of_stack (eraseKeys_stack _))
    refine Triggered.andIte _ ?_ (.of_stack rfl)
    refine Triggered.andIte _ ?_ (.of_stack rfl)
    refine Triggered.andIte _ ?_ (.of_stack rfl)
    exact .of_stack rfl

theorem triggered_faultGroup (t : Time) (l : List FaultIn) (s : Device) : Triggered s (faultGroup t l s) :=
  Triggered.each _ _ (fun e s => triggered_faultOne _ t e s) s

theorem triggered_fault (id inst : Nat) (detail : List Byte) (s : Device) : Triggered s (fault id inst detail s) :=
  triggered_faultGroup _ _ s

theorem triggered_faultOn (id inst : Nat) (detail : List Byte) (s : Device) : Triggered s (faultOn id inst detail s) := by
  unfold faultOn
  split
  · exact .refl s
  · exact triggered_faultGroup _ _ s

theorem Triggered.stackId {s t : Device} (h : Triggered s t) : t.stack.stackId = s.stack.stackId := by
  obtain ⟨_, _, _, h, _⟩ := h
  rw [h]

@[simp] theorem fault_stackId (id inst : Nat) (detail : List Byte) (s : Device) :
    (fault id inst detail s).stack.stackId = s.stack.stackId := (triggered_fault id inst detail s).stackId

@[simp] theorem faultOn_stackId (id inst : Nat) (detail : List Byte) (s : Device) :
    (faultOn id inst detail s).stack.stackId = s.stack.stackId := (triggered_faultOn id inst detail s).stackId

end Sys2Proof.Machine

/-!
The receiver's states (05_receive_path R217 to R222): what an entry does, what a fall does, and the rows
RX_ACQ_PROGRESS, RX_ACQ_TIMEOUT, LOCK_HOLD_LOSS and CD_SEARCH_HINT_MISS.
-/
namespace Sys2Proof.Machine
open Sys2Proof

/-! ### An entry to a state -/

@[simp] theorem settle_rx (w : When) (f : Nat → Bool) (s : Device) : (settle w f s).rx = s.rx := rfl
@[simp] theorem settle_evq (w : When) (f : Nat → Bool) (s : Device) : (settle w f s).evq = s.evq := rfl

/-- The receiver as it enters a state. -/
def entered (st : RxState) (now : Time) (r : RxSt) : RxSt :=
  let r := { r with
    state := st, ticks := 0, exitCount := 0, syncMiss := 0, since := now,
    errBad := if st.atLeast .carrierLock then r.errBad else 0
    clockBad := if st.atLeast .eqConverge then r.clockBad else 0
    stageSf := if st = .staged then r.stageSf else none
    inStep := r.inStep && st.atLeast .superframeLock }
  if st = .cdSearch then { r with hintMissed := false, cdOutOfRange := false } else r

theorem Two.mod_mod {α : Type} (p : Two α) (c : Carrier) (f g : α → α) : (p.mod c f).mod c g = p.mod c (g ∘ f) := by
  cases c <;> rfl

@[simp] theorem setRx_rx (c : Carrier) (st : RxState) (cause : Nat) (s : Device) :
    (setRx c st cause s).rx = s.rx.mod c (entered st s.timing.now) := by
  cases st <;> simp [setRx, Two.mod_mod] <;> rfl

@[simp] theorem setRx_evq (c : Carrier) (st : RxState) (cause : Nat) (s : Device) :
    (setRx c st cause s).evq = s.evq ++ [⟨0x0203, c.num, 0, s.stack.stackId, s.timing.now,
      fit 12 (le 1 (s.rx.get c).state.code ++ le 1 st.code ++ le 1 cause)⟩] := by
  cases st <;> rfl

section
variable (st : RxState) (now : Time) (r : RxSt)

@[simp] theorem entered_state : (entered st now r).state = st := by unfold entered; cases st <;> rfl
@[simp] theorem entered_ticks : (entered st now r).ticks = 0 := by unfold entered; cases st <;> rfl
@[simp] theorem entered_exitCount : (entered st now r).exitCount = 0 := by unfold entered; cases st <;> rfl
@[simp] theorem entered_acqRetries : (entered st now r).acqRetries = r.acqRetries := by unfold entered; cases st <;> rfl
@[simp] theorem entered_falls : (entered st now r).falls = r.falls := by unfold entered; cases st <;> rfl
@[simp] theorem entered_hypothesis : (entered st now r).hypothesis = r.hypothesis := by unfold entered; cases st <;> rfl
@[simp] theorem entered_cdEst : (entered st now r).cdEst = r.cdEst := by unfold entered; cases st <;> rfl
@[simp] theorem entered_mapReported : (entered st now r).mapReported = r.mapReported := by
  unfold entered; cases st <;> rfl
end

theorem rxEnters_setRx (c : Carrier) (st : RxState) (cause : Nat) (s : Device) :
    RxEnters c st cause s (setRx c st cause s) := by simp [RxEnters, Raised]

/-- The receiver changes before the entry, and stays in its state. -/
theorem rxEnters_setRx_modRx (c : Carrier) (f : RxSt → RxSt) (st : RxState) (cause : Nat) (s : Device)
    (hf : ∀ r, (f r).state = r.state) : RxEnters c st cause s (setRx c st cause (modRx c f s)) := by
  simp [RxEnters, Raised, hf]

/-- The receiver changes after the entry, beside its state and the counts of the state. -/
theorem RxEnters.modRx {c : Carrier} {st : RxState} {cause : Nat} {s t : Device} {f : RxSt → RxSt}
    (h : RxEnters c st cause s t)
    (hf : ∀ r, (f r).state = r.state ∧ (f r).ticks = r.ticks ∧ (f r).exitCount = r.exitCount) :
    RxEnters c st cause s (modRx c f t) := by
  obtain ⟨state, ticks, exits, other, raised⟩ := h
  obtain ⟨hstate, hticks, hexits⟩ := hf (t.rx.get c)
  exact ⟨by simp [hstate, state], by simp [hticks, ticks], by simp [hexits, exits], by simp [other], raised⟩

/-! ### Exit conditions (Table 5-4) -/

section
variable {s : Device} {c : Carrier} {u : AcqIn}

theorem progress_off (off : (s.rx.get c).state = .off) (enabled : (s.rx.get c).enabled = true)
    (loop : (s.conv.get c).loopRunning = true) (fg : (s.conv.get c).fgDone = true) (power : losP s c = false) :
    rxAcqProgress c u s = setRx c .powerSeen 0 s := by
  simp [rxAcqProgress, off, enabled, loop, fg, power]

theorem progress_powerSeen (st : (s.rx.get c).state = .powerSeen) (count : 8 ≤ (s.rx.get c).exitCount) :
    rxAcqProgress c u s = modRx c (fun r =>
      { r with hint := if rxSet (setRx c .cdSearch 0 s) c 8 = 0 then .blind else .host }) (setRx c .cdSearch 0 s) := by
  simp [rxAcqProgress, st, Nat.not_lt.mpr count]

theorem progress_cdSearch {m : ModePlan} (st : (s.rx.get c).state = .cdSearch) (mode : modeOf s c = some m)
    (first : (s.rx.get c).cdOutOfRange = false) : rxAcqProgress c u s =
      if cdInRange m.rs (judgeCd s c u).2 then
        setRx c .clockLock 0 (modRx c (fun r =>
          { r with hypothesis := (judgeCd s c u).1, cdEst := (judgeCd s c u).2 }) s)
      else fault 0x0321 c.num [] (modRx c (fun r =>
        { r with cdEst := (judgeCd s c u).2, cdOutOfRange := true }) s) := by
  simp [rxAcqProgress, st, mode, first]

theorem progress_clockLock (st : (s.rx.get c).state = .clockLock) (count : 1000 ≤ (s.rx.get c).exitCount) :
    rxAcqProgress c u s = setRx c .eqConverge 0 s := by
  simp [rxAcqProgress, st, Nat.not_lt.mpr count]

theorem progress_eqConverge (st : (s.rx.get c).state = .eqConverge) (count : 1000 ≤ (s.rx.get c).exitCount) :
    rxAcqProgress c u s = setRx c .carrierLock 0 (modRx c (fun r => { r with eqTimeouts := 0 }) s) := by
  simp [rxAcqProgress, st, Nat.not_lt.mpr count]

theorem progress_carrierLock (st : (s.rx.get c).state = .carrierLock) (native : native s c = true)
    (count : 3 ≤ (s.rx.get c).exitCount) : rxAcqProgress c u s = enterSuperframeLock c u.map s := by
  simp [rxAcqProgress, st, native, count]

theorem progress_superframeLock (st : (s.rx.get c).state = .superframeLock)
    (count : (if native s c then 128 else 38093) ≤ (s.rx.get c).exitCount) :
    rxAcqProgress c u s = setRx c (if native s c && (s.rx.get c).bringUp then .staged else .inService) 0 s := by
  cases h : native s c <;> simp [h] at count <;> simp [rxAcqProgress, st, h, Nat.not_lt.mpr count]

theorem progress_staged (st : (s.rx.get c).state = .staged) (full : (s.rx.get c).stageSf.isSome = true)
    (count : 8 ≤ (s.rx.get c).exitCount) : rxAcqProgress c u s = setRx c .inService 0 s := by
  simp [rxAcqProgress, st, full, count]

end

@[simp] theorem judgeCd_putOut (c : Carrier) (u : AcqIn) (o : List Output) (s : Device) :
    judgeCd (putOut o s) c u = judgeCd s c u := by
  simp only [judgeCd, feAuto_putOut, cset_putOut, rxSet_putOut, putOut_rx]

/-- The entry to SUPERFRAME_LOCK with the map as it stands, or with no automatic orientation. -/
theorem enterSuperframeLock_plain {s : Device} {c : Carrier} {map : Nat}
    (h : (feAuto s c && map ≠ 0x03020100) = false) : enterSuperframeLock c map s = setRx c .superframeLock 0
      (modRx c (fun r => { r with mapReported := if feAuto s c then map else r.mapReported }) s) := by
  unfold enterSuperframeLock
  dsimp only
  rw [h]
  rfl

/-- The entry to SUPERFRAME_LOCK with another map identified. -/
theorem enterSuperframeLock_reports {s : Device} {c : Carrier} {map : Nat}
    (h : (feAuto s c && map ≠ 0x03020100) = true) :
    enterSuperframeLock c map s = raise 0x0204 c.num 0 (le 4 map) (setRx c .superframeLock 0
      (modRx c (fun r => { r with mapReported := if feAuto s c then map else r.mapReported }) s)) := by
  unfold enterSuperframeLock
  dsimp only
  rw [h]
  rfl

theorem only_setRx (c : Carrier) (st : RxState) (cause : Nat) (s : Device) :
    Only [.rx, .evq, .pendSet] s (setRx c st cause s) :=
  only_of_kept fun ρ hρ => by simp at hρ; simp [hρ]

@[simp] theorem setRx_stack (c : Carrier) (st : RxState) (cause : Nat) (s : Device) :
    (setRx c st cause s).stack = s.stack := only_setRx c st cause s .stack (by decide)
@[simp] theorem setRx_timing (c : Carrier) (st : RxState) (cause : Nat) (s : Device) :
    (setRx c st cause s).timing = s.timing := only_setRx c st cause s .timing (by decide)

/-- Settings wait for an entry to CD_SEARCH or SUPERFRAME_LOCK alone. -/
theorem only_setRx_of_ne {st : RxState} (search : st ≠ .cdSearch) (lock : st ≠ .superframeLock) (c : Carrier)
    (cause : Nat) (s : Device) : Only [.rx, .evq] s (setRx c st cause s) := by
  refine only_of_kept fun ρ hρ => ?_
  simp at hρ
  cases st <;> simp [setRx, hρ] at search lock ⊢
/-- The receiver changes, and then enters a state for which no setting waits. -/
theorem only_setRx_modRx {st : RxState} (search : st ≠ .cdSearch) (lock : st ≠ .superframeLock) (c : Carrier)
    (f : RxSt → RxSt) (cause : Nat) (s : Device) : Only [.rx, .evq] s (setRx c st cause (modRx c f s)) :=
  Only.trans (only_of_kept fun ρ hρ => by simp at hρ; simp [hρ]) (only_setRx_of_ne search lock c cause (modRx c f s))

/-! ### Falls (Table 5-6) -/

/-- What a fall says of the device after it is said of the receivers and of the records that wait. -/
theorem RxFalls.congr {c : Carrier} {st : RxState} {cause : Nat} {s t u : Device} (h : RxFalls c st cause s t)
    (rx : u.rx = t.rx) (evq : u.evq = t.evq) : RxFalls c st cause s u := by
  simpa only [RxFalls, RxEnters, Raised, rx, evq] using h

/-- The receiver changes after the fall, beside what the fall sets. -/
theorem RxFalls.modRx {c : Carrier} {st : RxState} {cause : Nat} {s t : Device} {f : RxSt → RxSt}
    (h : RxFalls c st cause s t)
    (hf : ∀ r, (f r).state = r.state ∧ (f r).ticks = r.ticks ∧ (f r).exitCount = r.exitCount)
    (kept : ∀ r, (f r).acqRetries = r.acqRetries ∧ (f r).falls = r.falls) :
    RxFalls c st cause s (modRx c f t) := by
  obtain ⟨enters, retries, falls⟩ := h
  obtain ⟨hretries, hfalls⟩ := kept (t.rx.get c)
  exact ⟨enters.modRx hf, by simp [hretries, retries], by simp [hfalls, falls]⟩

/-- The receiver and the parts of a fault change before the fall, beside what the fall reads. -/
theorem RxFalls.of_before {c : Carrier} {st : RxState} {cause : Nat} {s r t : Device} (h : RxFalls c st cause r t)
    (state : (r.rx.get c).state = (s.rx.get c).state) (retries : (r.rx.get c).acqRetries = (s.rx.get c).acqRetries)
    (falls : (r.rx.get c).falls = (s.rx.get c).falls) (other : r.rx.get c.other = s.rx.get c.other)
    (evq : r.evq = s.evq) (id : r.stack.stackId = s.stack.stackId) (now : r.timing.now = s.timing.now) :
    RxFalls c st cause s t := by
  simpa only [RxFalls, RxEnters, Raised, state, retries, falls, other, evq, id, now] using h

theorem rxFalls_rxFall (c : Carrier) (st : RxState) (cause : Nat) (s : Device) :
    RxFalls c st cause s (rxFall c st cause s) := by
  have fallen : RxFalls c st cause s (setRx c st cause (modRx c (fun r => { r with
      acqRetries := sat 16 (r.acqRetries + 1), falls := 0 :: r.falls }) s)) :=
    ⟨rxEnters_setRx_modRx c _ st cause s fun _ => rfl, by simp, by simp⟩
  unfold rxFall
  dsimp only
  split
  · exact fallen.congr (by simp) (by simp)
  · exact fallen

theorem rxFalls_fallToSearch (c : Carrier) (h : HintMode) (cause : Nat) (s : Device) :
    RxFalls c .cdSearch cause s (fallToSearch c h cause s) :=
  (rxFalls_rxFall c .cdSearch cause s).modRx (fun _ => ⟨rfl, rfl, rfl⟩) fun _ => ⟨rfl, rfl⟩

theorem fallToSearch_hint {h : HintMode} (blind : h ≠ .host) (c : Carrier) (cause : Nat) (s : Device) :
    ((fallToSearch c h cause s).rx.get c).hint = h := by
  simp [fallToSearch, blind]

@[simp] theorem rxFall_hypothesis (c : Carrier) (st : RxState) (cause : Nat) (s : Device) :
    ((rxFall c st cause s).rx.get c).hypothesis = (s.rx.get c).hypothesis := by
  unfold rxFall
  dsimp only
  split <;> simp

@[simp] theorem fallToSearch_hypothesis (c : Carrier) (h : HintMode) (cause : Nat) (s : Device) :
    ((fallToSearch c h cause s).rx.get c).hypothesis = (s.rx.get c).hypothesis := by simp [fallToSearch]

section
variable {s : Device} {c : Carrier}

theorem timeout_powerSeen (st : (s.rx.get c).state = .powerSeen) (due : 20000 ≤ (s.rx.get c).ticks) :
    rxAcqTimeout c s = rxFall c .powerSeen 10 s := by
  simp [rxAcqTimeout, rxTimeout, st, Nat.not_lt.mpr due]

theorem timeout_cdSearch (st : (s.rx.get c).state = .cdSearch)
    (due : (if (s.rx.get c).hint = .blind || (s.rx.get c).hintMissed then 1650000 else 50000) ≤ (s.rx.get c).ticks) :
    rxAcqTimeout c s = fallToSearch c .blind 2 s := by
  rw [rxAcqTimeout]
  simp only [rxTimeout, st]
  rw [if_neg (Nat.not_lt.mpr due)]

theorem timeout_clockLock (st : (s.rx.get c).state = .clockLock) (due : 30000 ≤ (s.rx.get c).ticks) :
    rxAcqTimeout c s = fallToSearch c .host 3 s := by
  simp [rxAcqTimeout, rxTimeout, st, Nat.not_lt.mpr due]

/-- The receiver as EQ_CONVERGE times out: the next hypothesis, or one timeout more (R193, R196). -/
def eqTimedOut (auto : Bool) (r : RxSt) : RxSt :=
  { r with
    hypothesis := if auto then (r.hypothesis + 1) % 4 else r.hypothesis
    eqTimeouts := if auto then 0 else r.eqTimeouts + 1 }

theorem timeout_eqConverge (st : (s.rx.get c).state = .eqConverge) (due : 80000 ≤ (s.rx.get c).ticks) :
    rxAcqTimeout c s = fallToSearch c .host 3
      (if ((modRx c (eqTimedOut (feAuto s c)) s).rx.get c).eqTimeouts = 4 then
        fault 0x0322 c.num [] (modRx c (fun r => { r with eqTimeouts := 0 }) (modRx c (eqTimedOut (feAuto s c)) s))
      else modRx c (eqTimedOut (feAuto s c)) s) := by
  rw [rxAcqTimeout]
  simp only [rxTimeout, st]
  rw [if_neg (Nat.not_lt.mpr due)]
  rfl

theorem timeout_carrierLock (st : (s.rx.get c).state = .carrierLock) (due : 40000 ≤ (s.rx.get c).ticks) :
    rxAcqTimeout c s = rxFall c .eqConverge 4 s := by
  simp [rxAcqTimeout, rxTimeout, st, Nat.not_lt.mpr due]

theorem timeout_superframeLock (st : (s.rx.get c).state = .superframeLock) (due : 60000 ≤ (s.rx.get c).ticks) :
    rxAcqTimeout c s = rxFall c .eqConverge 4 s := by
  simp [rxAcqTimeout, rxTimeout, st, Nat.not_lt.mpr due]

/-- After the changes of an EQ_CONVERGE timeout the fall is as from the state before. -/
theorem rxFalls_eqTimeout (st : (s.rx.get c).state = .eqConverge) (due : 80000 ≤ (s.rx.get c).ticks) :
    RxFalls c .cdSearch 3 s (rxAcqTimeout c s) := by
  rw [timeout_eqConverge st due]
  split
  · exact (rxFalls_fallToSearch c .host 3 _).of_before (by simp [eqTimedOut]) (by simp [eqTimedOut])
      (by simp [eqTimedOut]) (by simp) (by simp) (by simp) (by simp)
  · exact (rxFalls_fallToSearch c .host 3 _).of_before (by simp [eqTimedOut]) (by simp [eqTimedOut])
      (by simp [eqTimedOut]) (by simp) (by simp) (by simp) (by simp)

theorem eqTimeout_hypothesis (st : (s.rx.get c).state = .eqConverge) (due : 80000 ≤ (s.rx.get c).ticks) :
    ((rxAcqTimeout c s).rx.get c).hypothesis =
      if feAuto s c then ((s.rx.get c).hypothesis + 1) % 4 else (s.rx.get c).hypothesis := by
  rw [timeout_eqConverge st due]
  split <;> simp [eqTimedOut]

theorem lockHoldLoss_clock (st : (s.rx.get c).state.atLeast .eqConverge = true)
    (bad : rxSet s c 24 ≤ (s.rx.get c).clockBad) :
    lockHoldLoss c s = fallToSearch c .last 5 (modRx c (fun r => { r with clockBad := 0 }) s) := by
  simp [lockHoldLoss, st, bad]

theorem lockHoldLoss_error (st : (s.rx.get c).state.atLeast .carrierLock = true)
    (good : (s.rx.get c).clockBad < rxSet s c 24) (bad : rxSet s c 24 ≤ (s.rx.get c).errBad) :
    lockHoldLoss c s = rxFall c .eqConverge 6 (modRx c (fun r => { r with errBad := 0 }) s) := by
  simp [lockHoldLoss, st, bad, Nat.not_le.mpr good]

theorem cdSearchHintMiss_eq (st : (s.rx.get c).state = .cdSearch) (hint : (s.rx.get c).hint ≠ .blind)
    (first : (s.rx.get c).hintMissed = false) : cdSearchHintMiss c s =
      modRx c (fun r => { r with hintMissed := true, hintMiss := sat 16 (r.hintMiss + 1) }) s := by
  simp [cdSearchHintMiss, st, hint, first]

end

end Sys2Proof.Machine

/-!
The receiver's rows: acquisition and falls.
-/
namespace Sys2Proof.Machine
open Sys2Proof

/-- Settles O6: each exit condition leads to one entry, and an entry is one record with its event. -/
theorem acquisitionProgress : Obligations.AcquisitionProgress := by
  unfold Obligations.AcquisitionProgress
  refine ⟨?_, ?_, ?_, ?_, ?_, ?_, ?_, ?_, ?_⟩
  · intro s c u st enabled loop fg power
    refine yields_of rfl (progress_off (s := putOut [] s.dev) st enabled loop fg power) ?_
    simp only [rxEnters_drivePins, only_drivePins_iff]
    exact ⟨rxEnters_setRx c _ _ (putOut [] s.dev), only_setRx c _ _ (putOut [] s.dev)⟩
  · intro s c u st count
    refine yields_of rfl (progress_powerSeen (s := putOut [] s.dev) st count) ?_
    simp only [rxEnters_drivePins, only_drivePins_iff]
    exact ⟨(rxEnters_setRx c _ _ (putOut [] s.dev)).modRx fun _ => ⟨rfl, rfl, rfl⟩,
      only_of_kept fun ρ hρ => by simp at hρ; simp [hρ]⟩
  · intro s c u m st mode first
    refine yields_of rfl (progress_cdSearch (s := putOut [] s.dev) st (by simpa using mode) first) ?_
    rw [judgeCd_putOut]
    split
    · simp only [rxEnters_drivePins]
      exact ⟨by simp, rxEnters_setRx_modRx c _ _ _ (putOut [] s.dev) fun _ => rfl, by simp⟩
    · simp only [faulted_drivePins]
      exact ⟨by simp, by simpa using st, faulted_fault [] _ (isSource_carrier (by decide) c)⟩
  · intro s c u st count
    refine yields_of rfl (progress_clockLock (s := putOut [] s.dev) st count) ?_
    simp only [rxEnters_drivePins, only_drivePins_iff]
    exact ⟨rxEnters_setRx c _ _ (putOut [] s.dev), only_setRx_of_ne (by decide) (by decide) c _ (putOut [] s.dev)⟩
  · intro s c u st count
    refine yields_of rfl (progress_eqConverge (s := putOut [] s.dev) st count) ?_
    simp only [rxEnters_drivePins, only_drivePins_iff]
    exact ⟨rxEnters_setRx_modRx c _ _ _ (putOut [] s.dev) fun _ => rfl,
      only_setRx_modRx (by decide) (by decide) c _ _ (putOut [] s.dev)⟩
  · intro s c u st nat count plain
    refine yields_of rfl ((progress_carrierLock (s := putOut [] s.dev) (u := u) st (by simpa using nat) count).trans
      (enterSuperframeLock_plain (by simp [plain]))) ?_
    simp only [rxEnters_drivePins, only_drivePins_iff, drivePins_rx, feAuto_putOut]
    exact ⟨rxEnters_setRx_modRx c _ _ _ (putOut [] s.dev) fun _ => rfl, fun h => by simp [h], fun h => by simp [h],
      only_of_kept fun ρ hρ => by simp at hρ; simp [hρ]⟩
  · intro s c u st nat count auto other
    refine yields_of rfl ((progress_carrierLock (s := putOut [] s.dev) (u := u) st (by simpa using nat) count).trans
      (enterSuperframeLock_reports (by simp [auto, other]))) ?_
    simp only [only_drivePins_iff, feAuto_putOut, auto, if_true]
    refine ⟨by simp, by simp, by simp, ?_, only_of_kept fun ρ hρ => by simp at hρ; simp [hρ]⟩
    simp [raise, raiseAt, st]
  · intro s c u st count
    refine yields_of rfl (progress_superframeLock (s := putOut [] s.dev) st (by simpa using count)) ?_
    simp only [rxEnters_drivePins, only_drivePins_iff, native_putOut]
    refine ⟨rxEnters_setRx c _ _ (putOut [] s.dev), only_setRx_of_ne ?_ ?_ c _ (putOut [] s.dev)⟩ <;> split <;> decide
  · intro s c u st full count
    refine yields_of rfl (progress_staged (s := putOut [] s.dev) st full count) ?_
    simp only [rxEnters_drivePins, only_drivePins_iff]
    exact ⟨rxEnters_setRx c _ _ (putOut [] s.dev), only_setRx_of_ne (by decide) (by decide) c _ (putOut [] s.dev)⟩
/-- Settles O7: each timeout and each lost lock is one fall, to the state and with the cause of Table 5-6. -/
theorem acquisitionFalls : Obligations.AcquisitionFalls := by
  unfold Obligations.AcquisitionFalls
  refine ⟨?_, ?_, ?_, ?_, ?_, ?_, ?_, ?_, ?_⟩
  · intro s c st due
    refine yields_of rfl (timeout_powerSeen (s := putOut [] s.dev) st due) ?_
    simpa using rxFalls_rxFall c .powerSeen 10 (putOut [] s.dev)
  · intro s c st due
    refine yields_of rfl (timeout_cdSearch (s := putOut [] s.dev) st due) ?_
    simpa using And.intro (rxFalls_fallToSearch c .blind 2 (putOut [] s.dev))
      (fallToSearch_hint (h := .blind) (by decide) c 2 (putOut [] s.dev))
  · intro s c st due
    refine yields_of rfl (timeout_clockLock (s := putOut [] s.dev) st due) ?_
    simpa using rxFalls_fallToSearch c .host 3 (putOut [] s.dev)
  · intro s c st due
    refine yields_act rfl ?_
    simpa using And.intro (rxFalls_eqTimeout (s := putOut [] s.dev) st due)
      (eqTimeout_hypothesis (s := putOut [] s.dev) st due)
  · intro s c st due
    refine yields_of rfl (timeout_carrierLock (s := putOut [] s.dev) st due) ?_
    simpa using rxFalls_rxFall c .eqConverge 4 (putOut [] s.dev)
  · intro s c st due
    refine yields_of rfl (timeout_superframeLock (s := putOut [] s.dev) st due) ?_
    simpa using rxFalls_rxFall c .eqConverge 4 (putOut [] s.dev)
  · intro s c st bad
    refine yields_of rfl (lockHoldLoss_clock (s := putOut [] s.dev) st (by simpa using bad)) ?_
    simp only [rxFalls_drivePins, drivePins_rx]
    exact ⟨(rxFalls_fallToSearch c .last 5 _).of_before (by simp) (by simp) (by simp) (by simp) rfl rfl rfl,
      fallToSearch_hint (by decide) c 5 _⟩
  · intro s c st good bad
    refine yields_of rfl (lockHoldLoss_error (s := putOut [] s.dev) st (by simpa using good) (by simpa using bad)) ?_
    simp only [rxFalls_drivePins]
    exact (rxFalls_rxFall c .eqConverge 6 _).of_before (by simp) (by simp) (by simp) (by simp) rfl rfl rfl
  · intro s c st hint first
    refine yields_of rfl (cdSearchHintMiss_eq (s := putOut [] s.dev) st hint first) ?_
    simp only [drivePins_rx, only_drivePins_iff]
    exact ⟨by simp, by simp, only_of_kept fun ρ hρ => by simp at hρ; simp [hρ]⟩

end Sys2Proof.Machine

/-!
The transmitter's ramp and the converter rows of a carrier (04_transmit_path R170 to R177; 03_converters_and_trim R108
to R119).
-/
namespace Sys2Proof.Machine
open Sys2Proof

/-! ### Ramps -/

/-- `TXON` of a carrier follows its transmitter (04_transmit_path R170). -/
theorem drivePins_txon_get (c : Carrier) (s : Device) :
    (drivePins s).elec.txon.get c = decide ((s.tx.get c).state ≠ .off) := by
  rw [drivePins_eq]
  cases c <;> rfl

theorem only_setTxState (c : Carrier) (st : TxState) (s : Device) : Only [.tx] s (setTxState c st s) := by
  intro p hp
  cases p
  case tx => exact absurd List.mem_cons_self hp
  all_goals rfl

@[simp] theorem setTxState_tx (c : Carrier) (st : TxState) (s : Device) :
    (setTxState c st s).tx = s.tx.mod c fun t => { t with state := st } := rfl

theorem settleStart_tx (c : Carrier) (s : Device) : (settleStart c s).tx = s.tx := rfl

@[simp] theorem startRamp_tx (c : Carrier) (st : TxState) (s : Device) :
    (startRamp c st s).tx =
      s.tx.mod c fun t => { t with state := st, rampDone := 0, rampLen := rampTicks s c } := by
  rw [startRamp, settleStart_tx, setTxState_tx, modTx_tx, Two.mod_mod]
  rfl

theorem only_startRamp (c : Carrier) (st : TxState) (s : Device) : Only [.tx, .pendSet] s (startRamp c st s) := by
  intro p hp
  cases p
  case tx => exact absurd List.mem_cons_self hp
  case pendSet => exact absurd (List.mem_cons_of_mem _ List.mem_cons_self) hp
  all_goals rfl

/-! ### Converters of a carrier -/

theorem convOf_modConvK (c : Carrier) (k j : Nat) (f : ConvSt → ConvSt) (s : Device) :
    convOf (modConvK c k f s) c j = if j = k then f (convOf s c k) else convOf s c j := by
  simp [convOf, modConvK, Tab.get_modify]

@[simp] theorem modConvK_conv_other (c : Carrier) (k : Nat) (f : ConvSt → ConvSt) (s : Device) :
    (modConvK c k f s).conv.get c.other = s.conv.get c.other := by simp [modConvK]

/-- `t` has the converters of `s` but for those of one carrier, whose lists of waiting changes are the same. -/
def SamePending (c : Carrier) (s t : Device) : Prop :=
  (∀ k, (convOf t c k).pending = (convOf s c k).pending) ∧ t.conv.get c.other = s.conv.get c.other

theorem SamePending.refl (c : Carrier) (s : Device) : SamePending c s s := ⟨fun _ => rfl, rfl⟩

theorem SamePending.trans {c : Carrier} {s t u : Device} (h : SamePending c s t) (k : SamePending c t u) :
    SamePending c s u := by
  obtain ⟨pending, other⟩ := h
  obtain ⟨pending', other'⟩ := k
  exact ⟨fun n => (pending' n).trans (pending n), other'.trans other⟩

theorem SamePending.each {c : Carrier} {α : Type} (l : List α) (f : α → Device → Device)
    (h : ∀ x s, SamePending c s (f x s)) (s : Device) : SamePending c s (Machine.each l f s) := by
  unfold Machine.each
  induction l generalizing s with
  | nil => exact .refl c s
  | cons a r ih => exact (h a s).trans (ih (f a s))

theorem SamePending.of_conv {c : Carrier} {s t : Device} (h : t.conv = s.conv) : SamePending c s t :=
  ⟨fun _ => by simp [convOf, h], by rw [h]⟩

theorem samePending_modConvK (c : Carrier) (k : Nat) (f : ConvSt → ConvSt) (s : Device)
    (hf : ∀ v, (f v).pending = v.pending) : SamePending c s (modConvK c k f s) := by
  refine ⟨fun j => ?_, modConvK_conv_other c k f s⟩
  rw [convOf_modConvK]
  split
  · rename_i h
    rw [h, hf]
  · rfl

theorem samePending_modSlice (c : Carrier) (k n : Nat) (f : SliceSt → SliceSt) (s : Device) :
    SamePending c s (modSlice c k n f s) := samePending_modConvK c k _ s fun _ => rfl

theorem samePending_modSeg (c : Carrier) (k g : Nat) (f : SegSt → SegSt) (s : Device) :
    SamePending c s (modSeg c k g f s) := samePending_modConvK c k _ s fun _ => rfl

/-- A report is added. -/
theorem samePending_modConv (c : Carrier) (f : CarrierConv → CarrierConv) (s : Device)
    (hf : ∀ v, (f v).convs = v.convs) : SamePending c s (modConv c f s) :=
  ⟨fun k => by simp [convOf, hf], by simp⟩

theorem samePending_applyChange (c : Carrier) (k : Nat) (e : ElemChange) (s : Device) :
    SamePending c s (applyChange c k e s) := by
  unfold applyChange
  refine SamePending.trans ?_ (samePending_modConvK c k _ _ fun _ => rfl)
  cases e.kind
  · show SamePending c s (applySlice c k e s)
    unfold applySlice
    split
    · exact .refl c s
    split
    · exact .refl c s
    · exact ((samePending_modSlice c k _ _ s).trans (samePending_modSlice c k _ _ _)).trans
        (samePending_modConv c _ _ fun _ => rfl)
  · show SamePending c s (applyCell c k e s)
    unfold applyCell
    dsimp only
    split
    · exact .refl c s
    · exact (samePending_modSeg c k _ _ s).trans (samePending_modConv c _ _ fun _ => rfl)
  · exact samePending_modSlice c k _ _ s

theorem evalSpares_conv (c : Carrier) (before s : Device) : (evalSpares c before s).conv = s.conv :=
  (kept_evalSpares (ρ := .part .conv) (s₀ := s) c before s (by decide)).mpr (.refl _ s)

theorem samePending_withSpares (c : Carrier) (f : Device → Device) (s : Device) (h : SamePending c s (f s)) :
    SamePending c s (withSpares c f s) :=
  h.trans (.of_conv (evalSpares_conv c s (f s)))

/-- The changes that a filter takes leave the list of their converter; the other carrier does not change. -/
theorem applyChanges_pending (c : Carrier) (k : Nat) (f : ElemChange → Bool) (s : Device) :
    (convOf (applyChanges c k f s) c k).pending = (convOf s c k).pending.filter (fun e => !f e) ∧
      (applyChanges c k f s).conv.get c.other = s.conv.get c.other := by
  unfold applyChanges
  dsimp only
  split
  · rename_i none
    refine ⟨(List.filter_eq_self.mpr fun e he => ?_).symm, rfl⟩
    simpa using List.filter_eq_nil_iff.mp (List.isEmpty_iff.mp none) e he
  · obtain ⟨pending, other⟩ := SamePending.trans
      (SamePending.each ((convOf s c k).pending.filter f) (applyChange c k) (fun e s => samePending_applyChange c k e s)
        (modConvK c k (fun v => { v with pending := v.pending.filter fun e => !f e }) s))
      (.of_conv (evalSpares_conv c s _))
    exact ⟨by rw [withSpares, pending, convOf_modConvK, if_pos rfl], by rw [withSpares, other, modConvK_conv_other]⟩

/-! ### The rows -/

section
variable {s : Device} {c : Carrier}

theorem txLeadElapsed_eq (st : (s.tx.get c).state = .lead) (left : (s.tx.get c).leadLeft = 0)
    (fg : (s.conv.get c).fgDone = true) (wanted : txWanted s c = true) :
    txLeadElapsed c s = startRamp c .rampUp s := by
  simp [txLeadElapsed, st, left, fg, wanted]

theorem txRampComplete_up (st : (s.tx.get c).state = .rampUp) (done : (s.tx.get c).rampLen ≤ (s.tx.get c).rampDone) :
    txRampComplete c s = setTxState c .on s := by
  simp [txRampComplete, st, Nat.not_lt.mpr done]

theorem txRampComplete_down (st : (s.tx.get c).state = .rampDown)
    (done : (s.tx.get c).rampLen ≤ (s.tx.get c).rampDone) : txRampComplete c s = setTxState c .off s := by
  simp [txRampComplete, st, Nat.not_lt.mpr done]

/-- The elements of the converters change beside the record of the loop. -/
def SameLoop (c : Carrier) (s t : Device) : Prop :=
  (t.conv.get c).loopRunning = (s.conv.get c).loopRunning ∧ (t.conv.get c).fgDone = (s.conv.get c).fgDone ∧
    t.conv.get c.other = s.conv.get c.other

theorem SameLoop.trans {s t u : Device} (h : SameLoop c s t) (k : SameLoop c t u) : SameLoop c s u := by
  obtain ⟨loop, fg, other⟩ := h
  obtain ⟨loop', fg', other'⟩ := k
  exact ⟨loop'.trans loop, fg'.trans fg, other'.trans other⟩

theorem SameLoop.each {α : Type} (l : List α) (f : α → Device → Device) (h : ∀ x s, SameLoop c s (f x s))
    (s : Device) : SameLoop c s (Machine.each l f s) := by
  unfold Machine.each
  induction l generalizing s with
  | nil => exact ⟨rfl, rfl, rfl⟩
  | cons a r ih => exact (h a s).trans (ih (f a s))

theorem sameLoop_modConvK (k : Nat) (f : ConvSt → ConvSt) (s : Device) : SameLoop c s (modConvK c k f s) :=
  ⟨by simp [modConvK], by simp [modConvK], modConvK_conv_other c k f s⟩

theorem sameLoop_sparesUnmeasured (s : Device) : SameLoop c s (sparesUnmeasured c s) := by
  unfold sparesUnmeasured
  refine (SameLoop.each _ _ (fun k t => SameLoop.each _ _ (fun n u => ?_) t) s).trans
    (SameLoop.each _ _ (fun k t => SameLoop.each _ _ (fun g u => sameLoop_modConvK k _ u) t) _)
  dsimp only
  split
  · exact sameLoop_modConvK k _ u
  · exact ⟨rfl, rfl, rfl⟩

/-- The loop starts, and every element waits for its calibration. -/
theorem loopStart_conv (power : s.clock.power.get c = true) (stopped : (s.conv.get c).loopRunning = false) :
    ((loopStart c s).conv.get c).loopRunning = true ∧ ((loopStart c s).conv.get c).fgDone = false ∧
      (loopStart c s).conv.get c.other = s.conv.get c.other := by
  have started : carrierLoopStart c s = modConv c (fun k => { k with loopRunning := true, fgDone := false }) s := by
    simp [carrierLoopStart, power, stopped]
  have conv : (loopStart c s).conv = (each [0, 1, 2, 3, 4, 5, 6, 7] (fun k s => modConvK c k (fun v => { v with
      slices := Tab.mapAll (sliceInit k) v.slices fun _ q => { q with calAge := none } }) s)
      (sparesUnmeasured c (carrierLoopStart c s))).conv := by
    rw [loopStart]
    simp only [stopped, started, modConv_conv, Two.get_mod, Bool.not_true, Bool.or_self, Bool.false_eq_true, if_false]
    exact evalSpares_conv c _ _
  obtain ⟨loop, fg, other⟩ := (sameLoop_sparesUnmeasured (c := c) (carrierLoopStart c s)).trans
    (SameLoop.each [0, 1, 2, 3, 4, 5, 6, 7] _ (fun k t => sameLoop_modConvK k _ t) _)
  rw [conv]
  exact ⟨loop.trans (by simp [started]), fg.trans (by simp [started]), other.trans (by simp [started])⟩

end

end Sys2Proof.Machine

namespace Sys2Proof.Machine
open Sys2Proof

theorem triggered_faultOff (id inst : Nat) (s : Device) : Triggered s (faultOff id inst s) := by
  refine .of_stack ?_
  unfold faultOff
  dsimp only
  split <;> rfl

theorem Triggered.ite {s t u : Device} (c : Prop) [Decidable c] (h : Triggered s t) (k : Triggered s u) :
    Triggered s (if c then t else u) := by split <;> assumption

theorem triggered_evalSpares (c : Carrier) (before s : Device) : Triggered s (evalSpares c before s) := by
  have first (p q : Prop) [Decidable p] [Decidable q] :
      Triggered s (if p then faultOn 0x0307 c.num [] s else if q then faultOff 0x0307 c.num s else s) :=
    .ite p (triggered_faultOn _ _ _ s) (.ite q (triggered_faultOff _ _ s) (.refl s))
  exact .ite (failedInPlace _ c = true) (first _ _) ((first _ _).trans (triggered_faultOff _ _ _))

theorem applyChanges_stackId (c : Carrier) (k : Nat) (f : ElemChange → Bool) (s : Device) :
    (applyChanges c k f s).stack.stackId = s.stack.stackId := by
  unfold applyChanges
  dsimp only
  split
  · rfl
  · rw [withSpares, (triggered_evalSpares c s _).stackId]
    have stack : ∀ t, Kept (.part .stack) s (each ((convOf s c k).pending.filter f) (applyChange c k) t) ↔
        Kept (.part .stack) s t := fun t => kept_each _ _ t fun e u => kept_applyChange c k e u (by decide)
    exact congrArg StackSt.stackId ((stack _).mpr ((kept_modConvK _ _ _ s (by decide)).mpr (.refl _ s)))

@[simp] theorem applyChanges_timing (c : Carrier) (k : Nat) (f : ElemChange → Bool) (s : Device) :
    (applyChanges c k f s).timing = s.timing :=
  (kept_applyChanges (ρ := .part .timing) (s₀ := s) c k f s (by decide)).mpr (.refl _ s)

@[simp] theorem applyChanges_evq (c : Carrier) (k : Nat) (f : ElemChange → Bool) (s : Device) :
    (applyChanges c k f s).evq = s.evq :=
  (kept_applyChanges (ρ := .part .evq) (s₀ := s) c k f s (by decide)).mpr (.refl _ s)

@[simp] theorem applyChanges_settings (c : Carrier) (k : Nat) (f : ElemChange → Bool) (s : Device) :
    (applyChanges c k f s).settings = s.settings :=
  (kept_applyChanges (ρ := .part .settings) (s₀ := s) c k f s (by decide)).mpr (.refl _ s)

/-- The changes that have waited longer than `swap_defer` (03_converters_and_trim R116). -/
def lateChange (s : Device) (c : Carrier) (e : ElemChange) : Bool := csetN s c 0x0241 4 + 1 ≤ e.age

theorem swapDeferExpiry_eq {s : Device} {c : Carrier} {k : Fin 8} {e : ElemChange} (mode : zr s c = true)
    (loop : (s.conv.get c).loopRunning = true) (free : tb (csetN s c 0x0241 1) k.val = false)
    (waits : e ∈ (convOf s c k.val).pending) (late : csetN s c 0x0241 4 < e.age) :
    swapDeferExpiry c k s = raise 0x0202 c.num 1 (le 1 (k.val % 4) ++ le 1 (k.val / 4) ++
      le 2 ((convOf s c k.val).pending.filter (lateChange s c)).length) (applyChanges c k.val (lateChange s c) s) := by
  have due : ((convOf s c k.val).pending.filter (lateChange s c)).isEmpty = false := by
    rw [List.isEmpty_eq_false_iff]
    exact List.ne_nil_of_mem (List.mem_filter.mpr ⟨waits, decide_eq_true late⟩)
  rw [swapDeferExpiry]
  rw [if_neg]
  · rfl
  · show ¬(((convOf s c k.val).pending.filter (lateChange s c)).isEmpty = true ∨ _)
    simp [due, mode, loop, free]

/-! ### Settings at a block boundary -/

theorem native_of_accord {s t : Device} (h : t.accord = s.accord) (c : Carrier) : native t c = native s c := by
  simp [native, modeOf, plan, h]

@[simp] theorem convBlock_accord (c : Carrier) (txw rxw : Bool) (s : Device) : (convBlock c txw rxw s).accord = s.accord :=
  (kept_convBlock (ρ := .part .accord) (s₀ := s) c txw rxw s (by decide)).mpr (.refl _ s)

@[simp] theorem convBlock_tx (c : Carrier) (txw rxw : Bool) (s : Device) : (convBlock c txw rxw s).tx = s.tx :=
  (kept_convBlock (ρ := .part .tx) (s₀ := s) c txw rxw s (by decide)).mpr (.refl _ s)

/-- A waveform change of a carrier that waits for a block boundary. -/
def WaveWaits (c : Carrier) (q : PendSet) : Prop := q.when = When.block.code ∧ waveKey c q.key = true

theorem settleWave_pendSet {c : Carrier} {txw : Bool} {s : Device}
    (may : native s c = false ∨ (s.tx.get c).state = .off ∨ txw = true) :
    ∀ q ∈ (settleWave c txw s).pendSet, ¬WaveWaits c q := by
  have settled : settleWave c txw s = prunePending c (settle .block (waveKey c) s) := by
    rw [settleWave, if_neg]
    rcases may with h | h | h <;> simp [h]
  intro q hq
  rw [settled] at hq
  obtain ⟨-, h⟩ := List.mem_filter.mp (show q ∈ s.pendSet.filter _ from hq)
  simpa [WaveWaits, Decidable.imp_iff_not_or] using h

theorem settleRx_pendSet {c : Carrier} {rxw : Bool} {s : Device} {q : PendSet} (h : q ∈ (settleRx c rxw s).pendSet) :
    q ∈ s.pendSet := by
  unfold settleRx at h
  dsimp only at h
  split at h
  · exact (List.mem_filter.mp h).1
  · exact (List.mem_filter.mp (List.mem_filter.mp h).1).1

theorem blockBoundary_pendSet {c : Carrier} {txw rxw : Bool} {s : Device} (power : s.clock.power.get c = true) :
    (blockBoundary c txw rxw s).pendSet = (settleRx c rxw (settleWave c txw (convBlock c txw rxw s))).pendSet := by
  have later (t : Device) (b : Bool) : (when b (injectBoundary c) (commitTables c t)).pendSet = t.pendSet :=
    show Kept (.part .pendSet) t _ from
      (kept_when _ _ _ (kept_injectBoundary c _ (by decide))).mpr ((kept_commitTables c t (by decide)).mpr (.refl _ t))
  rw [blockBoundary, power]
  exact later _ _

/-- Settles O5: the rows of the ramp are one entry each, those of the converter touch the elements and the changes that
wait, and a block boundary lets the waveform settings go. -/
theorem transmitterAndConverterEvents : Obligations.TransmitterAndConverterEvents := by
  unfold Obligations.TransmitterAndConverterEvents
  refine ⟨?_, ?_, ?_, ?_, ?_, ?_⟩
  · intro s c st left fg wanted
    refine yields_of rfl (txLeadElapsed_eq (s := putOut [] s.dev) st left fg (by simpa using wanted)) ?_
    simp only [only_drivePins_iff, drivePins_txon_get, drivePins_tx, drivePins_settings]
    exact ⟨by simp, by simp, by simp, rfl, only_startRamp c .rampUp (putOut [] s.dev)⟩
  · intro s c st done
    refine yields_of rfl (txRampComplete_up (s := putOut [] s.dev) st done) ?_
    simp only [only_drivePins_iff, drivePins_txon_get, drivePins_tx]
    exact ⟨by simp, by simp, by simp, only_setTxState c .on (putOut [] s.dev)⟩
  · intro s c st done
    refine yields_of rfl (txRampComplete_down (s := putOut [] s.dev) st done) ?_
    simp only [only_drivePins_iff, drivePins_txon_get, drivePins_tx]
    exact ⟨by simp, by simp, by simp, only_setTxState c .off (putOut [] s.dev)⟩
  · intro s c power stopped
    refine yields_act rfl ?_
    obtain ⟨loop, fg, other⟩ := loopStart_conv (s := putOut [] s.dev) power stopped
    have kept (p : Part) (h : p ∉ [.conv, .crypto, .kme, .mem, .stack, .clock, .fault]) :
        p.same s.dev (loopStart c (putOut [] s.dev)) :=
      (kept_loopStart (ρ := .part p) c (putOut [] s.dev) (by simpa using h)).mpr ((kept_putOut [] s.dev).mpr (.refl _ _))
    simp only [drivePins_conv, drivePins_tx, drivePins_rx, drivePins_settings]
    exact ⟨loop, fg, other, kept .tx (by decide), kept .rx (by decide), kept .settings (by decide)⟩
  · intro s c k e mode loop free waits late
    refine yields_of rfl (swapDeferExpiry_eq (s := putOut [] s.dev) (by simpa using mode) loop (by simpa using free) waits
      (by simpa using late)) ?_
    obtain ⟨pending, other⟩ := applyChanges_pending c k.val (lateChange (putOut [] s.dev) c) (putOut [] s.dev)
    simp only [raised_drivePins, drivePins_conv, drivePins_settings]
    have late_iff : lateChange (putOut [] s.dev) c = fun e => decide (csetN s.dev c 0x0241 4 < e.age) := by
      funext e
      simp only [lateChange, csetN_putOut, Nat.lt_iff_add_one_le]
    rw [late_iff] at pending other ⊢
    simp only [← decide_not, Nat.not_lt] at pending
    refine ⟨?_, ?_, ?_, ?_⟩
    · simpa [convOf] using pending
    · simp [Raised, raise, raiseAt, applyChanges_stackId, convOf]
    · simpa using other
    · simp
  · intro s c txw rxw power may
    refine yields_act rfl ?_
    have mode : native (convBlock c txw rxw (putOut [] s.dev)) c = native s.dev c :=
      (native_of_accord (convBlock_accord c txw rxw _) c).trans (native_putOut c [] s.dev)
    simp only [drivePins_pendSet]
    rw [blockBoundary_pendSet (s := putOut [] s.dev) power]
    intro q hq
    exact settleWave_pendSet (by simpa [mode] using may) q (settleRx_pendSet hq)

end Sys2Proof.Machine

/-!
Clock selectors and gates (18_clocks_resets_power R713 to R720).
-/
namespace Sys2Proof.Machine
open Sys2Proof

theorem sel_modSel (k j : Nat) (f : SelectorSt → SelectorSt) (s : Device) :
    sel (modSel k f s) j = if j = k then f (sel s k) else sel s j := by
  simp [sel, modSel, Tab.get_modify]

theorem sel_of_sels {s t : Device} (h : t.clock.sels = s.clock.sels) (k : Nat) : sel t k = sel s k := by
  simp [sel, h]

@[simp] theorem sel_fault (id inst : Nat) (detail : List Byte) (s : Device) (k : Nat) :
    sel (fault id inst detail s) k = sel s k := sel_of_sels (by simp) k

@[simp] theorem sel_faultOn (id inst : Nat) (detail : List Byte) (s : Device) (k : Nat) :
    sel (faultOn id inst detail s) k = sel s k := sel_of_sels (by simp) k

@[simp] theorem sel_modBoot (f : BootSt → BootSt) (s : Device) (k : Nat) : sel (modBoot f s) k = sel s k := rfl
@[simp] theorem sel_setIrq (b : Nat) (s : Device) (k : Nat) : sel (setIrq b s) k = sel s k := sel_of_sels (by simp) k
@[simp] theorem sel_modClock (f : ClockSt → ClockSt) (s : Device) (k : Nat) (h : (f s.clock).sels = s.clock.sels) :
    sel (modClock f s) k = sel s k := sel_of_sels h k
@[simp] theorem sel_modXi (n : Nat) (f : XiSt → XiSt) (s : Device) (k : Nat) : sel (modXi n f s) k = sel s k := rfl

theorem xi_modXi (n : Nat) (f : XiSt → XiSt) (s : Device) : xi (modXi n f s) n = f (xi s n) := by
  unfold xi modXi
  by_cases h : n = 0 <;> simp [h]

@[simp] theorem modXi_pll (n : Nat) (f : XiSt → XiSt) (s : Device) : (modXi n f s).clock.pll = s.clock.pll := rfl
@[simp] theorem modSel_timingWaits (k : Nat) (f : SelectorSt → SelectorSt) (s : Device) :
    (modSel k f s).clock.timingWaits = s.clock.timingWaits := rfl

/-! ### Switches -/

/-- A selector as it has switched to a source. -/
def switched (i : Nat) (forced : Bool) (q : SelectorSt) : SelectorSt :=
  { q with source := i, target := none, switches := wrap 32 (q.switches + 1),
           forced := if forced then wrap 32 (q.forced + 1) else q.forced }

section
variable {s : Device} {k i : Nat}

theorem finishSwitch_eq (target : (sel s k).target = some i) (free : s.clock.timingWaits = false) (forced : Bool) :
    finishSwitch k forced s = if forced then fault 0x0E02 (min k 3) [] (modSel k (switched i forced) s)
      else modSel k (switched i forced) s := by
  cases forced <;> simp [finishSwitch, target, free] <;> rfl

theorem newClockAbsent_sel (target : (sel s k).target = some i) (hk : k < 11) (j : Nat) :
    sel (selectorNewClockAbsent ⟨k, hk⟩ s) j = if j = k then { sel s k with target := none } else sel s j := by
  simp only [selectorNewClockAbsent, target]
  rw [← sel_modSel k j (fun q => { q with target := none }) s]
  (repeat' split) <;> rfl

/-- The XI input that the root did not find is marked silent. -/
theorem newClockAbsent_xi (target : (sel s 0).target = some i) (input : i < 2) :
    (xi (selectorNewClockAbsent 0 s) i).silent = true := by
  have silent (t : Device) (h : t.clock.xi = (modXi i (fun x => { x with silent := true })
      (modSel 0 (fun q => { q with target := none }) s)).clock.xi) : (xi t i).silent = true := by
    rw [xi, h]
    exact congrArg XiSt.silent (xi_modXi i (fun x => { x with silent := true }) _)
  simp only [selectorNewClockAbsent, show (0 : Fin 11).val = 0 from rfl, target, input, if_true]
  split
  · exact silent _ rfl
  · exact silent _ rfl

end

theorem only_newClockAbsent (k : Fin 11) (s : Device) : Only [.clock] s (selectorNewClockAbsent k s) :=
  only_of_kept fun ρ hρ => (kept_selectorNewClockAbsent k s hρ).mpr (.refl ρ s)

/-! ### Gates -/

theorem testBit_bitmap (l : List Bool) (b : Nat) : (bitmap l).testBit b = l.getD b false := by
  induction l generalizing b with
  | nil => simp [bitmap]
  | cons x r ih =>
    have half : bitmap (x :: r) / 2 = bitmap r := by
      rw [bitmap]
      cases x <;> simp [bit]
      omega
    cases b with
    | zero => cases x <;> simp [bitmap, bit, Nat.testBit_zero]
    | succ b => rw [Nat.testBit_succ, half, ih]; rfl

/-- Bit `b` of the bitmap of a function over `n` bits. -/
theorem getLsbD_bitmap {n b : Nat} (f : Nat → Bool) (h : b < n) :
    (BitVec.ofNat n (bitmap ((List.range n).map f))).getLsbD b = f b := by
  rw [BitVec.getLsbD_ofNat, testBit_bitmap]
  simp [h]

theorem clkEnWrite_bit (v : BitVec 32) (s : Device) {b : Nat} (h : b < 18) :
    (clkEnWrite v s).clock.clkEn.getLsbD b = (v.getLsbD b || (s.clock.clkEn.getLsbD b && blockInUse s b)) :=
  getLsbD_bitmap (fun b => v.getLsbD b || (s.clock.clkEn.getLsbD b && blockInUse s b)) h

theorem clkEnWrite_refused {v : BitVec 32} {s : Device} {b : Nat} (h : b < 18) (clear : v.getLsbD b = false)
    (on : s.clock.clkEn.getLsbD b = true) (busy : blockInUse s b = true) : (clkEnWrite v s).clock.refused = true := by
  have some : ((List.range 18).any fun b => !v.getLsbD b && s.clock.clkEn.getLsbD b && blockInUse s b) = true :=
    List.any_eq_true.mpr ⟨b, List.mem_range.mpr h, by simp [clear, on, busy]⟩
  simp [clkEnWrite, some]

theorem isSource_clkForced (k : Nat) : isSource 0x0E02 (min k 3) = true := by
  have le : min k 3 ≤ 3 := Nat.min_le_right k 3
  generalize min k 3 = n at le
  have : ∀ n ≤ 3, isSource 0x0E02 n = true := by decide
  exact this n le

/-- Settles O3: each row is one change of its selector, or of the gate bits. -/
theorem selectorsSwitch : Obligations.SelectorsSwitch := by
  unfold Obligations.SelectorsSwitch
  refine ⟨?_, ?_, ?_, ?_⟩
  · intro s k i target free
    refine yields_of rfl (finishSwitch_eq (s := putOut [] s.dev) (by simpa using target) free false) ?_
    simp only [only_drivePins_iff, sel_drivePins, Bool.false_eq_true, if_false, sel_modSel, sel_putOut]
    exact ⟨rfl, fun j hj => if_neg hj, only_of_kept fun ρ hρ => by simp at hρ; simp [hρ]⟩
  · intro s k i target free
    refine yields_of rfl (finishSwitch_eq (s := putOut [] s.dev) (by simpa using target) free true) ?_
    simp only [only_drivePins_iff, faulted_drivePins, sel_drivePins, if_true, sel_fault, sel_modSel, sel_putOut]
    refine ⟨rfl, fun j hj => if_neg hj, faulted_fault [] _ (isSource_clkForced k.val), only_of_kept fun ρ hρ => ?_⟩
    simp [Part.ofFault] at hρ
    simp [hρ]
  · intro s k i target
    refine yields_act rfl ?_
    simp only [only_drivePins_iff, sel_drivePins, xi_drivePins]
    have sels := newClockAbsent_sel (s := putOut [] s.dev) (by simpa using target) k.isLt
    simp only [sel_putOut] at sels
    refine ⟨by simpa using sels k.val, fun j hj => by simpa [hj] using sels j, fun hk hi => ?_,
      only_newClockAbsent k (putOut [] s.dev)⟩
    obtain rfl : k = 0 := Fin.ext hk
    exact newClockAbsent_xi (by simpa using target) hi
  · intro s v
    refine yields_act rfl ?_
    simp only [only_drivePins_iff, drivePins_clock]
    refine ⟨fun b hb => by simpa using clkEnWrite_bit v (putOut [] s.dev) hb, ?_, ?_⟩
    · rintro ⟨b, hb, clear, on, busy⟩
      exact clkEnWrite_refused hb clear on (by simpa using busy)
    · exact only_of_kept fun ρ hρ => by simp at hρ; simp [hρ]

end Sys2Proof.Machine

/-!
Clock sources (18_clocks_resets_power R700 to R717): the XI inputs, PLL-R, and the trim of the oscillators.
-/
namespace Sys2Proof.Machine
open Sys2Proof

theorem source_of_sources {s t : Device} (h : t.fault.sources = s.fault.sources) (id inst : Nat) :
    source t id inst = source s id inst := by simp [source, h]

theorem xi_of_xi {s t : Device} (h : t.clock.xi = s.clock.xi) (n : Nat) : xi t n = xi s n := by simp [xi, h]

@[simp] theorem xi_fault (id inst : Nat) (detail : List Byte) (s : Device) (n : Nat) :
    xi (fault id inst detail s) n = xi s n := xi_of_xi (by simp) n
@[simp] theorem xi_faultOn (id inst : Nat) (detail : List Byte) (s : Device) (n : Nat) :
    xi (faultOn id inst detail s) n = xi s n := xi_of_xi (by simp) n
@[simp] theorem xi_faultOff (id inst : Nat) (s : Device) (n : Nat) :
    xi (faultOff id inst s) n = xi s n := xi_of_xi (by simp) n
@[simp] theorem xi_modBoot (f : BootSt → BootSt) (s : Device) (n : Nat) : xi (modBoot f s) n = xi s n := rfl

@[simp] theorem bootStop_clock (cause detail : Nat) (s : Device) : (bootStop cause detail s).clock = s.clock :=
  (kept_bootStop (ρ := .part .clock) (s₀ := s) cause detail s (by decide)).mpr (.refl _ s)

theorem sources_of_kept {s t : Device} (h : Kept (.part .fault) s t) : t.fault.sources = s.fault.sources := by
  have h : t.fault = { s.fault with pinLow := t.fault.pinLow } := h
  rw [h]

@[simp] theorem bootStop_sources (cause detail : Nat) (s : Device) :
    (bootStop cause detail s).fault.sources = s.fault.sources :=
  sources_of_kept ((kept_bootStop cause detail s (by decide)).mpr (.refl _ s))

@[simp] theorem xi_bootStop (cause detail : Nat) (s : Device) (n : Nat) : xi (bootStop cause detail s) n = xi s n :=
  xi_of_xi (by simp) n

@[simp] theorem source_bootStop (cause detail : Nat) (s : Device) (id inst : Nat) :
    source (bootStop cause detail s) id inst = source s id inst := source_of_sources (by simp) id inst

/-! ### The XI inputs -/

/-- An input as an attempt has judged it. -/
def judged (ok : Bool) (freq : Int) (x : XiSt) : XiSt :=
  { x with stable := ok, attempts := min 7 (x.attempts + 1), freq, silent := if ok then false else x.silent }

/-- An input was judged: no fault event yet. -/
def xiJudged (n : Nat) (ok : Bool) (freq : Int) (s : Device) : Device :=
  modBoot (fun b => { b with delayOver := true }) (modXi n (judged ok freq) s)

@[simp] theorem xi_xiJudged (n : Nat) (ok : Bool) (freq : Int) (s : Device) :
    xi (xiJudged n ok freq s) n = judged ok freq (xi s n) := xi_modXi n (judged ok freq) s

@[simp] theorem source_xiJudged (n : Nat) (ok : Bool) (freq : Int) (s : Device) (id inst : Nat) :
    source (xiJudged n ok freq s) id inst = source s id inst := rfl

section
variable {s : Device} {n : Fin 2} {freq : Int}

theorem xiInputJudged_ok : xiInputJudged n true freq s = faultOff 0x0E03 n.val (xiJudged n.val true freq s) := rfl

theorem xiInputJudged_retry (few : ¬5 ≤ (xi s n.val).attempts + 1) :
    xiInputJudged n false freq s = xiJudged n.val false freq s := by
  simp only [xiInputJudged, Bool.false_eq_true, if_false]
  rw [if_pos (Nat.not_le.mp few)]
  rfl

/-- The fifth failure is a fault; with no input left the start stops. -/
theorem xiInputJudged_fails (many : 5 ≤ (xi s n.val).attempts + 1) :
    xiInputJudged n false freq s = faultOn 0x0E03 n.val [] (xiJudged n.val false freq s) ∨
      xiInputJudged n false freq s = bootStop 1 0 (faultOn 0x0E03 n.val [] (xiJudged n.val false freq s)) := by
  simp only [xiInputJudged, Bool.false_eq_true, if_false]
  rw [if_neg (Nat.not_lt.mpr many)]
  split
  · exact .inr rfl
  · exact .inl rfl

theorem isSource_xi : ∀ n : Fin 2, isSource 0x0E03 n.val = true := by decide

/-- What a judgement leaves of its input and of its fault. -/
theorem xiInputJudged_spec (ok : Bool) (n : Fin 2) (freq : Int) (s : Device) :
    xi (xiInputJudged n ok freq s) n.val = judged ok freq (xi s n.val) ∧
      (source (xiInputJudged n ok freq s) 0x0E03 n.val).cond =
        (if ok then false else if 5 ≤ (xi s n.val).attempts + 1 then true else (source s 0x0E03 n.val).cond) := by
  cases ok with
  | true =>
    rw [xiInputJudged_ok]
    exact ⟨by simp, source_faultOff _ _ _⟩
  | false =>
    by_cases many : 5 ≤ (xi s n.val).attempts + 1
    · rcases xiInputJudged_fails (freq := freq) many with h | h <;> rw [h]
      · exact ⟨by simp, by simp [many, source_faultOn _ _ _ _ (isSource_xi n)]⟩
      · exact ⟨by simp, by simp [many, source_faultOn _ _ _ _ (isSource_xi n)]⟩
    · rw [xiInputJudged_retry many]
      exact ⟨by simp, by simp [many]⟩

end

/-! ### PLL-R -/

section
variable {s : Device}

@[simp] theorem aim_clock_pll (k src : Nat) (s : Device) : (aim k src s).clock.pll = s.clock.pll := rfl
@[simp] theorem aim_clock_aligned (k src : Nat) (s : Device) : (aim k src s).clock.aligned = s.clock.aligned := rfl
@[simp] theorem aim_clock_coasts (k src : Nat) (s : Device) : (aim k src s).clock.coasts = s.clock.coasts := rfl

theorem sel_aim (k j src : Nat) (s : Device) : sel (aim k src s) j =
    if j = k then { sel s k with target := if (sel s k).source = src then none else some src } else sel s j :=
  sel_modSel k j _ s

/-- PLL-R opens its loop. -/
def coasted (s : Device) : Device :=
  modClock (fun k => { k with pll := .coasting, aligned := false, alignTicks := 0, coasts := wrap 32 (k.coasts + 1),
                              reselect := some (sel s 0).source })
    (if (sel s 0).source < 2 then modXi (sel s 0).source (fun x => { x with silent := true }) s else s)

theorem rootInputLoss_eq (run : pllRuns s = true) :
    rootInputLoss s = faultOn 0x0E01 0 [] (aim 1 1 (coasted s)) := by
  simp only [rootInputLoss, run, Bool.not_true, Bool.false_eq_true, if_false]
  rfl

theorem coasted_sel (k : Nat) : sel (coasted s) k = sel s k := by
  unfold coasted
  split <;> rfl

theorem coasted_clock : (coasted s).clock.pll = .coasting ∧ (coasted s).clock.aligned = false ∧
    (coasted s).clock.coasts = wrap 32 (s.clock.coasts + 1) := by
  unfold coasted
  split <;> exact ⟨rfl, rfl, rfl⟩

theorem pllRLocked_first {i : Nat} (pll : s.clock.pll = .unlocked) (stage : s.boot.stage = .clocks)
    (first : [0, 1].find? (rootValid s) = some i) :
    pllRLocked s = setIrq 7 (modBoot (fun b => { b with stage := .fwLoad }) (modClock (fun k =>
      { k with pll := .locked, reselect := none }) (modSel 1 (fun q =>
        { q with source := 0, target := none, switches := wrap 32 (q.switches + 1) })
          (modSel 0 (fun q => { q with source := i, target := none }) s)))) := by
  have found : ([0, 1].find? fun i => rootValid s i) = some i := first
  simp only [pllRLocked, pll, stage, found, setStage, ne_eq, not_true_eq_false, if_false]
  exact if_neg (show s.boot.stage ≠ .fwLoad by rw [stage]; decide)

theorem pllRLocked_again (pll : s.clock.pll = .coasting) (valid : rootValid s (sel s 0).source = true) :
    pllRLocked s = faultOff 0x0E01 0 (aim 1 0 (modClock (fun k => { k with pll := .locked, reselect := none }) s)) := by
  simp [pllRLocked, pll, valid]

end

/-- Settles O2: each row is one change of the clocks, with the fault event that goes with it. -/
theorem clockSourcesFollow : Obligations.ClockSourcesFollow := by
  unfold Obligations.ClockSourcesFollow
  refine ⟨?_, ?_, ?_, ?_, ?_, ?_⟩
  · intro s n ok freq
    refine yields_act rfl ?_
    obtain ⟨input, cond⟩ := xiInputJudged_spec ok n freq (putOut [] s.dev)
    simp only [xi_drivePins, source_drivePins, input, cond, xi_putOut, source_putOut]
    exact ⟨rfl, rfl, rfl, trivial⟩
  · intro s run
    refine yields_of rfl (rootInputLoss_eq (s := putOut [] s.dev) (by simpa using run)) ?_
    simp only [only_drivePins_iff, sel_drivePins, source_drivePins, drivePins_clock, sel_faultOn, sel_aim, coasted_sel,
      sel_putOut]
    obtain ⟨pll, aligned, coasts⟩ := coasted_clock (s := putOut [] s.dev)
    refine ⟨by simpa using pll, by simpa using aligned, by simpa using coasts, rfl, rfl, source_faultOn _ _ _ _ (by decide), ?_⟩
    refine only_of_kept fun ρ hρ => ?_
    simp [Part.ofFault] at hρ
    simp [coasted, hρ]
  · intro s i pll stage first
    have same : rootValid (putOut [] s.dev) = rootValid s.dev := funext fun i => rootValid_putOut i [] s.dev
    refine yields_of rfl (pllRLocked_first (s := putOut [] s.dev) pll stage (same ▸ first)) ?_
    simp only [only_drivePins_iff, sel_drivePins, drivePins_clock, drivePins_boot, drivePins_host_irqStatus]
    refine ⟨by simp, ?_, ?_, by simp, setIrq_bit 7 _ (by decide), only_of_kept fun ρ hρ => by simp at hρ; simp [hρ]⟩
    · simp [sel_modSel]
    · simp [sel_modSel]
  · intro s pll valid
    refine yields_of rfl (pllRLocked_again (s := putOut [] s.dev) pll (by simpa using valid)) ?_
    simp only [only_drivePins_iff, source_drivePins, drivePins_clock]
    refine ⟨by simp, source_faultOff _ _ _, only_of_kept fun ρ hρ => ?_⟩
    simp at hρ
    simp [hρ]
  · intro s pll
    have eq : tickAligned (putOut [] s.dev) = raise 0x0E01 0 0 (le 4 s.dev.clock.alignTicks)
        (modClock (fun k => { k with pll := .locked, aligned := true }) (putOut [] s.dev)) := by
      simp [tickAligned, pll]
    refine yields_of rfl eq ?_
    simp only [only_drivePins_iff, raised_drivePins, drivePins_clock]
    exact ⟨rfl, rfl, only_of_kept fun ρ hρ => by simp at hρ; simp [hρ]⟩
  · intro s age trim
    have eq : oscTrimStale (putOut [] s.dev) = faultOn 0x0E04 0 [] (putOut [] s.dev) := by
      simp [oscTrimStale, age, trim]
    refine yields_of rfl eq ?_
    simp only [only_drivePins_iff, source_drivePins, drivePins_clock]
    refine ⟨source_faultOn _ _ _ _ (by decide), by simp, by simp, only_of_kept fun ρ hρ => ?_⟩
    simp [Part.ofFault] at hρ
    simp [hρ]

end Sys2Proof.Machine

/-!
Reset domains (18_clocks_resets_power R721 to R727): what a domain that enters or leaves reset leaves of the others.
-/
namespace Sys2Proof.Machine
open Sys2Proof

/-! ### Domains in reset -/

theorem inReset_of_clock {s t : Device} (h : t.clock = s.clock) (d : Domain) : inReset t d = inReset s d := by
  simp [inReset, h]

@[simp] theorem inReset_modBoot (f : BootSt → BootSt) (s : Device) (d : Domain) :
    inReset (modBoot f s) d = inReset s d := rfl

theorem inReset_enterReset_ne {d e : Domain} (h : e ≠ d) (c : Nat) (s : Device) :
    inReset (enterReset d c s) e = inReset s e := by
  unfold enterReset
  split
  · rfl
  · simp [inReset, modClock_clock, Ne.symm h]

/-- Every domain but CRYPTO is in reset in `t` exactly if it is in `s`. -/
def SameReset (s t : Device) : Prop := ∀ d, d ≠ .crypto → inReset t d = inReset s d

theorem SameReset.of_clock {s t : Device} (h : t.clock = s.clock) : SameReset s t := fun d _ => inReset_of_clock h d

theorem SameReset.trans {s t u : Device} (h : SameReset s t) (k : SameReset t u) : SameReset s u :=
  fun d hd => (k d hd).trans (h d hd)

theorem SameReset.andIte {s t u : Device} (c : Prop) [Decidable c] (h : SameReset s t) (k : SameReset t u) :
    SameReset s (if c then u else t) := by
  split
  · exact h.trans k
  · exact h

theorem SameReset.each {α : Type} (l : List α) (f : α → Device → Device) (h : ∀ x s, SameReset s (f x s))
    (s : Device) : SameReset s (Machine.each l f s) := by
  unfold Machine.each
  induction l generalizing s with
  | nil => exact .of_clock rfl
  | cons a r ih => exact (h a s).trans (ih (f a s))

theorem sameReset_eraseKeys (s : Device) : SameReset s (eraseKeys s) :=
  fun d hd => (inReset_enterReset_ne hd 6 _).trans (inReset_of_clock rfl d)

theorem sameReset_localTrig (k : Nat) (t : Time) (f : Nat → CapSlot → Bool) (s : Device) :
    SameReset s (localTrig k t f s) :=
  .of_clock ((kept_localTrig (ρ := .part .clock) (s₀ := s) k t f s (by decide)).mpr (.refl _ s))

theorem sameReset_faultOne (others : Nat) (t : Time) (e : FaultIn) (s : Device) :
    SameReset s (faultOne others t e s) := by
  unfold faultOne
  split
  · exact .of_clock rfl
  · dsimp only
    refine SameReset.trans ?_ (.of_clock rfl)
    refine SameReset.trans ?_ (sameReset_localTrig _ _ _ _)
    refine SameReset.andIte _ ?_ (.of_clock rfl)
    refine SameReset.andIte _ ?_ (sameReset_eraseKeys _)
    refine SameReset.andIte _ ?_ (.of_clock rfl)
    refine SameReset.andIte _ ?_ (.of_clock rfl)
    refine SameReset.andIte _ ?_ (.of_clock rfl)
    exact .of_clock rfl

/-- A fault puts no domain but CRYPTO in reset at once. -/
theorem sameReset_fault (id inst : Nat) (detail : List Byte) (s : Device) : SameReset s (fault id inst detail s) :=
  SameReset.each _ _ (fun e s => sameReset_faultOne _ _ e s) s

/-! ### POR and DEVICE enter reset -/

theorem enterDomain_por (s : Device) (h : inReset s .por = false) :
    ∃ k : ClockSt, enterDomain .por 0 s = { porReset s with clock := k } := by
  obtain ⟨a, ha⟩ := enterReset_form .por 0 (porReset s)
  obtain ⟨b, hb⟩ := enterReset_form .device 4 (enterReset .por 0 (porReset s))
  obtain ⟨r, hr⟩ := each_enterReset_form (containedIn (enterReset .device 4 (enterReset .por 0 (porReset s)))) 4
    (enterReset .device 4 (enterReset .por 0 (porReset s)))
  refine ⟨{ (porReset s).clock with inReset := r }, ?_⟩
  simp only [enterDomain, h, Bool.not_false, Bool.not_true, Bool.false_eq_true, if_false, if_true, reduceCtorEq,
    decide_true, decide_false, Bool.and_true, Bool.or_true, Bool.and_false, resetContents]
  exact hr.trans (by rw [hb, ha])

theorem inReset_enterDomain_por (s : Device) : inReset (enterDomain .por 0 s) .por = true := by
  unfold enterDomain
  dsimp only
  have entered (s : Device) : inReset (enterReset .por 0 s) .por = true := inReset_enterReset .por 0 s
  simp only [Nat.reduceEqDiff, decide_false, Bool.or_self, Bool.false_eq_true, if_false]
  split
  · refine inReset_each_mono _ 4 _ _ ?_
    split
    · exact inReset_mono _ _ _ _ (entered _)
    · exact entered _
  · split
    · exact inReset_mono _ _ _ _ (entered _)
    · exact entered _

/-- The device at the instant of a supply fall. -/
def supplyFell (s : Device) : Device := putElec { s.elec with porReleased := false } s

theorem powerOnReset_falls (x : Straps) (s : Device) : powerOnReset false x s = enterDomain .por 0 (supplyFell s) := rfl

theorem porReleased_enterDomain (s : Device) : (enterDomain .por 0 s).elec.porReleased = s.elec.porReleased := by
  cases h : inReset s .por
  · obtain ⟨k, hk⟩ := enterDomain_por s h
    rw [hk]
    rfl
  · obtain ⟨l, hl⟩ := enterReset_form .por 0 s
    have : enterDomain .por 0 s = enterReset .por 0 s := by simp [enterDomain, h]
    rw [this, hl]

/-- The device at the instant of a supply rise. -/
def supplyRose (s : Device) : Device := putElec { s.elec with porReleased := true } s

/-! ### A domain leaves reset -/

@[simp] theorem startRecovery_clock (d : Domain) (s : Device) : (startRecovery d s).clock = s.clock :=
  (kept_startRecovery (ρ := .part .clock) (s₀ := s) d s (by decide)).mpr (.refl _ s)

@[simp] theorem dropEvents_clock (s : Device) : (dropEvents s).clock = s.clock :=
  (kept_dropEvents (ρ := .part .clock) (s₀ := s) s (by decide)).mpr (.refl _ s)

@[simp] theorem startRole_clock (s : Device) : (startRole s).clock = s.clock :=
  (kept_startRole (ρ := .part .clock) (s₀ := s) s (by decide)).mpr (.refl _ s)

@[simp] theorem startRecovery_elec (d : Domain) (s : Device) : (startRecovery d s).elec = s.elec :=
  (kept_startRecovery (ρ := .part .elec) (s₀ := s) d s (by decide)).mpr (.refl _ s)

@[simp] theorem startRecovery_stack (d : Domain) (s : Device) : (startRecovery d s).stack = s.stack :=
  (kept_startRecovery (ρ := .part .stack) (s₀ := s) d s (by decide)).mpr (.refl _ s)

/-- What every domain that leaves reset does first: its causes and holds go, and a commanded or watched reset begins a
recovery. -/
def leaving (d : Domain) (s : Device) : Device :=
  let t := modClock (fun k => { k with inReset := k.inReset.filter (fun p => p.1 ≠ d),
                                       holds := k.holds.filter fun h => h.1 ≠ d }) s
  if ((s.clock.inReset.filter fun p => p.1 = d).map (·.2)).any fun c => c = 2 || c = 3 then startRecovery d t else t

theorem leaving_clock (d : Domain) (s : Device) :
    (leaving d s).clock = { s.clock with inReset := s.clock.inReset.filter (fun p => p.1 ≠ d),
                                         holds := s.clock.holds.filter fun h => h.1 ≠ d } := by
  unfold leaving
  dsimp only
  split <;> simp [modClock_clock]

@[simp] theorem leaving_stack (d : Domain) (s : Device) : (leaving d s).stack = s.stack := by
  unfold leaving
  dsimp only
  split <;> simp

theorem leaveReset_device (x : Straps) (s : Device) : leaveReset .device x s =
    startRole (readStraps x (modClock (fun k => { k with inReset := k.inReset.filter fun p => p.2 ≠ 4 })
      (leaving .device s))) := rfl

/-- A domain other than DEVICE leaves reset alone. -/
theorem leaveReset_clock {d : Domain} (h : d ≠ .device) (x : Straps) (s : Device) :
    (leaveReset d x s).clock = { s.clock with inReset := s.clock.inReset.filter (fun p => p.1 ≠ d),
                                              holds := s.clock.holds.filter fun h => h.1 ≠ d } := by
  have alone : (leaveReset d x s).clock = (leaving d s).clock := by
    cases d with
    | device => contradiction
    | mgmt => exact dropEvents_clock (leaving .mgmt s)
    | _ => rfl
  rw [alone, leaving_clock]

theorem leaveReset_porReleased (d : Domain) (x : Straps) (s : Device) :
    (leaveReset d x s).elec.porReleased = s.elec.porReleased := by
  have kept : (leaveReset d x s).elec = { s.elec with txon := (leaveReset d x s).elec.txon } :=
    (kept_leaveReset (ρ := .part .elec) (s₀ := s) d x s (by decide)).mpr (.refl _ s)
  rw [kept]

theorem inReset_leaveReset {d : Domain} (h : d ≠ .device) (x : Straps) (s : Device) (e : Domain) :
    inReset (leaveReset d x s) e = (!decide (e = d) && inReset s e) := by
  rw [Bool.eq_iff_iff]
  simp only [inReset, leaveReset_clock h, List.any_filter, Bool.and_eq_true, List.any_eq_true, decide_eq_true_eq,
    Bool.not_eq_true', decide_eq_false_iff_not]
  constructor
  · rintro ⟨p, hp, hne, rfl⟩
    exact ⟨hne, p, hp, rfl⟩
  · rintro ⟨hne, p, hp, rfl⟩
    exact ⟨p, hp, hne, rfl⟩

/-- A cause that is not gone keeps its domain in reset. -/
theorem not_all_gone {p : Domain × Nat → Bool} {l : List (Domain × Nat)} {d : Domain} {c : Nat} (h : (d, c) ∈ l)
    (hp : p (d, c) = false) : ((l.filter fun q => q.1 = d).all p) = false := by
  rw [List.all_eq_false]
  exact ⟨(d, c), by simp [h], by simp [hp]⟩

theorem powerOnReset_rises {s : Device} (x : Straps) (por : inReset s .por = true) (pin : s.clock.resetN = true)
    (low : (.device, 1) ∈ s.clock.inReset) :
    powerOnReset true x s = modBoot (fun b => { b with kind := .por })
      (leaveReset .por x (supplyRose s)) := by
  have clock := leaveReset_clock (d := .por) (by decide) x (supplyRose s)
  have stays : (((leaveReset .por x (supplyRose s)).clock.inReset.filter fun p => p.1 = .device).all fun p =>
      p.2 = 4 || causeGone (leaveReset .por x (supplyRose s)) .device p.2) = false := by
    refine not_all_gone (c := 1) ?_ ?_
    · rw [clock]
      simp [supplyRose, low]
    · simp only [causeGone, clock]
      simp [supplyRose, pin]
  calc powerOnReset true x s
      = (let t := modBoot (fun b => { b with kind := .por }) (leaveReset .por x (supplyRose s))
        if (t.clock.inReset.filter fun p => p.1 = .device).all fun p => p.2 = 4 || causeGone t .device p.2 then
          leaveReset .device x t else t) := by
        unfold powerOnReset
        rw [if_neg (by decide), if_neg (by simpa using por)]
        rfl
    _ = _ := if_neg (ne_true_of_eq_false stays)

/-- Settles O1: each reset input, by what the domain that it moves leaves. -/
theorem resetInputs : Obligations.ResetInputs := by
  unfold Obligations.ResetInputs
  refine ⟨fun s x => ?_, fun s x por pin low => ?_, fun s por device => ?_, fun s => ?_⟩
  · refine yields_of rfl (powerOnReset_falls x (putOut [] s.dev)) ?_
    refine ⟨by simp [porReleased_enterDomain, supplyFell], by simpa using inReset_enterDomain_por _, fun running => ?_⟩
    obtain ⟨k, hk⟩ := enterDomain_por (supplyFell (putOut [] s.dev)) running
    rw [hk]
    exact ⟨by simp [porReset, bootKept, supplyFell], by simp [porReset], by simp [porReset], by simp [porReset],
      by simp [porReset]⟩
  · refine yields_of rfl (powerOnReset_rises x (s := putOut [] s.dev) (by simpa using por) (by simpa using pin)
      (by simpa using low)) ?_
    refine ⟨by simp [leaveReset_porReleased, supplyRose], ?_, ?_⟩
    · simpa using inReset_leaveReset (d := .por) (by decide) x (supplyRose (putOut [] s.dev)) .por
    · have rest := inReset_leaveReset (d := .por) (by decide) x (supplyRose (putOut [] s.dev)) .device
      have there : inReset (supplyRose (putOut [] s.dev)) .device = true := by
        simp only [inReset, List.any_eq_true]
        exact ⟨_, low, by decide⟩
      rw [there] at rest
      simpa using rest
  · have running : inReset (modClock (fun k => { k with resetN := true }) (putOut [] s.dev)) .device = false := by
      simpa [inReset] using device
    have eq : resetN true (putOut [] s.dev) =
        enterDomain .device 1 (modClock (fun k => { k with resetN := true }) (putOut [] s.dev)) := by
      unfold resetN
      simp only [if_true]
      rw [if_neg]
      have : inReset (modClock (fun k => { k with resetN := true }) (putOut [] s.dev)) .por = inReset s.dev .por := rfl
      rw [this, por]
      decide
    refine yields_of rfl eq ?_
    obtain ⟨k, hk, cause, pin, hold⟩ := enterDomain_device 1 _ running
    have domains := inReset_enterDomain_device 1 _ running
    refine ⟨?_, ?_, ?_, ?_, ?_, ?_, ?_, ?_, ?_⟩
    · simp [hk, pin]
    · simpa using domains .device (.inl rfl)
    · simp [hk, cause]
    · exact fun d hd => by simpa using domains d (.inr hd)
    · simp [hk, deviceReset, bootKept]
    · simp [hk, deviceReset]
    · simp [hk, deviceReset]
    · simp [hk, drivePins_eq, deviceReset]
    · intro held
      simp [hk, deviceReset, held]
  · refine yields_of rfl rfl ?_
    refine ⟨by simp [resetN], ?_⟩
    simp only [only_drivePins_iff]
    exact only_of_kept fun ρ hρ => by simp at hρ; simp [resetN, hρ]

/-! ### MGMT and its watchdog -/

theorem dropEvents_sources (s : Device) : (dropEvents s).fault.sources = s.fault.sources :=
  sources_of_kept ((kept_dropEvents s (by decide)).mpr (.refl _ s))

theorem Faulted.of_source {id inst : Nat} {s t u : Device} (h : Faulted id inst s t)
    (k : source u id inst = source t id inst) : Faulted id inst s u := by
  obtain ⟨events, last⟩ := h
  exact ⟨k ▸ events, k ▸ last⟩

theorem source_mgmtReset (s : Device) (id inst : Nat) : source (mgmtReset s) id inst = source s id inst :=
  source_of_sources (dropEvents_sources s) id inst

theorem mgmtReset_settings (s : Device) : (mgmtReset s).settings = s.settings :=
  (kept_dropEvents (ρ := .part .settings) (s₀ := s) s (by decide)).mpr (.refl _ s)

theorem mgmtReset_tx (s : Device) : (mgmtReset s).tx = s.tx :=
  (kept_dropEvents (ρ := .part .tx) (s₀ := s) s (by decide)).mpr (.refl _ s)

theorem mgmtReset_rx (s : Device) : (mgmtReset s).rx = s.rx :=
  (kept_dropEvents (ρ := .part .rx) (s₀ := s) s (by decide)).mpr (.refl _ s)

/-- MGMT enters reset by its watchdog: what a reset of MGMT leaves, but for the clocks. -/
theorem enterDomain_mgmt (s : Device) (h : inReset s .mgmt = false) :
    ∃ k : ClockSt, enterDomain .mgmt 5 s = { mgmtReset s with clock := k } ∧
      inReset (enterDomain .mgmt 5 s) .mgmt = true := by
  have eq : enterDomain .mgmt 5 s = modClock (fun k => { k with holds := (k.holds.filter fun h => h.1 ≠ .mgmt) ++ [(.mgmt, 2)] })
      (enterReset .mgmt 5 (mgmtReset s)) := by
    simp [enterDomain, h, resetContents]
  obtain ⟨l, hl⟩ := enterReset_form .mgmt 5 (mgmtReset s)
  refine ⟨{ (mgmtReset s).clock with
    inReset := l, holds := ((mgmtReset s).clock.holds.filter fun h => h.1 ≠ .mgmt) ++ [(.mgmt, 2)] }, ?_, ?_⟩
  · rw [eq, hl]
    rfl
  · rw [eq, inReset_modClock _ _ _ rfl]
    exact inReset_enterReset _ _ _

theorem mgmtWatchdog_eq {s : Device} (late : 100 ≤ s.clock.heartbeatAge) (runs : inReset s .mgmt = false) :
    mgmtWatchdog s = modClock (fun k => { k with heartbeatAge := 0 }) (enterDomain .mgmt 5 (fault 0x0E05 0 [] s)) := by
  unfold mgmtWatchdog
  rw [if_neg (by simp [runs, late])]

theorem mgmtWatchdog_spec {s : Device} (late : 100 ≤ s.clock.heartbeatAge) (runs : inReset s .mgmt = false) :
    inReset (mgmtWatchdog s) .mgmt = true ∧ (mgmtWatchdog s).clock.heartbeatAge = 0 ∧ (mgmtWatchdog s).host.mbs = [] ∧
      (mgmtWatchdog s).boot.fwRuns = false ∧ Faulted 0x0E05 0 s (mgmtWatchdog s) ∧
      (mgmtWatchdog s).settings = s.settings ∧ (mgmtWatchdog s).tx = s.tx ∧ (mgmtWatchdog s).rx = s.rx := by
  have running : inReset (fault 0x0E05 0 [] s) .mgmt = false := (sameReset_fault _ _ _ _ _ (by decide)).trans runs
  have watched := faulted_fault (id := 0x0E05) (inst := 0) [] s (by decide)
  rw [mgmtWatchdog_eq late runs]
  generalize hf : fault 0x0E05 0 [] s = t at running watched
  have settings : t.settings = s.settings := by rw [← hf]; simp
  have tx : t.tx = s.tx := by rw [← hf]; simp
  have rx : t.rx = s.rx := by rw [← hf]; simp
  obtain ⟨k, hk, reset⟩ := enterDomain_mgmt t running
  refine ⟨reset, rfl, ?_⟩
  rw [hk]
  exact ⟨rfl, rfl, watched.of_source (source_mgmtReset t 0x0E05 0), (mgmtReset_settings t).trans settings,
    (mgmtReset_tx t).trans tx, (mgmtReset_rx t).trans rx⟩

/-! ### Releases -/

theorem domainResetRelease_eq {s : Device} {d : Domain} (x : Straps) (held : inReset s d = true) (dram : d ≠ .dram)
    (por : d ≠ .por) (free : ¬(d = .device ∧ inReset s .por = true))
    (gone : ∀ c, (d, c) ∈ s.clock.inReset → causeGone s d c = true ∨ (d = .device ∧ c = 4)) :
    domainResetRelease d x s = leaveReset d x s := by
  unfold domainResetRelease
  rw [if_neg (by simp [held, dram, por]), if_neg (by simpa using free), if_pos]
  simp only [List.all_eq_true, List.mem_filter, decide_eq_true_eq, Bool.or_eq_true, Bool.and_eq_true]
  rintro ⟨e, c⟩ ⟨hc, rfl⟩
  exact gone c hc

theorem dramRetrainComplete_eq {s : Device} (held : inReset s .dram = true) (device : inReset s .device = false)
    (gone : ∀ c, (.dram, c) ∈ s.clock.inReset → causeGone s .dram c = true) :
    dramRetrainComplete s = leaveReset .dram {} s := by
  unfold dramRetrainComplete
  rw [if_pos]
  simp only [held, device, Bool.not_false, Bool.and_true, Bool.true_and, List.all_eq_true, List.mem_filter,
    decide_eq_true_eq]
  rintro ⟨e, c⟩ ⟨hc, rfl⟩
  exact gone c hc

theorem startRole_straps (s : Device) :
    (startRole s).stack.strapRole = s.stack.strapRole ∧ (startRole s).stack.stackId = s.stack.stackId := by
  have role (a : Acting) : (setRole a s).stack.strapRole = s.stack.strapRole ∧
      (setRole a s).stack.stackId = s.stack.stackId := by
    cases a <;> exact ⟨rfl, rfl⟩
  unfold startRole
  split
  · exact role .standalone
  · exact role .member
  · exact role .standby
  · exact role .member

theorem startRole_boot (s : Device) : (startRole s).boot = s.boot :=
  (kept_startRole (ρ := .part .boot) (s₀ := s) s (by decide)).mpr (.refl _ s)

theorem inReset_leaveReset_device (x : Straps) (s : Device) : inReset (leaveReset .device x s) .device = false := by
  rw [leaveReset_device]
  simp [inReset, readStraps, leaving_clock]

/-- DEVICE reads its straps as it leaves reset. -/
theorem leaveReset_straps (x : Straps) (s : Device) :
    (leaveReset .device x s).clock.timingHold = x.timingHold ∧ (leaveReset .device x s).stack.strapRole = x.role % 4 ∧
      (leaveReset .device x s).stack.stackId = x.id % 8 ∧ (leaveReset .device x s).boot.bootSrc = x.bootSrc % 4 := by
  rw [leaveReset_device]
  generalize hr : readStraps x _ = r
  obtain ⟨role, id⟩ := startRole_straps r
  refine ⟨by rw [startRole_clock, ← hr]; rfl, by rw [role, ← hr]; rfl, by rw [id, ← hr]; rfl, ?_⟩
  rw [startRole_boot, ← hr]
  rfl

/-- Settles O4: each domain that enters or leaves reset, by the causes that stand. -/
theorem domainsEnterAndLeaveReset : Obligations.DomainsEnterAndLeaveReset := by
  unfold Obligations.DomainsEnterAndLeaveReset
  refine ⟨fun s late runs => ?_, fun s d x por dram device held gone => ?_, fun s x por low gone => ?_,
    fun s held device gone => ?_⟩
  · refine yields_of rfl rfl ?_
    have spec := mgmtWatchdog_spec (s := putOut [] s.dev) (by simpa using late) (by simpa using runs)
    simpa using spec
  · refine yields_of rfl (domainResetRelease_eq (s := putOut [] s.dev) x (by simpa using held) dram por
      (fun h => device h.1) (fun c hc => .inl (gone c hc))) ?_
    have rest := inReset_leaveReset device x (putOut [] s.dev)
    exact ⟨by simp [rest], fun e he => by simp [rest, he]⟩
  · have held : inReset s.dev .device = true := by
      simp only [inReset, List.any_eq_true]
      exact ⟨_, low, by decide⟩
    refine yields_of rfl (domainResetRelease_eq (s := putOut [] s.dev) x (by simpa using held) (by decide) (by decide)
      (fun h => by simpa [por] using h.2)
      (fun c hc => (gone c hc).symm.imp id (fun h => ⟨rfl, h⟩))) ?_
    obtain ⟨hold, role, id, src⟩ := leaveReset_straps x (putOut [] s.dev)
    exact ⟨by simp [inReset_leaveReset_device], by simp [hold], by simp [role], by simp [id], by simp [src]⟩
  · refine yields_of rfl (dramRetrainComplete_eq (s := putOut [] s.dev) (by simpa using held) (by simpa using device)
      gone) ?_
    simp [inReset_leaveReset (d := .dram) (by decide)]

end Sys2Proof.Machine

/-!
Switch-count agreement and staged bring-up (05_receive_path R223 to R235).
-/
namespace Sys2Proof.Machine
open Sys2Proof

/-- A setting's value in force is read from the settings, those that wait and the active plan alone. -/
theorem inForce_congr {s t : Device} (settings : t.settings = s.settings) (pend : t.pendSet = s.pendSet)
    (accord : t.accord = s.accord) (key : Nat) : inForce t key = inForce s key := by
  simp [inForce, accepted, plan, settings, pend, accord]

@[simp] theorem inForce_raise (type source sev : Nat) (payload : List Byte) (s : Device) (key : Nat) :
    inForce (raise type source sev payload s) key = inForce s key :=
  inForce_congr (by simp) (by simp) (by simp) key

section
variable {s : Device} {c : Carrier}

/-- The answer to a proposal of the far end. -/
def answered (c : Carrier) (verb : Nat) (s : Device) : Device :=
  modRx c (fun r => { r with
    ownRec := { (s.rx.get c).farRec with verb, rxState := r.state.code }, proposer := false, agree := .idle }) s

/-- A proposal of the far end that this end has not answered and that no own proposal meets. -/
theorem agreementReceived_eq (kind : (s.rx.get c).farRec.kind ≠ 0) (verb : (s.rx.get c).farRec.verb = 0)
    (quiet : (s.rx.get c).ownRec.verb ≠ 0) (nonce : (s.rx.get c).ownRec.nonce ≠ (s.rx.get c).farRec.nonce) :
    agreementReceived c s =
      let f := (s.rx.get c).farRec
      let ok := countGe f.countBack ((s.tx.get c).xsf + 4) && (f.kind ≠ 2 || s.accord.standby = .ready)
      let t := answered c (if ok then 1 else 2) s
      if ok then agreed c f.kind f.seq f.countBack f.countOut t else t := by
  unfold agreementReceived
  dsimp only
  rw [if_neg (by simp [kind, verb, quiet, nonce]), if_neg (by simp [quiet])]
  rfl

theorem agreementReceived_acknowledges (kind : (s.rx.get c).farRec.kind = 1) (verb : (s.rx.get c).farRec.verb = 0)
    (quiet : (s.rx.get c).ownRec.verb ≠ 0) (nonce : (s.rx.get c).ownRec.nonce ≠ (s.rx.get c).farRec.nonce)
    (ahead : countGe (s.rx.get c).farRec.countBack ((s.tx.get c).xsf + 4) = true) :
    agreementReceived c s = agreed c 1 (s.rx.get c).farRec.seq (s.rx.get c).farRec.countBack
      (s.rx.get c).farRec.countOut (answered c 1 s) := by
  rw [agreementReceived_eq (by simp [kind]) verb quiet nonce]
  simp [kind, ahead]

theorem agreementReceived_refuses (kind : (s.rx.get c).farRec.kind ≠ 0) (verb : (s.rx.get c).farRec.verb = 0)
    (quiet : (s.rx.get c).ownRec.verb ≠ 0) (nonce : (s.rx.get c).ownRec.nonce ≠ (s.rx.get c).farRec.nonce)
    (near : countGe (s.rx.get c).farRec.countBack ((s.tx.get c).xsf + 4) = false) :
    agreementReceived c s = answered c 2 s := by
  rw [agreementReceived_eq kind verb quiet nonce]
  simp [near]

/-- An agreement on a STAGE proposal. -/
theorem agreed_stage (seq own far : Nat) : agreed c 1 seq own far s =
    raise 0x0205 c.num 0 (le 1 1 ++ le 1 seq ++ [0, 0] ++ le 4 own ++ le 4 far)
      (modRx c (fun r => { r with agree := .acknowledged, txCount := some own, rxCount := some far,
                                  agreeCount := far, agreedKind := 1 }) s) := rfl

theorem agreeFail_eq (waits : (s.rx.get c).agree = .proposed) (late : 256 < (s.rx.get c).proposalAge) :
    agreeFail c s = proposalFails c s := by
  unfold agreeFail
  exact if_pos ⟨waits, late⟩

@[simp] theorem rxSet_raise (type source sev : Nat) (payload : List Byte) (s : Device) (off : Nat) :
    rxSet (raise type source sev payload s) c off = rxSet s c off := by
  simp [rxSet, csetN, cset]

/-- What a proposal leaves of its receiver. -/
theorem propose_get (kind : Nat) (s : Device) :
    let r := (propose c kind s).rx.get c
    r.agree = .proposed ∧ r.ownRec.kind = kind ∧ r.ownRec.verb = 0 ∧ r.proposalAge = 0 ∧ r.retryEpochs = none ∧
      r.state = (s.rx.get c).state ∧ r.bringUp = (s.rx.get c).bringUp := by
  simp [propose, drawNat]

@[simp] theorem source_propose (kind : Nat) (s : Device) (id inst : Nat) :
    source (propose c kind s) id inst = source s id inst :=
  source_of_sources (sources_of_kept ((kept_propose c kind s (by decide)).mpr (.refl _ s))) id inst

theorem only_propose (kind : Nat) (s : Device) : Only [.rx, .pendSet, .fresh] s (propose c kind s) :=
  only_of_kept fun ρ hρ => by simp at hρ; simp [hρ]

theorem stagePropose_eq (both : bothStaged s c = true) (free : (s.rx.get c).retryEpochs = none) :
    stagePropose c s = propose c 1 s := by
  simp [stagePropose, both, free]

theorem stageRetry_eq (both : bothStaged s c = true) (due : (s.rx.get c).retryEpochs = some 0) :
    stageRetry c s = propose c 1 (modRx c (fun r => { r with retryEpochs := none }) s) := by
  have still : bothStaged (modRx c (fun r => { r with retryEpochs := none }) s) c = true := by
    simpa [bothStaged] using both
  unfold stageRetry
  rw [if_pos (by simp [due, expired])]
  exact if_pos still

/-- The receiver returns to the bring-up format. -/
def bringsUp (c : Carrier) (s : Device) : Device :=
  modRx c (fun r => { r with bringUp := true, stageSf := none, exitCount := 0 }) s

theorem rxStageFail_eq {n : Nat} (st : (s.rx.get c).state = .staged) (full : (s.rx.get c).stageSf = some n) (late : 8 ≤ n)
    (few : (s.rx.get c).exitCount < 8) :
    rxStageFail c s = modRx c (fun r => { r with
        retryEpochs := timer (rxSet (propose c 3 (fault 0x0324 c.num [] (bringsUp c s))) c 28) })
      (propose c 3 (fault 0x0324 c.num [] (bringsUp c s))) := by
  unfold rxStageFail
  simp only [full]
  exact if_pos ⟨st, late, few⟩

end

theorem rxStageFail_spec {s : Device} {c : Carrier} {n : Nat} (st : (s.rx.get c).state = .staged)
    (full : (s.rx.get c).stageSf = some n) (late : 8 ≤ n) (few : (s.rx.get c).exitCount < 8) :
    let r := (rxStageFail c s).rx.get c
    r.state = .staged ∧ r.bringUp = true ∧ r.ownRec.kind = 3 ∧ r.agree = .proposed ∧
      Faulted 0x0324 c.num s (rxStageFail c s) := by
  rw [rxStageFail_eq st full late few]
  have before : (bringsUp c s).rx.get c = { s.rx.get c with bringUp := true, stageSf := none, exitCount := 0 } := by
    simp [bringsUp]
  have raised := faulted_fault [] (bringsUp c s) (isSource_carrier (id := 0x0324) (by decide) c)
  have rx : (fault 0x0324 c.num [] (bringsUp c s)).rx = (bringsUp c s).rx := by simp
  generalize fault 0x0324 c.num [] (bringsUp c s) = t at raised rx
  obtain ⟨agree, kind, -, -, -, state, up⟩ := propose_get (c := c) 3 t
  have raised : Faulted 0x0324 c.num s (propose c 3 t) := raised.of_source (source_propose 3 t _ _)
  rw [rx, before] at state up
  generalize propose c 3 t = u at agree kind state up raised
  refine ⟨?_, ?_, ?_, ?_, raised⟩
  · simp [state, st]
  · simp [up]
  · simp [kind]
  · simp [agree]

/-- Settles O8: each answer, lapse and proposal of the switch-count agreement. -/
theorem agreements : Obligations.Agreements := by
  unfold Obligations.Agreements
  refine ⟨fun s c kind verb quiet nonce ahead => ?_, fun s c kind verb quiet nonce near => ?_,
    fun s c waits late => ?_, fun s c both free => ?_, fun s c both due => ?_, fun s c n st full late few => ?_⟩
  · refine yields_of rfl ((agreementReceived_acknowledges (s := putOut [] s.dev) (by simpa using kind)
      (by simpa using verb) (by simpa using quiet) (by simpa using nonce) (by simpa using ahead)).trans
      (agreed_stage _ _ _)) ?_
    simp only [raised_drivePins, only_drivePins_iff]
    refine ⟨by simp [answered], by simp [answered], by simp [answered], rfl, ?_⟩
    exact only_of_kept fun ρ hρ => by simp at hρ; simp [answered, hρ]
  · refine yields_of rfl (agreementReceived_refuses (s := putOut [] s.dev) (by simpa using kind)
      (by simpa using verb) (by simpa using quiet) (by simpa using nonce) (by simpa using near)) ?_
    simp only [only_drivePins_iff]
    refine ⟨by simp [answered], ?_⟩
    exact only_of_kept fun ρ hρ => by simp at hρ; simp [answered, hρ]
  · refine yields_of rfl (agreeFail_eq (s := putOut [] s.dev) (by simpa using waits) (by simpa using late)) ?_
    simp only [raised_drivePins, only_drivePins_iff]
    refine ⟨by simp [proposalFails], by simp [proposalFails], rfl, ?_⟩
    exact only_of_kept fun ρ hρ => by simp at hρ; simp [proposalFails, hρ]
  · refine yields_of rfl (stagePropose_eq (s := putOut [] s.dev) both free) ?_
    obtain ⟨agree, kind, verb, age, -⟩ := propose_get (c := c) 1 (putOut [] s.dev)
    simp only [only_drivePins_iff, drivePins_rx]
    exact ⟨agree, kind, verb, age, (only_putOut_iff _ _ _ _).mp (only_propose 1 _)⟩
  · refine yields_of rfl (stageRetry_eq (s := putOut [] s.dev) both due) ?_
    obtain ⟨agree, kind, verb, -, retry, -⟩ := propose_get (c := c) 1
      (modRx c (fun r => { r with retryEpochs := none }) (putOut [] s.dev))
    simp only [only_drivePins_iff, drivePins_rx]
    refine ⟨agree, kind, verb, retry, ?_⟩
    exact only_of_kept fun ρ hρ => by simp at hρ; simp [hρ]
  · refine yields_of rfl rfl ?_
    simpa using rxStageFail_spec (s := putOut [] s.dev) (by simpa using st) (by simpa using full) late
      (by simpa using few)

end Sys2Proof.Machine

/-!
The load of an Accord image (02_accords_and_loop_engines R50 to R61): how it ends.
-/
namespace Sys2Proof.Machine
open Sys2Proof

theorem accSlot_modSlot (i k : Nat) (f : AccordSlot → AccordSlot) (s : Device) :
    accSlot (modSlot i f s) k = if k = i then f (accSlot s i) else accSlot s k := by
  simp only [accSlot, modSlot, modAccord_accord, Tab.get_modify]

theorem accSlot_of_accord {s t : Device} (h : t.accord = s.accord) (k : Nat) : accSlot t k = accSlot s k := by
  simp [accSlot, h]

/-- An event after changes that leave the queue, the stack identity and the time. -/
theorem Raised.of_before {type source sev : Nat} {payload : List Byte} {s t u : Device}
    (h : Raised type source sev payload t u) (evq : t.evq = s.evq) (stackId : t.stack.stackId = s.stack.stackId)
    (timing : t.timing = s.timing) : Raised type source sev payload s u := by
  rw [Raised, evq, stackId, timing] at h
  exact h

/-- A load that ends without an image: the slot is free, and the load is reported. -/
def loadDropped (i : Nat) (st : Status) (s : Device) : Device := accordVerified i st (dropSlot i s)

theorem loadDropped_spec (i : Nat) (st : Status) (s : Device) :
    accSlot (loadDropped i st s) i = {} ∧ (∀ k, k ≠ i → accSlot (loadDropped i st s) k = accSlot s k) ∧
      Raised 0x0101 i 0 (le 1 st.code) s (loadDropped i st s) ∧ Only [.accord, .evq] s (loadDropped i st s) := by
  have slots (k : Nat) : accSlot (loadDropped i st s) k = if k = i then {} else accSlot s k :=
    accSlot_modSlot i k (fun _ => {}) s
  exact ⟨by simp [slots], fun k hk => by simp [slots, hk], rfl, only_of_kept fun ρ hρ => by simp at hρ; simp [loadDropped, hρ]⟩

section
variable {s : Device} {i : Fin 16}

/-- R51: what a loaded image must have. -/
def imagePasses (i : Nat) (v : VerifyIn) (s : Device) : Bool :=
  headerOk (accSlot s i).image (accSlot s i).imageLen && keyAccepted s (hdrKey (accSlot s i).image) v.oemHash && v.sigOk &&
    hdrFw (accSlot s i).image ≤ s.boot.fwVersion / 65536 && s.boot.otp.accordCounter ≤ hdrSec (accSlot s i).image

@[simp] theorem keyAccepted_putOut (sel : Nat) (hash : List Byte) (o : List Output) (s : Device) :
    keyAccepted (putOut o s) sel hash = keyAccepted s sel hash := by
  simp [keyAccepted]; rfl

@[simp] theorem imagePasses_putOut (i : Nat) (v : VerifyIn) (o : List Output) (s : Device) :
    imagePasses i v (putOut o s) = imagePasses i v s := by simp [imagePasses]

theorem accordVerifyComplete_eq (v : VerifyIn) (st : (accSlot s i.val).state = .verifying) :
    accordVerifyComplete i v s = if imagePasses i.val v s then
      accordVerified i.val .ok (modSlot i.val (fun q => { q with state := .valid, plan := v.plan }) s)
    else loadDropped i.val .denied s := by
  unfold accordVerifyComplete
  exact if_neg (not_not_intro st)

theorem accordVerifyComplete_spec (v : VerifyIn) (st : (accSlot s i.val).state = .verifying) :
    (∀ k, k ≠ i.val → accSlot (accordVerifyComplete i v s) k = accSlot s k) ∧
      (if imagePasses i.val v s then
        accSlot (accordVerifyComplete i v s) i.val = { accSlot s i.val with state := .valid, plan := v.plan } ∧
          Raised 0x0101 i.val 0 (le 1 Status.ok.code) s (accordVerifyComplete i v s)
      else accSlot (accordVerifyComplete i v s) i.val = {} ∧
        Raised 0x0101 i.val 0 (le 1 Status.denied.code) s (accordVerifyComplete i v s)) ∧
      Only [.accord, .evq] s (accordVerifyComplete i v s) := by
  rw [accordVerifyComplete_eq v st]
  split
  · have slots (k : Nat) := accSlot_modSlot i.val k (fun q => { q with state := .valid, plan := v.plan }) s
    exact ⟨fun k hk => (slots k).trans (by simp [hk]), ⟨(slots i.val).trans (by simp), rfl⟩,
      only_of_kept fun ρ hρ => by simp at hρ; simp [hρ]⟩
  · obtain ⟨free, others, raised, only⟩ := loadDropped_spec i.val .denied s
    exact ⟨others, ⟨free, raised⟩, only⟩

theorem accordLoadTimeout_eq (st : (accSlot s i.val).state = .loading)
    (due : (accSlot s i.val).source = 0 ∧ 10 < (accSlot s i.val).idle ∨
      (accSlot s i.val).source = 1 ∧ (accSlot s i.val).lastAt + SEC ≤ s.timing.now) :
    accordLoadTimeout i s = loadDropped i.val .timeout s := by
  unfold accordLoadTimeout
  refine if_pos ?_
  simpa [st, Nat.succ_le_iff] using due

theorem accordDmaComplete_eq {image : List Byte} (st : (accSlot s i.val).state = .loading)
    (dma : (accSlot s i.val).source = 1) (len : image.length = (accSlot s i.val).imageLen) :
    accordDmaComplete i image s = modSlot i.val (fun q => { q with image, state := .verifying }) s := by
  unfold accordDmaComplete
  exact if_pos ⟨st, dma, len⟩

theorem accordNandReadComplete_good {e : NandEntry} (st : (accSlot s i.val).state = .loading)
    (nand : (accSlot s i.val).source = 2) (entry : libEntry s (accSlot s i.val).libEntry = some e)
    (valid : e.invalid = false) :
    accordNandReadComplete i true s = modSlot i.val (fun q => { q with image := e.data, state := .verifying }) s := by
  unfold accordNandReadComplete
  dsimp only
  rw [if_neg (by simp [st, nand]), entry]
  simp [valid]

/-- The library entry `id` is marked invalid. -/
def entryInvalid (id : Nat) (s : Device) : Device :=
  let f (l : List NandEntry) : List NandEntry := l.map fun x => if x.id = id then { x with invalid := true } else x
  modBoot (fun b => { b with nand := { b.nand with entries := Tab.modify (fun _ => []) b.nand.entries 0 f } }) s

theorem accordNandReadComplete_bad {e : NandEntry} (st : (accSlot s i.val).state = .loading)
    (nand : (accSlot s i.val).source = 2) (entry : libEntry s (accSlot s i.val).libEntry = some e) :
    accordNandReadComplete i false s = loadDropped i.val .denied (fault 0x1008 0 [] (entryInvalid e.id s)) := by
  unfold accordNandReadComplete
  dsimp only
  rw [if_neg (by simp [st, nand]), entry]
  rfl

end

theorem accordNandReadComplete_bad_spec {s : Device} {i : Fin 16} {e : NandEntry}
    (st : (accSlot s i.val).state = .loading) (nand : (accSlot s i.val).source = 2)
    (entry : libEntry s (accSlot s i.val).libEntry = some e) :
    accSlot (accordNandReadComplete i false s) i.val = {} ∧ Faulted 0x1008 0 s (accordNandReadComplete i false s) ∧
      Raised 0x0101 i.val 0 (le 1 Status.denied.code) s (accordNandReadComplete i false s) := by
  rw [accordNandReadComplete_bad st nand entry]
  have failed := faulted_fault (id := 0x1008) (inst := 0) [] (entryInvalid e.id s) (by decide)
  have timing : (fault 0x1008 0 [] (entryInvalid e.id s)).timing = s.timing := by simp [entryInvalid]
  have evq : (fault 0x1008 0 [] (entryInvalid e.id s)).evq = s.evq := by simp [entryInvalid]
  have stackId : (fault 0x1008 0 [] (entryInvalid e.id s)).stack.stackId = s.stack.stackId := by simp [entryInvalid]
  generalize fault 0x1008 0 [] (entryInvalid e.id s) = t at failed timing evq stackId
  obtain ⟨free, -, raised, -⟩ := loadDropped_spec i.val .denied t
  exact ⟨free, failed, raised.of_before evq stackId timing⟩

/-- Settles O9: each end of a load, by the slot that it leaves. -/
theorem accordLoads : Obligations.AccordLoads := by
  unfold Obligations.AccordLoads
  refine ⟨fun s i v st => ?_, fun s i st host idle => ?_, fun s i st dma late => ?_, fun s i image st dma len => ?_,
    fun s i e st nand entry valid => ?_, fun s i e st nand entry => ?_⟩
  · refine yields_of rfl rfl ?_
    have spec := accordVerifyComplete_spec (s := putOut [] s.dev) (i := i) v (by simpa using st)
    rw [imagePasses_putOut] at spec
    simp only [accSlot_drivePins, raised_drivePins, only_drivePins_iff]
    simp only [accSlot_putOut, raised_putOut, only_putOut_iff] at spec
    exact spec
  · refine yields_of rfl (accordLoadTimeout_eq (s := putOut [] s.dev) (by simpa using st)
      (.inl ⟨by simpa using host, by simpa using idle⟩)) ?_
    obtain ⟨free, -, raised, only⟩ := loadDropped_spec i.val .timeout (putOut [] s.dev)
    simpa using ⟨free, raised, only⟩
  · refine yields_of rfl (accordLoadTimeout_eq (s := putOut [] s.dev) (by simpa using st)
      (.inr ⟨by simpa using dma, by simpa using late⟩)) ?_
    obtain ⟨free, -, raised, only⟩ := loadDropped_spec i.val .timeout (putOut [] s.dev)
    simpa using ⟨free, raised, only⟩
  · refine yields_of rfl (accordDmaComplete_eq (s := putOut [] s.dev) (by simpa using st) (by simpa using dma)
      (by simpa using len)) ?_
    simp only [accSlot_drivePins, only_drivePins_iff, accSlot_modSlot]
    exact ⟨by simp, only_of_kept fun ρ hρ => by simp at hρ; simp [hρ]⟩
  · refine yields_of rfl (accordNandReadComplete_good (s := putOut [] s.dev) (by simpa using st) (by simpa using nand)
      (by simpa [libEntry] using entry) valid) ?_
    simp only [accSlot_drivePins, only_drivePins_iff, accSlot_modSlot]
    exact ⟨by simp, only_of_kept fun ρ hρ => by simp at hρ; simp [hρ]⟩
  · refine yields_of rfl rfl ?_
    have spec := accordNandReadComplete_bad_spec (s := putOut [] s.dev) (by simpa using st) (by simpa using nand)
      (by simpa [libEntry] using entry)
    simpa using spec

end Sys2Proof.Machine

/-!
Staging and the scheduled Accord switch (02_accords_and_loop_engines R63 to R83).
-/
namespace Sys2Proof.Machine
open Sys2Proof

/-! ### Staging -/

section
variable {s : Device} {i : Nat}

theorem stagingComplete_good (st : s.accord.standby = .staging) (slot : s.accord.standbySet.slot = some i)
    (valid : (accSlot s i).state = .valid) (cores : ((accSlot s i).plan.cores.any fun k => coreRetired s k.1) = false) :
    stagingComplete .good s = raise 0x0102 i 0 (le 1 Status.ok.code) (modAccord (fun a => { a with
      standby := .ready
      standbySet := { slot := some i, header := fit 336 (accSlot s i).image, plan := (accSlot s i).plan } }) s) := by
  unfold stagingComplete
  simp only [st, slot, valid]
  exact if_pos (by simp [cores])

theorem stagingComplete_memError (st : s.accord.standby = .staging) (slot : s.accord.standbySet.slot = some i)
    (valid : (accSlot s i).state = .valid) :
    stagingComplete .memError s = raise 0x0102 i 0 (le 1 Status.denied.code) (modAccord (fun a => { a with
      standby := .empty, standbySet := {} }) (modSlot i (fun q => { q with state := .invalid }) s)) := by
  unfold stagingComplete
  simp only [st, slot, valid]
  rfl

end

/-! ### The switch at T -/

/-- Two accords agree in their sets, in the state of the standby set and in what the switch changes. -/
def SameSwitch (s t : Device) : Prop :=
  t.accord.standby = s.accord.standby ∧ t.accord.active = s.accord.active ∧ t.accord.standbySet = s.accord.standbySet ∧
    t.accord.switchT = s.accord.switchT ∧ t.accord.changed = s.accord.changed ∧ t.timing = s.timing

theorem SameSwitch.refl (s : Device) : SameSwitch s s := ⟨rfl, rfl, rfl, rfl, rfl, rfl⟩

theorem SameSwitch.trans {s t u : Device} (h : SameSwitch s t) (k : SameSwitch t u) : SameSwitch s u := by
  obtain ⟨h1, h2, h3, h4, h5, h6⟩ := h
  obtain ⟨k1, k2, k3, k4, k5, k6⟩ := k
  exact ⟨k1.trans h1, k2.trans h2, k3.trans h3, k4.trans h4, k5.trans h5, k6.trans h6⟩

theorem SameSwitch.of_kept {s t : Device} (accord : t.accord = s.accord) (timing : t.timing = s.timing) :
    SameSwitch s t := by
  simp [SameSwitch, accord, timing]

theorem SameSwitch.each {α : Type} (l : List α) (f : α → Device → Device) (h : ∀ x s, SameSwitch s (f x s))
    (s : Device) : SameSwitch s (Machine.each l f s) := by
  unfold Machine.each
  induction l generalizing s with
  | nil => exact .refl s
  | cons a r ih => exact (h a s).trans (ih (f a s))

theorem SameSwitch.when (b : Bool) {f : Device → Device} (h : ∀ s, SameSwitch s (f s)) (s : Device) :
    SameSwitch s (Machine.when b f s) := by
  unfold Machine.when
  split
  · exact h s
  · exact .refl s

theorem sameSwitch_switchTables (old new : Plan) (f : TablePlan → Bool) (s : Device) :
    SameSwitch s (switchTables old new f s) :=
  .of_kept ((kept_switchTables (ρ := .part .accord) (s₀ := s) old new f s (by decide)).mpr (.refl _ s))
    ((kept_switchTables (ρ := .part .timing) (s₀ := s) old new f s (by decide)).mpr (.refl _ s))

theorem sameSwitch_judgeSettings (before : Device) (new : Plan) (s : Device) :
    SameSwitch s (judgeSettings before new s) :=
  .of_kept ((kept_judgeSettings (ρ := .part .accord) (s₀ := s) before new s (by decide)).mpr (.refl _ s))
    ((kept_judgeSettings (ρ := .part .timing) (s₀ := s) before new s (by decide)).mpr (.refl _ s))

theorem sameSwitch_rxModeChange (old new : Plan) (c : Carrier) (b : Bool) (s : Device) :
    SameSwitch s (rxModeChange old new c b s) :=
  .of_kept ((kept_rxModeChange (ρ := .part .accord) (s₀ := s) old new c b s (by decide)).mpr (.refl _ s))
    ((kept_rxModeChange (ρ := .part .timing) (s₀ := s) old new c b s (by decide)).mpr (.refl _ s))

theorem sameSwitch_convRateChange (c : Carrier) (s : Device) : SameSwitch s (convRateChange c s) :=
  .of_kept ((kept_convRateChange (ρ := .part .accord) (s₀ := s) c s (by decide)).mpr (.refl _ s))
    ((kept_convRateChange (ρ := .part .timing) (s₀ := s) c s (by decide)).mpr (.refl _ s))

theorem sameSwitch_powerTick (c : Carrier) (s : Device) : SameSwitch s (powerTick c s) :=
  .of_kept ((kept_powerTick (ρ := .part .accord) (s₀ := s) c s (by decide)).mpr (.refl _ s))
    ((kept_powerTick (ρ := .part .timing) (s₀ := s) c s (by decide)).mpr (.refl _ s))

/-- What a carrier does at T once its tables, converters and power have moved. -/
def carrierMoved (old new : Plan) (c : Carrier) (s : Device) : Device :=
  let t := modAccord (fun a => { a with
    rxWait := a.rxWait.set c (rxWaits s old new c), clusterWait := a.clusterWait.set c true }) s
  if rxWaits s old new c then t else rxModeChange old new c false (switchRx old new c t)

theorem sameSwitch_switchRx (old new : Plan) (c : Carrier) (s : Device) : SameSwitch s (switchRx old new c s) :=
  sameSwitch_switchTables _ _ _ s

theorem sameSwitch_carrierMoved (old new : Plan) (c : Carrier) (s : Device) :
    SameSwitch s (carrierMoved old new c s) := by
  unfold carrierMoved
  dsimp only
  have waits (w : Bool) : SameSwitch s (modAccord (fun a => { a with
      rxWait := a.rxWait.set c w, clusterWait := a.clusterWait.set c true }) s) := ⟨rfl, rfl, rfl, rfl, rfl, rfl⟩
  split
  · exact waits _
  · exact ((waits _).trans (sameSwitch_switchRx _ _ _ _)).trans (sameSwitch_rxModeChange _ _ _ _ _)

/-- The tables of a carrier's transmit side, its converters and its power at T. -/
def carrierPowered (old new : Plan) (c : Carrier) (s : Device) : Device :=
  let rate (pl : Plan) : Option Nat := (pl.modes.get c).map (·.convRate)
  let t := Machine.when ((rate old).isSome && (rate new).isSome && rate old ≠ rate new) (convRateChange c)
    (switchTables old new (fun t => t.part = .car c && !t.rx) s)
  if powered t c then t else powerTick c t

theorem sameSwitch_carrierPowered (old new : Plan) (c : Carrier) (s : Device) :
    SameSwitch s (carrierPowered old new c s) := by
  unfold carrierPowered
  dsimp only
  have before (b : Bool) : SameSwitch s (Machine.when b (convRateChange c)
      (switchTables old new (fun t => t.part = .car c && !t.rx) s)) :=
    (sameSwitch_switchTables _ _ _ s).trans (.when b (sameSwitch_convRateChange c) _)
  split
  · exact before _
  · exact (before _).trans (sameSwitch_powerTick c _)

theorem sameSwitch_switchCarrier (old new : Plan) (c : Carrier) (s : Device) :
    SameSwitch s (switchCarrier old new c s) := by
  have eq : switchCarrier old new c s = carrierMoved old new c (carrierPowered old new c s) := rfl
  rw [eq]
  exact (sameSwitch_carrierPowered old new c s).trans (sameSwitch_carrierMoved old new c _)

theorem sameSwitch_senseEvent (k : Nat) (s : Device) : SameSwitch s (senseEvent k s) :=
  .of_kept ((kept_senseEvent (ρ := .part .accord) (s₀ := s) k s (by decide)).mpr (.refl _ s))
    ((kept_senseEvent (ρ := .part .timing) (s₀ := s) k s (by decide)).mpr (.refl _ s))

/-- The device as the sets are exchanged at T. -/
def setsExchanged (s : Device) : Device :=
  modAccord (fun a => { a with
    standby := .switching, switchT := s.timing.now, active := a.standbySet, standbySet := a.active,
    devWait := s.accord.changed.getLsbD 0, clusterWait := ⟨false, false⟩, rxWait := ⟨false, false⟩ }) s

theorem accordSwitchT_same (s : Device) (due : switchDue s = true) :
    SameSwitch (setsExchanged s) (accordSwitchT s) := by
  unfold accordSwitchT
  rw [if_neg (by simp [due])]
  dsimp only
  refine .trans ?_ (.each _ _ sameSwitch_senseEvent _)
  refine .trans ?_ (.each _ _ (fun c s => .when _ (sameSwitch_switchCarrier _ _ c) s) _)
  refine .trans ?_ (.when _ (sameSwitch_switchTables _ _ _) _)
  exact sameSwitch_judgeSettings _ _ _

theorem accordSwitchT_spec (s : Device) (due : switchDue s = true) :
    (accordSwitchT s).accord.standby = .switching ∧ (accordSwitchT s).accord.active = s.accord.standbySet ∧
      (accordSwitchT s).accord.standbySet = s.accord.active ∧ (accordSwitchT s).accord.switchT = s.timing.now ∧
      (accordSwitchT s).accord.changed = s.accord.changed ∧ (accordSwitchT s).timing = s.timing :=
  accordSwitchT_same s due

/-! ### The receive side and the end of the switch -/

section
variable {s : Device} {c : Carrier}

theorem accordRxSwitch_eq (st : s.accord.standby = .switching) (wait : s.accord.rxWait.get c = true)
    (free : (agreedWait s c && (s.rx.get c).state.atLeast .superframeLock) = false) :
    accordRxSwitch c s = rxModeChange s.accord.standbySet.plan (plan s) c ((s.rx.get c).agreedKind = 2)
      (switchRx s.accord.standbySet.plan (plan s) c (modAccord (fun a => { a with rxWait := a.rxWait.set c false }) s)) := by
  unfold accordRxSwitch
  rw [if_neg (by simp [st, wait]), if_neg (by simp [free])]
  rfl

theorem setRx_rx_other (st : RxState) (cause : Nat) (s : Device) : (setRx c st cause s).rx.get c.other = s.rx.get c.other := by
  simp

theorem rxFall_rx_other (st : RxState) (cause : Nat) (s : Device) :
    (rxFall c st cause s).rx.get c.other = s.rx.get c.other := by
  unfold rxFall
  dsimp only
  split <;> simp

theorem fallToSearch_rx_other (h : HintMode) (cause : Nat) (s : Device) :
    (fallToSearch c h cause s).rx.get c.other = s.rx.get c.other := by
  unfold fallToSearch
  simp [rxFall_rx_other]

theorem rxModeChange_rx_other (old new : Plan) (b : Bool) (s : Device) :
    (rxModeChange old new c b s).rx.get c.other = s.rx.get c.other := by
  unfold rxModeChange
  dsimp only
  split
  · rfl
  · split
    · simp
    · rw [fallToSearch_rx_other]
      simp

theorem rxModeChange_accord (old new : Plan) (b : Bool) (s : Device) : (rxModeChange old new c b s).accord = s.accord :=
  (kept_rxModeChange (ρ := .part .accord) (s₀ := s) old new c b s (by decide)).mpr (.refl _ s)

theorem switchRx_accord (old new : Plan) (s : Device) : (switchRx old new c s).accord = s.accord :=
  (kept_switchRx (ρ := .part .accord) (s₀ := s) old new c s (by decide)).mpr (.refl _ s)

theorem switchRx_rx (old new : Plan) (s : Device) : (switchRx old new c s).rx = s.rx :=
  (kept_switchRx (ρ := .part .rx) (s₀ := s) old new c s (by decide)).mpr (.refl _ s)

theorem switchRx_timing (old new : Plan) (s : Device) : (switchRx old new c s).timing = s.timing :=
  (kept_switchRx (ρ := .part .timing) (s₀ := s) old new c s (by decide)).mpr (.refl _ s)

theorem rxModeChange_timing (old new : Plan) (b : Bool) (s : Device) : (rxModeChange old new c b s).timing = s.timing :=
  (kept_rxModeChange (ρ := .part .timing) (s₀ := s) old new c b s (by decide)).mpr (.refl _ s)

theorem accordRxSwitch_spec (st : s.accord.standby = .switching) (wait : s.accord.rxWait.get c = true)
    (free : (agreedWait s c && (s.rx.get c).state.atLeast .superframeLock) = false) :
    (accordRxSwitch c s).accord = { s.accord with rxWait := s.accord.rxWait.set c false } ∧
      (accordRxSwitch c s).rx.get c.other = s.rx.get c.other ∧ (accordRxSwitch c s).timing = s.timing := by
  rw [accordRxSwitch_eq st wait free, rxModeChange_accord, rxModeChange_rx_other, rxModeChange_timing, switchRx_accord,
    switchRx_rx, switchRx_timing]
  exact ⟨rfl, rfl, rfl⟩

theorem accordSwitchComplete_eq (done : switchDone s = true) (held : s.accord.held = []) :
    accordSwitchComplete s = modAccord (fun a => { a with
      standby := if a.standbySet.slot.isSome then .ready else .empty, changed := 0, held := [] })
      (raiseAt s.accord.switchT 0x0103 (s.accord.active.slot.getD 0) 0
        (slice s.accord.active.header 16 8 ++ le 1 s.accord.changed.toNat) s) := by
  unfold accordSwitchComplete
  rw [if_neg (by simp [done]), held]
  rfl

end

/-- Settles O10: staging, the switch at T, the receive side and the end, by the sets that they leave. -/
theorem accordStagingAndSwitch : Obligations.AccordStagingAndSwitch := by
  unfold Obligations.AccordStagingAndSwitch
  refine ⟨fun s i st slot valid cores => ?_, fun s i st slot valid => ?_, fun s due => ?_,
    fun s c st wait free => ?_, fun s done held => ?_⟩
  · refine yields_of rfl (stagingComplete_good (s := putOut [] s.dev) (by simpa using st) (by simpa using slot)
      (by simpa using valid) (by simpa [coreRetired] using cores)) ?_
    simp only [raised_drivePins, only_drivePins_iff]
    exact ⟨by simp, rfl, only_of_kept fun ρ hρ => by simp at hρ; simp [hρ]⟩
  · refine yields_of rfl (stagingComplete_memError (s := putOut [] s.dev) (by simpa using st) (by simpa using slot)
      (by simpa using valid)) ?_
    simp only [raised_drivePins, only_drivePins_iff]
    refine ⟨by simp, ?_, rfl, only_of_kept fun ρ hρ => by simp at hρ; simp [hρ]⟩
    have slots := accSlot_modSlot i i (fun q => { q with state := .invalid }) (putOut [] s.dev)
    have invalid : (accSlot (modSlot i (fun q => { q with state := .invalid }) (putOut [] s.dev)) i).state = .invalid := by
      simp [slots]
    simpa [accSlot] using invalid
  · refine yields_of rfl rfl ?_
    simpa using accordSwitchT_spec (putOut [] s.dev) due
  · refine yields_of rfl rfl ?_
    simpa using accordRxSwitch_spec (s := putOut [] s.dev) (by simpa using st) (by simpa using wait) free
  · refine yields_of rfl (accordSwitchComplete_eq (s := putOut [] s.dev) done (by simpa using held)) ?_
    simp only [only_drivePins_iff, drivePins_accord, drivePins_evq]
    refine ⟨by rw [← held]; rfl, rfl, only_of_kept fun ρ hρ => by simp at hρ; simp [hρ]⟩

end Sys2Proof.Machine

/-!
Alarms and the erasure of keys (09_line_encryption R403 to R430).
-/
namespace Sys2Proof.Machine
open Sys2Proof

@[simp] theorem localTrig_crypto (k : Nat) (t : Time) (f : Nat → CapSlot → Bool) (s : Device) :
    (localTrig k t f s).crypto = s.crypto :=
  (kept_localTrig (ρ := .part .crypto) (s₀ := s) k t f s (by decide)).mpr (.refl _ s)

@[simp] theorem localTrig_kme (k : Nat) (t : Time) (f : Nat → CapSlot → Bool) (s : Device) :
    (localTrig k t f s).kme = s.kme :=
  (kept_localTrig (ρ := .part .kme) (s₀ := s) k t f s (by decide)).mpr (.refl _ s)

@[simp] theorem localTrig_clock (k : Nat) (t : Time) (f : Nat → CapSlot → Bool) (s : Device) :
    (localTrig k t f s).clock = s.clock :=
  (kept_localTrig (ρ := .part .clock) (s₀ := s) k t f s (by decide)).mpr (.refl _ s)

@[simp] theorem pinLevel_crypto (s : Device) : (pinLevel s).crypto = s.crypto := rfl
@[simp] theorem pinLevel_kme (s : Device) : (pinLevel s).kme = s.kme := rfl
@[simp] theorem pinLevel_clock (s : Device) : (pinLevel s).clock = s.clock := rfl

/-! ### Alarms -/

/-- No key is left: every line slot, every context, the state of the generator and that of the masks (R427). -/
def KeysErased (s : Device) : Prop :=
  s.crypto.a.tx = ⟨{}, {}⟩ ∧ s.crypto.a.rx = ⟨{}, {}⟩ ∧ s.crypto.b.tx = ⟨{}, {}⟩ ∧ s.crypto.b.rx = ⟨{}, {}⟩ ∧
    s.kme.ctxs = [] ∧ s.kme.drbgSeeded = false ∧ s.kme.maskSegs = [] ∧ inReset s .crypto = true

/-- The keys, contexts and states are gone; CRYPTO is not in reset yet. -/
def keysGone (s : Device) : Device :=
  let s := modCrypto .b eraseSlots (modCrypto .a eraseSlots s)
  putKme { s.kme with ctxs := [], drbgSeeded := false, drbgRequests := 0, maskSegs := [] } s

theorem keysErased_eraseKeys (s : Device) : KeysErased (eraseKeys s) := by
  have eq : eraseKeys s = enterReset .crypto 6 (keysGone s) := rfl
  obtain ⟨l, hl⟩ := enterReset_form .crypto 6 (keysGone s)
  rw [eq]
  refine ⟨?_, ?_, ?_, ?_, ?_, ?_, ?_, inReset_enterReset _ _ _⟩ <;> (rw [hl]; rfl)

theorem KeysErased.of_same {s t : Device} (h : KeysErased s) (crypto : t.crypto = s.crypto)
    (kme : t.kme = { s.kme with alarm := t.kme.alarm }) (clock : t.clock = s.clock) : KeysErased t := by
  unfold KeysErased at h ⊢
  rw [crypto, kme, inReset_of_clock clock]
  exact h

/-- The conditions that latch in the alarm (R422). -/
def latching (id : Nat) : Prop := id ∈ [0x0601, 0x0602, 0x0603, 0x0607]

theorem isAlarm_of_latching {id : Nat} (h : latching id) : isAlarm id = true := by
  simp only [latching, List.mem_cons, List.not_mem_nil, or_false] at h
  rcases h with rfl | rfl | rfl | rfl <;> decide

/-- What the end of a latching event leaves, the keys being erased. -/
theorem keysErased_latched (t : Time) (f : Nat → CapSlot → Bool) (s : Device) :
    KeysErased (pinLevel (localTrig 1 t f (putKme { (eraseKeys s).kme with alarm := true } (eraseKeys s)))) ∧
      (pinLevel (localTrig 1 t f (putKme { (eraseKeys s).kme with alarm := true } (eraseKeys s)))).kme.alarm = true := by
  refine ⟨(keysErased_eraseKeys s).of_same ?_ ?_ ?_, ?_⟩ <;> simp

/-- A latching condition that begins erases every key and latches the alarm. -/
theorem faultOne_latching {id : Nat} (h : latching id) (src : isSource id 0 = true) (others : Nat) (t : Time)
    (begins : Bool) (s : Device) :
    KeysErased (faultOne others t { id, inst := 0, detail := [], begins } s) ∧
      (faultOne others t { id, inst := 0, detail := [], begins } s).kme.alarm = true := by
  have member : id ∈ [0x0601, 0x0602, 0x0603, 0x0607] := h
  unfold faultOne
  rw [if_neg (by simp [src])]
  simp only [isAlarm_of_latching h, member, FaultIn.inert, Bool.false_and, Bool.not_false, Bool.true_or, Bool.true_and,
    if_true, decide_true]
  exact keysErased_latched _ _ _

theorem faultOn_latching {id : Nat} (h : latching id) (src : isSource id 0 = true) (s : Device)
    (off : (source s id 0).cond = false) :
    KeysErased (faultOn id 0 [] s) ∧ (faultOn id 0 [] s).kme.alarm = true := by
  unfold faultOn
  rw [if_neg (by simp [off]), faultGroup_one _ _ _ src]
  exact faultOne_latching h src _ _ _ s

/-- The level of a condition as the alarm circuit sees it. -/
def alarmLevel (b : Nat) (holds : Bool) (s : Device) : Device :=
  putKme { s.kme with
    present := if holds then s.kme.present ||| (1#8 <<< b) else s.kme.present &&& ~~~(1#8 <<< b)
    absentTicks := if holds then Tab.set (fun _ => 1001) s.kme.absentTicks b 0 else s.kme.absentTicks } s

theorem alarmCondition_spec {b : Nat} (h : latching (0x0601 + b)) (src : isSource (0x0601 + b) 0 = true) (s : Device)
    (off : (source s (0x0601 + b) 0).cond = false) :
    KeysErased (alarmCondition b true s) ∧ (alarmCondition b true s).kme.alarm = true ∧
      (source (alarmCondition b true s) (0x0601 + b) 0).cond = true ∧ (alarmCondition b true s).boot = s.boot ∧
      Only Part.ofFault s (alarmCondition b true s) := by
  have eq : alarmCondition b true s = faultOn (0x0601 + b) 0 [] (alarmLevel b true s) := rfl
  rw [eq]
  obtain ⟨erased, alarm⟩ := faultOn_latching h src (alarmLevel b true s) off
  exact ⟨erased, alarm, source_faultOn _ _ _ _ src, by simp [alarmLevel], only_of_kept fun ρ hρ => by
    simp [Part.ofFault] at hρ; simp [alarmLevel, hρ]⟩

theorem zeroizeN_spec (s : Device) (off : (source s 0x0607 0).cond = false) :
    KeysErased (zeroizeN true s) ∧ (zeroizeN true s).kme.alarm = true ∧ (source (zeroizeN true s) 0x0607 0).cond = true ∧
      (zeroizeN true s).boot = s.boot ∧ Only Part.ofFault s (zeroizeN true s) :=
  alarmCondition_spec (b := 6) (by simp [latching]) (by decide) s off

theorem tamperCondition_spec (k : Fin 3) (s : Device) (off : (source s (0x0601 + k.val) 0).cond = false) :
    KeysErased (tamperCondition k true s) ∧ (tamperCondition k true s).kme.alarm = true ∧
      (source (tamperCondition k true s) (0x0601 + k.val) 0).cond = true ∧
      (tamperCondition k true s).boot = s.boot ∧ Only Part.ofFault s (tamperCondition k true s) := by
  have member : ∀ k : Fin 3, latching (0x0601 + k.val) := by unfold latching; decide
  have src : ∀ k : Fin 3, isSource (0x0601 + k.val) 0 = true := by decide
  exact alarmCondition_spec (member k) (src k) s off

theorem zeroizeN_ends (s : Device) : zeroizeN false s = faultOff 0x0607 0 (alarmLevel 6 false s) := rfl

/-! ### Keys that end -/

section
variable {s : Device} {c : Carrier} {rx : Bool}

/-- The pair of line slots of a carrier's direction. -/
def keyPair (c : Carrier) (rx : Bool) (s : Device) : Two KeySlot := if rx then (s.crypto.get c).rx else (s.crypto.get c).tx

/-- A line slot is emptied. -/
def slotEmptied (c : Carrier) (rx : Bool) (k : Nat) (s : Device) : Device :=
  modCrypto c (fun q => if rx then { q with rx := setSlot (keyPair c rx s) k fun _ => {} }
    else { q with tx := setSlot (keyPair c rx s) k fun _ => {} }) s

theorem keyIvLimit_eq {k : Nat} (active : activeSlot (keyPair c rx s) = some k)
    (old : 2 ^ 32 - 2 ^ 16 ≤ (slotAt (keyPair c rx s) k).age) : keyIvLimit c rx s = slotEmptied c rx k s := by
  unfold keyPair at active old
  unfold keyIvLimit
  simp only [active]
  exact if_neg (Nat.not_lt.mpr old)

theorem keySlotErased_eq {k : Fin 2} (st : (slotAt (keyPair c rx s) k.val).state = .retiring) :
    keySlotErased c rx k s = raise 0x0601 c.num 0 (le 1 (bit rx) ++ le 1 k.val) (slotEmptied c rx k.val s) := by
  unfold keySlotErased
  exact if_neg (not_not_intro st)

theorem cryptoEraseComplete_eq (erasing : (s.crypto.get c).erasing = true)
    (held : (s.crypto.get c).heldEnable = none) :
    cryptoEraseComplete c s = modCrypto c (fun q => { q with erasing := false, heldEnable := none }) s := by
  unfold cryptoEraseComplete
  dsimp only
  rw [if_neg (by simp [erasing]), held]

end

/-- Settles O11: alarms by the erasure that every latching condition makes, keys by the slot that is emptied. -/
theorem keysEraseAndAge : Obligations.KeysEraseAndAge := by
  unfold Obligations.KeysEraseAndAge
  refine ⟨fun s off => ?_, fun s => ?_, fun s k off => ?_, fun s c rx k active old => ?_, fun s c rx k st => ?_,
    fun s c erasing held => ?_⟩
  · refine yields_of rfl rfl ?_
    obtain ⟨⟨atx, arx, btx, brx, ctxs, seed, masks, reset⟩, alarm, cond, boot, only⟩ :=
      zeroizeN_spec (putOut [] s.dev) (by simpa using off)
    simpa [boot] using ⟨atx, arx, btx, brx, ctxs, seed, masks, alarm, reset, cond, only⟩
  · refine yields_of rfl (zeroizeN_ends (putOut [] s.dev)) ?_
    simp only [only_drivePins_iff]
    refine ⟨by simpa using source_faultOff _ _ _, by simp [alarmLevel], by simp [alarmLevel], by simp [alarmLevel], ?_⟩
    exact only_of_kept fun ρ hρ => by simp at hρ; simp [alarmLevel, hρ]
  · refine yields_of rfl rfl ?_
    obtain ⟨⟨atx, arx, btx, brx, ctxs, seed, masks, reset⟩, alarm, cond, boot, only⟩ :=
      tamperCondition_spec k (putOut [] s.dev) (by simpa using off)
    simpa [boot] using ⟨atx, arx, btx, brx, ctxs, alarm, reset, cond, only⟩
  · refine yields_of rfl (keyIvLimit_eq (s := putOut [] s.dev) active old) ?_
    simp only [only_drivePins_iff]
    refine ⟨by cases rx <;> simp [slotEmptied, keyPair], by simp [slotEmptied], ?_⟩
    exact only_of_kept fun ρ hρ => by simp at hρ; simp [slotEmptied, hρ]
  · refine yields_of rfl (keySlotErased_eq (s := putOut [] s.dev) st) ?_
    simp only [only_drivePins_iff, raised_drivePins]
    refine ⟨by cases rx <;> simp [slotEmptied, keyPair], by simp [slotEmptied], rfl, ?_⟩
    exact only_of_kept fun ρ hρ => by simp at hρ; simp [slotEmptied, hρ]
  · refine yields_of rfl (cryptoEraseComplete_eq (s := putOut [] s.dev) (by simpa using erasing) (by simpa using held)) ?_
    simp only [only_drivePins_iff]
    refine ⟨by simp [held], by simp, ?_⟩
    exact only_of_kept fun ρ hρ => by simp at hρ; simp [hρ]

end Sys2Proof.Machine

/-!
Captures of the Blotter (14_buffer_memory_and_latency_equaliser R616 to R624) and the rings that they are read out to
(21_mailbox_interface R826).
-/
namespace Sys2Proof.Machine
open Sys2Proof

/-! ### Rings -/

theorem ring_modRing (k j : Nat) (f : RingSt → RingSt) (s : Device) :
    ring (modRing k f s) j = if j = k then f (ring s k) else ring s j := by
  simp only [ring, modRing, modHost_host, Tab.get_modify]

theorem ring_of_host {s t : Device} (h : t.host.rings = s.host.rings) (k : Nat) : ring t k = ring s k := by
  simp [ring, h]

@[simp] theorem ring_sendMsix (v k : Nat) (s : Device) : ring (sendMsix v s) k = ring s k := by
  unfold sendMsix
  split <;> rfl

/-- A message adds to the outputs at most. -/
theorem mem_out_sendMsix {o : Output} {s : Device} (h : o ∈ s.out) (v : Nat) : o ∈ (sendMsix v s).out := by
  unfold sendMsix
  split
  · exact h
  · exact List.mem_append_left _ h

/-- The coalescing interval of a ring has passed (Table 21-8). -/
def ringFree (k : Nat) (s : Device) : Bool :=
  (ring s k).coalesce = 0 ||
    (match (ring s k).lastMsi with | none => true | some t => t + (ring s k).coalesce * US ≤ s.timing.now)

theorem ringMsi_eq (k : Nat) (s : Device) : ringMsi k s =
    if (ring s k).vector = 0xFF then s
    else if ringFree k s then
      sendMsix (ring s k).vector (modRing k (fun q => { q with lastMsi := some s.timing.now, msiWaits := false }) s)
    else modRing k (fun q => { q with msiWaits := true }) s := rfl

/-- `q` and `r` differ in the state of their messages at most. -/
def SameEntries (q r : RingSt) : Prop := ∃ last waits, r = { q with lastMsi := last, msiWaits := waits }

theorem SameEntries.refl (q : RingSt) : SameEntries q q := ⟨q.lastMsi, q.msiWaits, rfl⟩

theorem sameEntries_modRing {k j : Nat} {f : RingSt → RingSt} (s : Device) (h : ∀ q, SameEntries q (f q)) :
    SameEntries (ring s j) (ring (modRing k f s) j) := by
  rw [ring_modRing]
  split
  · rename_i hj
    exact hj ▸ h _
  · exact .refl _

/-- A message of a ring moves nothing but the state of its messages. -/
theorem sameEntries_ringMsi (k j : Nat) (s : Device) : SameEntries (ring s j) (ring (ringMsi k s) j) := by
  rw [ringMsi_eq]
  split
  · exact .refl _
  · split
    · rw [ring_sendMsix]
      exact sameEntries_modRing s fun q => ⟨_, _, rfl⟩
    · exact sameEntries_modRing s fun q => ⟨_, _, rfl⟩

theorem mem_out_ringMsi {o : Output} {s : Device} (h : o ∈ s.out) (k : Nat) : o ∈ (ringMsi k s).out := by
  rw [ringMsi_eq]
  split
  · exact h
  · split
    · exact mem_out_sendMsix (by exact h) _
    · exact h

theorem ringWrite_head (k : Nat) (bytes : List Byte) (s : Device) :
    (ring (ringWrite k bytes s) k).head = ((ring s k).head + 1) % (ring s k).entries := by
  obtain ⟨_, _, h⟩ := sameEntries_ringMsi k k (modRing k (fun q => { q with head := (q.head + 1) % q.entries })
    (emit (.dma ((ring s k).base + (ring s k).head * entrySize (ring s k).kind) bytes) s))
  unfold ringWrite
  dsimp only
  rw [h, ring_modRing, if_pos rfl]
  rfl

theorem mem_out_ringWrite (k : Nat) (bytes : List Byte) (s : Device) :
    .dma ((ring s k).base + (ring s k).head * entrySize (ring s k).kind) bytes ∈ (ringWrite k bytes s).out :=
  mem_out_ringMsi (List.mem_append_right _ (List.mem_singleton_self _)) k

/-! ### Capture slots -/

theorem cap_modCap (i j : Nat) (f : CapSlot → CapSlot) (s : Device) :
    cap (modCap i f s) j = if j = i then f (cap s i) else cap s j := by
  simp only [cap, modCap, modMem_mem, Tab.get_modify]

theorem modCap_boot (i : Nat) (f : CapSlot → CapSlot) (s : Device) : (modCap i f s).boot = s.boot := rfl

theorem modCap_out (i : Nat) (f : CapSlot → CapSlot) (s : Device) : (modCap i f s).out = s.out := rfl

theorem drawNat_boot (s : Device) : (drawNat s).2.boot = s.boot := rfl

theorem cap_modBoot (j : Nat) (f : BootSt → BootSt) (s : Device) : cap (modBoot f s) j = cap s j := rfl

theorem cap_of_mem {s t : Device} (h : t.mem = s.mem) (j : Nat) : cap t j = cap s j := by simp [cap, h]

theorem cap_trigSlot_other {i j : Nat} (h : j ≠ i) (k : Nat) (t point : Time) (s : Device) :
    cap (trigSlot k i t point s) j = cap s j := by
  unfold trigSlot
  dsimp only
  (repeat' split) <;> simp [cap_modCap, h]

/-- A slot whose mask excludes a trigger is left as it is. -/
theorem trigSlot_excluded {k i : Nat} {s : Device} (h : (cap s i).trigMask.getLsbD k = false) (t point : Time) :
    trigSlot k i t point s = s := by
  unfold trigSlot
  exact if_pos (by simp [h])

theorem trigSlot_armed {k i : Nat} {s : Device} (admits : (cap s i).trigMask.getLsbD k = true)
    (armed : (cap s i).state = .armed) (free : (cap s i).trig = none) (local_ : k ≠ 4) (t point : Time) :
    trigSlot k i t point s = modCap i (fun c => { c with trig := some (k, t, point) }) s := by
  unfold trigSlot
  simp [admits, armed, free, local_]

/-- One slot under a pass over all slots: its own step counts. -/
theorem cap_each {n : Nat} {v : CapSlot} {g : Nat → Device → Device}
    (other : ∀ i s, i ≠ n → cap (g i s) n = cap s n) {c : CapSlot} (own : ∀ s, cap s n = c → cap (g n s) n = v) :
    ∀ (l : List Nat) (s : Device), l.Nodup → cap s n = c → cap (each l g s) n = if n ∈ l then v else c
  | [], s, _, h => by simpa [each] using h
  | i :: l, s, nodup, h => by
    obtain ⟨fresh, nodup⟩ := List.nodup_cons.mp nodup
    show cap (each l g (g i s)) n = _
    by_cases hi : i = n
    · subst hi
      have rest : ∀ (l : List Nat) (t : Device), i ∉ l → cap (each l g t) i = cap t i := by
        intro l
        induction l with
        | nil => exact fun _ _ => rfl
        | cons j l ih =>
          intro t hj
          obtain ⟨hj, hl⟩ := List.ne_and_not_mem_of_not_mem_cons hj
          exact (ih (g j t) hl).trans (other j t hj.symm)
      rw [rest l _ fresh, own s h]
      simp
    · rw [cap_each other own l (g i s) nodup ((other i s hi).trans h)]
      simp [Ne.symm hi]

/-- One of the four slots under a pass over all of them. -/
theorem cap_eachSlot {n : Fin 4} {g : Nat → Device → Device} {c v : CapSlot} {s : Device}
    (other : ∀ i s, i ≠ n.val → cap (g i s) n.val = cap s n.val)
    (own : ∀ s, cap s n.val = c → cap (g n.val s) n.val = v) (h : cap s n.val = c) :
    cap (each [0, 1, 2, 3] g s) n.val = v := by
  rw [cap_each other own _ s (by decide) h, if_pos]
  exact List.mem_range.mpr n.isLt

/-- The stack-wide trigger leaves a slot whose mask excludes it. -/
theorem cap_sendTrig {n : Fin 4} {s : Device} (alone : (cap s n.val).trigMask.getLsbD 4 = false) (t : Time) :
    cap (sendTrig t s) n.val = cap s n.val := by
  unfold sendTrig
  dsimp only
  refine cap_eachSlot (c := cap s n.val) (fun i s hi => cap_trigSlot_other hi.symm _ _ _ s) (fun u hu => ?_) ?_
  · rw [trigSlot_excluded (hu ▸ alone), hu]
  · have ports (l : List Nat) (f : Nat → SbPort → SbPort) (s : Device) :
        (each l (fun p s => modPort p (f p) s) s).mem = s.mem :=
      (kept_each (ρ := .part .mem) (s₀ := s) l _ s fun p s => by simp).mpr (.refl _ s)
    exact cap_of_mem (ports _ _ _) _

/-! ### The life of a capture -/

section
variable {s : Device} {n : Fin 4}

/-- A trigger of this device leaves the slot that it takes with the instant; the stack-wide one leaves it alone. -/
theorem cap_localTrig {k : Nat} {f : Nat → CapSlot → Bool} {t : Time} (armed : (cap s n.val).state = .armed)
    (free : (cap s n.val).trig = none) (admits : (cap s n.val).trigMask.getLsbD k = true)
    (alone : (cap s n.val).trigMask.getLsbD 4 = false) (takes : f n.val (cap s n.val) = true) (local_ : k ≠ 4) :
    cap (localTrig k t f s) n.val = { cap s n.val with trig := some (k, t, t) } := by
  have marked (sends : Bool) : cap (each [0, 1, 2, 3] (fun i s =>
      if f i (cap s i) then trigSlot k i t (if sends && (cap s i).trigMask.getLsbD 4 then t + 8 * US else t) s else s) s)
      n.val = { cap s n.val with trig := some (k, t, t) } := by
    refine cap_eachSlot (c := cap s n.val) (fun i s hi => ?_) (fun u hu => ?_) rfl
    · split
      · exact cap_trigSlot_other hi.symm _ _ _ _
      · rfl
    · rw [hu, if_pos takes, alone, Bool.and_false, if_neg Bool.false_ne_true,
        trigSlot_armed (hu ▸ admits) (hu ▸ armed) (hu ▸ free) local_, cap_modCap, if_pos rfl, hu]
  unfold localTrig
  dsimp only
  split
  · rw [cap_sendTrig (by rw [marked]; exact alone), marked]
  · exact marked _

theorem capWritten_of_timing {t : Device} (h : t.timing = s.timing) (c : CapSlot) : capWritten t c = capWritten s c := by
  unfold capWritten
  rw [h]

theorem blotterTriggerPoint_eq {k : Nat} {t point : Time} (armed : (cap s n.val).state = .armed)
    (trig : (cap s n.val).trig = some (k, t, point)) (due : point ≤ s.timing.now) :
    blotterTriggerPoint n s = modCap n.val (fun c =>
      { c with state := .triggered, trig := some (k, t, s.timing.now), trigKind := k, trigAt := t,
               trigOffset := capWritten s (cap s n.val),
               flags := c.flags ||| (if capWritten s (cap s n.val) < (cap s n.val).preBytes then 1#5 else 0#5) |||
                 (if s.clock.aligned then 0#5 else 16#5) }) s := by
  unfold blotterTriggerPoint
  simp only [trig]
  exact if_pos (by simp [armed, due])

/-- The first flag of a triggered capture: fewer bytes than asked stood before the trigger (R619). -/
theorem short_flag (flags : BitVec 5) (short : Prop) [Decidable short] (aligned : Bool) :
    (flags ||| (if short then 1#5 else 0#5) ||| (if aligned then 0#5 else 16#5)).getLsbD 0 =
      (flags.getLsbD 0 || decide short) := by
  by_cases short <;> cases aligned <;> simp [*]

theorem captureComplete_eq {x : CaptureIn} (st : (cap s n.val).state = .triggered)
    (len : x.data.length = (cap s n.val).trigOffset + (cap s n.val).postBytes) :
    captureComplete n x s = modCap n.val (fun c =>
      { c with state := .done, length := x.data.length, data := x.data, t0 := x.t0, trig := none }) s := by
  unfold captureComplete
  simp only [st]
  exact if_pos len

/-- A capture that is spilled joins the archive. -/
def spilled (n : Nat) (s : Device) : Device :=
  let c := cap s n
  let id := drawNat s
  let s := modCap n (fun c => { c with state := .done }) id.2
  let e : NandEntry := { id := id.1 % 2 ^ 64, data := capBytes n c, total := (capBytes n c).length }
  modBoot (fun b => { b with nand := { b.nand with
    entries := Tab.modify (fun _ => []) b.nand.entries 3 fun l => l ++ [e]
    written := wrap 64 (b.nand.written + e.total) } }) s

theorem spillComplete_eq (st : (cap s n.val).state = .spilling) (mounted : s.boot.nand.present = true) :
    spillComplete n s = spilled n.val s := by
  have there : ¬(!(modCap n.val (fun c => { c with state := .done }) (drawNat s).2).boot.nand.present) = true := by
    rw [modCap_boot, drawNat_boot]
    simp [mounted]
  exact (if_neg (not_not_intro st)).trans (if_neg there)

theorem cap_drawNat (s : Device) (j : Nat) : cap (drawNat s).2 j = cap s j := rfl

theorem cap_spilled (n : Nat) (s : Device) : cap (spilled n s) n = { cap s n with state := .done } := by
  unfold spilled
  dsimp only
  rw [cap_modBoot, cap_modCap, if_pos rfl, cap_drawNat]

theorem entries_spilled (n : Nat) (s : Device) : Tab.get (fun _ => []) (spilled n s).boot.nand.entries 3 =
    Tab.get (fun _ => []) s.boot.nand.entries 3 ++
      [{ id := (drawNat s).1 % 2 ^ 64, data := capBytes n (cap s n), total := (capBytes n (cap s n)).length }] := by
  unfold spilled
  dsimp only
  simp only [modBoot_boot, modCap_boot, drawNat_boot, Tab.get_modify, if_pos]

/-- One entry of a readout is written to its ring. -/
def entryRead (n k a e : Nat) (s : Device) : Device :=
  let r := drawBytes (4096 - min 4096 (e - a)) s
  modCap n (fun c => { c with readout := if a + 4096 < e then some (k, a + 4096, e) else none })
    (ringWrite k (slice (capBytes n (cap s n)) a (min 4096 (e - a)) ++ r.1) r.2)

theorem captureReadoutEntry_eq {k a e : Nat} (readout : (cap s n.val).readout = some (k, a, e))
    (enabled : (ring s k).enable = true) (kind : (ring s k).kind = 2) (room : ringFull (ring s k) = false) :
    captureReadoutEntry n s = entryRead n.val k a e s := by
  unfold captureReadoutEntry
  simp only [readout]
  exact if_neg (by simp [enabled, kind, room])

end

/-- Settles O12: each step of a capture, by the slot that it leaves. -/
theorem capturesTrigger : Obligations.CapturesTrigger := by
  unfold Obligations.CapturesTrigger
  refine ⟨fun s falling t n armed free admits alone edge => ?_, fun s n k t point armed trig due => ?_,
    fun s n x st len => ?_, fun s n st mounted => ?_, fun s n k a e readout enabled kind room => ?_⟩
  · refine yields_of rfl rfl ?_
    simp only [cap_drivePins, only_drivePins_iff]
    refine ⟨?_, only_of_kept fun ρ hρ => by simp at hρ; simp [hρ]⟩
    have taken := cap_localTrig (s := putOut [] s.dev) (n := n) (k := 3) (t := t)
      (f := fun _ c => c.trigEdge = bit falling) (by simpa using armed) (by simpa using free) (by simpa using admits)
      (by simpa using alone) (by simpa using edge) (by decide)
    simpa [trigInEdge] using taken
  · refine yields_of rfl (blotterTriggerPoint_eq (s := putOut [] s.dev) (by simpa using armed) (by simpa using trig)
      (by simpa using due)) ?_
    have written (c : CapSlot) : capWritten (putOut [] s.dev) c = capWritten s.dev c := capWritten_of_timing rfl c
    simp only [cap_drivePins, only_drivePins_iff, cap_modCap, if_pos]
    refine ⟨trivial, trivial, trivial, by rw [written]; simp, ?_, fun j hj => by simp [hj],
      only_of_kept fun ρ hρ => by simp at hρ; simp [hρ]⟩
    rw [short_flag, written]
    simp
  · refine yields_of rfl (captureComplete_eq (s := putOut [] s.dev) (by simpa using st) (by simpa using len)) ?_
    simp only [cap_drivePins, only_drivePins_iff, cap_modCap, if_pos]
    exact ⟨by simp, fun j hj => by simp [hj], only_of_kept fun ρ hρ => by simp at hρ; simp [hρ]⟩
  · refine yields_of rfl (spillComplete_eq (s := putOut [] s.dev) (by simpa using st) (by simpa using mounted)) ?_
    simp only [cap_drivePins, only_drivePins_iff, drivePins_boot]
    refine ⟨by simp [cap_spilled], ⟨(drawNat (putOut [] s.dev)).1 % 2 ^ 64, by simp [entries_spilled]⟩,
      only_of_kept fun ρ hρ => by simp at hρ; simp [spilled, hρ]⟩
  · refine yields_of rfl (captureReadoutEntry_eq (s := putOut [] s.dev) (by simpa using readout)
      (by simpa using enabled) (by simpa using kind) (by simpa using room)) ?_
    simp only [cap_drivePins, ring_drivePins, only_drivePins_iff, drivePins_out]
    refine ⟨?_, ?_, ⟨(drawBytes (4096 - min 4096 (e - a)) (putOut [] s.dev)).1, ?_⟩,
      only_of_kept fun ρ hρ => by simp at hρ; simp [entryRead, hρ]⟩
    · simp [entryRead, cap_modCap]
    · exact ringWrite_head _ _ _
    · have written := mem_out_ringWrite k (slice (capBytes n.val (cap s.dev n.val)) a (min 4096 (e - a)) ++
        (drawBytes (4096 - min 4096 (e - a)) (putOut [] s.dev)).1) (drawBytes (4096 - min 4096 (e - a)) (putOut [] s.dev)).2
      have same : ring (drawBytes (4096 - min 4096 (e - a)) (putOut [] s.dev)).2 k = ring s.dev k := rfl
      rw [same, kind] at written
      simp only [entryRead, cap_putOut, modCap_out]
      exact written

end Sys2Proof.Machine

/-!
The overhead ports and ZR frame alignment (07_line_framing_and_defects R331 to R338; 05_receive_path R895).
-/
namespace Sys2Proof.Machine
open Sys2Proof

/-! ### The ports -/

theorem popExt_keeps (pad : OhFrame) (o : OhpSt) : (popExt pad o).2.cycle = o.cycle ∧ (popExt pad o).2.ext = o.ext := by
  unfold popExt
  split
  · exact ⟨rfl, rfl⟩
  · split <;> exact ⟨rfl, rfl⟩

theorem popSlots_keeps (pad : OhFrame) (n : Nat) (o : OhpSt) :
    (popSlots pad n o).2.cycle = o.cycle ∧ (popSlots pad n o).2.ext = o.ext ∧ (popSlots pad n o).1.length = n := by
  induction n generalizing o with
  | zero => exact ⟨rfl, rfl, rfl⟩
  | succ n ih =>
    obtain ⟨cycle, ext⟩ := popExt_keeps pad o
    obtain ⟨cycles, exts, len⟩ := ih (popExt pad o).2
    exact ⟨cycles.trans cycle, exts.trans ext, congrArg (· + 1) len⟩

/-- `t` has the line state of carrier `c` and every output of `s`. -/
def SamePort (c : Carrier) (s t : Device) : Prop := t.line.get c = s.line.get c ∧ ∀ o ∈ s.out, o ∈ t.out

theorem SamePort.refl (c : Carrier) (s : Device) : SamePort c s s := ⟨rfl, fun _ ho => ho⟩

section
variable {c : Carrier} {s t : Device} (h : SamePort c.other s t)
include h

theorem SamePort.modLine (f : LineSt → LineSt) : SamePort c.other s (Machine.modLine c f t) :=
  ⟨by simpa using h.1, h.2⟩

theorem SamePort.emit (o : Output) : SamePort c.other s (Machine.emit o t) :=
  ⟨h.1, fun x hx => List.mem_append_left _ (h.2 x hx)⟩

theorem SamePort.drawn : SamePort c.other s (padFrame t).2 := h

theorem SamePort.inserts (pad : OhFrame) (n : Nat) : SamePort c.other s (insertFrames c pad n t) := by
  induction n generalizing t with
  | zero => exact h
  | succ n ih => exact ih ((h.modLine _).emit _)

end

/-- One port leaves the other alone. -/
theorem samePort_ohpPort (c : Carrier) (i : OhpIn) (s : Device) : SamePort c.other s (ohpPort c i s) := by
  have same := SamePort.refl c.other s
  unfold ohpPort
  dsimp only
  split
  · exact same.modLine _
  · refine SamePort.modLine ?_ _
    split
    · split
      · exact (same.modLine _).drawn
      · exact ((same.modLine _).drawn.modLine _).emit _
    · refine SamePort.inserts (SamePort.modLine ?_ _) _ _
      split
      · exact (same.modLine _).drawn
      · exact ((same.modLine _).drawn.modLine _).emit _

section
variable {s : Device} {c : Carrier}

/-- The state of a port that stays in extraction alone. -/
def extracts (o : OhpSt) : OhpSt := { o with ext := true, ins := false, insBuf := [], insPad := 0 }

theorem ohpPort_extracts (i : OhpIn) (set : accepted s (skey 0x0404 (carCode c) 0 0) = 1)
    (ext : (s.line.get c).ohp.ext = true) :
    let p := padFrame (modLine c (fun l => { l with ohp := extracts (s.line.get c).ohp }) s)
    let q := popSlots p.1 (ohpSlots (s.line.get c).ohp.cycle) (extracts (s.line.get c).ohp)
    ohpPort c i s = modLine c (fun l => { l with ohp := { l.ohp with cycle := (l.ohp.cycle + 1) % 113 } })
      (emit (.ohp c q.1) (modLine c (fun l => { l with ohp := q.2 }) p.2)) := by
  have e0 : tb (1 : Int).toNat 0 = true := rfl
  have e1 : tb (1 : Int).toNat 1 = false := rfl
  have line (f : LineSt → LineSt) : (padFrame (modLine c f s)).2.line.get c = f (s.line.get c) := by
    simp [padFrame, drawBytes]
  unfold ohpPort
  simp only [set, e0, e1, ext, Bool.not_true, Bool.not_false, Bool.and_true, Bool.false_and,
    Bool.false_eq_true, if_true, if_false, line]
  rfl

theorem ohpPort_spec (i : OhpIn) (set : accepted s (skey 0x0404 (carCode c) 0 0) = 1)
    (ext : (s.line.get c).ohp.ext = true) :
    ((ohpPort c i s).line.get c).ohp.cycle = ((s.line.get c).ohp.cycle + 1) % 113 ∧
      ((ohpPort c i s).line.get c).ohp.ext = true ∧
      ∃ l : List OhFrame, .ohp c l ∈ (ohpPort c i s).out ∧ l.length = ohpSlots (s.line.get c).ohp.cycle := by
  rw [ohpPort_extracts i set ext]
  generalize padFrame (modLine c (fun l => { l with ohp := extracts (s.line.get c).ohp }) s) = p
  obtain ⟨cycle, stays, len⟩ := popSlots_keeps p.1 (ohpSlots (s.line.get c).ohp.cycle) (extracts (s.line.get c).ohp)
  generalize popSlots p.1 (ohpSlots (s.line.get c).ohp.cycle) (extracts (s.line.get c).ohp) = q at cycle stays len
  refine ⟨?_, ?_, q.1, List.mem_append_right _ (List.mem_singleton_self _), len⟩
  · simp [emit, cycle, extracts]
  · simp [emit, stays, extracts]

end

theorem accepted_ohpPort (c : Carrier) (i : OhpIn) (s : Device) (key : Nat) :
    accepted (ohpPort c i s) key = accepted s key := by
  have settings : (ohpPort c i s).settings = s.settings :=
    (kept_ohpPort (ρ := .part .settings) (s₀ := s) c i s (by decide)).mpr (.refl _ s)
  have accord : (ohpPort c i s).accord = s.accord :=
    (kept_ohpPort (ρ := .part .accord) (s₀ := s) c i s (by decide)).mpr (.refl _ s)
  simp [accepted, plan, settings, accord]

theorem ohpFrame_spec {s : Device} {c : Carrier} (a b : OhpIn) (fs : s.ohpFs = true)
    (set : accepted s (skey 0x0404 (carCode c) 0 0) = 1) (ext : (s.line.get c).ohp.ext = true) :
    ((ohpFrame a b s).line.get c).ohp.cycle = ((s.line.get c).ohp.cycle + 1) % 113 ∧
      ((ohpFrame a b s).line.get c).ohp.ext = true ∧
      ∃ l : List OhFrame, .ohp c l ∈ (ohpFrame a b s).out ∧ l.length = ohpSlots (s.line.get c).ohp.cycle := by
  have eq : ohpFrame a b s = ohpPort .b b (ohpPort .a a s) := if_pos fs
  rw [eq]
  cases c with
  | a =>
    obtain ⟨cycle, stays, l, sent, len⟩ := ohpPort_spec a set ext
    obtain ⟨line, out⟩ := samePort_ohpPort .b b (ohpPort .a a s)
    have line : (ohpPort .b b (ohpPort .a a s)).line.get .a = (ohpPort .a a s).line.get .a := line
    rw [line]
    exact ⟨cycle, stays, l, out _ sent, len⟩
  | b =>
    obtain ⟨line, -⟩ := samePort_ohpPort .a a s
    have line : (ohpPort .a a s).line.get .b = s.line.get .b := line
    have spec := ohpPort_spec (s := ohpPort .a a s) (c := .b) b (by rw [accepted_ohpPort]; exact set)
      (by rw [line]; exact ext)
    rwa [line] at spec

/-! ### ZR frame alignment -/

section
variable {s : Device} {c : Carrier} {m : Nat}

/-- The receiver as alignment is found or lost. -/
def zrLock (c : Carrier) (locked : Bool) (s : Device) : Device := modRx c (fun r => { r with zrLocked := locked }) s

theorem zrFrameAlignment_rx (mode : zr s c = true) (locked : Bool) :
    (zrFrameAlignment c locked m s).rx = (zrAlignRx c locked m (zrLock c locked s)).rx := by
  have eq : zrFrameAlignment c locked m s = evalLine c (zrAlignRx c locked m (zrLock c locked s)) :=
    if_neg (by simp [mode])
  rw [eq]
  exact (kept_evalLine (ρ := .part .rx) c _ (by decide)).mpr (.refl _ _)

theorem enterSuperframeLock_rx (s : Device) : (enterSuperframeLock c m s).rx = (setRx c .superframeLock 0
    (modRx c (fun r => { r with mapReported := if feAuto s c then m else r.mapReported }) s)).rx := by
  unfold enterSuperframeLock
  dsimp only
  split <;> rfl

theorem entered_zrLocked (st : RxState) (now : Time) (r : RxSt) : (entered st now r).zrLocked = r.zrLocked := by
  unfold entered
  cases st <;> rfl

theorem feAuto_zrLock (locked : Bool) : feAuto (zrLock c locked s) c = feAuto s c := by
  have same := inForce_congr (s := s) (t := zrLock c locked s) rfl rfl rfl
  simp only [feAuto, rxSet, csetN, cset, same]

theorem zrAligns_spec (mode : zr s c = true) (st : (s.rx.get c).state = .carrierLock) :
    let t := zrFrameAlignment c true m s
    (t.rx.get c).state = .superframeLock ∧ (t.rx.get c).zrLocked = true ∧
      (t.rx.get c).mapReported = (if feAuto s c then m else (s.rx.get c).mapReported) ∧
      t.rx.get c.other = s.rx.get c.other := by
  have eq : zrAlignRx c true m (zrLock c true s) = enterSuperframeLock c m (zrLock c true s) := by
    unfold zrAlignRx
    simp [zrLock, st]
  simp only [zrFrameAlignment_rx mode, eq, enterSuperframeLock_rx, feAuto_zrLock]
  simp [entered_zrLocked, zrLock]

theorem zrLoses_spec (mode : zr s c = true) (st : (s.rx.get c).state = .inService) :
    let t := zrFrameAlignment c false m s
    (t.rx.get c).state = .carrierLock ∧ (t.rx.get c).zrLocked = false ∧
      (t.rx.get c).acqRetries = sat 16 ((s.rx.get c).acqRetries + 1) ∧ t.rx.get c.other = s.rx.get c.other := by
  have eq : zrAlignRx c false m (zrLock c false s) = rxFall c .carrierLock 7 (zrLock c false s) := by
    unfold zrAlignRx
    simp [zrLock, st]
  have rx : (rxFall c .carrierLock 7 (zrLock c false s)).rx = (setRx c .carrierLock 7 (modRx c (fun r => { r with
      acqRetries := sat 16 (r.acqRetries + 1), falls := 0 :: r.falls }) (zrLock c false s))).rx := by
    unfold rxFall
    dsimp only
    split <;> simp
  simp only [zrFrameAlignment_rx mode, eq, rx]
  simp [entered_zrLocked, zrLock]

end

/-- Settles O13: the ports by their two sides, alignment by the receiver. -/
theorem overheadPorts : Obligations.OverheadPorts := by
  unfold Obligations.OverheadPorts
  refine ⟨fun s fs => ?_, fun s fs => ?_, fun s a b c fs set ext => ?_, fun s c m mode st => ?_,
    fun s c m mode st => ?_⟩
  · have eq : ohpFsLoss (putOut [] s.dev) =
        faultOn 0x0361 0 [] (ohpStop .b (ohpStop .a (putOhpFs false (putOut [] s.dev)))) := if_neg (by simp [fs])
    refine yields_of rfl eq ?_
    simp only [only_drivePins_iff]
    refine ⟨by simp [ohpStop], by simpa using source_faultOn _ _ _ _ (by decide), fun c => ?_, ?_⟩
    · simp only [drivePins_line, faultOn_line]
      cases c <;> rfl
    · exact only_of_kept fun ρ hρ => by simp [Part.ofFault] at hρ; simp [hρ]
  · have eq : ohpFsReturn (putOut [] s.dev) = faultOff 0x0361 0 (putOhpFs true (putOut [] s.dev)) :=
      if_neg (by simp [fs])
    refine yields_of rfl eq ?_
    simp only [only_drivePins_iff]
    exact ⟨by simp, by simpa using source_faultOff _ _ _, only_of_kept fun ρ hρ => by simp at hρ; simp [hρ]⟩
  · refine yields_of rfl rfl ?_
    simp only [only_drivePins_iff, drivePins_line, drivePins_out]
    obtain ⟨cycle, stays, sent⟩ := ohpFrame_spec (s := putOut [] s.dev) a b (by simpa using fs) (by simpa using set)
      (by simpa using ext)
    exact ⟨cycle, stays, sent, only_of_kept fun ρ hρ => by simp at hρ; simp [hρ]⟩
  · refine yields_of rfl rfl ?_
    simpa using zrAligns_spec (s := putOut [] s.dev) (m := m) (by simpa using mode) (by simpa using st)
  · refine yields_of rfl rfl ?_
    simpa using zrLoses_spec (s := putOut [] s.dev) (m := m) (by simpa using mode) (by simpa using st)

end Sys2Proof.Machine

/-!
The supervisory channel (10_supervisory_timing_channel R433 to R457): bursts sent and received.
-/
namespace Sys2Proof.Machine
open Sys2Proof

@[simp] theorem inForce_modOstc (c : Carrier) (f : OstcSt → OstcSt) (s : Device) (key : Nat) :
    inForce (modOstc c f s) key = inForce s key := inForce_congr rfl rfl rfl key

@[simp] theorem cset_modOstc (c d : Carrier) (f : OstcSt → OstcSt) (s : Device) (op off : Nat) :
    cset (modOstc c f s) d op off = cset s d op off := by simp [cset]

@[simp] theorem ostcRuns_putOut (c : Carrier) (o : List Output) (s : Device) :
    ostcRuns (putOut o s) c = ostcRuns s c := by simp [ostcRuns, dspNe]

theorem nextCounter_putOut (ctx : Nat) (o : List Output) (s : Device) :
    (nextCounter ctx (putOut o s)).1 = (nextCounter ctx s).1 := by simp [nextCounter]

@[simp] theorem pick_putOut (c : Carrier) (nso : Bool) (q : List Msg) (o : List Output) (s : Device) :
    pick (putOut o s) c nso q = pick s c nso q := by simp [pick, mayTag, ctxKeyed]

/-! ### Bursts sent -/

section
variable {s : Device} {c : Carrier} {m : Msg} {b : Burst}

theorem stampMsg_ostc : (stampMsg c false m s).2.ostc = s.ostc :=
  (kept_stampMsg (ρ := .part .ostc) (s₀ := s) c false m s (by decide)).mpr (.refl _ s)

theorem stampMsg_putOut (o : List Output) : (stampMsg c false m (putOut o s)).1 = (stampMsg c false m s).1 := by
  unfold stampMsg
  simp only [cset_putOut, carrierId_putOut, nextCounter_putOut]
  split <;> rfl

/-- The burst of a message as it starts. -/
def newBurst (c : Carrier) (m : Msg) (s : Device) : Burst :=
  let p := stampMsg c false m s
  { msg := p.1, total := burstSymbols p.1, tone := csetN s c 0x0700 4, depth := csetN s c 0x0700 2 }

/-- A burst starts with a message that is stamped for it. -/
def burstStarts (c : Carrier) (m : Msg) (s : Device) : Device :=
  let p := stampMsg c false m s
  modOstc c (fun q => { q with burst := some (newBurst c m s), txq := p.1 :: q.txq.erase m, kept := false }) p.2

theorem ostcBurstStart_eq (kept : (s.ostc.get c).kept = false) (next : pick s c false (s.ostc.get c).txq = some m)
    (idle : (s.ostc.get c).burst = none) (gap : (s.ostc.get c).gap = 0) (enabled : cset s c 0x0700 0 = 1)
    (on : (s.tx.get c).state = .on) (pll : s.clock.pll ≠ .coasting) : ostcBurstStart c s = burstStarts c m s := by
  unfold ostcBurstStart
  simp only [kept, next, Bool.false_eq_true, if_false]
  exact if_neg (by simp [idle, gap, enabled, on, pll])

theorem ostcBurstEnd_eq (burst : (s.ostc.get c).burst = some b) (whole : b.total ≤ b.sent) :
    ostcBurstEnd c s = modOstc c (fun q =>
      if b.truncated then { q with burst := none, gap := 32, kept := true }
      else { q with burst := none, gap := 32, txq := q.txq.erase b.msg, txBursts := wrap 32 (q.txBursts + 1) }) s := by
  unfold ostcBurstEnd
  simp only [burst]
  exact if_neg (Nat.not_lt.mpr whole)

theorem ostcBurstTruncated_eq (burst : (s.ostc.get c).burst = some b) (plain : b.truncated = false)
    (left : b.sent + 8 < b.total) (off : (s.tx.get c).state ≠ .on) :
    ostcBurstTruncated c s = modOstc c (fun q => { q with
      burst := some { b with truncated := true, total := b.sent + 8 }, txTrunc := wrap 32 (q.txTrunc + 1) }) s := by
  unfold ostcBurstTruncated
  simp only [burst]
  exact if_neg (by simp [plain, left, off])

end

/-- Settles O14: each step of a burst, by the queue and the burst that it leaves. -/
theorem ostcBursts : Obligations.OstcBursts := by
  unfold Obligations.OstcBursts
  refine ⟨fun s c m kept next idle gap enabled on pll => ?_, fun s c b burst whole plain => ?_,
    fun s c b burst whole cut => ?_, fun s c b burst plain left off => ?_⟩
  · refine yields_of rfl (ostcBurstStart_eq (s := putOut [] s.dev) kept (by simpa using next) idle gap (by simpa using enabled) on pll) ?_
    simp only [only_drivePins_iff, drivePins_ostc]
    refine ⟨newBurst c m (putOut [] s.dev), by simp [burstStarts], stampMsg_putOut [], rfl, rfl, rfl, ?_, ?_, ?_⟩
    · simp [burstStarts, stampMsg_ostc, newBurst]
    · simp [burstStarts, stampMsg_ostc]
    · exact only_of_kept fun ρ hρ => by simp at hρ; simp [burstStarts, hρ]
  · refine yields_of rfl (ostcBurstEnd_eq (s := putOut [] s.dev) burst whole) ?_
    simp only [only_drivePins_iff]
    exact ⟨by simp [plain], only_of_kept fun ρ hρ => by simp at hρ; simp [hρ]⟩
  · refine yields_of rfl (ostcBurstEnd_eq (s := putOut [] s.dev) burst whole) ?_
    simp only [only_drivePins_iff]
    exact ⟨by simp [cut], only_of_kept fun ρ hρ => by simp at hρ; simp [hρ]⟩
  · refine yields_of rfl (ostcBurstTruncated_eq (s := putOut [] s.dev) burst plain left off) ?_
    simp only [only_drivePins_iff]
    exact ⟨by simp, only_of_kept fun ρ hρ => by simp at hρ; simp [hρ]⟩

/-! ### Bursts received -/

section
variable {s : Device} {c : Carrier}

theorem ostcTrigger_eq (runs : ostcRuns s c = true) (st : (s.ostc.get c).rx = .search) :
    ostcTrigger c s = modOstc c (fun q => { q with rx := .triggered, triggers := wrap 32 (q.triggers + 1) }) s :=
  if_pos (by simp [runs, st])

theorem ostcQualify_eq (q : Int) (n : Nat) (runs : ostcRuns s c = true) (st : (s.ostc.get c).rx = .triggered) :
    ostcQualify c q n s = modOstc c (fun x => { x with rx := .qualified, levelQ := q, toneSnr := min n 6000 }) s :=
  if_pos (by simp [runs, st])

theorem ostcQualTimeout_triggered (st : (s.ostc.get c).rx = .triggered) : ostcQualTimeout c s =
    enterSearch c (modOstc c (fun q => { q with qualFail := wrap 32 (q.qualFail + 1) }) s) := by
  simp only [ostcQualTimeout, st]

theorem ostcQualTimeout_qualified (st : (s.ostc.get c).rx = .qualified) : ostcQualTimeout c s =
    enterSearch c (modOstc c (fun q => { q with syncMiss := wrap 32 (q.syncMiss + 1) }) s) := by
  simp only [ostcQualTimeout, st]

theorem ostcFalseStart_eq (runs : ostcRuns s c = true)
    (st : (s.ostc.get c).rx = .qualified ∨ (s.ostc.get c).rx = .receiving) : ostcFalseStart c s =
    modOstc c (fun q => { q with rx := .triggered, mark := none, falseStart := wrap 32 (q.falseStart + 1) }) s :=
  if_pos (by simp [runs, st])

theorem ostcSyncFound_eq (t : Time) (runs : ostcRuns s c = true) (st : (s.ostc.get c).rx = .qualified) :
    ostcSyncFound c t s = modOstc c (fun q => { q with rx := .receiving, mark := some t }) s :=
  if_pos (by simp [runs, st])

/-- A reception that ends delivers or discards its message in OSTC_SEARCH. -/
theorem ostcBurstReceived_eq (runs : ostcRuns s c = true) (st : (s.ostc.get c).rx = .receiving) (res : BurstResult) :
    ostcBurstReceived c res s = match res with
      | .ldpcFail => modOstc c (fun q => { q with ldpcFail := wrap 32 (q.ldpcFail + 1) }) (enterSearch c s)
      | .crcFail => modOstc c (fun q => { q with crcFail := wrap 32 (q.crcFail + 1) }) (enterSearch c s)
      | .ok m tagOk => deliverMsg c false m tagOk (s.ostc.get c).toneSnr ((s.ostc.get c).mark.getD 0) (enterSearch c s) :=
  if_neg (by simp [runs, st])

/-- An untagged management message for all members, without authentication, joins the receive queue. -/
theorem deliverMsg_untagged {m : Msg} (plain : m.tagged = false) (type : m.type = 0) (all : m.dest = 0xFF)
    (auth : cset s c 0x0700 8 = 0) (tagOk : Bool) (snr : Nat) (mark : Time) :
    deliverMsg c false m tagOk snr mark s = queueRx c { msg := m, path := 0, toneSnr := snr, mark }
      (modOstc c (fun q => { q with rxOk := wrap 32 (q.rxOk + 1) }) s) := by
  obtain ⟨t, tagged, counter, sender, dest, id, payload⟩ := m
  subst plain type all
  simp [deliverMsg, auth, bit]

end

/-- Settles O15: each step of a reception, by the receive state and the counter that it leaves. -/
theorem ostcReception : Obligations.OstcReception := by
  unfold Obligations.OstcReception
  refine ⟨fun s c runs st => ?_, fun s c q n runs st => ?_, fun s c st => ?_, fun s c st => ?_, fun s c runs st => ?_,
    fun s c t runs st => ?_, fun s c runs st => ?_, fun s c runs st => ?_,
    fun s c m runs st plain type all auth room => ?_⟩
  · refine yields_of rfl (ostcTrigger_eq (s := putOut [] s.dev) (by simpa using runs) st) ?_
    simp only [only_drivePins_iff]
    exact ⟨by simp, only_of_kept fun ρ hρ => by simp at hρ; simp [hρ]⟩
  · refine yields_of rfl (ostcQualify_eq (s := putOut [] s.dev) q n (by simpa using runs) st) ?_
    simp only [only_drivePins_iff]
    exact ⟨by simp, only_of_kept fun ρ hρ => by simp at hρ; simp [hρ]⟩
  · refine yields_of rfl (ostcQualTimeout_triggered (s := putOut [] s.dev) st) ?_
    simp only [only_drivePins_iff]
    exact ⟨by simp [enterSearch], by simp [enterSearch], only_of_kept fun ρ hρ => by simp at hρ; simp [hρ]⟩
  · refine yields_of rfl (ostcQualTimeout_qualified (s := putOut [] s.dev) st) ?_
    simp only [only_drivePins_iff]
    exact ⟨by simp [enterSearch], by simp [enterSearch], only_of_kept fun ρ hρ => by simp at hρ; simp [hρ]⟩
  · refine yields_of rfl (ostcFalseStart_eq (s := putOut [] s.dev) (by simpa using runs) st) ?_
    simp only [only_drivePins_iff]
    exact ⟨by simp, only_of_kept fun ρ hρ => by simp at hρ; simp [hρ]⟩
  · refine yields_of rfl (ostcSyncFound_eq (s := putOut [] s.dev) t (by simpa using runs) st) ?_
    simp only [only_drivePins_iff]
    exact ⟨by simp, only_of_kept fun ρ hρ => by simp at hρ; simp [hρ]⟩
  · refine yields_of rfl (ostcBurstReceived_eq (s := putOut [] s.dev) (by simpa using runs) st _) ?_
    simp only [only_drivePins_iff]
    refine ⟨by simp [enterSearch], by simp [enterSearch], by simp [enterSearch], ?_⟩
    exact only_of_kept fun ρ hρ => by simp at hρ; simp [hρ]
  · refine yields_of rfl (ostcBurstReceived_eq (s := putOut [] s.dev) (by simpa using runs) st _) ?_
    simp only [only_drivePins_iff]
    refine ⟨by simp [enterSearch], by simp [enterSearch], by simp [enterSearch], ?_⟩
    exact only_of_kept fun ρ hρ => by simp at hρ; simp [hρ]
  · refine yields_of rfl ((ostcBurstReceived_eq (s := putOut [] s.dev) (by simpa using runs) st _).trans
      (deliverMsg_untagged plain type all (by simpa [enterSearch] using auth) _ _ _)) ?_
    simp only [only_drivePins_iff]
    refine ⟨by simp [enterSearch, queueRx, room], by simp [enterSearch, queueRx, room], 
      by simp [enterSearch, queueRx, room], ?_⟩
    exact only_of_kept fun ρ hρ => by simp at hρ; simp [hρ]

end Sys2Proof.Machine

/-!
Reference candidates and their quality levels (11_reference_selection_and_holdover R462 to R481).
-/
namespace Sys2Proof.Machine
open Sys2Proof

theorem cand_modCand (i j : Nat) (f : CandSt → CandSt) (s : Device) :
    cand (modCand i f s) j = if j = i then f (cand s i) else cand s j := by
  simp only [cand, modCand, modTiming_timing, Tab.get_modify]

theorem cand_of_timing {s t : Device} (h : t.timing.cands = s.timing.cands) (j : Nat) : cand t j = cand s j := by
  simp [cand, h]

@[simp] theorem cand_raise (type source sev : Nat) (payload : List Byte) (s : Device) (j : Nat) :
    cand (raise type source sev payload s) j = cand s j := cand_of_timing (by simp) j

/-- What a new state makes of a candidate. -/
def candEnters (st : CandState) (qualify restore : Nat) (q : CandSt) : CandSt :=
  { q with
    state := st, agree := 0
    left := match st with
      | .qualifying => 1000 * qualify + 1
      | .waitRestore => restore + 1
      | _ => 0
    failedCount := if st = .failed then wrap 16 (q.failedCount + 1) else q.failedCount }

section
variable {s : Device} {i : Nat} {st : CandState} {cause : Nat}

theorem setCand_eq (moves : (cand s i).state ≠ st) : setCand i st cause s =
    raise 0x0801 i 0 (le 1 (cand s i).state.code ++ le 1 st.code ++ le 1 cause)
      (modCand i (candEnters st (selSet s 2) (selSet s 4)) s) := by
  unfold setCand
  dsimp only
  rw [if_neg (by simp [moves]), if_neg moves]
  rfl

theorem setCand_failed_again (failed : (cand s i).state = .failed) : setCand i .failed cause s = s := by
  unfold setCand
  exact if_pos (by simp [failed])

theorem cand_setCand (moves : (cand s i).state ≠ st) (j : Nat) : cand (setCand i st cause s) j =
    if j = i then candEnters st (selSet s 2) (selSet s 4) (cand s i) else cand s j := by
  rw [setCand_eq moves, cand_raise, cand_modCand]

theorem setCand_spec (moves : (cand s i).state ≠ st) :
    cand (setCand i st cause s) i = candEnters st (selSet s 2) (selSet s 4) (cand s i) ∧
      (∀ j, j ≠ i → cand (setCand i st cause s) j = cand s j) ∧
      Raised 0x0801 i 0 (le 1 (cand s i).state.code ++ le 1 st.code ++ le 1 cause) s (setCand i st cause s) := by
  refine ⟨by rw [cand_setCand moves, if_pos rfl], fun j hj => by rw [cand_setCand moves, if_neg hj], ?_⟩
  rw [setCand_eq moves]
  rfl

theorem only_setCand (i : Nat) (st : CandState) (cause : Nat) (s : Device) : Only [.timing, .evq] s (setCand i st cause s) :=
  only_of_kept fun ρ hρ => by simp at hρ; simp [hρ]

/-! ### A candidate that is lost -/

/-- A candidate whose input is no longer valid. -/
def candInvalid (i : Nat) (s : Device) : Device := modCand i (fun q => { q with valid := false }) s

/-- A lost candidate fails unless it is disabled or looped. -/
def candFails (i : Nat) (s : Device) : Device :=
  if (cand s i).state = .disabled || (cand s i).state = .looped then candInvalid i s
  else setCand i .failed 1 (candInvalid i s)

theorem candidateLost_eq : candidateLost i s = if (candFails i s).timing.selected = some i then
    modTiming (fun t => { t with stopped := true }) (candFails i s) else candFails i s := by
  have state : (cand (candInvalid i s) i).state = (cand s i).state := by simp [candInvalid, cand_modCand]
  unfold candidateLost candFails
  rw [← state]
  rfl

theorem candFails_spec : cand (candFails i s) i =
      (if (cand s i).state = .disabled ∨ (cand s i).state = .looped ∨ (cand s i).state = .failed then
        { cand s i with valid := false }
      else candEnters .failed (selSet s 2) (selSet s 4) { cand s i with valid := false }) ∧
    (∀ j, j ≠ i → cand (candFails i s) j = cand s j) ∧ (candFails i s).timing.selected = s.timing.selected ∧
    (candFails i s).timing.dpll = s.timing.dpll ∧
    ((cand s i).state ≠ .disabled → (cand s i).state ≠ .looped → (cand s i).state ≠ .failed →
      Raised 0x0801 i 0 (le 1 (cand s i).state.code ++ le 1 CandState.failed.code ++ le 1 1) s (candFails i s)) := by
  have own : cand (candInvalid i s) i = { cand s i with valid := false } := by simp [candInvalid, cand_modCand]
  have others (j : Nat) (hj : j ≠ i) : cand (candInvalid i s) j = cand s j := by simp [candInvalid, cand_modCand, hj]
  have set (off : Nat) : selSet (candInvalid i s) off = selSet s off := by
    simp only [selSet, dsetN, dset]
    rw [inForce_congr (s := s) (t := candInvalid i s) rfl rfl rfl]
  by_cases excluded : (cand s i).state = .disabled ∨ (cand s i).state = .looped
  · have eq : candFails i s = candInvalid i s := if_pos (by simpa using excluded)
    rw [eq]
    refine ⟨?_, others, rfl, rfl, fun d l => absurd excluded (by simp [d, l])⟩
    rw [own, if_pos (by grind)]
  · have eq : candFails i s = setCand i .failed 1 (candInvalid i s) := if_neg (by simpa using excluded)
    rw [eq]
    by_cases failed : (cand s i).state = .failed
    · rw [setCand_failed_again (by rw [own]; exact failed)]
      refine ⟨?_, others, rfl, rfl, fun _ _ f => absurd failed f⟩
      rw [own, if_pos (by grind)]
    · have moves : (cand (candInvalid i s) i).state ≠ .failed := by rw [own]; exact failed
      obtain ⟨mine, rest, raised⟩ := setCand_spec (cause := 1) moves
      have timing : (setCand i .failed 1 (candInvalid i s)).timing = (modCand i (candEnters .failed
          (selSet (candInvalid i s) 2) (selSet (candInvalid i s) 4)) (candInvalid i s)).timing := by
        rw [setCand_eq moves]
        simp
      refine ⟨?_, fun j hj => (rest j hj).trans (others j hj), by rw [timing]; rfl, by rw [timing]; rfl, fun _ _ _ => ?_⟩
      · rw [mine, own, set, set, if_neg (by grind)]
      · rw [own] at raised
        exact raised

end

/-- What the loss of its input does to a candidate, in every state of it. -/
def CandLost (i : Nat) (s t : Device) : Prop :=
  (cand t i).valid = false ∧ (s.timing.selected = some i → t.timing.stopped = true) ∧
    ((cand s i).state ≠ .disabled → (cand s i).state ≠ .looped → (cand t i).state = .failed) ∧
    ((cand s i).state = .disabled ∨ (cand s i).state = .looped → (cand t i).state = (cand s i).state) ∧
    ((cand s i).state ≠ .disabled → (cand s i).state ≠ .looped → (cand s i).state ≠ .failed →
      Raised 0x0801 i 0 (le 1 (cand s i).state.code ++ le 1 CandState.failed.code ++ le 1 1) s t) ∧
    (∀ j, j ≠ i → cand t j = cand s j) ∧ t.timing.dpll = s.timing.dpll ∧ Only [.timing, .evq] s t

theorem candLost_candidateLost (i : Nat) (s : Device) : CandLost i s (candidateLost i s) := by
  obtain ⟨own, others, selected, dpll, raised⟩ := candFails_spec (s := s) (i := i)
  have state : (cand (candFails i s) i).valid = false ∧ (cand (candFails i s) i).state =
      if (cand s i).state = .disabled ∨ (cand s i).state = .looped then (cand s i).state else .failed := by
    rw [own]
    by_cases excluded : (cand s i).state = .disabled ∨ (cand s i).state = .looped
    · rw [if_pos (by grind), if_pos excluded]
      exact ⟨rfl, rfl⟩
    · by_cases failed : (cand s i).state = .failed
      · rw [if_pos (by grind), if_neg excluded]
        exact ⟨rfl, failed⟩
      · rw [if_neg (by grind), if_neg excluded]
        exact ⟨rfl, rfl⟩
  have only : Only [.timing, .evq] s (candidateLost i s) := only_of_kept fun ρ hρ => by simp at hρ; simp [hρ]
  obtain ⟨invalid, state⟩ := state
  rw [candidateLost_eq] at only ⊢
  generalize candFails i s = t at *
  refine ⟨?_, ?_, fun d l => ?_, fun e => ?_, fun d l f => ?_, fun j hj => ?_, ?_, only⟩
  · split <;> exact invalid
  · intro h
    rw [if_pos (selected.trans h)]
    rfl
  · rw [if_neg (by grind)] at state
    split <;> exact state
  · rw [if_pos e] at state
    split <;> exact state
  · split <;> exact raised d l f
  · split <;> exact others j hj
  · split <;> exact dpll

theorem CandLost.yields {i : Instr} {s : State} {f : Device → Device} {k : Nat} (hi : exec i s = .next (s.act f))
    (h : CandLost k (putOut [] s.dev) (f (putOut [] s.dev))) : Yields i s (CandLost k s.dev) := by
  refine yields_of hi rfl ?_
  simpa [CandLost, cand] using h

theorem Yields.mono {i : Instr} {s : State} {p q : Device → Prop} (h : Yields i s p) (k : ∀ t, p t → q t) :
    Yields i s q := by
  obtain ⟨t, hi, pending, ht⟩ := h
  exact ⟨t, hi, pending, k _ ht⟩

/-- A row that takes a candidate to another state. -/
theorem candEntered_yields {i : Instr} {s : State} {f : Device → Device} {n cause : Nat} {old st : CandState}
    (hi : exec i s = .next (s.act f)) (hf : f (putOut [] s.dev) = setCand n st cause (putOut [] s.dev))
    (state : (cand s.dev n).state = old) (moves : old ≠ st) : Yields i s fun t =>
      cand t n = candEnters st (selSet s.dev 2) (selSet s.dev 4) (cand s.dev n) ∧
        (∀ j, j ≠ n → cand t j = cand s.dev j) ∧
        Raised 0x0801 n 0 (le 1 old.code ++ le 1 st.code ++ le 1 cause) s.dev t ∧ Only [.timing, .evq] s.dev t := by
  obtain ⟨own, others, raised⟩ := setCand_spec (s := putOut [] s.dev) (i := n) (st := st) (cause := cause)
    (by rw [cand_putOut, state]; exact moves)
  simp only [cand_putOut, state, selSet_putOut] at own raised
  exact yields_of hi hf ⟨by simp [own], fun j hj => by simp [others j hj], by simpa using raised, by
    simpa using only_setCand n st cause (putOut [] s.dev)⟩

/-- Settles O16: each change of a candidate, by the candidate that it leaves. -/
theorem referencesMove : Obligations.ReferencesMove := by
  unfold Obligations.ReferencesMove
  refine ⟨fun s c t last late => ?_, fun s n => ?_, fun s n valid st left => ?_, fun s n valid st left => ?_,
    fun s n st agree => ?_, fun s n t level late => ?_⟩
  · have eq : ttxCandidateStale c (putOut [] s.dev) = candidateLost (11 + c.num) (putOut [] s.dev) := by
      unfold ttxCandidateStale
      simp only [putOut_ttx, last]
      exact if_neg (Nat.not_lt.mpr (by simpa using late))
    exact CandLost.yields rfl (eq ▸ candLost_candidateLost _ _)
  · exact CandLost.yields rfl (candLost_candidateLost _ _)
  · have eq : candidateQualified n (putOut [] s.dev) = setCand n.val .available 2 (putOut [] s.dev) :=
      if_pos (by simp [valid, st, left])
    exact (candEntered_yields rfl eq st (by decide)).mono fun t ⟨own, rest⟩ => ⟨by simp [own, candEnters], rest⟩
  · have eq : candidateQualified n (putOut [] s.dev) = setCand n.val .available 2 (putOut [] s.dev) :=
      if_pos (by simp [valid, st, left])
    exact (candEntered_yields rfl eq st (by decide)).mono fun t ⟨own, rest⟩ => ⟨by simp [own, candEnters], rest⟩
  · have eq : candidateReentry n (putOut [] s.dev) = setCand n.val .qualifying 3 (putOut [] s.dev) :=
      if_pos (by simp [st, agree])
    exact (candEntered_yields rfl eq st (by decide)).mono fun t ⟨own, rest⟩ =>
      ⟨by simp [own, candEnters], by simp [own, candEnters], rest⟩
  · have eq : receivedQlStale n (putOut [] s.dev) =
        modCand n.val (fun q => { q with qlRx := 14, qlAt := none }) (putOut [] s.dev) := by
      unfold receivedQlStale
      simp only [cand_putOut, level]
      exact if_neg (Nat.not_lt.mpr (by simpa using late))
    refine yields_of rfl eq ?_
    simp only [cand_drivePins, only_drivePins_iff, cand_modCand]
    exact ⟨by simp, fun j hj => by simp [hj], only_of_kept fun ρ hρ => by simp at hρ; simp [hρ]⟩

end Sys2Proof.Machine

/-!
The DPLL and the local oscillator (11_reference_selection_and_holdover R482 to R491).
-/
namespace Sys2Proof.Machine
open Sys2Proof

@[simp] theorem sel_faultOff (id inst : Nat) (s : Device) (k : Nat) : sel (faultOff id inst s) k = sel s k :=
  sel_of_sels (by simp) k

@[simp] theorem sel_modTiming (f : TimingSt → TimingSt) (s : Device) (k : Nat) : sel (modTiming f s) k = sel s k := rfl

@[simp] theorem aim_timing (k src : Nat) (s : Device) : (aim k src s).timing = s.timing := rfl

@[simp] theorem aim_evq (k src : Nat) (s : Device) : (aim k src s).evq = s.evq := rfl

@[simp] theorem dpllSet_putOut (off : Nat) (o : List Output) (s : Device) : dpllSet (putOut o s) off = dpllSet s off := by
  simp [dpllSet]

@[simp] theorem belowLock_putOut (o : List Output) (s : Device) : belowLock (putOut o s) = belowLock s := by
  simp [belowLock]

@[simp] theorem bwInUse_putOut (o : List Output) (s : Device) : bwInUse (putOut o s) = bwInUse s := by
  simp [bwInUse, bwLimit, candKind]
  rfl

section
variable {s : Device} {st : DpllState} {cause : Nat}

/-- The DPLL as it enters a state, before the faults of HOLDOVER and LOST. -/
def dpllEnters (st : DpllState) (cause : Nat) (s : Device) : Device :=
  let old := s.timing.dpll
  let wasHo := old = .holdover || old = .lost
  let isHo := st = .holdover || st = .lost
  raise 0x0803 0 0 (le 1 old.code ++ le 1 st.code ++ le 1 cause) (modTiming (fun t =>
    { t with dpll := st, since := t.now, lockRun := 0,
             hoTau := if isHo && wasHo then t.hoTau else 0,
             hoE0 := if isHo && !wasHo then t.phaseErr else t.hoE0,
             hoTemp := if isHo && !wasHo then tempNow s else t.hoTemp,
             hoDTmax := if isHo && !wasHo then 0 else t.hoDTmax,
             hoBoundNs := if isHo then t.hoBoundNs else 0,
             hoBoundFreq := if isHo then t.hoBoundFreq else 0 }) s)

theorem setDpll_eq (moves : s.timing.dpll ≠ st) : setDpll st cause s =
    if st = .holdover then fault 0x0801 0 [] (dpllEnters st cause s)
    else if st = .lost then fault 0x0802 0 [] (dpllEnters st cause s) else dpllEnters st cause s :=
  if_neg moves

theorem setDpll_spec (moves : s.timing.dpll ≠ st) :
    (setDpll st cause s).timing = (dpllEnters st cause s).timing ∧
      Raised 0x0803 0 0 (le 1 s.timing.dpll.code ++ le 1 st.code ++ le 1 cause) s (setDpll st cause s) := by
  rw [setDpll_eq moves]
  have raised : Raised 0x0803 0 0 (le 1 s.timing.dpll.code ++ le 1 st.code ++ le 1 cause) s (dpllEnters st cause s) := rfl
  split
  · exact ⟨by simp, by simpa [Raised] using raised⟩
  · split
    · exact ⟨by simp, by simpa [Raised] using raised⟩
    · exact ⟨rfl, raised⟩

theorem dpllLockTime_eq (st : s.timing.dpll = .acquiring) (below : belowLock s = true)
    (long : dpllSet s 8 < s.timing.lockRun) : dpllLockTime s = dpllEnters .locked 1 s := by
  have eq : dpllLockTime s = setDpll .locked 1 s := if_pos (by simp [st, below, long])
  rw [eq, setDpll_eq (by simp [st])]
  rfl

theorem fastLockDwell_eq (due : s.timing.dwell = some 0) (below : belowLock s = true)
    (wide : bwInUse s < s.timing.bwUsed - 1) : fastLockDwell s =
      modTiming (fun t => { t with bwUsed := s.timing.bwUsed - 1, dwell := dwellOf (s.timing.bwUsed - 1) }) s := by
  unfold fastLockDwell
  simp only [due, expired, below, if_true]
  exact if_neg (Nat.not_le.mpr wide)

/-- The oscillator is not ready. -/
def oscDown (s : Device) : Device := modTiming (fun t => { t with oscReady := false }) s

theorem oscFall_eq (ready : s.timing.oscReady = true) : oscFall s =
    aim 2 0 (faultOn 0x0804 0 [] (if s.timing.dpll = .holdover then setDpll .lost 3 (oscDown s) else oscDown s)) :=
  congrArg (aim 2 0) (if_neg (by simp [ready]))

end

theorem isSource_osc : isSource 0x0804 0 = true := by decide

theorem source_aim (k src : Nat) (s : Device) (id inst : Nat) : source (aim k src s) id inst = source s id inst := rfl

/-- Settles O17: each event of the DPLL and of the oscillator pin, by the timing that it leaves. -/
theorem dpllAndOscillator : Obligations.DpllAndOscillator := by
  unfold Obligations.DpllAndOscillator
  refine ⟨fun s st below long => ?_, fun s due below wide => ?_, fun s => ?_, fun s ready st => ?_,
    fun s ready st => ?_, fun s temp late => ?_⟩
  · refine yields_of rfl (dpllLockTime_eq (s := putOut [] s.dev) (by simpa using st) (by simpa using below)
      (by simpa using long)) ?_
    simp only [only_drivePins_iff, raised_drivePins, drivePins_timing]
    refine ⟨rfl, rfl, rfl, by simp only [Raised, ← st]; rfl, ?_⟩
    exact only_of_kept fun ρ hρ => by simp at hρ; simp [dpllEnters, hρ]
  · refine yields_of rfl (fastLockDwell_eq (s := putOut [] s.dev) (by simpa using due) (by simpa using below)
      (by simpa using wide)) ?_
    simp only [only_drivePins_iff, drivePins_timing]
    exact ⟨rfl, only_of_kept fun ρ hρ => by simp at hρ; simp [hρ]⟩
  · have eq : oscRise (putOut [] s.dev) =
        aim 2 1 (faultOff 0x0804 0 (modTiming (fun t => { t with oscReady := true }) (putOut [] s.dev))) := rfl
    refine yields_of rfl eq ?_
    simp only [only_drivePins_iff]
    refine ⟨by simp, by simpa [source_aim] using source_faultOff _ _ _, ?_, ?_⟩
    · simp [sel_aim]
    · exact only_of_kept fun ρ hρ => by simp at hρ; simp [hρ]
  · have eq := oscFall_eq (s := putOut [] s.dev) (by simpa using ready)
    rw [if_neg (by simpa using st)] at eq
    refine yields_of rfl eq ?_
    simp only [only_drivePins_iff]
    refine ⟨by simp [oscDown], by simpa [source_aim] using source_faultOn _ _ _ _ isSource_osc, ?_, ?_⟩
    · simp [sel_aim, oscDown]
    · exact only_of_kept fun ρ hρ => by simp [Part.ofFault] at hρ; simp [oscDown, hρ]
  · have eq := oscFall_eq (s := putOut [] s.dev) (by simpa using ready)
    rw [if_pos (by simpa using st)] at eq
    refine yields_of rfl eq ?_
    obtain ⟨timing, raised⟩ := setDpll_spec (s := oscDown (putOut [] s.dev)) (st := .lost) (cause := 3)
      (by simp [oscDown, st])
    generalize setDpll .lost 3 (oscDown (putOut [] s.dev)) = t at timing raised
    refine ⟨by simp [timing, dpllEnters, oscDown], by simp [timing, dpllEnters],
      by simpa [source_aim] using source_faultOn _ _ _ t isSource_osc, ?_⟩
    simpa [Raised, oscDown, st] using raised
  · have eq : oscTempStale (putOut [] s.dev) = _ := if_pos (by simp [temp, late])
    refine yields_of rfl eq ?_
    simp only [only_drivePins_iff, raised_drivePins, drivePins_timing]
    refine ⟨by simp, rfl, only_of_kept fun ρ hρ => by simp at hρ; simp [hρ]⟩

end Sys2Proof.Machine

/-!
Device time and Sillage (11_reference_selection_and_holdover R492 to R497; 12_time_transfer_and_delay_calibration R513).
-/
namespace Sys2Proof.Machine
open Sys2Proof

/-- A fault event after changes that leave its source and the time. -/
theorem Faulted.of_before {id inst : Nat} {s t u : Device} (h : Faulted id inst t u)
    (sources : t.fault.sources = s.fault.sources) (now : t.timing.now = s.timing.now) : Faulted id inst s u := by
  unfold Faulted at h
  rw [source_of_sources sources, now] at h
  exact h

section
variable {s : Device}

theorem timeSetApply_eq {sec n : Nat} (set : s.timing.timeSet = some (sec, n)) (due : 2 ≤ n)
    (none_held : s.timing.heldSnap = none) : timeSetApply s = modTiming (fun t => { t with
      now := sec * SEC + t.now % SEC, timeSet := none, secondsSet := true }) s := by
  unfold timeSetApply
  simp only [set]
  rw [if_neg (Nat.not_lt.mpr due)]
  unfold secondsKnown
  simp only [modTiming_timing, none_held]
  rfl

/-- A snapshot of the present records. -/
def snapOf (s : Device) : SillageSnap :=
  { recs := s.timing.sillage, model := s.timing.model, cal := persistedCal s,
    seconds := match s.timing.sillage with | r :: _ => r.tS | [] => 0 }

/-- A snapshot joins those of the archive. -/
def snapSaved (s : Device) : Device :=
  modClock (fun k => { k with snapAge := some 0 })
    (modBoot (fun b => { b with nand := { b.nand with snaps := (snapOf s :: b.nand.snaps).take 16 } }) s)

theorem saveSillage_ok (mounted : s.boot.nand.present = true) : saveSillage true s = snapSaved s :=
  if_neg (by simp [mounted])

theorem saveSillage_failed : saveSillage false s = fault 0x0805 0 [] s := if_pos rfl

/-- A snapshot that is due is no longer due. -/
def snapTaken (s : Device) : Device := modTiming (fun t => { t with snapDue := false }) s

theorem sillageSnapshot_eq (due : s.timing.snapDue = true) (ok : Bool) :
    sillageSnapshot ok s = saveSillage ok (snapTaken s) := if_pos due

/-- A restore that is due is no longer due, and no snapshot is held. -/
def restoring (s : Device) : Device :=
  modTiming (fun t => { t with heldSnap := none }) (modTiming (fun t => { t with restoreDue := false }) s)

theorem sillageRestore_eq {x : SillageSnap} {r : List SillageSnap} {a : Nat} (due : s.timing.restoreDue = true)
    (snaps : s.boot.nand.snaps = x :: r) (age : s.clock.snapAge = some a) :
    sillageRestore s = judgeSnap a x (modTiming (fun t => { t with restoreDue := false }) s) := by
  unfold sillageRestore
  simp only [due, Bool.not_true, Bool.false_eq_true, if_false, modTiming_boot, modTiming_clock, snaps, age]

theorem judgeSnap_old {a : Nat} (old : 86400 < a) (x : SillageSnap) :
    judgeSnap a x s = modTiming (fun t => { t with heldSnap := none }) s := by
  unfold judgeSnap
  exact if_pos (show (86400 : Int) < a by omega)

theorem judgeSnap_young {a : Nat} (young : a ≤ 86400) (x : SillageSnap) :
    judgeSnap a x s = each x.cal (fun p s => putSetting p.1 p.2 .now s) (modTiming (fun t => { t with
      heldSnap := none, sillage := (t.sillage ++ x.recs).take 86400, model := x.model }) s) := by
  unfold judgeSnap
  exact if_neg (show ¬ (86400 : Int) < a by omega)

theorem each_putSetting_timing (l : List (Nat × Int)) :
    (each l (fun p s => putSetting p.1 p.2 .now s) s).timing = s.timing :=
  (kept_each (ρ := .part .timing) (s₀ := s) l _ s fun p s => by simp).mpr (.refl _ s)

theorem each_putSetting_boot (l : List (Nat × Int)) :
    (each l (fun p s => putSetting p.1 p.2 .now s) s).boot = s.boot :=
  (kept_each (ρ := .part .boot) (s₀ := s) l _ s fun p s => by simp).mpr (.refl _ s)

end

/-- Settles O18: the time set, the fit, the snapshot and the restore, by the timing that they leave. -/
theorem timeAndSillage : Obligations.TimeAndSillage := by
  unfold Obligations.TimeAndSillage
  refine ⟨fun s sec n set due held => ?_, fun s m due => ?_, fun s due mounted => ?_, fun s due => ?_,
    fun s x r a due snaps age young => ?_, fun s x r a due snaps age old => ?_⟩
  · refine yields_of rfl (timeSetApply_eq (s := putOut [] s.dev) (by simpa using set) due (by simpa using held)) ?_
    simp only [only_drivePins_iff]
    exact ⟨by simp, only_of_kept fun ρ hρ => by simp at hρ; simp [hρ]⟩
  · have eq : sillageFit m (putOut [] s.dev) = _ := if_pos (by simpa using due)
    refine yields_of rfl eq ?_
    simp only [only_drivePins_iff]
    exact ⟨by simp, only_of_kept fun ρ hρ => by simp at hρ; simp [hρ]⟩
  · refine yields_of rfl ((sillageSnapshot_eq (s := putOut [] s.dev) (by simpa using due) true).trans
      (saveSillage_ok (by simpa [snapTaken] using mounted))) ?_
    simp only [only_drivePins_iff]
    refine ⟨⟨snapOf (snapTaken (putOut [] s.dev)), by simp [snapOf, snapTaken], by simp [snapOf, snapTaken], ?_⟩, ?_, ?_, ?_⟩
    · simp [snapSaved, snapTaken]
    · simp [snapSaved, snapTaken]
    · simp [snapSaved, snapTaken]
    · exact only_of_kept fun ρ hρ => by simp at hρ; simp [snapSaved, snapTaken, hρ]
  · refine yields_of rfl ((sillageSnapshot_eq (s := putOut [] s.dev) (by simpa using due) false).trans
      saveSillage_failed) ?_
    refine ⟨?_, by simp [snapTaken], by simp [snapTaken]⟩
    have failed := faulted_fault (id := 0x0805) (inst := 0) [] (snapTaken (putOut [] s.dev)) (by decide)
    simpa using failed.of_before (s := s.dev) (by simp [snapTaken]) (by simp [snapTaken])
  · refine yields_of rfl ((sillageRestore_eq (s := putOut [] s.dev) (by simpa using due) (by simpa using snaps)
      (by simpa using age)).trans (judgeSnap_young young x)) ?_
    refine ⟨?_, ?_, ?_, ?_⟩ <;> simp [each_putSetting_timing, each_putSetting_boot]
  · refine yields_of rfl ((sillageRestore_eq (s := putOut [] s.dev) (by simpa using due) (by simpa using snaps)
      (by simpa using age)).trans (judgeSnap_old old x)) ?_
    simp only [only_drivePins_iff]
    exact ⟨by simp, by simp, only_of_kept fun ρ hρ => by simp at hρ; simp [hρ]⟩

end Sys2Proof.Machine

/-!
Time-transfer records, exchanges and PTP frames (12_time_transfer_and_delay_calibration R527 to R543).
-/
namespace Sys2Proof.Machine
open Sys2Proof

/-! ### What the work on a carrier leaves of its records -/

/-- `t` has the records and the path of carrier `c` as `s`, and the other carrier's time transfer as a whole. -/
def SameRecs (c : Carrier) (s t : Device) : Prop :=
  (t.ttx.get c).recs = (s.ttx.get c).recs ∧ (t.ttx.get c).path = (s.ttx.get c).path ∧
    (t.ttx.get c).far = (s.ttx.get c).far ∧ t.ttx.get c.other = s.ttx.get c.other

theorem SameRecs.refl (c : Carrier) (s : Device) : SameRecs c s s := ⟨rfl, rfl, rfl, rfl⟩

section
variable {c : Carrier} {s t : Device} (h : SameRecs c s t)
include h

theorem SameRecs.of_ttx {u : Device} (k : u.ttx = t.ttx) : SameRecs c s u := by
  unfold SameRecs
  rw [k]
  exact h

theorem SameRecs.modTtx (f : TtxSt → TtxSt) (hf : ∀ q, (f q).recs = q.recs ∧ (f q).path = q.path ∧ (f q).far = q.far) :
    SameRecs c s (Machine.modTtx c f t) := by
  obtain ⟨recs, path, far, other⟩ := h
  obtain ⟨frecs, fpath, ffar⟩ := hf (t.ttx.get c)
  exact ⟨by simp [frecs, recs], by simp [fpath, path], by simp [ffar, far], by simp [other]⟩

theorem SameRecs.faultCond (id inst : Nat) (holds : Bool) (d : List Byte) :
    SameRecs c s (Machine.faultCond id inst holds d t) :=
  h.of_ttx ((kept_faultCond (ρ := .part .ttx) (s₀ := t) id inst holds d t (by decide)).mpr (.refl _ t))

theorem SameRecs.qlArrives (i ql : Nat) : SameRecs c s (Machine.qlArrives i ql t) :=
  h.of_ttx ((kept_qlArrives (ρ := .part .ttx) (s₀ := t) i ql t (by decide)).mpr (.refl _ t))

theorem SameRecs.evalServo : SameRecs c s (Machine.evalServo c t) := by
  refine SameRecs.faultCond ?_ _ _ _ _
  exact h.modTtx _ fun _ => ⟨rfl, rfl, rfl⟩

theorem SameRecs.recDiscard (n : Nat) : SameRecs c s (Machine.recDiscard c n t) := h.modTtx _ fun _ => ⟨rfl, rfl, rfl⟩

theorem SameRecs.queueTtx : SameRecs c s (Machine.queueTtx c t) := by
  have numbered (n : Nat) : SameRecs c s (Machine.modTtx c (fun q => { q with seq := n }) t) :=
    h.modTtx _ fun _ => ⟨rfl, rfl, rfl⟩
  unfold Machine.queueTtx
  dsimp only
  split
  · exact (numbered _).recDiscard _
  · exact (numbered _).of_ttx rfl

theorem SameRecs.lambdaCheck : SameRecs c s (Machine.lambdaCheck c t) := by
  refine SameRecs.faultCond ?_ _ _ _ _
  exact h.modTtx _ fun _ => ⟨rfl, rfl, rfl⟩

theorem SameRecs.takeTheta (theta raw delay : Int) : SameRecs c s (Machine.takeTheta c theta raw delay t) := by
  unfold Machine.takeTheta
  lift_lets
  intro q lim
  split
  · refine h.modTtx _ fun q => ?_
    dsimp only
    split <;> exact ⟨rfl, rfl, rfl⟩
  · refine SameRecs.lambdaCheck ?_
    exact h.modTtx _ fun _ => ⟨rfl, rfl, rfl⟩

end

/-! ### Exchanges -/

section
variable {c : Carrier} {s : Device}

theorem pathOf_congr {t : Device} (settings : t.settings = s.settings) (pend : t.pendSet = s.pendSet)
    (accord : t.accord = s.accord) (rx : t.rx = s.rx) : pathOf t c = pathOf s c := by
  have set (op off : Nat) : cset t c op off = cset s c op off := inForce_congr settings pend accord _
  have mode : native t c = native s c := native_of_accord accord c
  simp only [pathOf, csetN, nsoPath, set, mode, rx]
  rfl

/-- The path follows its conditions; nothing else of the carrier's time transfer moves. -/
theorem updatePath_spec (s : Device) : ((updatePath c s).ttx.get c).path = pathOf s c ∧
    (updatePath c s).ttx.get c.other = s.ttx.get c.other := by
  unfold updatePath
  dsimp only
  split
  · rename_i h
    exact ⟨h, rfl⟩
  · exact ⟨by simp, by simp⟩

theorem exchangeSettings_other (s : Device) : (exchangeSettings c s).ttx.get c.other = s.ttx.get c.other := by
  have begun (b : Prop) [Decidable b] (x : Device) (n : Nat) (p : List Byte) (h : x.ttx = s.ttx) :
      (if b then raise 0x0903 c.num 0 p (modTtx c (fun q => { q with calSeq := n }) x) else x).ttx.get c.other =
        s.ttx.get c.other := by
    split <;> simp [h]
  have faulted (b : Prop) [Decidable b] (x : Device) : (if b then fault 0x0903 0 [] x else x).ttx = x.ttx := by
    split <;> simp
  unfold exchangeSettings
  dsimp only
  rw [faulted]
  exact begun _ _ _ _ rfl

theorem exchangeSettings_pendSet (s : Device) :
    (exchangeSettings c s).pendSet = (settle .exchange (ttxKey c) s).pendSet := by
  unfold exchangeSettings
  dsimp only
  split <;> split <;> simp

theorem pathOf_exchangeSettings_putOut (o : List Output) (s : Device) :
    pathOf (exchangeSettings c (putOut o s)) c = pathOf (exchangeSettings c s) c := by
  have kept (p : Part) (hp : Region.part p ∉ parts [.crypto, .kme, .ttx, .mem, .stack, .clock, .fault, .pendSet, .evq])
      (s : Device) : Part.same s (exchangeSettings c s) p := (kept_exchangeSettings c s hp).mpr (.refl _ s)
  refine pathOf_congr ?_ ?_ ?_ ?_
  · exact (kept .settings (by decide) (putOut o s)).trans (kept .settings (by decide) s).symm
  · rw [exchangeSettings_pendSet, exchangeSettings_pendSet]
    rfl
  · exact (kept .accord (by decide) (putOut o s)).trans (kept .accord (by decide) s).symm
  · exact (kept .rx (by decide) (putOut o s)).trans (kept .rx (by decide) s).symm

/-- The settings and the path at an exchange, its records taken. -/
def exchangeBegins (c : Carrier) (s : Device) : Device :=
  modTtx c (fun q => { q with recs := [] }) (updatePath c (exchangeSettings c s))

theorem exchangeBegins_spec (s : Device) : ((exchangeBegins c s).ttx.get c).recs = [] ∧
    ((exchangeBegins c s).ttx.get c).path = pathOf (exchangeSettings c s) c ∧
    (exchangeBegins c s).ttx.get c.other = s.ttx.get c.other := by
  obtain ⟨path, other⟩ := updatePath_spec (c := c) (exchangeSettings c s)
  exact ⟨by simp [exchangeBegins], by simpa [exchangeBegins] using path,
    by simpa [exchangeBegins] using other.trans (exchangeSettings_other s)⟩

theorem sameRecs_ttxExchange (s : Device) : SameRecs c (exchangeBegins c s) (ttxExchange c s) := by
  have same := SameRecs.refl c (exchangeBegins c s)
  have queued (b : Prop) [Decidable b] {t u : Device} (h : SameRecs c t u) :
      SameRecs c t (if b then queueTtx c u else u) := by
    split
    · exact h.queueTtx
    · exact h
  have taken (b : Prop) [Decidable b] (x y z : Int) {t u : Device} (h : SameRecs c t u) :
      SameRecs c t (if b then u else takeTheta c x y z u) := by
    split
    · exact h
    · exact h.takeTheta _ _ _
  unfold ttxExchange
  dsimp only
  split
  · exact same.evalServo
  · exact (taken _ _ _ _ ((queued _ same).recDiscard _)).evalServo

theorem ttxExchange_spec (s : Device) : ((ttxExchange c s).ttx.get c).recs = [] ∧
    ((ttxExchange c s).ttx.get c).path = pathOf (exchangeSettings c s) c ∧
    (ttxExchange c s).ttx.get c.other = s.ttx.get c.other ∧ (ttxExchange c s).timing = s.timing := by
  obtain ⟨recs, path, -, other⟩ := sameRecs_ttxExchange (c := c) s
  obtain ⟨recs₀, path₀, other₀⟩ := exchangeBegins_spec (c := c) s
  exact ⟨recs.trans recs₀, path.trans path₀, other.trans other₀,
    (kept_ttxExchange (ρ := .part .timing) (s₀ := s) c s (by decide)).mpr (.refl _ s)⟩

/-! ### Records -/

/-- A record is kept and joins the exchange. -/
def recordKept (c : Carrier) (r : TtxRec) (s : Device) : Device :=
  modTtx c (fun q => { q with far := some r, recs := q.recs ++ [r] }) s

theorem ttxRecordReceived_good {x : TtxIn} (nso : x.ostc = false) (valid : x.nsoValid = true)
    (step : (s.rx.get c).inStep = true) (plain : x.record.tagged = false) (auth : cset s c 0x0900 4 = 0) :
    ttxRecordReceived c x s = evalServo c (qlArrives (11 + c.num) x.record.ql (qlArrives (4 + c.num) x.record.ql
      (recordKept c x.record s))) := by
  simp [ttxRecordReceived, nso, valid, step, plain, auth, recordKept]

theorem ttxRecordReceived_invalid {x : TtxIn} (nso : x.ostc = false) (invalid : x.nsoValid = false) :
    ttxRecordReceived c x s = recDiscard c 1 s := by
  simp [ttxRecordReceived, nso, invalid]

theorem evalServo_ttx (s : Device) : (evalServo c s).ttx =
    s.ttx.mod c (fun q => { q with loop := ttxLoop s c, valid := servoValid s c }) :=
  (kept_faultCond (ρ := .part .ttx) (s₀ := modTtx c (fun q => { q with loop := ttxLoop s c, valid := servoValid s c }) s)
    0x0902 c.num (ttxLoop s c) [] _ (by decide)).mpr (.refl _ _)

theorem qlArrives_ttx (i ql : Nat) (s : Device) : (qlArrives i ql s).ttx = s.ttx :=
  (kept_qlArrives (ρ := .part .ttx) (s₀ := s) i ql s (by decide)).mpr (.refl _ s)

theorem ttxRecordReceived_good_spec {x : TtxIn} (nso : x.ostc = false) (valid : x.nsoValid = true)
    (step : (s.rx.get c).inStep = true) (plain : x.record.tagged = false) (auth : cset s c 0x0900 4 = 0) :
    ((ttxRecordReceived c x s).ttx.get c).far = some x.record ∧
      ((ttxRecordReceived c x s).ttx.get c).recs = (s.ttx.get c).recs ++ [x.record] ∧
      ((ttxRecordReceived c x s).ttx.get c).recBad = (s.ttx.get c).recBad ∧
      (ttxRecordReceived c x s).ttx.get c.other = s.ttx.get c.other := by
  rw [ttxRecordReceived_good nso valid step plain auth, evalServo_ttx]
  simp [recordKept, qlArrives_ttx]

theorem ptpEventFrame_recorded {x : PtpIn} (eth : ethFirst s x.port = true) (type : x.messageType ≤ 3)
    (encap : tb (dsetN s 0x0905 x.port 3) x.encap = true) (adjust : dset s 0x0905 x.port 4 = 0)
    (mode : dsetN s 0x0905 x.port (if x.egress then 2 else 1) = 1) : ptpEventFrame x s =
      raiseAt x.at_ 0x0904 x.port 0 (le 1 (bit x.egress) ++ le 1 x.messageType ++ le 1 x.domain ++ zeros 1 ++
        le 2 x.sequence ++ le 4 x.identity) s := by
  simp [ptpEventFrame, eth, Nat.not_lt.mpr type, encap, adjust, mode]

theorem ptpEventFrame_stamped {x : PtpIn} (eth : ethFirst s x.port = true) (type : x.messageType ≤ 3)
    (encap : tb (dsetN s 0x0905 x.port 3) x.encap = true) (adjust : dset s 0x0905 x.port 4 = 0)
    (egress : x.egress = true) (mode : dsetN s 0x0905 x.port 2 = 3) :
    ptpEventFrame x s = emit (.ptp x.port 0 x.at_) s := by
  simp [ptpEventFrame, eth, Nat.not_lt.mpr type, encap, adjust, mode, egress]

end

@[simp] theorem ethFirst_putOut (l : Nat) (o : List Output) (s : Device) : ethFirst (putOut o s) l = ethFirst s l := by
  simp [ethFirst]

/-- Settles O19: records and exchanges by the time transfer that they leave, PTP frames by what they send. -/
theorem timeTransferRecords : Obligations.TimeTransferRecords := by
  unfold Obligations.TimeTransferRecords
  refine ⟨fun s c x nso valid step plain auth => ?_, fun s c x nso invalid => ?_, fun s c => ?_,
    fun s x eth type encap adjust mode => ?_, fun s x eth type encap adjust egress mode => ?_⟩
  · refine yields_of rfl rfl ?_
    simpa using ttxRecordReceived_good_spec (s := putOut [] s.dev) nso valid (by simpa using step) plain
      (by simpa using auth)
  · refine yields_of rfl (ttxRecordReceived_invalid (s := putOut [] s.dev) nso invalid) ?_
    simp only [only_drivePins_iff]
    exact ⟨by simp [recDiscard], by simp [recDiscard], only_of_kept fun ρ hρ => by simp at hρ; simp [hρ]⟩
  · refine yields_of rfl rfl ?_
    have spec := ttxExchange_spec (c := c) (putOut [] s.dev)
    rw [pathOf_exchangeSettings_putOut] at spec
    simpa using spec
  · refine yields_of rfl (ptpEventFrame_recorded (s := putOut [] s.dev) (by simpa using eth) type (by simpa using encap)
      (by simpa using adjust) (by simpa using mode)) ?_
    simp only [only_drivePins_iff, drivePins_evq]
    exact ⟨rfl, only_of_kept fun ρ hρ => by simp at hρ; simp [hρ]⟩
  · refine yields_of rfl (ptpEventFrame_stamped (s := putOut [] s.dev) (by simpa using eth) type (by simpa using encap)
      (by simpa using adjust) egress (by simpa using mode)) ?_
    simp only [only_drivePins_iff, drivePins_out]
    exact ⟨rfl, only_of_kept fun ρ hρ => by simp⟩

end Sys2Proof.Machine

/-!
The upkeep of the buffer memory (14_buffer_memory_and_latency_equaliser R582 to R598): pools, scrub, line errors, retired
rows and the refresh rate.
-/
namespace Sys2Proof.Machine
open Sys2Proof

/-! ### What a fault leaves of the memory and of other sources -/

/-- `t` has the buffer memory of `s` but for the captures. -/
def SameMem (s t : Device) : Prop := ∃ caps, t.mem = { s.mem with caps := caps }

theorem Aside.sameMem {s t : Device} (h : Aside s t) : SameMem s t := by
  obtain ⟨_, _, _, _, caps, _, rfl⟩ := h
  exact ⟨caps, rfl⟩

theorem sameMem_fault (id inst : Nat) (detail : List Byte) (s : Device) : SameMem s (fault id inst detail s) :=
  (aside_fault id inst detail s).sameMem

theorem SameMem.tower {s t : Device} (h : SameMem s t) (j : Nat) : tower t j = tower s j := by
  obtain ⟨caps, h⟩ := h
  simp [Machine.tower, h]

theorem SameMem.queues {s t : Device} (h : SameMem s t) : t.mem.queues = s.mem.queues := by
  obtain ⟨caps, h⟩ := h
  rw [h]

theorem sameSources_after_record (others : Nat) (t : Time) (e : FaultIn) (s : Device) (h : isSource e.id e.inst = true) :
    SameSources (modSource e.id e.inst (fun _ => recordAfter t e s) s) (faultOne others t e s) := by
  unfold faultOne
  simp only [h, Bool.not_true, Bool.false_eq_true, if_false]
  refine SameSources.trans ?_ (sameSources_pinLevel _)
  refine SameSources.trans ?_ (sameSources_localTrig _ _ _ _)
  refine SameSources.andIte _ ?_ rfl
  refine SameSources.andIte _ ?_ (sameSources_eraseKeys _)
  refine SameSources.andIte _ ?_ (sameSources_dueRaised _ _)
  refine SameSources.andIte _ ?_ (sameSources_first _ _)
  exact SameSources.andIte _ (SameSources.refl _) (sameSources_logFault _ _)

/-- An event leaves the records of the other sources. -/
theorem source_faultGroup_other {e : FaultIn} {id inst : Nat} (ne : srcKey id inst ≠ srcKey e.id e.inst) (t : Time)
    (s : Device) : source (faultGroup t [e] s) id inst = source s id inst := by
  cases h : isSource e.id e.inst
  case false => simp [faultGroup, h, each]
  case true =>
    rw [faultGroup_one _ _ _ h, source_of_sources (sameSources_after_record 0 t e s h)]
    simp [source, modSource, Tab.get_modify, ne]

theorem source_fault_other {id inst id' inst' : Nat} (ne : srcKey id' inst' ≠ srcKey id inst) (detail : List Byte)
    (s : Device) : source (fault id inst detail s) id' inst' = source s id' inst' :=
  source_faultGroup_other ne _ s

theorem source_faultOn_other {id inst id' inst' : Nat} (ne : srcKey id' inst' ≠ srcKey id inst) (detail : List Byte)
    (s : Device) : source (faultOn id inst detail s) id' inst' = source s id' inst' := by
  unfold faultOn
  split
  · rfl
  · exact source_faultGroup_other ne _ s

theorem source_faultOff_other {id inst id' inst' : Nat} (ne : srcKey id' inst' ≠ srcKey id inst) (s : Device) :
    source (faultOff id inst s) id' inst' = source s id' inst' := by
  unfold faultOff
  dsimp only
  split
  · rfl
  · simp [source, modSource, Tab.get_modify, ne]

theorem Faulted.fault {id inst id' inst' : Nat} {s t : Device} (h : Faulted id inst s t)
    (ne : srcKey id inst ≠ srcKey id' inst') (detail : List Byte) : Faulted id inst s (fault id' inst' detail t) :=
  h.of_source (source_fault_other ne detail t)

theorem isSource_dramUe : ∀ w : Fin 4, isSource 0x0B02 w.val = true := by decide

theorem isSource_rowRetired : ∀ w : Fin 4, isSource 0x0B03 w.val = true := by decide

theorem tower_modTower (w j : Nat) (f : TowerSt → TowerSt) (s : Device) :
    tower (modTower w f s) j = if j = w then f (tower s w) else tower s j := by
  simp only [tower, modTower, modMem_mem, Tab.get_modify]

/-! ### Pools -/

section
variable {s : Device}

/-- The device once the sizes of pools 0 to 3 are taken. -/
def poolsTaken (x : Reconfig) (s : Device) : Device :=
  raise 0x0B01 0 0 (x.sizes.flatMap fun n => le 2 (n / 64)) (modMem (fun m => { m with
    reconfig := none
    pools := [0, 1, 2, 3].foldl (fun t k => Tab.set (fun _ => none) t k (some (x.sizes.getD k 0))) m.pools }) s)

theorem poolSize_poolsTaken (x : Reconfig) (s : Device) (k : Nat) :
    poolSize (poolsTaken x s) k = if k < 4 then x.sizes.getD k 0 else poolSize s k := by
  by_cases h : k < 4
  · rw [if_pos h]
    obtain rfl | rfl | rfl | rfl : k = 0 ∨ k = 1 ∨ k = 2 ∨ k = 3 := by omega
    all_goals simp [poolSize, poolsTaken, plan, Tab.get_set]
  · rw [if_neg h]
    have : k ≠ 0 ∧ k ≠ 1 ∧ k ≠ 2 ∧ k ≠ 3 := by omega
    simp [poolSize, poolsTaken, plan, Tab.get_set, this]

theorem each_fixed {α : Type} {l : List α} {f : α → Device → Device} (fixed : ∀ x, x ∈ l → f x s = s) :
    each l f s = s := by
  unfold each
  induction l with
  | nil => rfl
  | cons x r ih =>
    rw [List.foldl_cons, fixed x (by simp)]
    exact ih fun y hy => fixed y (by simp [hy])

theorem poolReconfigComplete_eq {x : Reconfig} (waiting : s.mem.reconfig = some x) (load : s.accord.loadHeld = none)
    (queues : ∀ q, q ∈ s.mem.queues → q.2.held = none) (caps : ∀ i, i < 4 → (cap s i).held = none) :
    poolReconfigComplete s = poolsTaken x s := by
  have none_held : s.mem.queues.filter (fun q => q.2.held.isSome) = [] := by simpa using queues
  have unheld : ∀ i, i ∈ [0, 1, 2, 3] → (cap (poolsTaken x s) i).held = none := by
    intro i hi
    exact caps i (by simp at hi; omega)
  unfold poolReconfigComplete
  rw [waiting]
  simp only [raise_accord, modMem_accord, load, raise_mem, modMem_mem, none_held]
  refine each_fixed (s := poolsTaken x s) fun i hi => ?_
  rw [unheld i hi]

/-! ### Scrub -/

theorem scrubSegment_start (up : dramUp s = true) (on : s.mem.scrubOn = true) (not_off : s.mem.scrubOff = false)
    (idle : s.mem.scrubBusy = false) : scrubSegment false s = modMem (fun m => { m with
      scrubBusy := true, scrubStart := some (s.mem.scrubStart.getD s.timing.now) }) s := by
  have : (if s.mem.scrubStart.isNone then some s.timing.now else s.mem.scrubStart) =
      some (s.mem.scrubStart.getD s.timing.now) := by
    cases s.mem.scrubStart <;> rfl
  rw [← this]
  exact if_neg (c := (s.mem.scrubBusy || !s.mem.scrubOn || s.mem.scrubOff || !dramUp s) = true)
    (by simp [up, on, not_off, idle])

theorem scrubSegment_end (busy : s.mem.scrubBusy = true) (not_off : s.mem.scrubOff = false) :
    scrubSegment true s = modMem (fun m => { m with
      scrubBusy := false, scrubNext := (s.mem.scrubNext + 1) % 8192
      scrubStart := if s.mem.scrubNext = 8191 then none else s.mem.scrubStart
      scrubLate := s.mem.scrubLate && !decide (s.mem.scrubNext = 8191) }) s := by
  have off' : (!s.mem.scrubOff) = true := by simp [not_off]
  unfold scrubSegment
  exact (if_pos rfl).trans ((if_neg (by simp [busy])).trans (if_pos off'))

theorem scrubLate_eq {b : Time} (start : s.mem.scrubStart = some b) (first : s.mem.scrubLate = false)
    (due : b + 72 * 3600 * SEC ≤ s.timing.now) :
    scrubLate s = fault 0x0B06 0 [] (modMem (fun m => { m with scrubLate := true }) s) := by
  unfold scrubLate
  rw [start]
  exact if_pos (by simp [first, due])

/-! ### Line errors and retired rows -/

theorem retireRow_spec (t bank row pages : Nat) (s : Device) :
    (∀ j, j ≠ t → tower (retireRow t bank row pages s) j = tower s j) ∧
    (tower (retireRow t bank row pages s) t).ue = (tower s t).ue ∧
    (tower (retireRow t bank row pages s) t).ce = (tower s t).ce ∧
    (retireRow t bank row pages s).mem.queues = s.mem.queues ∧
    ∀ id inst, srcKey id inst ≠ srcKey 0x0B05 t →
      source (retireRow t bank row pages s) id inst = source s id inst := by
  unfold retireRow
  dsimp only
  split
  · exact ⟨fun _ _ => rfl, rfl, rfl, rfl, fun _ _ _ => rfl⟩
  split
  · refine ⟨fun j hj => ?_, ?_, ?_, rfl, fun _ _ _ => rfl⟩ <;> simp [tower_modTower]
    exact fun h => absurd h hj
  split
  · have same := sameMem_fault 0x0B05 t [] (modTower t (fun x => { x with pages := sat 32 (x.pages +
      min pages (capacityPages - poolPages s - pagesRetired s + blotterFree s / 4096)) }) s)
    refine ⟨fun j hj => ?_, ?_, ?_, same.queues, fun _ _ ne => source_fault_other ne [] _⟩
    all_goals rw [same.tower, tower_modTower]
    · rw [if_neg hj]
    all_goals rw [if_pos rfl]
  · refine ⟨fun j hj => ?_, ?_, ?_, rfl, fun _ _ _ => rfl⟩ <;> simp [tower_modTower]
    exact fun h => absurd h hj

/-- The device with an uncorrectable error of tower `w` counted. -/
def ueCounted (w : Nat) (s : Device) : Device := modTower w (fun x => { x with ue := sat 32 (x.ue + 1) }) s

theorem dramLineError_ue {x : DramIn} (ue : x.ue = true) (nobody : x.holder = .none) :
    dramLineError x s = retireRow x.tower.val x.bank x.row x.pages
      (fault 0x0B02 x.tower.val [] (ueCounted x.tower.val s)) := by
  unfold dramLineError
  rw [nobody]
  exact if_pos ue

theorem dramLineError_ue_spec {x : DramIn} (ue : x.ue = true) (nobody : x.holder = .none) :
    (tower (dramLineError x s) x.tower.val).ue = sat 32 ((tower s x.tower.val).ue + 1) ∧
    (tower (dramLineError x s) x.tower.val).ce = (tower s x.tower.val).ce ∧
    (dramLineError x s).mem.queues = s.mem.queues ∧
    (∀ j, j ≠ x.tower.val → tower (dramLineError x s) j = tower s j) ∧
    Faulted 0x0B02 x.tower.val s (dramLineError x s) := by
  rw [dramLineError_ue ue nobody]
  have same := sameMem_fault 0x0B02 x.tower.val [] (ueCounted x.tower.val s)
  have faulted := faulted_fault (id := 0x0B02) (inst := x.tower.val) [] (ueCounted x.tower.val s)
    (isSource_dramUe x.tower)
  obtain ⟨others, ue', ce', queues, sources⟩ := retireRow_spec x.tower.val x.bank x.row x.pages
    (fault 0x0B02 x.tower.val [] (ueCounted x.tower.val s))
  refine ⟨?_, ?_, queues.trans same.queues, fun j hj => ?_, ?_⟩
  · rw [ue', same.tower, ueCounted, tower_modTower, if_pos rfl]
  · rw [ce', same.tower, ueCounted, tower_modTower, if_pos rfl]
  · rw [others j hj, same.tower, ueCounted, tower_modTower, if_neg hj]
  · exact (faulted.of_before rfl rfl).of_source (sources _ _ (by simp [srcKey]))

theorem dramLineError_ce {x : DramIn} (ce : x.ue = false) (no_scrub : x.scrub = false) :
    dramLineError x s = modTower x.tower.val (fun w => { w with ce := sat 32 (w.ce + 1), ceEpoch := w.ceEpoch + 1 }) s := by
  simp [dramLineError, ce, no_scrub]

/-- The device with the copy of a row of bank `bank` of tower `w` ended, `rest` being still to copy. -/
def rowCopied (w bank : Nat) (rest : List (Nat × Nat)) (s : Device) : Device :=
  modTower w (fun x => { x with
    copying := rest, rows := sat 16 (x.rows + 1), rowsUsed := Tab.modify (fun _ => 0) x.rowsUsed bank (· + 1) }) s

theorem rowRetireComplete_eq {w : Fin 4} {bank row : Nat} {rest : List (Nat × Nat)}
    (copying : (tower s w.val).copying = (bank, row) :: rest) :
    rowRetireComplete w s =
      if sparesLeft (tower (fault 0x0B03 w.val [] (rowCopied w.val bank rest s)) w.val) bank = 4 then
        fault 0x0B04 w.val [] (fault 0x0B03 w.val [] (rowCopied w.val bank rest s))
      else fault 0x0B03 w.val [] (rowCopied w.val bank rest s) := by
  unfold rowRetireComplete
  rw [copying]
  rfl

theorem rowRetireComplete_spec {w : Fin 4} {bank row : Nat} {rest : List (Nat × Nat)}
    (copying : (tower s w.val).copying = (bank, row) :: rest) :
    (∀ j, tower (rowRetireComplete w s) j = tower (rowCopied w.val bank rest s) j) ∧
    Faulted 0x0B03 w.val s (rowRetireComplete w s) := by
  have same := sameMem_fault 0x0B03 w.val [] (rowCopied w.val bank rest s)
  have faulted : Faulted 0x0B03 w.val s (fault 0x0B03 w.val [] (rowCopied w.val bank rest s)) :=
    (faulted_fault (id := 0x0B03) (inst := w.val) [] (rowCopied w.val bank rest s)
      (isSource_rowRetired w)).of_before rfl rfl
  rw [rowRetireComplete_eq copying]
  split
  · exact ⟨fun j => ((sameMem_fault 0x0B04 w.val [] _).tower j).trans (same.tower j),
      faulted.fault (by simp [srcKey]) []⟩
  · exact ⟨same.tower, faulted⟩

theorem dramRefreshRate_eq {w : Fin 4} {fast : Bool} (new : (tower s w.val).fastRefresh ≠ fast) :
    dramRefreshRate w fast s = raise 0x0B02 w.val 0 (le 1 (if fast then 2 else 1))
      (modTower w.val (fun x => { x with fastRefresh := fast }) s) :=
  if_neg new

theorem tower_raise (type source sev : Nat) (payload : List Byte) (d : Device) (w : Nat) :
    tower (raise type source sev payload d) w = tower d w := by simp [tower]
end

/-- Settles O20: the pools, the scrub pass, the errors of a line, a retired row and the refresh rate, branch by branch. -/
theorem bufferMemoryUpkeep : Obligations.BufferMemoryUpkeep := by
  unfold Obligations.BufferMemoryUpkeep
  refine ⟨?_, ?_, ?_, ?_, ?_, ?_, ?_, ?_⟩
  · intro s x waiting load queues caps
    refine yields_of rfl (poolReconfigComplete_eq (s := putOut [] s.dev) (by simpa using waiting) (by simpa using load)
      (by simpa using queues) (by simpa using caps)) ?_
    simp only [only_drivePins_iff, raised_drivePins, poolSize_drivePins, drivePins_mem]
    refine ⟨rfl, fun k hk => ?_, ?_, ?_, rfl, rfl, rfl, ?_⟩
    · rw [poolSize_poolsTaken, if_pos hk]
    · rw [poolSize_poolsTaken, if_neg (by omega), poolSize_putOut]
    · exact (raised_raise _ _ _ _ _).of_before rfl rfl rfl
    · exact only_of_kept fun ρ hρ => by simp at hρ; simp [hρ, poolsTaken]
  · intro s up on not_off idle
    refine yields_of rfl (scrubSegment_start (s := putOut [] s.dev) (by simpa using up) (by simpa using on)
      (by simpa using not_off) (by simpa using idle)) ?_
    simp only [only_drivePins_iff, drivePins_mem]
    exact ⟨rfl, only_of_kept fun ρ hρ => by simp at hρ; simp [hρ]⟩
  · intro s busy not_off
    refine yields_of rfl (scrubSegment_end (s := putOut [] s.dev) (by simpa using busy) (by simpa using not_off)) ?_
    simp only [only_drivePins_iff, drivePins_mem, modMem_mem, putOut_mem]
    refine ⟨trivial, trivial, fun last => ?_, fun more => ?_, trivial, trivial, trivial, ?_⟩
    · simp [last]
    · simp [more]
    · exact only_of_kept fun ρ hρ => by simp at hρ; simp [hρ]
  · intro s b start first due
    refine yields_of rfl (scrubLate_eq (s := putOut [] s.dev) (by simpa using start) (by simpa using first)
      (by simpa using due)) ?_
    obtain ⟨caps, same⟩ := sameMem_fault 0x0B06 0 [] (modMem (fun m => { m with scrubLate := true }) (putOut [] s.dev))
    simp only [only_drivePins_iff, faulted_drivePins, drivePins_mem, same]
    refine ⟨rfl, start, ?_, only_of_kept fun ρ hρ => by simp [Part.ofFault] at hρ; simp [hρ]⟩
    exact (faulted_fault [] _ (by decide)).of_before rfl rfl
  · intro s x ue nobody
    refine yields_of rfl rfl ?_
    have only : Only Part.ofFault (putOut [] s.dev) (dramLineError x (putOut [] s.dev)) := by
      rw [dramLineError_ue ue nobody]
      exact only_of_kept fun ρ hρ => by simp [Part.ofFault] at hρ; simp [hρ, ueCounted]
    obtain ⟨h1, h2, h3, h4, h5⟩ := dramLineError_ue_spec (s := putOut [] s.dev) ue nobody
    simp only [only_drivePins_iff, faulted_drivePins, drivePins_mem, tower_drivePins]
    simp only [tower_putOut, putOut_mem, faulted_putOut, only_putOut_iff] at h1 h2 h3 h4 h5 only
    exact ⟨h1, h2, h3, h4, h5, only⟩
  · intro s x ce no_scrub
    refine yields_of rfl (dramLineError_ce (s := putOut [] s.dev) ce no_scrub) ?_
    simp only [only_drivePins_iff, tower_drivePins, drivePins_mem, tower_modTower, tower_putOut]
    refine ⟨if_pos trivial, fun j hj => if_neg hj, rfl, only_of_kept fun ρ hρ => by simp at hρ; simp [hρ]⟩
  · intro s w bank row rest copying
    refine yields_of rfl rfl ?_
    have copying' : (tower (putOut [] s.dev) w.val).copying = (bank, row) :: rest := by simpa using copying
    have only : Only Part.ofFault (putOut [] s.dev) (rowRetireComplete w (putOut [] s.dev)) := by
      rw [rowRetireComplete_eq copying']
      split
      all_goals exact only_of_kept fun ρ hρ => by simp [Part.ofFault] at hρ; simp [hρ, rowCopied]
    obtain ⟨towers, faulted⟩ := rowRetireComplete_spec copying'
    simp only [only_putOut_iff, faulted_putOut] at only faulted
    simp only [only_drivePins_iff, faulted_drivePins, tower_drivePins, towers, rowCopied, tower_modTower, tower_putOut]
    exact ⟨by simp, by simp, by simp, fun j hj => if_neg hj, faulted, only⟩
  · intro s w fast new
    refine yields_of rfl (dramRefreshRate_eq (s := putOut [] s.dev) (by simpa using new)) ?_
    simp only [only_drivePins_iff, raised_drivePins, tower_drivePins, tower_raise, tower_modTower, tower_putOut]
    refine ⟨if_pos trivial, fun j hj => if_neg hj, (raised_raise _ _ _ _ _).of_before rfl rfl rfl, ?_⟩
    exact only_of_kept fun ρ hρ => by simp at hρ; simp [hρ]

end Sys2Proof.Machine

/-!
The latency equaliser (14_buffer_memory_and_latency_equaliser R599 to R615): the frame that arrives, the frame that is
released, and the queue that has drained.
-/
namespace Sys2Proof.Machine
open Sys2Proof

/-! ### Tables in order -/

/-- In a table in order of keys, a listed pair put back in its place changes nothing. -/
theorem Tab.insert_erase_of_mem {α : Type} {t : Tab α} (sorted : (t.map (·.1)).Pairwise (· < ·)) {i : Nat} {v : α}
    (mem : (i, v) ∈ t) : Tab.insert (Tab.erase t i) i v = t := by
  induction t with
  | nil => simp at mem
  | cons p r ih =>
    obtain ⟨k, w⟩ := p
    rw [List.map_cons, List.pairwise_cons] at sorted
    obtain ⟨below, sorted⟩ := sorted
    by_cases hk : k = i
    · subst hk
      have absent : ∀ q, q ∈ r → q.1 ≠ k := fun q hq => Nat.ne_of_gt (below q.1 (List.mem_map_of_mem hq))
      have hv : v = w := by
        rcases List.mem_cons.mp mem with h | h
        · exact (Prod.mk.inj h).2
        · exact absurd rfl (absent _ h)
      have kept : Tab.erase ((k, w) :: r) k = r := by
        simpa [Tab.erase] using fun a b h => absent (a, b) h
      rw [kept, hv]
      cases r with
      | nil => rfl
      | cons q r' => exact if_pos (below q.1 (by simp))
    · have hr : (i, v) ∈ r := by
        rcases List.mem_cons.mp mem with h | h
        · exact absurd (Prod.mk.inj h).1.symm hk
        · exact h
      have hlt : ¬ i < k := Nat.not_lt.mpr (Nat.le_of_lt (below i (List.mem_map_of_mem hr)))
      have kept : Tab.erase ((k, w) :: r) i = (k, w) :: Tab.erase r i := by simp [Tab.erase, hk]
      rw [kept, Tab.insert, if_neg hlt, ih sorted hr]

theorem Tab.get_of_mem {α : Type} {t : Tab α} (d : Nat → α) (sorted : (t.map (·.1)).Pairwise (· < ·)) {i : Nat} {v : α}
    (mem : (i, v) ∈ t) : Tab.get d t i = v := by
  rw [← Tab.insert_erase_of_mem sorted mem, Tab.get_insert _ _ _ _ _ (by simp [Tab.erase]), if_pos rfl]

theorem Tab.modify_fixed {α : Type} [DecidableEq α] {t : Tab α} {d : Nat → α} (sorted : (t.map (·.1)).Pairwise (· < ·))
    {i : Nat} {v : α} (mem : (i, v) ∈ t) (listed : v ≠ d i) {f : α → α} (fixed : f v = v) : Tab.modify d t i f = t := by
  rw [Tab.modify, Tab.get_of_mem d sorted mem, fixed, Tab.set, if_neg listed, Tab.insert_erase_of_mem sorted mem]

/-! ### Arrival -/

section
variable {s : Device}

theorem queue_modQueue (i j : Nat) (f : QueueSt → QueueSt) (s : Device) :
    queue (modQueue i f s) j = if j = i then f (queue s i) else queue s j := by
  simp only [queue, modQueue, modMem_mem, Tab.get_modify]

theorem queue_of_mem {t : Device} (h : t.mem = s.mem) (j : Nat) : queue t j = queue s j := by simp [queue, h]

theorem leqFrameArrival_draining {x : LeqIn} {k : ClientPlan} (client : leqClient s x.port = some k)
    (draining : (queue s (leqQueueOf s x.port x.bytes)).state = .draining) :
    leqFrameArrival x s = modQueue (leqQueueOf s x.port x.bytes)
      (fun q => { q with dropDisabled := sat 32 (q.dropDisabled + 1) }) s := by
  simp only [leqFrameArrival, client, draining]

/-- What `leqFrameArrival` does with a frame of an enabled queue whose embedded time is `at_`. -/
def leqJudged (x : LeqIn) (k : ClientPlan) (n : Nat) (at_ : Int) (s : Device) : Device :=
  if (x.arrival : Int) + (qset s n 16 * NS : Nat) < at_ then
    modQueue n (fun q => { q with dropEarly := sat 32 (q.dropEarly + 1) }) s
  else if at_ + (qset s n 4 * NS : Nat) + (2 * NS : Nat) < (x.arrival : Int) && qset s n 12 = 1 then
    modQueue n (fun q => { q with dropLate := sat 32 (q.dropLate + 1) }) s
  else if leqAllowed s k < (leqPort s k.lane).tickBytes + bytesInTick s k x then
    modLeqPort k.lane (fun p => { p with dropBw := sat 32 (p.dropBw + 1), bwTick := true }) s
  else if qset s n 8 < pagesFrom none ((queue s n).frames ++
      [{ arrival := x.arrival, release := at_ + (qset s n 4 * NS : Nat), bytes := x.bytes, port := k.lane
         pos := (queue s n).wr }]) then
    modQueue n (fun q => { q with dropFull := sat 32 (q.dropFull + 1) }) s
  else storeFrame n { arrival := x.arrival, release := at_ + (qset s n 4 * NS : Nat), bytes := x.bytes, port := k.lane }
    (modLeqPort k.lane (fun p => { p with tickBytes := p.tickBytes + bytesInTick s k x }) s)

theorem leqFrameArrival_enabled {x : LeqIn} {k : ClientPlan} {at_ : Int} (client : leqClient s x.port = some k)
    (enabled : (queue s (leqQueueOf s x.port x.bytes)).state = .enabled)
    (time : (embedded (qset s (leqQueueOf s x.port x.bytes) 3) x s).1 = some at_) :
    leqFrameArrival x s = leqJudged x k (leqQueueOf s x.port x.bytes) at_
      (embedded (qset s (leqQueueOf s x.port x.bytes) 3) x s).2 := by
  simp only [leqFrameArrival, client, enabled, time]
  rfl

theorem nearest_putOut (v m t : Int) (o : List Output) (s : Device) :
    nearest v m t (putOut o s) = ((nearest v m t s).1, putOut o (nearest v m t s).2) := by
  unfold nearest
  dsimp only
  split
  · rfl
  split <;> rfl

theorem embeddedOf_putOut (near : Int → Int → Int → Device → Int × Device) (n : Nat → Nat) (add : Int)
    (fld : Nat → Option (List Byte)) (arrival : Nat) (o : List Output) (s : Device)
    (drawn : ∀ v m t, near v m t (putOut o s) = ((near v m t s).1, putOut o (near v m t s).2)) :
    embeddedOf near n add fld arrival (putOut o s) =
      ((embeddedOf near n add fld arrival s).1, putOut o (embeddedOf near n add fld arrival s).2) := by
  unfold embeddedOf
  split
  · split <;> rfl
  · split
    · rw [drawn]
    · rfl
  · split
    · extract_lets
      split <;> rfl
    · rfl
  · split
    · dsimp only
      rw [drawn]
    · rfl
  · rfl

theorem embeddedOf_fresh (near : Int → Int → Int → Device → Int × Device) (n : Nat → Nat) (add : Int)
    (fld : Nat → Option (List Byte)) (arrival : Nat) (s : Device)
    (drawn : ∀ v m t, ∃ fresh, (near v m t s).2 = putFresh fresh s) :
    ∃ fresh, (embeddedOf near n add fld arrival s).2 = putFresh fresh s := by
  unfold embeddedOf
  split
  · split <;> exact ⟨s.fresh, rfl⟩
  · split
    · exact drawn _ _ _
    · exact ⟨s.fresh, rfl⟩
  · split
    · extract_lets
      split <;> exact ⟨s.fresh, rfl⟩
    · exact ⟨s.fresh, rfl⟩
  · split
    · exact drawn _ _ _
    · exact ⟨s.fresh, rfl⟩
  · exact ⟨s.fresh, rfl⟩

theorem embedded_fst_putOut (prof : Nat) (x : LeqIn) (o : List Output) (s : Device) :
    (embedded prof x (putOut o s)).1 = (embedded prof x s).1 := by
  simp only [embedded_eq, dset_putOut, dsetN_putOut]
  rw [embeddedOf_putOut _ _ _ _ _ _ _ fun v m t => nearest_putOut v m t o s]

theorem embedded_fresh (prof : Nat) (x : LeqIn) (s : Device) :
    ∃ fresh, (embedded prof x s).2 = putFresh fresh s := by
  rw [embedded_eq]
  refine embeddedOf_fresh _ _ _ _ _ _ fun v m t => ?_
  rcases nearest_snd v m t s with h | h
  · exact ⟨s.fresh, h⟩
  · exact ⟨s.fresh + 1, h⟩

theorem leqJudged_early {x : LeqIn} {k : ClientPlan} {n : Nat} {at_ : Int}
    (early : (x.arrival : Int) + (qset s n 16 * NS : Nat) < at_) :
    leqJudged x k n at_ s = modQueue n (fun q => { q with dropEarly := sat 32 (q.dropEarly + 1) }) s :=
  if_pos early

theorem leqJudged_stored {x : LeqIn} {k : ClientPlan} {n : Nat} {at_ : Int}
    (not_early : at_ ≤ (x.arrival : Int) + (qset s n 16 * NS : Nat))
    (not_late : (x.arrival : Int) ≤ at_ + (qset s n 4 * NS : Nat) + (2 * NS : Nat))
    (within : (leqPort s k.lane).tickBytes + bytesInTick s k x ≤ leqAllowed s k)
    (room : pagesFrom none ((queue s n).frames ++
      [{ arrival := x.arrival, release := at_ + (qset s n 4 * NS : Nat), bytes := x.bytes, port := k.lane
         pos := (queue s n).wr }]) ≤ qset s n 8) :
    leqJudged x k n at_ s = storeFrame n
      { arrival := x.arrival, release := at_ + (qset s n 4 * NS : Nat), bytes := x.bytes, port := k.lane }
      (modLeqPort k.lane (fun p => { p with tickBytes := p.tickBytes + bytesInTick s k x }) s) := by
  unfold leqJudged
  rw [if_neg (Int.not_lt.mpr not_early), if_neg (by rw [decide_eq_false (Int.not_lt.mpr not_late)]; simp), if_neg (Nat.not_lt.mpr within),
    if_neg (Nat.not_lt.mpr room)]

theorem queue_storeFrame (n m : Nat) (f : LeqFrame) (s : Device) :
    queue (storeFrame n f s) m = if m = n then { queue s n with
      frames := (queue s n).frames ++ [{ f with serial := s.mem.serial + 1, pos := (queue s n).wr }]
      wr := (queue s n).wr + storedSize f.bytes.length } else queue s m :=
  queue_modQueue _ _ _ _

theorem queue_modLeqPort (p : Nat) (f : LeqPort → LeqPort) (s : Device) (j : Nat) :
    queue (modLeqPort p f s) j = queue s j := rfl

/-! ### Release -/

theorem mem_portHeads {p : Nat} {x : Nat × QueueSt × LeqFrame} (mem : x ∈ portHeads s p) :
    (x.1, x.2.1) ∈ s.mem.queues ∧ x.2.1 ≠ {} := by
  unfold portHeads at mem
  rw [List.mem_filterMap] at mem
  obtain ⟨q, hq, head⟩ := mem
  split at head
  · rename_i f _ frames
    split at head
    · cases head
      refine ⟨hq, fun empty => ?_⟩
      have none : q.2.frames = [] := congrArg QueueSt.frames empty
      simp [frames] at none
    · cases head
  · cases head

theorem dropLateHeads_keep (t : Time) (fuel : Nat) (q : QueueSt) : dropLateHeads false t fuel q = q := by
  cases fuel with
  | zero => rfl
  | succ n =>
    unfold dropLateHeads
    split <;> rfl

theorem modQueue_fixed (sorted : (s.mem.queues.map (·.1)).Pairwise (· < ·)) {n : Nat} {q : QueueSt}
    (mem : (n, q) ∈ s.mem.queues) (listed : q ≠ {}) {f : QueueSt → QueueSt} (fixed : f q = q) : modQueue n f s = s := by
  have same : Tab.modify (fun _ => {}) s.mem.queues n f = s.mem.queues := Tab.modify_fixed sorted mem listed fixed
  unfold modQueue modMem
  dsimp only
  rw [same]

theorem leqFrameRelease_eq {p : Fin 32} {k : ClientPlan} {n : Nat} {f : LeqFrame} {start : Time}
    (client : leqClient s p.val = some k) (up : leqPortDown s k = false)
    (keeps : ∀ x, x ∈ portHeads s k.lane → qset s x.1 12 ≠ 1) (no_bypass : (leqPort s k.lane).bypass = [])
    (sorted : (s.mem.queues.map (·.1)).Pairwise (· < ·)) (next : nextFrame s k.lane = some (n, f, start))
    (due : start < s.timing.now + US) : leqFrameRelease p s = sendLeqFrame k n f start s := by
  have served : each (portHeads s k.lane) (fun x t =>
      modQueue x.1 (fun q => dropLateHeads (qset t x.1 12 = 1) (s.timing.now + US) q.frames.length q) t) s = s := by
    refine each_fixed fun x hx => ?_
    obtain ⟨mem, listed⟩ := mem_portHeads hx
    refine modQueue_fixed sorted mem listed ?_
    rw [decide_eq_false (keeps x hx)]
    exact dropLateHeads_keep _ _ _
  unfold leqFrameRelease
  rw [client]
  simp only [up, served, no_bypass, List.length_nil, sendBypass, next, due]
  rfl

theorem queue_emit (o : Output) (s : Device) (m : Nat) : queue (emit o s) m = queue s m := rfl

theorem sendLeqFrame_queue (k : ClientPlan) (n m : Nat) (f : LeqFrame) (start : Time) (s : Device) (other : m ≠ n) :
    queue (sendLeqFrame k n f start s) m = queue s m := by
  simp only [sendLeqFrame, queue_emit, queue_modLeqPort, queue_modQueue, if_neg other]

theorem sendLeqFrame_self (k : ClientPlan) (n : Nat) (f : LeqFrame) (start : Time) (s : Device) :
    (queue (sendLeqFrame k n f start s) n).frames = (queue s n).frames.drop 1 ∧
    (queue (sendLeqFrame k n f start s) n).released = sat 32 ((queue s n).released + 1) ∧
    (queue (sendLeqFrame k n f start s) n).lastLeft = start := by
  simp only [sendLeqFrame, queue_emit, queue_modLeqPort, queue_modQueue]
  exact ⟨by simp, by simp, by simp⟩

theorem sendLeqFrame_port (k : ClientPlan) (n : Nat) (f : LeqFrame) (start : Time) (s : Device) :
    (leqPort (sendLeqFrame k n f start s) k.lane).busyUntil = start + sendTime k f.bytes.length := by
  have emitted (o : Output) (d : Device) : leqPort (emit o d) k.lane = leqPort d k.lane := rfl
  simp only [sendLeqFrame, emitted]
  simp [leqPort, modLeqPort]

theorem sendLeqFrame_out (k : ClientPlan) (n : Nat) (f : LeqFrame) (start : Time) (s : Device) :
    (sendLeqFrame k n f start s).out = s.out ++ [.frame k.lane start f.bytes] := by
  have emitted (o : Output) (d : Device) : (emit o d).out = d.out ++ [o] := rfl
  simp only [sendLeqFrame, emitted]
  rfl

theorem leqDrainComplete_eq {q : Fin 32768} (draining : (queue s q.val).state = .draining)
    (empty : (queue s q.val).frames = []) :
    leqDrainComplete q s = modQueue q.val (fun q => { q with state := .disabled }) s :=
  if_pos (by simp [draining, empty])

@[simp] theorem leqClient_putOut (o : List Output) (s : Device) (p : Nat) :
    leqClient (putOut o s) p = leqClient s p := by simp [leqClient, plan]

@[simp] theorem leqQueueOf_putOut (o : List Output) (s : Device) (p : Nat) (f : List Byte) :
    leqQueueOf (putOut o s) p f = leqQueueOf s p f := by simp [leqQueueOf, leqKey]

@[simp] theorem portHeads_putOut (o : List Output) (s : Device) (p : Nat) : portHeads (putOut o s) p = portHeads s p := rfl

@[simp] theorem nextFrame_putOut (o : List Output) (s : Device) (p : Nat) : nextFrame (putOut o s) p = nextFrame s p := by
  simp [nextFrame]

end

/-- Settles O21: the fate of an arriving frame by its queue's state and its embedded time, and the service of a port. -/
theorem latencyEqualiserFrames : Obligations.LatencyEqualiserFrames := by
  unfold Obligations.LatencyEqualiserFrames
  refine ⟨?_, ?_, ?_, ?_, ?_⟩
  · intro s x k client draining
    refine yields_of rfl (leqFrameArrival_draining (s := putOut [] s.dev) (by simpa using client) (by simpa using draining)) ?_
    simp only [only_drivePins_iff, queue_drivePins, queue_modQueue, leqQueueOf_putOut]
    exact ⟨⟨if_pos trivial, fun m hm => if_neg hm⟩, only_of_kept fun ρ hρ => by simp at hρ; simp [hρ]⟩
  · intro s x k n at_ client hn enabled time not_early not_late within room
    subst hn
    have client' : leqClient (putOut [] s.dev) x.port = some k := by simpa using client
    have enabled' : (queue (putOut [] s.dev) (leqQueueOf (putOut [] s.dev) x.port x.bytes)).state = .enabled := by
      simpa using enabled
    have arrived := leqFrameArrival_enabled client' enabled' (by simpa [embedded_fst_putOut] using time)
    obtain ⟨fresh, drawn⟩ := embedded_fresh (qset s.dev (leqQueueOf s.dev x.port x.bytes) 3) x (putOut [] s.dev)
    simp only [leqQueueOf_putOut, qset_putOut, drawn] at arrived
    refine yields_of rfl (arrived.trans (leqJudged_stored not_early not_late within room)) ?_
    simp only [only_drivePins_iff, queue_drivePins, queue_storeFrame, queue_modLeqPort]
    exact ⟨⟨_, if_pos trivial⟩, fun m hm => if_neg hm, only_of_kept fun ρ hρ => by simp at hρ; simp [hρ]⟩
  · intro s x k n at_ client hn enabled time early
    subst hn
    have client' : leqClient (putOut [] s.dev) x.port = some k := by simpa using client
    have enabled' : (queue (putOut [] s.dev) (leqQueueOf (putOut [] s.dev) x.port x.bytes)).state = .enabled := by
      simpa using enabled
    have arrived := leqFrameArrival_enabled client' enabled' (by simpa [embedded_fst_putOut] using time)
    obtain ⟨fresh, drawn⟩ := embedded_fresh (qset s.dev (leqQueueOf s.dev x.port x.bytes) 3) x (putOut [] s.dev)
    simp only [leqQueueOf_putOut, qset_putOut, drawn] at arrived
    refine yields_of rfl (arrived.trans (leqJudged_early early)) ?_
    simp only [only_drivePins_iff, queue_drivePins, queue_modQueue]
    exact ⟨if_pos trivial, fun m hm => if_neg hm, only_of_kept fun ρ hρ => by simp at hρ; simp [hρ]⟩
  · intro s p k n f start client up keeps no_bypass sorted next due
    refine yields_of rfl (leqFrameRelease_eq (s := putOut [] s.dev) (by simpa using client) (by simpa using up)
      (by simpa using keeps) (by simpa using no_bypass) (by simpa using sorted) (by simpa using next) (by simpa using due)) ?_
    obtain ⟨frames, released, left⟩ := sendLeqFrame_self k n f start (putOut [] s.dev)
    simp only [only_drivePins_iff, queue_drivePins, drivePins_out, leqPort_drivePins]
    refine ⟨sendLeqFrame_out k n f start _, frames, released, left, sendLeqFrame_port k n f start _,
      fun m hm => sendLeqFrame_queue k n m f start _ hm, ?_⟩
    exact only_of_kept fun ρ hρ => by simp at hρ; simp [hρ]
  · intro s q draining empty
    refine yields_of rfl (leqDrainComplete_eq (s := putOut [] s.dev) (by simpa using draining) (by simpa using empty)) ?_
    simp only [only_drivePins_iff, queue_drivePins, queue_modQueue]
    exact ⟨if_pos trivial, fun m hm => if_neg hm, only_of_kept fun ρ hρ => by simp at hρ; simp [hρ]⟩

end Sys2Proof.Machine

/-!
Sensing channels (13_line_sensing_chain R559 to R576): an output sample, and a record that is emitted.
-/
namespace Sys2Proof.Machine
open Sys2Proof

/-! ### The detectors leave the record -/

/-- `r` has the record being filled, the instant of the last output and the overrun mark of `q`. -/
def SameRecord (q r : SenseSt) : Prop := r.cur = q.cur ∧ r.lastOut = q.lastOut ∧ r.overrun = q.overrun

theorem SameRecord.refl (q : SenseSt) : SameRecord q q := ⟨rfl, rfl, rfl⟩

theorem SameRecord.trans {q r u : SenseSt} (h : SameRecord q r) (k : SameRecord r u) : SameRecord q u := by
  obtain ⟨h1, h2, h3⟩ := h
  obtain ⟨k1, k2, k3⟩ := k
  exact ⟨k1.trans h1, k2.trans h2, k3.trans h3⟩

theorem SameRecord.ite {q r u : SenseSt} (c : Prop) [Decidable c] (h : SameRecord q r) (k : SameRecord q u) :
    SameRecord q (if c then r else u) := by
  split <;> assumption

theorem sameRecord_setDet (act k : Nat) (t : Time) (v : Bool) (q : SenseSt) : SameRecord q (setDet act k t v q) := by
  unfold setDet
  split <;> exact .refl q

/-- The peak detector of `detect`. -/
def detectPeak (p : Nat → Nat) (t : Time) (x : Int) (q : SenseSt) : SenseSt :=
  let peak := max q.peak x.natAbs
  let n := q.winCount + 1
  let q := if p 20 < x.natAbs then setDet (p 15) 0 t true q else q
  if n < 2 ^ p 16 then { q with peak := peak, winCount := n }
  else
    let q := if peak ≤ p 22 then setDet (p 15) 0 t false q else q
    { q with peak := 0, winCount := 0 }

/-- The RMS detector of `detect`. -/
def detectRms (p : Nat → Nat) (t : Time) (x : Int) (q : SenseSt) : SenseSt :=
  let win := 2 ^ p 16
  let w := (x :: q.window).take win
  let sum := (w.map fun z => (z * z).toNat).sum
  let q := { q with window := w }
  if w.length < win then q
  else
    let q := { q with rms := Nat.sqrt (sum / win) }
    if p 24 * p 24 * win < sum then setDet (p 15) 1 t true q
    else if sum ≤ p 26 * p 26 * win then setDet (p 15) 1 t false q else q

/-- The envelope detector of `detect`. -/
def detectEnvelope (p : Nat → Nat) (t : Time) (x : Int) (q : SenseSt) : SenseSt :=
  let e := envelope x.natAbs (p 17) (p 18) q.env
  let q := { q with env := e }
  if p 28 * 2 ^ e.2 < e.1 then setDet (p 15) 2 t true q
  else if e.1 ≤ p 30 * 2 ^ e.2 then setDet (p 15) 2 t false q else q

theorem sameRecord_detectPeak (p : Nat → Nat) (t : Time) (x : Int) (q : SenseSt) :
    SameRecord q (detectPeak p t x q) := by
  have up : SameRecord q (if p 20 < x.natAbs then setDet (p 15) 0 t true q else q) :=
    .ite _ (sameRecord_setDet _ _ _ _ q) (.refl q)
  unfold detectPeak
  dsimp only
  generalize (if p 20 < x.natAbs then setDet (p 15) 0 t true q else q) = r at up ⊢
  refine up.trans ?_
  split
  · exact .refl r
  · split
    · exact sameRecord_setDet _ _ _ _ r
    · exact .refl r

theorem sameRecord_detectRms (p : Nat → Nat) (t : Time) (x : Int) (q : SenseSt) : SameRecord q (detectRms p t x q) := by
  unfold detectRms
  dsimp only
  split
  · exact .refl q
  · refine .ite _ (sameRecord_setDet _ _ _ _ _) (.ite _ (sameRecord_setDet _ _ _ _ _) ?_)
    exact .refl q

theorem sameRecord_detectEnvelope (p : Nat → Nat) (t : Time) (x : Int) (q : SenseSt) :
    SameRecord q (detectEnvelope p t x q) := by
  unfold detectEnvelope
  dsimp only
  refine .ite _ (sameRecord_setDet _ _ _ _ _) (.ite _ (sameRecord_setDet _ _ _ _ _) ?_)
  exact .refl q

theorem detect_eq (p : Nat → Nat) (t : Time) (x : Int) (q : SenseSt) :
    detect p t x q = detectEnvelope p t x (detectRms p t x (detectPeak p t x q)) := rfl

theorem sameRecord_detect (p : Nat → Nat) (t : Time) (x : Int) (q : SenseSt) : SameRecord q (detect p t x q) := by
  rw [detect_eq]
  exact (sameRecord_detectPeak p t x q).trans
    ((sameRecord_detectRms p t x _).trans (sameRecord_detectEnvelope p t x _))

/-! ### Channels -/

section
variable {s : Device}

theorem sense_of_part {t : Device} (h : t.sense = s.sense) (j : Nat) : sense t j = sense s j := by simp [sense, h]

theorem sense_modSense_other {ch j : Nat} (h : j ≠ ch) (f : SenseSt → SenseSt) (s : Device) :
    sense (modSense ch f s) j = sense s j := by rw [sense_modSense, if_neg h]

theorem sense_modSense_self (ch : Nat) (f : SenseSt → SenseSt) (s : Device) :
    sense (modSense ch f s) ch = f (sense s ch) := by rw [sense_modSense, if_pos rfl]

theorem sense_ringWrite (k : Nat) (bytes : List Byte) (s : Device) (j : Nat) :
    sense (ringWrite k bytes s) j = sense s j :=
  sense_of_part ((kept_ringWrite (ρ := .part .sense) (s₀ := s) k bytes s (by decide)).mpr (.refl _ s)) j

/-- `t` has the other channels of `s`, and the last output and overrun mark of the channel. -/
def SameOutput (ch : Nat) (s t : Device) : Prop :=
  (∀ j, j ≠ ch → sense t j = sense s j) ∧ (sense t ch).lastOut = (sense s ch).lastOut ∧
  (sense t ch).overrun = (sense s ch).overrun

theorem SameOutput.refl (ch : Nat) (s : Device) : SameOutput ch s s := ⟨fun _ _ => rfl, rfl, rfl⟩

theorem SameOutput.trans {ch : Nat} {s t u : Device} (h : SameOutput ch s t) (k : SameOutput ch t u) :
    SameOutput ch s u := by
  obtain ⟨h1, h2, h3⟩ := h
  obtain ⟨k1, k2, k3⟩ := k
  exact ⟨fun j hj => (k1 j hj).trans (h1 j hj), k2.trans h2, k3.trans h3⟩

theorem sameOutput_modSense {ch : Nat} {f : SenseSt → SenseSt} (last : ∀ q, (f q).lastOut = q.lastOut)
    (overrun : ∀ q, (f q).overrun = q.overrun) (s : Device) : SameOutput ch s (modSense ch f s) := by
  refine ⟨fun j hj => sense_modSense_other hj f s, ?_, ?_⟩ <;> rw [sense_modSense_self]
  · exact last _
  · exact overrun _

/-- The record being filled is put aside. -/
def senseCut (ch : Nat) (s : Device) : Device :=
  modSense ch (fun q => { q with cur := none, left := none, eventInRec := false }) s

/-- A delivery of a channel is counted. -/
def senseCounted (ch : Nat) (s : Device) : Device :=
  modSense ch (fun q => { q with delivered := sat 32 (q.delivered + 1) }) s

/-- A record of a channel is kept among its last 4. -/
def senseKept (ch : Nat) (r : SenseRec) (s : Device) : Device :=
  modSense ch (fun q => { q with kept := if q.kept.length < 4 then q.kept ++ [r] else q.kept.drop 1 ++ [r] }) s

/-- A record of a channel is discarded. -/
def senseDropped (ch : Nat) (s : Device) : Device :=
  modSense ch (fun q => { q with drop := sat 32 (q.drop + 1), dropTick := true }) s

theorem emitRecord_kept {ch : Nat} {r : SenseRec} (cur : (sense s ch).cur = some r) (no_ring : senseRing s ch = none) :
    emitRecord ch s = senseCounted ch (senseKept ch r (senseCut ch s)) := by
  have no_ring' : senseRing (senseCut ch s) ch = none := no_ring
  unfold emitRecord
  rw [cur]
  dsimp only
  rw [← senseCut, no_ring']
  rfl

theorem emitRecord_ring {ch k : Nat} {r : SenseRec} (cur : (sense s ch).cur = some r) (to_ring : senseRing s ch = some k) :
    emitRecord ch s =
      if (ring s k).enable && (ring s k).kind = 1 && !ringFull (ring s k) then
        senseCounted ch (ringWrite k (senseRecBytes ch r) (senseCut ch s))
      else senseDropped ch (senseCut ch s) := by
  have to_ring' : senseRing (senseCut ch s) ch = some k := to_ring
  unfold emitRecord
  rw [cur]
  dsimp only
  rw [← senseCut, to_ring']
  rfl

theorem sameOutput_senseCounted (ch : Nat) (s : Device) : SameOutput ch s (senseCounted ch s) := by
  unfold senseCounted
  refine sameOutput_modSense (fun q => ?_) (fun q => ?_) s <;> rfl

theorem sameOutput_senseCut (ch : Nat) (s : Device) : SameOutput ch s (senseCut ch s) := by
  unfold senseCut
  refine sameOutput_modSense (fun q => ?_) (fun q => ?_) s <;> rfl

theorem sameOutput_senseKept (ch : Nat) (r : SenseRec) (s : Device) : SameOutput ch s (senseKept ch r s) := by
  unfold senseKept
  refine sameOutput_modSense (fun q => ?_) (fun q => ?_) s <;> rfl

theorem sameOutput_senseDropped (ch : Nat) (s : Device) : SameOutput ch s (senseDropped ch s) := by
  unfold senseDropped
  refine sameOutput_modSense (fun q => ?_) (fun q => ?_) s <;> rfl

theorem sameOutput_ringWrite (ch k : Nat) (bytes : List Byte) (s : Device) : SameOutput ch s (ringWrite k bytes s) := by
  refine ⟨fun j _ => sense_ringWrite k bytes s j, ?_, ?_⟩ <;> rw [sense_ringWrite]

theorem sameOutput_emitRecord (ch : Nat) (s : Device) : SameOutput ch s (emitRecord ch s) := by
  cases cur : (sense s ch).cur with
  | none =>
    have : emitRecord ch s = s := by simp [emitRecord, cur]
    rw [this]
    exact .refl ch s
  | some r =>
    cases named : senseRing s ch with
    | none =>
      rw [emitRecord_kept cur named]
      exact ((sameOutput_senseCut ch s).trans (sameOutput_senseKept ch r _)).trans (sameOutput_senseCounted ch _)
    | some k =>
      rw [emitRecord_ring cur named]
      split
      · exact ((sameOutput_senseCut ch s).trans (sameOutput_ringWrite ch k _ _)).trans (sameOutput_senseCounted ch _)
      · exact (sameOutput_senseCut ch s).trans (sameOutput_senseDropped ch _)

/-! ### Output samples -/

/-- A sample joins the record of its channel, or begins one. -/
def sampleAdded (ch flush : Nat) (t : Time) (x : SenseSample) (nonlinear free : Bool) (s : Device) : Device :=
  modSense ch (fun q => match q.cur with
    | some r => { q with cur := some { r with samples := r.samples ++ [x], freeTick := r.freeTick || free } }
    | none =>
      let r : SenseRec := { seq := q.seq, t := t, samples := [x], nonlinear := nonlinear, freeTick := free, event := q.eventInRec }
      { q with cur := some r, seq := wrap 16 (q.seq + 1), left := timer flush }) s

theorem addSample_eq (ch : Nat) (t : Time) (x : SenseSample) (s : Device) : ∃ u, SameOutput ch s u ∧
    ∃ flush nonlinear free, addSample ch t x s = sampleAdded ch flush t x nonlinear free u := by
  unfold addSample
  dsimp only
  split
  · split
    · exact ⟨_, sameOutput_emitRecord ch s, _, _, _, rfl⟩
    · exact ⟨_, .refl ch s, _, _, _, rfl⟩
  · exact ⟨_, .refl ch s, _, _, _, rfl⟩

theorem sameOutput_sampleAdded (ch flush : Nat) (t : Time) (x : SenseSample) (nonlinear free : Bool) (s : Device) :
    SameOutput ch s (sampleAdded ch flush t x nonlinear free s) := by
  refine sameOutput_modSense (fun q => ?_) (fun q => ?_) s <;> cases q.cur <;> rfl

theorem cur_sampleAdded (ch flush : Nat) (t : Time) (x : SenseSample) (nonlinear free : Bool) (s : Device) :
    ∃ r, (sense (sampleAdded ch flush t x nonlinear free s) ch).cur = some r ∧ r.samples ≠ [] := by
  rw [sampleAdded, sense_modSense_self]
  cases h : (sense s ch).cur with
  | none => exact ⟨_, rfl, by simp⟩
  | some r => exact ⟨_, rfl, by simp⟩

/-- A sample joins a record that then holds it, and leaves the last output and the other channels. -/
theorem addSample_spec (ch : Nat) (t : Time) (x : SenseSample) (s : Device) : SameOutput ch s (addSample ch t x s) ∧
    ∃ r, (sense (addSample ch t x s) ch).cur = some r ∧ r.samples ≠ [] := by
  obtain ⟨u, same, flush, nonlinear, free, eq⟩ := addSample_eq ch t x s
  rw [eq]
  exact ⟨same.trans (sameOutput_sampleAdded _ _ _ _ _ _ _), cur_sampleAdded _ _ _ _ _ _ _⟩

theorem runDetectors_spec (ch : Nat) (t : Time) (x : Int) (s : Device) : SameOutput ch s (runDetectors ch t x s) ∧
    (sense (runDetectors ch t x s) ch).cur = (sense s ch).cur := by
  have detected (q : SenseSt) : SameRecord q (detect (fun off => senseSet s ch off) t x q) := sameRecord_detect _ _ _ _
  have same : SameOutput ch s (modSense ch (detect (fun off => senseSet s ch off) t x) s) :=
    sameOutput_modSense (fun q => (detected q).2.1) (fun q => (detected q).2.2) s
  have cur : (sense (modSense ch (detect (fun off => senseSet s ch off) t x) s) ch).cur = (sense s ch).cur := by
    rw [sense_modSense_self]
    exact (detected _).1
  unfold runDetectors
  dsimp only
  generalize modSense ch (detect (fun off => senseSet s ch off) t x) s = u at same cur ⊢
  unfold when
  split
  · have local_ (j : Nat) : sense (localTrig 2 t (fun _ c => c.senseCh = ch) u) j = sense u j := by simp [sense]
    obtain ⟨others, last, overrun⟩ := same
    refine ⟨⟨fun j hj => (local_ j).trans (others j hj), ?_, ?_⟩, ?_⟩ <;> rw [local_] <;> assumption
  · exact ⟨same, cur⟩

/-- The device before a sample joins its record: the output instant is taken. -/
def outputTaken (c : Nat) (q : SenseSt) (s : Device) : Device := modSense c (fun _ => q) s

theorem senseOutputSample_spec {ch : Fin 64} {sec k : Nat} (running : (sense s ch.val).running = true)
    (within : k < senseSet s ch.val 12) (nonzero : senseSet s ch.val 14 ≠ 0) (second : sec % senseSet s ch.val 14 = 0)
    (later : ∀ u, (sense s ch.val).lastOut = some u →
      u < sec * SEC + k * senseSet s ch.val 14 * SEC / senseSet s ch.val 12) :
    ∃ q un bad t x v, (senseOutputSample ch sec k s =
        if un || bad then addSample ch.val t x (outputTaken ch.val q s)
        else runDetectors ch.val t v (addSample ch.val t x (outputTaken ch.val q s))) ∧
      q.lastOut = some (sec * SEC + k * senseSet s ch.val 14 * SEC / senseSet s ch.val 12) ∧ q.overrun = false := by
  have new : (match (sense s ch.val).lastOut with
      | some u => decide (u < sec * SEC + k * senseSet s ch.val 14 * SEC / senseSet s ch.val 12)
      | none => true) = true := by
    cases h : (sense s ch.val).lastOut with
    | none => rfl
    | some u => exact decide_eq_true (later u h)
  refine ⟨_, _, _, _, _, _, Eq.trans (if_neg ?_) rfl, rfl, rfl⟩
  simp [running, Nat.not_le.mpr within, nonzero, second]
  exact new

theorem senseOutputSample_sense {ch : Fin 64} {sec k : Nat} (running : (sense s ch.val).running = true)
    (within : k < senseSet s ch.val 12) (nonzero : senseSet s ch.val 14 ≠ 0) (second : sec % senseSet s ch.val 14 = 0)
    (later : ∀ u, (sense s ch.val).lastOut = some u →
      u < sec * SEC + k * senseSet s ch.val 14 * SEC / senseSet s ch.val 12) :
    (sense (senseOutputSample ch sec k s) ch.val).lastOut =
      some (sec * SEC + k * senseSet s ch.val 14 * SEC / senseSet s ch.val 12) ∧
    (sense (senseOutputSample ch sec k s) ch.val).overrun = false ∧
    (∃ r, (sense (senseOutputSample ch sec k s) ch.val).cur = some r ∧ r.samples ≠ []) ∧
    ∀ j, j ≠ ch.val → sense (senseOutputSample ch sec k s) j = sense s j := by
  obtain ⟨q, un, bad, t, x, v, eq, last, overrun⟩ := senseOutputSample_spec running within nonzero second later
  rw [eq]
  have taken : sense (outputTaken ch.val q s) ch.val = q := sense_modSense_self _ _ _
  obtain ⟨added, filled⟩ := addSample_spec ch.val t x (outputTaken ch.val q s)
  obtain ⟨detected, kept⟩ := runDetectors_spec ch.val t v (addSample ch.val t x (outputTaken ch.val q s))
  have finish {u : Device} (h : SameOutput ch.val (outputTaken ch.val q s) u) :
      (sense u ch.val).lastOut = q.lastOut ∧ (sense u ch.val).overrun = false ∧
      ∀ j, j ≠ ch.val → sense u j = sense s j := by
    obtain ⟨h1, h2, h3⟩ := h
    rw [taken] at h2 h3
    exact ⟨h2, h3.trans overrun, fun j hj => (h1 j hj).trans (sense_modSense_other hj _ s)⟩
  split
  · obtain ⟨h1, h2, h3⟩ := finish added
    exact ⟨h1.trans last, h2, filled, h3⟩
  · obtain ⟨h1, h2, h3⟩ := finish (added.trans detected)
    exact ⟨h1.trans last, h2, by rw [kept]; exact filled, h3⟩

theorem senseRecordEmit_eq {ch : Fin 64} {r : SenseRec} (cur : (sense s ch.val).cur = some r)
    (due : 48 ≤ r.samples.length ∨ (sense s ch.val).left = some 0) :
    senseRecordEmit ch s = emitRecord ch.val s := by
  have due' : (decide (48 ≤ r.samples.length) || expired (sense s ch.val).left) = true := by
    rcases due with h | h <;> simp [h, expired]
  unfold senseRecordEmit
  dsimp only
  rw [cur]
  exact if_pos due'

end

/-- Settles O22: an output sample taken into its record, and a record kept or dropped. -/
theorem sensingEvents : Obligations.SensingEvents := by
  unfold Obligations.SensingEvents
  refine ⟨?_, ?_, ?_⟩
  · intro s ch sec k running within nonzero second later
    refine yields_of rfl rfl ?_
    simpa using senseOutputSample_sense (s := putOut [] s.dev) (by simpa using running) (by simpa using within)
      (by simpa using nonzero) (by simpa using second) (by simpa using later)
  · intro s ch r cur due no_ring
    refine yields_of rfl ((senseRecordEmit_eq (s := putOut [] s.dev) (by simpa using cur) (by simpa using due)).trans
      (emitRecord_kept (by simpa using cur) (by simpa using no_ring))) ?_
    simp only [only_drivePins_iff, sense_drivePins]
    refine ⟨?_, fun j hj => ?_, ?_⟩
    · simp only [senseCounted, senseKept, senseCut, sense_modSense_self, sense_putOut]
    · simp only [senseCounted, senseKept, senseCut, sense_modSense_other hj, sense_putOut]
    · exact only_of_kept fun ρ hρ => by simp at hρ; simp [hρ, senseCounted, senseKept, senseCut]
  · intro s ch r k cur due to_ring disabled
    have drop : emitRecord ch.val (putOut [] s.dev) = senseDropped ch.val (senseCut ch.val (putOut [] s.dev)) := by
      rw [emitRecord_ring (s := putOut [] s.dev) (by simpa using cur) (by simpa using to_ring)]
      exact if_neg (by simp [disabled])
    refine yields_of rfl ((senseRecordEmit_eq (s := putOut [] s.dev) (by simpa using cur) (by simpa using due)).trans
      drop) ?_
    simp only [only_drivePins_iff, sense_drivePins]
    refine ⟨?_, ?_, ?_, fun j hj => ?_, ?_⟩
    · simp only [senseDropped, senseCut, sense_modSense_self]
    · simp only [senseDropped, senseCut, sense_modSense_self, sense_putOut]
    · simp only [senseDropped, senseCut, sense_modSense_self, sense_putOut]
    · simp only [senseDropped, senseCut, sense_modSense_other hj, sense_putOut]
    · exact only_of_kept fun ρ hρ => by simp at hρ; simp [hρ, senseDropped, senseCut]

end Sys2Proof.Machine

/-!
Calibration of the converters and their self-test (03_converters_and_trim R119 to R135).
-/
namespace Sys2Proof.Machine
open Sys2Proof

section
variable {s : Device} {c : Carrier}

/-! ### Slices -/

theorem sliceAt_modSlice (c : Carrier) (k n : Nat) (f : SliceSt → SliceSt) (s : Device) (j m : Nat) :
    sliceAt (modSlice c k n f s) c j m = if j = k ∧ m = n then f (sliceAt s c k n) else sliceAt s c j m := by
  simp only [sliceAt, modSlice, convOf_modConvK]
  by_cases hj : j = k
  · subst hj
    simp [Tab.get_modify]
  · simp [hj]

theorem sliceAt_of_conv {t : Device} (h : t.conv = s.conv) (k n : Nat) : sliceAt t c k n = sliceAt s c k n := by
  simp [sliceAt, convOf, h]

theorem convOf_of_conv {t : Device} (h : t.conv = s.conv) (k : Nat) : convOf t c k = convOf s c k := by
  simp [convOf, h]

theorem calTicks_modSlice (c : Carrier) (k n : Nat) (f : SliceSt → SliceSt) (s : Device) (j : Nat) :
    (convOf (modSlice c k n f s) c j).calTicks = (convOf s c j).calTicks := by
  rw [modSlice, convOf_modConvK]
  split
  · rename_i h
    rw [h]
  · rfl

/-- The running shadow calibration of a converter starts again. -/
def calRestarted (c : Carrier) (k : Nat) (s : Device) : Device := modConvK c k (fun v => { v with calTicks := 0 }) s

theorem sliceAt_calRestarted (k j n : Nat) : sliceAt (calRestarted c k s) c j n = sliceAt s c j n := by
  simp only [sliceAt, calRestarted, convOf_modConvK]
  split
  · rename_i h
    rw [h]
  · rfl

theorem source_evalSpares {id inst : Nat} (low : srcKey id inst ≠ srcKey 0x0307 c.num)
    (exhausted : srcKey id inst ≠ srcKey 0x0308 c.num) (before s : Device) :
    source (evalSpares c before s) id inst = source s id inst := by
  have step (t : Device) (h : source t id inst = source s id inst) :
      source (if failedInPlace t c then t else faultOff 0x0308 c.num t) id inst = source s id inst := by
    split
    · exact h
    · exact (source_faultOff_other exhausted t).trans h
  unfold evalSpares
  dsimp only
  refine step _ ?_
  split
  · exact source_faultOn_other low [] s
  · split
    · exact source_faultOff_other low s
    · rfl

theorem spareCalibrated_ready {k : Fin 4} {n : Fin 72} {offset gain : Int} {skew : Nat}
    (due : 1000 ≤ (convOf s c k.val).calTicks)
    (spare : (sliceAt s c k.val n.val).state = .spareReady ∨ (sliceAt s c k.val n.val).state = .spareCalibrating)
    (o₁ : -64 ≤ offset) (o₂ : offset ≤ 63) (g₁ : -128 ≤ gain) (g₂ : gain ≤ 127) (sk : skew ≤ 1023) :
    spareCalibrated c k n offset gain skew s = withSpares c (fun s => modSlice c k.val n.val
      (fun q => { q with offset, gain, skew, state := .spareReady, calAge := some 0 }) (calRestarted c k.val s)) s := by
  unfold spareCalibrated
  exact (if_neg (by simp [spare, Nat.not_lt.mpr due])).trans (if_neg (by omega))

theorem spareCalibrated_failed {k : Fin 4} {n : Fin 72} {offset gain : Int} {skew : Nat}
    (due : 1000 ≤ (convOf s c k.val).calTicks)
    (spare : (sliceAt s c k.val n.val).state = .spareReady ∨ (sliceAt s c k.val n.val).state = .spareCalibrating)
    (out : offset < -64 ∨ 63 < offset ∨ gain < -128 ∨ 127 < gain ∨ 1023 < skew) :
    spareCalibrated c k n offset gain skew s =
      withSpares c (fun s => sliceFails c k.val n.val 0 (calRestarted c k.val s)) s := by
  unfold spareCalibrated
  exact (if_neg (by simp [spare, Nat.not_lt.mpr due])).trans (if_pos out)

/-- The device with a spare marked failed for its trims. -/
def spareMarked (c : Carrier) (k n : Nat) (s : Device) : Device :=
  modSlice c k n (fun q => { q with
    failCause := q.failCause ||| (1#4 <<< 0), state := if q.state = .active then .active else .failed }) s

theorem sliceFails_spare {k n : Nat} (good : (sliceAt s c k n).failCause = 0)
    (spare : (sliceAt s c k n).state = .spareReady ∨ (sliceAt s c k n).state = .spareCalibrating) :
    sliceFails c k n 0 s = fault 0x0305 c.num [] (spareMarked c k n s) := by
  have not_failed : ¬((sliceAt s c k n).failCause ≠ 0 ∨ (sliceAt s c k n).state = .failed) := by
    rcases spare with h | h <;> simp [good, h]
  unfold sliceFails
  refine (if_neg not_failed).trans ?_
  rcases spare with h | h
  all_goals
    dsimp only
    rw [h]
    rfl

theorem sliceAt_spareMarked {k n : Nat} (good : (sliceAt s c k n).failCause = 0)
    (spare : (sliceAt s c k n).state = .spareReady ∨ (sliceAt s c k n).state = .spareCalibrating) :
    sliceAt (spareMarked c k n s) c k n = { sliceAt s c k n with failCause := 1, state := .failed } := by
  rw [spareMarked, sliceAt_modSlice, if_pos ⟨rfl, rfl⟩, good]
  rcases spare with h | h <;> simp [h]

theorem isSource_sliceFault : ∀ c : Carrier, isSource 0x0305 c.num = true := fun c =>
  isSource_carrier (by decide) c

/-! ### Foreground calibration -/

/-- The age of an element in place starts. -/
def aged (q : SliceSt) : SliceSt := if q.state = .active then { q with calAge := some 0 } else q

theorem aged_aged (q : SliceSt) : aged (aged q) = aged q := by
  unfold aged
  by_cases h : q.state = .active <;> simp [h]

/-- The age of one element in place starts. -/
def ageOne (c : Carrier) (k n : Nat) (s : Device) : Device :=
  if (sliceAt s c k n).state = .active then modSlice c k n (fun q => { q with calAge := some 0 }) s else s

theorem sliceAt_ageOne (k n j m : Nat) (s : Device) :
    sliceAt (ageOne c k n s) c j m = if j = k ∧ m = n then aged (sliceAt s c j m) else sliceAt s c j m := by
  unfold ageOne
  split
  · rename_i active
    rw [sliceAt_modSlice]
    split
    · rename_i h
      rw [h.1, h.2, aged, if_pos active]
    · rfl
  · rename_i idle
    split
    · rename_i h
      rw [h.1, h.2, aged, if_neg idle]
    · rfl

theorem sliceAt_age_row (k : Nat) (l : List Nat) (s : Device) (j m : Nat) :
    sliceAt (each l (ageOne c k) s) c j m = if j = k ∧ m ∈ l then aged (sliceAt s c j m) else sliceAt s c j m := by
  unfold each
  induction l generalizing s with
  | nil => simp
  | cons n r ih =>
    rw [List.foldl_cons, ih, sliceAt_ageOne]
    by_cases hj : j = k <;> by_cases hr : m ∈ r <;> by_cases hn : m = n <;> simp [hj, hr, hn, aged_aged]

theorem sliceAt_age_rows (width : Nat → Nat) (l : List Nat) (s : Device) (j m : Nat) :
    sliceAt (each l (fun k s => each (List.range (width k)) (ageOne c k) s) s) c j m =
      if j ∈ l ∧ m < width j then aged (sliceAt s c j m) else sliceAt s c j m := by
  unfold each
  induction l generalizing s with
  | nil => simp
  | cons k r ih =>
    rw [List.foldl_cons, ih]
    have row := sliceAt_age_row (c := c) k (List.range (width k)) s j m
    unfold each at row
    rw [row]
    by_cases hk : j = k
    · subst hk
      by_cases hm : m < width j <;> by_cases hr : j ∈ r <;> simp [hm, hr, aged_aged]
    · simp [hk]

/-- The ages of the elements in place of a carrier start once foreground calibration is done. -/
def calibrated (c : Carrier) (s : Device) : Device :=
  each [0, 1, 2, 3, 4, 5, 6, 7] (fun k s => each (List.range (if k < 4 then 72 else 4)) (ageOne c k) s)
    (modConv c (fun v => { v with fgDone := true }) s)

theorem foregroundCalComplete_eq (running : (s.conv.get c).loopRunning = true) (due : (s.conv.get c).fgDone = false) :
    foregroundCalComplete c [] [] s = withSpares c (calibrated c) s :=
  if_neg (by simp [running, due])

theorem sameLoop_calibrated (c : Carrier) (s : Device) :
    SameLoop c (modConv c (fun v => { v with fgDone := true }) s) (calibrated c s) := by
  refine SameLoop.each _ _ (fun k t => SameLoop.each _ _ (fun n u => ?_) t) _
  unfold ageOne
  split
  · exact sameLoop_modConvK k _ u
  · exact ⟨rfl, rfl, rfl⟩

@[simp] theorem kept_ageOne {ρ : Region} {s₀ : Device} (c : Carrier) (k n : Nat) (s : Device)
    (hρ : ρ ∉ parts [.conv]) : Kept ρ s₀ (ageOne c k n s) ↔ Kept ρ s₀ s := by
  simp at hρ
  simp [ageOne, hρ]

@[simp] theorem kept_calibrated {ρ : Region} {s₀ : Device} (c : Carrier) (s : Device) (hρ : ρ ∉ parts [.conv]) :
    Kept ρ s₀ (calibrated c s) ↔ Kept ρ s₀ s := by
  simp at hρ
  refine (kept_each _ _ _ fun k t => kept_each _ _ _ fun n u => kept_ageOne c k n u (by simp [hρ])).trans ?_
  simp [hρ]

theorem sliceAt_calibrated {k n : Nat} (hk : k < 8) (hn : n < if k < 4 then 72 else 4)
    (active : (sliceAt s c k n).state = .active) :
    sliceAt (calibrated c s) c k n = { sliceAt s c k n with calAge := some 0 } := by
  have before : sliceAt (modConv c (fun v => { v with fgDone := true }) s) c k n = sliceAt s c k n := by
    simp [sliceAt, convOf]
  rw [calibrated, sliceAt_age_rows, if_pos ⟨by simp; omega, hn⟩, before, aged, if_pos active]

theorem conv_other_of_get (f : CarrierConv → CarrierConv) (s : Device) :
    (modConv c f s).conv.get c.other = s.conv.get c.other := by simp

/-! ### Self-test -/

/-- The self-test of a carrier ends with a map and a result. -/
def selftestEnded (c : Carrier) (map : List Byte) (result : Nat) (s : Device) : Device :=
  modConv c (fun v => { v with selftest := none, lastMap := map, selfResult := some result }) s

theorem selftestComplete_own {h : Held} (held : (s.conv.get c).selftest = some h) :
    selftestComplete c [some (0, false), some (1, false), some (2, false), some (3, false)] s =
      evalMap c (deferredDoneX h.op h.req .ok [0, 1, 2, 3, 0] (selftestEnded c [0, 1, 2, 3] 0 s)) := by
  unfold selftestComplete
  rw [held]
  rfl

/-- The signature of a DAC came in on ADC `a`. -/
def foundOn (a : Nat) : Option (Nat × Bool) → Bool
  | some q => q.1 = a
  | none => false

/-- The byte of the map for a DAC. -/
def dacByte : Option (Nat × Bool) → Byte
  | some q => BitVec.ofNat 8 (q.1 % 4 + 128 * bit q.2)
  | none => 0

/-- The end of a self-test once it is known whether every ADC received a DAC, and the map read. -/
def selftestEnds (c : Carrier) (h : Held) (every : Bool) (map : List Byte) (s : Device) : Device :=
  let result := if !every then 2 else if map = [0, 1, 2, 3] then 0 else 1
  let map := if every then map else zeros 4
  evalMap c (deferredDoneX h.op h.req .ok (map ++ le 1 result) (selftestEnded c map result s))

theorem selftestComplete_eq {h : Held} (held : (s.conv.get c).selftest = some h) (found : List (Option (Nat × Bool))) :
    selftestComplete c found s = selftestEnds c h
      ([0, 1, 2, 3].all fun a => ((List.range 4).map fun k => found.getD k none).any (foundOn a))
      (((List.range 4).map fun k => found.getD k none).map dacByte) s := by
  unfold selftestComplete
  rw [held]
  rfl

theorem not_found {found : List (Option (Nat × Bool))} {a : Nat} (missing : ∀ q, some q ∈ found.take 4 → q.1 ≠ a) :
    ((List.range 4).map fun k => found.getD k none).any (foundOn a) = false := by
  rw [List.any_eq_false]
  intro x hx
  obtain ⟨k, hk, rfl⟩ := List.mem_map.mp hx
  have hk : k < 4 := List.mem_range.mp hk
  cases at_k : found.getD k none with
  | none => simp [foundOn]
  | some q =>
    have hlen : k < found.length := by
      refine Classical.byContradiction fun h => ?_
      simp [List.getD, List.getElem?_eq_none (Nat.not_lt.mp h)] at at_k
    have mem : some q ∈ found.take 4 := by
      rw [List.mem_take_iff_getElem]
      refine ⟨k, by omega, ?_⟩
      simpa [List.getD, hlen] using at_k
    simpa [foundOn] using missing q mem

theorem selftestComplete_missing {h : Held} {found : List (Option (Nat × Bool))} {a : Nat}
    (held : (s.conv.get c).selftest = some h) (ha : a < 4) (missing : ∀ q, some q ∈ found.take 4 → q.1 ≠ a) :
    selftestComplete c found s =
      evalMap c (deferredDoneX h.op h.req .ok [0, 0, 0, 0, 2] (selftestEnded c [0, 0, 0, 0] 2 s)) := by
  have not_every : ([0, 1, 2, 3].all fun a => ((List.range 4).map fun k => found.getD k none).any (foundOn a)) = false := by
    rw [List.all_eq_false]
    exact ⟨a, by simp; omega, by rw [not_found missing]; decide⟩
  rw [selftestComplete_eq held, not_every]
  rfl

theorem deferredDoneX_waiting {op : Nat} {r : Req} (waits : ⟨r.mb.val, op, r.seq.toNat⟩ ∈ s.host.pendCmds) (st : Status)
    (extra : List Byte) : deferredDoneX op r st extra s =
      raise 0x0001 r.mb.val 0 (le 1 r.mb.val ++ le 1 st.code ++ le 2 op ++ le 2 r.seq.toNat ++ extra)
        (putHost { s.host with pendCmds := s.host.pendCmds.erase ⟨r.mb.val, op, r.seq.toNat⟩ } s) :=
  if_pos waits

theorem deferredDoneX_conv (op : Nat) (r : Req) (st : Status) (extra : List Byte) (s : Device) :
    (deferredDoneX op r st extra s).conv = s.conv :=
  (kept_deferredDoneX (ρ := .part .conv) (s₀ := s) op r st extra s (by decide)).mpr (.refl _ s)

theorem evalMap_conv (c : Carrier) (s : Device) : (evalMap c s).conv = s.conv := by simp [evalMap]

theorem evalMap_evq (c : Carrier) (s : Device) : (evalMap c s).evq = s.evq := by simp [evalMap]

theorem conv_selftest (map : List Byte) (result : Nat) (op : Nat) (r : Req) (st : Status) (extra : List Byte) (s : Device) :
    (evalMap c (deferredDoneX op r st extra (selftestEnded c map result s))).conv.get c =
      { s.conv.get c with selftest := none, lastMap := map, selfResult := some result } ∧
    (evalMap c (deferredDoneX op r st extra (selftestEnded c map result s))).conv.get c.other = s.conv.get c.other := by
  rw [evalMap_conv, deferredDoneX_conv]
  exact ⟨by simp [selftestEnded], by simp [selftestEnded]⟩

end

/-- Settles O23: the end of a shadow calibration with good and with bad trims, of foreground calibration, and of the
self-test. -/
theorem converterCalibration : Obligations.ConverterCalibration := by
  unfold Obligations.ConverterCalibration
  refine ⟨?_, ?_, ?_, ?_, ?_⟩
  · intro s c k n offset gain skew due spare o₁ o₂ g₁ g₂ sk
    refine yields_of rfl (spareCalibrated_ready (s := putOut [] s.dev) (by simpa using due) (by simpa using spare)
      o₁ o₂ g₁ g₂ sk) ?_
    have conv := evalSpares_conv c (putOut [] s.dev) (modSlice c k.val n.val
      (fun q => { q with offset, gain, skew, state := .spareReady, calAge := some 0 }) (calRestarted c k.val (putOut [] s.dev)))
    simp only [only_drivePins_iff, sliceAt_drivePins, convOf_drivePins, drivePins_conv, withSpares, sliceAt_of_conv conv,
      convOf_of_conv conv, conv, sliceAt_modSlice, calTicks_modSlice, sliceAt_calRestarted, sliceAt_putOut]
    refine ⟨if_pos ⟨trivial, trivial⟩, fun m hm => if_neg fun h => hm h.2, ?_, ?_, ?_⟩
    · rw [calRestarted, convOf_modConvK, if_pos rfl]
    · simp [modSlice, calRestarted]
    · exact only_of_kept fun ρ hρ => by simp [Part.ofFault] at hρ; simp [hρ, calRestarted]
  · intro s c k n offset gain skew due good spare out
    have good' : (sliceAt (calRestarted c k.val (putOut [] s.dev)) c k.val n.val).failCause = 0 := by
      simpa [sliceAt_calRestarted] using good
    have spare' : (sliceAt (calRestarted c k.val (putOut [] s.dev)) c k.val n.val).state = .spareReady ∨
        (sliceAt (calRestarted c k.val (putOut [] s.dev)) c k.val n.val).state = .spareCalibrating := by
      simpa [sliceAt_calRestarted] using spare
    refine yields_of rfl (spareCalibrated_failed (s := putOut [] s.dev) (by simpa using due) (by simpa using spare) out) ?_
    have failed : (sliceFails c k.val n.val 0 (calRestarted c k.val (putOut [] s.dev))).conv =
        (spareMarked c k.val n.val (calRestarted c k.val (putOut [] s.dev))).conv := by
      rw [sliceFails_spare good' spare', fault_conv]
    have conv := (evalSpares_conv c (putOut [] s.dev) _).trans failed
    have faulted : Faulted 0x0305 c.num s.dev
        (sliceFails c k.val n.val 0 (calRestarted c k.val (putOut [] s.dev))) := by
      rw [sliceFails_spare good' spare']
      exact (faulted_fault [] _ (isSource_sliceFault c)).of_before rfl rfl
    simp only [only_drivePins_iff, sliceAt_drivePins, drivePins_conv, faulted_drivePins, withSpares, sliceAt_of_conv conv,
      conv]
    refine ⟨?_, fun m hm => ?_, ?_, by simp [spareMarked, modSlice, calRestarted], ?_⟩
    · rw [sliceAt_spareMarked good' spare', sliceAt_calRestarted, sliceAt_putOut]
    · rw [spareMarked, sliceAt_modSlice, if_neg fun h => hm h.2, sliceAt_calRestarted, sliceAt_putOut]
    · exact faulted.of_source (source_evalSpares (by simp [srcKey]) (by simp [srcKey]) _ _)
    · exact only_of_kept fun ρ hρ => by simp [Part.ofFault] at hρ; simp [hρ, calRestarted]
  · intro s c running due
    refine yields_of rfl (foregroundCalComplete_eq (s := putOut [] s.dev) (by simpa using running) (by simpa using due)) ?_
    obtain ⟨_, done, other⟩ := sameLoop_calibrated c (putOut [] s.dev)
    have conv : (withSpares c (calibrated c) (putOut [] s.dev)).conv = (calibrated c (putOut [] s.dev)).conv :=
      evalSpares_conv _ _ _
    simp only [only_drivePins_iff, sliceAt_drivePins, drivePins_conv, conv, sliceAt_of_conv conv]
    refine ⟨done.trans (by simp), fun k n hk hn active => ?_, other.trans (by simp), ?_⟩
    · simpa using sliceAt_calibrated (s := putOut [] s.dev) hk hn (by simpa using active)
    · exact only_of_kept fun ρ hρ => by simp [Part.ofFault] at hρ; simp [hρ]
  · intro s c h held waits
    refine yields_of rfl (selftestComplete_own (s := putOut [] s.dev) (by simpa using held)) ?_
    obtain ⟨conv, other⟩ := conv_selftest (c := c) [0, 1, 2, 3] 0 h.op h.req .ok [0, 1, 2, 3, 0] (putOut [] s.dev)
    simp only [only_drivePins_iff, raised_drivePins, drivePins_conv]
    refine ⟨conv, ?_, other, only_of_kept fun ρ hρ => by simp [Part.ofFault] at hρ; simp [hρ, selftestEnded]⟩
    have ended := deferredDoneX_waiting (s := selftestEnded c [0, 1, 2, 3] 0 (putOut [] s.dev)) (op := h.op) waits .ok
      [0, 1, 2, 3, 0]
    rw [Raised, evalMap_evq, ended]
    exact (raised_raise _ _ _ _ _).of_before rfl rfl rfl
  · intro s c h found a held ha missing
    refine yields_of rfl (selftestComplete_missing (s := putOut [] s.dev) (by simpa using held) ha missing) ?_
    obtain ⟨conv, other⟩ := conv_selftest (c := c) [0, 0, 0, 0] 2 h.op h.req .ok [0, 0, 0, 0, 2] (putOut [] s.dev)
    simp only [only_drivePins_iff, drivePins_conv]
    exact ⟨conv, other, only_of_kept fun ρ hρ => by simp [Part.ofFault] at hρ; simp [hρ, selftestEnded]⟩

end Sys2Proof.Machine

/-!
Superframes and their overhead (07_line_framing_and_defects): a counterexample to the statement about received overhead.
An acknowledged proposal of kind ACCORD schedules the switch, and the switch withdraws the other carrier's proposal of kind
STAGE (`scheduleSwitch`), so the other receiver does change.
-/
namespace Sys2Proof.Machine
open Sys2Proof

theorem dev_of_next {i : Instr} {s t : State} {f : Device → Device} (hi : exec i s = .next (s.act f))
    (next : exec i s = .next t) : t.dev = drivePins (f (putOut [] s.dev)) := by
  rw [hi] at next
  cases next
  rfl

/-- A valid overhead of count 0 whose agreement record acknowledges proposal 0 of kind ACCORD. -/
def acknowledgingNso : List Byte := put (zeros 508) 8 [2, 1] ++ be 4 (crc32c (put (zeros 508) 8 [2, 1])).toNat

/-- Carrier A has proposed an Accord switch and expects the overhead of count 0; carrier B is off and has proposed to
stage. The standby set is ready and gives both carriers a mode. -/
def switchProposed : Device :=
  { ({} : Device) with
    accord := { active := { plan := { modes := ⟨some {}, some {}⟩ } }
                standbySet := { plan := { modes := ⟨some {}, some {}⟩ } }, standby := .ready }
    rx := ⟨{ state := .superframeLock, lastXsf := some 4294967295, agree := .proposed, ownRec := { kind := 2 } },
      { agree := .proposed, ownRec := { kind := 1 } }⟩ }

theorem fromBe_be4 {n : Nat} (h : n < 2 ^ 32) : fromBe (be 4 n) = n := by
  simp [fromBe, be, le, fromLe]
  omega

theorem nsoValid_of_crc {l : List Byte} (h : l.length = 508) : nsoValid (l ++ be 4 (crc32c l).toNat) = true := by
  have crc_length : (be 4 (crc32c l).toNat).length = 4 := by simp [be]
  have body : slice (l ++ be 4 (crc32c l).toNat) 0 508 = l := by simp [slice, h]
  have crc : slice (l ++ be 4 (crc32c l).toNat) 508 4 = be 4 (crc32c l).toNat := by
    rw [slice, ← h, List.drop_left, List.take_of_length_le (by omega)]
  simp only [nsoValid, body, crc, fromBe_be4 (crc32c l).isLt]
  simp [h, crc_length]

/-- What `takeNso` does up to the answer to an own proposal. -/
def nsoAnswered (c : Carrier) (b : List Byte) (s : Device) : Device :=
  answerReceived c (modRx c (fun r => { r with farRec := parseAgree (slice b 8 16) })
    (countNso c (fromBe (slice b 0 4)) (modLine c (fun l => { l with nso := b }) s)))

theorem takeNso_rx (c : Carrier) (b : List Byte) (ta tb : Bool) (s : Device) :
    (takeNso c b ta tb s).rx = (nsoAnswered c b s).rx := by
  have kept : Kept (.part .rx) (nsoAnswered c b s) (takeNso c b ta tb s) ↔
      Kept (.part .rx) (nsoAnswered c b s) (nsoAnswered c b s) := by
    unfold takeNso
    simp [nsoAnswered]
  exact kept.mpr (.refl _ _)

theorem nsoReceived_valid {s : Device} {c : Carrier} {b : List Byte} (valid : nsoValid b = true)
    (locked : (s.rx.get c).state.atLeast .superframeLock = true) (native : (rxModeOf s c).any (fun m => m.native) = true)
    (ta tb : Bool) : nsoReceived c b ta tb s = takeNso c b ta tb s := by
  simp [nsoReceived, valid, locked, native]

/-- The other carrier's proposal is withdrawn. -/
theorem other_proposal_withdrawn :
    ((nsoAnswered .a acknowledgingNso (putOut [] switchProposed)).rx.get .b).agree = .idle := by
  decide

/-- Refutes O24: the overhead received by carrier A acknowledges its Accord switch, which changes carrier B's receiver. -/
theorem not_superframesAndFrames : ¬ Obligations.SuperframesAndFrames := by
  unfold Obligations.SuperframesAndFrames
  rintro ⟨_, _, _, received, _, _⟩
  have valid : nsoValid acknowledgingNso = true := nsoValid_of_crc (by decide +kernel)
  obtain ⟨t, next, _, _, _, _, _, other⟩ := received ⟨switchProposed, []⟩ .a {} acknowledgingNso true true rfl rfl rfl
    valid rfl (by decide)
  have dev : t.dev = drivePins (nsoReceived .a acknowledgingNso true true (putOut [] switchProposed)) :=
    dev_of_next (s := ⟨switchProposed, []⟩) rfl next
  have rx : t.dev.rx = (nsoAnswered .a acknowledgingNso (putOut [] switchProposed)).rx := by
    rw [dev, drivePins_rx, nsoReceived_valid valid rfl rfl, takeNso_rx]
  have idle := other_proposal_withdrawn
  rw [← rx] at idle
  have proposed : (t.dev.rx.get .b).agree = .proposed := congrArg RxSt.agree other
  rw [idle] at proposed
  cases proposed

end Sys2Proof.Machine

/-!
Protection schemes (08_tributaries_groups_protection R380 to R386): APS, hold-off, wait-to-restore and the selector.
-/
namespace Sys2Proof.Machine
open Sys2Proof

section
variable {s : Device}

/-! ### Schemes -/

theorem scheme_modScheme (k j : Nat) (f : SchemeSt → SchemeSt) (s : Device) :
    scheme (modScheme k f s) j = if j = k then f (scheme s k) else scheme s j := by
  simp only [scheme, modScheme, putTribs_tribs, Tab.get_modify]

theorem scheme_of_tribs {t : Device} (h : t.tribs = s.tribs) (j : Nat) : scheme t j = scheme s j := by simp [scheme, h]

theorem scheme_raise (type source sev : Nat) (payload : List Byte) (s : Device) (j : Nat) :
    scheme (raise type source sev payload s) j = scheme s j := by simp [scheme]

theorem schemeType_of_accord {t : Device} (h : t.accord = s.accord) (k : Nat) : schemeType t k = schemeType s k := by
  simp [schemeType, plan, h]

theorem faulted_faultOn {id inst : Nat} (detail : List Byte) (s : Device) (h : isSource id inst = true)
    (off : (source s id inst).cond = false) : Faulted id inst s (faultOn id inst detail s) := by
  obtain ⟨_, _, _, events, last⟩ := source_faultOne 0 s.timing.now { id, inst, detail, begins := true } s h
  unfold faultOn
  rw [off, faultGroup_one _ _ _ h]
  exact ⟨events, last⟩

theorem apsReceived_eq {k : Fin 33} {b : List Byte} (aps : schemeType s k.val = 3 ∨ schemeType s k.val = 4)
    (length : b.length = 4) : apsReceived k b s = modScheme k.val (fun q => { q with
      aps := some b
      farRequest := if (b.getD 0 0).toNat ≤ 10 then some (b.getD 0 0).toNat else q.farRequest }) s :=
  if_pos (by rcases aps with h | h <;> simp [h, length])

/-! ### Evaluation of requests -/

/-- The selection that an evaluation of a scheme asks for, and the scheme after it (R380 to R382, R385). -/
def weighed (s : Device) (k : Nat) : Bool × SchemeSt :=
  let ty := schemeType s k
  let q := scheme s k
  let sd := protSet s k 3 = 1
  let rev := protSet s k 2 = 1
  let l := localRequests sd q
  let w := q.due.getLsbD 0 || (sd && q.due.getLsbD 2)
  let starts := q.wasW && !w && asked q && l.isEmpty
  let wtr := if !l.isEmpty then none else if starts && rev then timer (protSet s k 6) else q.wtr
  let dnr := l.isEmpty && ((starts && !rev) || q.dnr)
  let own := l.head?.getD (if wtr.isSome then 8 else if dnr then 9 else 10)
  let far := if (ty = 3 || ty = 4) && !q.uni then q.farRequest.getD 10 else 10
  let req := min own far
  let sel := requestSelects req (asked q)
  (sel, { q with
    wtr := wtr, dnr := dnr, wasW := w, request := req, next := if sel = q.selected then none else some sel,
    bridged := ty ≠ 4 || sel })

/-- A scheme takes what an evaluation gives. -/
def weighedTaken (k : Nat) (s : Device) : Device :=
  modScheme k (fun q => { q with
    wtr := (weighed s k).2.wtr, dnr := (weighed s k).2.dnr, wasW := (weighed s k).2.wasW
    request := (weighed s k).2.request, next := (weighed s k).2.next, bridged := (weighed s k).2.bridged }) s

theorem weighedTaken_beside (k : Nat) (s : Device) : (weighedTaken k s).evq = s.evq ∧
    (weighedTaken k s).stack = s.stack ∧ (weighedTaken k s).timing = s.timing := by
  have beside (f : SchemeSt → SchemeSt) :
      (modScheme k f s).evq = s.evq ∧ (modScheme k f s).stack = s.stack ∧ (modScheme k f s).timing = s.timing :=
    ⟨rfl, rfl, rfl⟩
  exact beside _

theorem protEvaluate_eq {k : Nat} (switched : 2 ≤ schemeType s k) : protEvaluate k s =
    if (weighed s k).2.request ≠ (scheme s k).request && (weighed s k).1 = (scheme s k).selected then
      raise 0x0502 k 0 (le 1 (weighed s k).2.request ++ le 1 (bit (weighed s k).1) ++
        le 1 ((scheme s k).farRequest.getD 0xFF)) (weighedTaken k s)
    else weighedTaken k s :=
  if_neg (Nat.not_lt.mpr switched)

theorem scheme_weighedTaken (k j : Nat) (s : Device) :
    scheme (weighedTaken k s) j = if j = k then (weighed s k).2 else scheme s j :=
  scheme_modScheme _ _ _ _

theorem scheme_protEvaluate {k : Nat} (switched : 2 ≤ schemeType s k) (j : Nat) :
    scheme (protEvaluate k s) j = if j = k then (weighed s k).2 else scheme s j := by
  rw [protEvaluate_eq switched]
  split
  · exact (scheme_raise _ _ _ _ _ j).trans (scheme_weighedTaken k j s)
  · exact scheme_weighedTaken k j s

/-- An evaluation leaves the other schemes, and of its own the mode, the requests due and the hold-off timers. -/
theorem protEvaluate_keeps {k : Nat} (switched : 2 ≤ schemeType s k) :
    (scheme (protEvaluate k s) k).uni = (scheme s k).uni ∧
    (scheme (protEvaluate k s) k).due = (scheme s k).due ∧ (scheme (protEvaluate k s) k).holds = (scheme s k).holds ∧
    ∀ j, j ≠ k → scheme (protEvaluate k s) j = scheme s j := by
  rw [scheme_protEvaluate switched, if_pos rfl]
  exact ⟨rfl, rfl, rfl, fun j hj => (scheme_protEvaluate switched j).trans (if_neg hj)⟩

theorem sources_protEvaluate (k : Nat) (s : Device) : (protEvaluate k s).fault.sources = s.fault.sources :=
  sources_of_kept ((kept_protEvaluate (ρ := .part .fault) (s₀ := s) k s (by decide)).mpr (.refl _ s))

/-! ### Mismatch and hold-off -/

theorem isSource_mismatch : ∀ k : Fin 33, isSource 0x0384 k.val = true := by decide

/-- The scheme runs unidirectionally. -/
def madeUni (k : Nat) (s : Device) : Device := modScheme k (fun q => { q with uni := true }) s

theorem protApsMismatch_eq {k : Fin 33} (differ : 50 ≤ (scheme s k.val).apsDiffer) (bi : (scheme s k.val).uni = false) :
    protApsMismatch k s = protEvaluate k.val (faultOn 0x0384 k.val [] (madeUni k.val s)) :=
  if_pos (by simp [differ, bi])

theorem protApsMismatch_spec {k : Fin 33} (switched : 2 ≤ schemeType s k.val) (differ : 50 ≤ (scheme s k.val).apsDiffer) (bi : (scheme s k.val).uni = false)
    (off : (source s 0x0384 k.val).cond = false) :
    (scheme (protApsMismatch k s) k.val).uni = true ∧ (source (protApsMismatch k s) 0x0384 k.val).cond = true ∧
    Faulted 0x0384 k.val s (protApsMismatch k s) ∧
    ∀ j, j ≠ k.val → scheme (protApsMismatch k s) j = scheme s j := by
  rw [protApsMismatch_eq differ bi]
  have type : schemeType (faultOn 0x0384 k.val [] (madeUni k.val s)) k.val = schemeType s k.val :=
    schemeType_of_accord (by simp [madeUni, modScheme]) _
  obtain ⟨uni, _, _, others⟩ := protEvaluate_keeps (Nat.le_trans switched (Nat.le_of_eq type.symm))
  have tribs (j : Nat) : scheme (faultOn 0x0384 k.val [] (madeUni k.val s)) j = scheme (madeUni k.val s) j :=
    scheme_of_tribs (by simp) j
  have sources := sources_protEvaluate k.val (faultOn 0x0384 k.val [] (madeUni k.val s))
  refine ⟨?_, ?_, ?_, fun j hj => ?_⟩
  · rw [uni, tribs, madeUni, scheme_modScheme, if_pos rfl]
  · rw [source_of_sources sources]
    exact source_faultOn _ _ _ _ (isSource_mismatch k)
  · exact ((faulted_faultOn [] (madeUni k.val s) (isSource_mismatch k) off).of_source (source_of_sources sources _ _)).of_before
      rfl rfl
  · rw [others j hj, tribs, madeUni, scheme_modScheme, if_neg hj]

/-- The hold-off of condition `j` has passed. -/
def ripe (q : SchemeSt) (j : Nat) : Bool := expired (Tab.get (fun _ => none) q.holds j)

/-- The conditions of a scheme whose hold-off has passed become requests. -/
def heldOff (k : Nat) (q : SchemeSt) (s : Device) : Device :=
  modScheme k (fun q' => { q' with
    due := q.due ||| BitVec.ofNat 4 (bitmap ((List.range 4).map (ripe q)))
    holds := (List.range 4).foldl (fun t j => if ripe q j then Tab.set (fun _ => none) t j none else t) q'.holds }) s

theorem protHoldOffExpiry_eq {k : Fin 33} {j : Nat} (switched : 2 ≤ schemeType s k.val) (hj : j < 4)
    (passed : (Tab.get (fun _ => none) (scheme s k.val).holds j : Option Nat) = some 0) :
    protHoldOffExpiry k s = protEvaluate k.val (heldOff k.val (scheme s k.val) s) := by
  have some_ripe : ((List.range 4).any (ripe (scheme s k.val))) = true :=
    List.any_eq_true.mpr ⟨j, List.mem_range.mpr hj, by simp [ripe, passed, expired]⟩
  unfold protHoldOffExpiry
  refine if_neg ?_
  change ¬((decide (schemeType s k.val < 2) || !((List.range 4).any (ripe (scheme s k.val)))) = true)
  rw [some_ripe, decide_eq_false (Nat.not_lt.mpr switched)]
  decide

theorem holds_heldOff (q : SchemeSt) (l : List Nat) (t : Tab (Option Nat)) (j : Nat) :
    Tab.get (fun _ => none) (l.foldl (fun t j => if ripe q j then Tab.set (fun _ => none) t j none else t) t) j =
      if j ∈ l ∧ ripe q j = true then none else Tab.get (fun _ => none) t j := by
  induction l generalizing t with
  | nil => simp
  | cons i r ih =>
    rw [List.foldl_cons, ih]
    by_cases hr : ripe q j = true <;> by_cases hm : j ∈ r <;> by_cases hij : j = i <;> by_cases hi : ripe q i = true <;>
      simp_all [Tab.get_set]

theorem protHoldOffExpiry_spec {k : Fin 33} {j : Nat} (switched : 2 ≤ schemeType s k.val) (hj : j < 4)
    (passed : (Tab.get (fun _ => none) (scheme s k.val).holds j : Option Nat) = some 0) :
    (scheme (protHoldOffExpiry k s) k.val).due.getLsbD j = true ∧
    (Tab.get (fun _ => none) (scheme (protHoldOffExpiry k s) k.val).holds j : Option Nat) = none ∧
    (∀ i, i < 4 → (scheme s k.val).due.getLsbD i = true → (scheme (protHoldOffExpiry k s) k.val).due.getLsbD i = true) ∧
    ∀ i, i ≠ k.val → scheme (protHoldOffExpiry k s) i = scheme s i := by
  rw [protHoldOffExpiry_eq switched hj passed]
  obtain ⟨_, due, holds, others⟩ := protEvaluate_keeps (s := heldOff k.val (scheme s k.val) s) (k := k.val) switched
  have is_ripe : ripe (scheme s k.val) j = true := by simp [ripe, passed, expired]
  have held : scheme (heldOff k.val (scheme s k.val) s) k.val = _ := (scheme_modScheme _ _ _ _).trans (if_pos rfl)
  rw [due, holds, held]
  refine ⟨?_, ?_, fun i hi old => ?_, fun i hi => ?_⟩
  · rw [BitVec.getLsbD_or, getLsbD_bitmap _ hj, is_ripe, Bool.or_true]
  · exact (holds_heldOff _ _ _ j).trans (if_pos ⟨List.mem_range.mpr hj, is_ripe⟩)
  · rw [BitVec.getLsbD_or, old, Bool.true_or]
  · rw [others i hi, heldOff, scheme_modScheme, if_neg hi]

/-! ### Wait-to-restore -/

/-- The scheme's wait-to-restore ends. -/
def wtrEnded (k : Nat) (s : Device) : Device := modScheme k (fun q => { q with wtr := none }) s

theorem protWtrExpiry_eq {k : Fin 33} (passed : (scheme s k.val).wtr = some 0) :
    protWtrExpiry k s = protEvaluate k.val (wtrEnded k.val s) :=
  if_pos (by simp [passed, expired])

theorem localRequests_none {q : SchemeSt} (lo : q.lo = false) (fs : q.fs = false) (ms : q.ms = none) (due : q.due = 0)
    (sd : Bool) : localRequests sd q = [] := by
  simp [localRequests, lo, fs, ms, due]

/-- With nothing asked at either end, `NR` is in force and asks for the working side. -/
theorem weighed_nothing {k : Nat} (wtr : (scheme s k).wtr = none) (lo : (scheme s k).lo = false)
    (fs : (scheme s k).fs = false) (ms : (scheme s k).ms = none) (due : (scheme s k).due = 0)
    (wasW : (scheme s k).wasW = false) (dnr : (scheme s k).dnr = false) (far : (scheme s k).farRequest = none) :
    weighed s k = (false, { scheme s k with
      wtr := none, dnr := false, wasW := false, request := 10
      next := if false = (scheme s k).selected then none else some false, bridged := schemeType s k ≠ 4 || false }) := by
  simp [weighed, localRequests_none lo fs ms due, wtr, due, wasW, dnr, far, requestSelects]

theorem scheme_wtrEnded (k : Nat) (s : Device) : scheme (wtrEnded k s) k = { scheme s k with wtr := none } :=
  (scheme_modScheme _ _ _ _).trans (if_pos rfl)

theorem wtrEnded_weighed {k : Nat} (lo : (scheme s k).lo = false)
    (fs : (scheme s k).fs = false) (ms : (scheme s k).ms = none) (due : (scheme s k).due = 0)
    (wasW : (scheme s k).wasW = false) (dnr : (scheme s k).dnr = false) (far : (scheme s k).farRequest = none) :
    weighed (wtrEnded k s) k = (false, { scheme s k with
      wtr := none, dnr := false, wasW := false, request := 10
      next := if false = (scheme s k).selected then none else some false, bridged := schemeType s k ≠ 4 || false }) := by
  have same := scheme_wtrEnded k s
  rw [weighed_nothing (by rw [same]) (by rw [same]; exact lo) (by rw [same]; exact fs) (by rw [same]; exact ms)
    (by rw [same]; exact due) (by rw [same]; exact wasW) (by rw [same]; exact dnr) (by rw [same]; exact far), same]
  rfl

theorem protEvaluate_nothing {k : Nat} (switched : 2 ≤ schemeType s k) (lo : (scheme s k).lo = false)
    (fs : (scheme s k).fs = false) (ms : (scheme s k).ms = none) (due : (scheme s k).due = 0)
    (wasW : (scheme s k).wasW = false) (dnr : (scheme s k).dnr = false) (far : (scheme s k).farRequest = none)
    (request : (scheme s k).request = 8) : protEvaluate k (wtrEnded k s) =
      if (scheme s k).selected then weighedTaken k (wtrEnded k s)
      else raise 0x0502 k 0 [10, 0, 0xFF] (weighedTaken k (wtrEnded k s)) := by
  have switched' : 2 ≤ schemeType (wtrEnded k s) k := switched
  rw [protEvaluate_eq switched', wtrEnded_weighed lo fs ms due wasW dnr far, scheme_wtrEnded, request, far]
  generalize weighedTaken k (wtrEnded k s) = taken
  cases (scheme s k).selected <;> rfl

/-! ### The selector -/

/-- The schemes of the device do not change. -/
def SameSchemes (s t : Device) : Prop := ∀ j, scheme t j = scheme s j

theorem SameSchemes.refl (s : Device) : SameSchemes s s := fun _ => rfl

theorem SameSchemes.trans {s t u : Device} (h : SameSchemes s t) (k : SameSchemes t u) : SameSchemes s u :=
  fun j => (k j).trans (h j)

theorem SameSchemes.each {α : Type} (l : List α) (f : α → Device → Device) (h : ∀ x s, SameSchemes s (f x s))
    (s : Device) : SameSchemes s (Machine.each l f s) := by
  unfold Machine.each
  induction l generalizing s with
  | nil => exact .refl s
  | cons a r ih => exact (h a s).trans (ih (f a s))

theorem sameSchemes_modTrib (line t : Nat) (f : TribSt → TribSt) (s : Device) : SameSchemes s (modTrib line t f s) :=
  fun _ => rfl

theorem sameSchemes_tribFrame (line : Nat) (mark : Bool) (x : TribFrame) (s : Device) :
    SameSchemes s (tribFrame line mark x s) := by
  have noted (b : Bool) (p : List Byte) (u : Device) : SameSchemes u (when b (raise 0x0402 line 0 p) u) := by
    unfold when
    split
    · exact fun j => scheme_raise _ _ _ _ u j
    · exact .refl u
  unfold tribFrame
  split
  · exact .refl s
  · exact (show SameSchemes s _ from sameSchemes_modTrib line x.trib _ _).trans (noted _ _ _)

theorem sameSchemes_evalTribs (s : Device) : SameSchemes s (evalTribs s) :=
  SameSchemes.each _ _ (fun _ s => sameSchemes_modTrib _ _ _ s) s

theorem sameSchemes_lineFrame (c : Carrier) (host : Bool) (i : FrameIn) (s : Device) :
    SameSchemes s (lineFrame c host i s) :=
  scheme_of_tribs ((kept_lineFrame (ρ := .part .tribs) (s₀ := s) c host i s (by decide)).mpr (.refl _ s))

theorem sameSchemes_otucFrame (c : Carrier) (i : FrameIn) (s : Device) :
    SameSchemes (protFrame c s) (otucFrame c false i s) := by
  have line : SameSchemes (protFrame c s) (lineFrame c false i (protFrame c s)) := sameSchemes_lineFrame _ _ _ _
  unfold otucFrame
  simp only [Bool.not_false, when, if_true]
  split
  · exact line
  · exact (line.trans (SameSchemes.each _ _ (fun x s => sameSchemes_tribFrame _ _ x s) _)).trans (sameSchemes_evalTribs _)

theorem protSwitch_other {j k : Nat} (ne : j ≠ k) (s : Device) : scheme (protSwitch k s) j = scheme s j := by
  unfold protSwitch
  dsimp only
  split
  · rfl
  split
  · exact (scheme_modScheme _ _ _ _).trans (if_neg ne)
  · exact (scheme_raise _ _ _ _ _ _).trans ((scheme_modScheme _ _ _ _).trans (if_neg ne))

theorem protSwitch_self {k : Nat} {sel : Bool} (switched : 2 ≤ schemeType s k) (next : (scheme s k).next = some sel) :
    scheme (protSwitch k s) k = { scheme s k with
      selected := sel, next := none, switches := wrap 32 ((scheme s k).switches + 1), lastSwitch := s.timing.now } := by
  unfold protSwitch
  dsimp only
  rw [next]
  dsimp only
  rw [if_neg (Nat.not_lt.mpr switched), scheme_raise, scheme_modScheme, if_pos rfl]

theorem protSwitch_kept (k : Nat) (s : Device) :
    (protSwitch k s).accord = s.accord ∧ (protSwitch k s).timing = s.timing :=
  ⟨(kept_protSwitch (ρ := .part .accord) (s₀ := s) k s (by decide)).mpr (.refl _ s),
    (kept_protSwitch (ρ := .part .timing) (s₀ := s) k s (by decide)).mpr (.refl _ s)⟩

/-- A frame of carrier `c` makes the switch of a scheme that waits for it. -/
def frameSwitch (c : Carrier) (k : Nat) (s : Device) : Device := when (receivingLine s k = some c) (protSwitch k) s

theorem frameSwitch_other {j k : Nat} (ne : j ≠ k) (c : Carrier) (s : Device) :
    scheme (frameSwitch c k s) j = scheme s j ∧ (frameSwitch c k s).accord = s.accord ∧
      (frameSwitch c k s).timing = s.timing := by
  unfold frameSwitch when
  split
  · exact ⟨protSwitch_other ne s, protSwitch_kept k s⟩
  · exact ⟨rfl, rfl, rfl⟩

theorem frameSwitches_absent {k : Nat} (c : Carrier) {l : List Nat} (absent : k ∉ l) (s : Device) :
    scheme (each l (frameSwitch c) s) k = scheme s k ∧ (each l (frameSwitch c) s).accord = s.accord ∧
      (each l (frameSwitch c) s).timing = s.timing := by
  unfold each
  induction l generalizing s with
  | nil => exact ⟨rfl, rfl, rfl⟩
  | cons i r ih =>
    obtain ⟨ne, absent⟩ := List.ne_and_not_mem_of_not_mem_cons absent
    obtain ⟨h1, h2, h3⟩ := frameSwitch_other ne c s
    obtain ⟨k1, k2, k3⟩ := ih absent (frameSwitch c i s)
    exact ⟨k1.trans h1, k2.trans h2, k3.trans h3⟩

theorem receivingLine_next {k : Nat} {sel : Bool} (by_line : schemeType s k ≠ 5) (next : (scheme s k).next = some sel) :
    receivingLine s k = some (if sel then .b else .a) := by
  unfold receivingLine
  rw [next]
  exact if_neg by_line

theorem schemeList_split (k : Fin 33) : ∃ l r, schemeList = l ++ k.val :: r ∧ k.val ∉ l ∧ k.val ∉ r := by
  obtain ⟨l, r, h⟩ := List.append_of_mem (List.mem_range.mpr k.isLt)
  have nodup : (l ++ k.val :: r).Nodup := h ▸ List.nodup_range
  obtain ⟨_, tail, apart⟩ := List.nodup_append.mp nodup
  exact ⟨l, r, h, fun before => apart _ before _ List.mem_cons_self rfl, (List.nodup_cons.mp tail).1⟩

theorem scheme_protFrame {k : Fin 33} {c : Carrier} {sel : Bool} (switched : 2 ≤ schemeType s k.val)
    (by_line : schemeType s k.val ≠ 5) (next : (scheme s k.val).next = some sel) (line : c = if sel then .b else .a) :
    scheme (protFrame c s) k.val = { scheme s k.val with
      selected := sel, next := none, switches := wrap 32 ((scheme s k.val).switches + 1), lastSwitch := s.timing.now } := by
  obtain ⟨l, r, split, before, later⟩ := schemeList_split k
  obtain ⟨same, accord, timing⟩ := frameSwitches_absent c before s
  have type := schemeType_of_accord accord k.val
  have frame : protFrame c s = each r (frameSwitch c) (frameSwitch c k.val (each l (frameSwitch c) s)) := by
    change each schemeList (frameSwitch c) s = _
    rw [split]
    exact List.foldl_append
  have due : receivingLine (each l (frameSwitch c) s) k.val = some c := by
    rw [receivingLine_next (by rwa [type]) (by rw [same, next]), line]
  rw [frame, (frameSwitches_absent c later _).1, frameSwitch, when, decide_eq_true due]
  exact (protSwitch_self (Nat.le_trans switched (Nat.le_of_eq type.symm)) (by rw [same, next])).trans (by rw [same, timing])

end

/-- Settles O25: APS received, a mismatch, a hold-off, wait-to-restore and the switch at a frame, scheme by scheme. -/
theorem protectionEvents : Obligations.ProtectionEvents := by
  unfold Obligations.ProtectionEvents
  refine ⟨?_, ?_, ?_, ?_, ?_⟩
  · intro s k b aps length
    refine yields_of rfl (apsReceived_eq (s := putOut [] s.dev) (by simpa using aps) length) ?_
    simp only [only_drivePins_iff, scheme_drivePins, scheme_modScheme, scheme_putOut]
    exact ⟨if_pos trivial, fun j hj => if_neg hj, only_of_kept fun ρ hρ => by simp at hρ; simp [hρ]⟩
  · intro s k switched differ bi off
    refine yields_of rfl rfl ?_
    have spec := protApsMismatch_spec (s := putOut [] s.dev) (k := k) (by simpa using switched) (by simpa using differ)
      (by simpa using bi) (by simpa using off)
    refine ⟨by simpa using spec.1, by simpa using spec.2.1, by simpa using spec.2.2.1, by simpa using spec.2.2.2, ?_⟩
    simp only [only_drivePins_iff]
    exact only_of_kept fun ρ hρ => by simp [Part.ofFault] at hρ; simp [hρ]
  · intro s k j switched hj passed
    refine yields_of rfl rfl ?_
    have spec := protHoldOffExpiry_spec (s := putOut [] s.dev) (k := k) (by simpa using switched) hj (by simpa using passed)
    simp only [scheme_putOut] at spec
    obtain ⟨h1, h2, h3, h4⟩ := spec
    simp only [only_drivePins_iff, scheme_drivePins]
    exact ⟨h1, h2, h3, h4, only_of_kept fun ρ hρ => by simp at hρ; simp [hρ]⟩
  · intro s k switched passed lo fs ms due wasW dnr far request next
    have switched' : 2 ≤ schemeType (wtrEnded k.val (putOut [] s.dev)) k.val := switched
    have weighed := wtrEnded_weighed (s := putOut [] s.dev) (k := k.val) lo fs ms due wasW dnr far
    have other (i : Nat) (hi : i ≠ k.val) : scheme (wtrEnded k.val (putOut [] s.dev)) i = scheme s.dev i := by
      rw [wtrEnded, scheme_modScheme, if_neg hi, scheme_putOut]
    have evaluated := protEvaluate_nothing (s := putOut [] s.dev) (k := k.val) switched lo fs ms due wasW dnr far request
    refine yields_of rfl (protWtrExpiry_eq (s := putOut [] s.dev) (by simpa using passed)) ?_
    simp only [only_drivePins_iff, raised_drivePins, scheme_drivePins, scheme_protEvaluate switched', weighed, scheme_putOut]
    refine ⟨by simp, by simp, by simp, ?_, fun working => ?_, fun protection => ?_, fun i hi => ?_⟩
    · cases (scheme s.dev k.val).selected <;> simp
    · rw [evaluated, scheme_putOut, working]
      obtain ⟨evq, stack, timing⟩ := weighedTaken_beside k.val (wtrEnded k.val (putOut [] s.dev))
      exact ⟨(raised_raise _ _ _ _ _).of_before evq (by rw [stack]; rfl) timing,
        only_of_kept fun ρ hρ => by simp at hρ; simp [hρ, wtrEnded, weighedTaken]⟩
    · rw [evaluated, scheme_putOut, protection]
      exact only_of_kept fun ρ hρ => by simp at hρ; simp [hρ, wtrEnded, weighedTaken]
    · rw [if_neg hi, other i hi]
  · intro s k c i sel switched by_line next line
    refine yields_of rfl rfl ?_
    have made := (sameSchemes_otucFrame c i (putOut [] s.dev) k.val).trans
      (scheme_protFrame (by simpa using switched) (by simpa using by_line) (by simpa using next) line)
    simp only [scheme_drivePins, drivePins_tx, drivePins_rx]
    refine ⟨by simpa using made, ?_, ?_⟩
    · exact (kept_otucFrame (ρ := .part .tx) (s₀ := putOut [] s.dev) c false i _ (by decide)).mpr (.refl _ _)
    · exact (kept_otucFrame (ρ := .part .rx) (s₀ := putOut [] s.dev) c false i _ (by decide)).mpr (.refl _ _)

end Sys2Proof.Machine

/-!
The hitless merge of two copies (08_tributaries_groups_protection R372 to R379).
-/
namespace Sys2Proof.Machine
open Sys2Proof

section
variable {s : Device} {c : Carrier}

/-! ### The state of a copy -/

/-- The copy of a carrier takes a state. -/
def copyMoved (c : Carrier) (st : CopyState) (s : Device) : Device :=
  modScheme 0 (fun q => { q with copies := q.copies.mod c fun k => { k with state := st } }) s

theorem setCopy_eq {st : CopyState} (new : ((scheme s 0).copies.get c).state ≠ st) : setCopy c st s =
    raise 0x0501 0 0 (le 1 c.num ++ le 1 ((scheme s 0).copies.get c).state.code ++ le 1 st.code) (copyMoved c st s) :=
  if_neg new

theorem scheme_setCopy {st : CopyState} (new : ((scheme s 0).copies.get c).state ≠ st) :
    scheme (setCopy c st s) 0 = { scheme s 0 with
      copies := (scheme s 0).copies.mod c fun k => { k with state := st } } := by
  rw [setCopy_eq new, scheme_raise, copyMoved, scheme_modScheme, if_pos rfl]

theorem setCopy_copies {st : CopyState} (new : ((scheme s 0).copies.get c).state ≠ st) :
    ((scheme (setCopy c st s) 0).copies.get c).state = st ∧
    (scheme (setCopy c st s) 0).copies.get c.other = (scheme s 0).copies.get c.other := by
  rw [scheme_setCopy new]
  exact ⟨by simp, by simp⟩

theorem raised_setCopy {st : CopyState} (new : ((scheme s 0).copies.get c).state ≠ st) :
    Raised 0x0501 0 0 (le 1 c.num ++ le 1 ((scheme s 0).copies.get c).state.code ++ le 1 st.code) s (setCopy c st s) := by
  rw [setCopy_eq new]
  exact (raised_raise _ _ _ _ _).of_before rfl rfl rfl

theorem mergeCopy_absent {behind lead : Int} (merge : merging s = true) (absent : copyAbsent s c = true) :
    mergeCopy c behind lead s = setCopy c .absent s := by
  simp [mergeCopy, merge, absent]

theorem mergeCopy_returns {behind lead : Int} (merge : merging s = true) (here : copyAbsent s c = false)
    (was : ((scheme s 0).copies.get c).state = .absent) : mergeCopy c behind lead s = setCopy c
      (if !(scheme s 0).releasing || decide ((protSet s 0 10 * US : Int) ≤ 2 * lead) then .aligned else .unaligned) s := by
  simp only [mergeCopy, merge, here, was]
  rfl

theorem mergeCopy_late {behind lead : Int} (merge : merging s = true) (here : copyAbsent s c = false)
    (was : ((scheme s 0).copies.get c).state = .aligned) (late : (150 * MS : Int) < behind)
    (other : ((scheme s 0).copies.get c.other).state ≠ .absent) :
    mergeCopy c behind lead s = fault 0x0383 0 [] (setCopy c .unaligned s) := by
  simp only [mergeCopy, merge, here, was]
  have due : (decide ((150 * MS : Int) < behind) && decide (((scheme s 0).copies.get c.other).state ≠ .absent)) = true := by
    rw [decide_eq_true late, decide_eq_true other]
    rfl
  exact if_pos due

/-! ### A frame period -/

/-- Both copies aligned and there: their offsets from the release time of the later one. -/
def bothOffset (i : MergeIn) (guard : Int) (q : SchemeSt) : SchemeSt :=
  { q with
    copies := ⟨{ q.copies.a with arrival := i.arrival.a, offset := (max i.arrival.a i.arrival.b : Nat) + guard - (i.arrival.a : Int) },
      { q.copies.b with arrival := i.arrival.b, offset := (max i.arrival.a i.arrival.b : Nat) + guard - (i.arrival.b : Int) }⟩
    realign := false, releasing := true, diffDelay := ((i.arrival.b : Int) - i.arrival.a) * 256 / US }

theorem scheme_mergeOffsets_both {i : MergeIn} (no_realign : (scheme s 0).realign = false)
    (a : (scheme s 0).copies.a.state = .aligned) (b : (scheme s 0).copies.b.state = .aligned)
    (ha : i.present.a = true) (hb : i.present.b = true) :
    scheme (mergeOffsets i s) 0 = bothOffset i (protSet s 0 10 * US : Int) (scheme s 0) := by
  have latest : ((max i.arrival.a i.arrival.b : Nat) : Int) = max (i.arrival.a : Int) i.arrival.b := by omega
  simp [mergeOffsets, no_realign, scheme_modScheme, Two.get, a, b, ha, hb, bothOffset, latest]

theorem scheme_mergeOffsets_none {i : MergeIn} (no_realign : (scheme s 0).realign = false)
    (ha : i.present.a = false) (hb : i.present.b = false) :
    scheme (mergeOffsets i s) 0 = { scheme s 0 with realign := false } := by
  simp [mergeOffsets, no_realign, scheme_modScheme, Two.get, ha, hb]

theorem mergeOffsets_kept (i : MergeIn) (s : Device) : (mergeOffsets i s).line = s.line ∧
    (mergeOffsets i s).settings = s.settings ∧ (mergeOffsets i s).pendSet = s.pendSet ∧
    (mergeOffsets i s).accord = s.accord :=
  ⟨(kept_mergeOffsets (ρ := .part .line) (s₀ := s) i s (by decide)).mpr (.refl _ s),
    (kept_mergeOffsets (ρ := .part .settings) (s₀ := s) i s (by decide)).mpr (.refl _ s),
    (kept_mergeOffsets (ρ := .part .pendSet) (s₀ := s) i s (by decide)).mpr (.refl _ s),
    (kept_mergeOffsets (ρ := .part .accord) (s₀ := s) i s (by decide)).mpr (.refl _ s)⟩

theorem protSet_mergeOffsets (i : MergeIn) (s : Device) (k off : Nat) : protSet (mergeOffsets i s) k off = protSet s k off := by
  obtain ⟨_, settings, pend, accord⟩ := mergeOffsets_kept i s
  rw [protSet, protSet, inForce_congr settings pend accord]

theorem mergePref_mergeOffsets (i : MergeIn) (s : Device) : mergePref (mergeOffsets i s) = mergePref s := by
  obtain ⟨line, _⟩ := mergeOffsets_kept i s
  have sd (c : Carrier) : lineSd (mergeOffsets i s) c = lineSd s c := by simp [lineSd, line]
  simp only [mergePref, sd, protSet_mergeOffsets]

/-- With both copies there, the preferred one is taken unless it is marked and the other is not. -/
theorem mergePick_both {i : MergeIn} (a : (scheme s 0).copies.a.state = .aligned)
    (b : (scheme s 0).copies.b.state = .aligned) (ha : i.present.a = true) (hb : i.present.b = true) :
    mergePick s i = if i.marked.get (mergePref s) && !i.marked.get (mergePref s).other then some ((mergePref s).other, false)
      else some (mergePref s, i.marked.get (mergePref s)) := by
  have ok (c : Carrier) : (decide (((scheme s 0).copies.get c).state = .aligned) && i.present.get c) = true := by
    cases c <;> simp [Two.get, a, b, ha, hb]
  simp only [mergePick, ok]
  cases hp : i.marked.get (mergePref s) <;> cases ho : i.marked.get (mergePref s).other <;> simp [List.find?, hp, ho]

theorem mergePick_none {i : MergeIn} (ha : i.present.a = false) (hb : i.present.b = false) : mergePick s i = none := by
  have not_ok (c : Carrier) : (decide (((scheme s 0).copies.get c).state = .aligned) && i.present.get c) = false := by
    cases c <;> simp [Two.get, ha, hb]
  simp only [mergePick, not_ok]
  simp [List.find?]

/-- The merge counts what it delivers. -/
def mergeTaken (pick : Option (Carrier × Bool)) (s : Device) : Device :=
  match pick with
  | some (c, bad) => modScheme 0 (fun q => { q with
      selected := c = .b, bothBad := wrap 32 (q.bothBad + bit bad)
      selB := wrap 32 (q.selB + bit (c ≠ Carrier.ofNum (protSet s 0 8))) }) s
  | none => modScheme 0 (fun q => { q with noneCount := wrap 32 (q.noneCount + 1) }) s

theorem sameSchemes_mergeFrameRelease {i : MergeIn} (merge : merging s = true) : SameSchemes
    (mergeTaken (mergePick (mergeOffsets i s) i) (mergeOffsets i s)) (mergeFrameRelease i s) := by
  have side (v : Nat) (u : Device) :
      SameSchemes u (modSide .a false (fun d => { d with stat := statStep v d.stat }) u) := fun _ => rfl
  have frames (ais : Bool) (u : Device) :
      SameSchemes u (if ais then u else each i.frame.tribs (tribFrame 0 i.frame.mark) u) := by
    split
    · exact .refl u
    · exact SameSchemes.each _ _ (fun x s => sameSchemes_tribFrame _ _ x s) u
  have line (c : Carrier) (u : Device) : SameSchemes u (evalLine c u) :=
    scheme_of_tribs ((kept_evalLine (ρ := .part .tribs) (s₀ := u) c u (by decide)).mpr (.refl _ u))
  unfold mergeFrameRelease
  simp only [merge]
  refine ((((?_ : SameSchemes _ _).trans (side _ _)).trans (frames _ _)).trans ((line .a _).trans (line .b _))).trans
    (sameSchemes_evalTribs _)
  exact .refl _

theorem scheme_mergeTaken_some (c : Carrier) (bad : Bool) (s : Device) : ∃ selB,
    scheme (mergeTaken (some (c, bad)) s) 0 = { scheme s 0 with
      selected := c = .b, bothBad := wrap 32 ((scheme s 0).bothBad + bit bad), selB := selB } :=
  ⟨_, (scheme_modScheme _ _ _ _).trans (if_pos rfl)⟩

theorem scheme_mergeTaken_none (s : Device) : scheme (mergeTaken none s) 0 =
    { scheme s 0 with noneCount := wrap 32 ((scheme s 0).noneCount + 1) } :=
  (scheme_modScheme _ _ _ _).trans (if_pos rfl)

/-- What a frame period of two aligned copies leaves in the record of the merge. -/
theorem mergeFrameRelease_both {i : MergeIn} (merge : merging s = true) (no_realign : (scheme s 0).realign = false)
    (a : (scheme s 0).copies.a.state = .aligned) (b : (scheme s 0).copies.b.state = .aligned)
    (ha : i.present.a = true) (hb : i.present.b = true) : ∃ selB, scheme (mergeFrameRelease i s) 0 =
      { bothOffset i (protSet s 0 10 * US : Int) (scheme s 0) with
        selected := decide ((if i.marked.get (mergePref s) && !i.marked.get (mergePref s).other then (mergePref s).other
          else mergePref s) = .b)
        bothBad := wrap 32 ((scheme s 0).bothBad + bit (i.marked.get (mergePref s) && i.marked.get (mergePref s).other))
        selB := selB } := by
  have offsets := scheme_mergeOffsets_both no_realign a b ha hb
  have pick := mergePick_both (s := mergeOffsets i s) (i := i) (by rw [offsets]; exact a) (by rw [offsets]; exact b) ha hb
  rw [mergePref_mergeOffsets] at pick
  rw [sameSchemes_mergeFrameRelease merge 0, pick]
  cases hp : i.marked.get (mergePref s) <;> cases ho : i.marked.get (mergePref s).other
  all_goals
    simp only [Bool.not_true, Bool.not_false, Bool.and_true, Bool.and_false, Bool.false_eq_true, if_false, if_true]
    obtain ⟨selB, taken⟩ := scheme_mergeTaken_some _ _ (mergeOffsets i s)
    exact ⟨selB, by rw [taken, offsets]; rfl⟩

theorem mergeFrameRelease_none {i : MergeIn} (merge : merging s = true) (no_realign : (scheme s 0).realign = false)
    (ha : i.present.a = false) (hb : i.present.b = false) : scheme (mergeFrameRelease i s) 0 =
      { scheme s 0 with realign := false, noneCount := wrap 32 ((scheme s 0).noneCount + 1) } := by
  rw [sameSchemes_mergeFrameRelease merge 0, mergePick_none ha hb, scheme_mergeTaken_none,
    scheme_mergeOffsets_none no_realign ha hb]

theorem mergeFrameRelease_kept (i : MergeIn) (s : Device) :
    (mergeFrameRelease i s).tx = s.tx ∧ (mergeFrameRelease i s).rx = s.rx :=
  ⟨(kept_mergeFrameRelease (ρ := .part .tx) (s₀ := s) i s (by decide)).mpr (.refl _ s),
    (kept_mergeFrameRelease (ρ := .part .rx) (s₀ := s) i s (by decide)).mpr (.refl _ s)⟩

@[simp] theorem merging_putOut (o : List Output) (s : Device) : merging (putOut o s) = merging s := by simp [merging]

@[simp] theorem copyAbsent_putOut (o : List Output) (s : Device) (c : Carrier) :
    copyAbsent (putOut o s) c = copyAbsent s c := by simp [copyAbsent]

@[simp] theorem lineSd_putOut (o : List Output) (s : Device) (c : Carrier) : lineSd (putOut o s) c = lineSd s c := rfl

@[simp] theorem mergePref_putOut (o : List Output) (s : Device) : mergePref (putOut o s) = mergePref s := by
  simp [mergePref]

end

/-- Settles O26: a copy that goes absent, returns or falls behind, and a frame period with both copies or with none. -/
theorem hitlessMerge : Obligations.HitlessMerge := by
  unfold Obligations.HitlessMerge
  refine ⟨?_, ?_, ?_, ?_, ?_⟩
  · intro s c behind lead merge absent was
    have new : ((scheme (putOut [] s.dev) 0).copies.get c).state ≠ .absent := by simpa using was
    refine yields_of rfl (mergeCopy_absent (s := putOut [] s.dev) (by simpa using merge) (by simpa using absent)) ?_
    obtain ⟨moved, other⟩ := setCopy_copies new
    have raised := raised_setCopy new
    simp only [only_drivePins_iff, raised_drivePins, scheme_drivePins]
    simp only [scheme_putOut, raised_putOut] at moved other raised
    exact ⟨moved, other, raised, only_of_kept fun ρ hρ => by simp at hρ; simp [hρ]⟩
  · intro s c behind lead merge here was
    refine yields_of rfl (mergeCopy_returns (s := putOut [] s.dev) (behind := behind) (lead := lead) (by simpa using merge)
      (by simpa using here) (by simpa using was)) ?_
    have new (st : CopyState) (h : st ≠ .absent) : ((scheme (putOut [] s.dev) 0).copies.get c).state ≠ st := by
      rw [scheme_putOut, was]
      exact h.symm
    have back (b : Bool) : (if b then CopyState.aligned else .unaligned) ≠ .absent := by cases b <;> decide
    simp only [only_drivePins_iff, scheme_drivePins]
    refine ⟨?_, ?_, only_of_kept fun ρ hρ => by simp at hρ; simp [hρ]⟩
    · rw [(setCopy_copies (new _ (back _))).1, scheme_putOut, protSet_putOut]
      generalize (protSet s.dev 0 10 : Int) * (US : Nat) = guard
      rcases (show 2 * lead < guard ∨ guard ≤ 2 * lead by omega) with early | late
      · cases (scheme s.dev 0).releasing <;> simp [early, Int.not_le.mpr early]
      · cases (scheme s.dev 0).releasing <;> simp [late, Int.not_lt.mpr late]
    · exact (setCopy_copies (new _ (back _))).2.trans (by simp)
  · intro s c behind lead merge here was late other
    have new : ((scheme (putOut [] s.dev) 0).copies.get c).state ≠ .unaligned := by simp [was]
    refine yields_of rfl (mergeCopy_late (s := putOut [] s.dev) (lead := lead) (by simpa using merge) (by simpa using here)
      (by simpa using was) late (by simpa using other)) ?_
    obtain ⟨moved, kept⟩ := setCopy_copies new
    have raised := raised_setCopy new
    have faulted := faulted_fault [] (setCopy c .unaligned (putOut [] s.dev)) (id := 0x0383) (inst := 0) (by decide)
    have tribs : scheme (fault 0x0383 0 [] (setCopy c .unaligned (putOut [] s.dev))) 0 =
        scheme (setCopy c .unaligned (putOut [] s.dev)) 0 := scheme_of_tribs (by simp) 0
    simp only [only_drivePins_iff, raised_drivePins, faulted_drivePins, scheme_drivePins, tribs]
    refine ⟨moved, ?_, ?_, kept.trans (by simp), only_of_kept fun ρ hρ => by simp [Part.ofFault] at hρ; simp [hρ]⟩
    · refine faulted.of_before ?_ ?_
      · rw [setCopy_eq new]
        rfl
      · rw [setCopy_eq new]
        rfl
    · rw [scheme_putOut, was, raised_putOut] at raised
      exact (fault_evq _ _ _ _).trans raised
  · intro s i p merge no_realign hp a b ha hb
    subst hp
    refine yields_of rfl rfl ?_
    obtain ⟨selB, after⟩ := mergeFrameRelease_both (s := putOut [] s.dev) (i := i) (by simpa using merge)
      (by simpa using no_realign) (by simpa using a) (by simpa using b) ha hb
    obtain ⟨tx, rx⟩ := mergeFrameRelease_kept i (putOut [] s.dev)
    simp only [scheme_putOut, mergePref_putOut, protSet_putOut] at after
    simp only [scheme_drivePins, drivePins_tx, drivePins_rx, after]
    refine ⟨fun clean => ?_, fun marked clean => ?_, trivial, fun c => ?_, rfl, rfl, tx, rx⟩
    · simp [clean]
    · simp [marked, clean]
    · cases c <;> rfl
  · intro s i merge no_realign ha hb
    refine yields_of rfl rfl ?_
    have after := mergeFrameRelease_none (s := putOut [] s.dev) (i := i) (by simpa using merge) (by simpa using no_realign) ha hb
    obtain ⟨tx, rx⟩ := mergeFrameRelease_kept i (putOut [] s.dev)
    simp only [scheme_putOut] at after
    simp only [scheme_drivePins, drivePins_tx, drivePins_rx, after]
    exact ⟨trivial, trivial, trivial, tx, rx⟩

end Sys2Proof.Machine

/-!
Line groups (08_tributaries_groups_protection R358 to R368): records, the release of a superframe, loss of alignment.
-/
namespace Sys2Proof.Machine
open Sys2Proof

section
variable {s : Device}

/-! ### Groups -/

theorem grp_modGrp (g j : Nat) (f : GroupSt → GroupSt) (s : Device) :
    grp (modGrp g f s) j = if j = g then f (grp s g) else grp s j := by
  simp only [grp, modGrp, putTribs_tribs, Tab.get_modify]

theorem grp_of_tribs {t : Device} (h : t.tribs = s.tribs) (j : Nat) : grp t j = grp s j := by simp [grp, h]

theorem membersHere_of {t : Device} (accord : t.accord = s.accord) (stackId : t.stack.stackId = s.stack.stackId) (g : Nat) :
    membersHere t g = membersHere s g := by
  simp [membersHere, plan, accord, stackId]

theorem sbPort_modPort (i j : Nat) (f : SbPort → SbPort) (s : Device) :
    sbPort (modPort i f s) j = if j = i then f (sbPort s i) else sbPort s j := by
  simp only [sbPort, modPort, modStack_stack, Tab.get_modify]

/-! ### Records -/

theorem groupRecordReceived_ignored {p : Fin 4} {x : GrpRecItem}
    (old : 8 ≤ x.hops + 1 ∨ [0, x.origin, x.grp, x.member, x.g] ∈ s.stack.seen) : groupRecordReceived p x s = s :=
  if_pos (by simpa using old)

/-- A record is noted as seen. -/
def recordSeen (x : GrpRecItem) (s : Device) : Device :=
  modStack (fun st => { st with seen := ([0, x.origin, x.grp, x.member, x.g] :: st.seen).take 4096 }) s

/-- A record is queued on a port with one hop more. -/
def recordQueued (x : GrpRecItem) (i : Nat) (s : Device) : Device :=
  modPort i (fun q => { q with recs := q.recs ++ [{ x with hops := x.hops + 1 }] }) s

theorem groupRecordReceived_new {p : Fin 4} {x : GrpRecItem} (near : x.hops + 1 < 8)
    (fresh : [0, x.origin, x.grp, x.member, x.g] ∉ s.stack.seen) : groupRecordReceived p x s =
      storeRec x (each (others p.val (recordSeen x s)) (recordQueued x) (recordSeen x s)) := by
  have taken : takeRec p.val x s = each (others p.val (recordSeen x s)) (recordQueued x) (recordSeen x s) := by
    unfold takeRec noteSeen
    rw [if_neg (Nat.not_le.mpr near), if_neg fresh]
    rfl
  unfold groupRecordReceived
  rw [taken]
  exact if_neg (by simp [fresh]; omega)

theorem recordsQueued_spec (x : GrpRecItem) {l : List Nat} (nodup : l.Nodup) (s : Device) :
    (∀ i, i ∈ l → (sbPort (each l (recordQueued x) s) i).recs = (sbPort s i).recs ++ [{ x with hops := x.hops + 1 }]) ∧
    (∀ i, i ∉ l → sbPort (each l (recordQueued x) s) i = sbPort s i) ∧
    (each l (recordQueued x) s).stack.seen = s.stack.seen ∧
    (each l (recordQueued x) s).stack.stackId = s.stack.stackId := by
  unfold each
  induction l generalizing s with
  | nil => exact ⟨fun i hi => by simp at hi, fun _ _ => rfl, rfl, rfl⟩
  | cons j r ih =>
    obtain ⟨absent, nodup⟩ := List.nodup_cons.mp nodup
    obtain ⟨queued, others, seen, stackId⟩ := ih nodup (recordQueued x j s)
    have port (i : Nat) : sbPort (recordQueued x j s) i = _ := sbPort_modPort j i _ s
    refine ⟨fun i hi => ?_, fun i hi => ?_, seen, stackId⟩
    · rw [List.foldl_cons]
      rcases List.mem_cons.mp hi with rfl | hi
      · rw [others i absent, port, if_pos rfl]
      · have ne : i ≠ j := fun h => absent (h ▸ hi)
        rw [queued i hi, port, if_neg ne]
    · rw [List.mem_cons, not_or] at hi
      rw [List.foldl_cons, others i hi.2, port, if_neg hi.1]

theorem storeRec_eq {x : GrpRecItem} (members : membersHere s x.grp ≠ []) : ∃ next : GroupSt → Bool, storeRec x s =
    modGrp x.grp (fun q => { q with
      recs := Tab.set (fun _ => []) q.recs x.member
        (({ g := x.g, rxState := x.state, sf := x.sf, next := next q, arrival := x.arr } ::
          Tab.get (fun _ => []) q.recs x.member).take 32) }) s :=
  ⟨fun q => match (Tab.get (fun _ => []) q.recs x.member : List GroupRec).head? with
    | some y => x.g = wrap 32 (y.g + 1) | none => true, if_neg (by simpa using members)⟩

theorem groupRecordReceived_spec {p : Fin 4} {x : GrpRecItem} (near : x.hops + 1 < 8)
    (fresh : [0, x.origin, x.grp, x.member, x.g] ∉ s.stack.seen) (members : membersHere s x.grp ≠ []) :
    [0, x.origin, x.grp, x.member, x.g] ∈ (groupRecordReceived p x s).stack.seen ∧
    (∃ r, (Tab.get (fun _ => []) (grp (groupRecordReceived p x s) x.grp).recs x.member : List GroupRec) =
        (r :: Tab.get (fun _ => []) (grp s x.grp).recs x.member).take 32 ∧
      r.g = x.g ∧ r.rxState = x.state ∧ r.sf = x.sf ∧ r.arrival = x.arr) ∧
    (∀ i, i ∈ others p.val s → (sbPort (groupRecordReceived p x s) i).recs =
      (sbPort s i).recs ++ [{ x with hops := x.hops + 1 }]) ∧
    ∀ g, g ≠ x.grp → grp (groupRecordReceived p x s) g = grp s g := by
  rw [groupRecordReceived_new near fresh]
  have nodup : (others p.val (recordSeen x s)).Nodup := List.Pairwise.filter _ (show List.Nodup _ by decide)
  obtain ⟨queued, _, seen, stackId⟩ := recordsQueued_spec x nodup (recordSeen x s)
  have tribs : (each (others p.val (recordSeen x s)) (recordQueued x) (recordSeen x s)).tribs = s.tribs :=
    ((kept_each (ρ := .part .tribs) (s₀ := recordSeen x s) _ _ _ fun _ _ => by simp [recordQueued]).mpr (.refl _ _))
  have accord : (each (others p.val (recordSeen x s)) (recordQueued x) (recordSeen x s)).accord = s.accord :=
    ((kept_each (ρ := .part .accord) (s₀ := recordSeen x s) _ _ _ fun _ _ => by simp [recordQueued]).mpr (.refl _ _))
  generalize each (others p.val (recordSeen x s)) (recordQueued x) (recordSeen x s) = u at queued seen stackId tribs accord
  obtain ⟨next, stored⟩ := storeRec_eq (s := u) (x := x) (by rw [membersHere_of accord stackId]; exact members)
  rw [stored]
  refine ⟨?_, ?_, fun i hi => queued i hi, fun g hg => ?_⟩
  · change _ ∈ u.stack.seen
    rw [seen]
    simp [recordSeen]
  · rw [grp_modGrp, if_pos rfl, Tab.get_set_self, grp_of_tribs tribs]
    exact ⟨_, rfl, rfl, rfl, rfl, rfl⟩
  · rw [grp_modGrp, if_neg hg, grp_of_tribs tribs]

/-! ### Loss of alignment -/

theorem triggered_faultCond (id inst : Nat) (holds : Bool) (detail : List Byte) (s : Device) :
    Triggered s (faultCond id inst holds detail s) := by
  unfold faultCond
  split
  · exact triggered_faultOn _ _ _ s
  · exact triggered_faultOff _ _ s

theorem groupFaults_stackId (g : GroupPlan) (s : Device) : (groupFaults g s).stack.stackId = s.stack.stackId :=
  ((triggered_faultCond _ _ _ _ s).trans (triggered_faultCond _ _ _ _ _)).stackId

theorem groupFaults_kept (g : GroupPlan) (s : Device) : (groupFaults g s).accord = s.accord ∧
    (groupFaults g s).tribs = s.tribs ∧ (groupFaults g s).rx = s.rx ∧ (groupFaults g s).line = s.line ∧
    (groupFaults g s).out = s.out := by
  simp [groupFaults]

theorem loaCond_of {t : Device} (accord : t.accord = s.accord) (stackId : t.stack.stackId = s.stack.stackId)
    (rx : t.rx = s.rx) (line : t.line = s.line) (g : GroupPlan) (tribs : grp t g.group = grp s g.group) :
    loaCond t g = loaCond s g := by
  simp only [loaCond, sigBad, groupSigRx, membersHere_of accord stackId, rx, line, tribs]
  rfl

theorem loaCond_groupFaults (g : GroupPlan) (s : Device) : loaCond (groupFaults g s) g = loaCond s g := by
  obtain ⟨accord, tribs, rx, line, _⟩ := groupFaults_kept g s
  exact loaCond_of accord (groupFaults_stackId g s) rx line g (grp_of_tribs tribs _)

/-- The group state goes out and the lines of the group follow it. -/
def groupFollows (g : Nat) (s : Device) : Device := evalGroupLines g (sendGroupState g s)

theorem groupFollows_tribs (g : Nat) (s : Device) : (groupFollows g s).tribs = s.tribs :=
  ((kept_evalGroupLines (ρ := .part .tribs) (s₀ := s) g _ (by decide)).trans
    (kept_sendGroupState (ρ := .part .tribs) (s₀ := s) g s (by decide))).mpr (.refl _ s)

theorem groupLoaChange_begins {k : Fin 16} {g : GroupPlan} (defined : ((plan s).groups.find? fun g => g.group = k.val) = some g)
    (members : membersHere s g.group ≠ []) (cond : loaCond s g = true) (clear : (grp s g.group).loa = false) :
    groupLoaChange k s =
      groupFollows g.group (modGrp g.group (fun q => { q with loa := true, clean := 0 }) (groupFaults g s)) := by
  have same : grp (groupFaults g s) g.group = grp s g.group := grp_of_tribs (groupFaults_kept g s).2.1 _
  unfold groupLoaChange
  rw [defined]
  dsimp only
  rw [if_neg (by simpa using members), loaCond_groupFaults, same]
  exact if_pos (by simp [cond, clear])

theorem groupLoaChange_ends {k : Fin 16} {g : GroupPlan} (defined : ((plan s).groups.find? fun g => g.group = k.val) = some g)
    (members : membersHere s g.group ≠ []) (cond : loaCond s g = false) (set : (grp s g.group).loa = true)
    (clean : 8 ≤ (grp s g.group).clean) : groupLoaChange k s =
      groupFollows g.group (modGrp g.group (fun q => { q with loa := false }) (groupFaults g s)) := by
  have same : grp (groupFaults g s) g.group = grp s g.group := grp_of_tribs (groupFaults_kept g s).2.1 _
  unfold groupLoaChange
  rw [defined]
  dsimp only
  rw [if_neg (by simpa using members), loaCond_groupFaults, same, if_neg (by simp [cond])]
  exact if_pos (by simp [cond, set, clean])

theorem grp_groupFollows (g : GroupPlan) (f : GroupSt → GroupSt) (s : Device) (j : Nat) :
    grp (groupFollows g.group (modGrp g.group f (groupFaults g s))) j =
      if j = g.group then f (grp s g.group) else grp s j := by
  have same (i : Nat) : grp (groupFaults g s) i = grp s i := grp_of_tribs (groupFaults_kept g s).2.1 i
  rw [grp_of_tribs (groupFollows_tribs _ _), grp_modGrp, same, same]

theorem groupLoaChange_kept (k : Fin 16) (s : Device) : (groupLoaChange k s).tx = s.tx ∧ (groupLoaChange k s).rx = s.rx :=
  ⟨(kept_groupLoaChange (ρ := .part .tx) (s₀ := s) k s (by decide)).mpr (.refl _ s),
    (kept_groupLoaChange (ρ := .part .rx) (s₀ := s) k s (by decide)).mpr (.refl _ s)⟩

/-! ### Release -/

theorem le_foldl_max (l : List Nat) (z : Nat) : z ≤ l.foldl max z ∧ ∀ x, x ∈ l → x ≤ l.foldl max z := by
  induction l generalizing z with
  | nil => simp
  | cons a r ih =>
    obtain ⟨start, each⟩ := ih (max z a)
    refine ⟨Nat.le_trans (Nat.le_max_left z a) start, fun x hx => ?_⟩
    rcases List.mem_cons.mp hx with rfl | hx
    · exact Nat.le_trans (Nat.le_max_right z x) start
    · exact each x hx

theorem foldl_min_le (l : List Nat) (z : Nat) : l.foldl min z ≤ z ∧ ∀ x, x ∈ l → l.foldl min z ≤ x := by
  induction l generalizing z with
  | nil => simp
  | cons a r ih =>
    obtain ⟨start, each⟩ := ih (min z a)
    refine ⟨Nat.le_trans start (Nat.min_le_left z a), fun x hx => ?_⟩
    rcases List.mem_cons.mp hx with rfl | hx
    · exact Nat.le_trans start (Nat.min_le_right z x)
    · exact each x hx

theorem groupTimes_complete {g : GroupPlan} {n : Nat} {q : GroupSt}
    (all : ∀ m, m ∈ g.members → (recOf q m.index n).isSome = true) :
    (groupTimes s g n q).tRel = (groupTimes s g n q).aMax + groupTimes.dsetN' s g.group * US ∧
    (groupTimes s g n q).recLate = q.recLate ∧
    ∀ m, m ∈ g.members → ∀ r, recOf q m.index n = some r →
      (groupTimes s g n q).aMin ≤ r.arrival ∧ r.arrival ≤ (groupTimes s g n q).aMax := by
  have every : (g.members.filterMap fun m => recOf q m.index n).length = g.members.length :=
    List.filterMap_length_eq_length.mpr all
  have times : groupTimes s g n q = _ := if_pos every
  rw [times]
  refine ⟨rfl, rfl, fun m hm r hr => ?_⟩
  have mem : r.arrival ∈ (g.members.filterMap fun m => recOf q m.index n).map (·.arrival) :=
    List.mem_map_of_mem (List.mem_filterMap.mpr ⟨m, hm, hr⟩)
  exact ⟨(foldl_min_le _ _).2 _ mem, (le_foldl_max _ _).2 _ mem⟩

theorem groupTimes_late {g : GroupPlan} {n : Nat} {q : GroupSt} {m : GroupMember} (hm : m ∈ g.members)
    (missing : recOf q m.index n = none) : groupTimes s g n q =
      { q with tRel := q.tRel + g.period, recLate := wrap 32 (q.recLate + 1) } := by
  refine if_neg fun every => ?_
  have := List.filterMap_length_eq_length.mp every m hm
  rw [missing] at this
  cases this

theorem settle_nothing (pend : s.pendSet = []) (w : When) (f : Nat → Bool) : settle w f s = s := by
  have same : (s.pendSet.filter fun q => !(q.when = w.code && f q.key)) = s.pendSet := by rw [pend]; rfl
  unfold settle putPendSet
  rw [same]

/-- The members whose records of a count are missing are counted. -/
def missingCounted (g : GroupPlan) (n : Nat) (q : GroupSt) : Tab Nat :=
  g.members.foldl (fun t m => Tab.set (fun _ => 0) t m.index
    (if (recOf q m.index n).isSome then 0 else min 3 (Tab.get (fun _ => 0) q.missing m.index + 1))) q.missing

/-- The count is released: its times are taken, and the members whose records are missing are counted. -/
def countReleased (g : GroupPlan) (n : Nat) (s : Device) : Device :=
  modGrp g.group (fun q => { q with released := some n, missing := missingCounted g n q })
    (modGrp g.group (groupTimes s g n) s)

/-- The superframes without a condition of loss of alignment are counted, and the faults of the group follow. -/
def cleanCounted (g : GroupPlan) (s : Device) : Device :=
  groupFaults g (modGrp g.group (fun q => { q with clean := if loaCond s g then 0 else min 8 (q.clean + 1) }) s)

theorem groupRelease_eq {k : Fin 16} {g : GroupPlan} {n : BitVec 32}
    (defined : ((plan s).groups.find? fun g => g.group = k.val) = some g) (members : membersHere s g.group ≠ [])
    (pend : s.pendSet = []) (next : ∀ r, (grp s g.group).released = some r → n.toNat = wrap 32 (r + 1)) :
    groupRelease k n s = each (membersHere (cleanCounted g (countReleased g n.toNat s)) g.group)
      (fun m s => emit (.release g.group m.index n.toNat) s) (cleanCounted g (countReleased g n.toNat s)) := by
  have due : (match (grp s g.group).released with | some r => decide (n.toNat = wrap 32 (r + 1)) | none => true) = true := by
    cases h : (grp s g.group).released with
    | none => rfl
    | some r => exact decide_eq_true (next r h)
  have proceed : ¬((membersHere s g.group).isEmpty || !(match (grp s g.group).released with
      | some r => decide (n.toNat = wrap 32 (r + 1)) | none => true)) = true := by
    rw [due]
    simpa using members
  unfold groupRelease
  rw [defined]
  dsimp only
  refine (if_neg proceed).trans ?_
  rw [settle_nothing pend]
  rfl

theorem each_emit {α : Type} (o : α → Output) (l : List α) (s : Device) :
    each l (fun m s => emit (o m) s) s = putOut (s.out ++ l.map o) s := by
  unfold each
  induction l generalizing s with
  | nil => simp [putOut]
  | cons a r ih =>
    rw [List.foldl_cons, ih]
    simp [emit, putOut]

theorem grp_cleanCounted (g : GroupPlan) (s : Device) (j : Nat) : ∃ clean, grp (cleanCounted g s) j =
    if j = g.group then { grp s g.group with clean := clean } else grp s j :=
  ⟨_, (grp_of_tribs (groupFaults_kept g _).2.1 j).trans (grp_modGrp _ _ _ _)⟩

theorem grp_countReleased (g : GroupPlan) (n : Nat) (s : Device) (j : Nat) : grp (countReleased g n s) j =
    if j = g.group then { groupTimes s g n (grp s g.group) with
      released := some n, missing := missingCounted g n (groupTimes s g n (grp s g.group)) }
    else grp s j := by
  rw [countReleased, grp_modGrp, grp_modGrp, if_pos rfl, grp_modGrp]
  by_cases h : j = g.group
  · rw [if_pos h, if_pos h]
  · rw [if_neg h, if_neg h, if_neg h]

/-- What the release of a count leaves in the record of its group and of the others. -/
theorem grp_groupRelease {k : Fin 16} {g : GroupPlan} {n : BitVec 32}
    (defined : ((plan s).groups.find? fun g => g.group = k.val) = some g) (members : membersHere s g.group ≠ [])
    (pend : s.pendSet = []) (next : ∀ r, (grp s g.group).released = some r → n.toNat = wrap 32 (r + 1)) :
    (∃ missing clean, grp (groupRelease k n s) g.group = { groupTimes s g n.toNat (grp s g.group) with
      released := some n.toNat, missing := missing, clean := clean }) ∧
    ∀ j, j ≠ g.group → grp (groupRelease k n s) j = grp s j := by
  rw [groupRelease_eq defined members pend next, each_emit]
  refine ⟨?_, fun j hj => ?_⟩
  · obtain ⟨clean, counted⟩ := grp_cleanCounted g (countReleased g n.toNat s) g.group
    rw [if_pos rfl, grp_countReleased, if_pos rfl] at counted
    exact ⟨_, clean, by rw [grp_putOut, counted]⟩
  · obtain ⟨clean, counted⟩ := grp_cleanCounted g (countReleased g n.toNat s) j
    rw [grp_putOut, counted, if_neg hj, grp_countReleased, if_neg hj]

theorem out_groupRelease {k : Fin 16} {g : GroupPlan} {n : BitVec 32}
    (defined : ((plan s).groups.find? fun g => g.group = k.val) = some g) (members : membersHere s g.group ≠ [])
    (pend : s.pendSet = []) (next : ∀ r, (grp s g.group).released = some r → n.toNat = wrap 32 (r + 1)) :
    (groupRelease k n s).out = s.out ++ (membersHere s g.group).map fun m => Output.release g.group m.index n.toNat := by
  obtain ⟨accord, _, _, _, out⟩ := groupFaults_kept g (modGrp g.group (fun q => { q with
    clean := if loaCond (countReleased g n.toNat s) g then 0 else min 8 (q.clean + 1) }) (countReleased g n.toNat s))
  have here : membersHere (cleanCounted g (countReleased g n.toNat s)) g.group = membersHere s g.group :=
    membersHere_of accord (groupFaults_stackId g _) _
  rw [groupRelease_eq defined members pend next, each_emit, here]
  exact congrArg (· ++ _) out

theorem only_groupRelease {k : Fin 16} {g : GroupPlan} {n : BitVec 32}
    (defined : ((plan s).groups.find? fun g => g.group = k.val) = some g) (members : membersHere s g.group ≠ [])
    (pend : s.pendSet = []) (next : ∀ r, (grp s g.group).released = some r → n.toNat = wrap 32 (r + 1)) :
    Only (.tribs :: Part.ofFault) s (groupRelease k n s) := by
  rw [groupRelease_eq defined members pend next, each_emit]
  exact only_of_kept fun ρ hρ => by simp [Part.ofFault] at hρ; simp [hρ, cleanCounted, countReleased]

@[simp] theorem membersHere_putOut (o : List Output) (s : Device) (g : Nat) : membersHere (putOut o s) g = membersHere s g :=
  rfl

theorem dsetN'_putOut (o : List Output) (s : Device) (g : Nat) :
    groupTimes.dsetN' (putOut o s) g = groupTimes.dsetN' s g := by simp [groupTimes.dsetN']

theorem loaCond_putOut (o : List Output) (s : Device) (g : GroupPlan) : loaCond (putOut o s) g = loaCond s g :=
  loaCond_of rfl rfl rfl rfl g rfl
end

/-- Settles O27: records received, a count released with and without every record, and loss of alignment. -/
theorem lineGroups : Obligations.LineGroups := by
  unfold Obligations.LineGroups
  refine ⟨?_, ?_, ?_, ?_, ?_, ?_⟩
  · intro s p x old
    refine yields_of rfl (groupRecordReceived_ignored (s := putOut [] s.dev) (by simpa using old)) ?_
    simp only [only_drivePins_iff]
    exact only_putOut _ _ _
  · intro s p x near fresh members
    refine yields_of rfl rfl ?_
    obtain ⟨seen, kept, queued, others⟩ := groupRecordReceived_spec (s := putOut [] s.dev) (p := p) near
      (by simpa using fresh) (by simpa using members)
    simp only [only_drivePins_iff, grp_drivePins, drivePins_stack, sbPort_drivePins]
    exact ⟨seen, kept, queued, others, only_of_kept fun ρ hρ => by simp at hρ; simp [hρ]⟩
  · intro s k g n defined members pend next all
    refine yields_of rfl rfl ?_
    have next' : ∀ r, (grp (putOut [] s.dev) g.group).released = some r → n.toNat = wrap 32 (r + 1) := by simpa using next
    obtain ⟨⟨missing, clean, record⟩, others⟩ := grp_groupRelease (s := putOut [] s.dev) defined members pend next'
    have out := out_groupRelease (s := putOut [] s.dev) defined members pend next'
    have only := only_groupRelease (s := putOut [] s.dev) defined members pend next'
    obtain ⟨rel, late, bounds⟩ := groupTimes_complete (s := putOut [] s.dev) (g := g) (n := n.toNat)
      (q := grp s.dev g.group) all
    simp only [grp_putOut, dsetN'_putOut] at record others rel
    simp only [only_drivePins_iff, grp_drivePins, drivePins_out, record]
    exact ⟨out, trivial, rel, bounds, late, others, only⟩
  · intro s k g n m defined members pend next hm none
    refine yields_of rfl rfl ?_
    obtain ⟨⟨missing, clean, record⟩, _⟩ := grp_groupRelease (s := putOut [] s.dev) defined members pend
      (by simpa using next)
    simp only [grp_putOut, groupTimes_late hm none] at record
    simp only [grp_drivePins, record]
    exact ⟨trivial, trivial, trivial⟩
  · intro s k g defined members cond clear
    refine yields_of rfl rfl ?_
    obtain ⟨tx, rx⟩ := groupLoaChange_kept k (putOut [] s.dev)
    have began := groupLoaChange_begins (s := putOut [] s.dev) defined members (by rw [loaCond_putOut]; exact cond)
      (by simpa using clear)
    have groups (j : Nat) := (congrArg (grp · j) began).trans (grp_groupFollows g _ _ j)
    simp only [grp_putOut] at groups
    simp only [grp_drivePins, drivePins_tx, drivePins_rx, groups, tx, rx]
    exact ⟨if_pos trivial, fun j hj => if_neg hj, rfl, rfl⟩
  · intro s k g defined members cond set clean
    refine yields_of rfl rfl ?_
    obtain ⟨tx, rx⟩ := groupLoaChange_kept k (putOut [] s.dev)
    have ended := groupLoaChange_ends (s := putOut [] s.dev) defined members (by rw [loaCond_putOut]; exact cond)
      (by simpa using set) (by simpa using clean)
    have groups (j : Nat) := (congrArg (grp · j) ended).trans (grp_groupFollows g _ _ j)
    simp only [grp_putOut] at groups
    simp only [grp_drivePins, drivePins_tx, drivePins_rx, groups, tx, rx]
    exact ⟨if_pos trivial, fun j hj => if_neg hj, rfl, rfl⟩

end Sys2Proof.Machine

/-!
Stack ports (17_stack_bus_and_stacking R669 to R675): the states of Table 17-1 and what a received frame does.
-/
namespace Sys2Proof.Machine
open Sys2Proof

section
variable {s : Device}

theorem only_modPort (i : Nat) (f : SbPort → SbPort) (s : Device) : Only [.stack] s (modPort i f s) :=
  only_of_kept fun ρ hρ => by simp at hρ; simp [hρ]

@[simp] theorem modPort_stackSigma (i : Nat) (f : SbPort → SbPort) (s : Device) :
    (modPort i f s).stack.sigma = s.stack.sigma := rfl

theorem stackFrameReceived_align {f : StackFrame} (state : (sbPort s f.port.val).state = .align)
    (mark : f.markOk = true) (crc : f.crcOk = true) : ∃ heard, stackFrameReceived f s =
      modPort f.port.val (fun q => { q with
        good := min 64 (q.good + 1), bad := 0, peerId := some f.word.sender, peerPort := some f.word.senderPort,
        peer := some f.word, stRx := (f.arrival : Int) + s.stack.sigma })
        (modStack (fun k => { k with heardMaster := heard }) s) := by
  unfold stackFrameReceived
  simp only [state, mark, crc, Bool.and_true, Bool.not_true, Bool.and_false, Bool.false_eq_true, if_false,
    Bool.and_self, if_true, decide_true, Bool.true_or, Bool.true_and]
  split
  · exact ⟨true, rfl⟩
  · exact ⟨s.stack.heardMaster, rfl⟩

/-- A port that was up goes down (R672). -/
def portDown (p : Nat) (s : Device) : Device :=
  modPort p (fun q => { q with downCount := wrap 32 (q.downCount + 1) }) (sbAdapt p s)

/-- A frame that fails its CRC is counted (R672). -/
def crcCounted (f : StackFrame) (s : Device) : Device :=
  if f.markOk && !f.crcOk then modPort f.port.val (fun q => { q with crcErr := wrap 32 (q.crcErr + 1) }) s else s

theorem stackFrameReceived_down {f : StackFrame} (state : (sbPort s f.port.val).state = .up)
    (bad : f.markOk = false ∨ f.crcOk = false) (run : (sbPort s f.port.val).bad = 3) :
    stackFrameReceived f s = fault 0x0D01 f.port.val [] (portDown f.port.val (crcCounted f s)) := by
  have good : (f.markOk && f.crcOk) = false := by rcases bad with h | h <;> simp [h]
  unfold stackFrameReceived
  simp only [state, good, run, Bool.false_and, Bool.false_eq_true, if_false, decide_true, Bool.or_true, Bool.and_true,
    Nat.reduceAdd, Nat.le_refl, if_true]
  rfl

theorem sbPort_portDown (p : Nat) (s : Device) :
    sbPort (portDown p s) p = { sbPort s p with
      state := .adapt, peerId := none, peerPort := none, peer := none, good := 0, bad := 0, adaptTicks := 0, better := 0,
      downCount := wrap 32 ((sbPort s p).downCount + 1) } := by
  simp [portDown, sbAdapt, sbPort_modPort]

theorem downCount_crcCounted (f : StackFrame) (s : Device) (p : Nat) :
    (sbPort (crcCounted f s) p).downCount = (sbPort s p).downCount := by
  unfold crcCounted
  split
  · rw [sbPort_modPort]
    split
    · rename_i h
      rw [h]
    · rfl
  · rfl

theorem isSource_portDown : ∀ p : Fin 4, isSource 0x0D01 p.val = true := by decide

/-- A frame of a device that follows no one carries a time word that makes no master known. -/
theorem noteMaster_idle {p : Nat} {w : TimeWord} (acting : s.stack.acting ≠ .actingMaster) (notMaster : w.isMaster = false)
    (notOk : w.masterOk = false) : noteMaster p w s = s := by
  simp [noteMaster, acting, notMaster, notOk]

theorem stackFrameReceived_idle {f : StackFrame} (state : (sbPort s f.port.val).state = .up) (mark : f.markOk = true)
    (crc : f.crcOk = true) (acting : s.stack.acting ≠ .actingMaster) (notMaster : f.word.isMaster = false)
    (notOk : f.word.masterOk = false) (recs : f.recs = []) (states : f.states = []) (trigs : f.trigs = [])
    (relay : f.relay = none) (msgs : f.msgs = []) :
    stackFrameReceived f s = exchangeStamps f.port.val f.word ((f.arrival : Int) + s.stack.sigma)
      (actWord f.port.val f.word (modPort f.port.val (fun q => { q with
        peerId := some f.word.sender, peerPort := some f.word.senderPort, peer := some f.word, bad := 0,
        stRx := (f.arrival : Int) + s.stack.sigma }) s)) := by
  unfold stackFrameReceived
  simp only [state, mark, crc, notMaster, Bool.not_true, Bool.and_false, Bool.false_eq_true, if_false,
    Bool.and_self, if_true, Bool.false_and]
  unfold actFrame
  simp only [recs, states, trigs, relay, msgs]
  rw [noteMaster_idle (by exact acting) notMaster notOk]
  rfl

/-- A time word without a master takes the run of good words of an upstream port, or judges the offer of another port;
no port changes but the one that received it, and of that one its offer alone. -/
theorem actWord_spec {p : Nat} {w : TimeWord} (notOk : w.masterOk = false) :
    (∃ better, sbPort (actWord p w s) p = { sbPort s p with better := better }) ∧
    (∀ i, i ≠ p → sbPort (actWord p w s) i = sbPort s i) ∧
    (s.stack.upstream = some p → (actWord p w s).stack.okRun = 0) ∧
    (actWord p w s).stack.theta = s.stack.theta ∧ (actWord p w s).stack.upstream = s.stack.upstream ∧
    (actWord p w s).stack.sigma = s.stack.sigma ∧ Only [.stack] s (actWord p w s) := by
  unfold actWord
  simp only [notOk, Bool.false_and, Bool.or_false, Bool.false_eq_true, if_false]
  split
  · exact ⟨⟨(sbPort s p).better, rfl⟩, fun i _ => rfl, fun _ => rfl, rfl, rfl, rfl, only_of_kept fun ρ hρ => by simp at hρ; simp [hρ]⟩
  · rename_i off
    refine ⟨⟨_, (sbPort_modPort _ _ _ _).trans (if_pos rfl)⟩, fun i ne => (sbPort_modPort _ _ _ _).trans (if_neg ne),
      fun on => absurd on off, rfl, rfl, rfl, only_of_kept fun ρ hρ => by simp at hρ; simp [hρ]⟩

theorem exchangeStamps_spec {p : Nat} {w : TimeWord} {t4 : Int} :
    (∃ delay, sbPort (exchangeStamps p w t4 s) p = { sbPort s p with linkDelay := delay }) ∧
    (∀ i, i ≠ p → sbPort (exchangeStamps p w t4 s) i = sbPort s i) ∧
    (s.stack.upstream = some p → (exchangeStamps p w t4 s).stack.theta =
      (s.stack.theta.1 + (((w.stRx : Int) - (sbPort s p).stMark) - (t4 - (w.stMark : Int))), s.stack.theta.2 + 1)) ∧
    (exchangeStamps p w t4 s).stack.okRun = s.stack.okRun ∧ (exchangeStamps p w t4 s).stack.sigma = s.stack.sigma ∧
    Only [.stack] s (exchangeStamps p w t4 s) := by
  have linked (i : Nat) : sbPort (exchangeStamps p w t4 s) i = sbPort (modPort p (fun q => { q with
      linkDelay := (((w.stRx : Int) - (sbPort s p).stMark + (t4 - (w.stMark : Int))) / 2 * 1000 / 65536).toNat }) s) i := by
    unfold exchangeStamps
    dsimp only
    split <;> rfl
  refine ⟨⟨_, (linked p).trans ((sbPort_modPort _ _ _ _).trans (if_pos rfl))⟩,
    fun i ne => (linked i).trans ((sbPort_modPort _ _ _ _).trans (if_neg ne)), fun up => ?_, ?_, ?_,
    only_of_kept fun ρ hρ => by simp at hρ; simp [hρ]⟩
  · exact congrArg (fun u : Device => u.stack.theta) (if_pos up)
  · unfold exchangeStamps
    dsimp only
    split <;> rfl
  · unfold exchangeStamps
    dsimp only
    split <;> rfl
end

/-- Settles O28: the states of a stack port, and the good and bad frames it receives. -/
theorem stackPorts : Obligations.StackPorts := by
  unfold Obligations.StackPorts
  refine ⟨?_, ?_, ?_, ?_, ?_, ?_⟩
  · intro s p state
    refine yields_of rfl (if_pos (by simpa using state)) ?_
    simp only [only_drivePins_iff, sbPort_drivePins, sbPort_modPort, sbPort_putOut, if_true]
    exact ⟨trivial, fun i ne => if_neg ne, (only_putOut_iff _ _ _ _).mp (only_modPort _ _ _)⟩
  · intro s p d state good
    refine yields_of rfl (if_pos (by simp [state, good])) ?_
    simp only [only_drivePins_iff, sbPort_drivePins, sbPort_modPort, sbPort_putOut, if_true]
    exact ⟨trivial, fun i ne => if_neg ne, (only_putOut_iff _ _ _ _).mp (only_modPort _ _ _)⟩
  · intro s p state ticks
    refine yields_of rfl (if_pos (by simp [state, ticks])) ?_
    simp only [only_drivePins_iff, sbPort_drivePins, sbPort_modPort, sbPort_putOut, if_true]
    exact ⟨trivial, fun i ne => if_neg ne, (only_putOut_iff _ _ _ _).mp (only_modPort _ _ _)⟩
  · intro s f state mark crc
    obtain ⟨heard, received⟩ := stackFrameReceived_align (s := putOut [] s.dev) (by simpa using state) mark crc
    refine yields_of rfl received ?_
    have port (i : Nat) : sbPort (modStack (fun k => { k with heardMaster := heard }) (putOut [] s.dev)) i = sbPort s.dev i := rfl
    simp only [only_drivePins_iff, sbPort_drivePins, sbPort_modPort, port, if_true]
    exact ⟨trivial, trivial, state, trivial, rfl, fun i ne => if_neg ne, only_of_kept fun ρ hρ => by simp at hρ; simp [hρ]⟩
  · intro s f state bad run
    refine yields_of rfl (stackFrameReceived_down (s := putOut [] s.dev) (by simpa using state) bad (by simpa using run)) ?_
    simp only [only_drivePins_iff, sbPort_drivePins, faulted_drivePins]
    obtain ⟨_, _, _, _, ports⟩ := triggered_fault 0x0D01 f.port.val [] (portDown f.port.val (crcCounted f (putOut [] s.dev)))
    obtain ⟨l, port⟩ := ports f.port.val
    rw [port, sbPort_portDown, downCount_crcCounted]
    have crcKept : (crcCounted f (putOut [] s.dev)).fault = s.dev.fault ∧
        (crcCounted f (putOut [] s.dev)).timing = s.dev.timing := by
      unfold crcCounted
      split <;> exact ⟨rfl, rfl⟩
    refine ⟨rfl, rfl, by simp, (faulted_fault [] _ (isSource_portDown f.port)).of_before (congrArg _ crcKept.1)
      (congrArg _ crcKept.2), only_of_kept fun ρ hρ => ?_⟩
    simp [Part.ofFault] at hρ
    simp [hρ, portDown, crcCounted]
  · intro s f state mark crc acting notMaster notOk recs states trigs relay msgs
    refine yields_of rfl (stackFrameReceived_idle (s := putOut [] s.dev) (by simpa using state) mark crc (by simpa using acting)
      notMaster notOk recs states trigs relay msgs) ?_
    generalize received : modPort f.port.val (fun q => { q with
        peerId := some f.word.sender, peerPort := some f.word.senderPort, peer := some f.word, bad := 0,
        stRx := (f.arrival : Int) + (putOut [] s.dev).stack.sigma }) (putOut [] s.dev) = r
    have rPort : sbPort r f.port.val = { sbPort s.dev f.port.val with
        peerId := some f.word.sender, peerPort := some f.word.senderPort, peer := some f.word, bad := 0,
        stRx := (f.arrival : Int) + s.dev.stack.sigma } := by
      rw [← received, sbPort_modPort, if_pos rfl, sbPort_putOut]
      rfl
    have rOther (i : Nat) (ne : i ≠ f.port.val) : sbPort r i = sbPort s.dev i := by
      rw [← received, sbPort_modPort, if_neg ne, sbPort_putOut]
    have rStack : r.stack = { s.dev.stack with ports := r.stack.ports } := by rw [← received]; rfl
    have rOnly : Only [.stack] s.dev r := by
      rw [← received]
      exact (only_putOut_iff _ _ _ _).mp (only_modPort _ _ _)
    obtain ⟨⟨better, wPort⟩, wOther, wRun, wTheta, wUp, wSigma, wOnly⟩ := actWord_spec (s := r) (p := f.port.val) notOk
    generalize actWord f.port.val f.word r = w at *
    obtain ⟨⟨delay, xPort⟩, xOther, xTheta, xRun, xSigma, xOnly⟩ := exchangeStamps_spec (s := w) (p := f.port.val)
      (w := f.word) (t4 := (f.arrival : Int) + (putOut [] s.dev).stack.sigma)
    simp only [only_drivePins_iff, sbPort_drivePins, drivePins_stack]
    rw [xPort, wPort, rPort]
    refine ⟨state, rfl, rfl, rfl, fun i ne => by rw [xOther i ne, wOther i ne, rOther i ne], fun up => ?_, ?_,
      rOnly.trans (wOnly.trans xOnly)⟩
    · have rUp : r.stack.upstream = some f.port.val := by rw [rStack]; exact up
      refine ⟨by rw [xRun, wRun rUp], ?_⟩
      rw [xTheta (by rw [wUp]; exact rUp), wTheta, wPort, rPort, rStack]
      rfl
    · rw [xSigma, wSigma, rStack]

end Sys2Proof.Machine

/-!
Stack time and roles (17_stack_bus_and_stacking R676 to R693).
-/
namespace Sys2Proof.Machine
open Sys2Proof

section
variable {s : Device}

@[simp] theorem offers_putOut (o : List Output) (s : Device) (p : Nat) : offers (putOut o s) p = offers s p := rfl

@[simp] theorem nextUpstream_putOut (o : List Output) (s : Device) : nextUpstream (putOut o s) = nextUpstream s := rfl

theorem isSource_masterLost : isSource 0x0D02 0 = true := by decide

theorem isSource_takeover : isSource 0x0D03 0 = true := by decide

/-- A fault leaves what it does not trigger of the stack: all but its ports, the items seen and the next number. -/
theorem Triggered.field {α : Type} {s t : Device} (h : Triggered s t) (g : StackSt → α)
    (blind : ∀ (k : StackSt) n seen ports, g { k with nextSeq := n, seen := seen, ports := ports } = g k) :
    g t.stack = g s.stack := by
  obtain ⟨n, seen, ports, stack, -⟩ := h
  rw [stack, blind]

theorem raised_changeRole (a : Acting) (cause : Nat) (s : Device) :
    Raised 0x0D03 0 0 (le 1 s.stack.acting.code ++ le 1 a.code ++ le 1 cause) s (changeRole a cause s) :=
  (raised_raise _ _ _ _ (setRole a s)).of_before rfl rfl rfl

/-- No port offers a better way to the master (R681). -/
def betterReset (s : Device) : Device := each [0, 1, 2, 3] (fun i s => modPort i (fun q => { q with better := 0 }) s) s

theorem sbPort_betterReset (s : Device) (i : Nat) (hi : i < 4) : (sbPort (betterReset s) i).better = 0 := by
  simp only [betterReset, each, List.foldl_cons, List.foldl_nil, sbPort_modPort]
  obtain rfl | rfl | rfl | rfl : i = 0 ∨ i = 1 ∨ i = 2 ∨ i = 3 := by omega
  all_goals rfl

theorem offers_modPort_better (s : Device) (i p : Nat) :
    offers (modPort i (fun q => { q with better := 0 }) s) p = offers s p := by
  unfold offers
  rw [sbPort_modPort]
  split
  · rename_i h
    subst h
    rfl
  · rfl

theorem offers_betterReset (s : Device) (p : Nat) : offers (betterReset s) p = offers s p := by
  simp only [betterReset, each, List.foldl_cons, List.foldl_nil, offers_modPort_better]

theorem sigma_betterReset (s : Device) : (betterReset s).stack.sigma = s.stack.sigma := by
  simp only [betterReset, each, List.foldl_cons, List.foldl_nil, modPort_stackSigma]

theorem only_betterReset (s : Device) : Only [.stack] s (betterReset s) := by
  simp only [betterReset, each, List.foldl_cons, List.foldl_nil]
  exact (((only_modPort _ _ _).trans (only_modPort _ _ _)).trans (only_modPort _ _ _)).trans (only_modPort _ _ _)

theorem stackUpstreamChange_eq {p : Nat} (notMaster : s.stack.acting ≠ .actingMaster)
    (notAlone : s.stack.acting ≠ .standalone) (next : nextUpstream s = some p) : stackUpstreamChange s =
      modStack (fun k => { k with
        upstream := some p, hops := (offers s p).getD 0 + 1, theta := (0, 0), okRun := 0,
        stepCause := some (k.stepCause.getD 0) }) (betterReset s) := by
  rw [← offers_betterReset]
  unfold stackUpstreamChange
  refine (if_neg (by simp [notMaster, notAlone])).trans ?_
  rw [next]
  rfl

/-- A standby takes the master's role over (R690, R691). -/
def takenOver (s : Device) : Device :=
  takeMaster (modStack (fun k => { k with takeovers := wrap 32 (k.takeovers + 1) }) (changeRole .actingMaster 0 s))

/-- The stack after a take-over. -/
def takenStack (k : StackSt) : StackSt :=
  { k with
    acting := .actingMaster, standby := if k.standby = some k.stackId then none else k.standby, missAny := 0,
    seenUp := false, takeovers := wrap 32 (k.takeovers + 1), master := some k.stackId, upstream := none, hops := 0,
    spread := 0, spreadTicks := 0, theta := (0, 0), stepCause := none, valid := true, validDue := false, missRun := 0,
    okRun := 0, handover := none }

theorem takenOver_spec (acting : s.stack.acting = .standby) :
    Raised 0x0D03 0 0 [2, 1, 0] s (takenOver s) ∧ (takenOver s).timing = s.timing ∧
    (takenOver s).fault = s.fault ∧ Only [.stack, .evq] s (takenOver s) := by
  refine ⟨?_, rfl, rfl, only_of_kept fun ρ hρ => by simp at hρ; simp [hρ, takenOver, changeRole, setRole, takeMaster]⟩
  have raised := raised_changeRole .actingMaster 0 s
  rw [acting] at raised
  exact raised

theorem stackTakeover_eq (acting : s.stack.acting = .standby) (seen : s.stack.seenUp = true) (missed : 100 ≤ s.stack.missAny)
    (noHandover : s.stack.handover = none) :
    stackTakeover s = fault 0x0D03 0 [] (faultOff 0x0D02 0 (takenOver s)) :=
  if_pos (by simp [acting, seen, missed, noHandover])

/-- What announces a take-over beside the role: the end of the lost master's fault, and the fault of the take-over. -/
theorem takeoverFaults_spec (u : Device) :
    Triggered u (fault 0x0D03 0 [] (faultOff 0x0D02 0 u)) ∧ (fault 0x0D03 0 [] (faultOff 0x0D02 0 u)).evq = u.evq ∧
    Faulted 0x0D03 0 u (fault 0x0D03 0 [] (faultOff 0x0D02 0 u)) ∧
    Only Part.ofFault u (fault 0x0D03 0 [] (faultOff 0x0D02 0 u)) := by
  refine ⟨(triggered_faultOff _ _ u).trans (triggered_fault _ _ _ _), by rw [fault_evq, faultOff_evq], ?_,
    only_of_kept fun ρ hρ => ?_⟩
  · have f := faulted_fault [] (faultOff 0x0D02 0 u) isSource_takeover
    unfold Faulted at f ⊢
    rw [source_faultOff_other (by decide), faultOff_timing] at f
    exact f
  · simp [Part.ofFault] at hρ
    simp [hρ]

theorem stackHandoverInstant_heir {sec : Nat} (handover : s.stack.handover = some (s.stack.stackId, sec))
    (due : sec * SEC ≤ toStack s s.timing.now) :
    stackHandoverInstant s = faultOff 0x0D02 0 (takeMaster (changeRole .actingMaster 1 s)) := by
  unfold stackHandoverInstant
  rw [handover]
  exact (if_neg (Nat.not_lt.mpr due)).trans (if_pos rfl)

theorem stackHandoverInstant_master {m sec : Nat} (handover : s.stack.handover = some (m, sec)) (other : m ≠ s.stack.stackId)
    (acting : s.stack.acting = .actingMaster) (due : sec * SEC ≤ toStack s s.timing.now) :
    stackHandoverInstant s =
      modStack (fun k => { k with handover := none }) (followMaster (some m) (changeRole .standby 1 s)) := by
  unfold stackHandoverInstant
  rw [handover]
  exact (if_neg (Nat.not_lt.mpr due)).trans ((if_neg other).trans (if_pos acting))
end

/-- Settles O29: stack time made valid, the master lost, a take-over, the listen, a hand-over and the upstream port. -/
theorem stackTimeAndRoles : Obligations.StackTimeAndRoles := by
  unfold Obligations.StackTimeAndRoles
  refine ⟨?_, ?_, ?_, ?_, ?_, ?_, ?_, ?_⟩
  · intro s due
    refine yields_of rfl (if_pos (by simpa using due)) ?_
    simp only [only_drivePins_iff, drivePins_stack, source_drivePins, faultOff_stack]
    exact ⟨rfl, source_faultOff _ _ _, only_of_kept fun ρ hρ => by simp at hρ; simp [hρ]⟩
  · intro s valid missed notMaster notAlone off
    refine yields_of rfl (if_pos (by simp [valid, missed, notMaster, notAlone])) ?_
    generalize lost : modStack _ (putOut [] s.dev) = u
    simp only [only_drivePins_iff, drivePins_stack, source_drivePins, faulted_drivePins]
    have off' : (source u 0x0D02 0).cond = false := by rw [← lost]; exact off
    have field {α : Type} (g : StackSt → α) := (triggered_faultOn 0x0D02 0 [] u).field g
    rw [field (·.valid) (fun _ _ _ _ => rfl), field (·.okRun) (fun _ _ _ _ => rfl), field (·.spreadTicks) (fun _ _ _ _ => rfl),
      field (·.sigma) (fun _ _ _ _ => rfl), field (·.acting) (fun _ _ _ _ => rfl)]
    refine ⟨by rw [← lost]; rfl, by rw [← lost]; rfl, by rw [← lost]; rfl, by rw [← lost]; rfl, by rw [← lost]; rfl,
      by simp [source_faultOn, isSource_masterLost],
      (faulted_faultOn [] u isSource_masterLost off').of_before (by rw [← lost]; rfl) (by rw [← lost]; rfl),
      only_of_kept fun ρ hρ => ?_⟩
    simp [Part.ofFault] at hρ
    simp [hρ, ← lost]
  · intro s acting seen missed noHandover
    refine yields_of rfl (stackTakeover_eq (s := putOut [] s.dev) (by simpa using acting) (by simpa using seen)
      (by simpa using missed) (by simpa using noHandover)) ?_
    obtain ⟨raised, timing, faults, takenOnly⟩ := takenOver_spec (s := putOut [] s.dev) (by simpa using acting)
    have stack : (takenOver (putOut [] s.dev)).stack = takenStack s.dev.stack := rfl
    generalize takenOver (putOut [] s.dev) = u at *
    obtain ⟨triggered, evq, faulted, only⟩ := takeoverFaults_spec u
    generalize fault 0x0D03 0 [] (faultOff 0x0D02 0 u) = t at *
    simp only [only_drivePins_iff, drivePins_stack, raised_drivePins, faulted_drivePins]
    rw [triggered.field (·.acting) (fun _ _ _ _ => rfl), triggered.field (·.master) (fun _ _ _ _ => rfl),
      triggered.field (·.upstream) (fun _ _ _ _ => rfl), triggered.field (·.valid) (fun _ _ _ _ => rfl),
      triggered.field (·.sigma) (fun _ _ _ _ => rfl), triggered.field (·.takeovers) (fun _ _ _ _ => rfl), stack]
    refine ⟨rfl, rfl, rfl, rfl, rfl, rfl, ?_, faulted.of_before (congrArg _ faults) (congrArg _ timing),
      fun q hq => ?_⟩
    · unfold Raised at raised ⊢
      rw [evq, raised]
      rfl
    · simp only [Part.ofFault, List.mem_cons, List.not_mem_nil, or_false, not_or] at hq
      obtain ⟨hevq, hfault, hcrypto, hkme, hclock, hmem, hstack⟩ := hq
      exact Part.same_trans ((only_putOut_iff _ _ _ _).mp takenOnly q (by simp [hevq, hstack]))
        (only q (by simp [Part.ofFault, hfault, hcrypto, hkme, hclock, hmem, hstack]))
  · intro s listening ticks notHeard
    refine yields_of rfl (if_neg (by simp [listening]; exact decide_eq_false (Nat.not_lt.mpr ticks))) ?_
    simp only [show (putOut [] s.dev).stack.heardMaster = false from notHeard, Bool.false_eq_true, if_false, only_drivePins_iff,
      drivePins_stack]
    exact ⟨rfl, rfl, rfl, rfl, rfl, only_of_kept fun ρ hρ => by simp at hρ; simp [hρ, setRole, takeMaster]⟩
  · intro s listening ticks heard
    refine yields_of rfl (if_neg (by simp [listening]; exact decide_eq_false (Nat.not_lt.mpr ticks))) ?_
    simp only [show (putOut [] s.dev).stack.heardMaster = true from heard, if_true, only_drivePins_iff, drivePins_stack]
    exact ⟨rfl, rfl, rfl, rfl, only_of_kept fun ρ hρ => by simp at hρ; simp [hρ, setRole]⟩
  · intro s sec handover due
    refine yields_of rfl (stackHandoverInstant_heir (s := putOut [] s.dev) (by simpa using handover) (by simpa using due)) ?_
    simp only [only_drivePins_iff, drivePins_stack, raised_drivePins, faultOff_stack]
    refine ⟨rfl, rfl, rfl, rfl, ?_, only_of_kept fun ρ hρ => by simp at hρ; simp [hρ, changeRole, setRole, takeMaster]⟩
    unfold Raised
    rw [faultOff_evq]
    exact raised_changeRole .actingMaster 1 (putOut [] s.dev)
  · intro s m sec handover other acting due
    refine yields_of rfl (stackHandoverInstant_master (s := putOut [] s.dev) (by simpa using handover) (by simpa using other)
      (by simpa using acting) (by simpa using due)) ?_
    simp only [only_drivePins_iff, drivePins_stack, raised_drivePins]
    have raised := raised_changeRole .standby 1 (putOut [] s.dev)
    rw [show (putOut [] s.dev).stack.acting = .actingMaster from acting] at raised
    exact ⟨rfl, rfl, rfl, rfl, raised,
      only_of_kept fun ρ hρ => by simp at hρ; simp [hρ, changeRole, setRole, followMaster]⟩
  · intro s p notMaster notAlone next
    refine yields_of rfl (stackUpstreamChange_eq (s := putOut [] s.dev) notMaster notAlone next) ?_
    have sigma := sigma_betterReset (putOut [] s.dev)
    have better := sbPort_betterReset (putOut [] s.dev)
    have only := only_betterReset (putOut [] s.dev)
    have offer := offers_putOut (o := []) s.dev p
    generalize betterReset (putOut [] s.dev) = u at *
    simp only [only_drivePins_iff, drivePins_stack, sbPort_drivePins, offer]
    exact ⟨rfl, rfl, rfl, rfl, sigma, fun i hi => better i hi,
      ((only_putOut_iff _ _ _ _).mp only).trans (only_of_kept fun ρ hρ => by simp at hρ; simp [hρ])⟩

end Sys2Proof.Machine

/-!
Writes of a host to the directly mapped registers (21_mailbox_interface, Table 21-1).
-/
namespace Sys2Proof.Machine
open Sys2Proof

section
variable {s : Device}

/-- The pins that follow the state change the interrupt line alone of the host interface. -/
theorem drivePins_host (s : Device) : (drivePins s).host = { s.host with irqLow := (drivePins s).host.irqLow } := by
  rw [drivePins_eq]

theorem only_modHost (f : HostSt → HostSt) (s : Device) : Only [.host] s (modHost f s) :=
  fun p hp => (kept_modHost (ρ := .part p) (s₀ := s) f s (by simpa using hp) (by simp) (by simp)).mpr (.refl _ s)

theorem registerWrite_unaligned {i : Iface} {off : BitVec 16} {v : BitVec 32} (h : off.toNat % 4 ≠ 0) :
    registerWrite i off v s = s := if_pos h

theorem registerWrite_scratch {i : Iface} (k : Fin 4) {v : BitVec 32} :
    registerWrite i (BitVec.ofNat 16 (0x10 + 4 * k.val)) v s =
      modHost (fun h => { h with scratch := Tab.set (fun _ => 0) h.scratch k.val v }) s := by
  match k with
  | 0 | 1 | 2 | 3 => rfl

theorem ringDoorbell_ignored {i : Iface} {n : Fin 5} {len : Nat} (h : i ≠ ownIface n.val ∨ served s = false) :
    ringDoorbell i n len s = s := if_pos (by simpa using h)
end

/-- Settles O31: writes off a word boundary, to the registers that take bits, to MB_STATUS and to the interrupt status. -/
theorem hostRegisterWrites : Obligations.HostRegisterWrites := by
  unfold Obligations.HostRegisterWrites
  have host (f : HostSt → HostSt) (s : State) : Only [.host] s.dev (modHost f (putOut [] s.dev)) :=
    (only_putOut_iff _ _ _ _).mp (only_modHost f _)
  refine ⟨?_, ?_, ?_, ?_, ?_, ?_, ?_, ?_, ?_, ?_⟩
  · intro s i off v unaligned
    refine yields_of rfl (registerWrite_unaligned unaligned) ?_
    rw [only_drivePins_iff]
    exact ⟨drivePins_host _, only_putOut _ _ _⟩
  · intro s i k v
    refine yields_of rfl (registerWrite_scratch k) ?_
    rw [only_drivePins_iff, drivePins_host_scratch]
    exact ⟨drivePins_host _, Tab.get_set_self _ _ _ _, fun j ne => (Tab.get_set _ _ _ _ _).trans (if_neg ne), host _ s⟩
  · intro s i v
    refine yields_of rfl rfl ?_
    rw [only_drivePins_iff]
    exact ⟨drivePins_host _, only_of_kept fun ρ hρ => by simp at hρ; simp [hρ, registerWrite, plainWrite]⟩
  · intro s i v
    refine yields_of rfl rfl ?_
    rw [only_drivePins_iff]
    exact ⟨drivePins_host _, host (fun h => { h with dbgPage := v.toNat % 256 }) s⟩
  · intro s i v
    refine yields_of rfl rfl ?_
    rw [only_drivePins_iff]
    exact ⟨drivePins_host _, host (fun h => { h with dbgWrite := v.getLsbD 0 }) s⟩
  · intro s i v
    refine yields_of rfl rfl ?_
    rw [only_drivePins_iff]
    exact ⟨drivePins_host _, host (fun h => { h with fifoMask := BitVec.ofNat 18 v.toNat }) s⟩
  · intro s i v
    refine yields_of rfl rfl ?_
    rw [only_drivePins_iff]
    exact ⟨drivePins_host _, host (fun h => { h with fifoSev := v.toNat % 4 }) s⟩
  · intro s i n v
    refine yields_of rfl (registerWrite_mbStatus i n v _) ?_
    rw [only_drivePins_iff]
    simp only [mailbox_drivePins, mbStatusWrite, mailbox_modMb, mailbox_putOut, if_true]
    exact ⟨trivial, fun m ne => if_neg ne, drivePins_host _, only_of_kept fun ρ hρ => by simp at hρ; simp [hρ]⟩
  · intro s i n v off
    refine yields_of rfl ((registerWrite_doorbell i n v _).trans (ringDoorbell_ignored (by simpa using off))) ?_
    rw [only_drivePins_iff]
    exact ⟨drivePins_host _, only_putOut _ _ _⟩
  · intro s v
    refine yields_of rfl rfl ?_
    rw [only_drivePins_iff]
    exact ⟨drivePins_host _, by rw [drivePins_eq]; rfl, only_of_kept fun ρ hρ => by simp at hρ; simp [hρ, irqStatusClear]⟩

end Sys2Proof.Machine

/-!
Request buffers, the boot buffer and the debug window (21_mailbox_interface R807 to R812; log 96).
-/
namespace Sys2Proof.Machine
open Sys2Proof

section
variable {s : Device}

@[simp] theorem bootWindow_putOut (o : List Output) (s : Device) : bootWindow (putOut o s) = bootWindow s := rfl

/-- A write of one aligned word is a write of that word. -/
theorem requestBufferWrite_word {i : Iface} {off : BitVec 24} {b : List Byte} (aligned : off.toNat % 4 = 0)
    (word : b.length = 4) : requestBufferWrite i off b s = bufferWord i off.toNat b s := by
  have inside := off.isLt
  have whole : slice b (4 * 0) 4 = b := by
    rw [slice, List.drop_zero, List.take_of_length_le (Nat.le_of_eq word)]
  unfold requestBufferWrite
  rw [if_neg (by simp [aligned]), word]
  refine (if_pos ?_ : (if off.toNat + 4 * 0 < 2 ^ 24 then _ else s) = _).trans ?_
  · simpa using inside
  · rw [whole]
    rfl

/-- The offset of a word of mailbox `n` names it. -/
theorem bufferOffset (n : Fin 4) {o : Nat} (ho : o < 0x2000) :
    (BitVec.ofNat 24 (0x2000 * n.val + o)).toNat = 0x2000 * n.val + o ∧ (0x2000 * n.val + o) / 0x2000 = n.val ∧
    (0x2000 * n.val + o) % 0x2000 = o := by
  have hn := n.isLt
  refine ⟨?_, by omega, by omega⟩
  rw [BitVec.toNat_ofNat, Nat.mod_eq_of_lt (by omega)]

/-- A word written to the request buffer of mailbox `n` by its own interface. -/
theorem requestBufferWrite_own {n : Fin 4} {o : Nat} {b : List Byte} (window : bootWindow s = false) (ho : o < 0x1000)
    (aligned : o % 4 = 0) (word : b.length = 4) :
    requestBufferWrite (ownIface n.val) (BitVec.ofNat 24 (0x2000 * n.val + o)) b s =
      if (mailbox s n.val).busy then modMb n.val (fun m => { m with writeLocked := true }) s
      else modMb n.val (fun m => { m with req := memWrite m.req o b }) s := by
  have hn := n.isLt
  obtain ⟨off, box, place⟩ := bufferOffset n (o := o) (by omega)
  rw [requestBufferWrite_word (by rw [off]; omega) word, off]
  unfold bufferWord
  rw [box, place]
  refine (if_neg (by simp [window])).trans ((if_neg ?_).trans rfl)
  simp
  omega

/-- A word is ignored that another interface writes, or that falls in a response buffer. -/
theorem requestBufferWrite_ignored {i : Iface} {n : Fin 4} {o : Nat} {b : List Byte} (window : bootWindow s = false)
    (ho : o < 0x2000) (aligned : o % 4 = 0) (word : b.length = 4) (foreign : i ≠ ownIface n.val ∨ 0x1000 ≤ o) :
    requestBufferWrite i (BitVec.ofNat 24 (0x2000 * n.val + o)) b s = s := by
  obtain ⟨off, box, place⟩ := bufferOffset n ho
  rw [requestBufferWrite_word (by rw [off]; omega) word, off]
  unfold bufferWord
  rw [box, place]
  refine (if_neg (by simp [window])).trans (if_pos ?_)
  rcases foreign with h | h <;> simp [h]

theorem requestBufferWrite_boot {i : Iface} {off : BitVec 24} {b : List Byte} (window : bootWindow s = true)
    (aligned : off.toNat % 4 = 0) (word : b.length = 4) :
    requestBufferWrite i off b s = modHost (fun h => { h with bootBuf := memWrite h.bootBuf off.toNat b }) s := by
  rw [requestBufferWrite_word aligned word]
  exact if_pos window

theorem debugWindowWrite_reaches {off : BitVec 23} {v : BitVec 32} {block : Option (Fin 18)} (window : bootWindow s = false)
    (aligned : off.toNat % 4 = 0) (write : s.host.dbgWrite = true) (on : ∀ k, block = some k → clkOn s k.val = true) :
    debugWindowWrite off v block s =
      modHost (fun h => { h with dbgRegs := Tab.set (fun _ => 0) h.dbgRegs (h.dbgPage * 2 ^ 23 + off.toNat) v }) s := by
  refine (if_neg (by simp [aligned])).trans ((if_neg (by simp [window])).trans (if_neg ?_))
  cases block with
  | none => simp [write]
  | some k => simp [write, on k rfl]

theorem debugWindowWrite_ignored {off : BitVec 23} {v : BitVec 32} {block : Option (Fin 18)} (window : bootWindow s = false)
    (shut : s.host.dbgWrite = false ∨ ∃ k, block = some k ∧ clkOn s k.val = false) : debugWindowWrite off v block s = s := by
  by_cases aligned : off.toNat % 4 = 0
  · refine (if_neg (Decidable.not_not.mpr aligned)).trans ((if_neg (by simp [window])).trans (if_pos ?_))
    rcases shut with h | ⟨k, rfl, h⟩ <;> simp [h]
  · exact if_pos aligned

/-- What a word written reads as: its bytes in their place, and every other byte as before. -/
theorem memGet_word (m : List Host.Cell) (o : Nat) {b : List Byte} (word : b.length = 4) :
    (∀ k, k < 4 → memGet (memWrite m o b) (o + k) = b.getD k 0) ∧
    ∀ a, (a < o ∨ o + 4 ≤ a) → memGet (memWrite m o b) a = memGet m a :=
  ⟨fun k hk => by rw [memGet_memWrite b m o k (word ▸ hk)]; simp [word, hk],
    fun a ha => memGet_memWrite_outside b m o a (word ▸ ha)⟩
end

/-- Settles O32: a word written to a request buffer, to the boot buffer and through the debug window. -/
theorem requestBuffersAndDebugWindow : Obligations.RequestBuffersAndDebugWindow := by
  unfold Obligations.RequestBuffersAndDebugWindow
  have host (f : HostSt → HostSt) (s : State) : Only [.host] s.dev (modHost f (putOut [] s.dev)) :=
    (only_putOut_iff _ _ _ _).mp (only_modHost f _)
  refine ⟨?_, ?_, ?_, ?_, ?_, ?_⟩
  · intro s n o b window ho aligned word idle
    refine yields_of rfl ((requestBufferWrite_own (s := putOut [] s.dev) (by simpa using window) ho aligned word).trans
      (if_neg (by simp [idle]))) ?_
    obtain ⟨within, outside⟩ := memGet_word (mailbox s.dev n.val).req o word
    rw [only_drivePins_iff]
    simp only [mailbox_drivePins, mailbox_modMb, mailbox_putOut, if_true]
    exact ⟨within, outside, trivial, fun m ne => if_neg ne, drivePins_host _, host _ s⟩
  · intro s n o b window ho aligned word busy
    refine yields_of rfl ((requestBufferWrite_own (s := putOut [] s.dev) (by simpa using window) ho aligned word).trans
      (if_pos (by simp [busy]))) ?_
    rw [only_drivePins_iff]
    simp only [mailbox_drivePins, mailbox_modMb, mailbox_putOut, if_true]
    exact ⟨trivial, fun m ne => if_neg ne, drivePins_host _, host _ s⟩
  · intro s i n o b window ho aligned word foreign
    refine yields_of rfl (requestBufferWrite_ignored (by simpa using window) ho aligned word foreign) ?_
    rw [only_drivePins_iff]
    exact ⟨drivePins_host _, only_putOut _ _ _⟩
  · intro s i o b window aligned word
    refine yields_of rfl (requestBufferWrite_boot (s := putOut [] s.dev) (by simpa using window) aligned word) ?_
    obtain ⟨within, outside⟩ := memGet_word s.dev.host.bootBuf o.toNat word
    rw [only_drivePins_iff, drivePins_host_bootBuf]
    exact ⟨within, outside, drivePins_host _, host _ s⟩
  · intro s o v b window aligned write on
    refine yields_of rfl (debugWindowWrite_reaches (s := putOut [] s.dev) (by simpa using window) aligned (by simpa using write)
      (by simpa using on)) ?_
    rw [only_drivePins_iff, drivePins_host_dbgRegs]
    exact ⟨Tab.get_set_self _ _ _ _, fun a ne => (Tab.get_set _ _ _ _ _).trans (if_neg ne), drivePins_host _, host _ s⟩
  · intro s o v b window shut
    refine yields_of rfl (debugWindowWrite_ignored (s := putOut [] s.dev) (by simpa using window) (by simpa using shut)) ?_
    rw [only_drivePins_iff]
    exact ⟨drivePins_host _, only_putOut _ _ _⟩

end Sys2Proof.Machine

/-!
Requests refused by their bytes, transfers, the startup script and the boot doorbell (21_mailbox_interface R808 to R815;
20_startup_and_nonvolatile_store R784, R788; 15_latency_and_load R633).
-/
namespace Sys2Proof.Machine
open Sys2Proof

section
variable {s : Device}

theorem fromLe_lt (l : List Byte) : fromLe l < 256 ^ l.length := by
  induction l with
  | nil => simp [fromLe]
  | cons b r ih =>
    have hb := b.isLt
    rw [fromLe, List.length_cons, Nat.pow_succ]
    omega

theorem rd_lt (l : List Byte) (off k : Nat) : rd l off k < 256 ^ k :=
  Nat.lt_of_lt_of_le (fromLe_lt _) (Nat.pow_le_pow_right (by decide) (by simp only [slice, List.length_take]; omega))

/-! ### A request refused by its bytes -/

/-- The request stands in its mailbox and its response is taken back. -/
def requestShown (n : Nat) (bytes : List Byte) (s : Device) : Device :=
  modMb n (fun m => { m with respReady := false }) (modMb n (fun m => { m with req := memWrite m.req 0 bytes }) s)

/-- The mailbox with a response. -/
def responded (seq st : Nat) (bytes : List Byte) (m : Mailbox) : Mailbox :=
  { m with resp := bytes, lastSeq := seq, lastStatus := st, busy := false, respReady := true }

/-- The answer to a request that fails a check on its bytes. -/
def refusalBytes (n : Fin 4) (b : List Byte) (st : Status) : List Byte :=
  respBytes (parseReq ⟨n.val, by omega⟩ b).1 (parseReq ⟨n.val, by omega⟩ b).2 ⟨st, []⟩ false

theorem parseReq_seq (mb : Fin 5) (l : List Byte) : (parseReq mb l).2.seq.toNat = rd l 2 2 := by
  have bound := rd_lt l 2 2
  simp only [parseReq, BitVec.toNat_ofNat]
  exact Nat.mod_eq_of_lt bound

theorem mailboxRequestRefused_eq {n : Fin 4} {len : BitVec 16} {b : List Byte} {st : Status} (hs : served s = true)
    (idle : (mailbox s n.val).busy = false) (low : 16 ≤ len.toNat) (high : len.toNat ≤ 4096)
    (bad : requestFault len.toNat (fit len.toNat b) = some st) :
    mailboxRequestRefused n len b s = setIrq n.val (modMb n.val
      (responded (rd (fit len.toNat b) 2 2) st.code (refusalBytes n (fit len.toNat b) st))
      (requestShown n.val (fit len.toNat b) s)) := by
  unfold mailboxRequestRefused
  dsimp only
  rw [if_pos high, Nat.max_eq_left low, bad, if_neg (by simp [hs]), if_neg (by simp [idle])]
  unfold deliverReq
  rw [bad]
  refine (respond_eq _ _ _ _ _ n.isLt).trans ?_
  rw [parseReq_seq]
  rfl

/-- A response changes its mailbox, the interrupt status and what follows it. -/
theorem onlyMailbox_setIrq (n : Nat) (f : Mailbox → Mailbox) (bytes : List Byte) (s : Device) :
    OnlyMailbox n s (drivePins (setIrq n (modMb n f (requestShown n bytes (putOut [] s))))) := by
  refine ⟨?_, fun m hm => ?_⟩
  · rw [setIrq_eq]
    simp only [drivePins_eq, requestShown, modMb, modHost, putOut]
  · simp [mailbox_modMb, hm, requestShown]

/-! ### Transfers -/

theorem runWaiting_none (none : s.host.waiting = []) : runWaiting s = s := by
  unfold runWaiting
  rw [none]
  change modHost (fun x => { x with waiting := [] }) s = s
  rw [← none]
  rfl

theorem dmaTransferComplete_eq {mb : Fin 5} {h : Held} {c : Cmd} {q : Resp × Device}
    (found : (s.host.transfers.find? fun h => h.req.mb = mb) = some h) (cmd : cmdOf h.op h.req.params = some c)
    (ran : q = runCmd h.op c h.req false (modHost (fun x => { x with transfers := x.transfers.erase h }) s)) :
    dmaTransferComplete mb false s = runWaiting (answer h.op h.req q.1 q.2) := by
  subst ran
  unfold dmaTransferComplete
  rw [found]
  dsimp only
  rw [cmd]
  rfl

/-! ### Startup script -/

theorem startupScript_eq (stage : s.boot.stage = .script) (runs : s.boot.fwRuns = true) (open_ : s.boot.scriptDone = false)
    (notScheduled : s.accord.standby ≠ .scheduled) (notSwitching : s.accord.standby ≠ .switching) :
    startupScript s = scriptLoop (bhScriptLen s.boot.header + 1) s :=
  if_neg (by simp [stage, runs, open_, notScheduled, notSwitching])

theorem scriptLoop_ends (n : Nat) (idle : (mailbox s 1).busy = false)
    (ok : s.boot.scriptNext.1 = 0 ∨ (mailbox s 1).lastStatus = Status.ok.code)
    (done : bhScriptLen s.boot.header ≤ s.boot.scriptNext.2) : scriptLoop (n + 1) s = scriptEnd s := by
  refine (if_neg (by simp [idle])).trans ((if_neg ?_).trans (if_pos done))
  rcases ok with h | h <;> simp [scriptOk, h]

theorem scriptLoop_fails (n : Nat) {k : Nat} (idle : (mailbox s 1).busy = false) (record : s.boot.scriptNext.1 = k + 1)
    (notOk : (mailbox s 1).lastStatus ≠ Status.ok.code) (notPending : (mailbox s 1).lastStatus ≠ Status.pending.code) :
    scriptLoop (n + 1) s = scriptFail k s := by
  refine (if_neg (by simp [idle])).trans ((if_pos ?_).trans (by rw [record]; rfl))
  simp [record, scriptOk, notOk, notPending]

/-! ### Boot doorbell -/

/-- The header of the host is taken (R784). -/
def headerTaken (len : BitVec 32) (s : Device) : Device :=
  modBoot (fun b =>
    { b with header := memRead s.host.bootBuf 0 256, copy := none, pcie := true, headerDefault := false, reverted := false,
             refusedSlot := false, scriptNext := (0, 0), scriptDone := false })
    (modHost (fun x => { x with bootBell := len.toNat }) s)

theorem bootDoorbell_valid {len : BitVec 32} (rom : romAt s .rom = true) (src : s.boot.bootSrc = 1)
    (ok : bootHdrOk (memRead s.host.bootBuf 0 256) = true) :
    bootDoorbell len s = setStage (afterHdr s) (headerTaken len s) := by
  unfold bootDoorbell
  simp only [rom, src, ok, decide_true, Bool.and_true, Bool.not_true, Bool.false_and, Bool.false_eq_true, if_false, if_true]
  rfl

theorem bootDoorbell_invalid {len : BitVec 32} (rom : romAt s .rom = true) (src : s.boot.bootSrc = 1)
    (bad : bootHdrOk (memRead s.host.bootBuf 0 256) = false) : bootDoorbell len s = pcieRefused s :=
  (if_neg (by simp [rom, src])).trans (if_pos (by simp [bad]))

theorem setStage_eq {st : Stage} (ne : s.boot.stage ≠ st) :
    setStage st s = setIrq 7 (modBoot (fun b => { b with stage := st }) s) := if_neg ne

theorem afterHdr_ne_rom (s : Device) : afterHdr s ≠ .rom := by
  unfold afterHdr
  split <;> decide

theorem romAt_stage {st : Stage} (h : romAt s st = true) : s.boot.stage = st := by
  simp only [romAt, Bool.and_eq_true, decide_eq_true_eq] at h
  exact h.1

theorem isSource_scriptFail : isSource 0x1006 0 = true := by decide
end

/-- Settles O33: a request refused, a transfer that ends, the end and the failure of the script, and the boot doorbell. -/
theorem requestsAndTransfers : Obligations.RequestsAndTransfers := by
  unfold Obligations.RequestsAndTransfers
  refine ⟨?_, ?_, ?_, ?_, ?_, ?_⟩
  · intro s n len b st hs idle low high bad
    refine yields_of rfl (mailboxRequestRefused_eq (s := putOut [] s.dev) (by simpa using hs) (by simpa using idle) low high
      bad) ?_
    have bit : n.val < 32 := by omega
    simp only [mailbox_drivePins, mailbox_setIrq, mailbox_modMb_self, drivePins_host_irqStatus, setIrq_bit _ _ bit, responded]
    exact ⟨trivial, trivial, trivial, trivial, trivial, onlyMailbox_setIrq n.val _ _ s.dev⟩
  · intro s mb h c q found cmd hmb ran none
    have own : h.req.mb = mb := by simpa using List.find?_some found
    have low : h.req.mb.val < 4 := own ▸ hmb
    have waiting : (answer h.op h.req q.1 q.2).host.waiting = [] := (answer_host_waiting _ _ _ _ low).trans none
    refine yields_of rfl ((dmaTransferComplete_eq (s := putOut [] s.dev) found cmd ran).trans (runWaiting_none waiting)) ?_
    rw [only_drivePins_iff, drivePins_host_transfers, answer_host_transfers _ _ _ _ low]
    refine ⟨answered_answer _ _ _ _ low, rfl, ?_⟩
    rw [answer_eq _ _ _ _ low]
    exact only_of_kept fun ρ hρ => by simp at hρ; simp [hρ]
  · intro s stage runs notDone notScheduled notSwitching idle ok done
    refine yields_of rfl ((startupScript_eq (s := putOut [] s.dev) stage runs notDone notScheduled notSwitching).trans
      (scriptLoop_ends (s := putOut [] s.dev) _ (by simpa using idle) (by simpa using ok) done)) ?_
    rw [only_drivePins_iff]
    exact ⟨rfl, only_of_kept fun ρ hρ => by simp at hρ; simp [hρ, scriptEnd]⟩
  · intro s k stage runs notDone notScheduled notSwitching idle record notOk notPending
    refine yields_of rfl ((startupScript_eq (s := putOut [] s.dev) stage runs notDone notScheduled notSwitching).trans
      (scriptLoop_fails (s := putOut [] s.dev) _ (by simpa using idle) record (by simpa using notOk)
        (by simpa using notPending))) ?_
    rw [only_drivePins_iff, faulted_drivePins, drivePins_boot]
    refine ⟨by simp [scriptFail, scriptEnd], (faulted_fault _ (scriptEnd _) isSource_scriptFail).of_before rfl rfl,
      only_of_kept fun ρ hρ => ?_⟩
    simp [Part.ofFault] at hρ
    simp [hρ, scriptFail, scriptEnd]
  · intro s len rom src ok
    have stage : (headerTaken len (putOut [] s.dev)).boot.stage ≠ afterHdr (putOut [] s.dev) := by
      have at_ : s.dev.boot.stage = .rom := romAt_stage rom
      change s.dev.boot.stage ≠ _
      rw [at_]
      exact (afterHdr_ne_rom _).symm
    refine yields_of rfl ((bootDoorbell_valid (s := putOut [] s.dev) (by simpa using rom) src ok).trans (setStage_eq stage)) ?_
    rw [only_drivePins_iff, drivePins_boot, drivePins_host_bootBell, setIrq_boot, setIrq_host_bootBell]
    exact ⟨rfl, rfl, rfl, rfl, only_of_kept fun ρ hρ => by simp at hρ; simp [hρ, headerTaken]⟩
  · intro s len rom src bad
    refine yields_of rfl (bootDoorbell_invalid (s := putOut [] s.dev) (by simpa using rom) src bad) ?_
    rw [only_drivePins_iff, drivePins_boot, drivePins_host_bootBell]
    exact ⟨rfl, rfl, only_of_kept fun ρ hρ => by simp at hρ; simp [hρ, pcieRefused]⟩

end Sys2Proof.Machine

/-!
Destinations of event records and the registers that serve them (21_mailbox_interface R820 to R829).
-/
namespace Sys2Proof.Machine
open Sys2Proof

section
variable {s : Device}

/-! ### Rings -/

theorem ring_ringMsi_other {k j : Nat} (h : j ≠ k) (s : Device) : ring (ringMsi k s) j = ring s j := by
  rw [ringMsi_eq]
  split
  · rfl
  · split
    · rw [ring_sendMsix, ring_modRing, if_neg h]
    · rw [ring_modRing, if_neg h]

theorem ring_ringWrite_other {k j : Nat} (h : j ≠ k) (bytes : List Byte) (s : Device) :
    ring (ringWrite k bytes s) j = ring s j := by
  unfold ringWrite
  dsimp only
  rw [ring_ringMsi_other h, ring_modRing, if_neg h]
  rfl

@[simp] theorem sendMsix_host_fifo (v : Nat) (s : Device) : (sendMsix v s).host.fifo = s.host.fifo := by
  unfold sendMsix
  split <;> rfl

theorem fifo_ringWrite (k : Nat) (bytes : List Byte) (s : Device) : (ringWrite k bytes s).host.fifo = s.host.fifo := by
  unfold ringWrite
  dsimp only
  rw [ringMsi_eq]
  split
  · rfl
  · split
    · rw [sendMsix_host_fifo]
      rfl
    · rfl

/-! ### One record to one destination -/

/-- The record is for this device alone: no member forwards it, and no command of MB4 waits for it. -/
def StaysHere (e : EventRec) (s : Device) : Prop :=
  e.member ≠ s.stack.stackId ∨ (s.stack.acting ≠ .member ∧ s.stack.acting ≠ .standby ∧ s.stack.mb4Pend = [])

theorem forwardEvent_here {e : EventRec} (here : StaysHere e s) : forwardEvent e s = s := by
  rcases here with other | ⟨notMember, notStandby, none⟩
  · exact if_pos other
  · unfold forwardEvent
    simp only [none, List.find?_nil, ite_self, notMember, notStandby, decide_false, Bool.or_self, Bool.false_and,
      Bool.false_eq_true, if_false]
    split
    · rfl
    · split <;> rfl

/-- The record leaves the queue. -/
def recordTaken (e : EventRec) (s : Device) : Device := putEvq (s.evq.erase e) s

theorem eventDelivery_one {e : EventRec} {d : Dest} (run : eventsRun s = true) (oldest : s.evq.find? (mayDeliver s) = some e)
    (dests : destsOf s e = [d]) : eventDelivery s = forwardEvent e (deliverTo e d (recordTaken e s)) := by
  unfold eventDelivery
  refine (if_neg (by simp [run])).trans ?_
  rw [oldest]
  dsimp only
  rw [show destsOf (putEvq (s.evq.erase e) s) e = [d] from dests]
  rfl

theorem deliverTo_room {e : EventRec} {d : Dest} (none : (lossOf s d).count = 0) (room : hasRoom s d = true) :
    deliverTo e d s = putRecord d e s := by
  have account : writeLoss d s = s := if_pos (by simp [none])
  unfold deliverTo
  rw [account]
  exact if_pos (by simp [none, room])

theorem deliverTo_full {e : EventRec} {d : Dest} (full : hasRoom s d = false) : deliverTo e d s = dropRecord d e s := by
  have account : writeLoss d s = s := if_pos (by simp [full])
  unfold deliverTo
  rw [account]
  exact if_neg (by simp [full])

/-- The polled FIFO takes the bytes of a record (R822). -/
def fifoTakes (bytes : List Byte) (s : Device) : Device :=
  modHost (fun h => { h with fifo := h.fifo ++ [bytes], fifoLoss := { h.fifoLoss with seq := wrap 16 (h.fifoLoss.seq + 1) } }) s

theorem putRecord_fifo (e : EventRec) (s : Device) : putRecord none e s =
    if s.host.fifo.isEmpty then setIrq 6 (fifoTakes (eventBytes e s.host.fifoLoss.seq) s)
    else fifoTakes (eventBytes e s.host.fifoLoss.seq) s := rfl

/-- What the polled FIFO is after a record. -/
theorem putRecord_fifo_spec (e : EventRec) (s : Device) :
    (putRecord none e s).host.fifo = s.host.fifo ++ [eventBytes e s.host.fifoLoss.seq] ∧
    (putRecord none e s).host.fifoLoss = { s.host.fifoLoss with seq := wrap 16 (s.host.fifoLoss.seq + 1) } ∧
    (s.host.fifo = [] → (putRecord none e s).host.irqStatus.getLsbD 6 = true) ∧
    (putRecord none e s).host.rings = s.host.rings ∧ (putRecord none e s).evq = s.evq ∧
    (putRecord none e s).stack = s.stack ∧ Only [.host] s (putRecord none e s) := by
  rw [putRecord_fifo]
  split
  · rw [setIrq_host_fifo, setIrq_host_fifoLoss, setIrq_host_rings, setIrq_evq, setIrq_stack]
    exact ⟨rfl, rfl, fun _ => setIrq_bit 6 _ (by decide), rfl, rfl, rfl,
      fun p hp => (kept_setIrq (ρ := .part p) (s₀ := s) 6 _ (by simpa using hp)).mpr (only_modHost _ s p hp)⟩
  · rename_i full
    exact ⟨rfl, rfl, fun empty => absurd (by simp [empty]) full, rfl, rfl, rfl, only_modHost _ s⟩

/-- A record that the polled FIFO discards is counted. -/
theorem dropRecord_fifo_spec {e : EventRec} (notPtp : e.type ≠ 0x0904) (s : Device) :
    (dropRecord none e s).host.fifo = s.host.fifo ∧
    (dropRecord none e s).host.fifoDrop = sat 32 (s.host.fifoDrop + 1) ∧
    (dropRecord none e s).host.fifoLoss.count = sat 32 (s.host.fifoLoss.count + 1) ∧
    (dropRecord none e s).host.irqStatus.getLsbD 8 = true ∧ (dropRecord none e s).evq = s.evq ∧
    (dropRecord none e s).stack = s.stack ∧ Only [.host] s (dropRecord none e s) := by
  unfold dropRecord
  dsimp only
  rw [if_neg notPtp, setIrq_host_fifo, setIrq_host_fifoDrop, setIrq_host_fifoLoss, setIrq_evq, setIrq_stack]
  exact ⟨rfl, rfl, rfl, setIrq_bit 8 _ (by decide), rfl, rfl, fun p hp =>
    (kept_setIrq (ρ := .part p) (s₀ := s) 8 _ (by simpa using hp)).mpr ((only_modHost _ s).trans (only_modHost _ _) p hp)⟩

/-- A record written to a ring stands at its head, with the ring's sequence number. -/
theorem putRecord_ring_spec (e : EventRec) (k : Nat) (s : Device) :
    (ring (putRecord (some k) e s) k).head = ((ring s k).head + 1) % (ring s k).entries ∧
    .dma ((ring s k).base + (ring s k).head * entrySize (ring s k).kind) (eventBytes e (ring s k).loss.seq) ∈
      (putRecord (some k) e s).out ∧
    (∀ j, j ≠ k → ring (putRecord (some k) e s) j = ring s j) ∧
    (putRecord (some k) e s).host.fifo = s.host.fifo ∧ Only [.host] s (putRecord (some k) e s) := by
  have put : putRecord (some k) e s = ringWrite k (eventBytes e (ring s k).loss.seq)
      (modRing k (fun q => { q with loss := { q.loss with seq := wrap 16 (q.loss.seq + 1) } }) s) := rfl
  have numbered : ring (modRing k (fun q => { q with loss := { q.loss with seq := wrap 16 (q.loss.seq + 1) } }) s) k =
      { ring s k with loss := { (ring s k).loss with seq := wrap 16 ((ring s k).loss.seq + 1) } } :=
    (ring_modRing _ _ _ _).trans (if_pos rfl)
  rw [put]
  refine ⟨?_, ?_, fun j ne => ?_, ?_, only_of_kept fun ρ hρ => ?_⟩
  · rw [ringWrite_head, numbered]
  · have written := mem_out_ringWrite k (eventBytes e (ring s k).loss.seq)
      (modRing k (fun q => { q with loss := { q.loss with seq := wrap 16 (q.loss.seq + 1) } }) s)
    rw [numbered] at written
    exact written
  · rw [ring_ringWrite_other ne, ring_modRing, if_neg ne]
  · rw [fifo_ringWrite]
    rfl
  · simp at hρ
    simp [hρ]

theorem only_putEvq (l : List EventRec) (s : Device) : Only [.evq] s (putEvq l s) :=
  only_of_kept fun ρ hρ => by simp at hρ; simp [hρ]

/-- A record leaves the queue before it is delivered. -/
theorem only_afterTaken {e : EventRec} {t : Device} (h : Only [.host] (recordTaken e s) t) : Only [.host, .evq] s t :=
  fun p hp => by
    simp only [List.mem_cons, List.not_mem_nil, or_false, not_or] at hp
    exact Part.same_trans (only_putEvq _ s p (by simpa using hp.2)) (h p (by simpa using hp.1))

@[simp] theorem destsOf_putOut (o : List Output) (s : Device) (e : EventRec) : destsOf (putOut o s) e = destsOf s e := rfl

theorem msixCoalesceExpiry_eq {k : Fin 64} (waits : (ring s k.val).msiWaits = true)
    (past : ∀ u, (ring s k.val).lastMsi = some u → u + (ring s k.val).coalesce * US ≤ s.timing.now)
    (open_ : msixMasked s (ring s k.val).vector = false) : msixCoalesceExpiry k s = emit (.msix (ring s k.val).vector)
      (modRing k.val (fun q => { q with lastMsi := some s.timing.now, msiWaits := false }) s) := by
  unfold msixCoalesceExpiry
  refine (if_pos ?_).trans (if_neg (by rw [Bool.not_eq_true]; exact open_))
  rw [Bool.and_eq_true]
  refine ⟨waits, ?_⟩
  cases last : (ring s k.val).lastMsi with
  | none => rfl
  | some u => exact decide_eq_true (past u last)

theorem only_modRing (k : Nat) (f : RingSt → RingSt) (s : Device) : Only [.host] s (modRing k f s) :=
  only_of_kept fun ρ hρ => by simp at hρ; simp [hρ]

theorem only_emit (o : Output) (s : Device) : Only [] s (emit o s) := only_of_kept fun ρ hρ => by simp

theorem Only.before {l : List Part} {s t u : Device} (h : Only [] s t) (k : Only l t u) : Only l s u :=
  fun p hp => Part.same_trans (h p (List.not_mem_nil)) (k p hp)
end

/-- Settles O34: delivery to the polled FIFO and to a ring, loss, coalescing, and the registers that serve them. -/
theorem eventDestinations : Obligations.EventDestinations := by
  unfold Obligations.EventDestinations
  refine ⟨?_, ?_, ?_, ?_, ?_, ?_, ?_, ?_, ?_, ?_⟩
  · intro s e run oldest dests none room here
    refine yields_of rfl ((eventDelivery_one (s := putOut [] s.dev) (by simpa using run) oldest
      (by simpa using dests)).trans (congrArg _ (deliverTo_room (s := recordTaken e (putOut [] s.dev)) (e := e) (d := .none) none (decide_eq_true room)))) ?_
    obtain ⟨fifo, loss, bit, rings, evq, stack, only⟩ := putRecord_fifo_spec e (recordTaken e (putOut [] s.dev))
    rw [forwardEvent_here (by unfold StaysHere; rw [stack]; exact here)]
    simp only [only_drivePins_iff, drivePins_evq, drivePins_host_fifo, drivePins_host_fifoLoss, drivePins_host_irqStatus,
      drivePins_host_rings]
    exact ⟨evq, fifo, loss, bit, rings, (only_putOut_iff _ _ _ _).mp (only_afterTaken only)⟩
  · intro s e run oldest dests full notPtp here
    refine yields_of rfl ((eventDelivery_one (s := putOut [] s.dev) (by simpa using run) oldest
      (by simpa using dests)).trans (congrArg _ (deliverTo_full (s := recordTaken e (putOut [] s.dev)) (e := e) (d := none) (decide_eq_false (Nat.not_lt.mpr full))))) ?_
    obtain ⟨fifo, drop, loss, bit, evq, stack, only⟩ :=
      dropRecord_fifo_spec notPtp (recordTaken e (putOut [] s.dev))
    rw [forwardEvent_here (by unfold StaysHere; rw [stack]; exact here)]
    simp only [only_drivePins_iff, drivePins_evq, drivePins_host_fifo, drivePins_host_fifoLoss, drivePins_host_irqStatus,
      drivePins_host_fifoDrop]
    exact ⟨evq, fifo, drop, loss, bit, (only_putOut_iff _ _ _ _).mp (only_afterTaken only)⟩
  · intro s e k run oldest dests none room here
    refine yields_of rfl ((eventDelivery_one (s := putOut [] s.dev) (by simpa using run) oldest
      (by simpa using dests)).trans (congrArg _ (deliverTo_room (s := recordTaken e (putOut [] s.dev)) (e := e) (d := some k) none ?_))) ?_
    · exact congrArg not room
    · obtain ⟨head, out, others, fifo, only⟩ := putRecord_ring_spec e k (recordTaken e (putOut [] s.dev))
      have evq := (only .evq (by decide) : _ = _)
      have stack := (only .stack (by decide) : _ = _)
      rw [forwardEvent_here (by unfold StaysHere; rw [stack]; exact here)]
      simp only [only_drivePins_iff, drivePins_evq, drivePins_host_fifo, ring_drivePins, drivePins_out]
      exact ⟨evq, head, out, others, fifo, (only_putOut_iff _ _ _ _).mp (only_afterTaken only)⟩
  · intro s run lost room
    have written : eventLoss 64 (putOut [] s.dev) = putRecord none _ (modLoss none (fun l => { l with count := 0, span := (0, 0) })
        (putOut [] s.dev)) :=
      (if_neg (by simp [run])).trans ((if_pos rfl).trans (if_neg (by simp [lossOf, hasRoom, lost, room])))
    refine yields_of rfl written ?_
    obtain ⟨fifo, loss, _, _, evq, _, only⟩ := putRecord_fifo_spec
      { type := 0x0002, source := 0, sev := 0, member := s.dev.stack.stackId, t := s.dev.host.fifoLoss.span.1
        payload := le 4 s.dev.host.fifoLoss.count ++ le 4 (s.dev.host.fifoLoss.span.2 / SEC) ++
          le 4 (s.dev.host.fifoLoss.span.2 % SEC / NS) }
      (modLoss none (fun l => { l with count := 0, span := (0, 0) }) (putOut [] s.dev))
    simp only [only_drivePins_iff, drivePins_evq, drivePins_host_fifo, drivePins_host_fifoLoss]
    exact ⟨congrArg LossSt.count loss, fifo, evq, (only_putOut_iff _ _ _ _).mp ((only_modHost _ _).trans only)⟩
  · intro s k waits past open_
    refine yields_of rfl (msixCoalesceExpiry_eq (s := putOut [] s.dev) (by simpa using waits) (by simpa using past)
      (by simpa using open_)) ?_
    simp only [only_drivePins_iff, drivePins_out, ring_drivePins]
    refine ⟨by rw [ring_putOut]; rfl, ?_, fun j ne => ?_, only_of_kept fun ρ hρ => by simp at hρ; simp [hρ]⟩
    · exact ((ring_modRing _ _ _ _).trans (if_pos rfl)).trans (by rw [ring_putOut]; rfl)
    · exact ((ring_modRing _ _ _ _).trans (if_neg ne)).trans (ring_putOut _ _ _)
  · intro s v pop
    refine yields_of rfl (if_pos pop) ?_
    rw [only_drivePins_iff]
    exact ⟨drivePins_host _, (only_putOut_iff _ _ _ _).mp (only_modHost _ _)⟩
  · intro s
    refine yields_of rfl rfl ?_
    rw [only_drivePins_iff, drivePins_out]
    exact ⟨rfl, drivePins_host _, (only_putOut_iff _ _ _ _).mp ((only_emit _ _).before (only_modHost _ _))⟩
  · intro s k v ok
    refine yields_of rfl (if_pos (by simpa using ok)) ?_
    rw [only_drivePins_iff]
    simp only [ring_drivePins, ring_modRing, ring_putOut, if_true]
    exact ⟨trivial, fun j ne => if_neg ne, drivePins_host _, (only_putOut_iff _ _ _ _).mp (only_modRing _ _ _)⟩
  · intro s k v bad
    refine yields_of rfl (if_neg (by simp [bad])) ?_
    rw [only_drivePins_iff]
    exact ⟨drivePins_host _, only_putOut _ _ _⟩
  · intro s k
    refine yields_of rfl rfl ?_
    rw [only_drivePins_iff, drivePins_out]
    have before (j : Nat) : ring (emit (.read (BitVec.ofNat 32 (ring (putOut [] s.dev) k.val).drop)) (putOut [] s.dev)) j =
        ring s.dev j := rfl
    simp only [ring_drivePins, ringDropRead, ring_modRing, before, if_true]
    exact ⟨rfl, trivial, fun j ne => if_neg ne, (only_putOut_iff _ _ _ _).mp ((only_emit _ _).before (only_modRing _ _ _))⟩

end Sys2Proof.Machine

/-!
How a host lane receives (16_host_lanes R640 to R655): its states, deskew, reference, reset and eye scan.
-/
namespace Sys2Proof.Machine
open Sys2Proof

section
variable {s : Device}

/-! ### Lanes -/

theorem lane_modLane (i j : Nat) (f : LaneSt → LaneSt) (s : Device) :
    lane (modLane i f s) j = if j = i then f (lane s i) else lane s j := by
  simp only [lane, modLane, putLanes_lanes, Tab.get_modify]

theorem lane_of_lanes {t : Device} (h : t.lanes = s.lanes) (j : Nat) : lane t j = lane s j := by simp [lane, h]

@[simp] theorem modLane_refLost (i : Nat) (f : LaneSt → LaneSt) (s : Device) :
    (modLane i f s).lanes.refLost = s.lanes.refLost := rfl

/-- `m` is the lane `l` but for the mark that its client's deskew failed. -/
def SameButDeskew (l m : LaneSt) : Prop := ∃ bad, m = { l with deskewFailed := bad }

theorem SameButDeskew.refl (l : LaneSt) : SameButDeskew l l := ⟨l.deskewFailed, rfl⟩

theorem SameButDeskew.trans {l m n : LaneSt} (h : SameButDeskew l m) (k : SameButDeskew m n) : SameButDeskew l n := by
  obtain ⟨_, rfl⟩ := h
  obtain ⟨bad, rfl⟩ := k
  exact ⟨bad, rfl⟩

/-- Lanes marked in one pass: each of the list has the mark, the others are as before. -/
theorem lane_marked (bad : Bool) (l : List Nat) (s : Device) (j : Nat) :
    lane (each l (fun i s => modLane i (fun l => { l with deskewFailed := bad }) s) s) j =
      if j ∈ l then { lane s j with deskewFailed := bad } else lane s j := by
  unfold each
  induction l generalizing s with
  | nil => simp
  | cons i r ih =>
    rw [List.foldl_cons, ih, lane_modLane]
    by_cases hi : j = i
    · subst hi
      simp
    · simp [hi]

/-- The lanes of a device, but for marks of deskew: the references too. -/
theorem refLost_marked (bad : Bool) (l : List Nat) (s : Device) :
    (each l (fun i s => modLane i (fun l => { l with deskewFailed := bad }) s) s).lanes.refLost = s.lanes.refLost := by
  unfold each
  induction l generalizing s with
  | nil => rfl
  | cons i r ih => exact (ih _).trans rfl

theorem only_marked (bad : Bool) (l : List Nat) (s : Device) :
    Only [.lanes] s (each l (fun i s => modLane i (fun l => { l with deskewFailed := bad }) s) s) :=
  only_of_kept fun ρ hρ => by simp at hρ; simp [hρ]

/-- The client's deskew fails (R651). -/
def deskewBad (k : ClientPlan) (s : Device) : Bool := allMarked s k && ((lane s k.lane).skewBad || idsBad s k)

/-- The lanes of a client are marked with the state of its deskew. -/
def deskewMarked (k : ClientPlan) (s : Device) : Device :=
  each (lanesOf k) (fun i t => modLane i (fun l => { l with deskewFailed := deskewBad k s }) t) s

theorem evalDeskew_eq (k : ClientPlan) (s : Device) :
    evalDeskew k s = faultCond 0x0C03 k.lane (deskewBad k s) [] (deskewMarked k s) := rfl

theorem lane_evalDeskew (k : ClientPlan) (s : Device) (j : Nat) : lane (evalDeskew k s) j =
    if j ∈ lanesOf k then { lane s j with deskewFailed := deskewBad k s } else lane s j := by
  rw [evalDeskew_eq, lane_of_lanes (faultCond_lanes _ _ _ _ _), deskewMarked, lane_marked]

theorem sameButDeskew_evalDeskew (k : ClientPlan) (s : Device) (j : Nat) :
    SameButDeskew (lane s j) (lane (evalDeskew k s) j) := by
  rw [lane_evalDeskew]
  split
  · exact ⟨_, rfl⟩
  · exact .refl _

theorem refLost_evalDeskew (k : ClientPlan) (s : Device) : (evalDeskew k s).lanes.refLost = s.lanes.refLost := by
  rw [evalDeskew_eq, faultCond_lanes, deskewMarked, refLost_marked]

theorem source_faultCond_other {id inst id' inst' : Nat} (ne : srcKey id' inst' ≠ srcKey id inst) (holds : Bool)
    (detail : List Byte) (s : Device) : source (faultCond id inst holds detail s) id' inst' = source s id' inst' := by
  unfold faultCond
  split
  · exact source_faultOn_other ne detail s
  · exact source_faultOff_other ne s

theorem source_evalDeskew_other {k : ClientPlan} {id inst : Nat} (ne : srcKey id inst ≠ srcKey 0x0C03 k.lane) (s : Device) :
    source (evalDeskew k s) id inst = source s id inst := by
  rw [evalDeskew_eq, source_faultCond_other ne]
  exact source_of_sources (sources_of_kept ((only_marked _ _ s) .fault (by decide))) id inst

theorem clientOn_lane {i : Nat} {k : ClientPlan} (h : clientOn s i = some k) : k.lane ≤ i := by
  have := List.find?_some h
  simp only [Bool.and_eq_true, decide_eq_true_eq] at this
  exact this.1

@[simp] theorem evalPassThrough_lanes (s : Device) : (evalPassThrough s).lanes = s.lanes :=
  (kept_evalPassThrough (ρ := .part .lanes) (s₀ := s) s (by decide)).mpr (.refl _ s)

theorem source_evalPassThrough (s : Device) (id inst : Nat) : source (evalPassThrough s) id inst = source s id inst :=
  source_of_sources (sources_of_kept
    ((kept_evalPassThrough (ρ := .part .fault) (s₀ := s) s (by decide)).mpr (.refl _ s))) id inst

@[simp] theorem evalTribs_lanes (s : Device) : (evalTribs s).lanes = s.lanes :=
  (kept_evalTribs (ρ := .part .lanes) (s₀ := s) s (by decide)).mpr (.refl _ s)

theorem source_evalTribs (s : Device) (id inst : Nat) : source (evalTribs s) id inst = source s id inst :=
  source_of_sources (sources_of_kept
    ((kept_evalTribs (ρ := .part .fault) (s₀ := s) s (by decide)).mpr (.refl _ s))) id inst

/-! ### A lane changes state -/

/-- A scan of a lane that leaves `HL_LOCKED` ends (R654). -/
def scanEnds (i : Nat) (s : Device) : Device :=
  match (lane s i).scan with
  | some h =>
    if (lane s i).state = .locked then heldDone h .timeout (modLane i (fun l => { l with scan := none }) s) else s
  | none => s

/-- The lane in its new state. -/
def laneEntered (st was : LaneState) (now : Time) (l : LaneSt) : LaneSt :=
  { l with
    state := st, since := now, adaptTicks := 0, restarts := if st = .adapting then l.restarts else 0,
    polFixed := l.polFixed && !decide (was = .locked), amLock := l.amLock && !decide (was = .locked)
    laneId := if was = .locked then none else l.laneId }

/-- The client of a lane evaluates its deskew. -/
def clientDeskew (i : Nat) (s : Device) : Device := match clientOn s i with | some k => evalDeskew k s | none => s

/-- The fault of a lane that cannot adapt ends when it locks or is switched off. -/
def adaptFaultEnds (i : Nat) (st : LaneState) (s : Device) : Device :=
  if st = .locked || st = .off then faultOff 0x0C02 i s else s

theorem setLane_eq {i : Nat} {st : LaneState} (ne : (lane s i).state ≠ st) : setLane i st s =
    evalPassThrough (clientDeskew i (modLane i
      (laneEntered st (lane s i).state (adaptFaultEnds i st (scanEnds i s)).timing.now)
      (adaptFaultEnds i st (scanEnds i s)))) := by
  unfold setLane
  refine (if_neg ne).trans ?_
  rfl

theorem scanEnds_spec (i : Nat) (s : Device) : (∃ scan, lane (scanEnds i s) i = { lane s i with scan := scan }) ∧
    (∀ j, j ≠ i → lane (scanEnds i s) j = lane s j) ∧ (scanEnds i s).lanes.refLost = s.lanes.refLost ∧
    (scanEnds i s).timing = s.timing ∧ (scanEnds i s).fault = s.fault := by
  unfold scanEnds
  split
  · split
    · rename_i h _ _
      have kept (q : Part) (hq : (Region.part q) ∉ parts [.host, .evq]) :
          Part.same (modLane i (fun l => { l with scan := none }) s)
            (heldDone h .timeout (modLane i (fun l => { l with scan := none }) s)) q :=
        (kept_deferredDone (ρ := .part q) (s₀ := modLane i (fun l => { l with scan := none }) s) _ _ _ _ hq).mpr (.refl _ _)
      have lanes : (heldDone h .timeout (modLane i (fun l => { l with scan := none }) s)).lanes = _ := kept .lanes (by decide)
      refine ⟨⟨none, ?_⟩, fun j ne => ?_, (congrArg LanesSt.refLost lanes).trans rfl, kept .timing (by decide), ?_⟩
      · rw [lane_of_lanes lanes, lane_modLane, if_pos rfl]
      · rw [lane_of_lanes lanes, lane_modLane, if_neg ne]
      · unfold heldDone deferredDone deferredDoneX
        dsimp only
        split <;> rfl
    · exact ⟨⟨(lane s i).scan, rfl⟩, fun _ _ => rfl, rfl, rfl, rfl⟩
  · exact ⟨⟨(lane s i).scan, rfl⟩, fun _ _ => rfl, rfl, rfl, rfl⟩

theorem adaptFaultEnds_spec (i : Nat) (st : LaneState) (s : Device) : (adaptFaultEnds i st s).lanes = s.lanes ∧
    (adaptFaultEnds i st s).timing = s.timing ∧
    (∀ id inst, srcKey id inst ≠ srcKey 0x0C02 i → source (adaptFaultEnds i st s) id inst = source s id inst) ∧
    (st = .locked → (source (adaptFaultEnds i st s) 0x0C02 i).cond = false) := by
  unfold adaptFaultEnds
  split
  · exact ⟨faultOff_lanes _ _ _, faultOff_timing _ _ _, fun _ _ ne => source_faultOff_other ne s,
      fun _ => source_faultOff _ _ _⟩
  · rename_i h
    exact ⟨rfl, rfl, fun _ _ _ => rfl, fun locked => absurd (by simp [locked]) h⟩

theorem clientDeskew_spec (i : Nat) (s : Device) : (∀ j, SameButDeskew (lane s j) (lane (clientDeskew i s) j)) ∧
    (clientDeskew i s).lanes.refLost = s.lanes.refLost ∧
    (∀ id inst, (∀ l, l ≤ i → srcKey id inst ≠ srcKey 0x0C03 l) → source (clientDeskew i s) id inst = source s id inst) := by
  unfold clientDeskew
  split
  · rename_i k hk
    exact ⟨sameButDeskew_evalDeskew k s, refLost_evalDeskew k s,
      fun id inst ne => source_evalDeskew_other (ne _ (clientOn_lane hk)) s⟩
  · exact ⟨fun j => .refl _, rfl, fun _ _ _ => rfl⟩

/-- A lane that changes state: what it is after, what the others are, and the sources it may move. -/
theorem setLane_spec {i : Nat} {st : LaneState} (ne : (lane s i).state ≠ st) :
    (∃ scan bad, lane (setLane i st s) i =
      { laneEntered st (lane s i).state s.timing.now (lane s i) with
        scan := scan, deskewFailed := bad }) ∧
    (∀ j, j ≠ i → SameButDeskew (lane s j) (lane (setLane i st s) j)) ∧
    (setLane i st s).lanes.refLost = s.lanes.refLost ∧
    (∀ id inst, srcKey id inst ≠ srcKey 0x0C02 i → (∀ l, l ≤ i → srcKey id inst ≠ srcKey 0x0C03 l) →
      source (setLane i st s) id inst = source s id inst) ∧
    (st = .locked → (∀ l, l ≤ i → srcKey 0x0C02 i ≠ srcKey 0x0C03 l) →
      (source (setLane i st s) 0x0C02 i).cond = false) := by
  rw [setLane_eq ne]
  obtain ⟨⟨scan, own⟩, others, ref, timing, fault⟩ := scanEnds_spec i s
  obtain ⟨lanes, timing', source', off⟩ := adaptFaultEnds_spec i st (scanEnds i s)
  have now : (adaptFaultEnds i st (scanEnds i s)).timing.now = s.timing.now := by rw [timing', timing]
  rw [now]
  generalize adaptFaultEnds i st (scanEnds i s) = u at *
  generalize scanEnds i s = v at *
  have moved (j : Nat) : lane (modLane i (laneEntered st (lane s i).state s.timing.now) u) j =
      if j = i then laneEntered st (lane s i).state s.timing.now (lane v i) else lane v j := by
    rw [lane_modLane, lane_of_lanes lanes, lane_of_lanes lanes]
  have sources (id inst : Nat) : source (modLane i (laneEntered st (lane s i).state s.timing.now) u)
      id inst = source u id inst := rfl
  have ref' : (modLane i (laneEntered st (lane s i).state s.timing.now) u).lanes.refLost =
      s.lanes.refLost := by rw [modLane_refLost, lanes, ref]
  generalize modLane i (laneEntered st (lane s i).state s.timing.now) u = w at *
  obtain ⟨deskew, kept, source''⟩ := clientDeskew_spec i w
  have lane' (j : Nat) : lane (evalPassThrough (clientDeskew i w)) j = lane (clientDeskew i w) j :=
    lane_of_lanes (evalPassThrough_lanes _) j
  refine ⟨?_, fun j hj => ?_, ?_, fun id inst h2 h3 => ?_, fun locked apart => ?_⟩
  · obtain ⟨bad, h⟩ := deskew i
    refine ⟨scan, bad, ?_⟩
    rw [lane', h, moved, if_pos rfl, own]
    rfl
  · rw [lane', ← others j hj, ← (moved j).trans (if_neg hj)]
    exact deskew j
  · rw [evalPassThrough_lanes, kept, ref']
  · rw [source_evalPassThrough, source'' id inst h3, sources, source' id inst h2, source_of_sources (congrArg _ fault)]
  · rw [source_evalPassThrough, source'' _ _ apart, sources]
    exact off locked
end
end Sys2Proof.Machine

/-!
The events of a host lane's reception (16_host_lanes R640 to R655).
-/
namespace Sys2Proof.Machine
open Sys2Proof

section
variable {s : Device}

theorem SameButDeskew.state {l m : LaneSt} (h : SameButDeskew l m) : m.state = l.state := by obtain ⟨_, rfl⟩ := h; rfl

theorem SameButDeskew.amLock {l m : LaneSt} (h : SameButDeskew l m) : m.amLock = l.amLock := by obtain ⟨_, rfl⟩ := h; rfl

theorem SameButDeskew.laneId {l m : LaneSt} (h : SameButDeskew l m) : m.laneId = l.laneId := by obtain ⟨_, rfl⟩ := h; rfl

theorem SameButDeskew.skewBad {l m : LaneSt} (h : SameButDeskew l m) : m.skewBad = l.skewBad := by obtain ⟨_, rfl⟩ := h; rfl

@[simp] theorem setLane_timing (i : Nat) (st : LaneState) (s : Device) : (setLane i st s).timing = s.timing :=
  (kept_setLane (ρ := .part .timing) (s₀ := s) i st s (by decide)).mpr (.refl _ s)

/-! ### Signal and lock -/

theorem hlSignalDetect_found {i : Fin 32} (heard : ballsIgnored (lane s i.val) = false)
    (state : (lane s i.val).state = .noSignal) : hlSignalDetect i true s = setLane i.val .adapting s := by
  unfold hlSignalDetect
  refine (if_neg (by simp [heard])).trans ?_
  rw [state]
  rfl

theorem hlSignalDetect_lost {i : Fin 32} (heard : ballsIgnored (lane s i.val) = false)
    (state : (lane s i.val).state = .locked ∨ (lane s i.val).state = .adapting) :
    hlSignalDetect i false s = setLane i.val .noSignal s := by
  unfold hlSignalDetect
  refine (if_neg (by simp [heard])).trans ?_
  rcases state with h | h <;> rw [h] <;> rfl

/-- The estimated BER of a lane is kept. -/
def berTaken (i ber : Nat) (s : Device) : Device := modLane i (fun l => { l with estBer := sat 32 ber }) s

theorem lane_berTaken_self (i ber : Nat) (s : Device) : lane (berTaken i ber s) i = { lane s i with estBer := sat 32 ber } :=
  (lane_modLane _ _ _ _).trans (if_pos rfl)

theorem lane_berTaken_other {i j : Nat} (ne : j ≠ i) (ber : Nat) (s : Device) : lane (berTaken i ber s) j = lane s j :=
  (lane_modLane _ _ _ _).trans (if_neg ne)

theorem hlLockChange_locks {i : Fin 32} {ber : Nat} (state : (lane s i.val).state = .adapting) (low : ber < 240000)
    (ref : s.lanes.refLost.getLsbD (i.val / 4) = false) :
    hlLockChange i true ber s = setLane i.val .locked (berTaken i.val ber s) := by
  unfold hlLockChange
  change (match (lane (berTaken i.val ber s) i.val).state with | .adapting => _ | .locked => _ | _ => _) = _
  rw [lane_berTaken_self]
  simp only [state]
  refine if_pos ?_
  rw [Bool.and_eq_true, Bool.and_eq_true, decide_eq_true_iff, Bool.not_eq_true']
  exact ⟨⟨rfl, low⟩, ref⟩

/-- A lane that was locked counts the loss. -/
def lockLost (i : Nat) (s : Device) : Device := modLane i (fun l => { l with lockLoss := sat 32 (l.lockLoss + 1) }) s

theorem hlLockChange_loses {i : Fin 32} {cdr : Bool} {ber : Nat} (state : (lane s i.val).state = .locked)
    (bad : cdr = false ∨ 1000000 < ber) :
    hlLockChange i cdr ber s = setLane i.val .adapting (lockLost i.val (berTaken i.val ber s)) := by
  unfold hlLockChange
  change (match (lane (berTaken i.val ber s) i.val).state with | .adapting => _ | .locked => _ | _ => _) = _
  rw [lane_berTaken_self]
  simp only [state]
  exact if_pos (by simpa using bad)

/-- The sources of a lane's adaptation are none of deskew, nor of a reference. -/
theorem adaptKey_apart (i : Fin 32) : ∀ l, l ≤ i.val → srcKey 0x0C02 i.val ≠ srcKey 0x0C03 l := by
  intro l hl
  have hi := i.isLt
  simp only [srcKey]
  omega

theorem isSource_laneAdapt : ∀ i : Fin 32, isSource 0x0C02 i.val = true := by decide

theorem isSource_deskew : ∀ i : Fin 32, isSource 0x0C03 i.val = true := by decide

theorem isSource_laneRef : ∀ k : Fin 8, isSource 0x0C01 k.val = true := by decide

/-! ### Adaptation restarts, polarity -/

/-- Adaptation restarts and is counted. -/
def adaptRestarted (i : Nat) (s : Device) : Device :=
  modLane i (fun l =>
    { l with adaptTicks := 0, restarts := min 15 (l.restarts + 1), adaptRestart := sat 32 (l.adaptRestart + 1) }) s

theorem hlAdaptTimeout_eq {i : Fin 32} (state : (lane s i.val).state = .adapting) (ticks : 50001 ≤ (lane s i.val).adaptTicks) :
    hlAdaptTimeout i s = if 7 ≤ (lane s i.val).restarts then faultOn 0x0C02 i.val [] (adaptRestarted i.val s)
      else adaptRestarted i.val s := by
  unfold hlAdaptTimeout
  refine (if_neg (by simp [state]; omega)).trans ?_
  change (if 8 ≤ (lane (adaptRestarted i.val s) i.val).restarts then _ else _) = _
  rw [show lane (adaptRestarted i.val s) i.val = _ from (lane_modLane _ _ _ _).trans (if_pos rfl)]
  by_cases h : 7 ≤ (lane s i.val).restarts
  · rw [if_pos h, if_pos (by simp; omega)]
    rfl
  · rw [if_neg h, if_neg (by simp; omega)]
    rfl

/-! ### Markers and deskew -/

/-- The client of a lane evaluates its deskew, and reports the order found (R650). -/
def clientOrder (i : Nat) (s : Device) : Device :=
  match clientOn s i with | some k => evalDeskew k (reportOrder k s) | none => s

theorem sameButDeskew_clientOrder (i j : Nat) (s : Device) : SameButDeskew (lane s j) (lane (clientOrder i s) j) := by
  unfold clientOrder
  split
  · rename_i k _
    have lanes : (reportOrder k s).lanes = s.lanes :=
      (kept_reportOrder (ρ := .part .lanes) (s₀ := s) k s (by decide)).mpr (.refl _ s)
    rw [← lane_of_lanes lanes j]
    exact sameButDeskew_evalDeskew k _ j
  · exact .refl _

/-- A lane gains or loses marker lock. -/
def markerMoved (i : Nat) (gained : Bool) (id : Nat) (s : Device) : Device :=
  modLane i (fun l => { l with amLock := gained, laneId := if gained then some (id % 32) else none }) s

theorem alignmentMarkerLock_eq {i : Fin 32} {gained : Bool} {id : Nat} (change : (lane s i.val).amLock ≠ gained)
    (locked : gained = true → (lane s i.val).state = .locked) :
    alignmentMarkerLock i gained id s = evalTribs (evalPassThrough (clientOrder i.val (markerMoved i.val gained id s))) := by
  unfold alignmentMarkerLock
  refine (if_neg ?_).trans rfl
  cases gained
  · simp [change]
  · simp [change, locked rfl]

theorem lane_alignmentMarkerLock {i : Fin 32} {gained : Bool} {id : Nat} (change : (lane s i.val).amLock ≠ gained)
    (locked : gained = true → (lane s i.val).state = .locked) (j : Nat) :
    SameButDeskew (if j = i.val then { lane s i.val with
      amLock := gained, laneId := if gained then some (id % 32) else none } else lane s j)
      (lane (alignmentMarkerLock i gained id s) j) := by
  have moved : lane (markerMoved i.val gained id s) j = if j = i.val then { lane s i.val with
      amLock := gained, laneId := if gained then some (id % 32) else none } else lane s j := lane_modLane _ _ _ _
  rw [alignmentMarkerLock_eq change locked, lane_of_lanes (evalTribs_lanes _), lane_of_lanes (evalPassThrough_lanes _),
    ← moved]
  exact sameButDeskew_clientOrder _ _ _

/-- The skew of a client's lanes is beyond what deskew takes. -/
def skewMarked (i : Nat) (s : Device) : Device := modLane i (fun l => { l with skewBad := true }) s

theorem hlDeskewFail_eq {i : Fin 32} {k : ClientPlan} (client : (plan s).clients.find? (fun k => k.lane = i.val) = some k) :
    hlDeskewFail i true s = evalTribs (evalPassThrough (evalDeskew k (skewMarked i.val s))) := by
  unfold hlDeskewFail
  rw [client]
  rfl

theorem allMarked_skewMarked (k : ClientPlan) (i : Nat) (s : Device) : allMarked (skewMarked i s) k = allMarked s k := by
  unfold allMarked
  congr 1
  funext j
  rw [show lane (skewMarked i s) j = _ from lane_modLane _ _ _ _]
  split
  · rename_i h
    rw [h]
  · rfl

/-! ### Reference of a group -/

/-- A locked lane adapts again when its reference is lost. -/
def lockedAdapts (i : Nat) (s : Device) : Device := if (lane s i).state = .locked then setLane i .adapting s else s

theorem lockedAdapts_spec (i : Nat) (s : Device) :
    (lane (lockedAdapts i s) i).state = (if (lane s i).state = .locked then .adapting else (lane s i).state) ∧
    (∀ j, j ≠ i → (lane (lockedAdapts i s) j).state = (lane s j).state) ∧
    (lockedAdapts i s).lanes.refLost = s.lanes.refLost ∧ (lockedAdapts i s).timing = s.timing ∧
    ∀ k, i < 256 → k < 256 → source (lockedAdapts i s) 0x0C01 k = source s 0x0C01 k := by
  unfold lockedAdapts
  split
  · rename_i h
    obtain ⟨⟨scan, bad, own⟩, others, ref, source, -⟩ := setLane_spec (st := .adapting) (by rw [h]; decide : (lane s i).state ≠ _)
    refine ⟨by rw [own]; rfl, fun j ne => (others j ne).state, ref, setLane_timing _ _ _, fun k hi hk => source _ _ ?_ ?_⟩
    · simp only [srcKey]
      omega
    · intro l hl
      simp only [srcKey]
      omega
  · exact ⟨rfl, fun _ _ => rfl, rfl, rfl, fun _ _ _ => rfl⟩

theorem eachLockedAdapts_spec {l : List Nat} (nodup : l.Nodup) (small : ∀ i ∈ l, i < 256) (s : Device) :
    (∀ i, i ∈ l → (lane (each l lockedAdapts s) i).state =
      (if (lane s i).state = .locked then .adapting else (lane s i).state)) ∧
    (∀ i, i ∉ l → (lane (each l lockedAdapts s) i).state = (lane s i).state) ∧
    (each l lockedAdapts s).lanes.refLost = s.lanes.refLost ∧ (each l lockedAdapts s).timing = s.timing ∧
    ∀ k, k < 256 → source (each l lockedAdapts s) 0x0C01 k = source s 0x0C01 k := by
  unfold each
  induction l generalizing s with
  | nil => exact ⟨fun _ h => absurd h List.not_mem_nil, fun _ _ => rfl, rfl, rfl, fun _ _ => rfl⟩
  | cons i r ih =>
    obtain ⟨fresh, nodup⟩ := List.nodup_cons.mp nodup
    rw [List.foldl_cons]
    obtain ⟨own, others, ref, timing, source⟩ := lockedAdapts_spec i s
    obtain ⟨within, outside, ref', timing', source'⟩ := ih nodup (fun j hj => small j (List.mem_cons_of_mem _ hj)) (lockedAdapts i s)
    refine ⟨fun j hj => ?_, fun j hj => ?_, ref'.trans ref, timing'.trans timing,
      fun k hk => (source' k hk).trans (source k (small i List.mem_cons_self) hk)⟩
    · rcases List.mem_cons.mp hj with rfl | hj
      · exact (outside j fresh).trans own
      · rw [within j hj, others j (fun h => fresh (h ▸ hj))]
    · rw [List.mem_cons, not_or] at hj
      exact (outside j hj.2).trans (others j hj.1)

/-- The reference of a lane group is lost. -/
def refMarked (k : Nat) (s : Device) : Device := putLanes { s.lanes with refLost := s.lanes.refLost ||| (1#8 <<< k) } s

theorem hlRefclkLoss_eq (k : Fin 8) (s : Device) :
    hlRefclkLoss k s = faultOn 0x0C01 k.val [] (each (groupLanes k.val) lockedAdapts (refMarked k.val s)) := rfl

/-! ### Eye scan -/

/-- A scan's maps are kept. -/
def scanKept (i : Nat) (h : Held) (maps : List Byte) (s : Device) : Device :=
  modLane i (fun l => { l with
    scan := none
    eye := some ⟨rd h.req.params 1 1, fit (520 * (bit (tb (rd h.req.params 1 1) 0) + bit (tb (rd h.req.params 1 1) 1) +
      bit (tb (rd h.req.params 1 1) 2))) maps⟩ }) s

theorem eyeScanComplete_eq {i : Fin 32} {maps : List Byte} {h : Held} (scan : (lane s i.val).scan = some h) :
    eyeScanComplete i maps s = heldDone h .ok (scanKept i.val h maps s) := by
  unfold eyeScanComplete
  rw [scan]
  rfl

@[simp] theorem allMarked_putOut (k : ClientPlan) (o : List Output) (s : Device) : allMarked (putOut o s) k = allMarked s k := rfl
end

/-- Settles O35: signal, lock, adaptation, polarity, markers, deskew, reference, release and eye scan of host lanes. -/
theorem hostLaneReception : Obligations.HostLaneReception := by
  unfold Obligations.HostLaneReception
  refine ⟨?_, ?_, ?_, ?_, ?_, ?_, ?_, ?_, ?_, ?_, ?_, ?_, ?_⟩
  · intro s i heard state
    refine yields_of rfl (hlSignalDetect_found (s := putOut [] s.dev) (by simpa using heard) (by simpa using state)) ?_
    obtain ⟨⟨scan, bad, own⟩, others, -⟩ := setLane_spec (s := putOut [] s.dev) (i := i.val) (st := .adapting)
      (by rw [lane_putOut, state]; decide)
    simp only [lane_drivePins, drivePins_tx, drivePins_rx]
    rw [own]
    exact ⟨rfl, rfl, rfl, fun j ne => (others j ne).state.trans (by rw [lane_putOut]),
      (kept_setLane (ρ := .part .tx) (s₀ := s.dev) _ _ _ (by decide)).mpr (by simp),
      (kept_setLane (ρ := .part .rx) (s₀ := s.dev) _ _ _ (by decide)).mpr (by simp)⟩
  · intro s i heard state
    refine yields_of rfl (hlSignalDetect_lost (s := putOut [] s.dev) (by simpa using heard) (by simpa using state)) ?_
    obtain ⟨⟨scan, bad, own⟩, others, -⟩ := setLane_spec (s := putOut [] s.dev) (i := i.val) (st := .noSignal)
      (by rw [lane_putOut]; rcases state with h | h <;> rw [h] <;> decide)
    simp only [lane_drivePins, drivePins_tx, drivePins_rx]
    rw [own, lane_putOut]
    exact ⟨rfl, rfl, fun locked => by simp [laneEntered, locked], fun j ne => (others j ne).state.trans (by rw [lane_putOut]),
      (kept_setLane (ρ := .part .tx) (s₀ := s.dev) _ _ _ (by decide)).mpr (by simp),
      (kept_setLane (ρ := .part .rx) (s₀ := s.dev) _ _ _ (by decide)).mpr (by simp)⟩
  · intro s i ber state low ref
    refine yields_of rfl (hlLockChange_locks (s := putOut [] s.dev) (by simpa using state) low (by simpa using ref)) ?_
    obtain ⟨⟨scan, bad, own⟩, others, -, -, off⟩ := setLane_spec (s := berTaken i.val ber (putOut [] s.dev)) (i := i.val)
      (st := .locked) (by rw [lane_berTaken_self, lane_putOut, state]; decide)
    simp only [lane_drivePins, drivePins_tx, drivePins_rx, source_drivePins]
    rw [own, lane_berTaken_self]
    refine ⟨rfl, Nat.min_eq_left (by omega), rfl, off rfl (adaptKey_apart i), fun j ne => ?_,
      (kept_setLane (ρ := .part .tx) (s₀ := s.dev) _ _ _ (by decide)).mpr (by simp [berTaken]),
      (kept_setLane (ρ := .part .rx) (s₀ := s.dev) _ _ _ (by decide)).mpr (by simp [berTaken])⟩
    exact (others j ne).state.trans (by rw [lane_berTaken_other ne, lane_putOut])
  · intro s i cdr ber state bad
    refine yields_of rfl (hlLockChange_loses (s := putOut [] s.dev) (by simpa using state) bad) ?_
    have lost : lane (lockLost i.val (berTaken i.val ber (putOut [] s.dev))) i.val = { lane s.dev i.val with
        estBer := sat 32 ber, lockLoss := sat 32 ((lane s.dev i.val).lockLoss + 1) } := by
      rw [lockLost, lane_modLane, if_pos rfl, lane_berTaken_self, lane_putOut]
    obtain ⟨⟨scan, _, own⟩, others, -⟩ := setLane_spec (s := lockLost i.val (berTaken i.val ber (putOut [] s.dev)))
      (i := i.val) (st := .adapting) (by rw [lost]; simp [state])
    simp only [lane_drivePins, drivePins_tx, drivePins_rx]
    rw [own, lost]
    refine ⟨rfl, rfl, by simp [laneEntered, state], fun j ne => ?_,
      (kept_setLane (ρ := .part .tx) (s₀ := s.dev) _ _ _ (by decide)).mpr (by simp [berTaken, lockLost]),
      (kept_setLane (ρ := .part .rx) (s₀ := s.dev) _ _ _ (by decide)).mpr (by simp [berTaken, lockLost])⟩
    exact (others j ne).state.trans (by rw [lockLost, lane_modLane, if_neg ne, lane_berTaken_other ne, lane_putOut])
  · intro s i state ticks
    refine yields_of rfl (hlAdaptTimeout_eq (s := putOut [] s.dev) (by simpa using state) (by simpa using ticks)) ?_
    have moved (j : Nat) : lane (adaptRestarted i.val (putOut [] s.dev)) j = if j = i.val then { lane s.dev i.val with
        adaptTicks := 0, restarts := min 15 ((lane s.dev i.val).restarts + 1)
        adaptRestart := sat 32 ((lane s.dev i.val).adaptRestart + 1) } else lane s.dev j := by
      rw [adaptRestarted, lane_modLane, lane_putOut, lane_putOut]
    have only : Only [.lanes] s.dev (adaptRestarted i.val (putOut [] s.dev)) :=
      only_of_kept fun ρ hρ => by simp at hρ; simp [hρ, adaptRestarted]
    have sources (id inst : Nat) : source (adaptRestarted i.val (putOut [] s.dev)) id inst = source s.dev id inst := rfl
    have now : (adaptRestarted i.val (putOut [] s.dev)).timing.now = s.dev.timing.now := rfl
    generalize adaptRestarted i.val (putOut [] s.dev) = u at *
    rw [lane_putOut]
    simp only [lane_drivePins, only_drivePins_iff, source_drivePins, faulted_drivePins]
    split
    · rename_i many
      have lanes (j : Nat) : lane (faultOn 0x0C02 i.val [] u) j = lane u j := lane_of_lanes (by simp) j
      simp only [lanes, moved, if_true]
      refine ⟨trivial, fun j ne => if_neg ne, fun _ off => ⟨source_faultOn _ _ _ _ (isSource_laneAdapt i), ?_⟩,
        fun few => absurd many (by omega), ?_⟩
      · have faulted := faulted_faultOn [] u (isSource_laneAdapt i) ((sources _ _).symm ▸ off)
        unfold Faulted at faulted ⊢
        rw [sources, now] at faulted
        exact faulted
      · intro p hp
        refine Part.same_trans (only p (by simp at hp; simp [hp])) ?_
        exact (kept_faultOn (ρ := .part p) (s₀ := u) 0x0C02 i.val [] u
          (by simp [Part.ofFault] at hp; simp [hp])).mpr (.refl _ u)
    · rename_i few
      simp only [moved, if_true]
      exact ⟨trivial, fun j ne => if_neg ne, fun many => absurd many few, fun _ => only,
        fun p hp => only p (by simp at hp; simp [hp])⟩
  · intro s i state am pol invert since
    refine yields_of rfl (if_pos (by simp [state, am, pol, invert, since])) ?_
    simp only [lane_drivePins, only_drivePins_iff, raised_drivePins]
    have moved (j : Nat) := lane_modLane i.val j (fun l => { l with polFixed := true }) (putOut [] s.dev)
    simp only [lane_putOut] at moved
    refine ⟨(moved i.val).trans (if_pos rfl), (raised_raise _ _ _ _ _).of_before rfl rfl rfl,
      fun j ne => (moved j).trans (if_neg ne), only_of_kept fun ρ hρ => by simp at hρ; simp [hρ]⟩
  · intro s i id state am
    refine yields_of rfl rfl ?_
    have moved := lane_alignmentMarkerLock (s := putOut [] s.dev) (i := i) (gained := true) (id := id)
      (by rw [lane_putOut, am]; decide) (fun _ => by rw [lane_putOut]; exact state)
    have own := moved i.val
    rw [if_pos rfl] at own
    simp only [lane_drivePins, drivePins_tx, drivePins_rx]
    refine ⟨own.amLock, own.laneId, own.state.trans (by rw [lane_putOut]; exact state), fun j ne => ?_,
      (kept_alignmentMarkerLock (ρ := .part .tx) (s₀ := s.dev) i true id _ (by decide)).mpr (by simp),
      (kept_alignmentMarkerLock (ρ := .part .rx) (s₀ := s.dev) i true id _ (by decide)).mpr (by simp)⟩
    have other := moved j
    rw [if_neg ne] at other
    exact other.amLock.trans (by rw [lane_putOut])
  · intro s i id am
    refine yields_of rfl rfl ?_
    have moved := lane_alignmentMarkerLock (s := putOut [] s.dev) (i := i) (gained := false) (id := id)
      (by rw [lane_putOut, am]; decide) (fun h => absurd h (by decide))
    have own := moved i.val
    rw [if_pos rfl] at own
    simp only [lane_drivePins, drivePins_tx, drivePins_rx]
    refine ⟨own.amLock, own.laneId, own.state.trans (by rw [lane_putOut]), fun j ne => ?_,
      (kept_alignmentMarkerLock (ρ := .part .tx) (s₀ := s.dev) i false id _ (by decide)).mpr (by simp),
      (kept_alignmentMarkerLock (ρ := .part .rx) (s₀ := s.dev) i false id _ (by decide)).mpr (by simp)⟩
    have other := moved j
    rw [if_neg ne] at other
    exact other.amLock.trans (by rw [lane_putOut])
  · intro s i k client marked off
    have num : k.lane = i.val := by simpa using List.find?_some client
    refine yields_of rfl (hlDeskewFail_eq (s := putOut [] s.dev) (by simpa using client)) ?_
    have skew : lane (skewMarked i.val (putOut [] s.dev)) i.val = { lane s.dev i.val with skewBad := true } := by
      rw [skewMarked, lane_modLane, if_pos rfl, lane_putOut]
    have bad : deskewBad k (skewMarked i.val (putOut [] s.dev)) = true := by
      rw [deskewBad, allMarked_skewMarked, allMarked_putOut, marked, num, skew]
      rfl
    have own := lane_evalDeskew k (skewMarked i.val (putOut [] s.dev))
    have eval := evalDeskew_eq k (skewMarked i.val (putOut [] s.dev))
    rw [bad] at own eval
    simp only [lane_drivePins, source_drivePins, faulted_drivePins, drivePins_tx, drivePins_rx]
    have lanes (j : Nat) : lane (evalTribs (evalPassThrough (evalDeskew k (skewMarked i.val (putOut [] s.dev))))) j =
        lane (evalDeskew k (skewMarked i.val (putOut [] s.dev))) j := by
      rw [lane_of_lanes (evalTribs_lanes _), lane_of_lanes (evalPassThrough_lanes _)]
    have sources : source (evalTribs (evalPassThrough (evalDeskew k (skewMarked i.val (putOut [] s.dev))))) 0x0C03 k.lane =
        source (faultOn 0x0C03 k.lane [] (deskewMarked k (skewMarked i.val (putOut [] s.dev)))) 0x0C03 k.lane := by
      rw [source_evalTribs, source_evalPassThrough, eval]
      rfl
    have before : source (deskewMarked k (skewMarked i.val (putOut [] s.dev))) 0x0C03 k.lane = source s.dev 0x0C03 k.lane :=
      source_of_sources (sources_of_kept ((only_marked _ _ _) .fault (by decide))) _ _
    have now : (deskewMarked k (skewMarked i.val (putOut [] s.dev))).timing = s.dev.timing :=
      (only_marked _ _ _) .timing (by decide)
    have isSource : isSource 0x0C03 k.lane = true := num ▸ isSource_deskew i
    have kept (p : Part) (hp : (Region.part p) ∉ parts [.line, .tribs, .crypto, .kme, .mem, .lanes, .stack, .clock, .fault]) :=
      kept_hlDeskewFail (ρ := .part p) (s₀ := s.dev) i true (putOut [] s.dev) hp
    rw [hlDeskewFail_eq (s := putOut [] s.dev) (by simpa using client)] at kept
    refine ⟨?_, fun j hj => ?_, ?_, ?_, (kept .tx (by decide)).mpr (by simp), (kept .rx (by decide)).mpr (by simp)⟩
    · rw [lanes, (sameButDeskew_evalDeskew k _ i.val).skewBad, skew]
    · rw [lanes, own, if_pos hj]
    · rw [sources]
      exact source_faultOn _ _ _ _ isSource
    · have faulted := faulted_faultOn [] (deskewMarked k (skewMarked i.val (putOut [] s.dev))) isSource (before.symm ▸ off)
      unfold Faulted at faulted ⊢
      rw [sources]
      rw [before, now] at faulted
      exact faulted
  · intro s k off
    refine yields_of rfl (hlRefclkLoss_eq k _) ?_
    have hk := k.isLt
    obtain ⟨within, outside, ref, timing, source⟩ := eachLockedAdapts_spec (l := groupLanes k.val) (by simp [groupLanes])
      (by simp [groupLanes]; omega) (refMarked k.val (putOut [] s.dev))
    have marked (j : Nat) : lane (refMarked k.val (putOut [] s.dev)) j = lane s.dev j := rfl
    have source' := source k.val (by omega)
    have kept (p : Part) (hp : (Region.part p) ∉ parts [.line, .crypto, .kme, .mem, .lanes, .stack, .clock, .fault, .host, .evq]) :=
      (kept_hlRefclkLoss (ρ := .part p) (s₀ := s.dev) k (putOut [] s.dev) hp)
    rw [hlRefclkLoss_eq] at kept
    simp only [marked] at within outside
    generalize each (groupLanes k.val) lockedAdapts (refMarked k.val (putOut [] s.dev)) = u at *
    simp only [lane_drivePins, source_drivePins, faulted_drivePins, drivePins_tx, drivePins_rx, drivePins_lanes, faultOn_lanes]
    have lanes (j : Nat) : lane (faultOn 0x0C01 k.val [] u) j = lane u j := lane_of_lanes (by simp) j
    simp only [lanes]
    refine ⟨ref, within, outside, source_faultOn _ _ _ _ (isSource_laneRef k), ?_,
      (kept .tx (by decide)).mpr (by simp), (kept .rx (by decide)).mpr (by simp)⟩
    have faulted := faulted_faultOn [] u (isSource_laneRef k) (source'.symm ▸ off)
    unfold Faulted at faulted ⊢
    rw [source', timing] at faulted
    exact faulted
  · intro s k
    refine yields_of rfl rfl ?_
    simp only [only_drivePins_iff, drivePins_lanes, source_drivePins]
    exact ⟨faultOff_lanes _ _ _, source_faultOff _ _ _, only_of_kept fun ρ hρ => by simp at hρ; simp [hρ]⟩
  · intro s k held gone
    refine yields_of rfl (domainResetRelease_eq (s := putOut [] s.dev) {} (by simpa using held) (by simp) (by simp) (by simp)
      (fun c hc => .inl (by simpa using gone c hc))) ?_
    have after := inReset_leaveReset (d := .lg k) (by simp) {} (putOut [] s.dev)
    simp only [inReset_drivePins, after, inReset_putOut]
    exact ⟨by simp, fun e ne => by simp [ne]⟩
  · intro s i maps h scan waits
    refine yields_of rfl ((eyeScanComplete_eq (s := putOut [] s.dev) (by simpa using scan)).trans
      (deferredDoneX_waiting (s := scanKept i.val h maps (putOut [] s.dev)) waits _ _)) ?_
    simp only [lane_drivePins, only_drivePins_iff, raised_drivePins]
    have moved (j : Nat) := lane_modLane i.val j (fun l => { l with
      scan := none
      eye := some ⟨rd h.req.params 1 1, fit (520 * (bit (tb (rd h.req.params 1 1) 0) + bit (tb (rd h.req.params 1 1) 1) +
        bit (tb (rd h.req.params 1 1) 2))) maps⟩ }) (putOut [] s.dev)
    simp only [lane_putOut] at moved
    refine ⟨(moved i.val).trans (if_pos rfl), fun j ne => (moved j).trans (if_neg ne), ?_,
      only_of_kept fun ρ hρ => by simp at hρ; simp [hρ, scanKept]⟩
    have raised := raised_raise 0x0001 h.req.mb.val 0
      (le 1 h.req.mb.val ++ le 1 Status.ok.code ++ le 2 h.op ++ le 2 h.req.seq.toNat ++ [])
      (putHost { (scanKept i.val h maps (putOut [] s.dev)).host with
        pendCmds := (scanKept i.val h maps (putOut [] s.dev)).host.pendCmds.erase ⟨h.req.mb.val, h.op, h.req.seq.toNat⟩ }
        (scanKept i.val h maps (putOut [] s.dev)))
    rw [List.append_nil] at raised
    rw [List.append_nil]
    exact raised.of_before rfl rfl rfl

end Sys2Proof.Machine

/-!
The fault collector (19_fault_handling R743 to R767): classification, log, reactions, quiet periods and injection.
-/
namespace Sys2Proof.Machine
open Sys2Proof

section
variable {s : Device}

/-! ### One event -/

/-- The record of an event in the log (R759). -/
def eventRecord (others : Nat) (t : Time) (e : FaultIn) (s : Device) : FaultRec :=
  let q := source s e.id e.inst
  let entered := nextPhase s e ≠ q.st
  let mask := faultSet s e.id e.inst 4
  let wasHeld := if q.st = .quiet then 0 else mask &&& heldMask
  let began : Nat :=
    if belowCount s e then 1
    else if e.inert s then 3
    else 1 ||| (mask &&& 2) |||
      (if entered then (mask &&& heldMask) &&& (heldMask ^^^ wasHeld) ||| (mask &&& 0x180) else 0)
  let flags : Nat := bit e.injected + 2 * bit (belowCount s e) + 4 * bit (others ≠ 0) +
    8 * bit (nextPhase s e = .latched && entered) + 16 * bit (q.st = .latched)
  { id := e.id, inst := e.inst, cls := effClass s e, flags := BitVec.ofNat 8 flags, phase := phaseOf s e.id e.inst,
    reactions := BitVec.ofNat 16 began, t, others, recoveries := q.recoveries, detail := e.detail }

/-- `t` has the fault log of `s`. -/
def SameLog (s t : Device) : Prop := t.fault.log = s.fault.log

theorem SameLog.of_fault {s t : Device} (h : t.fault = s.fault) : SameLog s t := congrArg FaultSt.log h

theorem SameLog.trans {s t u : Device} (h : SameLog s t) (k : SameLog t u) : SameLog s u := Eq.trans k h

theorem SameLog.andIte {s t u : Device} (c : Prop) [Decidable c] (h : SameLog s t) (k : SameLog t u) :
    SameLog s (if c then u else t) := by
  split
  · exact h.trans k
  · exact h

theorem sameLog_of_kept {s t : Device} (h : Kept (.part .fault) s t) : SameLog s t := by
  have h : t.fault = { s.fault with pinLow := t.fault.pinLow } := h
  rw [SameLog, h]

theorem sameLog_eraseKeys (s : Device) : SameLog s (eraseKeys s) :=
  sameLog_of_kept ((kept_eraseKeys (ρ := .part .fault) (s₀ := s) s (by decide)).mpr (.refl _ s))

theorem sameLog_localTrig (k : Nat) (t : Time) (f : Nat → CapSlot → Bool) (s : Device) : SameLog s (localTrig k t f s) :=
  sameLog_of_kept ((kept_localTrig (ρ := .part .fault) (s₀ := s) k t f s (by decide)).mpr (.refl _ s))

/-- An event of a source is logged once per slow tick (R759). -/
theorem log_faultOne {others : Nat} {t : Time} {e : FaultIn} (known : isSource e.id e.inst = true) :
    (faultOne others t e s).fault.log = if (source s e.id e.inst).logged then s.fault.log
      else (eventRecord others t e s :: s.fault.log).take 1024 := by
  have tail : SameLog (if !(source s e.id e.inst).logged then
      logFault (eventRecord others t e s) (modSource e.id e.inst (fun _ => recordAfter t e s) s)
      else modSource e.id e.inst (fun _ => recordAfter t e s) s) (faultOne others t e s) := by
    unfold faultOne
    simp only [known, Bool.not_true, Bool.false_eq_true, if_false]
    refine SameLog.trans ?_ (rfl : SameLog _ (pinLevel _))
    refine SameLog.trans ?_ (sameLog_localTrig _ _ _ _)
    refine SameLog.andIte _ ?_ rfl
    refine SameLog.andIte _ ?_ (sameLog_eraseKeys _)
    refine SameLog.andIte _ ?_ rfl
    exact SameLog.andIte _ rfl rfl
  rw [tail]
  cases (source s e.id e.inst).logged <;> rfl

theorem srcKey_injective {id inst id' inst' : Nat} (h : inst < 256) (h' : inst' < 256)
    (eq : srcKey id inst = srcKey id' inst') : id = id' ∧ inst = inst' := by
  simp only [srcKey] at eq
  omega

theorem catalogue_small : ∀ f ∈ catalogue, f.insts ≤ 256 := by decide

theorem isSource_small {id inst : Nat} (h : isSource id inst = true) : inst < 256 := by
  unfold isSource at h
  split at h
  · rename_i f hf
    have := catalogue_small f (List.mem_of_find?_eq_some hf)
    have : inst < f.insts := by simpa using h
    omega
  · exact absurd h (by decide)

/-- One report of an event, its check not inverted, is that event. -/
theorem faultEvent_one {e : FaultEntry} (known : isSource e.id e.inst = true) (kind : e.kind = 1)
    (plain : e.inverted = false) (notCore : e.id ≠ 0x0341) :
    faultEvent [e] s = faultOne 0 s.timing.now { id := e.id, inst := e.inst, detail := e.detail } s := by
  have own : ownRule e s = s := if_neg (by simp [notCore])
  have entry : ({ id := e.id, inst := e.inst, detail := e.detail, begins := decide (e.kind = 0), injected := isInjected s e } :
      FaultIn) = { id := e.id, inst := e.inst, detail := e.detail } := by
    simp [kind, isInjected, plain]
  have counted (u : Device) : countCheck e u = u := if_pos (by simp [plain])
  unfold faultEvent
  simp only [List.filter_cons, kind, List.filter_nil, List.map_cons, List.map_nil,
    show decide (1 ≠ 2) = true from rfl, show decide (1 = 2) = false from rfl, if_true, Bool.false_eq_true, if_false]
  have event := faultGroup_one s.timing.now { id := e.id, inst := e.inst, detail := e.detail } s known
  rw [kind] at entry
  rw [entry]
  change countCheck e (faultGroup s.timing.now _ (ownRule e s)) = _
  rw [own, counted, event]

/-- Reports of conditions that end. -/
theorem faultEvent_ends {e : FaultEntry} (kind : e.kind = 2) : faultEvent [e] s = faultOff e.id e.inst s := by
  unfold faultEvent
  simp only [List.filter_cons, kind, List.filter_nil, List.map_nil, show decide (2 ≠ 2) = false from rfl,
    decide_true, if_true, Bool.false_eq_true, if_false]
  rfl

theorem faultOff_keeps (id inst : Nat) (s : Device) :
    (source (faultOff id inst s) id inst).st = (source s id inst).st ∧
    (source (faultOff id inst s) id inst).events = (source s id inst).events := by
  unfold faultOff
  dsimp only
  split
  · exact ⟨rfl, rfl⟩
  · rw [source_modSource]
    dsimp only [startQuiet]
    split
    · exact ⟨rfl, rfl⟩
    · split <;> exact ⟨rfl, rfl⟩

/-! ### Reactions -/

theorem filter_mapAll_due (f : Nat → SourceSt → SourceSt) (due : ∀ k q, (f k q).due = q.due) (t : Tab SourceSt) :
    ((Tab.mapAll (fun _ => {}) t f).filter fun p => p.2.due.getLsbD 7).map (·.1) =
      (t.filter fun p => p.2.due.getLsbD 7).map (·.1) := by
  have listed (p : Nat × SourceSt) (h : p.2.due.getLsbD 7 = true) : f p.1 p.2 ≠ {} := by
    intro none
    have := due p.1 p.2
    rw [none] at this
    rw [← this] at h
    exact absurd h (by decide)
  unfold Tab.mapAll
  induction t with
  | nil => rfl
  | cons p r ih =>
    simp only [List.map_cons, List.filter_cons]
    cases h : p.2.due.getLsbD 7
    · split
      · simp only [List.filter_cons, due, h, Bool.false_eq_true, if_false]
        exact ih
      · exact ih
    · rw [if_pos (decide_eq_true (listed p h))]
      simp only [List.filter_cons, due, h, if_true, List.map_cons]
      rw [ih]

/-- The held reactions of a source follow its mask (R756). -/
def heldNow (s : Device) (k : Nat) (q : SourceSt) : SourceSt :=
  if q.st = .quiet then { q with held := 0 }
  else { q with held := BitVec.ofNat 16 (faultSet s (k / 256) (k % 256) 4 &&& heldMask) }

/-- What a reset is due for does not change when held reactions follow. -/
theorem due_heldFollow (s : Device) :
    ((heldFollow s).fault.sources.filter fun p => p.2.due.getLsbD 7).map (·.1) =
      (s.fault.sources.filter fun p => p.2.due.getLsbD 7).map (·.1) := by
  refine filter_mapAll_due (heldNow s) (fun k q => ?_) s.fault.sources
  unfold heldNow
  split <;> rfl

/-- A source's reset, due at the boundary (R755). -/
def resetDue (p : Nat × SourceSt) (s : Device) : Device :=
  enterDomain (domainOf (p.1 / 256) (p.1 % 256)) 3
    (modSource (p.1 / 256) (p.1 % 256) (fun q => { q with due := 0 }) s)

/-- The events that are due are raised (R758). -/
def dueEvents (s : Device) : Device :=
  if s.fault.dueRaised.isEmpty then modFault (fun f => { f with dueRaised := [] }) s
  else setIrq 5 (putEvq (s.evq ++ s.fault.dueRaised.map (·.2)) (modFault (fun f => { f with dueRaised := [] }) s))

theorem faultReaction_eq (s : Device) : faultReaction s =
    dueEvents (each ((heldFollow s).fault.sources.filter fun p => p.2.due.getLsbD 7) resetDue (heldFollow s)) := rfl

theorem dueEvents_clock (s : Device) : (dueEvents s).clock = s.clock := by
  unfold dueEvents
  split
  · rfl
  · exact setIrq_clock _ _

theorem dueEvents_spec (s : Device) : (dueEvents s).evq = s.evq ++ s.fault.dueRaised.map (·.2) ∧
    (dueEvents s).fault = { s.fault with dueRaised := [] } ∧
    (s.fault.dueRaised ≠ [] → (dueEvents s).host.irqStatus.getLsbD 5 = true) ∧
    Only [.fault, .evq, .host] s (dueEvents s) := by
  unfold dueEvents
  split
  · rename_i empty
    have none : s.fault.dueRaised = [] := by simpa using empty
    refine ⟨by simp [none], rfl, fun some => absurd none some, only_of_kept fun ρ hρ => by simp at hρ; simp [hρ]⟩
  · refine ⟨(setIrq_evq _ _).trans rfl, (setIrq_fault _ _).trans rfl, fun _ => setIrq_bit _ _ (by decide),
      only_of_kept fun ρ hρ => by simp at hρ; simp [hρ]⟩

theorem faultReaction_noReset (none : ∀ p, p ∈ s.fault.sources → p.2.due.getLsbD 7 = false) :
    faultReaction s = dueEvents (heldFollow s) := by
  have clear : s.fault.sources.filter (fun p => p.2.due.getLsbD 7) = [] :=
    List.filter_eq_nil_iff.mpr fun p hp => by rw [none p hp]; decide
  have due := due_heldFollow s
  rw [clear, List.map_nil, List.map_eq_nil_iff] at due
  rw [faultReaction_eq, due]
  rfl

theorem inReset_enterDomain (d : Domain) (cause : Nat) (s : Device) : inReset (enterDomain d cause s) d = true := by
  unfold enterDomain
  dsimp only
  generalize (if (!inReset s d && d = .device) = true then _ else _ : Device) = u
  have own : inReset (enterReset d cause u) d = true := inReset_enterReset d cause u
  generalize enterReset d cause u = v at own ⊢
  have device : inReset (if (!inReset s d && d = .por) = true then enterReset .device 4 v else v) d = true := by
    split
    · exact inReset_mono _ _ _ _ own
    · exact own
  generalize (if (!inReset s d && d = .por) = true then enterReset .device 4 v else v) = w at device ⊢
  have all : inReset (if (!inReset s d && (d = .device || d = .por)) = true then
      each (containedIn w) (fun x s => enterReset x 4 s) w else w) d = true := by
    split
    · exact inReset_each_mono _ 4 _ _ device
    · exact device
  generalize (if (!inReset s d && (d = .device || d = .por)) = true then
      each (containedIn w) (fun x s => enterReset x 4 s) w else w) = x at all ⊢
  split
  · exact all
  · exact all

theorem faultReaction_reset {id inst : Nat} (small : inst < 256)
    (one : (s.fault.sources.filter fun p => p.2.due.getLsbD 7).map (·.1) = [srcKey id inst]) :
    inReset (faultReaction s) (domainOf id inst) = true := by
  obtain ⟨p, due, key⟩ := List.map_eq_singleton_iff.mp ((due_heldFollow s).trans one)
  have hid : p.1 / 256 = id := by rw [key, srcKey]; omega
  have hinst : p.1 % 256 = inst := by rw [key, srcKey]; omega
  have reset : inReset (resetDue p (heldFollow s)) (domainOf id inst) = true := by
    unfold resetDue
    rw [hid, hinst]
    exact inReset_enterDomain _ _ _
  rw [faultReaction_eq, due]
  unfold inReset at reset ⊢
  rw [dueEvents_clock]
  exact reset

/-! ### Quiet periods -/

theorem toQuiet_spec (id inst : Nat) (s : Device) :
    source (toQuiet id inst s) id inst = { source s id inst with
      st := .quiet, quiet := none, held := 0, due := 0, lastChange := s.timing.now } ∧
    (faultSet s id inst 4 / 2 % 2 = 1 → Raised 0x0F02 id 0
      (fields 8 [(0, le 1 inst), (6, le 2 (source s id inst).recoveries)]) s (toQuiet id inst s)) := by
  unfold toQuiet
  dsimp only
  have quiet := source_modSource id inst (fun q =>
    { q with st := .quiet, quiet := none, held := 0, due := 0, lastChange := s.timing.now }) s
  generalize moved : modSource id inst (fun q =>
    { q with st := .quiet, quiet := none, held := 0, due := 0, lastChange := s.timing.now }) s = u at quiet ⊢
  have raised := (raised_raise 0x0F02 id 0 (fields 8 [(0, le 1 inst), (6, le 2 (source s id inst).recoveries)]) u).of_before
    (s := s) (by rw [← moved]; rfl) (by rw [← moved]; rfl) (by rw [← moved]; rfl)
  split
  · exact ⟨quiet, fun _ => raised⟩
  · rename_i off
    exact ⟨quiet, fun on => absurd on off⟩

/-- A recovery of a class U source is counted (R750). -/
def recoveryCounted (id inst : Nat) (s : Device) : Device :=
  modSource id inst (fun q =>
    { q with recoveries := sat 16 ((source s id inst).recoveries + 1), recent := (0 :: q.recent).take 15 }) s

theorem source_recoveryCounted (id inst : Nat) (s : Device) : source (recoveryCounted id inst s) id inst =
    { source s id inst with
      recoveries := sat 16 ((source s id inst).recoveries + 1), recent := (0 :: (source s id inst).recent).take 15 } :=
  source_modSource _ _ _ _

theorem quietExpiry_plain {id inst : Nat} (st : (source s id inst).st = .active) (quiet : (source s id inst).quiet = some 0)
    (cls : clsOf id ≠ 1) : quietExpiry id inst s = toQuiet id inst s :=
  (if_neg (by simp [st, quiet, expired])).trans (if_pos cls)

theorem quietExpiry_counts {id inst : Nat} (st : (source s id inst).st = .active) (quiet : (source s id inst).quiet = some 0)
    (cls : clsOf id = 1) (few : (source s id inst).recent.length < 15) :
    quietExpiry id inst s = toQuiet id inst (recoveryCounted id inst s) := by
  refine (if_neg (by simp [st, quiet, expired])).trans ((if_neg (Decidable.not_not.mpr cls)).trans (if_pos ?_))
  simp
  omega

/-- The record of a source that latches by its recoveries (R750). -/
def latchRecord (id inst : Nat) (s : Device) : FaultRec :=
  { id, inst, cls := 1, flags := 8, phase := phaseOf (recoveryCounted id inst s) id inst, reactions := 0, t := s.timing.now,
    others := 0, recoveries := sat 16 ((source s id inst).recoveries + 1), detail := [] }

/-- A source latches by its recoveries and is logged (R750). -/
def latchLogged (id inst : Nat) (s : Device) : Device :=
  logFault (latchRecord id inst s)
    (modSource id inst (fun q => { q with st := .latched, quiet := none, lastChange := s.timing.now }) (recoveryCounted id inst s))

theorem quietExpiry_latches {id inst : Nat} (st : (source s id inst).st = .active) (quiet : (source s id inst).quiet = some 0)
    (cls : clsOf id = 1) (many : (source s id inst).recent.length = 15)
    (recent : ∀ a, a ∈ (source s id inst).recent → a < 3600) : quietExpiry id inst s =
      pinLevel (if faultSet (latchLogged id inst s) id inst 4 / 2 % 2 = 1 then
        dueRaised (latchRecord id inst s) (latchLogged id inst s) else latchLogged id inst s) := by
  refine (if_neg (by simp [st, quiet, expired])).trans ((if_neg (Decidable.not_not.mpr cls)).trans ((if_neg ?_).trans rfl))
  rw [Bool.not_eq_true', Bool.not_eq_false, Bool.and_eq_true, decide_eq_true_iff, List.all_eq_true]
  exact ⟨(Nat.le_of_eq many.symm), fun a ha => decide_eq_true (recent a (List.mem_of_mem_take ha))⟩

theorem source_latchLogged (id inst : Nat) (s : Device) : source (latchLogged id inst s) id inst =
    { source s id inst with
      st := .latched, quiet := none, lastChange := s.timing.now
      recoveries := sat 16 ((source s id inst).recoveries + 1), recent := (0 :: (source s id inst).recent).take 15 } := by
  have logged : source (latchLogged id inst s) id inst = source (modSource id inst (fun q =>
    { q with st := .latched, quiet := none, lastChange := s.timing.now }) (recoveryCounted id inst s)) id inst := rfl
  rw [logged, source_modSource, source_recoveryCounted]

end

/-- Settles O36: events, reactions, quiet periods, recovery phases, injections and the black box. -/
theorem faultCollector : Obligations.FaultCollector := by
  unfold Obligations.FaultCollector
  refine ⟨?_, ?_, ?_, ?_, ?_, ?_, ?_, ?_, ?_, ?_, ?_, ?_, ?_⟩
  · intro s e known kind plain notCore
    refine yields_of rfl (faultEvent_one (s := putOut [] s.dev) known kind plain notCore) ?_
    obtain ⟨_, pulse, st, events, last⟩ := source_faultOne 0 s.dev.timing.now
      { id := e.id, inst := e.inst, detail := e.detail } (putOut [] s.dev) known
    have log := log_faultOne (s := putOut [] s.dev) (others := 0) (t := s.dev.timing.now)
      (e := { id := e.id, inst := e.inst, detail := e.detail }) known
    simp only [faulted_drivePins, source_drivePins, only_drivePins_iff]
    have logKept := (drivePins_fault_log (faultOne 0 s.dev.timing.now { id := e.id, inst := e.inst, detail := e.detail }
      (putOut [] s.dev))).trans log
    refine ⟨⟨events, last⟩, ?_, st, fun off => ?_, fun on => logKept.trans (if_pos on), fun id inst known' ne => ?_,
      only_of_kept fun ρ hρ => ?_⟩
    · refine pulse.trans ((if_neg (by simp [FaultIn.inert])).trans (Bool.or_true _))
    · exact ⟨_, logKept.trans (if_neg (by rw [source_putOut, off]; decide)), rfl, rfl, rfl, rfl, rfl⟩
    · have one := faultGroup_one s.dev.timing.now { id := e.id, inst := e.inst, detail := e.detail } (putOut [] s.dev) known
      change source (faultOne 0 s.dev.timing.now _ _) id inst = _
      rw [← one]
      refine (source_faultGroup_other (fun key => ne ?_) _ _).trans (source_putOut _ _ _ _)
      obtain ⟨h, k⟩ := srcKey_injective (isSource_small known') (isSource_small known) key
      rw [h, k]
    · simp [Part.ofFault] at hρ
      simp [hρ]
  · intro s e above real cls
    unfold nextPhase effClass
    simp [above, FaultIn.inert, real, cls]
  · intro s e above real cls quiet
    unfold nextPhase effClass
    simp [above, FaultIn.inert, real, cls, quiet]
  · intro s e below
    unfold nextPhase
    simp [below]
  · intro s e kind
    refine yields_of rfl (faultEvent_ends (s := putOut [] s.dev) kind) ?_
    simp only [source_drivePins, only_drivePins_iff]
    obtain ⟨st, events⟩ := faultOff_keeps e.id e.inst (putOut [] s.dev)
    exact ⟨source_faultOff _ _ _, by simpa using st, by simpa using events,
      only_of_kept fun ρ hρ => by simp at hρ; simp [hρ]⟩
  · intro s none
    refine yields_of rfl (faultReaction_noReset (s := putOut [] s.dev) none) ?_
    obtain ⟨evq, fault, bit, only⟩ := dueEvents_spec (heldFollow (putOut [] s.dev))
    have held : Only [.fault] s.dev (heldFollow (putOut [] s.dev)) := only_of_kept fun ρ hρ => by simp at hρ; simp [hρ]
    simp only [only_drivePins_iff, drivePins_evq, drivePins_host_irqStatus]
    refine ⟨evq, ?_, bit, ?_, fun p hp => Part.same_trans (held p (by simp at hp; simp [hp])) (only p hp)⟩
    · exact (drivePins_fault_dueRaised _).trans (congrArg FaultSt.dueRaised fault)
    · exact (drivePins_fault_log _).trans ((congrArg FaultSt.log fault).trans rfl)
  · intro s id inst one small
    refine yields_of rfl rfl ?_
    rw [inReset_drivePins]
    exact faultReaction_reset (s := putOut [] s.dev) small one
  · intro s id inst st quiet cls
    refine yields_of rfl (quietExpiry_plain (s := putOut [] s.dev) (by simpa using st) (by simpa using quiet) cls) ?_
    obtain ⟨own, raised⟩ := toQuiet_spec id inst (putOut [] s.dev)
    simp only [source_putOut] at own raised
    simp only [only_drivePins_iff, source_drivePins, raised_drivePins]
    exact ⟨own, fun on => raised (by simpa using on), only_of_kept fun ρ hρ => by simp at hρ; simp [hρ]⟩
  · intro s id inst st quiet cls few
    refine yields_of rfl (quietExpiry_counts (s := putOut [] s.dev) (by simpa using st) (by simpa using quiet) cls
      (by simpa using few)) ?_
    obtain ⟨own, -⟩ := toQuiet_spec id inst (recoveryCounted id inst (putOut [] s.dev))
    have counted := source_recoveryCounted id inst (putOut [] s.dev)
    rw [counted, source_putOut] at own
    simp only [only_drivePins_iff, source_drivePins]
    rw [own]
    exact ⟨rfl, rfl, rfl, rfl, only_of_kept fun ρ hρ => by simp at hρ; simp [hρ, recoveryCounted]⟩
  · intro s id inst st quiet cls many recent
    refine yields_of rfl (quietExpiry_latches (s := putOut [] s.dev) (by simpa using st) (by simpa using quiet) cls
      (by simpa using many) (by simpa using recent)) ?_
    have own := source_latchLogged id inst (putOut [] s.dev)
    have only : Only [.fault] s.dev (latchLogged id inst (putOut [] s.dev)) :=
      only_of_kept fun ρ hρ => by simp at hρ; simp [hρ, latchLogged, recoveryCounted]
    have log : (latchLogged id inst (putOut [] s.dev)).fault.log =
      (latchRecord id inst (putOut [] s.dev) :: s.dev.fault.log).take 1024 := rfl
    generalize latchLogged id inst (putOut [] s.dev) = u at *
    have sources (v : Device) : source (pinLevel v) id inst = source v id inst := rfl
    have raised : source (if faultSet u id inst 4 / 2 % 2 = 1 then dueRaised (latchRecord id inst (putOut [] s.dev)) u else u)
        id inst = source u id inst := by split <;> rfl
    simp only [only_drivePins_iff, source_drivePins, sources, raised]
    rw [own]
    refine ⟨rfl, rfl, by simp, ⟨latchRecord id inst (putOut [] s.dev), ?_, rfl, rfl, rfl⟩,
      fun p hp => Part.same_trans (only p hp) ?_⟩
    · rw [drivePins_fault_log, ← log]
      split <;> rfl
    · refine (kept_pinLevel (ρ := .part p) (s₀ := u) _ (by simpa using hp)).mpr ?_
      split
      · exact (kept_dueRaised (ρ := .part p) (s₀ := u) _ u (by simpa using hp)).mpr (.refl _ u)
      · exact .refl _ u
  · intro s d due
    refine yields_of rfl (if_pos due) ?_
    rw [only_drivePins_iff, drivePins_fault_recovery, drivePins_fault_log]
    exact ⟨rfl, rfl, only_of_kept fun ρ hρ => by simp at hρ; simp [hρ]⟩
  · intro s id inst quiet a armed left
    have ended : faultInjectDone id inst quiet (putOut [] s.dev) = injectEnd id inst a (putOut [] s.dev) := by
      unfold faultInjectDone
      rw [armedAt_putOut, armed]
      exact if_pos left
    refine yields_of rfl ended ?_
    rw [only_drivePins_iff, raised_drivePins, armedAt_drivePins]
    have disarmed : armedAt (injectEnd id inst a (putOut [] s.dev)) id inst = Tab.get (fun _ => none)
        (Tab.set (fun _ => none) s.dev.fault.armed (srcKey id inst) none) (srcKey id inst) := rfl
    refine ⟨disarmed.trans (Tab.get_set_self _ _ _ _), (raised_raise _ _ _ _ _).of_before rfl rfl rfl,
      (drivePins_fault_sources _).trans rfl,
      only_of_kept fun ρ hρ => by simp at hρ; simp [hρ]⟩
  · intro s r rest waits present
    have copied : blackboxCopy (putOut [] s.dev) =
        modBoot (fun b => { b with nand := { b.nand with blackBox := (r :: b.nand.blackBox).take 65536 } })
          (modFault (fun f => { f with toBlackBox := rest }) (putOut [] s.dev)) := by
      unfold blackboxCopy
      rw [show (putOut [] s.dev).fault.toBlackBox = r :: rest from waits]
      exact if_neg (by simp [present])
    refine yields_of rfl copied ?_
    rw [only_drivePins_iff, drivePins_boot]
    exact ⟨rfl, by rw [drivePins_eq]; rfl, only_of_kept fun ρ hρ => by simp at hρ; simp [hρ]⟩

end Sys2Proof.Machine

/-!
The stages of start-up (20_startup_and_nonvolatile_store R774 to R789).
-/
namespace Sys2Proof.Machine
open Sys2Proof

section
variable {s : Device}

/-- What a change of the boot stage leaves and sets. -/
theorem setStage_boot (st : Stage) (s : Device) : (setStage st s).boot = { s.boot with stage := st } := by
  unfold setStage
  split
  · rename_i h
    rw [← h]
  · exact setIrq_boot _ _

theorem setStage_evq (st : Stage) (s : Device) : (setStage st s).evq = s.evq :=
  (kept_setStage (ρ := .part .evq) (s₀ := s) st s (by decide)).mpr (.refl _ s)

theorem setStage_fault (st : Stage) (s : Device) : (setStage st s).fault = s.fault := by
  unfold setStage
  split
  · rfl
  · exact setIrq_fault _ _

theorem only_setStage (st : Stage) (s : Device) : Only [.boot, .host] s (setStage st s) :=
  only_of_kept fun ρ hρ => by simp at hρ; simp [hρ]

theorem bootStop_spec (cause detail : Nat) (s : Device) :
    (bootStop cause detail s).boot = { s.boot with cause := cause, detail := detail, stage := .stopped } ∧
    Only [.boot, .host] s (bootStop cause detail s) :=
  ⟨setStage_boot _ _, only_of_kept fun ρ hρ => by simp at hρ; simp [hρ]⟩

/-! ### Header -/

/-- The header of a choice of copy. -/
def headerOf (k : Option Nat) (h : Two (List Byte)) : List Byte :=
  match k with | some 0 => h.a | some _ => h.b | none => defaultHdr

/-- The header the ROM selects is in use. -/
def headerChosen (s : Device) : Device :=
  modBoot (fun b =>
    { b with
      copy := hdrChoice s.boot.headers, header := headerOf (hdrChoice s.boot.headers) s.boot.headers
      headerDefault := (hdrChoice s.boot.headers).isNone, reverted := false, refusedSlot := false, pcie := false
      scriptNext := (0, 0), scriptDone := false }) s

theorem bootHeaderRead_eq (rom : romAt s .rom = true) (src : s.boot.bootSrc ≠ 1) :
    bootHeaderRead s = setStage (afterHdr s) (headerChosen s) :=
  (if_neg (by simp [rom, src])).trans rfl

/-! ### Firmware -/

theorem trialStep_none (even : bhTrial s.boot.header % 2 = 0) : trialStep s = s := if_pos even

theorem firmwareVerified_nor {a b p : FwImageIn} (load : romAt s .fwLoad = true) (pcie : s.boot.pcie = false)
    (src : s.boot.bootSrc ≠ 1) (even : bhTrial s.boot.header % 2 = 0) : firmwareVerified a b p s =
      let k := bhPref s.boot.header % 2
      let img (j : Nat) : FwImageIn := if j = 0 then a else b
      let s := noteSlot k (fwStatus s (img k)) (img k) s
      if fwStatus s (img k) = 0 then runFw k (img k) s
      else
        let s := noteSlot (1 - k) (fwStatus s (img (1 - k))) (img (1 - k)) s
        if fwStatus s (img (1 - k)) = 0 then runFw (1 - k) (img (1 - k)) s
        else if s.boot.bootSrc = 2 then
          modBoot (fun b => { b with pcie := true }) (modHost (fun h => { h with bootBell := 0 }) s)
        else bootStop 2 (fwStatus s a + 16 * fwStatus s b) s := by
  unfold firmwareVerified
  refine (if_neg (by simp [load])).trans ((if_neg (by simp [pcie, src])).trans ?_)
  rw [trialStep_none even]

/-- Examining a slot changes nothing that judges an image. -/
theorem fwStatus_noteSlot (k st : Nat) (x y : FwImageIn) (s : Device) : fwStatus (noteSlot k st x s) y = fwStatus s y := rfl

theorem firmwareVerified_a {a b p : FwImageIn} (load : romAt s .fwLoad = true) (pcie : s.boot.pcie = false)
    (src : s.boot.bootSrc ≠ 1) (even : bhTrial s.boot.header % 2 = 0) (pref : bhPref s.boot.header % 2 = 0)
    (ok : fwStatus s a = 0) : firmwareVerified a b p s = runFw 0 a (noteSlot 0 0 a s) := by
  rw [firmwareVerified_nor load pcie src even, pref]
  refine (if_pos ?_).trans ?_
  · exact (fwStatus_noteSlot _ _ _ _ _).trans ok
  · change runFw 0 a (noteSlot 0 (fwStatus s a) a s) = _
    rw [ok]

theorem runFw_boot (k : Nat) (x : FwImageIn) (s : Device) : (runFw k x s).boot = { s.boot with
    fwRuns := true, fwSlot := k, fwVersion := rd x.header 16 4, fwSec := rd x.header 12 2 % 64
    stage := if s.boot.kind = .mgmt then .dramTrain else .selfTest } := setStage_boot _ _

/-- The preferred slot and then the other are examined and refused. -/
def slotsRefused (k : Nat) (a b : FwImageIn) (s : Device) : Device :=
  noteSlot (1 - k) (fwStatus s (if 1 - k = 0 then a else b)) (if 1 - k = 0 then a else b)
    (noteSlot k (fwStatus s (if k = 0 then a else b)) (if k = 0 then a else b) s)

theorem firmwareVerified_none {a b p : FwImageIn} (load : romAt s .fwLoad = true) (pcie : s.boot.pcie = false)
    (src : s.boot.bootSrc = 0) (even : bhTrial s.boot.header % 2 = 0) (badA : fwStatus s a ≠ 0) (badB : fwStatus s b ≠ 0) :
    firmwareVerified a b p s = bootStop 2 (fwStatus s a + 16 * fwStatus s b)
      (slotsRefused (bhPref s.boot.header % 2) a b s) := by
  rw [firmwareVerified_nor load pcie (by rw [src]; decide) even]
  generalize bhPref s.boot.header % 2 = k
  have bad (j : Nat) : fwStatus s (if j = 0 then a else b) ≠ 0 := by split <;> assumption
  refine (if_neg (bad k)).trans ((if_neg (bad (1 - k))).trans ((if_neg ?_).trans rfl))
  change s.boot.bootSrc ≠ 2
  rw [src]
  decide

/-! ### Self-test, training -/

/-- The carriers that failed the self-test. -/
def bistNoted (car : Two Bool) (s : Device) : Device := modBoot (fun b => { b with bistFail := car }) s

theorem sramSelfTestComplete_passes {car : Two Bool} (stage : s.boot.stage = .selfTest) (runs : s.boot.fwRuns = true) :
    sramSelfTestComplete car none s = setStage .dramTrain
      (if car.a || car.b then fault 0x1004 0 [] (bistNoted car s) else bistNoted car s) :=
  (if_neg (by simp [stage, runs])).trans rfl

theorem sramSelfTestComplete_stops {car : Two Bool} {block : Nat} (stage : s.boot.stage = .selfTest)
    (runs : s.boot.fwRuns = true) : sramSelfTestComplete car (some block) s = bootStop 3 block s :=
  (if_neg (by simp [stage, runs])).trans rfl

theorem dramTrainingComplete_stops {n : Option NandIn} {w : Fin 4} (stage : s.boot.stage = .dramTrain)
    (runs : s.boot.fwRuns = true) (kind : s.boot.kind ≠ .mgmt) :
    dramTrainingComplete (some w) n s = bootStop 4 w.val s :=
  (if_neg (by simp [stage, runs])).trans ((if_neg kind).trans rfl)

/-- DRAM leaves reset if it is in it. -/
def dramReleased (s : Device) : Device := if inReset s .dram then leaveReset .dram {} s else s

theorem dramTrainingComplete_passes {n : Option NandIn} (stage : s.boot.stage = .dramTrain)
    (runs : s.boot.fwRuns = true) (kind : s.boot.kind ≠ .mgmt) :
    dramTrainingComplete none n s = setStage .accord (dramReleased (mountNand n (dramReset s))) :=
  (if_neg (by simp [stage, runs])).trans ((if_neg kind).trans rfl)

theorem dramReleased_spec (s : Device) : inReset (dramReleased s) .dram = false ∧ (dramReleased s).boot = s.boot := by
  unfold dramReleased
  split
  · exact ⟨(inReset_leaveReset (by decide) _ _ _).trans (by simp), by
      have released : (leaveReset .dram {} s).boot = (leaving .dram s).boot := rfl
      rw [released]
      unfold leaving
      dsimp only
      split <;> rfl⟩
  · rename_i h
    exact ⟨by simpa using h, rfl⟩

/-! ### Boot Accord, ready -/

theorem bootAccord_none {x : BootAccordIn} (stage : s.boot.stage = .accord) (runs : s.boot.fwRuns = true)
    (none : rd s.boot.header 28 1 = 0) : bootAccord x s = setStage .script s :=
  (if_neg (by simp [stage, runs])).trans (if_pos none)

theorem bootAccord_missing {x : BootAccordIn} (stage : s.boot.stage = .accord) (runs : s.boot.fwRuns = true)
    (some_ : rd s.boot.header 28 1 ≠ 0) (missing : bootImage s x = none) :
    bootAccord x s = setStage .script (fault 0x1005 0 [] s) := by
  unfold bootAccord
  refine (if_neg (by simp [stage, runs])).trans ((if_neg some_).trans ?_)
  rw [missing]

/-- The start-up phase ends at ready. -/
def startupEnds (s : Device) : Device :=
  changePhase (fun s => setStage .ready (modFault (fun f => { f with startup := false }) s)) s

/-- What `FW_READY` carries: the kind of start and the version. -/
def readyPayload (b : BootSt) : List Byte :=
  fields 8 [(0, le 1 (match b.kind with | .por => 0 | .device => 1 | .mgmt => 2)), (4, le 4 b.fwVersion)]

/-- `FW_READY` is raised. -/
def readyRaised (s : Device) : Device := raise 0x1001 0 0 (readyPayload s.boot) s

theorem startupEnds_spec (s : Device) : (startupEnds s).boot = { s.boot with stage := .ready } ∧
    (startupEnds s).fault.startup = false ∧ (startupEnds s).evq = s.evq ∧ (startupEnds s).stack = s.stack ∧
    (startupEnds s).timing = s.timing ∧ (startupEnds s).host.cancelled = s.host.cancelled := by
  have stage := setStage_boot .ready (modFault (fun f => { f with startup := false }) s)
  have fault := setStage_fault .ready (modFault (fun f => { f with startup := false }) s)
  have evq := setStage_evq .ready (modFault (fun f => { f with startup := false }) s)
  have stack : (setStage .ready (modFault (fun f => { f with startup := false }) s)).stack = s.stack :=
    (kept_setStage (ρ := .part .stack) (s₀ := modFault (fun f => { f with startup := false }) s) _ _ (by decide)).mpr (.refl _ _)
  have timing : (setStage .ready (modFault (fun f => { f with startup := false }) s)).timing = s.timing :=
    (kept_setStage (ρ := .part .timing) (s₀ := modFault (fun f => { f with startup := false }) s) _ _ (by decide)).mpr (.refl _ _)
  have cancelled : (setStage .ready (modFault (fun f => { f with startup := false }) s)).host.cancelled = s.host.cancelled := by
    unfold setStage
    split
    · rfl
    · exact setIrq_host_cancelled _ _
  unfold startupEnds changePhase
  exact ⟨stage, congrArg FaultSt.startup fault, evq, stack, timing, cancelled⟩

theorem fwReady_eq (stage : s.boot.stage = .script) (runs : s.boot.fwRuns = true) (done : s.boot.scriptDone = true)
    (none : s.host.cancelled = []) (header : s.boot.headerDefault = false) (slot : s.boot.refusedSlot = false)
    (reverted : s.boot.reverted = false) :
    fwReady s = modHost (fun h => { h with cancelled := [] }) (readyRaised (startupEnds s)) := by
  obtain ⟨boot, _, _, _, _, cancelled⟩ := startupEnds_spec s
  have raised : (readyRaised (startupEnds s)).boot = { s.boot with stage := .ready } := boot
  have list : (readyRaised (startupEnds s)).host.cancelled = [] := cancelled.trans none
  unfold fwReady
  refine (if_neg (by simp [stage, runs, done])).trans ?_
  change (let u := readyRaised (startupEnds s)
    let u := if u.boot.headerDefault then fault 0x1001 0 [] u else u
    let u := if u.boot.refusedSlot then fault 0x1002 0 [] u else u
    let u := if u.boot.reverted then fault 0x1003 0 [] u else u
    let l := u.host.cancelled
    let u := modHost (fun h => { h with cancelled := [] }) u
    each l (fun p s => raise 0x0001 p.mb 0 (le 1 p.mb ++ le 1 Status.notPermitted.code ++ le 2 p.op ++ le 2 p.seq) s) u) = _
  simp only [raised, header, slot, reverted, Bool.false_eq_true, if_false, list]
  rfl

theorem isSource_bist : isSource 0x1004 0 = true := by decide

theorem isSource_bootAccord : isSource 0x1005 0 = true := by decide
end

/-- Settles O37: the header, the firmware, the self-test, the training, the boot Accord and ready. -/
theorem startupStages : Obligations.StartupStages := by
  unfold Obligations.StartupStages
  have stop (cause detail : Nat) (s : State) : (bootStop cause detail (putOut [] s.dev)).boot =
      { s.dev.boot with cause := cause, detail := detail, stage := .stopped } ∧
      Only [.boot, .host] s.dev (bootStop cause detail (putOut [] s.dev)) :=
    ⟨(bootStop_spec _ _ _).1, (only_putOut_iff _ _ _ _).mp (bootStop_spec _ _ _).2⟩
  refine ⟨?_, ?_, ?_, ?_, ?_, ?_, ?_, ?_, ?_, ?_⟩
  · intro s rom src
    refine yields_of rfl (bootHeaderRead_eq (s := putOut [] s.dev) (by simpa using rom) src) ?_
    rw [only_drivePins_iff, drivePins_boot, setStage_boot]
    refine ⟨rfl, rfl, fun h => ?_, fun h => ?_, fun h => ?_, rfl,
      only_of_kept fun ρ hρ => by simp at hρ; simp [hρ, headerChosen]⟩
    all_goals
      have chosen : hdrChoice (putOut [] s.dev).boot.headers = _ := h
      simp only [headerChosen, chosen]
      exact ⟨rfl, rfl⟩
  · intro s a b p load pcie src even pref ok
    refine yields_of rfl (firmwareVerified_a (s := putOut [] s.dev) (by simpa using load) pcie src even pref
      (by simpa using ok)) ?_
    rw [only_drivePins_iff, drivePins_boot, runFw_boot]
    exact ⟨rfl, rfl, rfl, rfl, rfl, rfl, only_of_kept fun ρ hρ => by simp at hρ; simp [hρ]⟩
  · intro s a b p load pcie src even badA badB
    refine yields_of rfl (firmwareVerified_none (s := putOut [] s.dev) (by simpa using load) pcie src even
      (by simpa using badA) (by simpa using badB)) ?_
    obtain ⟨boot, -⟩ := bootStop_spec 2 (fwStatus (putOut [] s.dev) a + 16 * fwStatus (putOut [] s.dev) b)
      (slotsRefused (bhPref (putOut [] s.dev).boot.header % 2) a b (putOut [] s.dev))
    rw [only_drivePins_iff, drivePins_boot, boot]
    exact ⟨rfl, rfl, by simp, rfl, only_of_kept fun ρ hρ => by simp at hρ; simp [hρ, slotsRefused]⟩
  · intro s car stage runs
    refine yields_of rfl (sramSelfTestComplete_passes (s := putOut [] s.dev) stage runs) ?_
    rw [only_drivePins_iff, drivePins_boot, setStage_boot, faulted_drivePins]
    have bist : (if car.a || car.b then fault 0x1004 0 [] (bistNoted car (putOut [] s.dev))
        else bistNoted car (putOut [] s.dev)).boot = { s.dev.boot with bistFail := car } := by
      split
      · exact fault_boot _ _ _ _
      · rfl
    refine ⟨rfl, congrArg BootSt.bistFail bist, fun failed => ?_, only_of_kept fun ρ hρ => ?_⟩
    · rw [if_pos (by simpa using failed)]
      have faulted := (faulted_fault [] (bistNoted car (putOut [] s.dev)) isSource_bist).of_before (s := s.dev) rfl rfl
      exact faulted.of_source (source_of_sources (congrArg _ (setStage_fault _ _)) _ _)
    · simp [Part.ofFault] at hρ
      simp [hρ, bistNoted]
  · intro s car block stage runs
    refine yields_of rfl (sramSelfTestComplete_stops (s := putOut [] s.dev) stage runs) ?_
    rw [only_drivePins_iff, drivePins_boot, (stop 3 block s).1]
    exact ⟨rfl, rfl, rfl, (stop 3 block s).2⟩
  · intro s n w stage runs kind
    refine yields_of rfl (dramTrainingComplete_stops (s := putOut [] s.dev) stage runs kind) ?_
    rw [only_drivePins_iff, drivePins_boot, (stop 4 w.val s).1]
    exact ⟨rfl, rfl, rfl, (stop 4 w.val s).2⟩
  · intro s n stage runs kind
    have kept (p : Part) (hp : (Region.part p) ∉
        parts [.accord, .crypto, .kme, .timing, .mem, .stack, .clock, .fault, .boot, .host, .evq]) :=
      (kept_dramTrainingComplete (ρ := .part p) (s₀ := s.dev) none (some n) (putOut [] s.dev) hp).mpr
        ((kept_putOut _ _).mpr (.refl _ _))
    have passes := dramTrainingComplete_passes (n := some n) (s := putOut [] s.dev) stage runs kind
    rw [passes] at kept
    refine yields_of rfl passes ?_
    obtain ⟨reset, boot⟩ := dramReleased_spec (mountNand (some n) (dramReset (putOut [] s.dev)))
    have accord : (setStage .accord (dramReleased (mountNand (some n) (dramReset (putOut [] s.dev))))).accord =
        (mountNand (some n) (dramReset (putOut [] s.dev))).accord := by
      have released : (dramReleased (mountNand (some n) (dramReset (putOut [] s.dev)))).accord =
          (mountNand (some n) (dramReset (putOut [] s.dev))).accord := by
        unfold dramReleased
        split
        · exact (kept_leaveReset (ρ := .part .accord) (s₀ := mountNand (some n) (dramReset (putOut [] s.dev))) _ _ _
            (by decide)).mpr (.refl _ _)
        · rfl
      exact Eq.trans ((kept_setStage (ρ := .part .accord)
        (s₀ := dramReleased (mountNand (some n) (dramReset (putOut [] s.dev)))) _ _ (by decide)).mpr (.refl _ _)) released
    have clock : (setStage .accord (dramReleased (mountNand (some n) (dramReset (putOut [] s.dev))))).clock =
        (dramReleased (mountNand (some n) (dramReset (putOut [] s.dev)))).clock :=
      (kept_setStage (ρ := .part .clock) (s₀ := dramReleased (mountNand (some n) (dramReset (putOut [] s.dev)))) _ _
        (by decide)).mpr (.refl _ _)
    rw [drivePins_boot, setStage_boot, boot, inReset_drivePins, drivePins_accord, accord, drivePins_tx, drivePins_rx,
      drivePins_settings]
    refine ⟨rfl, ?_, rfl, rfl, rfl, kept .tx (by decide), kept .rx (by decide), kept .settings (by decide)⟩
    unfold inReset at reset ⊢
    rw [clock]
    exact reset
  · intro s x stage runs none
    refine yields_of rfl (bootAccord_none (s := putOut [] s.dev) stage runs none) ?_
    rw [only_drivePins_iff, drivePins_boot, setStage_boot]
    exact ⟨rfl, (only_putOut_iff _ _ _ _).mp (only_setStage _ _)⟩
  · intro s x stage runs kind missing
    refine yields_of rfl (bootAccord_missing (s := putOut [] s.dev) stage runs kind (by simpa using missing)) ?_
    have faulted := (faulted_fault [] (putOut [] s.dev) isSource_bootAccord).of_before (s := s.dev) rfl rfl
    rw [only_drivePins_iff, drivePins_boot, setStage_boot, faulted_drivePins, drivePins_accord]
    refine ⟨rfl, faulted.of_source (source_of_sources (congrArg _ (setStage_fault _ _)) _ _), ?_,
      only_of_kept fun ρ hρ => ?_⟩
    · exact (kept_setStage (ρ := .part .accord) (s₀ := s.dev) _ _ (by decide)).mpr (by simp)
    · simp [Part.ofFault] at hρ
      simp [hρ]
  · intro s stage runs done none header slot reverted
    refine yields_of rfl (fwReady_eq (s := putOut [] s.dev) stage runs done none header slot reverted) ?_
    obtain ⟨boot, startup, evq, stack, timing, _⟩ := startupEnds_spec (putOut [] s.dev)
    have only : Only [.boot, .host, .fault, .evq] s.dev (startupEnds (putOut [] s.dev)) :=
      only_of_kept fun ρ hρ => by simp at hρ; simp [hρ, startupEnds]
    generalize startupEnds (putOut [] s.dev) = u at *
    rw [only_drivePins_iff, drivePins_boot, drivePins_fault_startup, raised_drivePins]
    refine ⟨boot, startup, ?_, fun p hp => Part.same_trans (only p hp) ?_⟩
    · have raised : Raised 0x1001 0 0 (readyPayload u.boot) s.dev (readyRaised u) :=
        (raised_raise 0x1001 0 0 (readyPayload u.boot) u).of_before evq (congrArg _ stack) timing
      rw [boot] at raised
      exact raised
    · simp only [List.mem_cons, List.not_mem_nil, or_false, not_or] at hp
      exact (kept_modHost (ρ := .part p) (s₀ := u) _ _ (by simp [hp]) (by simp) (by simp)).mpr
        ((kept_raise (ρ := .part p) (s₀ := u) _ _ _ _ _ (by simp [hp])).mpr (.refl _ _))

end Sys2Proof.Machine

/-!
The flash stores (20_startup_and_nonvolatile_store R783, R793 to R800): patrol, grown blocks, erases, activation, format.
-/
namespace Sys2Proof.Machine
open Sys2Proof

section
variable {s : Device}

/-! ### Patrol and wear -/

/-- The wear read by a patrol is kept. -/
def wearTaken (w : WearIn) (s : Device) : Device := modNand (fun n => { n with erases := (w.lo, w.mean, w.hi) }) s

/-- The wear of the archive passes 90 % of its endurance. -/
def wearRises (w : WearIn) (s : Device) : Bool :=
  (9 * s.boot.nand.endurance ≤ 10 * w.hi && s.boot.nand.endurance ≠ 0) &&
    !decide (9 * s.boot.nand.endurance ≤ 10 * s.boot.nand.erases.2.2)

theorem setWear_eq (w : WearIn) (s : Device) : setWear w s =
    if wearRises w s then fault 0x100A 0 [] (wearTaken w s) else wearTaken w s := rfl

theorem setWear_boot (w : WearIn) (s : Device) :
    (setWear w s).boot = { s.boot with nand := { s.boot.nand with erases := (w.lo, w.mean, w.hi) } } := by
  rw [setWear_eq]
  split
  · exact fault_boot _ _ _ _
  · rfl

theorem source_setWear_other {id inst : Nat} (ne : srcKey id inst ≠ srcKey 0x100A 0) (w : WearIn) (s : Device) :
    source (setWear w s) id inst = source s id inst := by
  rw [setWear_eq]
  split
  · exact source_fault_other ne _ _
  · rfl

theorem nandPatrol_eq {ue : List (Nat × Nat)} {w : WearIn} (present : s.boot.nand.present = true)
    (ready : s.boot.stage = .ready) : nandPatrol ue w s = setWear w (each ue (fun p s => nandUe p.1 p.2 s) s) :=
  if_neg (by simp [present, ready])

theorem nandUe_spoils {area : Nat} (data : area = 0 ∨ area = 3) (id : Nat) (s : Device) :
    nandUe area id s = spoilEntry area id (fault 0x1008 0 [] s) := by
  rcases data with rfl | rfl <;> rfl

/-- Every entry of that number in the area is invalid (R794). -/
theorem spoilEntry_invalid (area id : Nat) (s : Device) (e : NandEntry)
    (listed : e ∈ (Tab.get (fun _ => []) (spoilEntry area id s).boot.nand.entries area : List NandEntry)) (num : e.id = id) :
    e.invalid = true := by
  unfold spoilEntry at listed
  dsimp only [modNand, modBoot] at listed
  rw [Tab.get_modify, if_pos rfl, List.mem_map] at listed
  obtain ⟨d, -, rfl⟩ := listed
  by_cases own : d.id = id
  · rw [if_pos own]
  · rw [if_neg own] at num
    exact absurd num own

theorem source_spoilEntry (area id : Nat) (s : Device) (fault inst : Nat) :
    source (spoilEntry area id s) fault inst = source s fault inst := rfl

/-! ### Grown blocks -/

/-- The archive after a block grows bad (R797). -/
def nandGrown (n : NandSt) : NandSt :=
  if 0 < n.reserve then { n with grownBad := sat 32 (n.grownBad + 1), reserve := n.reserve - 1 }
  else if n.blockMiB ≤ n.spillMiB then
    { n with grownBad := sat 32 (n.grownBad + 1), spillMiB := n.spillMiB - n.blockMiB }
  else { n with grownBad := sat 32 (n.grownBad + 1), noBlocks := true }

theorem nandBlockGrown_eq (present : s.boot.nand.present = true) :
    nandBlockGrown s = fault 0x1009 0 [] (modNand nandGrown s) := (if_neg (by simp [present])).trans rfl

theorem nandBlockGrown_boot (s : Device) :
    (fault 0x1009 0 [] (modNand nandGrown s)).boot = { s.boot with nand := nandGrown s.boot.nand } := fault_boot _ _ _ _

theorem isSource_wear : isSource 0x100A 0 = true := by decide

theorem isSource_nandUe : isSource 0x1008 0 = true := by decide

theorem isSource_grown : isSource 0x1009 0 = true := by decide

theorem isSource_norFail : isSource 0x100B 0 = true := by decide

/-! ### Erases -/

/-- A sector is no longer under erase. -/
def norEraseEnds (k : Nat) (s : Device) : Device := modBoot (fun b => { b with norErase := b.norErase.erase k }) s

/-- A sector reads erased. -/
def sectorErased (k : Nat) (s : Device) : Device :=
  modBoot (fun b =>
    { b with
      slots := ⟨{ b.slots.a with bytes := eraseIn (rd b.header 16 4) k b.slots.a.bytes },
                { b.slots.b with bytes := eraseIn (rd b.header 20 4) k b.slots.b.bytes }⟩
      script := eraseIn (rd b.header 44 4) k b.script }) s

/-- A change of the boot part changes that part alone. -/
theorem only_modBoot (f : BootSt → BootSt) (s : Device) : Only [.boot] s (modBoot f s) :=
  fun p hp => (kept_modBoot (ρ := .part p) (s₀ := s) f s (by simpa using hp) (by simp) (by simp) (by simp)).mpr (.refl _ s)

theorem sectorErased_spec (k : Nat) (s : Device) :
    (sectorErased k (norEraseEnds k s)).boot.norErase = s.boot.norErase.erase k ∧
    (sectorErased k (norEraseEnds k s)).boot.script = eraseIn (rd s.boot.header 44 4) k s.boot.script ∧
    (sectorErased k (norEraseEnds k s)).boot.slots.a = { s.boot.slots.a with
      bytes := eraseIn (rd s.boot.header 16 4) k s.boot.slots.a.bytes } ∧
    (sectorErased k (norEraseEnds k s)).boot.slots.b = { s.boot.slots.b with
      bytes := eraseIn (rd s.boot.header 20 4) k s.boot.slots.b.bytes } ∧
    Only [.boot] s (sectorErased k (norEraseEnds k s)) :=
  ⟨rfl, rfl, rfl, rfl, (only_modBoot _ _).trans (only_modBoot _ _)⟩

theorem norErased_good {k : Nat} (listed : k ∈ s.boot.norErase) (none : s.boot.norHeld = []) :
    norErased k true s = sectorErased k (norEraseEnds k s) := by
  have held : (sectorErased k (norEraseEnds k s)).boot.norHeld = [] := none
  unfold norErased
  refine (if_neg (Decidable.not_not.mpr listed)).trans ?_
  change each (sectorErased k (norEraseEnds k s)).boot.norHeld _ (sectorErased k (norEraseEnds k s)) = _
  rw [held]
  rfl

theorem norErased_bad {k : Nat} (listed : k ∈ s.boot.norErase) (none : s.boot.norHeld = []) :
    norErased k false s = fault 0x100B 0 [] (norEraseEnds k s) := by
  have held : (fault 0x100B 0 [] (norEraseEnds k s)).boot.norHeld = [] := by
    rw [fault_boot]
    exact none
  unfold norErased
  refine (if_neg (Decidable.not_not.mpr listed)).trans ?_
  change each (fault 0x100B 0 [] (norEraseEnds k s)).boot.norHeld _ (fault 0x100B 0 [] (norEraseEnds k s)) = _
  rw [held]
  rfl

theorem runNandHeld_none (none : s.boot.nand.held = []) : runNandHeld s = s := by
  unfold runNandHeld
  rw [none]
  rfl

/-- The blocks of an entry are no longer under erase. -/
def nandEraseEnds (area id : Nat) (s : Device) : Device :=
  modNand (fun n => { n with erasing := n.erasing.erase (area, id) }) s

theorem flashEraseComplete_nand {area id : Nat} (listed : (area, id) ∈ s.boot.nand.erasing) (none : s.boot.nand.held = []) :
    flashEraseComplete (.nand area id) true s = nandEraseEnds area id s :=
  (if_neg (Decidable.not_not.mpr listed)).trans (runNandHeld_none (s := nandEraseEnds area id s) none)

/-! ### Activation and format -/

@[simp] theorem idleSlot_putOut (o : List Output) (s : Device) : idleSlot (putOut o s) = idleSlot s := rfl

/-- A slot has been examined for its activation. -/
def activateNoted (x : FwImageIn) (s : Device) : Device :=
  modBoot (fun b => { b with activate := none, refusedSlot := s.boot.refusedSlot })
    (noteSlot (idleSlot s) (fwStatus s x) x s)

theorem fwActivateComplete_good {x : FwImageIn} {h : Held} (armed : s.boot.activate = some h) (ok : fwStatus s x = 0) :
    fwActivateComplete x s = heldDone h .ok
      (updateHdr (put (put s.boot.header 14 (le 1 (idleSlot s))) 15 [1]) (activateNoted x s)) := by
  unfold fwActivateComplete
  rw [armed]
  exact (if_pos ok).trans rfl

theorem fwActivateComplete_bad {x : FwImageIn} {h : Held} (armed : s.boot.activate = some h) (bad : fwStatus s x ≠ 0) :
    fwActivateComplete x s = heldDone h .denied (activateNoted x s) := by
  unfold fwActivateComplete
  rw [armed]
  exact (if_neg bad).trans rfl

/-- The end of a held command that waits raises its event and takes it from the list; nothing else changes. -/
theorem heldDone_spec {h : Held} (waits : ⟨h.req.mb.val, h.op, h.req.seq.toNat⟩ ∈ s.host.pendCmds) (st : Status) :
    (heldDone h st s).boot = s.boot ∧
    Raised 0x0001 h.req.mb.val 0 (le 1 h.req.mb.val ++ le 1 st.code ++ le 2 h.op ++ le 2 h.req.seq.toNat) s
      (heldDone h st s) := by
  have done := deferredDoneX_waiting waits st []
  rw [List.append_nil] at done
  refine ⟨(kept_heldDone (ρ := .part .boot) (s₀ := s) h st s (by decide)).mpr (.refl _ s), ?_⟩
  change Raised _ _ _ _ s (deferredDoneX h.op h.req st [] s)
  rw [done]
  exact (raised_raise _ _ _ _ _).of_before rfl rfl rfl

/-- The archive after a format. -/
def archiveFormatted (bad : Nat) (s : Device) : Device :=
  let n := s.boot.nand
  let blocks := if n.blockMiB = 0 then 0 else n.capacity / (n.blockMiB * 2 ^ 20)
  let reserve := blocks * 2 / 100
  let spill := (blocks - bad - blocks / 200 - reserve) * n.blockMiB - (64 * 64 + 16 * 4 + 2)
  modNand (fun n => { n with format := none, entries := [], writing := [], snaps := [], blackBox := [],
                             erasing := [], reserve, spillMiB := spill, noBlocks := false }) s

theorem nandFormatComplete_eq {bad : Nat} {h : Held} (format : s.boot.nand.format = some h) (none : s.boot.nand.held = []) :
    nandFormatComplete bad s = heldDone h .ok (archiveFormatted bad s) := by
  have boot : (heldDone h .ok (archiveFormatted bad s)).boot = (archiveFormatted bad s).boot :=
    (kept_heldDone (ρ := .part .boot) (s₀ := archiveFormatted bad s) h .ok _ (by decide)).mpr (.refl _ _)
  have held : (heldDone h .ok (archiveFormatted bad s)).boot.nand.held = [] := by
    rw [boot]
    exact none
  unfold nandFormatComplete
  rw [format]
  exact runNandHeld_none held
end

/-- Settles O38: patrol, grown blocks, erases, activation and format. -/
theorem flashAndArchive : Obligations.FlashAndArchive := by
  unfold Obligations.FlashAndArchive
  refine ⟨?_, ?_, ?_, ?_, ?_, ?_, ?_, ?_, ?_, ?_⟩
  · intro s w present ready
    refine yields_of rfl (nandPatrol_eq (s := putOut [] s.dev) present ready) ?_
    rw [only_drivePins_iff, drivePins_boot, setWear_boot, faulted_drivePins]
    refine ⟨rfl, fun some_ high low => ?_, only_of_kept fun ρ hρ => ?_⟩
    · rw [setWear_eq, if_pos]
      · exact (faulted_fault [] (wearTaken w (each [] _ (putOut [] s.dev))) isSource_wear).of_before (s := s.dev) rfl rfl
      · change ((decide (9 * s.dev.boot.nand.endurance ≤ 10 * w.hi) && decide (s.dev.boot.nand.endurance ≠ 0)) &&
          !decide (9 * s.dev.boot.nand.endurance ≤ 10 * s.dev.boot.nand.erases.2.2)) = true
        simp [high, some_, low]
    · simp [Part.ofFault] at hρ
      simp [hρ]
  · intro s area id w present ready data
    refine yields_of rfl ((nandPatrol_eq (s := putOut [] s.dev) present ready).trans
      (congrArg (setWear w) (nandUe_spoils data id (putOut [] s.dev)))) ?_
    rw [only_drivePins_iff, drivePins_boot, setWear_boot, faulted_drivePins]
    refine ⟨?_, spoilEntry_invalid area id _, only_of_kept fun ρ hρ => ?_⟩
    · have ue := (faulted_fault [] (putOut [] s.dev) isSource_nandUe).of_before (s := s.dev) rfl rfl
      have spoiled := source_spoilEntry area id (fault 0x1008 0 [] (putOut [] s.dev)) 0x1008 0
      exact (ue.of_source spoiled).of_source (source_setWear_other (by decide) w _)
    · simp [Part.ofFault] at hρ
      simp [hρ]
  · intro s present some_
    refine yields_of rfl (nandBlockGrown_eq (s := putOut [] s.dev) present) ?_
    rw [only_drivePins_iff, drivePins_boot, nandBlockGrown_boot, faulted_drivePins]
    have grown : nandGrown s.dev.boot.nand = { s.dev.boot.nand with
        grownBad := sat 32 (s.dev.boot.nand.grownBad + 1), reserve := s.dev.boot.nand.reserve - 1 } := if_pos some_
    refine ⟨congrArg (fun n => { s.dev.boot with nand := n }) grown,
      (faulted_fault [] (modNand nandGrown (putOut [] s.dev)) isSource_grown).of_before (s := s.dev) rfl rfl,
      only_of_kept fun ρ hρ => ?_⟩
    simp [Part.ofFault] at hρ
    simp [hρ]
  · intro s present none small
    refine yields_of rfl (nandBlockGrown_eq (s := putOut [] s.dev) present) ?_
    rw [drivePins_boot, nandBlockGrown_boot, faulted_drivePins]
    have grown : nandGrown s.dev.boot.nand = { s.dev.boot.nand with
        grownBad := sat 32 (s.dev.boot.nand.grownBad + 1), noBlocks := true } :=
      (if_neg (by omega)).trans (if_neg (by omega))
    exact ⟨congrArg (fun n => { s.dev.boot with nand := n }) grown,
      (faulted_fault [] (modNand nandGrown (putOut [] s.dev)) isSource_grown).of_before (s := s.dev) rfl rfl⟩
  · intro s k listed none
    refine yields_of rfl (norErased_good (s := putOut [] s.dev) listed none) ?_
    rw [only_drivePins_iff, drivePins_boot]
    obtain ⟨erase, script, a, b, only⟩ := sectorErased_spec k (putOut [] s.dev)
    exact ⟨erase, script, a, b, (only_putOut_iff _ _ _ _).mp only⟩
  · intro s k listed none
    refine yields_of rfl (norErased_bad (s := putOut [] s.dev) listed none) ?_
    rw [only_drivePins_iff, drivePins_boot, fault_boot, faulted_drivePins]
    refine ⟨rfl, (faulted_fault [] (norEraseEnds k (putOut [] s.dev)) isSource_norFail).of_before (s := s.dev) rfl rfl,
      only_of_kept fun ρ hρ => ?_⟩
    simp [Part.ofFault] at hρ
    simp [hρ, norEraseEnds]
  · intro s area id listed none
    refine yields_of rfl (flashEraseComplete_nand (s := putOut [] s.dev) listed none) ?_
    rw [only_drivePins_iff, drivePins_boot]
    exact ⟨rfl, only_of_kept fun ρ hρ => by simp at hρ; simp [hρ, nandEraseEnds]⟩
  · intro s x h armed ok waits
    refine yields_of rfl (fwActivateComplete_good (s := putOut [] s.dev) armed (by simpa using ok)) ?_
    obtain ⟨boot, raised⟩ := heldDone_spec (s := updateHdr (put (put (putOut [] s.dev).boot.header 14
      (le 1 (idleSlot (putOut [] s.dev)))) 15 [1]) (activateNoted x (putOut [] s.dev))) waits .ok
    rw [only_drivePins_iff, drivePins_boot, boot, raised_drivePins]
    have only : Only [.boot] s.dev (updateHdr (put (put (putOut [] s.dev).boot.header 14
        (le 1 (idleSlot (putOut [] s.dev)))) 15 [1]) (activateNoted x (putOut [] s.dev))) :=
      only_of_kept fun ρ hρ => by simp at hρ; simp [hρ, activateNoted]
    refine ⟨rfl, fun k => ?_, fun k => ?_, rfl,
      raised.of_before (only .evq (by decide)) (congrArg _ (only .stack (by decide))) (only .timing (by decide)),
      only_of_kept fun ρ hρ => by simp at hρ; simp [hρ, activateNoted]⟩
    · simp [updateHdr, activateNoted, noteSlot, k, ok]
    · simp [updateHdr, activateNoted, noteSlot, k, ok]
  · intro s x h armed bad waits
    refine yields_of rfl (fwActivateComplete_bad (s := putOut [] s.dev) armed (by simpa using bad)) ?_
    obtain ⟨boot, raised⟩ := heldDone_spec (s := activateNoted x (putOut [] s.dev)) waits .denied
    rw [only_drivePins_iff, drivePins_boot, boot, raised_drivePins]
    exact ⟨rfl, rfl, rfl, rfl, raised.of_before rfl rfl rfl,
      only_of_kept fun ρ hρ => by simp at hρ; simp [hρ, activateNoted]⟩
  · intro s bad h format none
    refine yields_of rfl (nandFormatComplete_eq (s := putOut [] s.dev) format none) ?_
    have boot : (heldDone h .ok (archiveFormatted bad (putOut [] s.dev))).boot = (archiveFormatted bad (putOut [] s.dev)).boot :=
      (kept_heldDone (ρ := .part .boot) (s₀ := archiveFormatted bad (putOut [] s.dev)) h .ok _ (by decide)).mpr (.refl _ _)
    rw [only_drivePins_iff, drivePins_boot, boot]
    exact ⟨rfl, rfl, rfl, rfl, rfl, rfl, rfl, only_of_kept fun ρ hρ => by simp at hρ; simp [hρ, archiveFormatted]⟩

end Sys2Proof.Machine


/-! # Burning OTP, and the AVS and temperature faults -/

namespace Sys2Proof.Machine

open Sys2Proof

section
variable {s : Device}

/-- The OTP memory after a burn for request `h` that succeeded. -/
def otpBurned (h : Held) (s : Device) : Device :=
  modBoot (fun b => { b with
    otp.burn := none
    otp.fused := b.otp.fused ||| (1#6 <<< rd h.req.params 0 1)
    otp.hash :=
      if rd h.req.params 0 1 = 0 then { b.otp.hash with a := slice h.req.params 4 48 }
      else if rd h.req.params 0 1 = 1 then { b.otp.hash with b := slice h.req.params 4 48 } else b.otp.hash
    otp.kek :=
      if rd h.req.params 0 1 = 5 then some (BitVec.ofNat 256 (fromBe ((slice h.req.params 4 48).take 32)))
      else b.otp.kek }) s

theorem otpBurnComplete_ok {h : Held} (burn : s.boot.otp.burn = some h) :
    otpBurnComplete true s = heldDone h .ok (otpBurned h s) := by
  unfold otpBurnComplete
  rw [burn]
  rfl

theorem otpBurnComplete_failed {h : Held} (burn : s.boot.otp.burn = some h) :
    otpBurnComplete false s = heldDone h .denied (modBoot (fun b => { b with otp.burn := none }) s) := by
  unfold otpBurnComplete
  rw [burn]
  rfl

/-- A change of the boot part followed by the end of a held command stays within those parts. -/
theorem only_heldDone_modBoot (h : Held) (st : Status) (f : BootSt → BootSt) (s : Device) :
    Only [.boot, .host, .evq] (putOut [] s) (heldDone h st (modBoot f (putOut [] s))) :=
  ((only_modBoot f (putOut [] s)).mono (by simp)).trans
    (only_of_kept fun ρ hρ => by simp at hρ; simp [hρ])

/-- The bit of an item is set in the fused items after its burn. -/
theorem getLsbD_fused (fused : BitVec 6) {k : Nat} (lt : k < 6) : (fused ||| (1#6 <<< k)).getLsbD k = true := by
  simp [lt]

end

theorem isSource_avs : isSource 0x0E07 0 = true := by decide

theorem isSource_junction : isSource 0x0E06 0 = true := by decide

/-- Settles O39: a burn changes its own item and is reported as a held command that ends; the monitors set and
end the condition of their own source. -/
theorem fusesAndMonitors : Obligations.FusesAndMonitors := by
  unfold Obligations.FusesAndMonitors
  refine ⟨?_, ?_, ?_, ?_, ?_⟩
  · intro s h k burn item lt waits
    refine yields_of rfl (otpBurnComplete_ok (s := putOut [] s.dev) burn) ?_
    obtain ⟨boot, raised⟩ := heldDone_spec (s := otpBurned h (putOut [] s.dev)) waits .ok
    rw [only_drivePins_iff, drivePins_boot, boot, raised_drivePins]
    subst item
    refine ⟨rfl, rfl, getLsbD_fused _ lt, fun zero => ?_, fun one => ?_, fun nz => ?_, fun no => ?_, fun nk => ?_,
      raised.of_before rfl rfl rfl, (only_putOut_iff _ _ _ _).mp (only_heldDone_modBoot _ _ _ _)⟩
    · simp [otpBurned, modBoot, zero]
    · simp [otpBurned, modBoot, one]
    · simp only [otpBurned, modBoot, if_neg nz]
      split <;> rfl
    · simp only [otpBurned, modBoot, if_neg no]
      split <;> rfl
    · simp only [otpBurned, modBoot, if_neg nk]
      rfl
  · intro s h burn waits
    refine yields_of rfl (otpBurnComplete_failed (s := putOut [] s.dev) burn) ?_
    obtain ⟨boot, raised⟩ := heldDone_spec (s := modBoot (fun b => { b with otp.burn := none }) (putOut [] s.dev)) waits .denied
    rw [only_drivePins_iff, drivePins_boot, boot, raised_drivePins]
    exact ⟨rfl, raised.of_before rfl rfl rfl, (only_putOut_iff _ _ _ _).mp (only_heldDone_modBoot _ _ _ _)⟩
  · intro s due off
    have eq : avsFail (putOut [] s.dev) = faultOn 0x0E07 0 [] (putOut [] s.dev) :=
      if_pos ((Bool.or_eq_true _ _).mpr (due.imp decide_eq_true decide_eq_true))
    refine yields_of rfl eq ?_
    rw [only_drivePins_iff, source_drivePins, faulted_drivePins]
    refine ⟨source_faultOn _ _ _ _ isSource_avs,
      (faulted_faultOn [] (putOut [] s.dev) isSource_avs off).of_before (s := s.dev) rfl rfl, only_of_kept fun ρ hρ => ?_⟩
    simp [Part.ofFault] at hρ
    simp [hρ]
  · intro s hot off
    refine yields_of rfl (if_pos (by simpa using hot)) ?_
    rw [only_drivePins_iff, source_drivePins, faulted_drivePins]
    refine ⟨source_faultOn _ _ _ _ isSource_junction,
      (faulted_faultOn [] (putOut [] s.dev) isSource_junction off).of_before (s := s.dev) rfl rfl, only_of_kept fun ρ hρ => ?_⟩
    simp [Part.ofFault] at hρ
    simp [hρ]
  · intro s notHot cool
    refine yields_of rfl ((if_neg (by simpa using notHot)).trans (if_pos (by simpa using cool))) ?_
    rw [only_drivePins_iff, source_drivePins]
    exact ⟨source_faultOff _ _ _, only_of_kept fun ρ hρ => by simp at hρ; simp [hρ]⟩

end Sys2Proof.Machine


/-! # Control ticks, slow ticks and epochs

The parts of a control tick are taken one at a time: what each of them leaves as it was is known, so a value is
followed through those few that may touch its part of the state. -/

namespace Sys2Proof.Machine

open Sys2Proof

section
variable {s : Device}

/-! ### Repetition -/

/-- A property that each step keeps holds after all of them. -/
theorem each_keeps {α : Type} {P : Device → Prop} {f : α → Device → Device} (keeps : ∀ x s, P s → P (f x s)) (l : List α)
    (h : P s) : P (each l f s) := by
  unfold each
  induction l generalizing s with
  | nil => exact h
  | cons x l ih => exact ih (keeps x s h)

/-- A property that one of the steps brings about, and each keeps, holds after all of them. -/
theorem each_reaches {α : Type} {P : Device → Prop} {f : α → Device → Device} (keeps : ∀ x s, P s → P (f x s)) {l : List α}
    {a : α} (listed : a ∈ l) (sets : ∀ s, P (f a s)) : P (each l f s) := by
  unfold each
  induction l generalizing s with
  | nil => cases listed
  | cons x l ih =>
    obtain rfl | later := List.mem_cons.mp listed
    · exact each_keeps keeps l (sets s)
    · exact ih later

/-! ### Rings that are off stay off within a tick -/

/-- Ring `k` is disabled and no disable of it waits. -/
def RingOff (k : Nat) (s : Device) : Prop := (ring s k).enable = false ∧ (ring s k).offWaits = false

theorem ringOff_of_kept {k : Nat} {s t : Device} (h : Kept (.part .host) s t) (off : RingOff k s) : RingOff k t := by
  have frame : t.host = { s.host with irqLow := t.host.irqLow } := h
  unfold RingOff
  rw [ring_of_host (s := s) (t := t) (by rw [frame]) k]
  exact off

theorem ringOff_modRing {k : Nat} (j : Nat) {f : RingSt → RingSt} (enable : ∀ q, (f q).enable = q.enable)
    (waits : ∀ q, (f q).offWaits = q.offWaits) (off : RingOff k s) : RingOff k (modRing j f s) := by
  unfold RingOff
  rw [ring_modRing]
  split
  next e => rw [enable, waits, ← e]; exact off
  next => exact off

theorem ringOff_sendMsix {k : Nat} (v : Nat) (off : RingOff k s) : RingOff k (sendMsix v s) := by
  unfold sendMsix
  split
  · exact off
  · exact off

theorem ringOff_ringMsi {k : Nat} (j : Nat) (off : RingOff k s) : RingOff k (ringMsi j s) := by
  unfold ringMsi
  dsimp only
  (repeat' split)
  · exact off
  · exact ringOff_sendMsix _ (ringOff_modRing j (by simp) (by simp) off)
  · exact ringOff_modRing j (by simp) (by simp) off
  · exact ringOff_sendMsix _ (ringOff_modRing j (by simp) (by simp) off)
  · exact ringOff_modRing j (by simp) (by simp) off

theorem ringOff_ringWrite {k : Nat} (j : Nat) (bytes : List Byte) (off : RingOff k s) : RingOff k (ringWrite j bytes s) :=
  ringOff_ringMsi j (ringOff_modRing j (fun _ => rfl) (fun _ => rfl) off)

theorem ringOff_emitRecord {k : Nat} (ch : Nat) (off : RingOff k s) : RingOff k (emitRecord ch s) := by
  unfold emitRecord
  split
  · exact off
  dsimp only
  split
  · exact off
  split
  · exact ringOff_ringWrite (s := modSense ch _ s) _ _ off
  · exact off

theorem ringOff_changeChannel {k : Nat} (ch : Nat) (i : SenseIn) (off : RingOff k s) : RingOff k (changeChannel ch i s) := by
  unfold changeChannel
  extract_lets q shut started
  split
  · exact off
  · split
    · exact off
    · exact ringOff_of_kept (s := s) (by simp [shut]) off
  · exact ringOff_emitRecord ch (s := modSense ch _ s) off

theorem ringOff_senseChannelTick {k : Nat} (i : SenseIn) (ch : Nat) (off : RingOff k s) :
    RingOff k (senseChannelTick i ch s) := by
  have event : RingOff k (if (sense s ch).running && shiftWaits s ch then senseEvent ch s else s) := by
    split <;> exact off
  unfold senseChannelTick
  dsimp only
  exact ringOff_of_kept ((kept_sampleChannel _ _ _ (by simp)).mpr (.refl _ _))
    (ringOff_changeChannel ch i (ringOff_of_kept (by simp) event))

theorem ringOff_senseControlTick {k : Nat} (i : SenseIn) (off : RingOff k s) : RingOff k (senseControlTick i s) := by
  unfold senseControlTick
  dsimp only
  refine each_keeps (fun ch t off => ringOff_of_kept (by simp) off) _
    (each_keeps (fun ch t off => ringOff_senseChannelTick i ch off) _ off)

theorem ringOff_heldDone {k : Nat} (h : Held) (st : Status) (off : RingOff k s) : RingOff k (heldDone h st s) := by
  unfold heldDone deferredDone deferredDoneX
  dsimp only
  split
  · exact off
  · exact off

/-- A lane that leaves its lock ends the eye scan that runs on it. -/
theorem ringOff_setLane {k : Nat} (i : Nat) (st : LaneState) (off : RingOff k s) : RingOff k (setLane i st s) := by
  unfold setLane
  extract_lets l left scanned faulted moved deskewed
  split
  · exact off
  have ended : RingOff k scanned := by
    unfold scanned
    split
    · split
      · exact ringOff_heldDone _ _ (s := modLane i _ s) off
      · exact off
    · exact off
  refine ringOff_of_kept (s := scanned) ?_ ended
  simp only [deskewed, moved, faulted]
  rw [kept_evalPassThrough _ (by simp)]
  split
  all_goals split
  all_goals simp


theorem ringOff_laneTick {k : Nat} (i : Nat) (off : RingOff k s) : RingOff k (laneTick i s) := by
  unfold laneTick
  extract_lets l want moved loop marked looped ticked
  have moves : RingOff k moved := by
    unfold moved
    split
    · exact ringOff_setLane _ _ off
    split
    · exact ringOff_setLane _ _ off
    · exact off
  have marks : RingOff k marked := moves
  have loops : RingOff k looped := by
    unfold looped
    split
    · exact moves
    split
    · exact marks
    · exact ringOff_setLane _ _ marks
  refine ringOff_of_kept (s := looped) ?_ loops
  unfold ticked
  split
  all_goals split
  all_goals simp

theorem ringOff_lanesControlTick {k : Nat} (off : RingOff k s) : RingOff k (lanesControlTick s) := by
  unfold lanesControlTick
  exact ringOff_of_kept ((kept_each _ _ _ fun c t => kept_lineLoopTick c t (by simp)).mpr (.refl _ _))
    (each_keeps (fun i t off => ringOff_laneTick i off) _ off)

/-! ### The disable of a ring that waits takes force -/

/-- What the end of the service of a ring does besides disabling it leaves the rings as they are. -/
theorem ringOff_ringsOff {k : Nat} (lt : k < 64) (waits : (ring s k).offWaits = true) : RingOff k (ringsOff s) := by
  have shuts (j : Nat) (t : Device) (off : RingOff k (modRing j (fun q => { q with enable := false, offWaits := false }) t)) :
      RingOff k
        (let kind := (ring t j).kind
        let s := modRing j (fun q => { q with enable := false, offWaits := false }) t
        if kind = 1 then
          each (List.range 64) (fun ch s =>
            let key := skey 0x0A00 0 ch 2
            if accepted s key = (j : Int) then putSetting key 0xFF .now s else s) s
        else if kind = 2 then
          each [0, 1, 2, 3] (fun i s => modCap i (fun c =>
            { c with readout := if (c.readout.map (·.1)) = some j then none else c.readout }) s) s
        else s) := by
    dsimp only
    split
    · refine each_keeps (fun ch u off => ?_) _ off
      split
      · exact ringOff_of_kept (by simp) off
      · exact off
    split
    · exact ringOff_of_kept (by simp) off
    · exact off
  unfold ringsOff
  refine each_reaches (a := k) (fun j t off => shuts j t ?_)
    (List.mem_filter.mpr ⟨List.mem_range.mpr lt, waits⟩) (fun t => shuts k t ?_)
  · unfold RingOff
    rw [ring_modRing]
    split
    · exact ⟨rfl, rfl⟩
    · exact off
  · unfold RingOff
    rw [ring_modRing, if_pos rfl]
    exact ⟨rfl, rfl⟩


/-! ### The parts that a control tick leaves alone -/

variable {ρ : Region} {s₀ : Device}

theorem kept_runSlot_part (x : EngineRun) (s : Device) (stores : ρ ≠ .stores)
    (hρ : ρ ∉ parts [.engines, .crypto, .kme, .mem, .stack, .clock, .fault]) :
    Kept ρ s₀ (runSlot x s) ↔ Kept ρ s₀ s := by
  simp at hρ
  unfold runSlot
  dsimp only
  (repeat' split) <;> simp [hρ, stores]

theorem kept_enginesTick_part (runs : List EngineRun) (bg : List BgRun) (s : Device) (stores : ρ ≠ .stores)
    (hρ : ρ ∉ parts [.engines, .crypto, .kme, .mem, .stack, .clock, .fault]) :
    Kept ρ s₀ (enginesTick runs bg s) ↔ Kept ρ s₀ s := by
  have slots (t : Device) : Kept ρ s₀ (each runs runSlot t) ↔ Kept ρ s₀ t :=
    kept_each _ _ _ fun x u => kept_runSlot_part x u stores hρ
  simp at hρ
  simp [enginesTick, hρ, slots]

theorem kept_clockControlTick_none (s : Device) (none : s.clock.delayed = []) (hρ : ρ ∉ parts [.conv, .clock]) :
    Kept ρ s₀ (clockControlTick s) ↔ Kept ρ s₀ s := by
  simp at hρ
  simp [clockControlTick, hρ, none, each]

/-- Only TXON of the electrical state follows the transmitter. -/
theorem kept_elec_setTxState (c : Carrier) (st : TxState) (s : Device) :
    Kept (.part .elec) s₀ (setTxState c st s) ↔ Kept (.part .elec) s₀ s :=
  have step : Kept (.part .elec) s (setTxState c st s) := rfl
  ⟨fun h => Kept.trans h (Part.same_symm (p := .elec) step), fun h => Kept.trans h step⟩

theorem kept_elec_txControlTick (c : Carrier) (s : Device) :
    Kept (.part .elec) s₀ (txControlTick c s) ↔ Kept (.part .elec) s₀ s := by
  unfold txControlTick
  extract_lets counted want
  have same : Kept (.part .elec) s₀ counted ↔ Kept (.part .elec) s₀ s := by simp [counted]
  split
  all_goals (repeat' split)
  all_goals simp [kept_elec_setTxState, reverseRamp, startRamp, settleStart, same]

/-- A control tick up to the service of the rings: time passes, and what waited for the boundary takes force. -/
def tickStarted (i : TickIn) (s : Device) : Device :=
  heldFollow (clockControlTick (endPulses (settleTick (advanceTime i.dt s))))

/-- The engines, carriers, decoder pool and tributaries in a control tick. -/
def tickCarriers (i : TickIn) (s : Device) : Device :=
  tribControlTick (poolControlTick i.pool (each carriers (carrierTick i) (enginesTick i.runs i.bg s)))

/-- Encryption, OSTC, Accord switch, stack bus and buffer memory in a control tick. -/
def tickLinks (i : TickIn) (s : Device) : Device :=
  memControlTick (stackControlTick (accordControlTick
    (each carriers (fun c s => ostcControlTick c (i.floor.get c) (cryptoControlTick c s)) s)))

theorem controlTick_eq (i : TickIn) (s : Device) :
    controlTick i s = lanesControlTick (tickLinks i (senseControlTick i.sense (tickCarriers i (ringsOff (tickStarted i s))))) :=
  rfl

theorem kept_tickLinks (i : TickIn) (s : Device) (hρ : ρ ∉ parts [.ostc, .fresh, .crypto, .accord, .stack, .mem]) :
    Kept ρ s₀ (tickLinks i s) ↔ Kept ρ s₀ s := by
  simp at hρ
  simp [tickLinks, hρ]

theorem kept_carrierTick_part (i : TickIn) (c : Carrier) (s : Device)
    (hρ : ρ = .part .elec ∨ ρ = .part .boot ∨ ρ = .part .timing ∨ ρ = .part .host) :
    Kept ρ s₀ (carrierTick i c s) ↔ Kept ρ s₀ s := by
  obtain rfl | rfl | rfl | rfl := hρ
  all_goals simp [carrierTick, kept_elec_txControlTick]

theorem kept_tickCarriers (i : TickIn) (s : Device)
    (hρ : ρ = .part .elec ∨ ρ = .part .boot ∨ ρ = .part .timing ∨ ρ = .part .host) :
    Kept ρ s₀ (tickCarriers i s) ↔ Kept ρ s₀ s := by
  have carrier (t : Device) : Kept ρ s₀ (each carriers (carrierTick i) t) ↔ Kept ρ s₀ t :=
    kept_each _ _ _ fun c u => kept_carrierTick_part i c u hρ
  have engines (t : Device) : Kept ρ s₀ (enginesTick i.runs i.bg t) ↔ Kept ρ s₀ t :=
    kept_enginesTick_part _ _ t (by rintro rfl; simp at hρ) (by obtain rfl | rfl | rfl | rfl := hρ <;> simp)
  obtain rfl | rfl | rfl | rfl := hρ
  all_goals simp [tickCarriers, carrier, engines]

/-- Time apart, the start of a control tick without a delayed reset leaves these parts alone. -/
theorem kept_tickStarted (i : TickIn) (s : Device) (none : s.clock.delayed = [])
    (hρ : ρ = .part .elec ∨ ρ = .part .boot ∨ ρ = .part .host) :
    Kept ρ s₀ (tickStarted i s) ↔ Kept ρ s₀ s := by
  have clock : (endPulses (settleTick (advanceTime i.dt s))).clock = s.clock :=
    show Kept (.part .clock) s _ by simp
  have ticked : Kept ρ s₀ (clockControlTick (endPulses (settleTick (advanceTime i.dt s)))) ↔
      Kept ρ s₀ (endPulses (settleTick (advanceTime i.dt s))) :=
    kept_clockControlTick_none _ (by rw [clock, none]) (by obtain rfl | rfl | rfl := hρ <;> simp)
  obtain rfl | rfl | rfl := hρ
  all_goals simp [tickStarted, ticked]

theorem timing_now_advanceTime {dt : Nat} (run : inReset s .timing = false) :
    (advanceTime dt s).timing.now = s.timing.now + dt := by
  have pulse (n : Nat) (before : Time) (t : Device) : (ppsPulse n before t).timing.now = t.timing.now := by
    unfold ppsPulse
    dsimp only
    (repeat' split) <;> rfl
  unfold advanceTime
  rw [if_neg (by simp [run])]
  dsimp only
  rw [pulse, pulse]
  rfl

theorem timing_now_tickStarted (i : TickIn) (run : inReset s .timing = false) (none : s.clock.delayed = []) :
    (tickStarted i s).timing.now = s.timing.now + i.dt := by
  have clock : (endPulses (settleTick (advanceTime i.dt s))).clock = s.clock :=
    show Kept (.part .clock) s _ by simp
  have kept : Kept (.part .timing) (advanceTime i.dt s) (tickStarted i s) := by
    have ticked := kept_clockControlTick_none (ρ := .part .timing) (s₀ := advanceTime i.dt s)
      (endPulses (settleTick (advanceTime i.dt s))) (by rw [clock, none]) (by simp)
    simp [tickStarted, ticked]
  exact (congrArg TimingSt.now kept).trans (timing_now_advanceTime run)

/-- Of these parts a whole control tick keeps what its start left. -/
theorem kept_controlTick_part (i : TickIn) (s : Device) (hρ : ρ = .part .elec ∨ ρ = .part .boot ∨ ρ = .part .timing) :
    Kept ρ s₀ (controlTick i s) ↔ Kept ρ s₀ (tickStarted i s) := by
  have carriers (t : Device) : Kept ρ s₀ (tickCarriers i t) ↔ Kept ρ s₀ t :=
    kept_tickCarriers i t (by obtain rfl | rfl | rfl := hρ <;> simp)
  have links (t : Device) : Kept ρ s₀ (tickLinks i t) ↔ Kept ρ s₀ t :=
    kept_tickLinks i t (by obtain rfl | rfl | rfl := hρ <;> simp)
  rw [controlTick_eq]
  obtain rfl | rfl | rfl := hρ
  all_goals simp [carriers, links]

theorem ringOff_controlTick (i : TickIn) {k : Nat} (none : s.clock.delayed = []) (lt : k < 64)
    (waits : (ring s k).offWaits = true) : RingOff k (controlTick i s) := by
  have started : Kept (.part .host) s (tickStarted i s) := (kept_tickStarted i s none (by simp)).mpr (.refl _ s)
  have host : (tickStarted i s).host = { s.host with irqLow := (tickStarted i s).host.irqLow } := started
  have waits' : (ring (tickStarted i s) k).offWaits = true := by
    rw [ring_of_host (s := s) (by rw [host]) k]
    exact waits
  rw [controlTick_eq]
  refine ringOff_lanesControlTick (ringOff_of_kept ((kept_tickLinks i _ (by simp)).mpr (.refl _ _)) ?_)
  exact ringOff_senseControlTick i.sense (ringOff_of_kept ((kept_tickCarriers i _ (by simp)).mpr (.refl _ _))
    (ringOff_ringsOff lt waits'))

/-! ### Slow ticks and epochs -/

/-- What holds of the default and of every listed value holds of every value read from a table. -/
theorem Tab.get_all {α : Type} {P : α → Prop} {d : Nat → α} {t : Tab α} (listed : ∀ p ∈ t, P p.2) (i : Nat) (unlisted : P (d i)) :
    P (Tab.get d t i) := by
  induction t with
  | nil => exact unlisted
  | cons p t ih =>
    unfold Tab.get
    split
    · exact listed p List.mem_cons_self
    · exact ih fun q later => listed q (List.mem_cons_of_mem p later)

theorem source_faultSlowTick_logged (id inst : Nat) (s : Device) : (source (faultSlowTick s) id inst).logged = false := by
  refine Tab.get_all (P := fun q : SourceSt => q.logged = false) (fun p listed => ?_) _ rfl
  obtain ⟨q, _, rfl⟩ := List.mem_map.mp (List.mem_filter.mp listed).1
  rfl

theorem elec_elecSlowTick (x : ElecIn) (s : Device) :
    (elecSlowTick x s).elec.temps = (List.range 8).map (fun i => x.temps.getD i 0) ∧
    (elecSlowTick x s).elec.supplies = (List.range 10).map (fun i => x.supplies.getD i 0) := by
  unfold elecSlowTick
  extract_lets e core off send e' s₁ s₂
  have sent : s₂.elec = e' := by
    unfold s₂
    split <;> rfl
  split
  · rw [faultOff_elec, sent]
    exact ⟨rfl, rfl⟩
  · rw [sent]
    exact ⟨rfl, rfl⟩

/-- A slow tick up to the supply and temperature monitors. -/
def slowTickBody (u : SlowIn) (s : Device) : Device :=
  memSlowTick u.bw (stackSlowTick u.ports (ptpSlowTick (senseSlowTick (protSlowTick (poolSlowTick (each carriers carrierSlow
    (timingSlowTick u.timing (movedCands s) (clockSlowTick u.clock (settle .slow (fun k => keyOp k ≠ 0x0505) s)))))))))

theorem slowTick_eq (u : SlowIn) (s : Device) :
    slowTick u s = faultSlowTick (cryptoSlowTick (lanesSlowTick u.lanes (elecSlowTick u.elec (slowTickBody u s)))) := rfl

theorem elec_slowTick (u : SlowIn) (s : Device) :
    (slowTick u s).elec.temps = (List.range 8).map (fun i => u.elec.temps.getD i 0) ∧
    (slowTick u s).elec.supplies = (List.range 10).map (fun i => u.elec.supplies.getD i 0) := by
  have after (t : Device) : Kept (.part .elec) t (faultSlowTick (cryptoSlowTick (lanesSlowTick u.lanes t))) := by simp
  have frame (t : Device) : (faultSlowTick (cryptoSlowTick (lanesSlowTick u.lanes t))).elec =
    { t.elec with txon := (faultSlowTick (cryptoSlowTick (lanesSlowTick u.lanes t))).elec.txon } := after t
  rw [slowTick_eq, frame]
  exact elec_elecSlowTick u.elec (slowTickBody u s)

theorem kept_host_carrierEpoch (c : Carrier) (s : Device) :
    Kept (.part .host) s₀ (carrierEpoch c s) ↔ Kept (.part .host) s₀ s := by
  simp [carrierEpoch]

/-- An epoch as its count of uptime after everything else. -/
def epochBody (m : SillageMeas) (s : Device) : Device :=
  faultEpoch (memEpoch (accordEpoch (senseEpoch (protEpoch (poolEpoch (each carriers carrierEpoch (tribEpoch
    (timingEpoch m (settle .epoch (fun k => keyOp k ≠ 0x0A00) (toSecond s))))))))))

theorem epoch_eq (m : SillageMeas) (s : Device) :
    epoch m s = modHost (fun h => { h with uptime := sat 32 (h.uptime + 1) }) (epochBody m s) := rfl

theorem uptime_epoch (m : SillageMeas) (s : Device) : (epoch m s).host.uptime = sat 32 (s.host.uptime + 1) := by
  have carriers (t : Device) : Kept (.part .host) s (each carriers carrierEpoch t) ↔ Kept (.part .host) s t :=
    kept_each _ _ _ fun c u => kept_host_carrierEpoch c u
  have host : (epochBody m s).host = { s.host with irqLow := (epochBody m s).host.irqLow } :=
    show Kept (.part .host) s _ by simp [epochBody, carriers]
  rw [epoch_eq, modHost_host]
  dsimp only
  rw [host]

theorem controlTick_spec (i : TickIn) (s : Device) (run : inReset s .timing = false) (none : s.clock.delayed = []) :
    (controlTick i s).timing.now = s.timing.now + i.dt ∧ (controlTick i s).boot = s.boot ∧
    Kept (.part .elec) s (controlTick i s) := by
  have timing : Kept (.part .timing) (tickStarted i s) (controlTick i s) := (kept_controlTick_part i _ (by simp)).mpr (.refl _ _)
  have boot : Kept (.part .boot) s (controlTick i s) :=
    (kept_controlTick_part i _ (by simp)).mpr ((kept_tickStarted i _ none (by simp)).mpr (.refl _ _))
  exact ⟨(congrArg TimingSt.now timing).trans (timing_now_tickStarted i run none), boot,
    (kept_controlTick_part i _ (by simp)).mpr ((kept_tickStarted i _ none (by simp)).mpr (.refl _ _))⟩

end

/-- Settles O40: what a control tick, a slow tick and an epoch do to time, rings, sources, monitors and uptime. -/
theorem boundaries : Obligations.Boundaries := by
  unfold Obligations.Boundaries
  refine ⟨fun s u run none => ?_, fun s u => ?_, fun s m => ?_⟩
  · refine yields_of rfl rfl ?_
    obtain ⟨now, boot, elec⟩ := controlTick_spec u (putOut [] s.dev) (by simpa using run) none
    rw [drivePins_timing, drivePins_boot, boot]
    refine ⟨now, fun k lt waits => ?_, rfl, rfl, Part.same_trans (p := .elec) elec (only_drivePins [] _ .elec (by simp))⟩
    rw [ring_drivePins]
    exact ringOff_controlTick u (s := putOut [] s.dev) none lt waits
  · refine yields_of rfl rfl ?_
    obtain ⟨temps, supplies⟩ := elec_slowTick u (putOut [] s.dev)
    rw [drivePins_elec_temps, drivePins_elec_supplies]
    refine ⟨fun id inst => ?_, temps, supplies⟩
    rw [source_drivePins]
    exact source_faultSlowTick_logged id inst _
  · refine yields_of rfl rfl ?_
    rw [drivePins_host_uptime]
    exact uptime_epoch m _

end Sys2Proof.Machine


/-! # Settings: what accepting them changes

One rule for a single setting, then for the rows of a layout taken one after another. -/

namespace Sys2Proof.Machine

open Sys2Proof

section
variable {s : Device}

/-! ### Keys -/

theorem skey_injective {op tgt sel a b : Nat} (h : skey op tgt sel a = skey op tgt sel b) : a = b := by
  unfold skey at h
  omega

/-- Keys of one command for two objects differ. -/
theorem skey_sel_ne {op tgt a b : Nat} (ne : a ≠ b) {off off' : Nat} (lt : off < 4096) (lt' : off' < 4096) :
    skey op tgt a off ≠ skey op tgt b off' := by
  unfold skey
  omega

theorem keyOp_skey (op : Nat) {tgt sel off : Nat} (htgt : tgt < 65536) (hsel : sel < 4294967296) (hoff : off < 4096) :
    keyOp (skey op tgt sel off) = op := by
  unfold keyOp skey
  omega

theorem keyOff_skey (op tgt sel : Nat) {off : Nat} (hoff : off < 4096) : keyOff (skey op tgt sel off) = off := by
  unfold keyOff skey
  omega

theorem tgt_lt (r : Req) : r.tgt < 65536 := by
  have index := r.index.isLt
  unfold Req.tgt targetCode
  split
  · decide
  split
  · omega
  · omega

theorem selector_lt (op : Nat) (p : List Byte) : selector op p < 4294967296 := by
  have byte : rd p 0 1 < 256 := rd_lt p 0 1
  have two : rd p 0 2 < 65536 := rd_lt p 0 2
  have three : rd p 0 3 < 16777216 := rd_lt p 0 3
  unfold selector
  split <;> omega

/-- The key is of a run-time setting: no Accord fixes its value. -/
def Settable (key : Nat) : Prop := ∀ row, rowAt (keyOp key) (keyOff key) = some row → row.kind ≠ .acc

/-! ### One setting -/

theorem settings_putSetting (key : Nat) (v : Int) (bnd : When) (s : Device) :
    (putSetting key v bnd s).settings = Tab.set (fun _ => none) s.settings key (some v) := by
  unfold putSetting
  dsimp only
  split <;> rfl

theorem plan_putSetting (key : Nat) (v : Int) (bnd : When) (s : Device) : plan (putSetting key v bnd s) = plan s := by
  unfold putSetting
  dsimp only
  split <;> rfl

theorem accepted_putSetting (key : Nat) (v : Int) (bnd : When) (s : Device) (k : Nat) :
    accepted (putSetting key v bnd s) k = if k = key then v else accepted s k := by
  unfold accepted
  rw [settings_putSetting, plan_putSetting, Tab.get_set]
  by_cases h : k = key <;> simp [h]

/-- The changes that wait after one is accepted: no other of the same key. -/
theorem pendSet_putSetting (key : Nat) (v : Int) (bnd : When) (s : Device) :
    (putSetting key v bnd s).pendSet =
      if bnd = .now ∨ v = inForce s key then s.pendSet.filter fun q => q.key ≠ key
      else (s.pendSet.filter fun q => q.key ≠ key) ++ [⟨key, inForce s key, bnd.code⟩] := by
  unfold putSetting
  dsimp only
  simp only [Bool.or_eq_true, decide_eq_true_eq]
  split <;> rfl

theorem find_pendSet_putSetting_other {k key : Nat} (ne : k ≠ key) (v : Int) (bnd : When) (s : Device) :
    ((putSetting key v bnd s).pendSet.find? fun q => q.key = k) = s.pendSet.find? fun q => q.key = k := by
  have kept : ((s.pendSet.filter fun q => q.key ≠ key).find? fun q => q.key = k) = s.pendSet.find? fun q => q.key = k := by
    rw [List.find?_filter]
    congr 1
    funext q
    by_cases is : q.key = k
    · simp [is, ne]
    · simp [is]
  rw [pendSet_putSetting]
  split
  · exact kept
  · rw [List.find?_append, kept]
    simp [Ne.symm ne]

theorem find_pendSet_putSetting_same (key : Nat) (v : Int) (bnd : When) (s : Device) :
    ((putSetting key v bnd s).pendSet.find? fun q => q.key = key) =
      if bnd = .now ∨ v = inForce s key then none else some ⟨key, inForce s key, bnd.code⟩ := by
  have gone : ((s.pendSet.filter fun q => q.key ≠ key).find? fun q => q.key = key) = none := by
    rw [List.find?_filter, List.find?_eq_none]
    intro q _
    simp
  rw [pendSet_putSetting]
  split
  · exact gone
  · rw [List.find?_append, gone]
    simp

theorem inForce_putSetting_other {k key : Nat} (ne : k ≠ key) (v : Int) (bnd : When) (s : Device) :
    inForce (putSetting key v bnd s) k = inForce s k := by
  unfold inForce
  rw [find_pendSet_putSetting_other ne, plan_putSetting, accepted_putSetting, if_neg ne]

/-- A new value is in force at once, or the old one stays in force until the boundary. -/
theorem inForce_putSetting_same {key : Nat} (settable : Settable key) (v : Int) (bnd : When) (s : Device) :
    inForce (putSetting key v bnd s) key = if bnd = .now then v else inForce s key := by
  have value : inForce (putSetting key v bnd s) key =
      if bnd = .now ∨ v = inForce s key then v else inForce s key := by
    conv => lhs; unfold inForce
    rw [find_pendSet_putSetting_same]
    by_cases done : bnd = .now ∨ v = inForce s key
    · rw [if_pos done, if_pos done, accepted_putSetting, if_pos rfl]
      dsimp only
      split
      next row found => rw [if_neg (settable row found)]
      next => rfl
    · rw [if_neg done, if_neg done]
  rw [value]
  by_cases now : bnd = .now
  · simp [now]
  · simp only [now, false_or]
    split
    next same => rw [same]; simp
    next => simp

/-! ### Rows one after another -/

theorem accepted_rows_other {key : Row → Nat} {val : Row → Int} {rows : List Row} {k : Nat} (other : ∀ row ∈ rows, k ≠ key row)
    (s : Device) : accepted (each rows (fun row => putSetting (key row) (val row) row.bnd) s) k = accepted s k := by
  unfold each
  induction rows generalizing s with
  | nil => rfl
  | cons row rows ih =>
    rw [List.foldl_cons, ih (fun x h => other x (List.mem_cons_of_mem _ h)), accepted_putSetting,
      if_neg (other row List.mem_cons_self)]

theorem inForce_rows_other {key : Row → Nat} {val : Row → Int} {rows : List Row} {k : Nat} (other : ∀ row ∈ rows, k ≠ key row)
    (s : Device) : inForce (each rows (fun row => putSetting (key row) (val row) row.bnd) s) k = inForce s k := by
  unfold each
  induction rows generalizing s with
  | nil => rfl
  | cons row rows ih =>
    rw [List.foldl_cons, ih (fun x h => other x (List.mem_cons_of_mem _ h)),
      inForce_putSetting_other (other row List.mem_cons_self)]

/-- Each row is accepted where no two rows are of one key. -/
theorem rows_accepted {key : Row → Nat} {val : Row → Int} {rows : List Row} (distinct : (rows.map key).Nodup)
    (settable : ∀ row ∈ rows, Settable (key row)) {row : Row} (listed : row ∈ rows) (s : Device) :
    accepted (each rows (fun row => putSetting (key row) (val row) row.bnd) s) (key row) = val row ∧
    inForce (each rows (fun row => putSetting (key row) (val row) row.bnd) s) (key row) =
      if row.bnd = .now then val row else inForce s (key row) := by
  induction rows generalizing s with
  | nil => cases listed
  | cons first rows ih =>
    obtain ⟨notLater, distinct⟩ := List.nodup_cons.mp distinct
    have later (x : Row) (h : x ∈ rows) : key first ≠ key x := fun e => notLater (e ▸ List.mem_map_of_mem h)
    change accepted (each rows _ (putSetting (key first) (val first) first.bnd s)) _ = _ ∧
      inForce (each rows _ (putSetting (key first) (val first) first.bnd s)) _ = _
    obtain rfl | listed := List.mem_cons.mp listed
    · rw [accepted_rows_other later, inForce_rows_other later, accepted_putSetting, if_pos rfl,
        inForce_putSetting_same (settable row List.mem_cons_self)]
      exact ⟨rfl, rfl⟩
    · obtain ⟨value, force⟩ := ih distinct (fun x h => settable x (List.mem_cons_of_mem _ h)) listed
        (putSetting (key first) (val first) first.bnd s)
      rw [inForce_putSetting_other (later row listed).symm] at force
      exact ⟨value, force⟩

/-! ### The run-time rows of a layout -/

/-- The run-time rows of a command's layout. -/
def rtRows (op : Nat) : List Row := (layout op).filter fun row => row.kind = .rt

theorem mem_rtRows {op : Nat} {row : Row} : row ∈ rtRows op ↔ row ∈ layout op ∧ row.kind = .rt := by
  simp [rtRows]

/-- The run-time rows of a layout stand at offsets of their own, at which the Accord fixes nothing. -/
def rowsDistinct (op : Nat) : Bool :=
  decide ((rtRows op).map (·.off)).Nodup &&
  (rtRows op).all fun row => decide (row.off < 4096) && ((rowAt op row.off).all fun x => decide (x.kind ≠ .acc))

/-- The opcodes of the commands that accept settings. -/
def settingOps : List Nat :=
  [0x0001, 0x0220, 0x0221, 0x0223, 0x0230, 0x0231, 0x0241, 0x0250, 0x0300, 0x0400, 0x0404, 0x0500, 0x0503, 0x0505, 0x0600, 0x0700,
    0x0800, 0x0801, 0x0802, 0x0806, 0x0900, 0x0901, 0x0905, 0x0A00, 0x0B00, 0x0B02, 0x0B05, 0x0B06, 0x0B07, 0x0B08, 0x0C00, 0x0D00,
    0x0E00, 0x0F01]

theorem rowsDistinct_settingOps : ∀ op ∈ settingOps, rowsDistinct op = true := by decide

theorem rtRows_off_nodup {op : Nat} (h : rowsDistinct op = true) : ((rtRows op).map (·.off)).Nodup := by
  simp only [rowsDistinct, Bool.and_eq_true, decide_eq_true_eq] at h
  exact h.1

theorem rtRows_off_lt {op : Nat} (h : rowsDistinct op = true) {row : Row} (listed : row ∈ rtRows op) : row.off < 4096 := by
  simp only [rowsDistinct, Bool.and_eq_true, List.all_eq_true, decide_eq_true_eq] at h
  exact (h.2 row listed).1

theorem settable_rtRows {op tgt sel : Nat} (h : rowsDistinct op = true) (htgt : tgt < 65536) (hsel : sel < 4294967296)
    {row : Row} (listed : row ∈ rtRows op) : Settable (skey op tgt sel row.off) := by
  have lt := rtRows_off_lt h listed
  intro x found
  rw [keyOp_skey op htgt hsel lt, keyOff_skey op tgt sel lt] at found
  simp only [rowsDistinct, Bool.and_eq_true, List.all_eq_true, decide_eq_true_eq] at h
  have free := (h.2 row listed).2
  rw [found] at free
  simpa using free

theorem rtRows_key_nodup {op : Nat} (tgt sel : Nat) {rows : List Row} (sub : rows.Sublist (rtRows op))
    (h : rowsDistinct op = true) : (rows.map fun row => skey op tgt sel row.off).Nodup := by
  have offs : (rows.map (·.off)).Nodup := (rtRows_off_nodup h).sublist (sub.map _)
  have keys : ((rows.map (·.off)).map (skey op tgt sel)).Nodup :=
    List.Pairwise.map (skey op tgt sel) (fun _ _ ne e => ne (skey_injective e)) offs
  rwa [List.map_map] at keys

theorem acceptFields_accepts {op tgt : Nat} (known : op ∈ settingOps) (htgt : tgt < 65536) (p : List Byte) (s : Device) :
    Accepts op tgt p s (acceptFields op tgt p s) ∧ OthersKept op tgt p s (acceptFields op tgt p s) := by
  have h := rowsDistinct_settingOps op known
  refine ⟨fun row listed rt => ?_, fun key other => ?_⟩
  · exact rows_accepted (rows := rtRows op) (key := fun row => skey op tgt (selector op p) row.off) (val := fun row => row.read p)
      (rtRows_key_nodup tgt _ (.refl _) h) (fun x hx => settable_rtRows h htgt (selector_lt op p) hx)
      (mem_rtRows.mpr ⟨listed, rt⟩) s
  · have apart (row : Row) (hrow : row ∈ rtRows op) : key ≠ skey op tgt (selector op p) row.off :=
      other row (mem_rtRows.mp hrow).1 (mem_rtRows.mp hrow).2
    exact ⟨accepted_rows_other (key := fun row => skey op tgt (selector op p) row.off) (val := fun row => row.read p) apart s,
      inForce_rows_other (key := fun row => skey op tgt (selector op p) row.off) (val := fun row => row.read p) apart s⟩

end
end Sys2Proof.Machine


/-! # What the settings commands accept and keep -/

namespace Sys2Proof.Machine

open Sys2Proof

section
variable {s : Device}

/-! ### Between the request and the answer -/

/-- What a command answers and changes is read off its act; its answer changes the host interface alone. -/
theorem answers_of_only {i : Instr} {s : State} {op : Nat} {c : Cmd} {r : Req} {l : List Part} {st : Status}
    {p : List Byte} {t : Device} {q : List Byte → Device → Prop} (hi : commandOf i = some (op, c, r))
    (hst : st ≠ .pending) (act : c.act r (arrive op r s.dev) = (⟨st, p⟩, t)) (frame : Only l (arrive op r s.dev) t)
    (post : ∀ u, Only [.host] t u → q p u) : Answers i s l st q :=
  answers_of_act hi hst act frame fun hmb => post _ ((only_answer [] op r ⟨st, p⟩ t hmb).trans (only_drivePins _ _))

/-- Two states hold the same settings under the same Accord. -/
def SameSettings (s t : Device) : Prop := t.settings = s.settings ∧ t.pendSet = s.pendSet ∧ t.accord = s.accord

theorem SameSettings.of_only {l : List Part} {s t : Device} (h : Only l s t)
    (hl : .settings ∉ l ∧ .pendSet ∉ l ∧ .accord ∉ l) : SameSettings s t :=
  ⟨h .settings hl.1, h .pendSet hl.2.1, h .accord hl.2.2⟩

theorem SameSettings.trans {s t u : Device} (h : SameSettings s t) (k : SameSettings t u) : SameSettings s u := by
  obtain ⟨a, b, c⟩ := h
  obtain ⟨a', b', c'⟩ := k
  exact ⟨a'.trans a, b'.trans b, c'.trans c⟩

theorem sameSettings_arrive (op : Nat) (r : Req) (s : Device) : SameSettings s (arrive op r s) :=
  ⟨arrive_settings op r s, arrive_pendSet op r s, arrive_accord op r s⟩

theorem SameSettings.accepted {s t : Device} (h : SameSettings s t) (key : Nat) : accepted t key = accepted s key := by
  obtain ⟨settings, _, accord⟩ := h
  simp [Machine.accepted, plan, settings, accord]

theorem SameSettings.inForce {s t : Device} (h : SameSettings s t) (key : Nat) : inForce t key = inForce s key :=
  inForce_congr h.1 h.2.1 h.2.2 key

/-- The request's fields are accepted and every other setting is kept. -/
def AcceptsAll (op tgt : Nat) (p : List Byte) (s t : Device) : Prop := Accepts op tgt p s t ∧ OthersKept op tgt p s t

theorem AcceptsAll.between {op tgt : Nat} {p : List Byte} {s s' t t' : Device} (h : AcceptsAll op tgt p s' t)
    (before : SameSettings s s') (after : SameSettings t t') : AcceptsAll op tgt p s t' := by
  obtain ⟨accepts, kept⟩ := h
  refine ⟨fun row listed rt => ?_, fun key other => ?_⟩
  · rw [after.accepted, after.inForce, ← before.inForce]
    exact accepts row listed rt
  · rw [after.accepted, after.inForce, ← before.inForce, ← before.accepted]
    exact kept key other

/-- A command that accepts its fields and then changes parts other than the settings. -/
theorem AcceptsAll.of_act {op op' tgt : Nat} {r : Req} {p : List Byte} {s t u : Device} (known : op ∈ settingOps)
    (htgt : tgt < 65536) (effect : SameSettings (acceptFields op tgt p (arrive op' r s)) t) (only : Only [.host] t u) :
    AcceptsAll op tgt p s u :=
  AcceptsAll.between (acceptFields_accepts known htgt p _) (sameSettings_arrive op' r s)
    (effect.trans (.of_only only (by decide)))

theorem sameSettings_refl (s : Device) : SameSettings s s := ⟨rfl, rfl, rfl⟩

/-! ### Commands that do nothing else -/

theorem act_of_settingCommand {i : Instr} {op : Nat} {c : Cmd} {r : Req} (hi : commandOf i = some (op, c, r))
    (listed : op ∈ [0x0230, 0x0250, 0x0300, 0x0400, 0x0404, 0x0500, 0x0503, 0x0505, 0x0700, 0x0900, 0x0B05, 0x0B06, 0x0B07,
      0x0D00, 0x0E00]) : c.act = does fun r s => acceptFields op r.tgt r.params s := by
  cases i <;> cases hi <;> simp at listed <;> rfl

theorem act_of_deviceSettingCommand {i : Instr} {op : Nat} {c : Cmd} {r : Req} (hi : commandOf i = some (op, c, r))
    (listed : op ∈ [0x0801, 0x0802, 0x0905]) : c.act = does fun r s => acceptFields op 0 r.params s := by
  cases i <;> cases hi <;> simp at listed <;> rfl

theorem does_acceptFields {i : Instr} {s : State} {op tgt : Nat} {c : Cmd} {r : Req} (hi : commandOf i = some (op, c, r))
    (known : op ∈ settingOps) (htgt : tgt < 65536) (act : ∀ s, c.act r s = (Resp.okay, acceptFields op tgt r.params s)) :
    Does i s [.settings, .pendSet] fun t => Accepts op tgt r.params s.dev t ∧ OthersKept op tgt r.params s.dev t :=
  answers_of_only hi (by decide) (act _) (only_of_kept fun ρ hρ => by simp at hρ; simp [hρ])
    fun _ only => ⟨rfl, AcceptsAll.of_act known htgt (sameSettings_refl _) only⟩

/-- A command that accepts its fields and then changes other parts. -/
theorem does_acceptFields_then {i : Instr} {s : State} {op tgt : Nat} {c : Cmd} {r : Req} {l : List Part}
    {f : Device → Device} {q : Device → Prop} (hi : commandOf i = some (op, c, r)) (known : op ∈ settingOps)
    (htgt : tgt < 65536) (act : ∀ s, c.act r s = (Resp.okay, f (acceptFields op tgt r.params s)))
    (effect : ∀ s, Only l s (f s)) (hl : .settings ∉ l ∧ .pendSet ∉ l ∧ .accord ∉ l)
    (post : ∀ u, Only [.host] (f (acceptFields op tgt r.params (arrive op r s.dev))) u → q u) :
    Does i s (.settings :: .pendSet :: l) fun t =>
      Accepts op tgt r.params s.dev t ∧ OthersKept op tgt r.params s.dev t ∧ q t := by
  have fields : Only (.settings :: .pendSet :: l) (arrive op r s.dev) (acceptFields op tgt r.params (arrive op r s.dev)) :=
    only_of_kept fun ρ hρ => by simp at hρ; simp [hρ]
  refine answers_of_only hi (by decide) (act _)
    (fields.trans ((effect _).mono fun p hp => List.mem_cons_of_mem _ (List.mem_cons_of_mem _ hp))) fun u only => ⟨rfl, ?_⟩
  obtain ⟨accepts, kept⟩ := AcceptsAll.of_act known htgt (.of_only (effect _) hl) only
  exact ⟨accepts, kept, post u only⟩

/-! ### Commands that change one more part -/

theorem tx_acceptFields (op tgt : Nat) (p : List Byte) (s : Device) : (acceptFields op tgt p s).tx = s.tx :=
  (kept_acceptFields (ρ := .part .tx) (s₀ := s) _ _ _ _ (by simp)).mpr (.refl _ s)

theorem rx_acceptFields (op tgt : Nat) (p : List Byte) (s : Device) : (acceptFields op tgt p s).rx = s.rx :=
  (kept_acceptFields (ρ := .part .rx) (s₀ := s) _ _ _ _ (by simp)).mpr (.refl _ s)

theorem ttx_acceptFields (op tgt : Nat) (p : List Byte) (s : Device) : (acceptFields op tgt p s).ttx = s.ttx :=
  (kept_acceptFields (ρ := .part .ttx) (s₀ := s) _ _ _ _ (by simp)).mpr (.refl _ s)

theorem timing_acceptFields (op tgt : Nat) (p : List Byte) (s : Device) : (acceptFields op tgt p s).timing = s.timing :=
  (kept_acceptFields (ρ := .part .timing) (s₀ := s) _ _ _ _ (by simp)).mpr (.refl _ s)

theorem sense_acceptFields (op tgt : Nat) (p : List Byte) (s : Device) : (acceptFields op tgt p s).sense = s.sense :=
  (kept_acceptFields (ρ := .part .sense) (s₀ := s) _ _ _ _ (by simp)).mpr (.refl _ s)

/-- A sensing channel commanded on or off. -/
def senseCommanded (p : List Byte) (s : Device) : Device :=
  modSense (rd p 0 1) (fun q =>
    { q with change := if q.running = (rd p 1 1 = 1) then none else some (rd p 1 1 = 1) }) s

/-! ### Commands of the transmitter -/

theorem only_acceptWave (op : Nat) (r : Req) (s : Device) : Only [.tx] (acceptFields op r.tgt r.params s) (acceptWave op r s) :=
  only_of_kept fun ρ hρ => by
    simp at hρ
    unfold acceptWave
    dsimp only
    split <;> simp [hρ]

/-- A waveform command counts itself while a change of it waits: nothing else of the transmitters changes. -/
theorem acceptWave_tx (op : Nat) (r : Req) (s : Device) :
    ((acceptWave op r s).tx.get r.car).state = (s.tx.get r.car).state ∧
    (acceptWave op r s).tx.get r.car.other = s.tx.get r.car.other := by
  unfold acceptWave
  dsimp only
  split <;> simp [prunePending, tx_acceptFields]

theorem does_acceptWave {i : Instr} {s : State} {op : Nat} {c : Cmd} {r : Req} (hi : commandOf i = some (op, c, r))
    (known : op ∈ settingOps) (act : ∀ s, c.act r s = (Resp.okay, acceptWave op r s)) :
    Does i s [.settings, .pendSet, .tx] fun t =>
      Accepts op r.tgt r.params s.dev t ∧ OthersKept op r.tgt r.params s.dev t ∧
      (t.tx.get r.car).state = (s.dev.tx.get r.car).state ∧ t.tx.get r.car.other = s.dev.tx.get r.car.other := by
  refine answers_of_only hi (by decide) (act _) (only_of_kept fun ρ hρ => by simp at hρ; simp [hρ]) fun u only => ⟨rfl, ?_⟩
  have tx : u.tx = (acceptWave op r (arrive op r s.dev)).tx := only .tx (by decide)
  obtain ⟨state, other⟩ := acceptWave_tx op r (arrive op r s.dev)
  obtain ⟨accepts, kept⟩ := AcceptsAll.of_act known (tgt_lt r) (.of_only (only_acceptWave op r _) (by decide)) only
  rw [arrive_tx] at state other
  exact ⟨accepts, kept, by rw [tx, state], by rw [tx, other]⟩

/-! ### The references -/

/-- The rows of a reference command that apply to the candidate. -/
theorem refRows_eq (i kind : Nat) :
    ((layout 0x0800).filter fun row => row.kind = .rt && refApplies i kind row.off) =
      (rtRows 0x0800).filter fun row => refApplies i kind row.off := by
  simp [rtRows, List.filter_filter, Bool.and_comm]

theorem refRows_accepted {i kind : Nat} (hi : i < 4294967296) (p : List Byte) {row : Row} (listed : row ∈ layout 0x0800)
    (rt : row.kind = .rt) (applies : refApplies i kind row.off = true) (s : Device) :
    accepted (each ((layout 0x0800).filter fun row => row.kind = .rt && refApplies i kind row.off)
      (fun row s => putSetting (skey 0x0800 0 i row.off) (row.read p) row.bnd s) s) (skey 0x0800 0 i row.off) = row.read p := by
  have distinct := rowsDistinct_settingOps 0x0800 (by decide)
  rw [refRows_eq]
  exact (rows_accepted (key := fun row => skey 0x0800 0 i row.off) (val := fun row => row.read p)
    (rtRows_key_nodup 0 i List.filter_sublist distinct)
    (fun x hx => settable_rtRows distinct (by decide) hi (List.mem_filter.mp hx).1)
    (List.mem_filter.mpr ⟨mem_rtRows.mpr ⟨listed, rt⟩, applies⟩) s).1

theorem updateOuts_timing (s : Device) : (updateOuts s).timing = { s.timing with outs := (updateOuts s).timing.outs } := by
  have keeps := each_keeps (s := s) (P := fun t => t.timing = { s.timing with outs := t.timing.outs })
    (f := fun i s => modTiming (fun t =>
      { t with outs := Tab.modify (fun _ => {}) t.outs i fun o =>
          { o with low := outLow s i, freq := dsetN s 0x0806 i 4, integer := dsetN s 0x0806 i 4 % 9765625000 = 0 } }) s)
    (fun i t h => by rw [modTiming_timing]; dsimp only; rw [h]) (List.range 10) rfl
  exact keeps

/-! ### The lanes of a group -/

/-- The settings that the lanes of a group share, for one lane. -/
def laneShares (p : List Byte) (i : Nat) (s : Device) : Device :=
  putSetting (skey 0x0C00 0 i 5) (rd p 5 1) .tick (putSetting (skey 0x0C00 0 i 4) (rd p 4 1) .tick s)

theorem skey_off_eq {op tgt sel op' tgt' sel' a b : Nat} (lt : a < 4096) (lt' : b < 4096)
    (h : skey op tgt sel a = skey op' tgt' sel' b) : a = b := by
  unfold skey at h
  omega

/-- Sharing the reference and rate of a lane keeps a setting whose value is the request's at the setting's offset. -/
theorem accepted_laneShares (p : List Byte) (i : Nat) {key : Nat} {v : Int} (four : key = skey 0x0C00 0 i 4 → v = rd p 4 1)
    (five : key = skey 0x0C00 0 i 5 → v = rd p 5 1) (h : accepted s key = v) : accepted (laneShares p i s) key = v := by
  rw [laneShares, accepted_putSetting, accepted_putSetting]
  split
  next e => exact (five e).symm
  split
  next e => exact (four e).symm
  next => exact h

theorem accepted_laneShares_own (p : List Byte) (i : Nat) (s : Device) :
    accepted (laneShares p i s) (skey 0x0C00 0 i 4) = rd p 4 1 ∧ accepted (laneShares p i s) (skey 0x0C00 0 i 5) = rd p 5 1 := by
  have apart : skey 0x0C00 0 i 4 ≠ skey 0x0C00 0 i 5 := fun e => absurd (skey_injective e) (by decide)
  rw [laneShares, accepted_putSetting, if_neg apart, accepted_putSetting, if_pos rfl, accepted_putSetting, if_pos rfl]
  exact ⟨rfl, rfl⟩

theorem read_shared {row : Row} (listed : row ∈ rtRows 0x0C00) (p : List Byte) :
    (row.off = 4 → row.read p = rd p 4 1) ∧ (row.off = 5 → row.read p = rd p 5 1) := by
  simp [rtRows, layout, rt, rtI, rtM, par, acc] at listed
  obtain rfl | rfl | rfl | rfl | rfl | rfl | rfl | rfl | rfl | rfl := listed <;> simp [Row.read]

theorem hlConfig_rows {tgt : Nat} (htgt : tgt < 65536) (p : List Byte) {row : Row} (listed : row ∈ layout 0x0C00)
    (rt : row.kind = .rt) (l : List Nat) (s : Device) :
    accepted (each l (laneShares p) (acceptFields 0x0C00 tgt p s)) (skey 0x0C00 tgt (rd p 0 1) row.off) = row.read p := by
  have mem := mem_rtRows.mpr ⟨listed, rt⟩
  have lt := rtRows_off_lt (rowsDistinct_settingOps 0x0C00 (by decide)) mem
  obtain ⟨four, five⟩ := read_shared mem p
  exact each_keeps (P := fun t => accepted t (skey 0x0C00 tgt (rd p 0 1) row.off) = row.read p)
    (fun i t h => accepted_laneShares p i (fun e => four (skey_off_eq lt (by decide) e))
      (fun e => five (skey_off_eq lt (by decide) e)) h) l
    ((acceptFields_accepts (op := 0x0C00) (by decide) htgt p s).1 row listed rt).1

theorem hlConfig_lanes (p : List Byte) {l : List Nat} {j : Nat} (listed : j ∈ l) (s : Device) :
    accepted (each l (laneShares p) s) (skey 0x0C00 0 j 4) = rd p 4 1 ∧
    accepted (each l (laneShares p) s) (skey 0x0C00 0 j 5) = rd p 5 1 := by
  refine each_reaches (P := fun t => accepted t (skey 0x0C00 0 j 4) = rd p 4 1 ∧ accepted t (skey 0x0C00 0 j 5) = rd p 5 1)
    (fun i t h => ⟨accepted_laneShares p i (fun _ => rfl) (fun e => ?_) h.1, accepted_laneShares p i (fun e => ?_) (fun _ => rfl) h.2⟩)
    listed (accepted_laneShares_own p j)
  · exact absurd (skey_off_eq (by decide) (by decide) e) (by decide)
  · exact absurd (skey_off_eq (by decide) (by decide) e) (by decide)

/-! ### The instances of a fault source -/

/-- The value stored for a setting. -/
def stored (s : Device) (key : Nat) : Option Int := Tab.get (fun _ => none) s.settings key

theorem accepted_of_stored {key : Nat} {v : Int} (h : stored s key = some v) : accepted s key = v := by
  unfold accepted
  unfold stored at h
  rw [h]

theorem stored_putSetting (key : Nat) (v : Int) (bnd : When) (s : Device) (k : Nat) :
    stored (putSetting key v bnd s) k = if k = key then some v else stored s k := by
  unfold stored
  rw [settings_putSetting, Tab.get_set]

/-- A stored value that each row would give its key stays through the rows. -/
theorem stored_rows_keep {key : Row → Nat} {val : Row → Int} {rows : List Row} {k : Nat} {v : Int}
    (same : ∀ row ∈ rows, k = key row → val row = v) (h : stored s k = some v) :
    stored (each rows (fun row => putSetting (key row) (val row) row.bnd) s) k = some v := by
  unfold each
  induction rows generalizing s with
  | nil => exact h
  | cons row rows ih =>
    refine ih (fun x hx => same x (List.mem_cons_of_mem _ hx)) ?_
    rw [stored_putSetting]
    split
    next e => rw [same row List.mem_cons_self e]
    next => exact h

theorem stored_rows {key : Row → Nat} {val : Row → Int} {rows : List Row} {k : Nat} {v : Int}
    (same : ∀ row ∈ rows, k = key row → val row = v) {row : Row} (listed : row ∈ rows) (own : k = key row) (s : Device) :
    stored (each rows (fun row => putSetting (key row) (val row) row.bnd) s) k = some v := by
  induction rows generalizing s with
  | nil => cases listed
  | cons first rows ih =>
    have later (x : Row) (hx : x ∈ rows) := same x (List.mem_cons_of_mem _ hx)
    obtain rfl | listed := List.mem_cons.mp listed
    · refine stored_rows_keep (s := putSetting (key row) (val row) row.bnd s) later ?_
      rw [stored_putSetting, if_pos own, same row List.mem_cons_self own]
    · exact ih later listed (putSetting (key first) (val first) first.bnd s)

end

/-- The request with another source of its fault named. -/
def renamed (p : List Byte) (i : Nat) : List Byte := put p 2 (le 1 i)

theorem selector_renamed {p : List Byte} (long : 3 ≤ p.length) (i : Nat) :
    selector 0x0F01 (renamed p i) = rd p 0 2 + 65536 * (i % 256) := by
  match p, long with
  | a :: b :: c :: rest, _ =>
    simp [selector, renamed, rd, slice, put, le, fromLe]
    omega

theorem read_renamed {p : List Byte} (size : p.length = 12) (i : Nat) {row : Row} (listed : row ∈ rtRows 0x0F01) :
    row.read (renamed p i) = row.read p := by
  have inside (a k : Nat) (after : 3 ≤ a) (h : a + k ≤ 12) : rd (renamed p i) a k = rd p a k := by
    unfold rd renamed
    rw [slice_put_outside (by omega) (.inl (by rw [le_length]; omega))]
  simp [rtRows, layout, rt, rtM, bulk] at listed
  obtain rfl | rfl | rfl | rfl := listed <;> simp [Row.read, inside]

/-- Two entries of a list whose images are all different are the same when their images are. -/
theorem eq_of_nodup_map {α β : Type} {f : α → β} {l : List α} (nodup : (l.map f).Nodup) {x y : α} (hx : x ∈ l) (hy : y ∈ l)
    (same : f x = f y) : x = y := by
  induction l with
  | nil => cases hx
  | cons a l ih =>
    obtain ⟨fresh, rest⟩ := List.nodup_cons.mp nodup
    rcases List.mem_cons.mp hx with rfl | inX <;> rcases List.mem_cons.mp hy with rfl | inY
    · rfl
    · exact absurd (List.mem_map.mpr ⟨y, inY, same.symm⟩) fresh
    · exact absurd (List.mem_map.mpr ⟨x, inX, same⟩) fresh
    · exact ih rest inX inY

theorem stored_faultConfig {p : List Byte} (size : p.length = 12) {l : List Nat} {j : Nat} (listed : j ∈ l) (lt : j < 256)
    {row : Row} (hrow : row ∈ rtRows 0x0F01) (s : Device) :
    stored (each l (fun i s => acceptFields 0x0F01 0 (put p 2 (le 1 i)) s) s)
      (skey 0x0F01 0 (rd p 0 2 + 65536 * j) row.off) = some (row.read p) := by
  have distinct := rowsDistinct_settingOps 0x0F01 (by decide)
  have same (i : Nat) (x : Row) (hx : x ∈ rtRows 0x0F01)
      (e : skey 0x0F01 0 (rd p 0 2 + 65536 * j) row.off = skey 0x0F01 0 (selector 0x0F01 (renamed p i)) x.off) :
      x.read (renamed p i) = row.read p := by
    have off := skey_off_eq (rtRows_off_lt distinct hrow) (rtRows_off_lt distinct hx) e
    rw [read_renamed size i hx, eq_of_nodup_map (rtRows_off_nodup distinct) hx hrow off.symm]
  refine each_reaches (P := fun t => stored t (skey 0x0F01 0 (rd p 0 2 + 65536 * j) row.off) = some (row.read p))
    (fun i t h => stored_rows_keep (rows := rtRows 0x0F01) (same i) h) listed
    (fun t => stored_rows (rows := rtRows 0x0F01) (same j) hrow ?_ t)
  rw [selector_renamed (by omega), Nat.mod_eq_of_lt lt]

theorem length_of_runs {op : Nat} {c : Cmd} {r : Req} {s : Device} (h : runs op c r s = true) :
    ∃ lo hi, reqSize op = some (lo, hi) ∧ lo ≤ r.params.length ∧ r.params.length ≤ hi := by
  have sized : sizeRefusal op r = none := by
    simp only [runs, Bool.and_eq_true, Option.isNone_iff_eq_none] at h
    have none := h.1.1.2
    unfold refusal at none
    (repeat' split at none) <;> simp_all
  unfold sizeRefusal at sized
  split at sized
  · cases sized
  next lo hi size =>
    split at sized
    next fits => exact ⟨lo, hi, size, fits.1, fits.2⟩
    · cases sized

/-- The instances that a request can name have numbers of one byte. -/
theorem namedInsts_lt {p : List Byte} {j : Nat} (h : j ∈ namedInsts p) : j < 256 := by
  have few : ∀ f ∈ catalogue, f.insts ≤ 256 := by decide
  unfold namedInsts at h
  dsimp only at h
  split at h
  · rw [List.mem_range] at h
    cases found : faultInfo (rd p 0 2) with
    | none => rw [found] at h; simp at h
    | some f =>
      rw [found] at h
      exact Nat.lt_of_lt_of_le h (few f (List.mem_of_find?_eq_some found))
  · rw [List.mem_singleton] at h
    rw [h]
    simpa using rd_lt p 2 1

theorem faultConfig_size {c : Cmd} {r : Req} {s : Device} (h : runs 0x0F01 c r s = true) : r.params.length = 12 := by
  obtain ⟨lo, hi, size, least, most⟩ := length_of_runs h
  rw [show reqSize 0x0F01 = some (12, 12) from rfl] at size
  cases size
  omega

theorem does_faultConfig {r : Req} (size : r.params.length = 12) (s : State) :
    Does (.faultConfig r) s [.settings, .pendSet] fun t =>
      ∀ j, j ∈ namedInsts r.params →
        faultSet t (rd r.params 0 2) j 4 = rd r.params 4 2 ∧
        accepted t (skey 0x0F01 0 (rd r.params 0 2 + 65536 * j) 6) = rd r.params 6 1 ∧
        accepted t (skey 0x0F01 0 (rd r.params 0 2 + 65536 * j) 8) = rd r.params 8 2 ∧
        accepted t (skey 0x0F01 0 (rd r.params 0 2 + 65536 * j) 10) = rd r.params 10 2 := by
  refine answers_of_only rfl (by decide) rfl (only_of_kept fun ρ hρ => by simp at hρ; simp [hρ])
    fun u only => ⟨rfl, fun j named => ?_⟩
  have settings : u.settings = _ := only .settings (by decide)
  have value (row : Row) (hrow : row ∈ rtRows 0x0F01) :
      stored u (skey 0x0F01 0 (rd r.params 0 2 + 65536 * j) row.off) = some (row.read r.params) := by
    unfold stored
    rw [settings]
    exact stored_faultConfig size named (namedInsts_lt named) hrow _
  have mask := value (rtM 4 2 0x3FF 0) (by decide)
  refine ⟨?_, accepted_of_stored (value (rt 6 1 1 255 4 .tick) (by decide)),
    accepted_of_stored (value (rt 8 2 1 65535 10000 .tick) (by decide)),
    accepted_of_stored (value (rt 10 2 1 60000 1000 .tick) (by decide))⟩
  unfold stored at mask
  simp only [faultSet, if_true]
  rw [show Tab.get (fun _ => none) u.settings (skey 0x0F01 0 (rd r.params 0 2 + 65536 * j) 4) = _ from mask]
  rfl

/-- Settles O41: every setting of a request is one row of its layout put in place; what else a settings command does
leaves the settings alone. -/
theorem settingsAccepted : Obligations.SettingsAccepted := by
  unfold Obligations.SettingsAccepted
  refine ⟨?_, ?_, ?_, ?_, ?_, ?_, ?_, ?_, ?_, ?_, ?_, ?_, ?_⟩
  · intro s i op c r hi listed
    exact does_acceptFields hi (by revert listed; simp [settingOps]; omega) (tgt_lt r)
      fun t => by rw [act_of_settingCommand hi listed]; rfl
  · intro s i op c r hi listed
    exact does_acceptFields hi (by revert listed; simp [settingOps]; omega) (by decide)
      fun t => by rw [act_of_deviceSettingCommand hi listed]; rfl
  · intro s r
    exact does_acceptWave rfl (by decide) fun _ => rfl
  · intro s r
    exact does_acceptWave rfl (by decide) fun _ => rfl
  · intro s r
    refine does_acceptFields_then (l := [.tx]) (f := modTx r.car fun t => { t with commanded := rd r.params 0 1 = 1 }) rfl
      (by decide) (tgt_lt r) (fun _ => rfl) (fun t => only_of_kept fun ρ hρ => by simp at hρ; simp [hρ]) (by decide)
      fun u only => ?_
    have tx : u.tx = _ := only .tx (by decide)
    rw [modTx_tx, tx_acceptFields, arrive_tx] at tx
    exact ⟨by rw [tx, Two.get_mod], by rw [tx]; simp⟩
  · intro s r
    refine does_acceptFields_then (l := [.rx]) (f := modRx r.car fun x => { x with enabled := rd r.params 0 1 = 1 }) rfl
      (by decide) (tgt_lt r) (fun _ => rfl) (fun t => only_of_kept fun ρ hρ => by simp at hρ; simp [hρ]) (by decide)
      fun u only => ?_
    have rx : u.rx = _ := only .rx (by decide)
    rw [modRx_rx, rx_acceptFields, arrive_rx] at rx
    exact ⟨by rw [rx, Two.get_mod], by rw [rx]; simp⟩
  · intro s r op c r' hi hr
    obtain ⟨t, run, pend, p, answered, only, nil, accepts, kept, -⟩ := does_acceptFields_then (i := .calConfig r) (s := s)
      (l := Part.ofFault) (f := fun s => evalSpares r.car s s) (q := fun _ => True) rfl (by decide) (tgt_lt r) (fun _ => rfl)
      (fun t => only_of_kept fun ρ hρ => by simp [Part.ofFault] at hρ; simp [hρ]) (by decide) (fun _ _ => trivial) op c r' hi hr
    exact ⟨t, run, pend, p, answered, only, nil, accepts, kept⟩
  · intro s r
    refine answers_of_only rfl (by decide) rfl (only_of_kept fun ρ hρ => by simp at hρ; simp [hρ])
      fun u only => ⟨rfl, fun row listed rt applies => ?_⟩
    rw [(SameSettings.of_only only (by decide)).accepted]
    exact refRows_accepted (Nat.lt_trans (rd_lt _ _ _) (by decide)) r.params listed rt applies _
  · intro s r
    refine does_acceptFields_then (l := [.timing]) (f := updateOuts) rfl (by decide) (by decide) (fun _ => rfl)
      (fun t => only_of_kept fun ρ hρ => by simp at hρ; simp [hρ]) (by decide) fun u only => ?_
    have timing : u.timing = _ := only .timing (by decide)
    have outs := updateOuts_timing (acceptFields 0x0806 0 r.params (arrive 0x0806 r s.dev))
    rw [timing_acceptFields, arrive_timing, ← timing] at outs
    exact outs
  · intro s r
    refine does_acceptFields_then (l := [.ttx]) (f := modTtx r.car fun q => { q with persist := rd r.params 25 1 = 1 }) rfl
      (by decide) (tgt_lt r) (fun _ => rfl) (fun t => only_of_kept fun ρ hρ => by simp at hρ; simp [hρ]) (by decide)
      fun u only => ?_
    have ttx : u.ttx = _ := only .ttx (by decide)
    rw [modTtx_ttx, ttx_acceptFields, arrive_ttx] at ttx
    exact ⟨by rw [ttx, Two.get_mod], by rw [ttx]; simp⟩
  · intro s r
    refine does_acceptFields_then (l := [.sense]) (f := senseCommanded r.params) rfl (by decide) (tgt_lt r) (fun _ => rfl)
      (fun t => only_of_kept fun ρ hρ => by simp at hρ; simp [hρ, senseCommanded]) (by decide) fun u only => ?_
    have table : u.sense = _ := only .sense (by decide)
    have before (j : Nat) : sense (acceptFields 0x0A00 r.tgt r.params (arrive 0x0A00 r s.dev)) j = sense s.dev j := by
      rw [sense, sense, sense_acceptFields, arrive_sense]
    have moved (j : Nat) : sense u j = sense (senseCommanded r.params (acceptFields 0x0A00 r.tgt r.params (arrive 0x0A00 r s.dev))) j := by
      rw [sense, table]
      rfl
    refine ⟨?_, fun j ne => ?_⟩
    · rw [moved, senseCommanded, sense_modSense, if_pos rfl, before]
      simp only [SenseSt.mk.injEq, true_and, and_true]
      by_cases on : rd r.params 1 1 = 1 <;> simp [on]
    · rw [moved, senseCommanded, sense_modSense, if_neg ne, before]
  · intro s r
    refine answers_of_only rfl (by decide) rfl (only_of_kept fun ρ hρ => by simp at hρ; simp [hρ])
      fun u only => ⟨rfl, fun row listed rt => ?_, fun j listed => ?_⟩
    · rw [(SameSettings.of_only only (by decide)).accepted]
      exact hlConfig_rows (tgt_lt r) r.params listed rt _ _
    · rw [(SameSettings.of_only only (by decide)).accepted, (SameSettings.of_only only (by decide)).accepted]
      exact hlConfig_lanes r.params listed _
  · intro s r op c r' hi hr
    have size : r.params.length = 12 := by
      cases hi
      exact faultConfig_size hr
    exact does_faultConfig size s op c r' hi hr

end Sys2Proof.Machine


/-!
# The Accord commands: a counterexample

`ACCORD_VERSION_COMMIT` marks images by `Tab.mapAll`, which takes every pair of the slot table whose value is the default
out of the table. The statement speaks of every state, so also of one whose slot table lists slot 0 twice, first as free
and then as valid: the slot reads as free before the command and as valid after it.
-/

namespace Sys2Proof.Machine

open Sys2Proof

/-- The parameters of a response follow its header of 16 bytes. -/
theorem drop_respBytes (op : Nat) (r : Req) (q : Resp) (proxied : Bool) : (respBytes op r q proxied).drop 16 = q.params := by
  simp [respBytes, withCrc, put, le, zeros]

/-- What is said of the answer of a command that runs holds of what its act answers. -/
theorem Answers.of_runs {i : Instr} {s : State} {op : Nat} {c : Cmd} {r : Req} {l : List Part} {st : Status} {p : List Byte}
    {t : Device} {q : List Byte → Device → Prop} (h : Answers i s l st q) (hi : commandOf i = some (op, c, r))
    (hr : runs op c r s.dev = true) (hst : st ≠ .pending) (act : c.act r (arrive op r s.dev) = (⟨st, p⟩, t)) :
    q p (drivePins (answer op r ⟨st, p⟩ t)) := by
  have hmb : r.mb.val < 4 := runs_mb op c r s.dev hr
  obtain ⟨t', next, _, p', ⟨resp, _⟩, _, post⟩ := h op c r hi hr
  have dev : t'.dev = drivePins (answer op r ⟨st, p⟩ t) := by
    rw [dev_of_next (exec_command i s op c r hi) next, mailboxRun_runs op c r s.dev hr, act, if_neg hst]
  obtain ⟨resp', _⟩ := answered_answer op r ⟨st, p⟩ t hmb
  have same : p = p' := by
    have bytes : respBytes op r ⟨st, p⟩ false = respBytes op r ⟨st, p'⟩ false := by rw [← resp, ← resp', dev]
    simpa only [drop_respBytes] using congrArg (List.drop 16) bytes
  subst same
  exact dev ▸ post

/-- A device that is ready, with an active Accord and slot 0 listed twice. -/
def slotListedTwice : Device :=
  { ({} : Device) with
    accord := { active := { slot := some 0 }, slots := [(0, {}), (0, { state := .valid })] }
    boot := { stage := .ready, fwRuns := true }
    elec := { vppOk := true } }

/-- ACCORD_VERSION_COMMIT of version 0. -/
def commitZero : Req := { params := [0, 0, 0, 0] }

theorem runs_commitZero : runs 0x0108 accordVersionCommitCmd commitZero slotListedTwice = true := by decide

theorem slot_valid_after_commit :
    (accSlot (accordVersionCommitCmd.act commitZero (arrive 0x0108 commitZero slotListedTwice)).2 0).state = .valid := by
  decide

/-- Refutes O42: slot 0 reads as free before ACCORD_VERSION_COMMIT and as valid after it. -/
theorem not_accordCommands : ¬ Obligations.AccordCommands := by
  unfold Obligations.AccordCommands
  rintro ⟨_, _, _, _, _, _, _, _, _, _, _, _, _, _, _, _, _, _, _, commit⟩
  have slots := (Answers.of_runs (t := (accordVersionCommitCmd.act commitZero (arrive 0x0108 commitZero slotListedTwice)).2)
    (commit ⟨slotListedTwice, []⟩ commitZero) rfl runs_commitZero (by decide) rfl).2.2 0
  rw [accSlot_drivePins, accSlot_of_accord (answer_accord _ _ _ _ (by decide)) 0] at slots
  have valid := slot_valid_after_commit
  rw [slots] at valid
  exact absurd valid (by decide)

end Sys2Proof.Machine


/-! # Answers: the fields of a layout, and commands that wait for their end -/

namespace Sys2Proof.Machine

open Sys2Proof

section
variable {s : Device}

/-! ### The fields of a layout -/

/-- The fields stand one after another between two offsets. -/
def InOrder (start n : Nat) : List (Nat × List Byte) → Prop
  | [] => start ≤ n
  | f :: fs => start ≤ f.1 ∧ InOrder (f.1 + f.2.length) n fs

theorem InOrder.start_le {start n : Nat} {fs : List (Nat × List Byte)} (h : InOrder start n fs) : start ≤ n := by
  induction fs generalizing start with
  | nil => exact h
  | cons f fs ih =>
    have := ih h.2
    have := h.1
    omega

theorem InOrder.mem {start n : Nat} {fs : List (Nat × List Byte)} (h : InOrder start n fs) {f : Nat × List Byte} (hf : f ∈ fs) :
    start ≤ f.1 ∧ f.1 + f.2.length ≤ n := by
  induction fs generalizing start with
  | nil => cases hf
  | cons g fs ih =>
    obtain rfl | hf := List.mem_cons.mp hf
    · exact ⟨h.1, h.2.start_le⟩
    · have := ih h.2 hf
      have := h.1
      omega

theorem InOrder.pairwise {start n : Nat} {fs : List (Nat × List Byte)} (h : InOrder start n fs) :
    fs.Pairwise fun f g => f.1 + f.2.length ≤ g.1 ∨ g.1 + g.2.length ≤ f.1 := by
  induction fs generalizing start with
  | nil => exact .nil
  | cons f fs ih => exact .cons (fun g hg => .inl (h.2.mem hg).1) (ih h.2)

/-- A field of a layout is read back at its place. -/
theorem slice_fields {n : Nat} {fs : List (Nat × List Byte)} (order : InOrder 0 n fs) {o k : Nat} {b : List Byte}
    (listed : (o, b) ∈ fs) (size : b.length = k) : slice (fields n fs) o k = b := by
  subst size
  exact slice_putAll_mem (l := zeros n) (fun f hf => by simpa [zeros] using (order.mem hf).2) order.pairwise listed

theorem put_length {l : List Byte} {o : Nat} {b : List Byte} (h : o + b.length ≤ l.length) : (put l o b).length = l.length := by
  simp [put]
  omega

theorem fields_length {n : Nat} {fs : List (Nat × List Byte)} (order : InOrder 0 n fs) : (fields n fs).length = n := by
  have inside (f : Nat × List Byte) (hf : f ∈ fs) : f.1 + f.2.length ≤ n := (order.mem hf).2
  have all (l : List Byte) (size : l.length = n) : (putAll l fs).length = n := by
    clear order
    induction fs generalizing l with
    | nil => exact size
    | cons f fs ih =>
      refine ih (fun g hg => inside g (List.mem_cons_of_mem _ hg)) _ ?_
      rw [put_length (by rw [size]; exact inside f List.mem_cons_self), size]
  exact all (zeros n) (by simp [zeros])

/-- A number that fits its bytes is read back. -/
theorem fromLe_le {k n : Nat} (h : n < 256 ^ k) : fromLe (le k n) = n := by
  induction k generalizing n with
  | zero => simp at h; simp [le, fromLe, h]
  | succ k ih =>
    have := ih (n := n / 256) (by rw [Nat.div_lt_iff_lt_mul (by decide)]; rwa [Nat.pow_succ] at h)
    simp only [le, fromLe, this, BitVec.toNat_ofNat]
    omega

theorem rd_eq_of_slice {l : List Byte} {o k n : Nat} (h : slice l o k = le k n) (fits : n < 256 ^ k) : rd l o k = n := by
  rw [rd, h, fromLe_le fits]

@[simp] theorem timeBytes10_length (t : Time) : (timeBytes10 t).length = 10 := by simp [timeBytes10]

/-- The first bytes of a longer answer. -/
theorem slice_append_left {a b : List Byte} {o k : Nat} (h : o + k ≤ a.length) : slice (a ++ b) o k = slice a o k := by
  simp only [slice]
  rw [List.drop_append_of_le_length (by omega), List.take_append_of_le_length (by simp; omega)]

/-- A part of one of the records of equal size that stand one after another. -/
theorem slice_flatMap {α : Type} {f : α → List Byte} {k : Nat} (size : ∀ x, (f x).length = k) {l : List α} {i : Nat} {x : α}
    (at_ : l[i]? = some x) {o m : Nat} (within : o + m ≤ k) : slice (l.flatMap f) (k * i + o) m = slice (f x) o m := by
  induction l generalizing i with
  | nil => simp at at_
  | cons y l ih =>
    rw [List.flatMap_cons]
    cases i with
    | zero =>
      obtain rfl : y = x := by simpa using at_
      rw [Nat.mul_zero, Nat.zero_add, slice_append_left (by rw [size]; exact within)]
    | succ i =>
      have next := ih (i := i) (by simpa using at_)
      rw [← next, slice, slice, Nat.mul_succ, Nat.add_right_comm, Nat.add_comm, ← List.drop_drop]
      congr 2
      rw [← size y, List.drop_left]

/-! ### Commands that read -/

/-- A command that only reads answers what it reads of the present state. -/
theorem reads_of_act {i : Instr} {s : State} {op : Nat} {c : Cmd} {r : Req} {f : Device → Req → List Byte}
    {q : List Byte → Prop} (hi : commandOf i = some (op, c, r)) (act : c.act = reads f)
    (post : q (f (arrive op r s.dev) r)) : Reads i s q :=
  answers_of_only hi (by decide) (by rw [act]; rfl) (.refl _ _) fun _ _ => post

/-! ### Commands that wait -/

/-- A command that waits is noted for its end; its answer changes the host interface alone. -/
theorem defers_of_act {i : Instr} {s : State} {op : Nat} {c : Cmd} {r : Req} {l : List Part} {t : Device}
    {q : Device → Prop} (hi : commandOf i = some (op, c, r)) (act : c.act r (arrive op r s.dev) = (⟨.pending, []⟩, t))
    (frame : Only l (arrive op r s.dev) t) (post : ∀ u, Only [.host] t u → q u) : Defers i s l q := by
  intro op' c' r' hi' hruns
  obtain ⟨rfl, rfl, rfl⟩ : op = op' ∧ c = c' ∧ r = r' := by simpa using hi.symm.trans hi'
  have hmb : r.mb.val < 4 := runs_mb op c r s.dev hruns
  have run : mailboxRun op c r (putOut [] s.dev) = answer op r ⟨.pending, []⟩ (addPending op r t) := by
    rw [mailboxRun_runs op c r s.dev hruns, act, if_pos rfl]
  have noted : Only [.host] t (addPending op r t) := only_of_kept fun ρ hρ => by simp at hρ; simp [hρ]
  refine yields_act (exec_command i s op c r hi) ?_
  rw [run]
  refine ⟨answered_answer op r _ _ hmb, ?_, onlyAnd_answer hmb ((frame.mono fun _ => List.mem_cons_of_mem _).trans
      (noted.mono (by simp))), post _ (noted.trans ((only_answer [] op r _ _ hmb).trans (only_drivePins _ _)))⟩
  rw [drivePins_host_pendCmds, answer_host_pendCmds _ _ _ _ hmb]
  simp [addPending]

end
end Sys2Proof.Machine


/-! # The commands of a carrier -/

namespace Sys2Proof.Machine

open Sys2Proof

section
variable {s : Device}

/-! ### Status -/

@[simp] theorem modeOf_arrive (op : Nat) (r : Req) (s : Device) (c : Carrier) : modeOf (arrive op r s) c = modeOf s c := rfl

@[simp] theorem native_arrive (op : Nat) (r : Req) (s : Device) (c : Carrier) : native (arrive op r s) c = native s c := rfl

@[simp] theorem squelchId_arrive (op : Nat) (r : Req) (s : Device) (c : Carrier) :
    squelchId (arrive op r s) c = squelchId s c := rfl

@[simp] theorem convOf_arrive (op : Nat) (r : Req) (s : Device) (c : Carrier) (k : Nat) :
    convOf (arrive op r s) c k = convOf s c k := rfl

@[simp] theorem portAt_arrive (op : Nat) (r : Req) (s : Device) (c : Carrier) (k : Nat) :
    portAt (arrive op r s) c k = portAt s c k := rfl

/-- The record of an analog port. -/
def portRecord (s : Device) (c : Carrier) (k : Nat) : List Byte :=
  fields 12 [(0, le 1 (portAt s c k).cond.code), (2, timeBytes10 (portAt s c k).since)]

theorem portRecord_length (s : Device) (c : Carrier) (k : Nat) : (portRecord s c k).length = 12 :=
  fields_length (by simp [InOrder])

/-- A port's record stands in the answer at its place. -/
theorem slice_ports (s : Device) (c : Carrier) {a k o m : Nat} (place : a = 12 * k + o) (hk : k < 8) (within : o + m ≤ 12)
    (rest : List Byte) :
    slice ([0, 1, 2, 3, 4, 5, 6, 7].flatMap (portRecord s c) ++ rest) a m = slice (portRecord s c k) o m := by
  rw [place, slice_append_left (by simp [portRecord_length]; omega)]
  have listed : [0, 1, 2, 3, 4, 5, 6, 7][k]? = some k := by
    have ports : ∀ k : Fin 8, [0, 1, 2, 3, 4, 5, 6, 7][k.val]? = some k.val := by decide
    exact ports ⟨k, hk⟩
  exact slice_flatMap (portRecord_length s c) listed within

/-- The counts of a period in the order of their layout. -/
def countNums (k : FecCounts) : List Nat :=
  [k.inCw, k.inBitsCorr, k.inCwCorr, k.inCwUnconv, k.outCw, k.outBitsCorr, k.outCwCorr, k.outCwUncorr, k.framesMarked]

theorem slice_countBytes (k : FecCounts) {i n o : Nat} (place : o = 8 * i) (listed : (countNums k)[i]? = some n) :
    slice (countBytes k) o 8 = le 8 n := by
  subst place
  have short : i < 9 := (List.getElem?_eq_some_iff.mp listed).1
  have head := slice_flatMap (f := le 8) (k := 8) (fun _ => le_length _ _) listed (o := 0) (m := 8) (by decide)
  have whole : slice (le 8 n) 0 8 = le 8 n := by simp [slice, List.take_of_length_le]
  rw [← whole, ← head, Nat.add_zero]
  unfold countBytes
  dsimp only
  simp only [List.append_assoc]
  exact slice_append_left (by simp; omega)

/-! ### Changes of elements -/

theorem convOf_addChange (c : Carrier) (k j : Nat) (e : ElemChange) (s : Device) :
    convOf (addChange c k e s) c j =
      if j = k then { convOf s c k with pending := (convOf s c k).pending ++ [e] } else convOf s c j := by
  simp [convOf, addChange, modConvK, Tab.get_modify]

theorem addChange_other (c : Carrier) (k : Nat) (e : ElemChange) (s : Device) :
    (addChange c k e s).conv.get c.other = s.conv.get c.other := by
  simp [addChange, modConvK]

/-- The change of a slice that a request asks for. -/
def sliceSwap (r : Req) (s : Device) : ElemChange :=
  { kind := .sliceSwap, incoming := rd r.params 4 2, position := rd r.params 6 2,
    forFailed := match sliceIn s r.car (rd r.params 1 1) (rd r.params 6 2) with
      | some n => (sliceAt s r.car (rd r.params 1 1) n).failCause ≠ 0
      | none => false }

/-- The change of a cell that a request asks for. -/
def cellSwap (r : Req) (s : Device) : ElemChange :=
  { kind := .cellSwap, seg := rd r.params 2 1, incoming := rd r.params 4 2, position := rd r.params 6 2,
    forFailed := (segAt s r.car (4 + rd r.params 1 1) (rd r.params 2 1)).failed.any fun y =>
      y = cellAt (segAt s r.car (4 + rd r.params 1 1) (rd r.params 2 1)) (rd r.params 6 2) }

/-! ### Proposals -/

theorem propose_seq (c : Carrier) (kind : Nat) (s : Device) : ((propose c kind s).rx.get c).ownRec.seq = (s.rx.get c).nextSeq := by
  simp [propose, drawNat]

theorem propose_nextSeq (c : Carrier) (kind : Nat) (s : Device) :
    ((propose c kind s).rx.get c).nextSeq = wrap 8 ((s.rx.get c).nextSeq + 1) := by
  simp [propose, drawNat]

theorem propose_other (c : Carrier) (kind : Nat) (s : Device) : (propose c kind s).rx.get c.other = s.rx.get c.other := by
  simp [propose, drawNat]

theorem reads_txStatus (s : State) (r : Req) :
    Reads (.txStatus r) s fun p =>
      slice p 0 1 = le 1 (s.dev.tx.get r.car).state.code ∧ slice p 1 1 = le 1 (bit (s.dev.tx.get r.car).bringUp) ∧
      slice p 2 1 = le 1 (bit (s.dev.tx.get r.car).commanded) ∧ slice p 6 2 = le 2 (squelchId s.dev r.car) ∧
      slice p 12 4 = le 4 (if native s.dev r.car then (s.dev.tx.get r.car).xsf else 0) ∧
      slice p 16 2 = le 2 (s.dev.tx.get r.car).reversals := by
  refine reads_of_act rfl rfl ⟨?_, ?_, ?_, ?_, ?_, ?_⟩
  all_goals exact slice_fields (by simp [InOrder]) (by simp) (by simp)

theorem reads_rxStatus (s : State) (r : Req) :
    Reads (.rxStatus r) s fun p =>
      slice p 0 1 = le 1 (s.dev.rx.get r.car).state.code ∧ slice p 1 1 = le 1 (bit (s.dev.rx.get r.car).bringUp) ∧
      slice p 8 10 = timeBytes10 (s.dev.rx.get r.car).since ∧ slice p 18 2 = le 2 (s.dev.rx.get r.car).acqRetries ∧
      slice p 20 4 = le 4 (s.dev.rx.get r.car).xsfRx ∧ slice p 24 4 = le 4 (s.dev.rx.get r.car).slips ∧
      slice p 32 4 = le 4 (s.dev.rx.get r.car).cycleSlips ∧ slice p 36 2 = le 2 (s.dev.rx.get r.car).hintMiss ∧
      slice p 40 4 = leInt 4 (s.dev.rx.get r.car).delayCorr := by
  refine reads_of_act rfl rfl ⟨?_, ?_, ?_, ?_, ?_, ?_, ?_, ?_, ?_⟩
  all_goals exact slice_fields (by simp [InOrder]) (by simp) (by simp)

theorem reads_rxMonitor (s : State) (r : Req) :
    Reads (.rxMonitor r) s fun p =>
      slice p 0 2 = le 2 (s.dev.rx.get r.car).monitor.snrX ∧ slice p 2 2 = le 2 (s.dev.rx.get r.car).monitor.snrY ∧
      slice p 4 4 = leInt 4 (s.dev.rx.get r.car).cdEst ∧ slice p 12 4 = leInt 4 (s.dev.rx.get r.car).monitor.freqOff ∧
      slice p 28 8 = leInt 8 (s.dev.rx.get r.car).monitor.clkPhase := by
  refine reads_of_act rfl rfl ⟨?_, ?_, ?_, ?_, ?_⟩
  all_goals exact slice_fields (by simp [InOrder, List.range_succ]) (by simp) (by simp)

theorem does_rxReacquire (s : State) (r : Req) :
    Does (.rxReacquire r) s (.rx :: .evq :: .pendSet :: Part.ofFault) fun t =>
      RxFalls r.car .cdSearch 8 s.dev t := by
  refine answers_of_only rfl (by decide) rfl (only_of_kept fun ρ hρ => ?_) fun u only => ⟨rfl, ?_⟩
  · simp [Part.ofFault] at hρ
    simp [hρ]
  · exact ((rxFalls_fallToSearch r.car _ 8 (arrive 0x0234 r s.dev)).of_before (s := s.dev) rfl rfl rfl rfl rfl rfl rfl).congr
      (only .rx (by decide)) (only .evq (by decide))

theorem does_lineAgree (s : State) (r : Req) :
    Does (.lineAgree r) s [.rx, .pendSet, .fresh] fun t =>
      (t.rx.get r.car).agree = .proposed ∧ (t.rx.get r.car).ownRec.kind = 2 ∧ (t.rx.get r.car).ownRec.verb = 0 ∧
      (t.rx.get r.car).ownRec.seq = (s.dev.rx.get r.car).nextSeq ∧
      (t.rx.get r.car).nextSeq = wrap 8 ((s.dev.rx.get r.car).nextSeq + 1) ∧
      (t.rx.get r.car).state = (s.dev.rx.get r.car).state ∧ t.rx.get r.car.other = s.dev.rx.get r.car.other := by
  refine answers_of_only rfl (by decide) rfl (only_propose 2 _) fun u only => ⟨rfl, ?_⟩
  have rx : u.rx = (propose r.car 2 (arrive 0x0235 r s.dev)).rx := only .rx (by decide)
  obtain ⟨agree, kind, verb, -, -, state, -⟩ := propose_get (c := r.car) 2 (arrive 0x0235 r s.dev)
  dsimp only
  rw [rx]
  exact ⟨agree, kind, verb, propose_seq .., propose_nextSeq .., state, propose_other ..⟩

theorem reads_calRead (s : State) (r : Req) :
    Reads (.calRead r) s fun p =>
      slice p 0 1 = le 1 (rd r.params 0 1) ∧
      slice p 4 4 = le 4 (convOf s.dev r.car (4 * rd r.params 0 1 + rd r.params 1 1)).swaps ∧
      (rd r.params 0 1 = 0 → p.drop 32 =
        (List.range 72).flatMap fun n => sliceRecord (sliceAt s.dev r.car (rd r.params 1 1) n)) := by
  refine reads_of_act rfl rfl ⟨?_, ?_, fun dac => ?_⟩
  · exact (slice_append_left (by rw [fields_length (by simp [InOrder])]; decide)).trans
      (slice_fields (by simp [InOrder]) (by simp) (by simp))
  · exact (slice_append_left (by rw [fields_length (by simp [InOrder])]; decide)).trans
      (slice_fields (by simp [InOrder]) (by simp) (by simp))
  · refine (List.drop_append_of_le_length (Nat.le_of_eq (fields_length (by simp [InOrder])).symm)).trans ?_
    rw [List.drop_of_length_le (Nat.le_of_eq (fields_length (by simp [InOrder]))), List.nil_append, if_pos dac, dac, Nat.mul_zero,
      Nat.zero_add]
    rfl

theorem does_calSwap_slice (s : State) (r : Req) :
    rd r.params 0 1 = 0 → Does (.calSwap r) s [.conv] fun t =>
      (∃ e, (convOf t r.car (rd r.params 1 1)).pending = (convOf s.dev r.car (rd r.params 1 1)).pending ++ [e] ∧
        e.kind = .sliceSwap ∧ e.incoming = rd r.params 4 2 ∧ e.position = rd r.params 6 2) ∧
      (∀ k, k ≠ rd r.params 1 1 → convOf t r.car k = convOf s.dev r.car k) ∧
      t.conv.get r.car.other = s.dev.conv.get r.car.other := by
  intro dac
  refine answers_of_only (t := addChange r.car (rd r.params 1 1) (sliceSwap r (arrive 0x0242 r s.dev)) (arrive 0x0242 r s.dev))
    rfl (by decide) (congrArg (Prod.mk _) (if_pos dac)) (only_of_kept fun ρ hρ => by simp at hρ; simp [hρ])
    fun u only => ⟨rfl, ?_⟩
  have conv : u.conv = _ := only .conv (by decide)
  have moved (k : Nat) := convOf_addChange r.car (rd r.params 1 1) k (sliceSwap r (arrive 0x0242 r s.dev)) (arrive 0x0242 r s.dev)
  simp only [convOf_of_conv conv, moved, if_true]
  refine ⟨⟨_, rfl, rfl, rfl, rfl⟩, fun k ne => if_neg ne, ?_⟩
  rw [conv, addChange_other]
  rfl

theorem does_calSwap_cell (s : State) (r : Req) :
    rd r.params 0 1 ≠ 0 → Does (.calSwap r) s [.conv] fun t =>
      (∃ e, (convOf t r.car (4 + rd r.params 1 1)).pending = (convOf s.dev r.car (4 + rd r.params 1 1)).pending ++ [e] ∧
        e.kind = .cellSwap ∧ e.seg = rd r.params 2 1 ∧ e.incoming = rd r.params 4 2 ∧ e.position = rd r.params 6 2) ∧
      (∀ k, k ≠ 4 + rd r.params 1 1 → convOf t r.car k = convOf s.dev r.car k) ∧
      t.conv.get r.car.other = s.dev.conv.get r.car.other := by
  intro adc
  refine answers_of_only (t := addChange r.car (4 + rd r.params 1 1) (cellSwap r (arrive 0x0242 r s.dev)) (arrive 0x0242 r s.dev))
    rfl (by decide) (congrArg (Prod.mk _) (if_neg adc)) (only_of_kept fun ρ hρ => by simp at hρ; simp [hρ])
    fun u only => ⟨rfl, ?_⟩
  have conv : u.conv = _ := only .conv (by decide)
  have moved (k : Nat) := convOf_addChange r.car (4 + rd r.params 1 1) k (cellSwap r (arrive 0x0242 r s.dev)) (arrive 0x0242 r s.dev)
  simp only [convOf_of_conv conv, moved, if_true]
  refine ⟨⟨_, rfl, rfl, rfl, rfl, rfl⟩, fun k ne => if_neg ne, ?_⟩
  rw [conv, addChange_other]
  rfl

theorem reads_convPortStatus (s : State) (r : Req) :
    Reads (.convPortStatus r) s fun p =>
      slice p 0 1 = le 1 (portAt s.dev r.car 0).cond.code ∧ slice p 12 1 = le 1 (portAt s.dev r.car 1).cond.code ∧
      slice p 2 10 = timeBytes10 (portAt s.dev r.car 0).since := by
  have field (k o : Nat) (b : List Byte) (listed : (o, b) ∈ [(0, le 1 (portAt s.dev r.car k).cond.code),
      (2, timeBytes10 (portAt s.dev r.car k).since)]) : slice (portRecord s.dev r.car k) o b.length = b :=
    slice_fields (by simp [InOrder]) listed rfl
  refine reads_of_act rfl rfl ?_
  simp only [List.append_assoc]
  exact ⟨(slice_ports s.dev r.car (k := 0) (o := 0) rfl (by decide) (by decide) _).trans (field 0 0 (le 1 _) (by simp)),
    (slice_ports s.dev r.car (k := 1) (o := 0) rfl (by decide) (by decide) _).trans (field 1 0 (le 1 _) (by simp)),
    (slice_ports s.dev r.car (k := 0) (o := 2) rfl (by decide) (by decide) _).trans (field 0 2 (timeBytes10 _) (by simp))⟩

theorem defers_convSelftest (s : State) (r : Req) :
    Defers (.convSelftest r) s [.conv] fun t =>
      t.conv.get r.car = { s.dev.conv.get r.car with selftest := some ⟨0x0244, r⟩ } ∧
      t.conv.get r.car.other = s.dev.conv.get r.car.other := by
  refine defers_of_act rfl rfl (only_of_kept fun ρ hρ => by simp at hρ; simp [hρ]) fun u only => ?_
  have conv : u.conv = _ := only .conv (by decide)
  simp [conv]

theorem reads_fecStatus (s : State) (r : Req) (m : ModePlan) :
    modeOf s.dev r.car = some m → Reads (.fecStatus r) s fun p =>
      slice p 0 1 = le 1 m.fec ∧ slice p 1 1 = le 1 m.iters ∧ slice p 2 2 = le 2 m.group ∧ slice p 4 4 = le 4 m.coded ∧
      slice p 8 8 = le 8 m.fecLatency ∧ slice p 18 2 = le 2 m.slots ∧
      slice p 20 2 = le 2 (s.dev.fec.get r.car).slotsUsed := by
  intro mode
  refine reads_of_act rfl rfl ⟨?_, ?_, ?_, ?_, ?_, ?_, ?_⟩
  all_goals exact slice_fields (by simp [InOrder]) (by simp [mode]) (by simp)

theorem does_fecClear (s : State) (r : Req) :
    Does (.fecClear r) s [.fec] fun t =>
      t.fec.get r.car = { s.dev.fec.get r.car with clearWaits := true } ∧
      t.fec.get r.car.other = s.dev.fec.get r.car.other := by
  refine answers_of_only rfl (by decide) rfl (only_of_kept fun ρ hρ => by simp at hρ; simp [hρ]) fun u only => ⟨rfl, ?_⟩
  have fec : u.fec = _ := only .fec (by decide)
  simp [fec]

theorem does_fecInject (s : State) (r : Req) :
    Does (.fecInject r) s [.fec] fun t =>
      t.fec.get r.car = { s.dev.fec.get r.car with
        injectNext := some { on := decide (rd r.params 0 1 = 1), pattern := rd r.params 1 1, ratio := rd r.params 4 4
                             burst := rd r.params 8 4 } } ∧ t.fec.get r.car.other = s.dev.fec.get r.car.other := by
  refine answers_of_only rfl (by decide) rfl (only_of_kept fun ρ hρ => by simp at hρ; simp [hρ]) fun u only => ⟨rfl, ?_⟩
  have fec : u.fec = _ := only .fec (by decide)
  simp [fec]

end

/-- Settles O43: a status answers its fields at their places; each change moves one part of the commanded carrier. -/
theorem carrierCommands : Obligations.CarrierCommands := by
  unfold Obligations.CarrierCommands
  refine ⟨?_, ?_, ?_, ?_, ?_, ?_, ?_, ?_, ?_, ?_, ?_, ?_, ?_, ?_, ?_⟩
  · exact reads_txStatus
  · exact reads_rxStatus
  · exact reads_rxMonitor
  · exact does_rxReacquire
  · exact does_lineAgree
  · exact reads_calRead
  · exact does_calSwap_slice
  · exact does_calSwap_cell
  · exact reads_convPortStatus
  · exact defers_convSelftest
  · exact reads_fecStatus
  · intro s r
    refine reads_of_act rfl rfl ?_
    simp only [arrive_fec]
    exact ⟨slice_countBytes _ (i := 0) rfl rfl, slice_countBytes _ (i := 4) rfl rfl, slice_countBytes _ (i := 7) rfl rfl⟩
  · exact does_fecClear
  · intro s r
    refine reads_of_act rfl rfl ?_
    exact (slice_append_left (by simp)).trans (by simp [slice, List.take_of_length_le])
  · exact does_fecInject

end Sys2Proof.Machine


/-!
# The line and tributary commands: a counterexample

`PROT_STATUS` answers the time that wait-to-restore has left as at most 720 s (its field is `min 720`), and the statement
gives the field the time itself. It speaks of every state, so also of one whose timer stands at 721.
-/

namespace Sys2Proof.Machine

open Sys2Proof

/-- A ready device with scheme 0 in use and 721 s of its wait-to-restore left. -/
def waitsTooLong : Device :=
  { ({} : Device) with
    accord := { active := { plan := { fixed := [(skey 0x0505 0 0 1, 2)] } } }
    tribs := { schemes := [(0, { wtr := some 721 })] }
    boot := { stage := .ready, fwRuns := true } }

/-- PROT_STATUS of scheme 0. -/
def askScheme : Req := { params := [0, 0, 0, 0] }

theorem runs_askScheme : runs 0x0507 protStatusCmd askScheme waitsTooLong = true := by decide

theorem slice_protStatus_wtr :
    slice (protStatusCmd.act askScheme (arrive 0x0507 askScheme waitsTooLong)).1.params 6 2 = le 2 720 := by
  decide

/-- Refutes O44: PROT_STATUS answers 720 s for a wait-to-restore that has 721 s left. -/
theorem not_lineAndTributaryCommands : ¬ Obligations.LineAndTributaryCommands := by
  unfold Obligations.LineAndTributaryCommands
  rintro ⟨_, _, _, _, _, _, _, _, _, _, _, _, _, _, status⟩
  obtain ⟨_, _, _, wtr, _⟩ := Answers.of_runs
    (p := (protStatusCmd.act askScheme (arrive 0x0507 askScheme waitsTooLong)).1.params)
    (t := arrive 0x0507 askScheme waitsTooLong)
    (status ⟨waitsTooLong, []⟩ askScheme (by decide)) rfl runs_askScheme (by decide) rfl
  rw [slice_protStatus_wtr] at wtr
  exact absurd wtr (by decide)

end Sys2Proof.Machine


/-! # The commands of the line encryption and of the OSTC -/

namespace Sys2Proof.Machine

open Sys2Proof

section
variable {s : Device}

/-! ### CRYPTO_CONFIG -/

theorem Two.mod_eq_self {α : Type} {p : Two α} {c : Carrier} {f : α → α} (h : f (p.get c) = p.get c) : p.mod c f = p := by
  cases c <;> simp_all [Two.mod, Two.get, Two.set]

/-- Without an enable that is held there is none to end. -/
theorem cryptoConfig_act {r : Req} (now : enableDuringErase s r = false) (free : (s.crypto.get r.car).heldEnable = none) :
    cryptoConfigCmd.act r s = (Resp.okay, cryptoApply r s) := by
  have same : modCrypto r.car (fun q => { q with heldEnable := none }) s = s := by
    have crypto : (s.crypto.mod r.car fun q => { q with heldEnable := none }) = s.crypto :=
      Two.mod_eq_self (by rw [← free])
    change { s with crypto := _ } = s
    rw [crypto]
  have act : cryptoConfigCmd.act r s = (Resp.okay, cryptoApply r
      (match (s.crypto.get r.car).heldEnable with
        | some h => heldDone h .notPermitted (modCrypto r.car (fun q => { q with heldEnable := none }) s)
        | none => modCrypto r.car (fun q => { q with heldEnable := none }) s)) := if_neg (by simp [now])
  rw [act, free]
  exact congrArg (fun t => (Resp.okay, cryptoApply r t)) same

theorem cryptoConfig_held {r : Req} (erasing : enableDuringErase s r = true) :
    cryptoConfigCmd.act r s =
      (⟨.pending, []⟩, modCrypto r.car (fun q => { q with heldEnable := some ⟨0x0600, r⟩ }) s) := if_pos erasing

/-- The slots of a carrier are erased for a disable. -/
def disableErases (c : Carrier) (s : Device) : Device :=
  modCrypto c (fun q => { eraseSlots q with erasing := true, rxOn := false, rxSlot := none }) s

theorem cryptoApply_eq (r : Req) (s : Device) :
    cryptoApply r s = if cryptEnable s r.car && rd r.params 0 1 = 0 then
      disableErases r.car (acceptFields 0x0600 r.tgt r.params s) else acceptFields 0x0600 r.tgt r.params s := rfl

theorem crypto_acceptFields (op tgt : Nat) (p : List Byte) (s : Device) : (acceptFields op tgt p s).crypto = s.crypto :=
  (kept_acceptFields (ρ := .part .crypto) (s₀ := s) _ _ _ _ (by simp)).mpr (.refl _ s)

theorem does_cryptoConfig {s : State} {r : Req} (now : enableDuringErase s.dev r = false)
    (free : (s.dev.crypto.get r.car).heldEnable = none) (keeps : cryptEnable s.dev r.car = false ∨ rd r.params 0 1 ≠ 0) :
    Does (.cryptoConfig r) s [.settings, .pendSet] fun t =>
      Accepts 0x0600 r.tgt r.params s.dev t ∧ OthersKept 0x0600 r.tgt r.params s.dev t := by
  have stays : ¬ (cryptEnable (arrive 0x0600 r s.dev) r.car && decide (rd r.params 0 1 = 0)) = true := by
    have enable : cryptEnable (arrive 0x0600 r s.dev) r.car = cryptEnable s.dev r.car := rfl
    rw [enable, Bool.and_eq_true, decide_eq_true_eq]
    rintro ⟨on, zero⟩
    exact keeps.elim (fun off => by simp [off] at on) fun nonzero => nonzero zero
  have act : cryptoConfigCmd.act r (arrive 0x0600 r s.dev) =
      (Resp.okay, acceptFields 0x0600 r.tgt r.params (arrive 0x0600 r s.dev)) := by
    rw [cryptoConfig_act (s := arrive 0x0600 r s.dev) now free, cryptoApply_eq, if_neg stays]
  exact answers_of_only rfl (by decide) act (only_of_kept fun ρ hρ => by simp at hρ; simp [hρ])
    fun u only => ⟨rfl, AcceptsAll.of_act (by decide) (tgt_lt r) (sameSettings_refl _) only⟩

theorem does_cryptoConfig_disable {s : State} {r : Req} (free : (s.dev.crypto.get r.car).heldEnable = none)
    (on : cryptEnable s.dev r.car = true) (off : rd r.params 0 1 = 0) :
    Does (.cryptoConfig r) s [.settings, .pendSet, .crypto] fun t =>
      Accepts 0x0600 r.tgt r.params s.dev t ∧ (t.crypto.get r.car).tx = ⟨{}, {}⟩ ∧ (t.crypto.get r.car).rx = ⟨{}, {}⟩ ∧
      (t.crypto.get r.car).erasing = true ∧ t.crypto.get r.car.other = s.dev.crypto.get r.car.other := by
  have now : enableDuringErase (arrive 0x0600 r s.dev) r = false := by simp [enableDuringErase, off]
  have enable : cryptEnable (arrive 0x0600 r s.dev) r.car = true := on
  have act : cryptoConfigCmd.act r (arrive 0x0600 r s.dev) =
      (Resp.okay, disableErases r.car (acceptFields 0x0600 r.tgt r.params (arrive 0x0600 r s.dev))) := by
    rw [cryptoConfig_act (s := arrive 0x0600 r s.dev) now free, cryptoApply_eq, if_pos (by simp [enable, off])]
  refine answers_of_only rfl (by decide) act (only_of_kept fun ρ hρ => by simp at hρ; simp [hρ, disableErases])
    fun u only => ⟨rfl, ?_⟩
  obtain ⟨accepts, -⟩ := AcceptsAll.of_act (op := 0x0600) (r := r) (s := s.dev) (op' := 0x0600) (p := r.params) (by decide) (tgt_lt r)
    (.of_only (l := [.crypto]) (only_of_kept fun ρ hρ => by simp at hρ; simp [hρ, disableErases]) (by decide)) only
  have crypto : u.crypto = _ := only .crypto (by decide)
  rw [disableErases, modCrypto_crypto, crypto_acceptFields, arrive_crypto] at crypto
  refine ⟨accepts, ?_, ?_, ?_, ?_⟩ <;> rw [crypto] <;> simp [eraseSlots]

theorem defers_cryptoConfig {s : State} {r : Req} (erasing : enableDuringErase s.dev r = true) :
    Defers (.cryptoConfig r) s [.crypto] fun t =>
      t.crypto.get r.car = { s.dev.crypto.get r.car with heldEnable := some ⟨0x0600, r⟩ } ∧
      t.crypto.get r.car.other = s.dev.crypto.get r.car.other := by
  refine defers_of_act rfl (cryptoConfig_held erasing) (only_of_kept fun ρ hρ => by simp at hρ; simp [hρ]) fun u only => ?_
  have crypto : u.crypto = _ := only .crypto (by decide)
  simp [crypto]

/-! ### Keys -/

/-- What a command that runs answers and leaves, for a statement that gives more than one answer. -/
theorem yields_of_runs {i : Instr} {s : State} {op : Nat} {c : Cmd} {r : Req} {l : List Part} {st : Status} {p : List Byte}
    {t : Device} {q : Device → Prop} (hi : commandOf i = some (op, c, r)) (hr : runs op c r s.dev = true)
    (hst : st ≠ .pending) (act : c.act r (arrive op r s.dev) = (⟨st, p⟩, t)) (frame : Only l (arrive op r s.dev) t)
    (post : ∀ u, Only [.host] t u → Answered op r ⟨st, p⟩ u → OnlyAnd l r.mb.val s.dev u → q u) : Yields i s q := by
  obtain ⟨u, next, pend, p', answered, only, same, rest⟩ := answers_of_only (q := fun p' u => p' = p ∧ Only [.host] t u)
    hi hst act frame (fun u only => ⟨rfl, only⟩) op c r hi hr
  subst same
  exact ⟨u, next, pend, post u.dev rest answered only⟩

/-- A command that answers and changes nothing. -/
theorem yields_of_unchanged {i : Instr} {s : State} {op : Nat} {c : Cmd} {r : Req} {st : Status} {p : List Byte}
    {q : Device → Prop} (hi : commandOf i = some (op, c, r)) (hr : runs op c r s.dev = true)
    (hst : st ≠ .pending) (act : c.act r (arrive op r s.dev) = (⟨st, p⟩, arrive op r s.dev))
    (post : ∀ u, Answered op r ⟨st, p⟩ u → OnlyMailbox r.mb.val s.dev u → q u) : Yields i s q := by
  have hmb := runs_mb _ _ _ _ hr
  refine yields_act (exec_command _ s _ _ _ hi) ?_
  rw [mailboxRun_runs _ _ _ _ hr, act, if_neg hst]
  exact post _ (answered_answer _ _ _ _ hmb) (onlyMailbox_answer _ _ _ _ hmb)

theorem keyLoad_denied {unwrap : List Byte → List Byte → Option (List Byte)} {r : Req}
    (bad : unwrap (be 32 (s.boot.otp.kek.getD 0).toNat) (slice r.params 8 40) = none) :
    keyLoad unwrap r s = (⟨.denied, []⟩, s) := by
  unfold keyLoad
  rw [bad]

theorem yields_cryptoKeyLoad_denied {s : State} {r : Req} {q : Device → Prop} (hr : runs 0x0601 cryptoKeyLoadCmd r s.dev = true)
    (bad : kwUnwrap (be 32 (s.dev.boot.otp.kek.getD 0).toNat) (slice r.params 8 40) = none)
    (post : ∀ u, Answered 0x0601 r ⟨.denied, []⟩ u → OnlyMailbox r.mb.val s.dev u → q u) : Yields (.cryptoKeyLoad r) s q := by
  have bad' : kwUnwrap (be 32 ((arrive 0x0601 r s.dev).boot.otp.kek.getD 0).toNat) (slice r.params 8 40) = none := by
    rw [arrive_boot, bad]
  exact yields_of_unchanged rfl hr (by decide) ((congrFun (congrFun act_cryptoKeyLoadCmd r) _).trans (keyLoad_denied bad')) post

theorem slotAt_setSlot (p : Two KeySlot) (k : Nat) (v : KeySlot) : slotAt (setSlot p k fun _ => v) k = v := by
  unfold slotAt setSlot
  split <;> rfl

/-- The slot that a line key is loaded into. -/
def loadedSlot (r : Req) (key : List Byte) : KeySlot :=
  { state := .loaded, key := some (BitVec.ofNat 256 (fromBe key)), salt := rd r.params 4 4, age := 0 }

theorem keyLoad_line {unwrap : List Byte → List Byte → Option (List Byte)} {r : Req} {key : List Byte}
    (good : unwrap (be 32 (s.boot.otp.kek.getD 0).toNat) (slice r.params 8 40) = some key) (line : rd r.params 0 1 = 0) :
    keyLoad unwrap r s = (Resp.okay, modCrypto r.car (fun q =>
      if rd r.params 1 1 = 1 then { q with rx := setSlot q.rx (rd r.params 2 1) fun _ => loadedSlot r key }
      else { q with tx := setSlot q.tx (rd r.params 2 1) fun _ => loadedSlot r key }) s) := by
  unfold keyLoad
  rw [good]
  exact if_pos line

theorem keyLoad_context {unwrap : List Byte → List Byte → Option (List Byte)} {r : Req} {key : List Byte}
    (good : unwrap (be 32 (s.boot.otp.kek.getD 0).toNat) (slice r.params 8 40) = some key) (ctx : rd r.params 0 1 ≠ 0) :
    keyLoad unwrap r s = (Resp.okay, putKme { s.kme with
      ctxs := Tab.set (fun _ => {}) s.kme.ctxs (rd r.params 2 1)
        { key := some (BitVec.ofNat 256 (fromBe key)), sendCount := 1, lastAccepted := [] } } s) := by
  unfold keyLoad
  rw [good]
  exact if_neg ctx

theorem yields_cryptoKeyLoad {s : State} {r : Req} (hr : runs 0x0601 cryptoKeyLoadCmd r s.dev = true) :
    Yields (.cryptoKeyLoad r) s fun t =>
      (kwUnwrap (be 32 (s.dev.boot.otp.kek.getD 0).toNat) (slice r.params 8 40) = none →
        Answered 0x0601 r ⟨.denied, []⟩ t ∧ OnlyMailbox r.mb.val s.dev t) ∧
      (∀ key, kwUnwrap (be 32 (s.dev.boot.otp.kek.getD 0).toNat) (slice r.params 8 40) = some key →
        Answered 0x0601 r ⟨.ok, []⟩ t ∧
        (rd r.params 0 1 = 0 → rd r.params 1 1 = 0 →
          slotAt (t.crypto.get r.car).tx (rd r.params 2 1) =
            { state := .loaded, key := some (BitVec.ofNat 256 (fromBe key)), salt := rd r.params 4 4, age := 0 } ∧
          (t.crypto.get r.car).rx = (s.dev.crypto.get r.car).rx ∧
          t.crypto.get r.car.other = s.dev.crypto.get r.car.other ∧ OnlyAnd [.crypto] r.mb.val s.dev t) ∧
        (rd r.params 0 1 = 0 → rd r.params 1 1 = 1 →
          slotAt (t.crypto.get r.car).rx (rd r.params 2 1) =
            { state := .loaded, key := some (BitVec.ofNat 256 (fromBe key)), salt := rd r.params 4 4, age := 0 } ∧
          (t.crypto.get r.car).tx = (s.dev.crypto.get r.car).tx ∧
          t.crypto.get r.car.other = s.dev.crypto.get r.car.other ∧ OnlyAnd [.crypto] r.mb.val s.dev t) ∧
        (rd r.params 0 1 ≠ 0 →
          (Tab.get (fun _ => {}) t.kme.ctxs (rd r.params 2 1) : KmeCtx) =
            { key := some (BitVec.ofNat 256 (fromBe key)), sendCount := 1, lastAccepted := [] } ∧
          (∀ k, k ≠ rd r.params 2 1 →
            (Tab.get (fun _ => {}) t.kme.ctxs k : KmeCtx) = Tab.get (fun _ => {}) s.dev.kme.ctxs k) ∧
          OnlyAnd [.kme] r.mb.val s.dev t)) := by
  cases unwrapped : kwUnwrap (be 32 (s.dev.boot.otp.kek.getD 0).toNat) (slice r.params 8 40) with
  | none =>
    exact yields_cryptoKeyLoad_denied hr unwrapped fun u answered only => ⟨fun _ => ⟨answered, only⟩, fun key h => by cases h⟩
  | some key =>
    have good : kwUnwrap (be 32 ((arrive 0x0601 r s.dev).boot.otp.kek.getD 0).toNat) (slice r.params 8 40) = some key := by
      rw [arrive_boot, unwrapped]
    by_cases line : rd r.params 0 1 = 0
    · refine yields_of_runs rfl hr (by decide) ((congrFun (congrFun act_cryptoKeyLoadCmd r) _).trans (keyLoad_line good line))
        (l := [.crypto]) (only_of_kept fun ρ hρ => by simp at hρ; simp [hρ]) fun u host answered only => ⟨nofun, ?_⟩
      rintro key' ⟨⟩
      have crypto : u.crypto = _ := host .crypto (by decide)
      rw [modCrypto_crypto, arrive_crypto] at crypto
      refine ⟨answered, fun _ tx => ?_, fun _ rx => ?_, fun ctx => absurd line ctx⟩
      · simp [crypto, tx, slotAt_setSlot, loadedSlot, only]
      · simp [crypto, rx, slotAt_setSlot, loadedSlot, only]
    · refine yields_of_runs rfl hr (by decide) ((congrFun (congrFun act_cryptoKeyLoadCmd r) _).trans (keyLoad_context good line))
        (l := [.kme]) (only_of_kept fun ρ hρ => by simp at hρ; simp [hρ]) fun u host answered only => ⟨nofun, ?_⟩
      rintro key' ⟨⟩
      have kme : u.kme = _ := host .kme (by decide)
      rw [putKme_kme, arrive_kme] at kme
      refine ⟨answered, fun h => absurd h line, fun h => absurd h line, fun _ => ⟨?_, fun k ne => ?_, only⟩⟩
      · rw [kme, Tab.get_set_self]
      · rw [kme, Tab.get_set, if_neg ne]

theorem keysErased_eraseKeys_trig (t : Time) (f : Nat → CapSlot → Bool) (s : Device) :
    KeysErased (pinLevel (localTrig 1 t f (eraseKeys s))) := by
  refine (keysErased_eraseKeys s).of_same ?_ ?_ ?_ <;> simp

/-- CRYPTO_ZEROIZE raises the fault that erases every key. -/
theorem keysErased_zeroize (s : Device) : KeysErased (fault 0x0608 0 [] s) := by
  have src : isSource 0x0608 0 = true := by decide
  unfold fault
  rw [faultGroup_one _ _ _ src]
  unfold faultOne
  rw [if_neg (by simp [src])]
  have alarm : isAlarm 0x0608 = true := by decide
  have latches : decide (0x0608 ∈ [0x0601, 0x0602, 0x0603, 0x0607]) = false := by decide
  simp only [alarm, latches, FaultIn.inert, Bool.false_and, Bool.not_false, Bool.true_or, Bool.true_and, if_true,
    Bool.false_eq_true, if_false]
  exact keysErased_eraseKeys_trig _ _ _

/-! ### Messages -/

theorem queueOn_ostc (c : Carrier) (nso : Bool) (m : Msg) (s : Device) :
    (queueOn c nso m s).ostc.get c = (if nso then { s.ostc.get c with nsoq := (s.ostc.get c).nsoq ++ [m] }
      else { s.ostc.get c with txq := (s.ostc.get c).txq ++ [m] }) ∧
    (queueOn c nso m s).ostc.get c.other = s.ostc.get c.other := by
  simp [queueOn]

theorem does_ostcSend_burst {s : State} {r : Req} (path : sendsOstc s.dev r = true) : Does (.ostcSend r) s [.ostc] fun t =>
      t.ostc.get r.car = { s.dev.ostc.get r.car with
        txq := (s.dev.ostc.get r.car).txq ++ [{ type := 0, dest := rd r.params 1 1, payload := r.params.drop 4 }] } ∧
      t.ostc.get r.car.other = s.dev.ostc.get r.car.other := by
  have path' : sendsOstc (arrive 0x0701 r s.dev) r = true := path
  refine answers_of_only rfl (by decide) rfl (only_of_kept fun ρ hρ => by simp at hρ; simp [hρ]) fun u only => ⟨rfl, ?_⟩
  have ostc : u.ostc = _ := only .ostc (by decide)
  obtain ⟨own, other⟩ := queueOn_ostc r.car (!sendsOstc (arrive 0x0701 r s.dev) r)
    { type := 0, dest := rd r.params 1 1, payload := r.params.drop 4 } (arrive 0x0701 r s.dev)
  dsimp only at ostc ⊢
  rw [ostc]
  exact ⟨own.trans (by simp [path']), other⟩

theorem does_ostcSend_overhead {s : State} {r : Req} (path : sendsOstc s.dev r = false) : Does (.ostcSend r) s [.ostc] fun t =>
      t.ostc.get r.car = { s.dev.ostc.get r.car with
        nsoq := (s.dev.ostc.get r.car).nsoq ++ [{ type := 0, dest := rd r.params 1 1, payload := r.params.drop 4 }] } ∧
      t.ostc.get r.car.other = s.dev.ostc.get r.car.other := by
  have path' : sendsOstc (arrive 0x0701 r s.dev) r = false := path
  refine answers_of_only rfl (by decide) rfl (only_of_kept fun ρ hρ => by simp at hρ; simp [hρ]) fun u only => ⟨rfl, ?_⟩
  have ostc : u.ostc = _ := only .ostc (by decide)
  obtain ⟨own, other⟩ := queueOn_ostc r.car (!sendsOstc (arrive 0x0701 r s.dev) r)
    { type := 0, dest := rd r.params 1 1, payload := r.params.drop 4 } (arrive 0x0701 r s.dev)
  dsimp only at ostc ⊢
  rw [ostc]
  exact ⟨own.trans (by simp [path']), other⟩

theorem ostcRecv_empty {r : Req} (none : (s.ostc.get r.car).rxq = []) : ostcRecvCmd.act r s = (⟨.ok, zeros 32⟩, s) := by
  simp only [ostcRecvCmd, none]

/-- The answer that holds a received message. -/
def recvBytes (x : RxMsg) : List Byte :=
  le 1 1 ++ le 1 x.path ++ le 2 x.toneSnr ++ msgHeader x.msg ++ timeBytes x.mark ++ x.msg.payload

theorem ostcRecv_oldest {r : Req} {x : RxMsg} {rest : List RxMsg} (queue : (s.ostc.get r.car).rxq = x :: rest) :
    ostcRecvCmd.act r s = (⟨.ok, recvBytes x⟩, modOstc r.car (fun q => { q with rxq := rest }) s) := by
  simp only [ostcRecvCmd, queue]
  rfl

theorem recvBytes_fields (x : RxMsg) :
    slice (recvBytes x) 0 1 = [1] ∧ slice (recvBytes x) 1 1 = le 1 x.path ∧ slice (recvBytes x) 2 2 = le 2 x.toneSnr ∧
    slice (recvBytes x) 4 1 = le 1 x.msg.type ∧ (recvBytes x).drop 32 = x.msg.payload := by
  simp [recvBytes, msgHeader, timeBytes, le, be, slice]

/-- The status of a channel's OSTC as its fields in order. -/
theorem ostcStatus_fields (q : OstcSt) (tail : List Byte) :
    let p := le 1 q.rx.code ++ le 1 (bit q.burst.isSome) ++ le 1 (q.txq.length + q.nsoq.length) ++ le 1 q.rxq.length ++
      leInt 2 q.floor ++ le 2 q.toneSnr ++ le 4 q.triggers ++ le 4 q.qualFail ++ le 4 q.falseStart ++ le 4 q.syncMiss ++
      le 4 q.rxOk ++ le 4 q.ldpcFail ++ le 4 q.crcFail ++ le 4 q.authDrop ++ le 4 q.rxqDrop ++ le 4 q.fragLoss ++
      le 4 q.txBursts ++ tail
    slice p 0 1 = le 1 q.rx.code ∧ slice p 1 1 = le 1 (bit q.burst.isSome) ∧ slice p 3 1 = le 1 q.rxq.length ∧
    slice p 8 4 = le 4 q.triggers ∧ slice p 24 4 = le 4 q.rxOk ∧ slice p 48 4 = le 4 q.txBursts := by
  simp [le, leInt, slice]

end

/-- Settles O45: each command's act in each of its cases, with what it leaves of the carrier's keys and messages. -/
theorem cryptoAndOstcCommands : Obligations.CryptoAndOstcCommands := by
  unfold Obligations.CryptoAndOstcCommands
  refine ⟨?_, ?_, ?_, ?_, ?_, ?_, ?_, ?_, ?_, ?_, ?_, ?_, ?_, ?_⟩
  · exact fun s r now free keeps => does_cryptoConfig now free keeps
  · exact fun s r free on off => does_cryptoConfig_disable free on off
  · exact fun s r erasing => defers_cryptoConfig erasing
  · exact fun s r hr => yields_cryptoKeyLoad hr
  · intro s r
    refine answers_of_only rfl (by decide) rfl (only_of_kept fun ρ hρ => by simp at hρ; simp [hρ]) fun u only => ⟨rfl, ?_⟩
    have crypto : u.crypto = _ := only .crypto (by decide)
    simp [crypto]
  · intro s r
    refine reads_of_act rfl rfl ⟨?_, ?_, ?_, ?_, ?_, ?_, ?_, ?_⟩
    all_goals exact slice_fields (by simp [InOrder]) (by simp) (by simp)
  · intro s r
    refine answers_of_only rfl (by decide) rfl (only_of_kept fun ρ hρ => ?_) fun u only => ⟨rfl, ?_, fun c => ?_⟩
    · simp [Part.ofFault] at hρ
      simp [hρ]
    · have raised : Faulted 0x0608 0 s.dev (fault 0x0608 0 [] (arrive 0x0604 r s.dev)) :=
        (faulted_fault [] (arrive 0x0604 r s.dev) (by decide)).of_before rfl rfl
      exact raised.of_source (source_of_sources (sources_of_kept (only .fault (by decide))) _ _)
    · obtain ⟨txA, rxA, txB, rxB, ctxs, -⟩ := keysErased_zeroize (arrive 0x0604 r s.dev)
      have crypto : u.crypto = _ := only .crypto (by decide)
      have kme : u.kme = _ := only .kme (by decide)
      rw [crypto, kme]
      cases c
      · exact ⟨txA, rxA, ctxs⟩
      · exact ⟨txB, rxB, ctxs⟩
  · intro s r
    refine answers_of_only rfl (by decide) rfl (only_of_kept fun ρ hρ => by simp at hρ; simp [hρ]) fun u only => ⟨rfl, ?_⟩
    have kme : u.kme = _ := only .kme (by decide)
    simp [kme]
  · exact fun s r path => does_ostcSend_burst path
  · exact fun s r path => does_ostcSend_overhead path
  · exact fun s r empty => answers_of_only rfl (by decide) (ostcRecv_empty (s := arrive 0x0702 r s.dev) empty) (.refl _ _)
      fun _ _ => rfl
  · intro s r x rest queue
    refine answers_of_only rfl (by decide) (ostcRecv_oldest (s := arrive 0x0702 r s.dev) queue)
      (only_of_kept fun ρ hρ => by simp at hρ; simp [hρ]) fun u only => ?_
    obtain ⟨one, path, snr, type, payload⟩ := recvBytes_fields x
    have ostc : u.ostc = _ := only .ostc (by decide)
    refine ⟨one, path, snr, type, payload, ?_, ?_⟩ <;> simp [ostc]
  · intro s r
    exact reads_of_act rfl rfl (ostcStatus_fields (s.dev.ostc.get r.car) _)
  · intro s r
    refine answers_of_only rfl (by decide) rfl (only_of_kept fun ρ hρ => by simp at hρ; simp [hρ]) fun u only => ⟨rfl, ?_⟩
    have ostc : u.ostc = _ := only .ostc (by decide)
    simp [ostc]

end Sys2Proof.Machine


/-! # The commands of timing, time transfer and sensing -/

namespace Sys2Proof.Machine

open Sys2Proof

section
variable {s : Device}

/-! ### Answers that stand one field after another -/

theorem slice_skip {a b : List Byte} {o k : Nat} (h : a.length ≤ o) : slice (a ++ b) o k = slice b (o - a.length) k := by
  simp [slice, List.drop_append, List.drop_eq_nil_of_le h]

@[simp] theorem zeros_length (n : Nat) : (zeros n).length = n := by simp [zeros]

@[simp] theorem timeBytes_length (t : Time) : (timeBytes t).length = 12 := by simp [timeBytes]

theorem slice_head {a b : List Byte} {k : Nat} (h : a.length = k) : slice (a ++ b) 0 k = a := by
  simp [slice, ← h]

/-! ### Timing -/

/-- A command whose rule changes the timing state alone. -/
theorem does_modTiming {i : Instr} {s : State} {op : Nat} {c : Cmd} {r : Req} {f : TimingSt → TimingSt}
    (hi : commandOf i = some (op, c, r)) (act : c.act r (arrive op r s.dev) = (Resp.okay, modTiming f (arrive op r s.dev))) :
    Does i s [.timing] fun t => t.timing = f s.dev.timing :=
  answers_of_only hi (by decide) act (only_of_kept fun ρ hρ => by simp at hρ; simp [hρ]) fun _ only =>
    ⟨rfl, only .timing (by decide)⟩

theorem does_sillageSave {s : State} (r : Req) (mounted : s.dev.boot.nand.present = true) :
    Does (.sillageSave r) s [.boot, .clock] fun t =>
      t.boot.nand.snaps.length = min 16 (s.dev.boot.nand.snaps.length + 1) ∧
      (∀ x, t.boot.nand.snaps.head? = some x → x.recs = s.dev.timing.sillage ∧ x.model = s.dev.timing.model) ∧
      t.clock.snapAge = some 0 := by
  have saved := saveSillage_ok (s := arrive 0x0803 r s.dev) mounted
  refine answers_of_only rfl (by decide) (congrArg (Prod.mk Resp.okay) saved)
    (only_of_kept fun ρ hρ => by simp at hρ; simp [hρ, snapSaved]) fun u only => ⟨rfl, ?_⟩
  have boot : u.boot = _ := only .boot (by decide)
  have clock : u.clock = _ := only .clock (by decide)
  simp [boot, clock, snapSaved, snapOf, Nat.add_min_add_right 15 _ 1]

theorem does_sillageSave_failed {s : State} (r : Req) (absent : s.dev.boot.nand.present = false) :
    Does (.sillageSave r) s Part.ofFault fun t => Faulted 0x0805 0 s.dev t := by
  have failed : saveSillage true (arrive 0x0803 r s.dev) = fault 0x0805 0 [] (arrive 0x0803 r s.dev) :=
    if_pos (by rw [arrive_boot, absent]; rfl)
  refine answers_of_only rfl (by decide) (congrArg (Prod.mk Resp.okay) failed) (only_of_kept fun ρ hρ => ?_)
    fun u only => ⟨rfl, ?_⟩
  · simp [Part.ofFault] at hρ
    simp [hρ]
  · have raised : Faulted 0x0805 0 s.dev (fault 0x0805 0 [] (arrive 0x0803 r s.dev)) :=
      (faulted_fault [] (arrive 0x0803 r s.dev) (by decide)).of_before rfl rfl
    exact raised.of_source (source_of_sources (sources_of_kept (only .fault (by decide))) _ _)

theorem does_sillageReset (s : State) (r : Req) : Does (.sillageReset r) s [.timing, .boot] fun t =>
      t.timing = { s.dev.timing with sillage := [], model := {}, heldSnap := none } ∧
      t.boot = { s.dev.boot with nand := { s.dev.boot.nand with snaps := [] } } :=
  answers_of_only rfl (by decide) rfl (only_of_kept fun ρ hρ => by simp at hρ; simp [hρ]) fun _ only =>
    ⟨rfl, only .timing (by decide), only .boot (by decide)⟩

@[simp] theorem qlOut_arrive (op : Nat) (r : Req) (s : Device) : qlOut (arrive op r s) = qlOut s := rfl

theorem reads_timingStatus (s : State) (r : Req) : Reads (.timingStatus r) s fun p =>
      slice p 0 1 = le 1 s.dev.timing.dpll.code ∧ slice p 1 1 = le 1 (s.dev.timing.selected.getD 0xFF) ∧
      slice p 4 1 = le 1 (qlOut s.dev) ∧ slice p 8 12 = timeBytes s.dev.timing.now ∧
      slice p 20 8 = leInt 8 s.dev.timing.phaseErr ∧ slice p 28 4 = leInt 4 s.dev.timing.freqOff := by
  refine reads_of_act rfl rfl ⟨?_, ?_, ?_, ?_, ?_, ?_⟩
  all_goals simp [slice_skip, slice_head]

@[simp] theorem candKind_arrive (op : Nat) (r : Req) (s : Device) (i : Nat) : candKind (arrive op r s) i = candKind s i := rfl

theorem reads_timingRefStatus (s : State) (r : Req) : Reads (.timingRefStatus r) s fun p =>
      slice p 0 1 = le 1 (cand s.dev 0).state.code ∧ slice p 1 1 = le 1 (candKind s.dev 0) ∧
      slice p 24 1 = le 1 (cand s.dev 1).state.code := by
  refine reads_of_act rfl rfl ⟨?_, ?_, ?_⟩
  all_goals simp [candList, List.range_succ, slice_skip, slice_head, cand]

theorem reads_sillageRead (s : State) (r : Req) : Reads (.sillageRead r) s fun p =>
      slice p 0 2 = le 2 ((s.dev.timing.sillage.drop (rd r.params 0 4)).take (rd r.params 4 2)).length ∧
      slice p 2 1 = le 1 (bit (historyValid s.dev)) ∧
      p.drop 32 = ((s.dev.timing.sillage.drop (rd r.params 0 4)).take (rd r.params 4 2)).flatMap sillageBytes := by
  refine reads_of_act rfl rfl ⟨?_, ?_, ?_⟩
  · simp [slice_head]
  · simp [slice_skip, slice_head, historyValid]
  · exact List.drop_left' (by simp)

/-! ### Time transfer -/

theorem reads_ttxStatus (s : State) (r : Req) : Reads (.ttxStatus r) s fun p =>
      slice p 0 1 = le 1 (s.dev.ttx.get r.car).path ∧ slice p 4 8 = leInt 8 (s.dev.ttx.get r.car).theta ∧
      slice p 12 8 = leInt 8 (s.dev.ttx.get r.car).thetaRaw ∧ slice p 32 8 = le 8 (s.dev.ttx.get r.car).meanDelay := by
  refine reads_of_act rfl rfl ⟨?_, ?_, ?_, ?_⟩
  all_goals simp [slice_skip, slice_head]

theorem reads_ttxDelayRead (s : State) (r : Req) : Reads (.ttxDelayRead r) s fun p =>
      slice p 0 8 = leInt 8 (((modeOf s.dev r.car).map fun x => x.dTx).getD 0) ∧
      slice p 16 8 = leInt 8 (((modeOf s.dev r.car).map fun x => x.dRx).getD 0) ∧
      slice p 40 4 = leInt 4 (s.dev.rx.get r.car).delayCorr := by
  refine reads_of_act rfl rfl ⟨?_, ?_, ?_⟩
  all_goals simp [slice_skip, slice_head]

/-! ### Sensing -/

@[simp] theorem senseDef_arrive (op : Nat) (r : Req) (s : Device) (ch : Nat) : senseDef (arrive op r s) ch = senseDef s ch := rfl

theorem reads_senseInfo (s : State) (r : Req) : Reads (.senseInfo r) s fun p =>
      slice p 0 1 = le 1 (rd r.params 0 1) ∧ slice p 1 1 = le 1 (senseDef s.dev (rd r.params 0 1)).code ∧
      slice p 4 2 = le 2 (senseDef s.dev (rd r.params 0 1)).m ∧
      slice p 12 4 = le 4 (senseDef s.dev (rd r.params 0 1)).rateMax ∧
      p.drop 48 = (senseDef s.dev (rd r.params 0 1)).coefs.flatMap (leInt 2 ·) := by
  refine reads_of_act rfl rfl ⟨?_, ?_, ?_, ?_, ?_⟩
  case refine_5 => exact List.drop_left' (fields_length (by simp [InOrder]))
  all_goals
    rw [slice_append_left (by rw [fields_length (by simp [InOrder])]; decide)]
    exact slice_fields (by simp [InOrder]) (by simp) (by simp)

theorem reads_senseStatus (s : State) (r : Req) : Reads (.senseStatus r) s fun p =>
      slice p 0 4 = le 4 (sense s.dev (rd r.params 0 1)).inSat ∧
      slice p 28 4 = le 4 (sense s.dev (rd r.params 0 1)).delivered ∧
      slice p 32 4 = le 4 (sense s.dev (rd r.params 0 1)).drop ∧
      slice p 36 4 = le 4 (sense s.dev (rd r.params 0 1)).unsettled ∧
      slice p 46 2 = le 2 (sense s.dev (rd r.params 0 1)).peak ∧ slice p 48 2 = le 2 (sense s.dev (rd r.params 0 1)).rms := by
  refine reads_of_act rfl rfl ⟨?_, ?_, ?_, ?_, ?_, ?_⟩
  all_goals exact slice_fields (by simp [InOrder, List.range_succ]) (by simp) (by simp)

/-- A channel with a ring is read there: SENSE_READ answers an empty record (R580, log 75). -/
theorem reads_senseRead_ring (s : State) (r : Req) (ring : ¬ senseRing s.dev (rd r.params 0 1) = none) :
    Reads (.senseRead r) s fun p => p = fit 128 (le 1 (rd r.params 0 1)) := by
  have act : senseReadCmd.act r (arrive 0x0A03 r s.dev) = (⟨.ok, fit 128 (le 1 (rd r.params 0 1))⟩, arrive 0x0A03 r s.dev) := by
    simp [senseReadCmd, ring]
  exact answers_of_only rfl (by decide) act (.refl _ _) fun _ _ => rfl

theorem does_senseClear (s : State) (r : Req) (one : rd r.params 0 1 ≠ 0xFF) : Does (.senseClear r) s [.sense] fun t =>
      sense t (rd r.params 0 1) = { sense s.dev (rd r.params 0 1) with clearWaits := true } ∧
      ∀ j, j ≠ rd r.params 0 1 → sense t j = sense s.dev j := by
  have act : senseClearCmd.act r (arrive 0x0A04 r s.dev) =
      (Resp.okay, modSense (rd r.params 0 1) (fun q => { q with clearWaits := true }) (arrive 0x0A04 r s.dev)) := by
    simp [senseClearCmd, does, one, each]
  refine answers_of_only rfl (by decide) act (only_of_kept fun ρ hρ => by simp at hρ; simp [hρ]) fun u only => ⟨rfl, ?_⟩
  have same (j : Nat) : sense u j = sense (modSense (rd r.params 0 1) (fun q => { q with clearWaits := true })
    (arrive 0x0A04 r s.dev)) j := congrArg (fun tab => Tab.get (fun _ => ({} : SenseSt)) tab j) (only .sense (by decide))
  refine ⟨?_, fun j ne => ?_⟩
  · rw [same, sense_modSense_self, sense_arrive]
  · rw [same, sense_modSense_other ne, sense_arrive]

end

/-- Settles O46: each command's act, with the fields of its answer or what it leaves of timing, the archive and sensing. -/
theorem timingAndSensingCommands : Obligations.TimingAndSensingCommands := by
  unfold Obligations.TimingAndSensingCommands
  refine ⟨?_, ?_, ?_, ?_, ?_, ?_, ?_, ?_, ?_, ?_, ?_, ?_, ?_, ?_, ?_, ?_, ?_, ?_⟩
  · exact fun s r => does_modTiming (f := fun t => { t with forced := none, hoForced := false }) rfl rfl
  · exact fun s r => does_modTiming (f := fun t => { t with forced := some (rd r.params 1 1) }) rfl rfl
  · exact fun s r => does_modTiming (f := fun t => { t with hoForced := true }) rfl rfl
  · exact fun s r => does_modTiming (f := fun t => { t with clearWtr := rd r.params 1 1 :: t.clearWtr }) rfl rfl
  · exact fun s r mounted => does_sillageSave r mounted
  · exact fun s r absent => does_sillageSave_failed r absent
  · exact does_sillageReset
  · exact fun s r => does_modTiming (f := fun t => { t with oscTemp := some (rdInt r.params 4 4), oscTempAt := t.now }) rfl rfl
  · exact reads_timingStatus
  · exact reads_timingRefStatus
  · exact reads_sillageRead
  · exact reads_ttxStatus
  · exact reads_ttxDelayRead
  · exact fun s r => does_modTiming (f := fun t => { t with timeSet := some (rd r.params 0 6, 0) }) rfl rfl
  · exact reads_senseInfo
  · exact reads_senseStatus
  · exact reads_senseRead_ring
  · exact does_senseClear

end Sys2Proof.Machine


/-! # The commands of the buffer memory, the latency equaliser and the Blotter -/

namespace Sys2Proof.Machine

open Sys2Proof

section
variable {s : Device}

/-- A command that, from the state it finds, accepts its fields and then changes other parts. -/
theorem does_accepts {i : Instr} {s : State} {op tgt : Nat} {c : Cmd} {r : Req} {l : List Part}
    {f : Device → Device} {q : Device → Prop} (hi : commandOf i = some (op, c, r)) (known : op ∈ settingOps)
    (htgt : tgt < 65536) (act : c.act r (arrive op r s.dev) = (Resp.okay, f (acceptFields op tgt r.params (arrive op r s.dev))))
    (effect : ∀ s, Only l s (f s)) (hl : .settings ∉ l ∧ .pendSet ∉ l ∧ .accord ∉ l)
    (post : ∀ u, Only [.host] (f (acceptFields op tgt r.params (arrive op r s.dev))) u → q u) :
    Does i s (.settings :: .pendSet :: l) fun t => Accepts op tgt r.params s.dev t ∧ q t := by
  have fields : Only (.settings :: .pendSet :: l) (arrive op r s.dev) (acceptFields op tgt r.params (arrive op r s.dev)) :=
    only_of_kept fun ρ hρ => by simp at hρ; simp [hρ]
  refine answers_of_only hi (by decide) act
    (fields.trans ((effect _).mono fun p hp => List.mem_cons_of_mem _ (List.mem_cons_of_mem _ hp))) fun u only => ⟨rfl, ?_⟩
  obtain ⟨accepts, -⟩ := AcceptsAll.of_act known htgt (.of_only (effect _) hl) only
  exact ⟨accepts, post u only⟩

theorem mem_acceptFields (op tgt : Nat) (p : List Byte) (s : Device) : (acceptFields op tgt p s).mem = s.mem :=
  (kept_acceptFields (ρ := .part .mem) (s₀ := s) _ _ _ _ (by simp)).mpr (.refl _ s)

/-! ### Pools and scrub -/

/-- A command whose rule changes the buffer memory alone. -/
theorem does_modMem {i : Instr} {s : State} {op : Nat} {c : Cmd} {r : Req} {f : MemSt → MemSt}
    (hi : commandOf i = some (op, c, r)) (act : c.act r (arrive op r s.dev) = (Resp.okay, modMem f (arrive op r s.dev))) :
    Does i s [.mem] fun t => t.mem = f s.dev.mem :=
  answers_of_only hi (by decide) act (only_of_kept fun ρ hρ => by simp at hρ; simp [hρ]) fun _ only =>
    ⟨rfl, only .mem (by decide)⟩

@[simp] theorem poolSize_arrive (op : Nat) (r : Req) (s : Device) (k : Nat) : poolSize (arrive op r s) k = poolSize s k := rfl

@[simp] theorem capBuffers_arrive (op : Nat) (r : Req) (s : Device) : capBuffers (arrive op r s) = capBuffers s := rfl

theorem answers_memStatus (s : State) (r : Req) : Answers (.memStatus r) s [.fresh] .ok fun p _ =>
      slice p 0 4 = le 4 (poolSize s.dev 0) ∧ slice p 4 4 = le 4 (poolSize s.dev 1) ∧
      slice p 8 4 = le 4 (poolSize s.dev 2) ∧ slice p 12 4 = le 4 (poolSize s.dev 3) ∧
      slice p 28 4 = le 4 (mib (capBuffers s.dev)) := by
  refine answers_of_only rfl (by decide) rfl (only_of_kept fun ρ hρ => by simp at hρ; simp [hρ]) fun u only => ?_
  refine ⟨?_, ?_, ?_, ?_, ?_⟩
  all_goals simp [slice_skip, slice_head]

theorem memScrubConfig_act {r : Req} (now : rd r.params 0 1 ≠ 1 ∨ s.mem.scrubOff = false) (free : s.mem.scrubHeld = none) :
    memScrubConfigCmd.act r s = (Resp.okay, scrubSet r s) := by
  have runs_ : ¬ (decide (rd r.params 0 1 = 1) && s.mem.scrubOff) = true := by
    rw [Bool.and_eq_true, decide_eq_true_eq]
    rintro ⟨on, off⟩
    exact now.elim (fun ne => ne on) fun no => by simp [no] at off
  refine (if_neg runs_).trans ?_
  rw [free]

/-- Scrub set by its command, the fields accepted (R594). -/
def scrubSwitch (r : Req) (s : Device) : Device :=
  if rd r.params 0 1 = 1 then modMem (fun m => { m with scrubOn := true }) s
  else if s.mem.scrubBusy then modMem (fun m => { m with scrubOff := true }) s
  else modMem (fun m => { m with scrubOn := false, scrubStart := none, scrubNext := 0, scrubLate := false }) s

theorem scrubSet_eq (r : Req) (s : Device) : scrubSet r s = scrubSwitch r (acceptFields 0x0B02 r.tgt r.params s) := by
  simp [scrubSet, scrubSwitch]

theorem only_scrubSwitch (r : Req) (s : Device) : Only [.mem] s (scrubSwitch r s) := by
  unfold scrubSwitch
  (repeat' split) <;> exact only_of_kept fun ρ hρ => by simp at hρ; simp [hρ]

/-- MEM_SCRUB_CONFIG that is not held accepts its fields and then switches scrub. -/
theorem does_memScrubConfig {s : State} {r : Req} {m : MemSt} (now : rd r.params 0 1 ≠ 1 ∨ s.dev.mem.scrubOff = false)
    (free : s.dev.mem.scrubHeld = none) (effect : ∀ t, t.mem = s.dev.mem → (scrubSwitch r t).mem = m) :
    Does (.memScrubConfig r) s [.settings, .pendSet, .mem] fun t =>
      Accepts 0x0B02 r.tgt r.params s.dev t ∧ t.mem = m := by
  refine does_accepts (l := [.mem]) rfl (by decide) (tgt_lt r) (f := scrubSwitch r)
    ((memScrubConfig_act (s := arrive 0x0B02 r s.dev) now free).trans (by rw [scrubSet_eq])) (only_scrubSwitch r) (by decide)
    fun u only => ?_
  exact (only .mem (by decide)).trans (effect _ ((mem_acceptFields _ _ _ _).trans rfl))

theorem defers_memScrubConfig {s : State} {r : Req} (on : rd r.params 0 1 = 1) (off : s.dev.mem.scrubOff = true) :
    Defers (.memScrubConfig r) s [.mem] fun t => t.mem = { s.dev.mem with scrubHeld := some ⟨0x0B02, r⟩ } := by
  have act : memScrubConfigCmd.act r (arrive 0x0B02 r s.dev) =
      (⟨.pending, []⟩, modMem (fun m => { m with scrubHeld := some ⟨0x0B02, r⟩ }) (arrive 0x0B02 r s.dev)) :=
    if_pos (by simp [on, off])
  exact defers_of_act rfl act (only_of_kept fun ρ hρ => by simp at hρ; simp [hρ]) fun u only => only .mem (by decide)

@[simp] theorem tower_arrive (op : Nat) (r : Req) (s : Device) (k : Nat) : tower (arrive op r s) k = tower s k := rfl

theorem reads_memRepairStatus (s : State) (r : Req) : Reads (.memRepairStatus r) s fun p =>
      slice p 0 2 = le 2 (poorest (tower s.dev 0)) ∧ slice p 2 2 = le 2 (tower s.dev 0).rows ∧
      slice p 4 4 = le 4 (tower s.dev 0).pages ∧ slice p 8 4 = le 4 (tower s.dev 0).ce ∧
      slice p 12 4 = le 4 (tower s.dev 0).ue ∧ slice p 24 4 = le 4 (tower s.dev 1).ce := by
  refine reads_of_act rfl rfl ⟨?_, ?_, ?_, ?_, ?_, ?_⟩
  all_goals simp [slice_skip, slice_head]

/-! ### The latency equaliser -/

theorem queue_acceptFields (op tgt : Nat) (p : List Byte) (s : Device) (j : Nat) :
    queue (acceptFields op tgt p s) j = queue s j := queue_of_mem (mem_acceptFields op tgt p s) j

@[simp] theorem queue_arrive (op : Nat) (r : Req) (s : Device) (j : Nat) : queue (arrive op r s) j = queue s j := rfl

/-- The state a queue takes when LEQ_QUEUE_CONFIG runs (R610). -/
def queueSwitch (r : Req) (x : QueueSt) : QueueSt :=
  { x with state := if rd r.params 2 1 = 1 then .enabled else match x.state with | .enabled => .draining | st => st }

theorem leqQueueConfig_act {r : Req} (now : (s.mem.reconfig.isSome && enablesQueue s r) = false)
    (free : rd r.params 2 1 = 1 ∨ (queue s (rd r.params 0 2)).held = none) :
    leqQueueConfigCmd.act r s =
      (Resp.okay, modQueue (rd r.params 0 2) (queueSwitch r) (acceptFields 0x0B08 r.tgt r.params s)) := by
  refine (if_neg (by simp [now])).trans ?_
  by_cases on : rd r.params 2 1 = 1
  · rw [if_pos on]
    rfl
  · rw [if_neg on, free.resolve_left on]
    rfl

theorem does_leqQueueConfig {s : State} {r : Req} {v : QueueSt} (now : (s.dev.mem.reconfig.isSome && enablesQueue s.dev r) = false)
    (free : rd r.params 2 1 = 1 ∨ (queue s.dev (rd r.params 0 2)).held = none)
    (switched : queueSwitch r (queue s.dev (rd r.params 0 2)) = v) :
    Does (.leqQueueConfig r) s [.settings, .pendSet, .mem] fun t =>
      Accepts 0x0B08 r.tgt r.params s.dev t ∧ queue t (rd r.params 0 2) = v ∧
      ∀ j, j ≠ rd r.params 0 2 → queue t j = queue s.dev j := by
  refine does_accepts (l := [.mem]) rfl (by decide) (tgt_lt r) (f := modQueue (rd r.params 0 2) (queueSwitch r))
    (leqQueueConfig_act (s := arrive 0x0B08 r s.dev) now free)
    (fun t => only_of_kept fun ρ hρ => by simp at hρ; simp [hρ]) (by decide) fun u only => ?_
  have same (j : Nat) := queue_of_mem (only .mem (by decide)) j
  refine ⟨?_, fun j ne => ?_⟩
  · rw [same, queue_modQueue, if_pos rfl, queue_acceptFields, queue_arrive, switched]
  · rw [same, queue_modQueue, if_neg ne, queue_acceptFields, queue_arrive]

theorem defers_leqQueueConfig {s : State} {r : Req} (busy : s.dev.mem.reconfig ≠ none) (enables : enablesQueue s.dev r = true) :
    Defers (.leqQueueConfig r) s [.mem] fun t =>
      queue t (rd r.params 0 2) = { queue s.dev (rd r.params 0 2) with held := some ⟨0x0B08, r⟩ } ∧
      ∀ j, j ≠ rd r.params 0 2 → queue t j = queue s.dev j := by
  have waits : (s.dev.mem.reconfig.isSome && enablesQueue s.dev r) = true := by
    rw [enables, Option.isSome_iff_ne_none.mpr busy]
    rfl
  have act : leqQueueConfigCmd.act r (arrive 0x0B08 r s.dev) = (⟨.pending, []⟩,
      modQueue (rd r.params 0 2) (fun x => { x with held := some ⟨0x0B08, r⟩ }) (arrive 0x0B08 r s.dev)) := if_pos waits
  refine defers_of_act rfl act (only_of_kept fun ρ hρ => by simp at hρ; simp [hρ]) fun u only => ?_
  have same (j : Nat) := queue_of_mem (only .mem (by decide)) j
  refine ⟨?_, fun j ne => ?_⟩
  · rw [same, queue_modQueue, if_pos rfl, queue_arrive]
  · rw [same, queue_modQueue, if_neg ne, queue_arrive]

theorem slice_cons_succ (b : Byte) (l : List Byte) (o k : Nat) : slice (b :: l) (o + 1) k = slice l o k := rfl

theorem slice_whole {a : List Byte} {k : Nat} (h : a.length = k) : slice a 0 k = a := by simp [slice, ← h]

theorem reads_leqQueueStatus (s : State) (r : Req) : Reads (.leqQueueStatus r) s fun p =>
      slice p 0 2 = le 2 (rd r.params 0 2) ∧ slice p 4 4 = le 4 (queue s.dev (rd r.params 0 2)).frames.length ∧
      slice p 20 4 = le 4 (queue s.dev (rd r.params 0 2)).released ∧
      slice p 28 4 = le 4 (queue s.dev (rd r.params 0 2)).dropLate ∧
      slice p 36 4 = le 4 (queue s.dev (rd r.params 0 2)).dropFull ∧
      slice p 52 4 = le 4 (queue s.dev (rd r.params 0 2)).portDown := by
  refine reads_of_act rfl rfl ⟨?_, ?_, ?_, ?_, ?_, ?_⟩
  all_goals simp [slice_skip, slice_head, slice_cons_succ, slice_whole]

/-! ### The Blotter -/

@[simp] theorem cap_arrive (op : Nat) (r : Req) (s : Device) (j : Nat) : cap (arrive op r s) j = cap s j := rfl

theorem cap_changed {u : Device} {i : Nat} {f : CapSlot → CapSlot} {op : Nat} {r : Req}
    (only : Only [.host] (modCap i f (arrive op r s)) u) : cap u i = f (cap s i) ∧ ∀ j, j ≠ i → cap u j = cap s j := by
  have same (j : Nat) := cap_of_mem (only .mem (by decide)) j
  refine ⟨?_, fun j ne => ?_⟩
  · rw [same, cap_modCap, if_pos rfl, cap_arrive]
  · rw [same, cap_modCap, if_neg ne, cap_arrive]

/-- A command whose rule changes one capture slot alone. -/
theorem does_modCap {i : Instr} {s : State} {op k : Nat} {c : Cmd} {r : Req} {f : CapSlot → CapSlot} {q : CapSlot → Prop}
    (hi : commandOf i = some (op, c, r)) (act : c.act r (arrive op r s.dev) = (Resp.okay, modCap k f (arrive op r s.dev)))
    (post : q (f (cap s.dev k))) :
    Does i s [.mem] fun t => q (cap t k) ∧ ∀ j, j ≠ k → cap t j = cap s.dev j := by
  refine answers_of_only hi (by decide) act (only_of_kept fun ρ hρ => by simp at hρ; simp [hρ]) fun u only => ⟨rfl, ?_⟩
  obtain ⟨own, other⟩ := cap_changed only
  exact ⟨own ▸ post, other⟩

theorem blotterArm_act {r : Req} (idle : s.mem.reconfig = none) : blotterArmCmd.act r s =
    (Resp.okay, modCap (rd r.params 0 1) (fun c =>
        { state := .armed, source := rd r.params 1 1, target := rd r.params 2 1, trigMask := BitVec.ofNat 6 (rd r.params 3 1),
          decim := rd r.params 4 4, preBytes := rd r.params 8 8, postBytes := rd r.params 16 8, faultId := rd r.params 24 2,
          senseCh := rd r.params 26 1, trigEdge := rd r.params 27 1, senseMask := rd r.params 28 8, rate := armRate s r.params,
          armedAt := s.timing.now, trigIgnored := c.trigIgnored }) s) := if_neg (by simp [idle])

theorem does_blotterArm {s : State} {r : Req} (idle : s.dev.mem.reconfig = none) : Does (.blotterArm r) s [.mem] fun t =>
      (cap t (rd r.params 0 1)).state = .armed ∧ (cap t (rd r.params 0 1)).source = rd r.params 1 1 ∧
      (cap t (rd r.params 0 1)).target = rd r.params 2 1 ∧ (cap t (rd r.params 0 1)).preBytes = rd r.params 8 8 ∧
      (cap t (rd r.params 0 1)).postBytes = rd r.params 16 8 ∧ (cap t (rd r.params 0 1)).trig = none ∧
      (cap t (rd r.params 0 1)).armedAt = s.dev.timing.now ∧
      ∀ j, j ≠ rd r.params 0 1 → cap t j = cap s.dev j := by
  refine answers_of_only rfl (by decide) (blotterArm_act (s := arrive 0x0B0A r s.dev) idle)
    (only_of_kept fun ρ hρ => by simp at hρ; simp [hρ]) fun u only => ⟨rfl, ?_⟩
  obtain ⟨own, other⟩ := cap_changed only
  rw [own]
  exact ⟨rfl, rfl, rfl, rfl, rfl, rfl, rfl, other⟩

theorem defers_blotterArm {s : State} {r : Req} (busy : s.dev.mem.reconfig ≠ none) : Defers (.blotterArm r) s [.mem] fun t =>
      cap t (rd r.params 0 1) = { cap s.dev (rd r.params 0 1) with held := some ⟨0x0B0A, r⟩ } ∧
      ∀ j, j ≠ rd r.params 0 1 → cap t j = cap s.dev j := by
  have act : blotterArmCmd.act r (arrive 0x0B0A r s.dev) = (⟨.pending, []⟩,
      modCap (rd r.params 0 1) (fun c => { c with held := some ⟨0x0B0A, r⟩ }) (arrive 0x0B0A r s.dev)) :=
    if_pos (Option.isSome_iff_ne_none.mpr busy)
  exact defers_of_act rfl act (only_of_kept fun ρ hρ => by simp at hρ; simp [hρ]) fun u only => cap_changed only

/-- A pass over the four slots that acts on one of them. -/
theorem each_one_slot {k : Nat} (hk : k < 4) (g : Nat → Device → Device) (s : Device) :
    each [0, 1, 2, 3] (fun i s => if i = k then g i s else s) s = g k s := by
  obtain rfl | rfl | rfl | rfl : k = 0 ∨ k = 1 ∨ k = 2 ∨ k = 3 := by omega
  all_goals rfl

/-- A local trigger of one slot that does not ask for the stack-wide one marks that slot alone (R618). -/
theorem localTrig_one {k : Nat} (hk : k < 4) {f : Nat → CapSlot → Bool} (t : Time) (armed : (cap s k).state = .armed)
    (free : (cap s k).trig = none) (admits : (cap s k).trigMask.getLsbD 0 = true) (own : (cap s k).trigMask.getLsbD 5 = false)
    (takes : ∀ i c, f i c = decide (i = k)) :
    localTrig 0 t f s = modCap k (fun c => { c with trig := some (0, t, t) }) s := by
  obtain rfl : f = fun i _ => decide (i = k) := funext fun i => funext (takes i)
  have sends : (([0, 1, 2, 3].filter fun i => decide (i = k) && (cap s i).trigMask.getLsbD 0 && (cap s i).state = .armed &&
      (cap s i).trig.isNone).any fun i => (cap s i).trigMask.getLsbD 5) = false := by
    rw [List.any_eq_false]
    intro i taken
    obtain ⟨-, chosen⟩ := List.mem_filter.mp taken
    simp only [Bool.and_eq_true, decide_eq_true_eq] at chosen
    obtain ⟨⟨⟨rfl, -⟩, -⟩, -⟩ := chosen
    exact Bool.eq_false_iff.mp own
  unfold localTrig
  simp only [sends, Bool.false_and, Bool.false_eq_true, if_false, decide_eq_true_eq]
  rw [each_one_slot hk (fun i s => trigSlot 0 i t t s), trigSlot_armed admits armed free (by decide)]

theorem does_blotterTrigger {s : State} {r : Req} (slot : rd r.params 0 1 < 4)
    (armed : (cap s.dev (rd r.params 0 1)).state = .armed) (free : (cap s.dev (rd r.params 0 1)).trig = none)
    (admits : (cap s.dev (rd r.params 0 1)).trigMask.getLsbD 0 = true)
    (own : (cap s.dev (rd r.params 0 1)).trigMask.getLsbD 5 = false) : Does (.blotterTrigger r) s [.mem, .stack] fun t =>
      (cap t (rd r.params 0 1)).trig = some (0, s.dev.timing.now, s.dev.timing.now) ∧
      ∀ j, j ≠ rd r.params 0 1 → cap t j = cap s.dev j := by
  have act : blotterTriggerCmd.act r (arrive 0x0B0B r s.dev) = (Resp.okay,
      modCap (rd r.params 0 1) (fun c => { c with trig := some (0, s.dev.timing.now, s.dev.timing.now) }) (arrive 0x0B0B r s.dev)) :=
    congrArg (Prod.mk Resp.okay) (localTrig_one (s := arrive 0x0B0B r s.dev) slot _ armed free admits own fun i c => by
      have : rd r.params 0 1 ≠ 0xFF := by omega
      simp [this, eq_comm])
  refine answers_of_only rfl (by decide) act (only_of_kept fun ρ hρ => by simp at hρ; simp [hρ]) fun u only => ⟨rfl, ?_⟩
  obtain ⟨marked, other⟩ := cap_changed only
  exact ⟨by rw [marked], other⟩

theorem reads_blotterStatus (s : State) (r : Req) : Reads (.blotterStatus r) s fun p =>
      slice p 0 1 = le 1 (CapState.num (cap s.dev 0).state) ∧ slice p 1 1 = le 1 (cap s.dev 0).source ∧
      slice p 3 1 = le 1 (cap s.dev 0).flags.toNat ∧ slice p 12 4 = le 4 (cap s.dev 0).trigIgnored ∧
      slice p 16 1 = le 1 (CapState.num (cap s.dev 1).state) := by
  refine reads_of_act rfl rfl ⟨?_, ?_, ?_, ?_, ?_⟩
  all_goals simp [slice_skip, slice_head]

theorem reads_blotterRead {s : State} {r : Req} (chunk : rd r.params 1 1 = 1) : Reads (.blotterRead r) s fun p =>
      p = slice (capBytes (rd r.params 0 1) (cap s.dev (rd r.params 0 1))) (rd r.params 8 8) (rd r.params 16 4) :=
  answers_of_only rfl (by decide) (if_pos chunk) (.refl _ _) fun _ _ => rfl

theorem does_blotterRead {s : State} {r : Req} (ringRead : rd r.params 1 1 ≠ 1)
    (inside : rd r.params 8 8 < 64 + (cap s.dev (rd r.params 0 1)).length) (some_ : 0 < rd r.params 16 4) :
    Does (.blotterRead r) s [.mem] fun t =>
      cap t (rd r.params 0 1) = { cap s.dev (rd r.params 0 1) with readout := some (rd r.params 2 1, rd r.params 8 8,
        min (rd r.params 8 8 + rd r.params 16 4) (64 + (cap s.dev (rd r.params 0 1)).length)) } ∧
      ∀ j, j ≠ rd r.params 0 1 → cap t j = cap s.dev j := by
  refine does_modCap (q := fun c => c = _) rfl (if_neg ringRead) ?_
  rw [cap_arrive, if_pos (Nat.lt_min.mpr ⟨Nat.lt_add_of_pos_right some_, inside⟩)]

theorem does_blotterFree {s : State} {r : Req} (free : (cap s.dev (rd r.params 0 1)).held = none) :
    Does (.blotterFree r) s [.mem] fun t =>
      cap t (rd r.params 0 1) = { ({} : CapSlot) with trigIgnored := (cap s.dev (rd r.params 0 1)).trigIgnored } ∧
      ∀ j, j ≠ rd r.params 0 1 → cap t j = cap s.dev j := by
  have act : blotterFreeCmd.act r (arrive 0x0B0F r s.dev) = (Resp.okay,
      modCap (rd r.params 0 1) (fun c => { ({} : CapSlot) with trigIgnored := c.trigIgnored }) (arrive 0x0B0F r s.dev)) := by
    simp [blotterFreeCmd, does, free]
  exact does_modCap (q := fun c => c = _) rfl act rfl

end

/-- Settles O48: each command's act, with the fields of its answer or the pool, queue or slot that it changes. -/
theorem memoryAndCaptureCommands : Obligations.MemoryAndCaptureCommands := by
  unfold Obligations.MemoryAndCaptureCommands
  refine ⟨?_, ?_, ?_, ?_, ?_, ?_, ?_, ?_, ?_, ?_, ?_, ?_, ?_, ?_, ?_, ?_, ?_, ?_, ?_, ?_⟩
  · intro s r
    exact does_modMem (f := fun m => { m with
      reconfig := some { sizes := [poolAsked r 0, poolAsked r 1, poolAsked r 2, poolAsked r 3] } }) rfl rfl
  · exact answers_memStatus
  · exact fun s r on go free => does_memScrubConfig (.inr go) free fun t same => by simp [scrubSwitch, on, same]
  · exact fun s r off busy free => does_memScrubConfig (.inl off) free fun t same => by simp [scrubSwitch, off, same, busy]
  · exact fun s r off idle free => does_memScrubConfig (.inl off) free fun t same => by simp [scrubSwitch, off, same, idle]
  · exact fun s r on off => defers_memScrubConfig on off
  · exact reads_memRepairStatus
  · exact fun s r => does_modMem (f := fun m => { m with clearWaits := true }) rfl rfl
  · exact fun s r idle on => does_leqQueueConfig (by simp [idle]) (.inl on) (by simp [queueSwitch, on])
  · exact fun s r off free enabled => does_leqQueueConfig (by simp [enablesQueue, off]) (.inr free)
      (by simp [queueSwitch, off, enabled])
  · exact fun s r busy enables => defers_leqQueueConfig busy enables
  · exact reads_leqQueueStatus
  · exact fun s r idle => does_blotterArm idle
  · exact fun s r busy => defers_blotterArm busy
  · exact fun s r slot armed free admits own => does_blotterTrigger slot armed free admits own
  · exact reads_blotterStatus
  · exact fun s r chunk => reads_blotterRead chunk
  · exact fun s r ringRead inside some_ => does_blotterRead ringRead inside some_
  · exact fun s r => does_modCap (q := fun c => c = _) rfl rfl rfl
  · exact fun s r free => does_blotterFree free

end Sys2Proof.Machine


/-! # The commands of the fault collector -/

namespace Sys2Proof.Machine

open Sys2Proof

section
variable {s : Device}

/-- The pins that follow the state change nothing of the collector but its pin. -/
theorem fault_of_only {t u : Device} (only : Only [.host] t u) : u.fault = { t.fault with pinLow := u.fault.pinLow } :=
  only .fault (by decide)

theorem source_of_hostOnly {t u : Device} (only : Only [.host] t u) (id inst : Nat) : source u id inst = source t id inst :=
  source_of_sources (sources_of_kept (only .fault (by decide))) id inst

theorem log_of_hostOnly {t u : Device} (only : Only [.host] t u) : u.fault.log = t.fault.log :=
  sameLog_of_kept (only .fault (by decide))

theorem armedAt_of_hostOnly {t u : Device} (only : Only [.host] t u) (id inst : Nat) : armedAt u id inst = armedAt t id inst := by
  rw [armedAt, fault_of_only only, armedAt]

@[simp] theorem safeState_arrive (op : Nat) (r : Req) (s : Device) : safeState (arrive op r s) = safeState s := rfl

@[simp] theorem source_arrive (op : Nat) (r : Req) (s : Device) (id inst : Nat) : source (arrive op r s) id inst = source s id inst :=
  rfl

/-! ### Status -/

theorem reads_faultStatus_source {s : State} {r : Req} (one : rd r.params 0 2 ≠ 0xFFFF) : Reads (.faultStatus r) s fun p =>
      slice p 0 2 = le 2 (rd r.params 0 2) ∧ slice p 2 1 = le 1 (rd r.params 2 1) ∧
      slice p 3 1 = [match (source s.dev (rd r.params 0 2) (rd r.params 2 1)).st with
        | .quiet => 0 | .active => 1 | .latched => 2] ∧
      slice p 8 4 = le 4 (source s.dev (rd r.params 0 2) (rd r.params 2 1)).events ∧
      slice p 12 2 = le 2 (source s.dev (rd r.params 0 2) (rd r.params 2 1)).recoveries ∧
      slice p 16 10 = timeBytes10 (source s.dev (rd r.params 0 2) (rd r.params 2 1)).lastEvent := by
  refine reads_of_act rfl rfl ?_
  rw [if_neg one]
  refine ⟨?_, ?_, ?_, ?_, ?_, ?_⟩
  case refine_3 =>
    refine (slice_fields (b := le 1 (match (source s.dev (rd r.params 0 2) (rd r.params 2 1)).st with
      | .quiet => 0 | .active => 1 | .latched => 2)) (by simp [InOrder]) (by simp <;> rfl) (by simp)).trans ?_
    cases (source s.dev (rd r.params 0 2) (rd r.params 2 1)).st <;> rfl
  all_goals exact slice_fields (by simp [InOrder]) (by simp) (by simp)

theorem reads_faultStatus_all {s : State} {r : Req} (all : rd r.params 0 2 = 0xFFFF) : Reads (.faultStatus r) s fun p =>
      slice p 8 4 = le 4 (countPhase s.dev (· = .active)) ∧ slice p 12 4 = le 4 (countPhase s.dev (· = .latched)) ∧
      slice p 16 1 = le 1 (bit (safeState s.dev)) ∧ slice p 20 4 = le 4 s.dev.fault.overwrite := by
  refine reads_of_act rfl rfl ?_
  rw [if_pos all]
  refine ⟨?_, ?_, ?_, ?_⟩
  all_goals exact slice_fields (by simp [InOrder]) (by simp [countPhase]) (by simp)

/-! ### FAULT_CLEAR -/

theorem log_toQuiet (id inst : Nat) (s : Device) : (toQuiet id inst s).fault.log = s.fault.log := by
  unfold toQuiet
  dsimp only
  split <;> rfl

theorem clearable_one {r : Req} (one : rd r.params 2 1 ≠ 0xFF)
    (latched : (source s (rd r.params 0 2) (rd r.params 2 1)).st = .latched)
    (still : SourceRaw (source s (rd r.params 0 2) (rd r.params 2 1)) = false) : clearable s r.params = [rd r.params 2 1] := by
  simp [clearable, namedInsts, one, latched, still]

theorem does_faultClearLatch {s : State} {r : Req} (one : rd r.params 2 1 ≠ 0xFF)
    (latched : (source s.dev (rd r.params 0 2) (rd r.params 2 1)).st = .latched)
    (still : SourceRaw (source s.dev (rd r.params 0 2) (rd r.params 2 1)) = false) :
    Does (.faultClearLatch r) s [.fault, .evq] fun t =>
      source t (rd r.params 0 2) (rd r.params 2 1) = { source s.dev (rd r.params 0 2) (rd r.params 2 1) with
        st := .quiet, quiet := none, held := 0, due := 0, lastChange := s.dev.timing.now } ∧
      t.fault.log = s.dev.fault.log := by
  have act : faultClearLatchCmd.act r (arrive 0x0F04 r s.dev) =
      (Resp.okay, toQuiet (rd r.params 0 2) (rd r.params 2 1) (arrive 0x0F04 r s.dev)) := by
    simp only [faultClearLatchCmd, does, clearable_one (s := arrive 0x0F04 r s.dev) one latched still]
    rfl
  refine answers_of_only rfl (by decide) act (only_of_kept fun ρ hρ => by simp at hρ; simp [hρ]) fun u only => ⟨rfl, ?_, ?_⟩
  · exact (source_of_hostOnly only _ _).trans (toQuiet_spec _ _ _).1
  · exact (log_of_hostOnly only).trans (log_toQuiet _ _ _)

theorem source_modSource_ne {id inst other : Nat} (ne : other ≠ inst) (f : SourceSt → SourceSt) (s : Device) :
    source (modSource id inst f s) id other = source s id other := by
  have keys : srcKey id other ≠ srcKey id inst := by unfold srcKey; omega
  simp [source, modSource, Tab.get_modify, keys]

/-- A change that is made twice as once, on each of the instances of a list. -/
theorem source_each_modSource {id : Nat} {f : SourceSt → SourceSt} (idem : ∀ q, f (f q) = f q) (l : List Nat) (i : Nat) (s : Device) :
    source (each l (fun i s => modSource id i f s) s) id i = if i ∈ l then f (source s id i) else source s id i := by
  induction l generalizing s with
  | nil => rfl
  | cons j l ih =>
    refine (ih (modSource id j f s)).trans ?_
    by_cases hj : i = j
    · subst hj
      rw [source_modSource, idem, if_pos List.mem_cons_self, ite_self]
    · simp [source_modSource_ne hj, hj]

/-- The counters of a source back at 0 (R771). -/
def zeroCounters (q : SourceSt) : SourceSt := { q with recoveries := 0, events := 0, recent := [] }

theorem log_each_modSource (id : Nat) (f : SourceSt → SourceSt) (l : List Nat) (s : Device) :
    (each l (fun i s => modSource id i f s) s).fault.log = s.fault.log := by
  induction l generalizing s with
  | nil => rfl
  | cons j l ih => exact ih (modSource id j f s)

theorem does_faultClearCounters (s : State) (r : Req) : Does (.faultClearCounters r) s [.fault] fun t =>
      (∀ i, i ∈ namedInsts r.params → source t (rd r.params 0 2) i = { source s.dev (rd r.params 0 2) i with
        recoveries := 0, events := 0, recent := [] }) ∧ t.fault.log = s.dev.fault.log := by
  refine answers_of_only rfl (by decide) rfl (only_of_kept fun ρ hρ => by simp at hρ; simp [hρ])
    fun u only => ⟨rfl, fun i named => ?_, ?_⟩
  · exact (source_of_hostOnly only _ _).trans ((source_each_modSource (f := zeroCounters) (fun _ => rfl) _ i _).trans (if_pos named))
  · exact (log_of_hostOnly only).trans (log_each_modSource _ zeroCounters _ _)

/-- A command whose rule changes the collector alone. -/
theorem does_modFault {i : Instr} {s : State} {op : Nat} {c : Cmd} {r : Req} {f : FaultSt → FaultSt} {q : Device → Prop}
    (hi : commandOf i = some (op, c, r)) (act : c.act r (arrive op r s.dev) = (Resp.okay, modFault f (arrive op r s.dev)))
    (post : ∀ u, u.fault = { f s.dev.fault with pinLow := u.fault.pinLow } → q u) : Does i s [.fault] q :=
  answers_of_only hi (by decide) act (only_of_kept fun ρ hρ => by simp at hρ; simp [hρ]) fun u only =>
    ⟨rfl, post u (fault_of_only only)⟩

/-! ### FAULT_INJECT -/

theorem armedAt_setArmed (id inst : Nat) (a : Option Injection) (s : Device) : armedAt (setArmed id inst a s) id inst = a := by
  simp [armedAt, setArmed]

theorem armedAt_raise (type src sev : Nat) (payload : List Byte) (s : Device) (id inst : Nat) :
    armedAt (raise type src sev payload s) id inst = armedAt s id inst := rfl

theorem does_faultInjectArm (s : State) (r : Req) : Does (.faultInjectArm r) s [.fault] fun t =>
      armedAt t (rd r.params 0 2) (rd r.params 2 1) = some
        { pattern := BitVec.ofNat 32 (rd r.params 4 4), left := rd r.params 8 1, react := decide (rd r.params 9 1 = 1)
          marked := 0 } ∧ t.fault.sources = s.dev.fault.sources := by
  refine answers_of_only rfl (by decide) rfl (only_of_kept fun ρ hρ => by simp at hρ; simp [hρ]) fun u only => ⟨rfl, ?_, ?_⟩
  · exact (armedAt_of_hostOnly only _ _).trans (armedAt_setArmed _ _ _ _)
  · have sources : u.fault.sources = (setArmed (rd r.params 0 2) (rd r.params 2 1) _ (arrive 0x0F05 r s.dev)).fault.sources :=
      sources_of_kept (only .fault (by decide))
    exact sources

theorem does_faultInjectDisarm {s : State} {r : Req} {a : Injection}
    (armed : armedAt s.dev (rd r.params 0 2) (rd r.params 2 1) = some a) :
    Does (.faultInjectDisarm r) s [.fault, .evq] fun t =>
      armedAt t (rd r.params 0 2) (rd r.params 2 1) = none ∧
      Raised 0x0F03 (rd r.params 0 2) 0 (le 1 (rd r.params 2 1) ++ le 1 a.marked) s.dev t := by
  have armed' : armedAt (arrive 0x0F05 r s.dev) (rd r.params 0 2) (rd r.params 2 1) = some a := armed
  have act : faultInjectDisarmCmd.act r (arrive 0x0F05 r s.dev) =
      (Resp.okay, injectEnd (rd r.params 0 2) (rd r.params 2 1) a (arrive 0x0F05 r s.dev)) := by
    simp only [faultInjectDisarmCmd, does, armed']
  refine answers_of_only rfl (by decide) act (only_of_kept fun ρ hρ => by simp at hρ; simp [hρ]) fun u only => ⟨rfl, ?_, ?_⟩
  · rw [armedAt_of_hostOnly only, injectEnd, armedAt_raise, armedAt_setArmed]
  · have raised := (raised_raise 0x0F03 (rd r.params 0 2) 0 (le 1 (rd r.params 2 1) ++ le 1 a.marked)
      (setArmed (rd r.params 0 2) (rd r.params 2 1) none (arrive 0x0F05 r s.dev))).of_before (s := s.dev)
      (by simp [setArmed]) (by simp [setArmed]) (by simp [setArmed])
    have evq : u.evq = (injectEnd (rd r.params 0 2) (rd r.params 2 1) a (arrive 0x0F05 r s.dev)).evq := only .evq (by decide)
    rw [Raised, evq]
    exact raised

/-! ### FAULT_PHASE -/

theorem does_faultPhase (s : State) (r : Req) : Does (.faultPhase r) s [.fault] fun t =>
      t.fault.test = decide (rd r.params 0 1 = 1) ∧ t.fault.recoveryS = rd r.params 2 2 ∧
      t.fault.log = s.dev.fault.log := by
  refine answers_of_only rfl (by decide) rfl (only_of_kept fun ρ hρ => by simp at hρ; simp [hρ]) fun u only => ⟨rfl, ?_⟩
  have fault := fault_of_only only
  dsimp only
  rw [fault]
  exact ⟨rfl, rfl, rfl⟩

end

/-- Settles O50: each command's act, with the fields of its answer or what it leaves of the collector. -/
theorem faultCommands : Obligations.FaultCommands := by
  unfold Obligations.FaultCommands
  refine ⟨?_, ?_, ?_, ?_, ?_, ?_, ?_, ?_, ?_, ?_, ?_, ?_⟩
  · exact fun s r => reads_of_act rfl rfl rfl
  · exact fun s r one => reads_faultStatus_source one
  · exact fun s r all => reads_faultStatus_all all
  · exact fun s r => reads_of_act rfl rfl rfl
  · exact fun s r one latched still => does_faultClearLatch one latched still
  · exact does_faultClearCounters
  · exact fun s r => does_modFault (f := fun f => { f with first := none }) rfl rfl fun _ fault => fault
  · exact fun s r => does_modFault (f := fun f => { f with log := [] }) rfl rfl fun _ fault => fault
  · exact does_faultInjectArm
  · exact fun s r a armed => does_faultInjectDisarm armed
  · exact does_faultPhase
  · exact fun s r => reads_of_act rfl rfl rfl

end Sys2Proof.Machine


/-! # The commands of the device, the rings, the fuses and the stores -/

namespace Sys2Proof.Machine

open Sys2Proof

section
variable {s : Device}

/-! ### Device, rings and fuses -/

theorem reads_deviceInfo (s : State) (r : Req) : Reads (.deviceInfo r) s fun p =>
      slice p 0 4 = le 4 s.dev.boot.fwVersion ∧ slice p 5 1 = le 1 (Stage.num s.dev.boot.stage) ∧
      slice p 7 1 = le 1 s.dev.stack.stackId ∧ slice p 16 1 = le 1 (s.dev.accord.active.slot.getD 0xFF) ∧
      slice p 17 1 = le 1 s.dev.accord.standby.code ∧ slice p 20 4 = le 4 s.dev.host.uptime ∧
      slice p 24 1 = le 1 s.dev.boot.otp.fused.toNat := by
  refine reads_of_act rfl rfl ⟨?_, ?_, ?_, ?_, ?_, ?_, ?_⟩
  all_goals exact slice_fields (by simp [InOrder, apply_ite List.length]) (by simp) (by simp)

@[simp] theorem ring_arrive (op : Nat) (r : Req) (s : Device) (k : Nat) : ring (arrive op r s) k = ring s k := rfl

/-- A command whose rule changes one ring alone. -/
theorem does_modRing {i : Instr} {s : State} {op k : Nat} {c : Cmd} {r : Req} {f : RingSt → RingSt} {v : RingSt}
    (hi : commandOf i = some (op, c, r)) (act : c.act r (arrive op r s.dev) = (Resp.okay, modRing k f (arrive op r s.dev)))
    (value : f (ring s.dev k) = v) :
    Does i s [.host] fun t => ring t k = v ∧ ∀ j, j ≠ k → ring t j = ring s.dev j := by
  refine answers_of_act hi (by decide) act (only_of_kept fun ρ hρ => by simp at hρ; simp [hρ]) fun hmb => ⟨rfl, ?_⟩
  have same (j : Nat) : ring (drivePins (answer op r Resp.okay (modRing k f (arrive op r s.dev)))) j =
      ring (modRing k f (arrive op r s.dev)) j := by
    rw [ring_drivePins, ring_of_host (answer_host_rings _ _ _ _ hmb)]
  refine ⟨?_, fun j ne => ?_⟩
  · rw [← value]
    exact (same k).trans (by rw [ring_modRing, if_pos rfl, ring_arrive])
  · exact (same j).trans (by rw [ring_modRing, if_neg ne, ring_arrive])

theorem does_ringConfig {s : State} {r : Req} (off : (ring s.dev (rd r.params 0 1)).enable = false) (on : rd r.params 2 1 = 1) :
    Does (.ringConfig r) s [.host] fun t =>
      ring t (rd r.params 0 1) = { ring s.dev (rd r.params 0 1) with
        kind := rd r.params 1 1, vector := rd r.params 3 1, entries := rd r.params 4 4, base := rd r.params 8 8,
        classMask := rd r.params 16 4, minSev := rd r.params 20 1, coalesce := rd r.params 22 2, enable := true,
        head := 0, tail := 0, loss := {}, msiWaits := false } ∧
      ∀ k, k ≠ rd r.params 0 1 → ring t k = ring s.dev k := by
  have idle : ¬ (ring (arrive 0x0001 r s.dev) (rd r.params 0 1)).enable = true := by rw [ring_arrive, off]; decide
  exact does_modRing rfl (congrArg (Prod.mk Resp.okay) (if_neg idle)) (by simp [on])

theorem does_ringConfig_enabled {s : State} {r : Req} (enabled : (ring s.dev (rd r.params 0 1)).enable = true) :
    Does (.ringConfig r) s [.host] fun t =>
      ring t (rd r.params 0 1) = { ring s.dev (rd r.params 0 1) with offWaits := true } ∧
      ∀ k, k ≠ rd r.params 0 1 → ring t k = ring s.dev k :=
  does_modRing rfl (congrArg (Prod.mk Resp.okay)
    (if_pos (show (ring (arrive 0x0001 r s.dev) (rd r.params 0 1)).enable = true from enabled))) rfl

/-- A command that is noted in the boot state and waits for its end. -/
theorem defers_modBoot {i : Instr} {s : State} {op : Nat} {c : Cmd} {r : Req} {f : BootSt → BootSt}
    (hi : commandOf i = some (op, c, r)) (act : c.act r (arrive op r s.dev) = (⟨.pending, []⟩, modBoot f (arrive op r s.dev))) :
    Defers i s [.boot] fun t => t.boot = f s.dev.boot :=
  defers_of_act hi act (only_modBoot f _) fun _ only => only .boot (by decide)

/-- A command whose rule changes the boot state alone. -/
theorem does_modBoot {i : Instr} {s : State} {op : Nat} {c : Cmd} {r : Req} {f : BootSt → BootSt} {q : Device → Prop}
    (hi : commandOf i = some (op, c, r)) (act : c.act r (arrive op r s.dev) = (Resp.okay, modBoot f (arrive op r s.dev)))
    (post : ∀ u : Device, u.boot = f s.dev.boot → q u) : Does i s [.boot] q :=
  answers_of_only hi (by decide) act (only_modBoot f _) fun u only => ⟨rfl, post u (only .boot (by decide))⟩

/-! ### The boot header -/

theorem reads_nvStatus (s : State) (r : Req) : Reads (.nvStatus r) s fun p =>
      slice p 4 1 = le 1 s.dev.boot.fwSlot ∧ slice p 5 1 = le 1 (s.dev.boot.slots.a.status.getD 0xFF) ∧
      slice p 7 1 = le 1 s.dev.boot.otp.fwCounter ∧ slice p 8 4 = le 4 s.dev.boot.slots.a.version ∧
      slice p 24 1 = le 1 (s.dev.boot.copy.getD 0xFF) := by
  refine reads_of_act rfl rfl ⟨?_, ?_, ?_, ?_, ?_⟩
  all_goals exact slice_fields (by simp [InOrder]) (by simp) (by simp)

/-- A byte beside the bytes put in place stays. -/
theorem getD_put_outside {l b : List Byte} {o k : Nat} (inside : o ≤ l.length) (apart : k < o ∨ o + b.length ≤ k) :
    (put l o b).getD k 0 = l.getD k 0 := by
  simp only [List.getD_eq_getElem?_getD, put]
  congr 1
  rcases apart with before | after
  · rw [List.append_assoc, List.getElem?_append_left (by simp; omega), List.getElem?_take_of_lt before]
  · rw [List.getElem?_append_right (by simp; omega), List.getElem?_drop]
    congr 1
    simp
    omega

theorem getD_put_single {l : List Byte} {o : Nat} (b : Byte) (inside : o ≤ l.length) : (put l o [b]).getD o 0 = b := by
  simp [put, List.getD_eq_getElem?_getD, Nat.min_eq_left inside]

theorem getD_fit {n k : Nat} (h : k < n) (l : List Byte) : (fit n l).getD k 0 = l.getD k 0 := by
  simp only [List.getD_eq_getElem?_getD, fit, List.getElem?_take_of_lt h]
  by_cases listed : k < l.length
  · rw [List.getElem?_append_left listed]
  · rw [List.getElem?_append_right (by omega), List.getElem?_eq_none (l := l) (by omega)]
    cases at_ : (zeros (n - l.length))[k - l.length]? with
    | none => rfl
    | some b => simpa [zeros] using (List.mem_replicate.mp (List.mem_of_getElem? at_)).2

theorem fromLe_le_wrap (k n : Nat) : fromLe (le k n) = n % 256 ^ k := by
  induction k generalizing n with
  | zero => simp [le, fromLe, Nat.mod_one]
  | succ k ih =>
    rw [Nat.pow_succ', Nat.mod_mul]
    simp [le, fromLe, ih]

/-- The header that an update of the stored one writes (R775): the given bytes, the next sequence number, the CRC. -/
def nextHeader (h : List Byte) (seq : Nat) : List Byte :=
  let h := put (fit 256 h) 6 (le 2 (seq + 1))
  put h 252 (le 4 (crc32c (h.take 252)).toNat)

theorem updateHdr_header (h : List Byte) (s : Device) : (updateHdr h s).boot.header = nextHeader h (bhSeq s.boot.header) := rfl

theorem updateHdr_slots (h : List Byte) (s : Device) : (updateHdr h s).boot.slots = s.boot.slots := rfl

theorem length_numbered (h : List Byte) (seq : Nat) : (put (fit 256 h) 6 (le 2 (seq + 1))).length = 256 := by
  rw [put_length (by simp [fit_length]), fit_length]

theorem length_nextHeader (h : List Byte) (seq : Nat) : (nextHeader h seq).length = 256 := by
  rw [nextHeader, put_length (by simp [length_numbered]), length_numbered]

theorem bhSeq_nextHeader (h : List Byte) (seq : Nat) : bhSeq (nextHeader h seq) = wrap 16 (seq + 1) := by
  have numbered : slice (put (fit 256 h) 6 (le 2 (seq + 1))) 6 2 = le 2 (seq + 1) :=
    slice_put_same (l := fit 256 h) (le 2 (seq + 1)) (by simp [fit_length])
  rw [bhSeq, rd, nextHeader, slice_put_outside (by simp [length_numbered]) (by simp), numbered, fromLe_le_wrap]
  rfl

theorem getD_nextHeader {k : Nat} (h : List Byte) (seq : Nat) (body : k < 252) (six : k ≠ 6) (seven : k ≠ 7) :
    (nextHeader h seq).getD k 0 = h.getD k 0 := by
  rw [nextHeader, getD_put_outside (by simp [length_numbered]) (.inl body),
    getD_put_outside (by simp [fit_length]) (by simp; omega), getD_fit (by omega)]

theorem does_updateHdr {i : Instr} {s : State} {op : Nat} {c : Cmd} {r : Req} {h : List Byte} {q : Device → Prop}
    (hi : commandOf i = some (op, c, r)) (act : c.act r (arrive op r s.dev) = (Resp.okay, updateHdr h (arrive op r s.dev)))
    (post : ∀ u : Device, u.boot.header = nextHeader h (bhSeq s.dev.boot.header) → u.boot.slots = s.dev.boot.slots → q u) :
    Does i s [.boot] q := by
  refine answers_of_only hi (by decide) act (only_of_kept fun ρ hρ => by simp at hρ; simp [hρ]) fun u only => ⟨rfl, ?_⟩
  have boot : u.boot = (updateHdr h (arrive op r s.dev)).boot := only .boot (by decide)
  exact post u (by rw [boot, updateHdr_header, arrive_boot]) (by rw [boot, updateHdr_slots, arrive_boot])

theorem does_nvHeaderWrite (s : State) (r : Req) : Does (.nvHeaderWrite r) s [.boot] fun t =>
      t.boot.header.length = 256 ∧ bhSeq t.boot.header = wrap 16 (bhSeq s.dev.boot.header + 1) ∧
      (∀ k, k < 252 → k ≠ 6 → k ≠ 7 → t.boot.header.getD k 0 = r.params.getD k 0) ∧ t.boot.slots = s.dev.boot.slots := by
  refine does_updateHdr rfl rfl fun u header slots => ?_
  rw [header]
  exact ⟨length_nextHeader _ _, bhSeq_nextHeader _ _, fun k => getD_nextHeader _ _, slots⟩

theorem does_nvFwCommit {s : State} {r : Req} (whole : s.dev.boot.header.length = 256) : Does (.nvFwCommit r) s [.boot] fun t =>
      t.boot.header.getD 15 0 = 0 ∧ bhSeq t.boot.header = wrap 16 (bhSeq s.dev.boot.header + 1) ∧
      t.boot.slots = s.dev.boot.slots := by
  refine does_updateHdr rfl rfl fun u header slots => ?_
  rw [header, getD_nextHeader _ _ (by decide) (by decide) (by decide)]
  exact ⟨getD_put_single 0 (by rw [arrive_boot, whole]; decide), bhSeq_nextHeader _ _, slots⟩

/-! ### Writes to the NOR flash -/

theorem norWrite_now {op : Nat} {r : Req} {a o : Nat} {m : List Host.Cell} {bs : List Byte}
    (target : norTarget op r s = (a, m, o, bs)) (idle : s.boot.norErase = []) (erased : needsErase m o bs = false) :
    norWrite op r s = (Resp.okay, norPut op (norProgram m o bs) s) := by
  unfold norWrite
  rw [target]
  exact if_pos (by simp [idle, erased])

/-- The sectors that a write waits for, and the write itself, join those that wait. -/
def norHolds (more : List Nat) (h : Held) (b : BootSt) : BootSt :=
  { b with norErase := b.norErase ++ more, norHeld := b.norHeld ++ [h] }

theorem norWrite_waits {op : Nat} {r : Req} {a o : Nat} {m : List Host.Cell} {bs : List Byte}
    (target : norTarget op r s = (a, m, o, bs)) (worn : needsErase m o bs = true) :
    ∃ more, norWrite op r s = (⟨.pending, []⟩, modBoot (norHolds more ⟨op, r⟩) s) := by
  unfold norWrite
  rw [target]
  exact ⟨_, if_neg (by simp [worn])⟩

theorem only_norPut (op : Nat) (m : List Host.Cell) (s : Device) : Only [.boot] s (norPut op m s) := by
  unfold norPut
  (repeat' split) <;> exact only_modBoot _ _

theorem slotBytes_of_boot {t u : Device} (h : u.boot = t.boot) (k : Nat) : slotBytes u k = slotBytes t k := by
  simp [slotBytes, h]

/-- A write to the firmware changes the idle slot's bytes alone. -/
theorem norPut_slot (m : List Host.Cell) (s : Device) : slotBytes (norPut 0x1003 m s) (idleSlot s) = m ∧
    (norPut 0x1003 m s).boot.script = s.boot.script ∧ (norPut 0x1003 m s).boot.header = s.boot.header := by
  unfold norPut
  rw [if_pos rfl]
  split
  case isTrue idle => exact ⟨if_pos idle, rfl, rfl⟩
  case isFalse idle => exact ⟨if_neg idle, rfl, rfl⟩

theorem does_nvFwWrite {s : State} {r : Req} (idle : s.dev.boot.norErase = [])
    (erased : needsErase (slotBytes s.dev (idleSlot s.dev)) (rd r.params 0 4) (slice r.params 8 (rd r.params 4 2)) = false) :
    Does (.nvFwWrite r) s [.boot] fun t =>
      slotBytes t (idleSlot s.dev) =
        norProgram (slotBytes s.dev (idleSlot s.dev)) (rd r.params 0 4) (slice r.params 8 (rd r.params 4 2)) ∧
      t.boot.script = s.dev.boot.script ∧ t.boot.header = s.dev.boot.header := by
  refine answers_of_only rfl (by decide) (norWrite_now (s := arrive 0x1003 r s.dev) rfl idle erased) (only_norPut _ _ _)
    fun u only => ⟨rfl, ?_⟩
  have boot : u.boot = (norPut 0x1003 _ (arrive 0x1003 r s.dev)).boot := only .boot (by decide)
  obtain ⟨bytes, script, header⟩ := norPut_slot (norProgram (slotBytes s.dev (idleSlot s.dev)) (rd r.params 0 4)
    (slice r.params 8 (rd r.params 4 2))) (arrive 0x1003 r s.dev)
  exact ⟨(slotBytes_of_boot boot _).trans bytes, (congrArg BootSt.script boot).trans script,
    (congrArg BootSt.header boot).trans header⟩

theorem defers_nvFwWrite {s : State} {r : Req}
    (worn : needsErase (slotBytes s.dev (idleSlot s.dev)) (rd r.params 0 4) (slice r.params 8 (rd r.params 4 2)) = true) :
    Defers (.nvFwWrite r) s [.boot] fun t =>
      t.boot.norHeld = s.dev.boot.norHeld ++ [⟨0x1003, r⟩] ∧ t.boot.slots = s.dev.boot.slots ∧
      t.boot.script = s.dev.boot.script := by
  obtain ⟨more, act⟩ := norWrite_waits (s := arrive 0x1003 r s.dev) (op := 0x1003) (r := r) rfl worn
  refine defers_of_act rfl act (only_modBoot _ _) fun u only => ?_
  have boot : u.boot = norHolds more ⟨0x1003, r⟩ s.dev.boot := only .boot (by decide)
  rw [boot]
  exact ⟨rfl, rfl, rfl⟩

theorem does_nvScriptWrite {s : State} {r : Req} (idle : s.dev.boot.norErase = [])
    (erased : needsErase s.dev.boot.script (rd r.params 0 4) (slice r.params 8 (rd r.params 4 2)) = false) :
    Does (.nvScriptWrite r) s [.boot] fun t => t.boot = { s.dev.boot with script :=
        (norProgram s.dev.boot.script (rd r.params 0 4) (slice r.params 8 (rd r.params 4 2))) } := by
  refine answers_of_only rfl (by decide) (norWrite_now (s := arrive 0x1007 r s.dev) rfl idle erased) (only_norPut _ _ _)
    fun u only => ⟨rfl, ?_⟩
  have boot : u.boot = (norPut 0x1007 _ (arrive 0x1007 r s.dev)).boot := only .boot (by decide)
  exact boot

/-! ### The archive -/

theorem reads_nandInfo (s : State) (r : Req) : Reads (.nandInfo r) s fun p =>
      slice p 0 1 = le 1 (bit s.dev.boot.nand.present) ∧ slice p 4 8 = le 8 s.dev.boot.nand.capacity ∧
      slice p 28 8 = le 8 s.dev.boot.nand.written ∧ slice p 36 4 = le 4 s.dev.boot.nand.grownBad := by
  refine reads_of_act rfl rfl ⟨?_, ?_, ?_, ?_⟩
  all_goals exact slice_fields (by simp [InOrder]) (by simp) (by simp)

theorem length_drawBytes (n : Nat) (s : Device) : (drawBytes n s).1.length = n := by simp [drawBytes]

theorem answers_archiveList (s : State) (r : Req) : Answers (.archiveList r) s [.fresh] .ok fun p _ => p.length ≤ 4032 := by
  refine answers_of_only rfl (by decide) rfl (only_of_kept fun ρ hρ => by simp at hρ; simp [hρ]) fun u only => ?_
  rw [length_drawBytes]
  exact Nat.le_of_lt_succ (Nat.mod_lt _ (by decide))

/-- The two commands that move entries of the archive (R824). -/
theorem archiveTransfer_cases {i : Instr} {op : Nat} {c : Cmd} {r : Req} (hi : commandOf i = some (op, c, r))
    (transfer : op = 0x100A ∨ op = 0x100B) : (op = 0x100A ∧ c = archiveReadCmd) ∨ (op = 0x100B ∧ c = archiveWriteCmd) := by
  cases i <;> cases hi <;> simp at transfer ⊢

/-- A request whose transfer begins: the mailbox stays busy (R824). -/
theorem mailboxRun_transfers {op : Nat} {c : Cmd} {r : Req} (taken : takes op r s = true)
    (good : refusal op c r false (arrive op r s) = none) (run : r.readback = false) (waits : c.waits (arrive op r s) r = true) :
    mailboxRun op c r (putOut [] s) = modMb r.mb.val (fun m => { m with busy := true })
      (modHost (fun h => { h with transfers := h.transfers ++ [⟨op, r⟩] }) (arrive op r s)) := by
  simp only [takes, Bool.and_eq_true, Bool.not_eq_true', decide_eq_true_eq] at taken
  obtain ⟨⟨⟨⟨small, serves⟩, idle⟩, here⟩, free⟩ := taken
  have idle' : (mailbox (putOut [] s) r.mb.val).busy = false := idle
  have box : decide (4 ≤ r.mb.val) = false := by simp; omega
  have arrived : modMb r.mb.val (fun m => { m with req := memWrite m.req 0 (reqBytes op r), respReady := false })
      (putOut [] s) = arrive op r s := rfl
  simp only [mailboxRun, box, serves, idle', arrived, here, free, runLocal, good, run, waits, Bool.not_true, Bool.not_false,
    Bool.or_self, Bool.false_eq_true, if_false, Option.isNone_none, Bool.and_self, if_true]

theorem yields_transfer {s : State} {i : Instr} {op : Nat} {c : Cmd} {r : Req} (hi : commandOf i = some (op, c, r))
    (taken : takes op r s.dev = true) (good : refusal op c r false (arrive op r s.dev) = none) (run : r.readback = false)
    (waits : c.waits (arrive op r s.dev) r = true) : Yields i s fun t =>
      (mailbox t r.mb.val).busy = true ∧ t.host.transfers = s.dev.host.transfers ++ [⟨op, r⟩] ∧ Only [.host] s.dev t := by
  refine yields_act (exec_command i s op c r hi) ?_
  rw [mailboxRun_transfers taken good run waits]
  refine ⟨by simp, by simp, ?_⟩
  have noted : Only [.host] (arrive op r s.dev) (modMb r.mb.val (fun m => { m with busy := true })
      (modHost (fun h => { h with transfers := h.transfers ++ [⟨op, r⟩] }) (arrive op r s.dev))) :=
    only_of_kept fun ρ hρ => by simp at hρ; simp [hρ]
  exact ((only_arrive [] op r s.dev).trans noted).trans (only_drivePins _ _)

theorem waits_of_runs {op : Nat} {c : Cmd} {r : Req} (h : runs op c r s = true) : c.waits (arrive op r s) r = false := by
  simp only [runs, Bool.and_eq_true, Bool.not_eq_true'] at h
  exact h.2

theorem archiveTransfer_held {op : Nat} {c : Cmd} {r : Req} (transfer : (op = 0x100A ∧ c = archiveReadCmd) ∨
    (op = 0x100B ∧ c = archiveWriteCmd)) (erasing : c.waits s r = false) : c.act r s = holdNand op r s := by
  obtain ⟨rfl, rfl⟩ | ⟨rfl, rfl⟩ := transfer
  · exact if_pos (by simpa [archiveReadCmd] using erasing)
  · exact if_pos (by simpa [archiveWriteCmd] using erasing)

theorem defers_archiveTransfer {s : State} {i : Instr} {op : Nat} {c : Cmd} {r : Req} (hi : commandOf i = some (op, c, r))
    (transfer : op = 0x100A ∨ op = 0x100B) :
    Defers i s [.boot] fun t => t.boot = { s.dev.boot with nand := { s.dev.boot.nand with
      held := s.dev.boot.nand.held ++ [⟨op, r⟩] } } := by
  intro op' c' r' hi' hruns
  obtain ⟨rfl, rfl, rfl⟩ : op = op' ∧ c = c' ∧ r = r' := by simpa using hi.symm.trans hi'
  exact defers_modBoot (f := fun b => { b with nand := { b.nand with held := b.nand.held ++ [⟨op, r⟩] } }) hi
    (archiveTransfer_held (archiveTransfer_cases hi transfer) (waits_of_runs hruns)) op c r hi hruns

/-- An entry leaves its area and its blocks are to be erased (R798). -/
def entryDeleted (area id : Nat) (b : BootSt) : BootSt :=
  { b with nand := { b.nand with
      entries := Tab.modify (fun _ => []) b.nand.entries area (fun l => l.filter fun e => e.id ≠ id)
      erasing := b.nand.erasing ++ [(area, id)] } }

theorem archiveDelete_act {r : Req} (area : rd r.params 0 1 = 0 ∨ rd r.params 0 1 = 3) :
    archiveDeleteCmd.act r s = (Resp.okay, modBoot (entryDeleted (rd r.params 0 1) (rd r.params 4 8)) s) := by
  rcases area with area | area <;> simp only [archiveDeleteCmd, does, area] <;> rfl

theorem does_archiveDelete {s : State} {r : Req} (area : rd r.params 0 1 = 0 ∨ rd r.params 0 1 = 3) :
    Does (.archiveDelete r) s [.boot] fun t =>
      (∀ e, e ∈ (Tab.get (fun _ => []) t.boot.nand.entries (rd r.params 0 1) : List NandEntry) → e.id ≠ rd r.params 4 8) ∧
      t.boot.nand.erasing = s.dev.boot.nand.erasing ++ [(rd r.params 0 1, rd r.params 4 8)] ∧
      t.boot.nand.snaps = s.dev.boot.nand.snaps ∧ t.boot.nand.blackBox = s.dev.boot.nand.blackBox := by
  refine does_modBoot rfl (archiveDelete_act area) fun u boot => ?_
  rw [boot]
  refine ⟨fun e listed => ?_, rfl, rfl, rfl⟩
  rw [entryDeleted, Tab.get_modify, if_pos rfl] at listed
  simpa using (List.mem_filter.mp listed).2

/-! ### Diagnostics -/

theorem reads_diagSensors (s : State) (r : Req) : Reads (.diagSensors r) s fun p =>
      slice p 0 2 = leInt 2 (s.dev.elec.temps.getD 0 0) ∧ slice p 16 2 = le 2 (s.dev.elec.supplies.getD 0 0) ∧
      slice p 36 2 = le 2 s.dev.elec.avsTarget := by
  refine reads_of_act rfl rfl ⟨?_, ?_, ?_⟩
  all_goals simp [List.range_succ, slice_skip, slice_head]

end

/-- Settles O51: each command's act, with the fields of its answer or what it leaves of its ring, the fuses and the stores. -/
theorem deviceAndStoreCommands : Obligations.DeviceAndStoreCommands := by
  unfold Obligations.DeviceAndStoreCommands
  refine ⟨?_, ?_, ?_, ?_, ?_, ?_, ?_, ?_, ?_, ?_, ?_, ?_, ?_, ?_, ?_, ?_, ?_, ?_, ?_, ?_, ?_⟩
  · exact reads_deviceInfo
  · exact fun s r off on => does_ringConfig off on
  · exact fun s r enabled => does_ringConfig_enabled enabled
  · exact fun s r => defers_modBoot (f := fun b => { b with otp := { b.otp with burn := some ⟨0x0002, r⟩ } }) rfl rfl
  · exact reads_nvStatus
  · exact fun s r => reads_of_act rfl rfl rfl
  · exact does_nvHeaderWrite
  · exact fun s r idle erased => does_nvFwWrite idle erased
  · exact fun s r worn => defers_nvFwWrite worn
  · exact fun s r => defers_modBoot (f := fun b => { b with activate := some ⟨0x1004, r⟩ }) rfl rfl
  · exact fun s r whole => does_nvFwCommit whole
  · exact fun s r => does_modBoot rfl rfl fun _ boot => boot
  · exact fun s r idle erased => does_nvScriptWrite idle erased
  · exact reads_nandInfo
  · exact answers_archiveList
  · exact fun s i op c r hi _ taken good run waits => yields_transfer hi taken good run waits
  · exact fun s i op c r hi transfer => defers_archiveTransfer hi transfer
  · exact fun s r area => does_archiveDelete area
  · exact fun s r => defers_modBoot (f := fun b => { b with nand := { b.nand with format := some ⟨0x100D, r⟩ } }) rfl rfl
  · exact fun s r => reads_of_act rfl rfl rfl
  · exact reads_diagSensors

end Sys2Proof.Machine
